-- ==== Sys2Proof/Word.lean ====
section
/-! DEFINITION. The words of the block and the plain types everything is built from: the 32-bit register word (R7),
the identifiers of Table 0-5, the access codes of Table 0-4, and what a register and a field of a register are. -/

namespace Sys2Proof

/-- A register word: 32 bits, bit 31 the most significant (R7). -/
abbrev Word := BitVec 32

/-- A byte. -/
abbrev Byte := BitVec 8

/-- A byte string, first byte first. -/
abbrev Bytes := List Byte

/-- A 64b/66b block's 64 payload bits, bit 0 of the wire the most significant (R8, R63). -/
abbrev Blk := BitVec 64

/-- A port P0 to P31 (Table 0-5). -/
abbrev PortId := Fin 32
/-- A lane L0 to L3 of a port. -/
abbrev LaneId := Fin 4
/-- An egress point E0 to E33: 32 ports, the host interface, the internal sinks. -/
abbrev EgressId := Fin 34
/-- A class C0 to C7. -/
abbrev ClassId := Fin 8
/-- A slice S0 to S127. -/
abbrev SliceId := Fin 128
/-- A raster pipe D0 to D7. -/
abbrev PipeId := Fin 8
/-- An event stream V0 to V7. -/
abbrev StreamId := Fin 8
/-- A block window W0 to W15. -/
abbrev WindowId := Fin 16
/-- A tunnel endpoint 0x000 to 0xFFF. -/
abbrev TunnelId := Fin 4096
/-- A descriptor ring. -/
abbrev RingId := Fin 4096
/-- A power domain of Table 16-1. -/
abbrev DomainId := Fin 39
/-- An endpoint context of the peripheral controller. -/
abbrev CtxId := Fin 1024

/-- The access paths by which software reaches registers: PCIe, the management controller, and the management tunnel, from
a manager slot of FAB_RMGR, or, unchecked, for a request of this hub's own management controller (R41, R54, R182, R282). -/
inductive Path where
  | pcie
  | mgmt
  | tunnel (m : Fin 16)
  | own
deriving DecidableEq, Repr

/-- The number of a path, for the shadows of R41. -/
def Path.num : Path → Nat
  | .pcie => 0
  | .mgmt => 1
  | .tunnel _ => 2
  | .own => 2

/-- The number of a path, for the selectors held separately for each manager slot (R282, R362, R441); a request of the management
controller goes by its selectors (log entry 66). -/
def Path.sel : Path → Nat
  | .pcie => 0
  | .mgmt => 1
  | .tunnel m => 2 + m.val
  | .own => 1

/-- What an access of the host or of the management controller names (Table 9-3): a byte of BAR0, which the other paths name too;
over PCIe a byte of BAR2, a register of the configuration space, or the Message Control register of its MSI-X capability, whose
place there the spec does not give (log entry 36). -/
inductive Place where
  | bar0 (a : BitVec 21)
  | bar2 (a : BitVec 20)
  | config (a : BitVec 12)
  | msixControl
deriving DecidableEq, Repr

/-- The access codes of Table 0-4 (R10). -/
inductive Acc where
  | rw | ro | wo | w1c | w1s | rc | rwl
deriving DecidableEq, Repr

/-- A field as the register map lists it: lowest bit, width, access code, and the allowed encodings as inclusive
ranges (an empty list: every encoding is defined; otherwise all others are reserved, R9). -/
structure FieldD where
  lo : Nat
  w : Nat
  acc : Acc
  ok : List (Nat × Nat)
deriving DecidableEq, Repr

/-- A register or an array of registers: base address, two strides with their counts, reset word, fields. -/
structure RegD where
  base : Nat
  s1 : Nat
  n1 : Nat
  s2 : Nat
  n2 : Nat
  reset : Nat
  fields : List FieldD
deriving DecidableEq, Repr

/-- A named field of a register array: base address, the two strides, lowest bit and width. -/
structure Fld where
  base : Nat
  s1 : Nat
  s2 : Nat
  lo : Nat
  w : Nat
deriving DecidableEq, Repr

/-- The address of element `(i, j)` of the array the field stands in. -/
def Fld.addr (f : Fld) (i j : Nat) : Nat := f.base + i * f.s1 + j * f.s2

/-- The bits `lo` to `lo + w - 1` of a word, as a number. -/
def Word.bits (v : Word) (lo w : Nat) : Nat := v.toNat / 2 ^ lo % 2 ^ w

/-- A word with bits `lo` to `lo + w - 1` replaced by the low `w` bits of `x`. -/
def Word.setBits (v : Word) (lo w x : Nat) : Word :=
  BitVec.ofNat 32 (2 ^ (lo + w) * (v.toNat / 2 ^ (lo + w)) + 2 ^ lo * (x % 2 ^ w) + v.toNat % 2 ^ lo)

/-- Signed reading of a `w`-bit two's complement number. -/
def toSigned (w x : Nat) : Int := if x % 2 ^ w < 2 ^ (w - 1) then (x % 2 ^ w : Nat) else (x % 2 ^ w : Nat) - (2 ^ w : Nat)

/-- The `w`-bit two's complement pattern of an integer. -/
def ofSigned (w : Nat) (x : Int) : Nat := (x % (2 ^ w : Nat)).toNat

/-- Bit `i` of a number. -/
def bitOf (x i : Nat) : Bool := x / 2 ^ i % 2 == 1

/-- `x` with bit `i` set. -/
def setBit (x i : Nat) : Nat := if bitOf x i then x else x + 2 ^ i

/-- `x` with bit `i` cleared. -/
def clrBit (x i : Nat) : Nat := if bitOf x i then x - 2 ^ i else x

/-- The number of ones among the lowest `n` bits. -/
def popCount : Nat → Nat → Nat
  | 0, _ => 0
  | n + 1, x => x % 2 + popCount n (x / 2)

/-- The positions of the ones among bits `i` to `i + n - 1`, lowest first. -/
def bitList : Nat → Nat → Nat → List Nat
  | 0, _, _ => []
  | n + 1, i, x => if bitOf x i then i :: bitList n (i + 1) x else bitList n (i + 1) x

/-- Bits `a` to `b` of an `n`-bit wire string held as a number, bit 0 the most significant (R8). -/
def wire (n x a b : Nat) : Nat := x / 2 ^ (n - 1 - b) % 2 ^ (b + 1 - a)

/-- Wire bits `a` to `b` of a block's payload (R8). -/
def Blk.field (k : Blk) (a b : Nat) : Nat := wire 64 k.toNat a b

/-- Fields of given widths laid one after the other, the first the most significant. -/
def pack (l : List (Nat × Nat)) : Nat := l.foldl (fun a f => a * 2 ^ f.1 + f.2 % 2 ^ f.1) 0

/-- A byte string read most significant byte first (R135). -/
def beNat (l : Bytes) : Nat := l.foldl (fun a b => a * 256 + b.toNat) 0

/-- A byte string read least significant byte first. -/
def leNat (l : Bytes) : Nat := l.foldr (fun b a => a * 256 + b.toNat) 0

/-- The low `n` bytes of a number, least significant first. -/
def leBytes : Nat → Nat → Bytes
  | 0, _ => []
  | n + 1, x => BitVec.ofNat 8 x :: leBytes n (x / 256)

/-- The low `n` bytes of a number, most significant first. -/
def beBytes (n x : Nat) : Bytes := (leBytes n x).reverse

/-- Bytes `i` to `i + n - 1` of a string. -/
def sub (l : Bytes) (i n : Nat) : Bytes := (l.drop i).take n

/-- `x / d` rounded up. -/
def ceilDiv (x d : Nat) : Nat := (x + d - 1) / d

/-- A Bool as the number a one-bit field holds. -/
def b2n (b : Bool) : Nat := if b then 1 else 0

end Sys2Proof
end

