-- ==== Sys2Proof/Syntax.lean ====
section
/-! DEFINITION. The commands the block takes: register accesses, events at pins and on the links, arrivals, and the
expiries of timers, each one whole and indivisible step (spec/95_what_each_step_holds.md). -/

namespace Sys2Proof

/-- What a receiver finds on adapting to its lane, and asks of the far transmitter (R74, Table 3-5): pre-cursor and post-cursor
(0 hold, 1 increase, 2 decrease), its state (0 adapting, 1 done, 2 failed), and the values PORT_EQRX shows. -/
structure EqAsk where
  pre : Fin 3 := 0
  post : Fin 3 := 0
  stat : Fin 3 := 0
  eye : BitVec 8 := 0#8
  dfe1 : BitVec 8 := 0#8
  ctle : BitVec 8 := 0#8
deriving DecidableEq, Repr

/-- A TS1, and, in EQ, what this end's receiver of the lane finds and asks for next (R72, R74). -/
structure AskBlk where
  blk : Blk
  ask : EqAsk := {}
deriving DecidableEq, Repr

/-- A link block with the receive lane that carried this copy of it (R65). -/
structure LaneBlk where
  lane : LaneId
  blk : Blk
deriving DecidableEq, Repr

/-- A row taken at a port: its blocks, by ascending sender lane (R68). -/
structure RowAt where
  port : PortId
  row : List Blk
deriving DecidableEq, Repr

/-- Errors found on a receive lane (R67, R69, R91). -/
structure SyncErr where
  /-- Invalid sync headers seen on the lane, or, in LOOPBACK, errored bits that its checker found. -/
  bad : Fin 65
  /-- The lane is out of block lock: with fewer than sixteen by an elastic-buffer overflow or underflow. -/
  lost : Bool
deriving DecidableEq, Repr

/-- The commands of the block: one constructor per row of spec/opcode_table.json. -/
inductive Instr where
  /-- A software write to a register field that has no row of its own takes effect according to the field's access code. (R10) The path, the BAR0 address, the byte enables, the word, and the straps should the write reset the hub. -/
  | registerWrite (p : Path) (x : Place) (be : BitVec 4) (v : Word) (straps : BitVec 8)
  /-- A read of an RC field returns its value and clears what it returned. (R11) The path, what is read and the byte enables. -/
  | rcRead (p : Path) (x : Place) (be : BitVec 4)
  /-- In each tick the admission stage presents up to the ceiling's number of cells to the core, serving ingress points in round-robin order. (R15) -/
  | admitCells
  /-- At the summit a write to the spread fields is applied only while no port is up. (R33) The three spread fields written. -/
  | sscWrite (freq : Fin 4) (depth : Fin 16) (en : Bool)
  /-- In BOOT a non-summit hub detects a signal on an uplink and starts frequency acquisition without transmitting. (R36) -/
  | uplinkSignalDetect (n : PortId)
  /-- The PLL reports frequency lock, the clock tree moves to it, transmission is enabled and the state becomes FLOCK. (R38) -/
  | frequencyLock
  /-- After 100,000 ticks without lock, acquisition restarts and after three failures the other uplink is tried. (R38) -/
  | facqTimeout
  /-- On loss of the lock source the hub switches to the other uplink with phase build-out, or enters HOLD. (R39) -/
  | lockSourceLost
  /-- Every 8,192 ticks the parent sends a TSYNC time block on its fixed transmit lane. (R43) FRAC is the sub-tick of departure. -/
  | tsyncSend (n : PortId) (frac : Fin 64)
  /-- The child sends a DREQ every 8,192 ticks in FLOCK and every 65,536 ticks in TLOCK. (R43) FRAC is the sub-tick of departure. -/
  | dreqSend (n : PortId) (frac : Fin 64)
  /-- The parent takes a DREQ and prepares the DRSP answer. (R43) RES is the residence t3 - t2 of the answer, in 1/64 tick. -/
  | dreqReceive (n : PortId) (k : Blk) (res : BitVec 24)
  /-- The child takes a DRSP and computes the mean link delay. (R44) FRAC is the sub-tick of arrival. -/
  | drspReceive (n : PortId) (k : Blk) (frac : Fin 64)
  /-- The child takes a TEPOCH and records the high bits of ridge time. (R44) -/
  | tepochReceive (n : PortId) (k : Blk)
  /-- The child takes a TSYNC, computes its offset and corrects its tick phase, advancing toward TLOCK. (R45) FRAC is the sub-tick of arrival. -/
  | tsyncReceive (n : PortId) (k : Blk) (frac : Fin 64)
  /-- A read of TIME_NOW_LO returns ridge time bits 31:0 and latches bits 63:32 into the path's shadow. (R41) -/
  | timeNowLoRead (p : Path)
  /-- At the summit with no port up, TIME_SET is written into ridge time in the tick the command is taken. (R42) -/
  | load
  /-- At the summit with no port up, the hub arms a load of TIME_SET at the next sampled SYNC_IN rising edge. (R42) -/
  | palign
  /-- The sampled SYNC_IN rising edge loads TIME_SET into ridge time. (R42) -/
  | palignEdge
  /-- An input edge on a capture unit's source records its tick and sets VALID, or sets OVR if VALID is already set. (R47) -/
  | captureEdge (u : Fin 4)
  /-- A write of CMP_HI installs a compare target, and a target in the past matches in the next tick with LATE set. (R48) The word written to CMP_HI; CMP_LO stands in its register. -/
  | compareTargetWrite (u : Fin 4) (hi : Word)
  /-- Ridge time equals a compare target: MATCHED is set, the output pulse starts and PERIOD is added or the unit disables. (R48) -/
  | compareMatch (u : Fin 4)
  /-- The WIDTH count of a compare output expires and the pulse ends. (R48) -/
  | comparePulseEnd (u : Fin 4)
  /-- A write of EN enables the lanes toward DETECT, or disables them to DISABLED. (R70) -/
  | portLctlEnWrite (n : PortId) (en : Bool)
  /-- A write of RETRAIN takes the link down and restarts full training from DETECT. (R70) -/
  | retrain (n : PortId)
  /-- A write of LBK enters or leaves near-end or far-end loopback. (R90) -/
  | loopbackSelect (n : PortId) (lbk : Fin 4)
  /-- A signal seen on L2 or L3 for 200 ticks in DETECT starts boundary search and an attempt in ALIGN. (R70) -/
  | signalDetect (n : PortId) (m : LaneId)
  /-- A TS1 is taken; with block lock and eight good TS1 the lane becomes the control lane and the port enters CONFIG. (R72) -/
  | ts1Receive (n : PortId) (m : LaneId) (k : AskBlk)
  /-- A TS2 is taken, agreeing the rate in CONFIG, announcing a phase in EQ, or signalling READY in VERIFY. (R72) -/
  | ts2Receive (n : PortId) (m : LaneId) (k : Blk)
  /-- A training state timer expires, failing the attempt and returning the port to DETECT. (R70) BAD is the lanes whose receivers have failed in EQ or VERIFY. -/
  | trainingTimeout (n : PortId) (bad : BitVec 4)
  /-- The 400-tick idle of RATE ends and training groups are sent at the agreed rate. (R70) -/
  | rateRetuneEnd (n : PortId)
  /-- The 176-tick idle after an EQ phase change ends and the turning pairs restart with the fast-exit burst. (R74) -/
  | eqPhaseIdleEnd (n : PortId)
  /-- After rows deskew and 16,384 ticks without an invalid sync header, with READY exchanged, striping starts and the port is ACTIVE. (R70) -/
  | verifyComplete (n : PortId)
  /-- After one second in FAULT the port retries training from DETECT. (R70) -/
  | faultRetry (n : PortId)
  /-- A lane reaches block lock after 64 valid sync headers following a found boundary. (R67) -/
  | blockLockAcquired (n : PortId) (m : LaneId)
  /-- Sixteen invalid sync headers in 64 blocks, or an elastic-buffer fault, lose block lock as a loss event. (R67) -/
  | blockLockLost (n : PortId) (m : LaneId) (x : SyncErr)
  /-- A STRIPE row changes the receive lane set from the next row, or starts recovery if no copy is good. (R68) The copies of the row, by ascending sender lane. -/
  | stripeReceive (n : PortId) (row : List Blk)
  /-- The R117 idle conditions have held for IDLEDLY ticks and the transmit direction enters electrical idle. (R117) -/
  | idleDelayExpiry (n : PortId)
  /-- A receive direction takes an EI row and stops its heartbeat watchdog. (R117) -/
  | eiReceive (x : RowAt)
  /-- A transmitter in idle that has a block to send sends the fast-exit burst and the first link block in the next row. (R78) -/
  | fastExit (n : PortId)
  /-- A receive lane not in block lock 32 ticks after burst detection starts single-lane recovery. (R79) -/
  | fastExitLockTimeout (n : PortId) (m : LaneId)
  /-- The sender takes an LMGT LREC, removes the lane at its next STRIPE row and sends training groups on it. (R80) -/
  | lrecReceive (n : PortId) (k : LaneBlk)
  /-- After 4,096 ticks without an invalid sync header the lane is added back at a STRIPE row. (R80) -/
  | recoveryComplete (n : PortId) (m : LaneId)
  /-- A recovery not complete within 40,000 ticks has failed. (R80) -/
  | recoveryTimeout (n : PortId) (m : LaneId)
  /-- The partner's LRET announcement retires the pair at this end too. (R81) -/
  | lretReceive (n : PortId) (k : LaneBlk)
  /-- A write of PORT_LRETIRE.FORCE retires the named pair. (R81) -/
  | retireForce (n : PortId) (mask : BitVec 4)
  /-- A write of PORT_LRETIRE.CLEAR clears the retirement mask. (R81) -/
  | retireClear (n : PortId)
  /-- A write of PORT_LMODE.REQ different from CUR starts a lane turn by sending three LMGT REQ, or waits while a turn is in flight. (R85) -/
  | turnRequest (n : PortId) (req : Fin 8)
  /-- The responder takes a turn REQ and answers with three ACK or NAK blocks. (R85) -/
  | lmgtReqReceive (n : PortId) (k : LaneBlk)
  /-- The initiator takes an ACK in time and commits to execute the turn at X. (R85) -/
  | lmgtAckReceive (n : PortId) (k : LaneBlk)
  /-- The initiator takes a NAK and ends the turn REFUSED. (R85) -/
  | lmgtNakReceive (n : PortId) (k : LaneBlk)
  /-- No ACK has reached the initiator by X − Dl − 8, and the turn is abandoned. (R85) -/
  | turnAckDeadline (n : PortId)
  /-- At X − Dl the old sender sends a STRIPE row without the turning lane and one row of EI on it. (R86) -/
  | turnOldSenderStart (n : PortId)
  /-- At X − Dl + 8 the old sender switches the turning lane to receive and loads the saved setting. (R86) -/
  | turnOldSenderSwitch (n : PortId)
  /-- At X the new sender removes the lane from deskew as the last EI arrives. (R86) -/
  | turnLaneRemove (n : PortId)
  /-- At X + 8 the new sender parks the lane and starts the 176-tick hold idle. (R86) -/
  | turnPark (n : PortId)
  /-- At X + 184 the new sender starts the fast-exit burst on the turning lane. (R86) -/
  | turnBurst (n : PortId)
  /-- At X + 200 the new sender sends the STRIPE row announcing the new set. (R86) -/
  | turnStripe (n : PortId)
  /-- The old sender not locked 32 ticks after burst detection sends three FAIL blocks and starts recovery. (R86) -/
  | turnLockTimeout (n : PortId) (m : LaneId)
  /-- The new sender takes DONE and the turn ends with status DONE and one shepherd record. (R86) -/
  | lmgtDoneReceive (n : PortId) (k : LaneBlk)
  /-- The new sender takes FAIL and the turn ends failed with the lane recovered. (R86) -/
  | lmgtFailReceive (n : PortId) (k : LaneBlk)
  /-- Neither DONE nor FAIL has arrived by X + 240 + 2 × Dl + 32, and the turn ends FAILED. (R89) -/
  | turnTimeout (n : PortId)
  /-- The parent takes a DREP, sets PORT_TDLY.DLY and VALID. (R84) -/
  | drepReceive (n : PortId) (k : LaneBlk)
  /-- A partner hub with FELBK_ALLOW = 1 takes LBK enter blocks and starts retiming far-end loopback. (R90) -/
  | lbkEnterReceive (n : PortId) (k : LaneBlk)
  /-- The partner's LBK exit returns the port from LOOPBACK to DETECT. (R90) -/
  | lbkExitReceive (n : PortId) (k : LaneBlk)
  /-- 200,000 ticks in LOOPBACK without block lock return the port to DETECT. (R70) -/
  | loopbackTimeout (n : PortId)
  /-- A link header is checked, and a tunnel frame whose SEQ equals NEXT is staged. (R103) -/
  | sofReceive (n : PortId) (k : Blk)
  /-- A staged frame's FCRC and trailer are checked and the frame is accepted, advancing NEXT, or failed. (R103) -/
  | trailerReceive (n : PortId) (k : Blk)
  /-- A trailer not arrived 20,000 ticks after its SOF ends the open frame as failed. (R101) -/
  | openFrameTimeout (n : PortId)
  /-- An ACK releases every retained frame up to ASEQ and restarts the replay timer. (R105) -/
  | ackReceive (n : PortId) (k : Blk)
  /-- A NAK releases frames up to ASEQ and starts a replay from ASEQ + 1. (R109) -/
  | nakReceive (n : PortId) (k : Blk)
  /-- A receiver that gets POLL = 1 answers within 4 ticks with a NAK or an ACK. (R107) -/
  | pollReceive (n : PortId) (k : Blk)
  /-- A credit field in an SOF or LCB adds the count difference to the sender's class or shared credit. (R112) The SOF or LCB that carries it. -/
  | creditField (n : PortId) (k : Blk)
  /-- The replay timer expires and the sender sends an LCB with POLL = 1, a fourth unanswered poll being a lasting fault. (R108) -/
  | replayTimerExpiry (n : PortId)
  /-- Every 2,048 ticks the receiver sends the cumulative count of each of its nine pools. (R114) -/
  | creditRefresh (n : PortId)
  /-- After 200 ticks without an LCB in a non-idle direction, the sender sends one. (R116) -/
  | heartbeatSend (n : PortId)
  /-- 600 ticks without a good SOF, trailer or LCB lose the heartbeat, a lasting fault that takes the link down. (R116) -/
  | heartbeatLoss (n : PortId)
  /-- In DOWN with lanes ACTIVE and staging empty, an LPARAM is sent every 64 ticks. (R118) -/
  | lparamSend (n : PortId)
  /-- An LPARAM with PEPOCH equal to the own EPOCH brings the link UP by resume or fresh start. (R120) The 32 body bytes of the link message. -/
  | lparamReceive (n : PortId) (body : List (BitVec 8))
  /-- 20,000 ticks in INIT write RETRAIN and count a failed attempt. (R119) -/
  | initTimeout (n : PortId)
  /-- The hold time after link down expires and retained frames are flushed. (R120) -/
  | holdExpiry (n : PortId)
  /-- A free egress point drops aged and oversize heads and selects a frame by strict priority or urgency promotion. (R222) ECC: cells in whose read an error is found, and whether it is a double-bit error. -/
  | egressSelect (e : EgressId) (ecc : List (Nat × Bool))
  /-- A tunnel header at the route stage passes the header, hop and route checks and receives its egress. (R129) The ingress point whose oldest unrouted header is looked up. -/
  | routeStage (p : EgressId)
  /-- A write of EN = 1 to a CLOSED entry opens it, or makes a protected entry STARTING. (R147) The entry and word 0 as written. -/
  | tunnelOpen (t : TunnelId) (v : Word)
  /-- A write of EN = 0 to an OPEN or STARTING entry puts it in DRAINING. (R149) The entry and word 0 as written. -/
  | tunnelClose (t : TunnelId) (v : Word)
  /-- A draining entry whose frames have left and retained packets are acknowledged becomes CLOSED. (R149) -/
  | drainEnd (t : TunnelId)
  /-- 1 ms after EN = 0 the entry becomes CLOSED and remaining frames and retained packets are discarded. (R149) -/
  | drainDeadline (t : TunnelId)
  /-- A READ request to endpoint 0x000 is checked and reads COUNT registers from ADDR into a READ response. (R136) -/
  | mgmtReadRequest
  /-- A WRITE request to endpoint 0x000 is checked and writes COUNT registers in ascending order. (R136) STRAPS are the straps should the request reset the hub. -/
  | mgmtWriteRequest (straps : BitVec 8)
  /-- A request with a reserved MOP whose bit 7 is 0 is answered with STATUS 5. (R138) -/
  | mgmtUnsupported
  /-- A manager with no response in 20,000 ticks resends with the same REQID and a new CTR, at most twice. (R457) The request: its REQID, destination, ADDR, the COUNT of a READ or the words of a WRITE, and the key of its tag. -/
  | mgmtResendTimeout (reqid dhub : BitVec 16) (addr : Word) (op : Fin 1025 ⊕ List (BitVec 32)) (key : Option (Fin 2))
  /-- At each 200-tick window boundary the hub sends PHB and PACK lists for its protected entries. (R153) -/
  | protectedWindowEnd
  /-- An egress entry takes a PHB entry, and on START resets RXNEXT and answers at once with STARTACK. (R154) -/
  | phbReceive
  /-- An ingress entry takes a PACK, releases acknowledged packets and acts on STARTACK or NEEDSTART. (R155) -/
  | packReceive
  /-- A protected packet is delivered, held for reordering, or discarded as duplicate or out of window. (R156) -/
  | protectedPacketArrive
  /-- The gap timer expires and RXNEXT skips to the lowest held packet, delivering held packets in order. (R157) -/
  | gapTimerExpiry (t : TunnelId)
  /-- A HELLO is taken, recording the partner and leading to a delegation offer or role resolution. (R171) -/
  | helloReceive
  /-- Without a DLGACK the DLG is repeated every 20,000 ticks, the port going to DLGERR after the fourth send. (R173) -/
  | dlgRepeat (n : PortId)
  /-- The child evaluates a DLG, takes the range on acceptance and answers DLGACK. (R174) -/
  | dlgReceive
  /-- The parent records the accepted range or the refusal result, and the port reads JOINED or DLGERR. (R174) -/
  | dlgackReceive
  /-- Once joined with START set, the hub sets the power enable of each stagger group at its GRPSP offset. (R185) -/
  | staggerGroupStart
  /-- PORTTMO passes after the group tick before the partner has joined, and the port settles FAILED. (R186) -/
  | porttmoExpiry (n : PortId)
  /-- A READY from a partner settles the port READY and updates the subtree counts. (R187) -/
  | readyReceive
  /-- A hub takes SITEREADY on its primary uplink and sets SREADY and SRTIME. (R188) -/
  | sitereadyReceive
  /-- Every 64 ticks the scrubber reads and rewrites one allocated cell of each bank. (R195) ECC lists the cells whose word has an error, and whether it is double. -/
  | kennelScrub (ecc : List (Nat × Bool))
  /-- Once every cell of a faulted row is free, a spare row is mapped in its place, or the row is retired. (R195) -/
  | rowRepair (mem : Fin 13) (arr : Fin 64) (row : BitVec 16)
  /-- Each on-die memory other than the kennel is scrubbed, correcting and repairing under R195. (R458) -/
  | memoryScrub (mem : Fin 13) (row : BitVec 16) (err : Fin 3) (a b : BitVec 32)
  /-- A core handshake stage incomplete for 1,000 ticks raises a fatal error of cause 5. (R459) -/
  | stageStall (stage : BitVec 16)
  /-- A frame whose age exceeds its class lifetime is aged and discarded when selected or swept. (R211) -/
  | lifetimeExpiry
  /-- The sweeper visits the head of each queue and staging list and discards aged heads. (R212) -/
  | sweeperVisit
  /-- A write of CORE_FCCTL.FLUSH empties the flow cache. (R207) -/
  | flowCacheFlush
  /-- A write of a queue minimum claims or releases reservable cells, refused if the total would be exceeded. (R202) The path, the queue and the MIN value written. -/
  | minWrite (p : Path) (q : Fin 272) (v : Fin 262144)
  /-- A write of the retention quota claims or releases reservable cells, refused if the total would be exceeded. (R202) The path and the QUOTA value written. -/
  | quotaWrite (p : Path) (v : Fin 131072)
  /-- The active gate list passes to its next entry and the class gates change. (R228) -/
  | gateEntryChange (e : EgressId)
  /-- A write of COMMIT computes the switchover tick and sets PEND, or sets CERR. (R230) -/
  | gateCommit (e : EgressId)
  /-- A write of ABORT cancels a pending switchover. (R230) -/
  | gateAbort (e : EgressId)
  /-- At tick S the pending bank becomes active and its entry 0 begins. (R230) -/
  | gateSwitchover (e : EgressId)
  /-- A write of EN = 0 opens every gate, ends the active list and cancels any pending switchover. (R230) -/
  | gateDisable (e : EgressId)
  /-- At each refill period every shaper and meter accrues tokens and installs staged values. (R231) -/
  | shaperRefill
  /-- A write to a shaper entry is staged with PEND set until the next refill. (R232) Q: a queue shaper, else a tunnel shaper; its number, the word of the entry and what is written. -/
  | shaperWrite (q : Bool) (x : Fin 4096) (w : Fin 2) (v : Word)
  /-- A write to a meter entry is staged until the next refill. (R237) -/
  | meterWrite (m : Fin 4096) (w : Fin 3) (v : Word)
  /-- At each window end the shepherd computes utilisation and evaluates the turn triggers. (R240) -/
  | shepherdWindowEnd (n : PortId)
  /-- A change of port allotments starts the shepherd's lowering renegotiations. (R243) -/
  | allotmentWrite (p : Path) (n : PortId) (v : Word)
  /-- Once every lowering has ended, the shepherd starts each raise that the budget covers. (R243) -/
  | raiseStart
  /-- A write of PWR_BUDGET or PWR_SHAREs is checked against the allotments and refused into PWR_ERR if broken. (R381) SHARE: the slice whose PWR_SHARE is written, else PWR_BUDGET. -/
  | budgetWrite (p : Path) (share : Option (Fin 128)) (v : Word)
  /-- A write to HIF_DB replaces the PIDX of a RUN ring of the page's slice, or is ignored. (R258) The slice whose page is written, the byte enables and the word. -/
  | doorbell (sl : SliceId) (be : BitVec 4) (v : Word)
  /-- A write to HIF_MDB acts as a doorbell from any path, limited to the slot's slice. (R259) -/
  | mgmtDoorbell (p : Path) (be : BitVec 4) (v : Word)
  /-- A write to HIF_ARM arms the ring and sends the vector at once if an IRQ completion lies beyond CIDX. (R276) The slice whose page is written, the byte enables and the word. -/
  | arm (sl : SliceId) (be : BitVec 4) (v : Word)
  /-- A write to HIF_MARM acts as HIF_ARM from any path. (R259) -/
  | mgmtArm (p : Path) (be : BitVec 4) (v : Word)
  /-- The hub reads descriptors between the last slot fetched and PIDX in batches. (R260) -/
  | descriptorFetchIssue (r : RingId)
  /-- Fetched descriptors arrive and are checked before their data fetch. (R260) The words read, eight to a descriptor. -/
  | descriptorArrival (r : RingId) (ws : List Word)
  /-- A data fetch starts within the run-ahead depth while the class's host staging has room. (R261) -/
  | dataFetchIssue (r : RingId)
  /-- Fetched data collects in host staging and a complete frame is offered for admission in slot order. (R261) -/
  | dataArrival (r : RingId) (bytes : List (BitVec 8))
  /-- A host read ends in error and is retried after 200 ticks, lasting on the third failure. (R273) DESC: of a descriptor read, else of a data fetch. -/
  | hostReadFailure (r : RingId) (desc : Bool)
  /-- 200 ticks after a failed read the hub issues the read again. (R273) -/
  | readRetry (r : RingId)
  /-- MTMO × 200 ticks after the first pending completion, an armed ring sends its vector. (R275) -/
  | moderationTimeout (r : RingId)
  /-- A write of EN = 1 to an IDLE ring starts it in RUN, armed, or is refused with ERRCODE 3. (R283) The path and the word written to HIF_RCTX0. -/
  | ringEnable (p : Path) (v : Word)
  /-- A write of EN = 0 to a ring in RUN or ERROR starts the ring reset steps. (R278) The path and the word written to HIF_RCTX0. -/
  | ringReset (p : Path) (v : Word)
  /-- Descriptors still unfinished 20,000 ticks after the reset start complete SQUASHED. (R278) -/
  | ringResetDeadline (r : RingId)
  /-- Once started descriptors have completed, the ring becomes IDLE with PIDX and DONE 0. (R278) -/
  | ringResetEnd (r : RingId)
  /-- PERST_N resets every local ring and clears CFGRDY. (R249) -/
  | perstNAssert
  /-- The PCIe link trains from the release of PERST_N without firmware. (R248) The width and the rate code that the link negotiates. -/
  | perstNRelease (width : Fin 16) (speed : Fin 8)
  /-- A Function Level Reset resets every ring with REMOTE = 0. (R249) -/
  | functionLevelReset
  /-- Setting CFGRDY fixes the BAR sizes and lets configuration requests be answered. (R248) -/
  | cfgrdySet
  /-- Every POLL ticks the hub reads the remote producer-index word and takes it as a doorbell. (R277) -/
  | remotePoll (r : RingId)
  /-- A block transfer completes once its last WR has committed or its last byte is written locally. (R269) -/
  | blkTransferComplete (r : RingId)
  /-- A write to SLC_BINDs binds or unbinds a slice to a PASID, or is refused into SLC_ERR. (R285) -/
  | sliceBindWrite (p : Path) (sl : SliceId) (v : Word)
  /-- An S0 write to an owner array assigns resources to slices, refused where the condition fails. (R287) -/
  | ownerWrite (p : Path) (arr : Fin 6) (w : Fin 68) (v : Word)
  /-- A write of GO to SLC_RSTs starts a drain or squash reset of the slice. (R289) -/
  | sliceReset (p : Path) (sl : SliceId) (v : Word)
  /-- At 20,000 ticks a drain reset squashes what remains and sets FORCED. (R290) -/
  | sliceResetDrainDeadline (sl : SliceId)
  /-- The reset completes, STATE returns to BOUND, DONE and DUR are set and one record is written. (R292) -/
  | sliceResetComplete (sl : SliceId)
  /-- A write of EN = 1 to an IDLE window enables it, or is refused with ERRCODE. (R297) -/
  | windowEnable (p : Path) (w : WindowId) (v : Word)
  /-- A write of EN = 0 puts a window in CLOSING. (R309) -/
  | windowClose (p : Path) (w : WindowId) (v : Word)
  /-- When the final sync read releases the hold and reads end, the closing window becomes IDLE. (R309) -/
  | windowCloseEnd (w : WindowId)
  /-- A BAR4 write becomes one WR per remote page and is kept in the write hold. (R300) The offset in BAR4 and the bytes. -/
  | bar4Write (a : Nat) (bytes : List (BitVec 8))
  /-- A BAR4 read becomes one RD per remote page, or completes Unsupported Request if unmapped. (R300) A number that the completion carries, the offset in BAR4, the length. -/
  | bar4Read (id a : Nat) (len : Fin 4097)
  /-- An RD waiting for a free read tag is sent when a tag frees. (R301) -/
  | rdSend (w : WindowId)
  /-- A CPLD or CPL arrives, frees its tag, completes its read and releases earlier held WRs. (R302) -/
  | blockCompletionReceive
  /-- A window holding enough or old enough writes sends a 1-byte sync read of its newest held WR. (R303) -/
  | syncRead (w : WindowId)
  /-- The completer checks an arriving WR or RD and accepts it, discards it, answers UNMAPPED, or refuses it with BUSY. (R304) -/
  | inboundRequest
  /-- An accepted request is issued to the local PCIe bus in order when the path allows. (R304) -/
  | inboundPcieIssue (w : WindowId)
  /-- A local PCIe read completes and is answered with CPLD or an error CPL. (R304) ST: 0 with data, 1 Unsupported Request or Completer Abort, 2 poisoned. -/
  | inboundPcieCompletion (w : WindowId) (st : Fin 3) (bytes : List (BitVec 8))
  /-- A BUSY opens or extends a backoff episode, stopping the window's requests. (R306) -/
  | busyReceive
  /-- The backoff ends and the refused request and every later one are resent in order. (R306) -/
  | backoffExpiry (w : WindowId)
  /-- The quiet time after a resend passes without a BUSY and the episode ends. (R306) -/
  | episodeQuietEnd (w : WindowId)
  /-- An RD without completion after RDTMO × 1,000 ticks times out and completes as R307 states. (R307) -/
  | readTimeout (w : WindowId)
  /-- A timed-out tag with no late completion is freed after a further RDTMO × 1,000 ticks. (R307) -/
  | lateTagFree
  /-- PINT ticks after the previous answer the hub sends a 4-byte poll RD. (R310) -/
  | pollSend (w : WindowId)
  /-- A write of RAS_CTL.EN = 1 claims the pixel buffer and starts the pipe, or is refused with ERRCODE. (R313) -/
  | pipeEnable (p : Path) (d : PipeId) (v : Word)
  /-- A write of EN = 0 stops the pipe at once and releases its buffer. (R336) -/
  | pipeDisable (p : Path) (d : PipeId) (v : Word)
  /-- A pipe starts a frame by its lock source and advances the frame count. (R319) -/
  | frameStart (d : PipeId)
  /-- At each line's release tick the composed segments are offered for admission. (R318) -/
  | lineRelease (d : PipeId)
  /-- At the latch tick the pipe takes flips and latched fields for the next frame and starts its fetch. (R328) -/
  | latchTick (d : PipeId)
  /-- A SYNC_IN rising edge after the latch tick starts a frame SYNCDLY later, or is ignored. (R320) -/
  | syncInEdge
  /-- No edge by F + 1.25 × FPER starts the frame at F + FPER and sets SYNCLOST. (R320) -/
  | synclostDeadline (d : PipeId)
  /-- A tearing-effect signal after the latch tick allows the next gated frame to start. (R323) -/
  | teArrival (d : PipeId)
  /-- No counted TE by N + TETMO × 100 starts the frame and sets TEMISS. (R323) -/
  | teTimeout (d : PipeId)
  /-- A panel bridge event segment is taken and acted on by its code. (R327) -/
  | backChannelEvent
  /-- A layer line is requested when the layer's share has room for it. (R330) -/
  | layerLineFetch (d : PipeId) (l : Fin 4)
  /-- Layer pixel data arrives in the pipe's buffer, or its read error causes an underrun. (R330) OK: the bytes, else the read ended in error. -/
  | layerDataArrival (d : PipeId) (l : Fin 4) (ok : Bool) (bytes : List (BitVec 8))
  /-- FPW ticks after the frame start the SYNC_OUT pulse ends. (R322) -/
  | framePulseEnd (d : PipeId)
  /-- The hub sends an LTR message when the tolerance falls, rises by 9/8 after 1 ms, or demand ends. (R335) -/
  | ltrSend
  /-- At each microframe boundary the controller sends SOFs and serves the ports' transactions in order. (R341) -/
  | microframeStart
  /-- A write of EN = 1 to an endpoint context enables it, or is refused with ERR. (R345) -/
  | endpointEnable (p : Path) (v : Word)
  /-- A write of CLRHALT returns a HALTED context to ACTIVE. (R356) -/
  | clrhalt (p : Path) (v : Word)
  /-- A transfer message is taken in sequence, discarded as duplicate or out of window, or left for resend. (R348) -/
  | transferMessageReceive
  /-- ACKDLY ticks after taking a message the receiver sends an ACK. (R349) -/
  | ackDelayExpiry (t : TunnelId)
  /-- The resend timer expires and every unacknowledged message is resent in SEQ order. (R349) -/
  | resendTimerExpiry (t : TunnelId)
  /-- A bus transaction ends, advancing the transfer or retrying, halting or completing it. (R356) RES: 0 good, 1 NAK, 2 STALL, 3 timeout or error; DATA what an IN brought. -/
  | transactionEnd (x : CtxId) (res : Fin 4) (data : List (BitVec 8))
  /-- A write of PEN powers a root port into its state machine or releases it to OFF. (R357) -/
  | penWrite (p : Path) (n : PortId) (v : Word)
  /-- Attachment seen for 100 ms makes the port ATTACHED with a CONNECT event. (R357) -/
  | attachSeen (n : PortId)
  /-- Detachment ends the port's transfers with DISCONNECT and marks contexts for re-addressing. (R357) -/
  | detachSeen (n : PortId)
  /-- A write of RESET starts a bus reset that completes every transfer BUS_RESET. (R359) -/
  | busReset (p : Path) (n : PortId) (v : Word)
  /-- The reset drive ends, the port is ENABLED and RESETDONE is sent. (R357) SPEED: what the handshake found. -/
  | rstdurEnd (n : PortId) (speed : Fin 3)
  /-- A write of SUSPEND suspends an ENABLED port and stops its SOF. (R357) -/
  | usbSuspend (p : Path) (n : PortId) (v : Word)
  /-- A write of RESUME drives K for RSMDRV, or marks a meeting remote wake as coincident. (R358) -/
  | usbResume (p : Path) (n : PortId) (v : Word)
  /-- K from a device on a suspended port starts a device resume. (R358) -/
  | remoteWake (n : PortId)
  /-- The resume drive ends, SOF restarts and RESUMED is sent. (R357) -/
  | rsmdrvEnd (n : PortId)
  /-- Babble disables the port and completes its transfers BABBLE. (R357) -/
  | babble (n : PortId)
  /-- A seating pin sampled closed for 2 ms counts as closed. (R366) PIN: 0 Pn_SEATA, 1 Pn_SEATB. -/
  | seatingClosed (n : PortId) (pin : Fin 2)
  /-- A seating pin sampled open counts as open at once, turning an energised port off. (R366) PIN: 0 Pn_SEATA, 1 Pn_SEATB. -/
  | seatingOpen (n : PortId) (pin : Fin 2)
  /-- The insertion delay ends and the port energises once the cool-down and permissions allow. (R368) -/
  | insertionDelayEnd (n : PortId)
  /-- A write of PORT_PPCTL.EN starts, stops or toggles the latch of the power path. (R369) -/
  | powerPathEnable (p : Path) (n : PortId) (v : Word)
  /-- VOS at 11.4 V or more drives the gate to full enhancement and the port enters SAFE. (R369) -/
  | rampComplete (n : PortId)
  /-- VOS below 11.4 V after twice the nominal ramp plus 2 ms trips the port with cause OUTV. (R370) -/
  | rampTimeout (n : PortId)
  /-- The hard-short comparator fires, discharging the gate and latching the port under the fuse. (R371) -/
  | hardShortTrip (n : PortId)
  /-- Every 1 µs current sample updates the SOA integrator, I–t counts and window checks. (R372) RAW: the shunt voltage in µV, signed; in mV, what was sampled of VOS, VCV and Pn_CSUP. -/
  | currentSample (n : PortId) (raw : BitVec 16) (vos vcv csup : Option (BitVec 16))
  /-- The input bus reaching OVTH turns every energised port off by the fast path. (R374) -/
  | busOverVoltage (mv : BitVec 16)
  /-- The input bus below UVTH for UVFILT µs turns every energised port off. (R374) -/
  | busUnderVoltage (mv : BitVec 16)
  /-- The bus in range for 10 ms makes the input condition true. (R374) -/
  | busInRange (mv : BitVec 16)
  /-- The cool-down after a latch toggle ends, allowing energising. (R377) -/
  | coolDownEnd (n : PortId)
  /-- A write of PORT_PPCAL.GO claims the analog set and starts a calibration. (R378) -/
  | calibrationStart (p : Path) (n : PortId) (v : Word)
  /-- A calibration ends, releasing the set and setting FAIL if its limits are broken. (R378) FAIL: a limit of R378 is broken. -/
  | calibrationEnd (n : PortId) (fail : Bool)
  /-- Each 1 ms window updates PORT_PPPWR and PWR_TOTAL. (R380) -/
  | powerWindowEnd
  /-- A read of PORT_PPE_LO latches bits 63:32 into the path's shadow. (R380) -/
  | energyRead (p : Path) (n : PortId)
  /-- The idle line inside the attached window for 1 ms sets PD or SRC. (R388) -/
  | attachDetect (n : PortId)
  /-- The line outside the window for 20 µs of idle, or busy for 1 ms, loses attachment. (R388) -/
  | attachLoss (n : PortId)
  /-- After the required idle a port starts sending a queued configuration-channel message. (R390) COL: a mismatch in the preamble. -/
  | messageSendStart (n : PortId) (col : Bool)
  /-- An acknowledgement of the sent MSGID ends the timer and advances the exchange. (R394) -/
  | acknowledgementReceive (n : PortId) (hdr : BitVec 16)
  /-- The acknowledgement timer expires and the message is resent, a third failure starting a hard reset. (R395) -/
  | acknowledgementTimeout (n : PortId)
  /-- A sink takes an Offer and answers a Request or Reject from its policy table. (R398) -/
  | offerReceive (n : PortId) (hdr : BitVec 16) (objs : List Word)
  /-- A source takes a Request, claims the analog set and answers Accept or Reject. (R399) -/
  | requestReceive (n : PortId) (hdr : BitVec 16) (objs : List Word)
  /-- A sink takes an Accept, reduces its draw if needed and enters TRANS. (R401) -/
  | acceptReceive (n : PortId) (hdr : BitVec 16) (objs : List Word)
  /-- A Reject keeps the present contract and counts REJECT. (R400) -/
  | rejectReceive (n : PortId) (hdr : BitVec 16) (objs : List Word)
  /-- A Ready ends a transition or a cable-supply swap. (R401) -/
  | ccReadyReceive (n : PortId) (hdr : BitVec 16) (objs : List Word)
  /-- A Status message is stored in PORT_CCRX and produces one power record. (R393) -/
  | statusReceive (n : PortId) (hdr : BitVec 16) (objs : List Word)
  /-- An Alert message is stored in PORT_CCRX and produces one power record. (R393) -/
  | alertReceive (n : PortId) (hdr : BitVec 16) (objs : List Word)
  /-- A CableSupplySwap is answered Accept or Reject reason 5. (R412) -/
  | cableSupplySwapReceive (n : PortId) (hdr : BitVec 16) (objs : List Word)
  /-- A taken HardReset ends exchanges, clears the contract and starts the return to the safe supply. (R413) -/
  | hardresetReceive (n : PortId) (hdr : BitVec 16) (objs : List Word)
  /-- After OFFINT with no contract the source sends its Offer again. (R400) -/
  | offintExpiry (n : PortId)
  /-- No Request within REQTMO of the Offer's acknowledgement starts a hard reset. (R402) -/
  | reqtmoExpiry (n : PortId)
  /-- No Accept or Reject within RESPTMO starts a hard reset at the sink. (R402) -/
  | resptmoExpiry (n : PortId)
  /-- No Ready within READYTMO starts a hard reset at the sink. (R402) -/
  | readytmoExpiry (n : PortId)
  /-- After HRREC the source sends an Offer and the sink waits for one. (R413) -/
  | hrrecEnd (n : PortId)
  /-- No swap Ready by SWAPTMO starts a hard reset. (R412) -/
  | swaptmoExpiry (n : PortId)
  /-- The new supplier applies the cable supply once CSUP has been low 2,000 ticks and A + 20,000 has passed. (R412) -/
  | swapApply (n : PortId)
  /-- The new supplier sends Ready with SUBJ = 1 once CSUP reaches 4.75 V. (R412) -/
  | swapReady (n : PortId)
  /-- CSUP still above 0.8 V at A + 200,000 starts a hard reset. (R412) -/
  | swapCsupTimeout (n : PortId)
  /-- A write of PTV starts or stops the port's policy. (R396) -/
  | ptvWrite (p : Path) (n : PortId) (v : Word)
  /-- A write of RENEG makes a SOURCE send an Offer. (R400) -/
  | reneg (p : Path) (n : PortId) (v : Word)
  /-- A write of PORT_CCCMD.STATUS sends a Status message. (R393) -/
  | cccmdStatus (p : Path) (n : PortId) (v : Word)
  /-- A write of PORT_CCCMD.ALERT sends an Alert with ACODE. (R393) -/
  | cccmdAlert (p : Path) (n : PortId) (v : Word)
  /-- A write of PORT_CCCMD.SWAP sends CableSupplySwap. (R412) -/
  | cccmdSwap (p : Path) (n : PortId) (v : Word)
  /-- A write of PORT_CCCMD.HARDRESET starts a hard reset. (R413) -/
  | cccmdHardreset (p : Path) (n : PortId) (v : Word)
  /-- A write of PORT_CCCTL.ROLE takes effect only while the power path is OFF with no contract. (R387) -/
  | roleWrite (p : Path) (n : PortId) (v : Word)
  /-- Every 200 ticks the VSET code moves one step toward the target. (R405) -/
  | transitionStep (n : PortId)
  /-- VOS within ±3 % for 4,000 ticks ends the transition, releases the set and sends Ready. (R406) -/
  | transitionEnd (n : PortId)
  /-- VOS not settled 200,000 ticks after VSET reaches its target trips the port with OUTV. (R406) -/
  | transitionSettleTimeout (n : PortId)
  /-- With SRC set and VOS at or above 10.8 V for 1 ms the sink gate is ramped on. (R408) -/
  | sinkFetOn (n : PortId)
  /-- VOS below 8 V for 1 ms turns the sink gate off. (R408) -/
  | sinkFetOff (n : PortId)
  /-- The source applies the cable supply after entering SAFE, or after PD with CSAPPLY set. (R411) -/
  | cableSupplyApply (n : PortId)
  /-- CSUP below 4.5 V for 1 ms removes the supply and sends Alert code 4. (R411) -/
  | cableSupplyFault (n : PortId)
  /-- The processor enters the wait and, with ARM set, every selected domain starts entry to its DROP level. (R423) -/
  | waitInstruction
  /-- A wake source withdraws or completes a domain's entry and starts its exit. (R428) -/
  | domainWake (d : DomainId)
  /-- A domain whose vote vector stayed empty for DLY ticks starts entry to DROP. (R426) -/
  | voteDlyExpiry (d : DomainId)
  /-- An entry step ends at its abort point and the next step starts. (R427) -/
  | entryStepEnd (d : DomainId)
  /-- A write to PWR_EVOTE sets or clears explicit votes of the selected domain. (R425) -/
  | evoteWrite (p : Path) (w : Fin 5) (v : Word)
  /-- MGRHOLD × 1,000 ticks after a manager request, its implicit vote ends. (R425) -/
  | managerVoteHoldEnd (m : Fin 16)
  /-- A memory in SRAM DOZE returns to retention after 64 ticks without access. (R419) -/
  | sramRetentionReturn
  /-- A write of STBY drives every domain to OFF in order and deasserts REG_EN, or is refused. (R431) -/
  | standbyEntry (p : Path) (v : Word)
  /-- A Standby drain step ends 20,000 ticks after it starts whatever remains. (R432) -/
  | standbyDrainDeadline
  /-- A watched input changes in Standby, is recorded in PWR_WAKE and REG_EN is reasserted. (R433) -/
  | standbyWake (cause : Fin 5) (n : PortId) (straps : BitVec 8)
  /-- A write of PWR_VREQ that changes the level in force starts a sequenced VCORE change. (R435) -/
  | vreqWrite (p : Path) (v : Word)
  /-- A write of PWR_PMBCFG.EN = 1 starts a held level change. (R436) -/
  | pmbcfgEnWrite (p : Path) (v : Word)
  /-- The VOUT_COMMAND write ends and polling of STATUS_WORD begins. (R437) -/
  | voutCommandDone (ok : Bool)
  /-- A STATUS_WORD read returns and power good is taken when bits 11 and 15 are clear. (R437) -/
  | statusWordRead (ok : Bool) (w : BitVec 16)
  /-- SETTLE µs after power good the change completes and the ceiling and clock follow. (R437) -/
  | settleEnd
  /-- Power good not taken within PGTMO ends the change NOPG. (R439) -/
  | pgtmoExpiry
  /-- FLUSHTMO after the first record the filling bank closes. (R449) -/
  | flushTimeout (v : StreamId)
  /-- A write of EVS_CFGv.FLUSH closes the filling bank. (R449) The word written to EVS_CTL. -/
  | streamFlush (p : Path) (v : StreamId) (w : Word)
  /-- A write of EVS_CFGv.EN starts draining with a MARK, or stops draining after flushing. (R452) The word written to EVS_CFG. -/
  | streamEnable (p : Path) (v : StreamId) (w : Word)
  /-- A word of the draining bank is written to the ring buffer, returning its records' credits. (R449) -/
  | drainWordWritten (v : StreamId)
  /-- At each telemetry period every enabled port producer writes its selected telemetry records. (R453) -/
  | telemetry
  /-- A write to EVS_PRODp changes stream, grant or enable, or is refused into EVS_ERR. (R448) -/
  | producerWrite (p : Path) (pr : Fin 162) (w : Word)
  /-- A write of GLB_CAIRNSTAT.DECLARE raises a fatal error of cause 4. (R459) -/
  | cairnDeclare (p : Path) (v : Word)
  /-- A write of DONE after the cairn is written performs a watchdog reset. (R460) SECS is the data of each section type that firmware writes; STRAPS the straps at the reset that follows. -/
  | cairnDone (p : Path) (v : Word) (secs : List (Nat × List (BitVec 8))) (straps : BitVec 8)
  /-- TMO after a fatal error without DONE sets TIMEDOUT and resets the hub. (R460) -/
  | cairnTimeout (straps : BitVec 8)
  /-- VAON crossing its rising threshold releases power-on reset, clearing everything and starting boot. (R490) -/
  | powerOnReset (straps : BitVec 8)
  /-- RESET_N held low for 200 ticks performs a chip reset that clears everything. (R464) -/
  | pinReset (straps : BitVec 8)
  /-- GLB_WDT expires and a watchdog reset clears everything outside the kept set. (R464) -/
  | watchdogExpiry (straps : BitVec 8)
  /-- A write of GLB_WDT.KICK restarts the watchdog count. (R464) -/
  | watchdogKick (p : Path) (v : Word)
  /-- A write of GLB_WDT.CHIPRST performs a watchdog reset at once. (R464) -/
  | chiprst (p : Path) (v : Word) (straps : BitVec 8)
  /-- The OTP read ends and trims are loaded into their blocks, blocks with failed trims staying disabled. (R13) BAD names the trims that failed their check: row of Table 1-1 from 0, instance. -/
  | otpLoadComplete (bad : List (Nat × Nat))
  /-- A rail in range for 20,000 ticks lets the next REG_EN output be asserted. (R468) -/
  | railInRange (r : Fin 4)
  /-- A rail not in range within 10 ms deasserts every REG_EN. (R468) -/
  | railTimeout
  /-- One second after a rail failure the rail sequence is tried again. (R468) -/
  | railRetry
  /-- The ROM verifies the boot slots and starts the first acceptable one at ENTRY. (R471) A and B are the contents of the flash slots. -/
  | bootSlotVerify (a b : List (BitVec 8))
  /-- With no acceptable slot and boot source 0b00 the ROM retries the flash every second. (R471) -/
  | flashRetry
  /-- A write of GLB_LOADDATA stores the next word of a host-loaded image. (R472) -/
  | hostLoadData (p : Path) (v : Word)
  /-- A write of GLB_LOADCTL.GO checks the loaded image and starts it or sets ERR. (R472) -/
  | hostLoadGo (p : Path) (v : Word)
  /-- Boot firmware verifies the configuration image and applies its BOOT sections in order. (R473) IMG is the content of the flash at the image's place. -/
  | configImageApply (img : List (BitVec 8)) (straps : BitVec 8)
  /-- A hub that has joined applies the JOIN sections naming its hub ID. (R474) -/
  | joinSectionApply (straps : BitVec 8)
  /-- A WAIT record's pause ends and the section continues. (R475) -/
  | configWaitEnd (straps : BitVec 8)
  /-- A POLL record's condition is met, or its timeout stops the section with CFGERR. (R475) -/
  | configPoll (straps : BitVec 8)
  /-- A GLB_OTPCMD write with OP PROG and KEY 0x5A programs an OTP item, or is refused. (R477) -/
  | otpProgram (p : Path) (v : Word)
  /-- A GLB_OTPCMD write with OP READ reads a BOOTKEY slot into OTPDATA. (R477) -/
  | otpRead (p : Path) (v : Word)
  /-- Programming of an OTP item ends within 10 ms. (R477) -/
  | otpProgramEnd
  /-- A write of GLB_LOCK = 1 freezes every RWL field and refuses OTP programming until a chip reset. (R483) -/
  | glbLockSet (p : Path)
  /-- A host write to MGMT_H2M raises the management controller's mailbox interrupt. (R485) -/
  | mgmtH2mWrite (p : Path) (v : Word)
  /-- A management controller write to MGMT_M2H sends vector VEC if enabled. (R485) -/
  | mgmtM2hWrite (p : Path) (v : Word)
  /-- A body data block of an open link frame, or a control block of no known type, arrives; its bytes enter staging cell by cell, or a framing error is counted. (R95) CTL: a control block of no known type, else a body data block. -/
  | dataBlockReceive (n : PortId) (ctl : Bool) (k : Blk)
  /-- VAON falls below its falling threshold: power-on reset is asserted, the gate pull-downs turn every FET off and the hub enters Off. (R490) -/
  | vaonLoss
  /-- A waking power domain completes its exit and returns to RUN, letting the domains that wait on it start their own exits. (R420) -/
  | domainExitEnd (d : DomainId)
  /-- The host writes D3hot or D0 to the function, or requests an exit from ASPM L1, changing what the HIF domain may enter or waking it. (R430) -/
  | pciePowerStateChange (k : Fin 3)
  /-- A configuration-channel frame arrives that fails its CRC, or is malformed under R393, and is discarded and counted. (R391) -/
  | ccBadFrame (n : PortId) (hdr : BitVec 16) (objs : List Word) (crcOk : Bool)
deriving DecidableEq, Repr

end Sys2Proof
end

