-- ==== Sys2Proof/Config.lean ====
section
/-! DEFINITION. What the spec leaves open, as constants with no body (free values), and the few fixed numbers of the
hub. Nothing can be proved about the value of a constant declared opaque here. -/

namespace Sys2Proof.Config

/-- A fresh value each time it is drawn: applied to the counter `Hub.draws`, which every draw advances (log entry 5).
Stands for values the spec leaves to the hub, such as an EPOCH drawn at a port reset (R118). -/
opaque freeValue : Nat → Nat

/-- Which way the hub rounds where a formula of the spec leaves a fraction and says nothing of it: half an odd number of 1/64 ticks
(R44), a current, a mean power and the decay of the SOA integrator (R372, R379, R380; log entry 6). -/
opaque roundUp : Int → Bool

/-- What a read of a kennel cell finds at a tick, for an egress point that sends a frame on while its cells come in: no error, or a
bit error and whether it is double (R194, log entry 73). -/
opaque cellError : Nat → Nat → Nat → Option Bool

/-- Words of the PCIe configuration space that the spec leaves to the base specification, by address; 4096 stands for the identifier
and link of the MSI-X capability (R247, log entry 36). -/
opaque cfgSpace : Nat → Nat

end Sys2Proof.Config
end

