-- ==== Sys2Proof/Machine/RegMap.lean ====
section
/-! DEFINITION. The register map: every register of the chapters' register tables, with its address, its array
shape, its reset value and its fields (access code, allowed encodings). Written from the tables of spec/01 to
spec/19 (R480, R481); the addresses of Register Index. Banked contexts (HIF_RCTX per ring, PERI_ECTX per context,
PWR_DCFG and its neighbours per domain, the selectors per access path) stand at internal addresses above BAR0. -/

namespace Sys2Proof.Machine

/-! ### Block Glb -/

/-- GLB_ID.PART (Table 19-15). -/
def F.GLB_ID_PART : Fld := ⟨0x0, 0x0, 0x0, 16, 16⟩
/-- GLB_ID.REV (Table 19-15). -/
def F.GLB_ID_REV : Fld := ⟨0x0, 0x0, 0x0, 8, 8⟩
/-- GLB_ID (Table 19-15). -/
def R.GLB_ID : RegD :=
  { base := 0x0, s1 := 0x0, n1 := 1, s2 := 0x0, n2 := 1, reset := 0x3296B000,
    fields := [⟨16, 16, .ro, []⟩, ⟨8, 8, .ro, []⟩] }
/-- GLB_CAPS.PORTS (Table 19-16). -/
def F.GLB_CAPS_PORTS : Fld := ⟨0x4, 0x0, 0x0, 24, 8⟩
/-- GLB_CAPS.PIPES (Table 19-16). -/
def F.GLB_CAPS_PIPES : Fld := ⟨0x4, 0x0, 0x0, 20, 4⟩
/-- GLB_CAPS.STREAMS (Table 19-16). -/
def F.GLB_CAPS_STREAMS : Fld := ⟨0x4, 0x0, 0x0, 16, 4⟩
/-- GLB_CAPS.SLICES (Table 19-16). -/
def F.GLB_CAPS_SLICES : Fld := ⟨0x4, 0x0, 0x0, 8, 8⟩
/-- GLB_CAPS.WINDOWS (Table 19-16). -/
def F.GLB_CAPS_WINDOWS : Fld := ⟨0x4, 0x0, 0x0, 0, 8⟩
/-- GLB_CAPS (Table 19-16). -/
def R.GLB_CAPS : RegD :=
  { base := 0x4, s1 := 0x0, n1 := 1, s2 := 0x0, n2 := 1, reset := 0x20080810,
    fields := [⟨24, 8, .ro, []⟩, ⟨20, 4, .ro, []⟩, ⟨16, 4, .ro, []⟩, ⟨8, 8, .ro, []⟩, ⟨0, 8, .ro, []⟩] }
/-- GLB_DIEID_LO.DIEID (Table 19-17). -/
def F.GLB_DIEID_LO_DIEID : Fld := ⟨0x8, 0x0, 0x0, 0, 32⟩
/-- GLB_DIEID_LO (Table 19-17). -/
def R.GLB_DIEID_LO : RegD :=
  { base := 0x8, s1 := 0x0, n1 := 1, s2 := 0x0, n2 := 1, reset := 0x0,
    fields := [⟨0, 32, .ro, []⟩] }
/-- GLB_DIEID_HI.DIEID (Table 19-17). -/
def F.GLB_DIEID_HI_DIEID : Fld := ⟨0xC, 0x0, 0x0, 0, 32⟩
/-- GLB_DIEID_HI (Table 19-17). -/
def R.GLB_DIEID_HI : RegD :=
  { base := 0xC, s1 := 0x0, n1 := 1, s2 := 0x0, n2 := 1, reset := 0x0,
    fields := [⟨0, 32, .ro, []⟩] }
/-- GLB_ROMVER.ROMVER (Table 19-17). -/
def F.GLB_ROMVER_ROMVER : Fld := ⟨0x10, 0x0, 0x0, 0, 16⟩
/-- GLB_ROMVER (Table 19-17). -/
def R.GLB_ROMVER : RegD :=
  { base := 0x10, s1 := 0x0, n1 := 1, s2 := 0x0, n2 := 1, reset := 0x1,
    fields := [⟨0, 16, .ro, []⟩] }
/-- GLB_LOCK.LOCK (Table 19-18). -/
def F.GLB_LOCK_LOCK : Fld := ⟨0x20, 0x0, 0x0, 0, 1⟩
/-- GLB_LOCK (Table 19-18). -/
def R.GLB_LOCK : RegD :=
  { base := 0x20, s1 := 0x0, n1 := 1, s2 := 0x0, n2 := 1, reset := 0x0,
    fields := [⟨0, 1, .w1s, []⟩] }
/-- GLB_OWNSEL.RESOURCE (Table 1-9). -/
def F.GLB_OWNSEL_RESOURCE : Fld := ⟨0x40, 0x0, 0x0, 0, 8⟩
/-- GLB_OWNSEL (Table 1-9). -/
def R.GLB_OWNSEL : RegD :=
  { base := 0x40, s1 := 0x0, n1 := 1, s2 := 0x0, n2 := 1, reset := 0x0,
    fields := [⟨0, 8, .rw, [(0, 1), (16, 31), (32, 63), (64, 71), (80, 80)]⟩] }
/-- GLB_OWNER.RESOURCE (Table own2). -/
def F.GLB_OWNER_RESOURCE : Fld := ⟨0x44, 0x0, 0x0, 8, 8⟩
/-- GLB_OWNER.OWNER (Table own2). -/
def F.GLB_OWNER_OWNER : Fld := ⟨0x44, 0x0, 0x0, 0, 8⟩
/-- GLB_OWNER (Table own2). -/
def R.GLB_OWNER : RegD :=
  { base := 0x44, s1 := 0x0, n1 := 1, s2 := 0x0, n2 := 1, reset := 0x0,
    fields := [⟨8, 8, .ro, []⟩, ⟨0, 8, .ro, []⟩] }
/-- GLB_CLAIM.VALID (Table 1-11). -/
def F.GLB_CLAIM_VALID : Fld := ⟨0x48, 0x0, 0x0, 31, 1⟩
/-- GLB_CLAIM.RESOURCE (Table 1-11). -/
def F.GLB_CLAIM_RESOURCE : Fld := ⟨0x48, 0x0, 0x0, 16, 8⟩
/-- GLB_CLAIM.CLAIMANT (Table 1-11). -/
def F.GLB_CLAIM_CLAIMANT : Fld := ⟨0x48, 0x0, 0x0, 8, 8⟩
/-- GLB_CLAIM.OWNER (Table 1-11). -/
def F.GLB_CLAIM_OWNER : Fld := ⟨0x48, 0x0, 0x0, 0, 8⟩
/-- GLB_CLAIM (Table 1-11). -/
def R.GLB_CLAIM : RegD :=
  { base := 0x48, s1 := 0x0, n1 := 1, s2 := 0x0, n2 := 1, reset := 0x0,
    fields := [⟨31, 1, .w1c, []⟩, ⟨16, 8, .ro, []⟩, ⟨8, 8, .ro, []⟩, ⟨0, 8, .ro, []⟩] }
/-- GLB_CLAIMCNT.COUNT (Table 1-12). -/
def F.GLB_CLAIMCNT_COUNT : Fld := ⟨0x4C, 0x0, 0x0, 0, 32⟩
/-- GLB_CLAIMCNT (Table 1-12). -/
def R.GLB_CLAIMCNT : RegD :=
  { base := 0x4C, s1 := 0x0, n1 := 1, s2 := 0x0, n2 := 1, reset := 0x0,
    fields := [⟨0, 32, .rc, []⟩] }
/-- GLB_FATAL.VALID (Table 17-15). -/
def F.GLB_FATAL_VALID : Fld := ⟨0x80, 0x0, 0x0, 31, 1⟩
/-- GLB_FATAL.CAUSE (Table 17-15). -/
def F.GLB_FATAL_CAUSE : Fld := ⟨0x80, 0x0, 0x0, 16, 4⟩
/-- GLB_FATAL.DETAIL (Table 17-15). -/
def F.GLB_FATAL_DETAIL : Fld := ⟨0x80, 0x0, 0x0, 0, 16⟩
/-- GLB_FATAL (Table 17-15). -/
def R.GLB_FATAL : RegD :=
  { base := 0x80, s1 := 0x0, n1 := 1, s2 := 0x0, n2 := 1, reset := 0x0,
    fields := [⟨31, 1, .ro, []⟩, ⟨16, 4, .ro, []⟩, ⟨0, 16, .ro, []⟩] }
/-- GLB_FATALT_LO.T (Table 17-15). -/
def F.GLB_FATALT_LO_T : Fld := ⟨0x84, 0x0, 0x0, 0, 32⟩
/-- GLB_FATALT_LO (Table 17-15). -/
def R.GLB_FATALT_LO : RegD :=
  { base := 0x84, s1 := 0x0, n1 := 1, s2 := 0x0, n2 := 1, reset := 0x0,
    fields := [⟨0, 32, .ro, []⟩] }
/-- GLB_FATALT_HI.T (Table 17-15). -/
def F.GLB_FATALT_HI_T : Fld := ⟨0x88, 0x0, 0x0, 0, 32⟩
/-- GLB_FATALT_HI (Table 17-15). -/
def R.GLB_FATALT_HI : RegD :=
  { base := 0x88, s1 := 0x0, n1 := 1, s2 := 0x0, n2 := 1, reset := 0x0,
    fields := [⟨0, 32, .ro, []⟩] }
/-- GLB_CAIRNCFG.DEST (Table 17-16). -/
def F.GLB_CAIRNCFG_DEST : Fld := ⟨0x8C, 0x0, 0x0, 31, 1⟩
/-- GLB_CAIRNCFG.FALLBACK (Table 17-16). -/
def F.GLB_CAIRNCFG_FALLBACK : Fld := ⟨0x8C, 0x0, 0x0, 30, 1⟩
/-- GLB_CAIRNCFG.TMO (Table 17-16). -/
def F.GLB_CAIRNCFG_TMO : Fld := ⟨0x8C, 0x0, 0x0, 16, 8⟩
/-- GLB_CAIRNCFG (Table 17-16). -/
def R.GLB_CAIRNCFG : RegD :=
  { base := 0x8C, s1 := 0x0, n1 := 1, s2 := 0x0, n2 := 1, reset := 0xC80000,
    fields := [⟨31, 1, .rwl, []⟩, ⟨30, 1, .rwl, []⟩, ⟨16, 8, .rwl, [(1, 255)]⟩] }
/-- GLB_CAIRNADDR_LO.ADDR (Table 17-16). -/
def F.GLB_CAIRNADDR_LO_ADDR : Fld := ⟨0x90, 0x0, 0x0, 0, 32⟩
/-- GLB_CAIRNADDR_LO (Table 17-16). -/
def R.GLB_CAIRNADDR_LO : RegD :=
  { base := 0x90, s1 := 0x0, n1 := 1, s2 := 0x0, n2 := 1, reset := 0x0,
    fields := [⟨0, 32, .rwl, []⟩] }
/-- GLB_CAIRNADDR_HI.ADDR (Table 17-16). -/
def F.GLB_CAIRNADDR_HI_ADDR : Fld := ⟨0x94, 0x0, 0x0, 0, 32⟩
/-- GLB_CAIRNADDR_HI (Table 17-16). -/
def R.GLB_CAIRNADDR_HI : RegD :=
  { base := 0x94, s1 := 0x0, n1 := 1, s2 := 0x0, n2 := 1, reset := 0x0,
    fields := [⟨0, 32, .rwl, []⟩] }
/-- GLB_CAIRNFLASH.FLASH (Table 17-16). -/
def F.GLB_CAIRNFLASH_FLASH : Fld := ⟨0x9C, 0x0, 0x0, 0, 32⟩
/-- GLB_CAIRNFLASH (Table 17-16). -/
def R.GLB_CAIRNFLASH : RegD :=
  { base := 0x9C, s1 := 0x0, n1 := 1, s2 := 0x0, n2 := 1, reset := 0x0,
    fields := [⟨0, 32, .rwl, []⟩] }
/-- GLB_CAIRNSTAT.DONE (Table 17-17). -/
def F.GLB_CAIRNSTAT_DONE : Fld := ⟨0x98, 0x0, 0x0, 31, 1⟩
/-- GLB_CAIRNSTAT.DECLARE (Table 17-17). -/
def F.GLB_CAIRNSTAT_DECLARE : Fld := ⟨0x98, 0x0, 0x0, 30, 1⟩
/-- GLB_CAIRNSTAT.TIMEDOUT (Table 17-17). -/
def F.GLB_CAIRNSTAT_TIMEDOUT : Fld := ⟨0x98, 0x0, 0x0, 29, 1⟩
/-- GLB_CAIRNSTAT.LASTCAUSE (Table 17-17). -/
def F.GLB_CAIRNSTAT_LASTCAUSE : Fld := ⟨0x98, 0x0, 0x0, 24, 4⟩
/-- GLB_CAIRNSTAT.LASTLEN (Table 17-17). -/
def F.GLB_CAIRNSTAT_LASTLEN : Fld := ⟨0x98, 0x0, 0x0, 0, 16⟩
/-- GLB_CAIRNSTAT (Table 17-17). -/
def R.GLB_CAIRNSTAT : RegD :=
  { base := 0x98, s1 := 0x0, n1 := 1, s2 := 0x0, n2 := 1, reset := 0x0,
    fields := [⟨31, 1, .w1s, []⟩, ⟨30, 1, .w1s, []⟩, ⟨29, 1, .ro, []⟩, ⟨24, 4, .ro, []⟩, ⟨0, 16, .ro, []⟩] }
/-- GLB_DBG.LOCKED (Table 17-17). -/
def F.GLB_DBG_LOCKED : Fld := ⟨0xA0, 0x0, 0x0, 31, 1⟩
/-- GLB_DBG (Table 17-17). -/
def R.GLB_DBG : RegD :=
  { base := 0xA0, s1 := 0x0, n1 := 1, s2 := 0x0, n2 := 1, reset := 0x0,
    fields := [⟨31, 1, .ro, []⟩] }
/-- GLB_STRAP.STRAP (Table 18-7). -/
def F.GLB_STRAP_STRAP : Fld := ⟨0x100, 0x0, 0x0, 0, 8⟩
/-- GLB_STRAP (Table 18-7). -/
def R.GLB_STRAP : RegD :=
  { base := 0x100, s1 := 0x0, n1 := 1, s2 := 0x0, n2 := 1, reset := 0x0,
    fields := [⟨0, 8, .ro, []⟩] }
/-- GLB_RSTCAUSE.STBY (Table 18-7). -/
def F.GLB_RSTCAUSE_STBY : Fld := ⟨0x104, 0x0, 0x0, 5, 1⟩
/-- GLB_RSTCAUSE.CHIP (Table 18-7). -/
def F.GLB_RSTCAUSE_CHIP : Fld := ⟨0x104, 0x0, 0x0, 4, 1⟩
/-- GLB_RSTCAUSE.CAIRN (Table 18-7). -/
def F.GLB_RSTCAUSE_CAIRN : Fld := ⟨0x104, 0x0, 0x0, 3, 1⟩
/-- GLB_RSTCAUSE.WDT (Table 18-7). -/
def F.GLB_RSTCAUSE_WDT : Fld := ⟨0x104, 0x0, 0x0, 2, 1⟩
/-- GLB_RSTCAUSE.PIN (Table 18-7). -/
def F.GLB_RSTCAUSE_PIN : Fld := ⟨0x104, 0x0, 0x0, 1, 1⟩
/-- GLB_RSTCAUSE.POR (Table 18-7). -/
def F.GLB_RSTCAUSE_POR : Fld := ⟨0x104, 0x0, 0x0, 0, 1⟩
/-- GLB_RSTCAUSE (Table 18-7). -/
def R.GLB_RSTCAUSE : RegD :=
  { base := 0x104, s1 := 0x0, n1 := 1, s2 := 0x0, n2 := 1, reset := 0x0,
    fields := [⟨5, 1, .w1c, []⟩, ⟨4, 1, .w1c, []⟩, ⟨3, 1, .w1c, []⟩, ⟨2, 1, .w1c, []⟩, ⟨1, 1, .w1c, []⟩, ⟨0, 1, .w1c, []⟩] }
/-- GLB_BOOTSTAT.SLOT (Table 18-8). -/
def F.GLB_BOOTSTAT_SLOT : Fld := ⟨0x108, 0x0, 0x0, 31, 1⟩
/-- GLB_BOOTSTAT.HOSTLOAD (Table 18-8). -/
def F.GLB_BOOTSTAT_HOSTLOAD : Fld := ⟨0x108, 0x0, 0x0, 30, 1⟩
/-- GLB_BOOTSTAT.UNANCHORED (Table 18-8). -/
def F.GLB_BOOTSTAT_UNANCHORED : Fld := ⟨0x108, 0x0, 0x0, 29, 1⟩
/-- GLB_BOOTSTAT.CFGERR (Table 18-8). -/
def F.GLB_BOOTSTAT_CFGERR : Fld := ⟨0x108, 0x0, 0x0, 28, 1⟩
/-- GLB_BOOTSTAT.SVN (Table 18-8). -/
def F.GLB_BOOTSTAT_SVN : Fld := ⟨0x108, 0x0, 0x0, 16, 8⟩
/-- GLB_BOOTSTAT.ROLLBACK (Table 18-8). -/
def F.GLB_BOOTSTAT_ROLLBACK : Fld := ⟨0x108, 0x0, 0x0, 0, 7⟩
/-- GLB_BOOTSTAT (Table 18-8). -/
def R.GLB_BOOTSTAT : RegD :=
  { base := 0x108, s1 := 0x0, n1 := 1, s2 := 0x0, n2 := 1, reset := 0x0,
    fields := [⟨31, 1, .ro, []⟩, ⟨30, 1, .ro, []⟩, ⟨29, 1, .ro, []⟩, ⟨28, 1, .ro, []⟩, ⟨16, 8, .ro, []⟩, ⟨0, 7, .ro, []⟩] }
/-- GLB_WDT.EN (Table 18-8). -/
def F.GLB_WDT_EN : Fld := ⟨0x10C, 0x0, 0x0, 31, 1⟩
/-- GLB_WDT.KICK (Table 18-8). -/
def F.GLB_WDT_KICK : Fld := ⟨0x10C, 0x0, 0x0, 30, 1⟩
/-- GLB_WDT.CHIPRST (Table 18-8). -/
def F.GLB_WDT_CHIPRST : Fld := ⟨0x10C, 0x0, 0x0, 29, 1⟩
/-- GLB_WDT.TMO (Table 18-8). -/
def F.GLB_WDT_TMO : Fld := ⟨0x10C, 0x0, 0x0, 0, 16⟩
/-- GLB_WDT (Table 18-8). -/
def R.GLB_WDT : RegD :=
  { base := 0x10C, s1 := 0x0, n1 := 1, s2 := 0x0, n2 := 1, reset := 0xC8,
    fields := [⟨31, 1, .w1s, []⟩, ⟨30, 1, .wo, []⟩, ⟨29, 1, .wo, []⟩, ⟨0, 16, .rw, [(1, 65535)]⟩] }
/-- GLB_SCRATCH.SCRATCH (Table 18-9). -/
def F.GLB_SCRATCH_SCRATCH : Fld := ⟨0x140, 0x4, 0x0, 0, 32⟩
/-- GLB_SCRATCH (Table 18-9). -/
def R.GLB_SCRATCH : RegD :=
  { base := 0x140, s1 := 0x4, n1 := 16, s2 := 0x0, n2 := 1, reset := 0x0,
    fields := [⟨0, 32, .rw, []⟩] }
/-- GLB_LOADCTL.GO (Table 18-9). -/
def F.GLB_LOADCTL_GO : Fld := ⟨0x1C0, 0x0, 0x0, 31, 1⟩
/-- GLB_LOADCTL.ERR (Table 18-9). -/
def F.GLB_LOADCTL_ERR : Fld := ⟨0x1C0, 0x0, 0x0, 30, 1⟩
/-- GLB_LOADCTL (Table 18-9). -/
def R.GLB_LOADCTL : RegD :=
  { base := 0x1C0, s1 := 0x0, n1 := 1, s2 := 0x0, n2 := 1, reset := 0x0,
    fields := [⟨31, 1, .wo, []⟩, ⟨30, 1, .w1c, []⟩] }
/-- GLB_LOADDATA.DATA (Table 18-9). -/
def F.GLB_LOADDATA_DATA : Fld := ⟨0x1C4, 0x0, 0x0, 0, 32⟩
/-- GLB_LOADDATA (Table 18-9). -/
def R.GLB_LOADDATA : RegD :=
  { base := 0x1C4, s1 := 0x0, n1 := 1, s2 := 0x0, n2 := 1, reset := 0x0,
    fields := [⟨0, 32, .wo, []⟩] }
/-- GLB_OTPCMD.GO (Table 18-10). -/
def F.GLB_OTPCMD_GO : Fld := ⟨0x180, 0x0, 0x0, 31, 1⟩
/-- GLB_OTPCMD.OP (Table 18-10). -/
def F.GLB_OTPCMD_OP : Fld := ⟨0x180, 0x0, 0x0, 30, 1⟩
/-- GLB_OTPCMD.KEY (Table 18-10). -/
def F.GLB_OTPCMD_KEY : Fld := ⟨0x180, 0x0, 0x0, 8, 8⟩
/-- GLB_OTPCMD.ITEM (Table 18-10). -/
def F.GLB_OTPCMD_ITEM : Fld := ⟨0x180, 0x0, 0x0, 0, 4⟩
/-- GLB_OTPCMD (Table 18-10). -/
def R.GLB_OTPCMD : RegD :=
  { base := 0x180, s1 := 0x0, n1 := 1, s2 := 0x0, n2 := 1, reset := 0x0,
    fields := [⟨31, 1, .wo, []⟩, ⟨30, 1, .rw, []⟩, ⟨8, 8, .wo, []⟩, ⟨0, 4, .rw, [(1, 12)]⟩] }
/-- GLB_OTPSTAT.BUSY (Table 18-10). -/
def F.GLB_OTPSTAT_BUSY : Fld := ⟨0x184, 0x0, 0x0, 31, 1⟩
/-- GLB_OTPSTAT.ERR (Table 18-10). -/
def F.GLB_OTPSTAT_ERR : Fld := ⟨0x184, 0x0, 0x0, 30, 1⟩
/-- GLB_OTPSTAT.SECBOOT (Table 18-10). -/
def F.GLB_OTPSTAT_SECBOOT : Fld := ⟨0x184, 0x0, 0x0, 17, 1⟩
/-- GLB_OTPSTAT.REVOKE (Table 18-10). -/
def F.GLB_OTPSTAT_REVOKE : Fld := ⟨0x184, 0x0, 0x0, 13, 4⟩
/-- GLB_OTPSTAT.PROG (Table 18-10). -/
def F.GLB_OTPSTAT_PROG : Fld := ⟨0x184, 0x0, 0x0, 1, 12⟩
/-- GLB_OTPSTAT (Table 18-10). -/
def R.GLB_OTPSTAT : RegD :=
  { base := 0x184, s1 := 0x0, n1 := 1, s2 := 0x0, n2 := 1, reset := 0x0,
    fields := [⟨31, 1, .ro, []⟩, ⟨30, 1, .w1c, []⟩, ⟨17, 1, .ro, []⟩, ⟨13, 4, .ro, []⟩, ⟨1, 12, .ro, []⟩] }
/-- GLB_OTPDATA.DATA (Table 18-10). -/
def F.GLB_OTPDATA_DATA : Fld := ⟨0x1A0, 0x4, 0x0, 0, 32⟩
/-- GLB_OTPDATA (Table 18-10). -/
def R.GLB_OTPDATA : RegD :=
  { base := 0x1A0, s1 := 0x4, n1 := 8, s2 := 0x0, n2 := 1, reset := 0x0,
    fields := [⟨0, 32, .rw, []⟩] }
/-- The registers of block Glb. -/
def regsGlb : List RegD :=
  [R.GLB_ID, R.GLB_CAPS, R.GLB_DIEID_LO, R.GLB_DIEID_HI, R.GLB_ROMVER, R.GLB_LOCK, R.GLB_OWNSEL, R.GLB_OWNER, R.GLB_CLAIM, R.GLB_CLAIMCNT, R.GLB_FATAL, R.GLB_FATALT_LO, R.GLB_FATALT_HI, R.GLB_CAIRNCFG, R.GLB_CAIRNADDR_LO, R.GLB_CAIRNADDR_HI, R.GLB_CAIRNFLASH, R.GLB_CAIRNSTAT, R.GLB_DBG, R.GLB_STRAP, R.GLB_RSTCAUSE, R.GLB_BOOTSTAT, R.GLB_WDT, R.GLB_SCRATCH, R.GLB_LOADCTL, R.GLB_LOADDATA, R.GLB_OTPCMD, R.GLB_OTPSTAT, R.GLB_OTPDATA]

/-! ### Block Time -/

/-- TIME_CTL.PULSE_IN (Table 2-4). -/
def F.TIME_CTL_PULSE_IN : Fld := ⟨0x1000, 0x0, 0x0, 9, 1⟩
/-- TIME_CTL.REFOUT_EN (Table 2-4). -/
def F.TIME_CTL_REFOUT_EN : Fld := ⟨0x1000, 0x0, 0x0, 8, 1⟩
/-- TIME_CTL.SSC_FREQ (Table 2-4). -/
def F.TIME_CTL_SSC_FREQ : Fld := ⟨0x1000, 0x0, 0x0, 6, 2⟩
/-- TIME_CTL.SSC_DEPTH (Table 2-4). -/
def F.TIME_CTL_SSC_DEPTH : Fld := ⟨0x1000, 0x0, 0x0, 2, 4⟩
/-- TIME_CTL.SSC_EN (Table 2-4). -/
def F.TIME_CTL_SSC_EN : Fld := ⟨0x1000, 0x0, 0x0, 1, 1⟩
/-- TIME_CTL.SUMMIT (Table 2-4). -/
def F.TIME_CTL_SUMMIT : Fld := ⟨0x1000, 0x0, 0x0, 0, 1⟩
/-- TIME_CTL (Table 2-4). -/
def R.TIME_CTL : RegD :=
  { base := 0x1000, s1 := 0x0, n1 := 1, s2 := 0x0, n2 := 1, reset := 0x0,
    fields := [⟨9, 1, .rw, []⟩, ⟨8, 1, .rw, []⟩, ⟨6, 2, .rwl, []⟩, ⟨2, 4, .rwl, [(0, 10)]⟩, ⟨1, 1, .rwl, []⟩, ⟨0, 1, .ro, []⟩] }
/-- TIME_STAT.ERR (Table 2-5). -/
def F.TIME_STAT_ERR : Fld := ⟨0x1004, 0x0, 0x0, 24, 8⟩
/-- TIME_STAT.STEP (Table 2-5). -/
def F.TIME_STAT_STEP : Fld := ⟨0x1004, 0x0, 0x0, 16, 1⟩
/-- TIME_STAT.SRCVALID (Table 2-5). -/
def F.TIME_STAT_SRCVALID : Fld := ⟨0x1004, 0x0, 0x0, 13, 1⟩
/-- TIME_STAT.SRCPORT (Table 2-5). -/
def F.TIME_STAT_SRCPORT : Fld := ⟨0x1004, 0x0, 0x0, 8, 5⟩
/-- TIME_STAT.STATE (Table 2-5). -/
def F.TIME_STAT_STATE : Fld := ⟨0x1004, 0x0, 0x0, 0, 3⟩
/-- TIME_STAT (Table 2-5). -/
def R.TIME_STAT : RegD :=
  { base := 0x1004, s1 := 0x0, n1 := 1, s2 := 0x0, n2 := 1, reset := 0x0,
    fields := [⟨24, 8, .ro, []⟩, ⟨16, 1, .w1c, []⟩, ⟨13, 1, .ro, []⟩, ⟨8, 5, .ro, []⟩, ⟨0, 3, .ro, []⟩] }
/-- TIME_NOW_LO.NOW_LO (Table 2-6). -/
def F.TIME_NOW_LO_NOW_LO : Fld := ⟨0x1008, 0x0, 0x0, 0, 32⟩
/-- TIME_NOW_LO (Table 2-6). -/
def R.TIME_NOW_LO : RegD :=
  { base := 0x1008, s1 := 0x0, n1 := 1, s2 := 0x0, n2 := 1, reset := 0x0,
    fields := [⟨0, 32, .ro, []⟩] }
/-- TIME_NOW_HI.NOW_HI (Table 2-6). -/
def F.TIME_NOW_HI_NOW_HI : Fld := ⟨0x100C, 0x0, 0x0, 0, 32⟩
/-- TIME_NOW_HI (Table 2-6). -/
def R.TIME_NOW_HI : RegD :=
  { base := 0x100C, s1 := 0x0, n1 := 1, s2 := 0x0, n2 := 1, reset := 0x0,
    fields := [⟨0, 32, .ro, []⟩] }
/-- TIME_SET_LO.SET_LO (Table 2-6). -/
def F.TIME_SET_LO_SET_LO : Fld := ⟨0x1010, 0x0, 0x0, 0, 32⟩
/-- TIME_SET_LO (Table 2-6). -/
def R.TIME_SET_LO : RegD :=
  { base := 0x1010, s1 := 0x0, n1 := 1, s2 := 0x0, n2 := 1, reset := 0x0,
    fields := [⟨0, 32, .rw, []⟩] }
/-- TIME_SET_HI.SET_HI (Table 2-6). -/
def F.TIME_SET_HI_SET_HI : Fld := ⟨0x1014, 0x0, 0x0, 0, 32⟩
/-- TIME_SET_HI (Table 2-6). -/
def R.TIME_SET_HI : RegD :=
  { base := 0x1014, s1 := 0x0, n1 := 1, s2 := 0x0, n2 := 1, reset := 0x0,
    fields := [⟨0, 32, .rw, []⟩] }
/-- TIME_CMD.PALIGN (Table 2-7). -/
def F.TIME_CMD_PALIGN : Fld := ⟨0x1018, 0x0, 0x0, 1, 1⟩
/-- TIME_CMD.LOAD (Table 2-7). -/
def F.TIME_CMD_LOAD : Fld := ⟨0x1018, 0x0, 0x0, 0, 1⟩
/-- TIME_CMD (Table 2-7). -/
def R.TIME_CMD : RegD :=
  { base := 0x1018, s1 := 0x0, n1 := 1, s2 := 0x0, n2 := 1, reset := 0x0,
    fields := [⟨1, 1, .wo, []⟩, ⟨0, 1, .wo, []⟩] }
/-- TIME_CAPCFG.OVR (Table 2-8). -/
def F.TIME_CAPCFG_OVR : Fld := ⟨0x1040, 0x10, 0x0, 17, 1⟩
/-- TIME_CAPCFG.VALID (Table 2-8). -/
def F.TIME_CAPCFG_VALID : Fld := ⟨0x1040, 0x10, 0x0, 16, 1⟩
/-- TIME_CAPCFG.GPIO (Table 2-8). -/
def F.TIME_CAPCFG_GPIO : Fld := ⟨0x1040, 0x10, 0x0, 8, 4⟩
/-- TIME_CAPCFG.SRC (Table 2-8). -/
def F.TIME_CAPCFG_SRC : Fld := ⟨0x1040, 0x10, 0x0, 1, 3⟩
/-- TIME_CAPCFG.EN (Table 2-8). -/
def F.TIME_CAPCFG_EN : Fld := ⟨0x1040, 0x10, 0x0, 0, 1⟩
/-- TIME_CAPCFG (Table 2-8). -/
def R.TIME_CAPCFG : RegD :=
  { base := 0x1040, s1 := 0x10, n1 := 4, s2 := 0x0, n2 := 1, reset := 0x0,
    fields := [⟨17, 1, .w1c, []⟩, ⟨16, 1, .w1c, []⟩, ⟨8, 4, .rw, []⟩, ⟨1, 3, .rw, [(0, 3)]⟩, ⟨0, 1, .rw, []⟩] }
/-- TIME_CAP_LO.CAP (Table 2-8). -/
def F.TIME_CAP_LO_CAP : Fld := ⟨0x1044, 0x10, 0x0, 0, 32⟩
/-- TIME_CAP_LO (Table 2-8). -/
def R.TIME_CAP_LO : RegD :=
  { base := 0x1044, s1 := 0x10, n1 := 4, s2 := 0x0, n2 := 1, reset := 0x0,
    fields := [⟨0, 32, .ro, []⟩] }
/-- TIME_CAP_HI.CAP (Table 2-8). -/
def F.TIME_CAP_HI_CAP : Fld := ⟨0x1048, 0x10, 0x0, 0, 32⟩
/-- TIME_CAP_HI (Table 2-8). -/
def R.TIME_CAP_HI : RegD :=
  { base := 0x1048, s1 := 0x10, n1 := 4, s2 := 0x0, n2 := 1, reset := 0x0,
    fields := [⟨0, 32, .ro, []⟩] }
/-- TIME_CMPCFG.LATE (Table 2-9). -/
def F.TIME_CMPCFG_LATE : Fld := ⟨0x1080, 0x10, 0x0, 25, 1⟩
/-- TIME_CMPCFG.MATCHED (Table 2-9). -/
def F.TIME_CMPCFG_MATCHED : Fld := ⟨0x1080, 0x10, 0x0, 24, 1⟩
/-- TIME_CMPCFG.WIDTH (Table 2-9). -/
def F.TIME_CMPCFG_WIDTH : Fld := ⟨0x1080, 0x10, 0x0, 12, 8⟩
/-- TIME_CMPCFG.GPIO (Table 2-9). -/
def F.TIME_CMPCFG_GPIO : Fld := ⟨0x1080, 0x10, 0x0, 8, 4⟩
/-- TIME_CMPCFG.OUT (Table 2-9). -/
def F.TIME_CMPCFG_OUT : Fld := ⟨0x1080, 0x10, 0x0, 1, 2⟩
/-- TIME_CMPCFG.EN (Table 2-9). -/
def F.TIME_CMPCFG_EN : Fld := ⟨0x1080, 0x10, 0x0, 0, 1⟩
/-- TIME_CMPCFG (Table 2-9). -/
def R.TIME_CMPCFG : RegD :=
  { base := 0x1080, s1 := 0x10, n1 := 4, s2 := 0x0, n2 := 1, reset := 0x1000,
    fields := [⟨25, 1, .w1c, []⟩, ⟨24, 1, .w1c, []⟩, ⟨12, 8, .rw, [(1, 255)]⟩, ⟨8, 4, .rw, []⟩, ⟨1, 2, .rw, [(0, 2)]⟩, ⟨0, 1, .rw, []⟩] }
/-- TIME_CMP_LO.CMP (Table 2-9). -/
def F.TIME_CMP_LO_CMP : Fld := ⟨0x1084, 0x10, 0x0, 0, 32⟩
/-- TIME_CMP_LO (Table 2-9). -/
def R.TIME_CMP_LO : RegD :=
  { base := 0x1084, s1 := 0x10, n1 := 4, s2 := 0x0, n2 := 1, reset := 0x0,
    fields := [⟨0, 32, .rw, []⟩] }
/-- TIME_CMP_HI.CMP (Table 2-9). -/
def F.TIME_CMP_HI_CMP : Fld := ⟨0x1088, 0x10, 0x0, 0, 32⟩
/-- TIME_CMP_HI (Table 2-9). -/
def R.TIME_CMP_HI : RegD :=
  { base := 0x1088, s1 := 0x10, n1 := 4, s2 := 0x0, n2 := 1, reset := 0x0,
    fields := [⟨0, 32, .rw, []⟩] }
/-- TIME_CMP_PER.CMP_PER (Table 2-9). -/
def F.TIME_CMP_PER_CMP_PER : Fld := ⟨0x108C, 0x10, 0x0, 0, 32⟩
/-- TIME_CMP_PER (Table 2-9). -/
def R.TIME_CMP_PER : RegD :=
  { base := 0x108C, s1 := 0x10, n1 := 4, s2 := 0x0, n2 := 1, reset := 0x0,
    fields := [⟨0, 32, .rw, []⟩] }
/-- The registers of block Time. -/
def regsTime : List RegD :=
  [R.TIME_CTL, R.TIME_STAT, R.TIME_NOW_LO, R.TIME_NOW_HI, R.TIME_SET_LO, R.TIME_SET_HI, R.TIME_CMD, R.TIME_CAPCFG, R.TIME_CAP_LO, R.TIME_CAP_HI, R.TIME_CMPCFG, R.TIME_CMP_LO, R.TIME_CMP_HI, R.TIME_CMP_PER]

/-! ### Block Hif -/

/-- HIF_PCTL.CFGRDY (Table 9-15). -/
def F.HIF_PCTL_CFGRDY : Fld := ⟨0x2000, 0x0, 0x0, 7, 1⟩
/-- HIF_PCTL.SPLITCPL (Table 9-15). -/
def F.HIF_PCTL_SPLITCPL : Fld := ⟨0x2000, 0x0, 0x0, 6, 1⟩
/-- HIF_PCTL.LTREN (Table 9-15). -/
def F.HIF_PCTL_LTREN : Fld := ⟨0x2000, 0x0, 0x0, 5, 1⟩
/-- HIF_PCTL.MAXSPD (Table 9-15). -/
def F.HIF_PCTL_MAXSPD : Fld := ⟨0x2000, 0x0, 0x0, 0, 3⟩
/-- HIF_PCTL (Table 9-15). -/
def R.HIF_PCTL : RegD :=
  { base := 0x2000, s1 := 0x0, n1 := 1, s2 := 0x0, n2 := 1, reset := 0x25,
    fields := [⟨7, 1, .w1s, []⟩, ⟨6, 1, .rw, []⟩, ⟨5, 1, .rw, []⟩, ⟨0, 3, .rwl, [(3, 5)]⟩] }
/-- HIF_PSTAT.WIDTH (Table 9-16). -/
def F.HIF_PSTAT_WIDTH : Fld := ⟨0x2004, 0x0, 0x0, 4, 4⟩
/-- HIF_PSTAT.LINKUP (Table 9-16). -/
def F.HIF_PSTAT_LINKUP : Fld := ⟨0x2004, 0x0, 0x0, 3, 1⟩
/-- HIF_PSTAT.SPEED (Table 9-16). -/
def F.HIF_PSTAT_SPEED : Fld := ⟨0x2004, 0x0, 0x0, 0, 3⟩
/-- HIF_PSTAT (Table 9-16). -/
def R.HIF_PSTAT : RegD :=
  { base := 0x2004, s1 := 0x0, n1 := 1, s2 := 0x0, n2 := 1, reset := 0x0,
    fields := [⟨4, 4, .ro, []⟩, ⟨3, 1, .ro, []⟩, ⟨0, 3, .ro, []⟩] }
/-- HIF_BAR4SZ.SIZE (Table 9-17). -/
def F.HIF_BAR4SZ_SIZE : Fld := ⟨0x2008, 0x0, 0x0, 0, 6⟩
/-- HIF_BAR4SZ (Table 9-17). -/
def R.HIF_BAR4SZ : RegD :=
  { base := 0x2008, s1 := 0x0, n1 := 1, s2 := 0x0, n2 := 1, reset := 0x24,
    fields := [⟨0, 6, .rwl, [(0, 0), (26, 40)]⟩] }
/-- HIF_FETCHCFG.RADEPTH (Table 9-18). -/
def F.HIF_FETCHCFG_RADEPTH : Fld := ⟨0x200C, 0x0, 0x0, 12, 4⟩
/-- HIF_FETCHCFG.BATCH (Table 9-18). -/
def F.HIF_FETCHCFG_BATCH : Fld := ⟨0x200C, 0x0, 0x0, 0, 6⟩
/-- HIF_FETCHCFG (Table 9-18). -/
def R.HIF_FETCHCFG : RegD :=
  { base := 0x200C, s1 := 0x0, n1 := 1, s2 := 0x0, n2 := 1, reset := 0x8020,
    fields := [⟨12, 4, .rw, [(0, 8)]⟩, ⟨0, 6, .rw, [(1, 32)]⟩] }
/-- HIF_ERRCFG.EN (Table 9-19). -/
def F.HIF_ERRCFG_EN : Fld := ⟨0x2010, 0x0, 0x0, 31, 1⟩
/-- HIF_ERRCFG.VEC (Table 9-19). -/
def F.HIF_ERRCFG_VEC : Fld := ⟨0x2010, 0x0, 0x0, 16, 11⟩
/-- HIF_ERRCFG (Table 9-19). -/
def R.HIF_ERRCFG : RegD :=
  { base := 0x2010, s1 := 0x0, n1 := 1, s2 := 0x0, n2 := 1, reset := 0x0,
    fields := [⟨31, 1, .rw, []⟩, ⟨16, 11, .rw, []⟩] }
/-- HIF_ERRCNT.FETCHFAIL (Table 9-19). -/
def F.HIF_ERRCNT_FETCHFAIL : Fld := ⟨0x2014, 0x0, 0x0, 24, 8⟩
/-- HIF_ERRCNT.FETCHRETRY (Table 9-19). -/
def F.HIF_ERRCNT_FETCHRETRY : Fld := ⟨0x2014, 0x0, 0x0, 16, 8⟩
/-- HIF_ERRCNT.DBIGNORED (Table 9-19). -/
def F.HIF_ERRCNT_DBIGNORED : Fld := ⟨0x2014, 0x0, 0x0, 0, 16⟩
/-- HIF_ERRCNT (Table 9-19). -/
def R.HIF_ERRCNT : RegD :=
  { base := 0x2014, s1 := 0x0, n1 := 1, s2 := 0x0, n2 := 1, reset := 0x0,
    fields := [⟨24, 8, .rc, []⟩, ⟨16, 8, .rc, []⟩, ⟨0, 16, .rc, []⟩] }
/-- The registers of block Hif. -/
def regsHif : List RegD :=
  [R.HIF_PCTL, R.HIF_PSTAT, R.HIF_BAR4SZ, R.HIF_FETCHCFG, R.HIF_ERRCFG, R.HIF_ERRCNT]

/-! ### Block Slc -/

/-- SLC_BIND.VALID (Table 10-5). -/
def F.SLC_BIND_VALID : Fld := ⟨0x3000, 0x4, 0x0, 31, 1⟩
/-- SLC_BIND.PASID (Table 10-5). -/
def F.SLC_BIND_PASID : Fld := ⟨0x3000, 0x4, 0x0, 0, 20⟩
/-- SLC_BIND (Table 10-5). -/
def R.SLC_BIND : RegD :=
  { base := 0x3000, s1 := 0x4, n1 := 128, s2 := 0x0, n2 := 1, reset := 0x0,
    fields := [⟨31, 1, .rw, []⟩, ⟨0, 20, .rw, []⟩] }
/-- SLC_STAT.STATE (Table 10-6). -/
def F.SLC_STAT_STATE : Fld := ⟨0x3200, 0x4, 0x0, 30, 2⟩
/-- SLC_STAT.RINGS (Table 10-6). -/
def F.SLC_STAT_RINGS : Fld := ⟨0x3200, 0x4, 0x0, 16, 13⟩
/-- SLC_STAT.TUNNELS (Table 10-6). -/
def F.SLC_STAT_TUNNELS : Fld := ⟨0x3200, 0x4, 0x0, 0, 13⟩
/-- SLC_STAT (Table 10-6). -/
def R.SLC_STAT : RegD :=
  { base := 0x3200, s1 := 0x4, n1 := 128, s2 := 0x0, n2 := 1, reset := 0x0,
    fields := [⟨30, 2, .ro, []⟩, ⟨16, 13, .ro, []⟩, ⟨0, 13, .ro, []⟩] }
/-- SLC_RST.GO (Table 10-7). -/
def F.SLC_RST_GO : Fld := ⟨0x3400, 0x4, 0x0, 31, 1⟩
/-- SLC_RST.MODE (Table 10-7). -/
def F.SLC_RST_MODE : Fld := ⟨0x3400, 0x4, 0x0, 30, 1⟩
/-- SLC_RST.CLOSE (Table 10-7). -/
def F.SLC_RST_CLOSE : Fld := ⟨0x3400, 0x4, 0x0, 29, 1⟩
/-- SLC_RST.DONE (Table 10-7). -/
def F.SLC_RST_DONE : Fld := ⟨0x3400, 0x4, 0x0, 28, 1⟩
/-- SLC_RST.FORCED (Table 10-7). -/
def F.SLC_RST_FORCED : Fld := ⟨0x3400, 0x4, 0x0, 27, 1⟩
/-- SLC_RST.DUR (Table 10-7). -/
def F.SLC_RST_DUR : Fld := ⟨0x3400, 0x4, 0x0, 0, 16⟩
/-- SLC_RST (Table 10-7). -/
def R.SLC_RST : RegD :=
  { base := 0x3400, s1 := 0x4, n1 := 128, s2 := 0x0, n2 := 1, reset := 0x0,
    fields := [⟨31, 1, .wo, []⟩, ⟨30, 1, .rw, []⟩, ⟨29, 1, .rw, []⟩, ⟨28, 1, .w1c, []⟩, ⟨27, 1, .ro, []⟩, ⟨0, 16, .ro, []⟩] }
/-- SLC_RSTINFO.SQUASHED (Table 10-8). -/
def F.SLC_RSTINFO_SQUASHED : Fld := ⟨0x3600, 0x4, 0x0, 16, 16⟩
/-- SLC_RSTINFO.BAR4DISC (Table 10-8). -/
def F.SLC_RSTINFO_BAR4DISC : Fld := ⟨0x3600, 0x4, 0x0, 0, 16⟩
/-- SLC_RSTINFO (Table 10-8). -/
def R.SLC_RSTINFO : RegD :=
  { base := 0x3600, s1 := 0x4, n1 := 128, s2 := 0x0, n2 := 1, reset := 0x0,
    fields := [⟨16, 16, .rc, []⟩, ⟨0, 16, .rc, []⟩] }
/-- SLC_CFG.IRQEN (Table 10-9). -/
def F.SLC_CFG_IRQEN : Fld := ⟨0x3800, 0x0, 0x0, 31, 1⟩
/-- SLC_CFG.VEC (Table 10-9). -/
def F.SLC_CFG_VEC : Fld := ⟨0x3800, 0x0, 0x0, 16, 11⟩
/-- SLC_CFG (Table 10-9). -/
def R.SLC_CFG : RegD :=
  { base := 0x3800, s1 := 0x0, n1 := 1, s2 := 0x0, n2 := 1, reset := 0x0,
    fields := [⟨31, 1, .rw, []⟩, ⟨16, 11, .rw, []⟩] }
/-- SLC_ERR.VALID (Table 10-10). -/
def F.SLC_ERR_VALID : Fld := ⟨0x3804, 0x0, 0x0, 31, 1⟩
/-- SLC_ERR.SLICE (Table 10-10). -/
def F.SLC_ERR_SLICE : Fld := ⟨0x3804, 0x0, 0x0, 24, 7⟩
/-- SLC_ERR.CAUSE (Table 10-10). -/
def F.SLC_ERR_CAUSE : Fld := ⟨0x3804, 0x0, 0x0, 16, 8⟩
/-- SLC_ERR.RESOURCE (Table 10-10). -/
def F.SLC_ERR_RESOURCE : Fld := ⟨0x3804, 0x0, 0x0, 8, 8⟩
/-- SLC_ERR.INDEX (Table 10-10). -/
def F.SLC_ERR_INDEX : Fld := ⟨0x3804, 0x0, 0x0, 0, 8⟩
/-- SLC_ERR (Table 10-10). -/
def R.SLC_ERR : RegD :=
  { base := 0x3804, s1 := 0x0, n1 := 1, s2 := 0x0, n2 := 1, reset := 0x0,
    fields := [⟨31, 1, .w1c, []⟩, ⟨24, 7, .ro, []⟩, ⟨16, 8, .ro, []⟩, ⟨8, 8, .ro, []⟩, ⟨0, 8, .ro, []⟩] }
/-- SLC_PIPEOWN.OWN3 (Table 10-11). -/
def F.SLC_PIPEOWN_OWN3 : Fld := ⟨0x3810, 0x4, 0x0, 24, 7⟩
/-- SLC_PIPEOWN.OWN2 (Table 10-11). -/
def F.SLC_PIPEOWN_OWN2 : Fld := ⟨0x3810, 0x4, 0x0, 16, 7⟩
/-- SLC_PIPEOWN.OWN1 (Table 10-11). -/
def F.SLC_PIPEOWN_OWN1 : Fld := ⟨0x3810, 0x4, 0x0, 8, 7⟩
/-- SLC_PIPEOWN.OWN0 (Table 10-11). -/
def F.SLC_PIPEOWN_OWN0 : Fld := ⟨0x3810, 0x4, 0x0, 0, 7⟩
/-- SLC_PIPEOWN (Table 10-11). -/
def R.SLC_PIPEOWN : RegD :=
  { base := 0x3810, s1 := 0x4, n1 := 2, s2 := 0x0, n2 := 1, reset := 0x0,
    fields := [⟨24, 7, .rw, []⟩, ⟨16, 7, .rw, []⟩, ⟨8, 7, .rw, []⟩, ⟨0, 7, .rw, []⟩] }
/-- SLC_STRMOWN.OWN3 (Table 10-11). -/
def F.SLC_STRMOWN_OWN3 : Fld := ⟨0x3818, 0x4, 0x0, 24, 7⟩
/-- SLC_STRMOWN.OWN2 (Table 10-11). -/
def F.SLC_STRMOWN_OWN2 : Fld := ⟨0x3818, 0x4, 0x0, 16, 7⟩
/-- SLC_STRMOWN.OWN1 (Table 10-11). -/
def F.SLC_STRMOWN_OWN1 : Fld := ⟨0x3818, 0x4, 0x0, 8, 7⟩
/-- SLC_STRMOWN.OWN0 (Table 10-11). -/
def F.SLC_STRMOWN_OWN0 : Fld := ⟨0x3818, 0x4, 0x0, 0, 7⟩
/-- SLC_STRMOWN (Table 10-11). -/
def R.SLC_STRMOWN : RegD :=
  { base := 0x3818, s1 := 0x4, n1 := 2, s2 := 0x0, n2 := 1, reset := 0x0,
    fields := [⟨24, 7, .rw, []⟩, ⟨16, 7, .rw, []⟩, ⟨8, 7, .rw, []⟩, ⟨0, 7, .rw, []⟩] }
/-- SLC_WINOWN.OWN3 (Table 10-11). -/
def F.SLC_WINOWN_OWN3 : Fld := ⟨0x3820, 0x4, 0x0, 24, 7⟩
/-- SLC_WINOWN.OWN2 (Table 10-11). -/
def F.SLC_WINOWN_OWN2 : Fld := ⟨0x3820, 0x4, 0x0, 16, 7⟩
/-- SLC_WINOWN.OWN1 (Table 10-11). -/
def F.SLC_WINOWN_OWN1 : Fld := ⟨0x3820, 0x4, 0x0, 8, 7⟩
/-- SLC_WINOWN.OWN0 (Table 10-11). -/
def F.SLC_WINOWN_OWN0 : Fld := ⟨0x3820, 0x4, 0x0, 0, 7⟩
/-- SLC_WINOWN (Table 10-11). -/
def R.SLC_WINOWN : RegD :=
  { base := 0x3820, s1 := 0x4, n1 := 4, s2 := 0x0, n2 := 1, reset := 0x0,
    fields := [⟨24, 7, .rw, []⟩, ⟨16, 7, .rw, []⟩, ⟨8, 7, .rw, []⟩, ⟨0, 7, .rw, []⟩] }
/-- SLC_USBOWN.OWN3 (Table 10-11). -/
def F.SLC_USBOWN_OWN3 : Fld := ⟨0x3840, 0x4, 0x0, 24, 7⟩
/-- SLC_USBOWN.OWN2 (Table 10-11). -/
def F.SLC_USBOWN_OWN2 : Fld := ⟨0x3840, 0x4, 0x0, 16, 7⟩
/-- SLC_USBOWN.OWN1 (Table 10-11). -/
def F.SLC_USBOWN_OWN1 : Fld := ⟨0x3840, 0x4, 0x0, 8, 7⟩
/-- SLC_USBOWN.OWN0 (Table 10-11). -/
def F.SLC_USBOWN_OWN0 : Fld := ⟨0x3840, 0x4, 0x0, 0, 7⟩
/-- SLC_USBOWN (Table 10-11). -/
def R.SLC_USBOWN : RegD :=
  { base := 0x3840, s1 := 0x4, n1 := 8, s2 := 0x0, n2 := 1, reset := 0x0,
    fields := [⟨24, 7, .rw, []⟩, ⟨16, 7, .rw, []⟩, ⟨8, 7, .rw, []⟩, ⟨0, 7, .rw, []⟩] }
/-- SLC_QOWN.OWN3 (Table 10-11). -/
def F.SLC_QOWN_OWN3 : Fld := ⟨0x3900, 0x4, 0x0, 24, 7⟩
/-- SLC_QOWN.OWN2 (Table 10-11). -/
def F.SLC_QOWN_OWN2 : Fld := ⟨0x3900, 0x4, 0x0, 16, 7⟩
/-- SLC_QOWN.OWN1 (Table 10-11). -/
def F.SLC_QOWN_OWN1 : Fld := ⟨0x3900, 0x4, 0x0, 8, 7⟩
/-- SLC_QOWN.OWN0 (Table 10-11). -/
def F.SLC_QOWN_OWN0 : Fld := ⟨0x3900, 0x4, 0x0, 0, 7⟩
/-- SLC_QOWN (Table 10-11). -/
def R.SLC_QOWN : RegD :=
  { base := 0x3900, s1 := 0x4, n1 := 68, s2 := 0x0, n2 := 1, reset := 0x0,
    fields := [⟨24, 7, .rw, []⟩, ⟨16, 7, .rw, []⟩, ⟨8, 7, .rw, []⟩, ⟨0, 7, .rw, []⟩] }
/-- SLC_MTROWN.OWN3 (Table 10-11). -/
def F.SLC_MTROWN_OWN3 : Fld := ⟨0x3A80, 0x4, 0x0, 24, 7⟩
/-- SLC_MTROWN.OWN2 (Table 10-11). -/
def F.SLC_MTROWN_OWN2 : Fld := ⟨0x3A80, 0x4, 0x0, 16, 7⟩
/-- SLC_MTROWN.OWN1 (Table 10-11). -/
def F.SLC_MTROWN_OWN1 : Fld := ⟨0x3A80, 0x4, 0x0, 8, 7⟩
/-- SLC_MTROWN.OWN0 (Table 10-11). -/
def F.SLC_MTROWN_OWN0 : Fld := ⟨0x3A80, 0x4, 0x0, 0, 7⟩
/-- SLC_MTROWN (Table 10-11). -/
def R.SLC_MTROWN : RegD :=
  { base := 0x3A80, s1 := 0x4, n1 := 64, s2 := 0x0, n2 := 1, reset := 0x0,
    fields := [⟨24, 7, .rw, []⟩, ⟨16, 7, .rw, []⟩, ⟨8, 7, .rw, []⟩, ⟨0, 7, .rw, []⟩] }
/-- The registers of block Slc. -/
def regsSlc : List RegD :=
  [R.SLC_BIND, R.SLC_STAT, R.SLC_RST, R.SLC_RSTINFO, R.SLC_CFG, R.SLC_ERR, R.SLC_PIPEOWN, R.SLC_STRMOWN, R.SLC_WINOWN, R.SLC_USBOWN, R.SLC_QOWN, R.SLC_MTROWN]

/-! ### Block Fab -/

/-- FAB_ID.VALID (Table 6-9). -/
def F.FAB_ID_VALID : Fld := ⟨0x4000, 0x0, 0x0, 31, 1⟩
/-- FAB_ID.SUMMIT (Table 6-9). -/
def F.FAB_ID_SUMMIT : Fld := ⟨0x4000, 0x0, 0x0, 30, 1⟩
/-- FAB_ID.DEPTH (Table 6-9). -/
def F.FAB_ID_DEPTH : Fld := ⟨0x4000, 0x0, 0x0, 26, 4⟩
/-- FAB_ID.LEN (Table 6-9). -/
def F.FAB_ID_LEN : Fld := ⟨0x4000, 0x0, 0x0, 21, 5⟩
/-- FAB_ID.HUBID (Table 6-9). -/
def F.FAB_ID_HUBID : Fld := ⟨0x4000, 0x0, 0x0, 0, 16⟩
/-- FAB_ID (Table 6-9). -/
def R.FAB_ID : RegD :=
  { base := 0x4000, s1 := 0x0, n1 := 1, s2 := 0x0, n2 := 1, reset := 0x0,
    fields := [⟨31, 1, .ro, []⟩, ⟨30, 1, .ro, []⟩, ⟨26, 4, .ro, []⟩, ⟨21, 5, .ro, []⟩, ⟨0, 16, .ro, []⟩] }
/-- FAB_CTL.SITEID (Table 6-10). -/
def F.FAB_CTL_SITEID : Fld := ⟨0x4004, 0x0, 0x0, 16, 16⟩
/-- FAB_CTL.PORTTMO (Table 6-10). -/
def F.FAB_CTL_PORTTMO : Fld := ⟨0x4004, 0x0, 0x0, 8, 8⟩
/-- FAB_CTL.GRPSP (Table 6-10). -/
def F.FAB_CTL_GRPSP : Fld := ⟨0x4004, 0x0, 0x0, 3, 5⟩
/-- FAB_CTL.START (Table 6-10). -/
def F.FAB_CTL_START : Fld := ⟨0x4004, 0x0, 0x0, 0, 1⟩
/-- FAB_CTL (Table 6-10). -/
def R.FAB_CTL : RegD :=
  { base := 0x4004, s1 := 0x0, n1 := 1, s2 := 0x0, n2 := 1, reset := 0x1440,
    fields := [⟨16, 16, .rwl, []⟩, ⟨8, 8, .rw, [(1, 255)]⟩, ⟨3, 5, .rw, [(1, 31)]⟩, ⟨0, 1, .rw, []⟩] }
/-- FAB_SITE.SREADY (Table 6-11). -/
def F.FAB_SITE_SREADY : Fld := ⟨0x4008, 0x0, 0x0, 31, 1⟩
/-- FAB_SITE.JOINED (Table 6-11). -/
def F.FAB_SITE_JOINED : Fld := ⟨0x4008, 0x0, 0x0, 30, 1⟩
/-- FAB_SITE.READY (Table 6-11). -/
def F.FAB_SITE_READY : Fld := ⟨0x4008, 0x0, 0x0, 29, 1⟩
/-- FAB_SITE.NREADY (Table 6-11). -/
def F.FAB_SITE_NREADY : Fld := ⟨0x4008, 0x0, 0x0, 0, 17⟩
/-- FAB_SITE (Table 6-11). -/
def R.FAB_SITE : RegD :=
  { base := 0x4008, s1 := 0x0, n1 := 1, s2 := 0x0, n2 := 1, reset := 0x0,
    fields := [⟨31, 1, .ro, []⟩, ⟨30, 1, .ro, []⟩, ⟨29, 1, .ro, []⟩, ⟨0, 17, .ro, []⟩] }
/-- FAB_SITEFAIL.NFAIL (Table 6-11). -/
def F.FAB_SITEFAIL_NFAIL : Fld := ⟨0x400C, 0x0, 0x0, 0, 17⟩
/-- FAB_SITEFAIL (Table 6-11). -/
def R.FAB_SITEFAIL : RegD :=
  { base := 0x400C, s1 := 0x0, n1 := 1, s2 := 0x0, n2 := 1, reset := 0x0,
    fields := [⟨0, 17, .ro, []⟩] }
/-- FAB_SRTIME_LO.SRT_LO (Table 6-12). -/
def F.FAB_SRTIME_LO_SRT_LO : Fld := ⟨0x4010, 0x0, 0x0, 0, 32⟩
/-- FAB_SRTIME_LO (Table 6-12). -/
def R.FAB_SRTIME_LO : RegD :=
  { base := 0x4010, s1 := 0x0, n1 := 1, s2 := 0x0, n2 := 1, reset := 0x0,
    fields := [⟨0, 32, .ro, []⟩] }
/-- FAB_SRTIME_HI.SRT_HI (Table 6-12). -/
def F.FAB_SRTIME_HI_SRT_HI : Fld := ⟨0x4014, 0x0, 0x0, 0, 32⟩
/-- FAB_SRTIME_HI (Table 6-12). -/
def R.FAB_SRTIME_HI : RegD :=
  { base := 0x4014, s1 := 0x0, n1 := 1, s2 := 0x0, n2 := 1, reset := 0x0,
    fields := [⟨0, 32, .ro, []⟩] }
/-- FAB_MGMTCFG.KEYEN (Table 6-13). -/
def F.FAB_MGMTCFG_KEYEN : Fld := ⟨0x4020, 0x0, 0x0, 1, 2⟩
/-- FAB_MGMTCFG.REQAUTH (Table 6-13). -/
def F.FAB_MGMTCFG_REQAUTH : Fld := ⟨0x4020, 0x0, 0x0, 0, 1⟩
/-- FAB_MGMTCFG (Table 6-13). -/
def R.FAB_MGMTCFG : RegD :=
  { base := 0x4020, s1 := 0x0, n1 := 1, s2 := 0x0, n2 := 1, reset := 0x7,
    fields := [⟨1, 2, .rwl, []⟩, ⟨0, 1, .rwl, []⟩] }
/-- FAB_MGMTCNT.STALE (Table 6-14). -/
def F.FAB_MGMTCNT_STALE : Fld := ⟨0x4024, 0x0, 0x0, 24, 8⟩
/-- FAB_MGMTCNT.TAGERR (Table 6-14). -/
def F.FAB_MGMTCNT_TAGERR : Fld := ⟨0x4024, 0x0, 0x0, 16, 8⟩
/-- FAB_MGMTCNT.UNTAG (Table 6-14). -/
def F.FAB_MGMTCNT_UNTAG : Fld := ⟨0x4024, 0x0, 0x0, 8, 8⟩
/-- FAB_MGMTCNT.DENIED (Table 6-14). -/
def F.FAB_MGMTCNT_DENIED : Fld := ⟨0x4024, 0x0, 0x0, 0, 8⟩
/-- FAB_MGMTCNT (Table 6-14). -/
def R.FAB_MGMTCNT : RegD :=
  { base := 0x4024, s1 := 0x0, n1 := 1, s2 := 0x0, n2 := 1, reset := 0x0,
    fields := [⟨24, 8, .rc, []⟩, ⟨16, 8, .rc, []⟩, ⟨8, 8, .rc, []⟩, ⟨0, 8, .rc, []⟩] }
/-- FAB_ASMCNT.ROLEERR (Table 6-15). -/
def F.FAB_ASMCNT_ROLEERR : Fld := ⟨0x4028, 0x0, 0x0, 24, 8⟩
/-- FAB_ASMCNT.DLGERR (Table 6-15). -/
def F.FAB_ASMCNT_DLGERR : Fld := ⟨0x4028, 0x0, 0x0, 16, 8⟩
/-- FAB_ASMCNT.FAILED (Table 6-15). -/
def F.FAB_ASMCNT_FAILED : Fld := ⟨0x4028, 0x0, 0x0, 8, 8⟩
/-- FAB_ASMCNT.RETRY (Table 6-15). -/
def F.FAB_ASMCNT_RETRY : Fld := ⟨0x4028, 0x0, 0x0, 0, 8⟩
/-- FAB_ASMCNT (Table 6-15). -/
def R.FAB_ASMCNT : RegD :=
  { base := 0x4028, s1 := 0x0, n1 := 1, s2 := 0x0, n2 := 1, reset := 0x0,
    fields := [⟨24, 8, .rc, []⟩, ⟨16, 8, .rc, []⟩, ⟨8, 8, .rc, []⟩, ⟨0, 8, .rc, []⟩] }
/-- FAB_ROUTECNT.FALLBACK (Table 6-15). -/
def F.FAB_ROUTECNT_FALLBACK : Fld := ⟨0x4030, 0x0, 0x0, 16, 16⟩
/-- FAB_ROUTECNT (Table 6-15). -/
def R.FAB_ROUTECNT : RegD :=
  { base := 0x4030, s1 := 0x0, n1 := 1, s2 := 0x0, n2 := 1, reset := 0x0,
    fields := [⟨16, 16, .rc, []⟩] }
/-- FAB_PORTCFG.OFFSET (Table 6-17). -/
def F.FAB_PORTCFG_OFFSET : Fld := ⟨0x4100, 0x4, 0x0, 16, 16⟩
/-- FAB_PORTCFG.CLEN (Table 6-17). -/
def F.FAB_PORTCFG_CLEN : Fld := ⟨0x4100, 0x4, 0x0, 11, 5⟩
/-- FAB_PORTCFG.DLGMODE (Table 6-17). -/
def F.FAB_PORTCFG_DLGMODE : Fld := ⟨0x4100, 0x4, 0x0, 9, 2⟩
/-- FAB_PORTCFG.PEERPAR (Table 6-17). -/
def F.FAB_PORTCFG_PEERPAR : Fld := ⟨0x4100, 0x4, 0x0, 8, 1⟩
/-- FAB_PORTCFG.ROLE (Table 6-17). -/
def F.FAB_PORTCFG_ROLE : Fld := ⟨0x4100, 0x4, 0x0, 0, 3⟩
/-- FAB_PORTCFG (Table 6-17). -/
def R.FAB_PORTCFG : RegD :=
  { base := 0x4100, s1 := 0x4, n1 := 32, s2 := 0x0, n2 := 1, reset := 0x0,
    fields := [⟨16, 16, .rwl, []⟩, ⟨11, 5, .rwl, []⟩, ⟨9, 2, .rwl, [(0, 2)]⟩, ⟨8, 1, .rwl, []⟩, ⟨0, 3, .rwl, [(0, 5)]⟩] }
/-- FAB_PORTSTAT.STATE (Table 6-18). -/
def F.FAB_PORTSTAT_STATE : Fld := ⟨0x4180, 0x4, 0x0, 28, 4⟩
/-- FAB_PORTSTAT.RESULT (Table 6-18). -/
def F.FAB_PORTSTAT_RESULT : Fld := ⟨0x4180, 0x4, 0x0, 24, 4⟩
/-- FAB_PORTSTAT.KIND (Table 6-18). -/
def F.FAB_PORTSTAT_KIND : Fld := ⟨0x4180, 0x4, 0x0, 20, 4⟩
/-- FAB_PORTSTAT.PHUB (Table 6-18). -/
def F.FAB_PORTSTAT_PHUB : Fld := ⟨0x4180, 0x4, 0x0, 0, 16⟩
/-- FAB_PORTSTAT (Table 6-18). -/
def R.FAB_PORTSTAT : RegD :=
  { base := 0x4180, s1 := 0x4, n1 := 32, s2 := 0x0, n2 := 1, reset := 0x0,
    fields := [⟨28, 4, .ro, []⟩, ⟨24, 4, .ro, []⟩, ⟨20, 4, .ro, []⟩, ⟨0, 16, .ro, []⟩] }
/-- FAB_PORTDLG.VALID (Table 6-18). -/
def F.FAB_PORTDLG_VALID : Fld := ⟨0x4200, 0x4, 0x0, 31, 1⟩
/-- FAB_PORTDLG.LEN (Table 6-18). -/
def F.FAB_PORTDLG_LEN : Fld := ⟨0x4200, 0x4, 0x0, 16, 5⟩
/-- FAB_PORTDLG.BASE (Table 6-18). -/
def F.FAB_PORTDLG_BASE : Fld := ⟨0x4200, 0x4, 0x0, 0, 16⟩
/-- FAB_PORTDLG (Table 6-18). -/
def R.FAB_PORTDLG : RegD :=
  { base := 0x4200, s1 := 0x4, n1 := 32, s2 := 0x0, n2 := 1, reset := 0x0,
    fields := [⟨31, 1, .ro, []⟩, ⟨16, 5, .ro, []⟩, ⟨0, 16, .ro, []⟩] }
/-- FAB_RMGR.EN (Table 6-16). -/
def F.FAB_RMGR_EN : Fld := ⟨0x4300, 0x10, 0x0, 31, 1⟩
/-- FAB_RMGR.SLICE (Table 6-16). -/
def F.FAB_RMGR_SLICE : Fld := ⟨0x4300, 0x10, 0x0, 24, 7⟩
/-- FAB_RMGR.HUBID (Table 6-16). -/
def F.FAB_RMGR_HUBID : Fld := ⟨0x4300, 0x10, 0x0, 0, 16⟩
/-- FAB_RMGR (Table 6-16). -/
def R.FAB_RMGR : RegD :=
  { base := 0x4300, s1 := 0x10, n1 := 16, s2 := 0x0, n2 := 1, reset := 0x0,
    fields := [⟨31, 1, .rwl, []⟩, ⟨24, 7, .rwl, []⟩, ⟨0, 16, .rwl, []⟩] }
/-- FAB_RMGRCTR_LO.CTR_LO (Table 6-16). -/
def F.FAB_RMGRCTR_LO_CTR_LO : Fld := ⟨0x4304, 0x10, 0x0, 0, 32⟩
/-- FAB_RMGRCTR_LO (Table 6-16). -/
def R.FAB_RMGRCTR_LO : RegD :=
  { base := 0x4304, s1 := 0x10, n1 := 16, s2 := 0x0, n2 := 1, reset := 0x0,
    fields := [⟨0, 32, .ro, []⟩] }
/-- FAB_RMGRCTR_HI.CTR_HI (Table 6-16). -/
def F.FAB_RMGRCTR_HI_CTR_HI : Fld := ⟨0x4308, 0x10, 0x0, 0, 16⟩
/-- FAB_RMGRCTR_HI (Table 6-16). -/
def R.FAB_RMGRCTR_HI : RegD :=
  { base := 0x4308, s1 := 0x10, n1 := 16, s2 := 0x0, n2 := 1, reset := 0x0,
    fields := [⟨0, 16, .ro, []⟩] }
/-- FAB_TUNCFG.PROTCNT (Table 5-14). -/
def F.FAB_TUNCFG_PROTCNT : Fld := ⟨0x4400, 0x0, 0x0, 16, 11⟩
/-- FAB_TUNCFG.REORDTMO (Table 5-14). -/
def F.FAB_TUNCFG_REORDTMO : Fld := ⟨0x4400, 0x0, 0x0, 0, 8⟩
/-- FAB_TUNCFG (Table 5-14). -/
def R.FAB_TUNCFG : RegD :=
  { base := 0x4400, s1 := 0x0, n1 := 1, s2 := 0x0, n2 := 1, reset := 0x28,
    fields := [⟨16, 11, .ro, []⟩, ⟨0, 8, .rw, [(1, 255)]⟩] }
/-- FAB_TUNDISC0.NOROUTE (Table 5-15). -/
def F.FAB_TUNDISC0_NOROUTE : Fld := ⟨0x4404, 0x0, 0x0, 24, 8⟩
/-- FAB_TUNDISC0.HOPS (Table 5-15). -/
def F.FAB_TUNDISC0_HOPS : Fld := ⟨0x4404, 0x0, 0x0, 16, 8⟩
/-- FAB_TUNDISC0.HDR (Table 5-15). -/
def F.FAB_TUNDISC0_HDR : Fld := ⟨0x4404, 0x0, 0x0, 8, 8⟩
/-- FAB_TUNDISC0.HCRC (Table 5-15). -/
def F.FAB_TUNDISC0_HCRC : Fld := ⟨0x4404, 0x0, 0x0, 0, 8⟩
/-- FAB_TUNDISC0 (Table 5-15). -/
def R.FAB_TUNDISC0 : RegD :=
  { base := 0x4404, s1 := 0x0, n1 := 1, s2 := 0x0, n2 := 1, reset := 0x0,
    fields := [⟨24, 8, .rc, []⟩, ⟨16, 8, .rc, []⟩, ⟨8, 8, .rc, []⟩, ⟨0, 8, .rc, []⟩] }
/-- FAB_TUNDISC1.BADEND (Table 5-16). -/
def F.FAB_TUNDISC1_BADEND : Fld := ⟨0x4408, 0x0, 0x0, 24, 8⟩
/-- FAB_TUNDISC1.SRCM (Table 5-16). -/
def F.FAB_TUNDISC1_SRCM : Fld := ⟨0x4408, 0x0, 0x0, 16, 8⟩
/-- FAB_TUNDISC1.TYPEM (Table 5-16). -/
def F.FAB_TUNDISC1_TYPEM : Fld := ⟨0x4408, 0x0, 0x0, 8, 8⟩
/-- FAB_TUNDISC1.NOEP (Table 5-16). -/
def F.FAB_TUNDISC1_NOEP : Fld := ⟨0x4408, 0x0, 0x0, 0, 8⟩
/-- FAB_TUNDISC1 (Table 5-16). -/
def R.FAB_TUNDISC1 : RegD :=
  { base := 0x4408, s1 := 0x0, n1 := 1, s2 := 0x0, n2 := 1, reset := 0x0,
    fields := [⟨24, 8, .rc, []⟩, ⟨16, 8, .rc, []⟩, ⟨8, 8, .rc, []⟩, ⟨0, 8, .rc, []⟩] }
/-- FAB_PROTCNT.FAILOVER (Table 5-17). -/
def F.FAB_PROTCNT_FAILOVER : Fld := ⟨0x440C, 0x0, 0x0, 24, 8⟩
/-- FAB_PROTCNT.LOST (Table 5-17). -/
def F.FAB_PROTCNT_LOST : Fld := ⟨0x440C, 0x0, 0x0, 16, 8⟩
/-- FAB_PROTCNT.OOW (Table 5-17). -/
def F.FAB_PROTCNT_OOW : Fld := ⟨0x440C, 0x0, 0x0, 8, 8⟩
/-- FAB_PROTCNT.DUP (Table 5-17). -/
def F.FAB_PROTCNT_DUP : Fld := ⟨0x440C, 0x0, 0x0, 0, 8⟩
/-- FAB_PROTCNT (Table 5-17). -/
def R.FAB_PROTCNT : RegD :=
  { base := 0x440C, s1 := 0x0, n1 := 1, s2 := 0x0, n2 := 1, reset := 0x0,
    fields := [⟨24, 8, .rc, []⟩, ⟨16, 8, .rc, []⟩, ⟨8, 8, .rc, []⟩, ⟨0, 8, .rc, []⟩] }
/-- FAB_RETOCC.CELLS (Table 5-18). -/
def F.FAB_RETOCC_CELLS : Fld := ⟨0x4410, 0x0, 0x0, 0, 17⟩
/-- FAB_RETOCC (Table 5-18). -/
def R.FAB_RETOCC : RegD :=
  { base := 0x4410, s1 := 0x0, n1 := 1, s2 := 0x0, n2 := 1, reset := 0x0,
    fields := [⟨0, 17, .ro, []⟩] }
/-- The registers of block Fab. -/
def regsFab : List RegD :=
  [R.FAB_ID, R.FAB_CTL, R.FAB_SITE, R.FAB_SITEFAIL, R.FAB_SRTIME_LO, R.FAB_SRTIME_HI, R.FAB_MGMTCFG, R.FAB_MGMTCNT, R.FAB_ASMCNT, R.FAB_ROUTECNT, R.FAB_PORTCFG, R.FAB_PORTSTAT, R.FAB_PORTDLG, R.FAB_RMGR, R.FAB_RMGRCTR_LO, R.FAB_RMGRCTR_HI, R.FAB_TUNCFG, R.FAB_TUNDISC0, R.FAB_TUNDISC1, R.FAB_PROTCNT, R.FAB_RETOCC]

/-! ### Block Core -/

/-- CORE_CFG.SWEEPEN (Table 7-6). -/
def F.CORE_CFG_SWEEPEN : Fld := ⟨0x8000, 0x0, 0x0, 2, 1⟩
/-- CORE_CFG.RAEN (Table 7-6). -/
def F.CORE_CFG_RAEN : Fld := ⟨0x8000, 0x0, 0x0, 1, 1⟩
/-- CORE_CFG.CTEN (Table 7-6). -/
def F.CORE_CFG_CTEN : Fld := ⟨0x8000, 0x0, 0x0, 0, 1⟩
/-- CORE_CFG (Table 7-6). -/
def R.CORE_CFG : RegD :=
  { base := 0x8000, s1 := 0x0, n1 := 1, s2 := 0x0, n2 := 1, reset := 0x7,
    fields := [⟨2, 1, .rw, []⟩, ⟨1, 1, .rw, []⟩, ⟨0, 1, .rw, []⟩] }
/-- CORE_STAT.VLEVEL (Table 7-7). -/
def F.CORE_STAT_VLEVEL : Fld := ⟨0x8004, 0x0, 0x0, 4, 2⟩
/-- CORE_STAT.CEIL (Table 7-7). -/
def F.CORE_STAT_CEIL : Fld := ⟨0x8004, 0x0, 0x0, 0, 4⟩
/-- CORE_STAT (Table 7-7). -/
def R.CORE_STAT : RegD :=
  { base := 0x8004, s1 := 0x0, n1 := 1, s2 := 0x0, n2 := 1, reset := 0x2A,
    fields := [⟨4, 2, .ro, []⟩, ⟨0, 4, .ro, []⟩] }
/-- CORE_POOL.SQ (Table 7-8). -/
def F.CORE_POOL_SQ : Fld := ⟨0x8010, 0x0, 0x0, 0, 19⟩
/-- CORE_POOL (Table 7-8). -/
def R.CORE_POOL : RegD :=
  { base := 0x8010, s1 := 0x0, n1 := 1, s2 := 0x0, n2 := 1, reset := 0x3CA00,
    fields := [⟨0, 19, .ro, []⟩] }
/-- CORE_SHFREE.FREE (Table 7-8). -/
def F.CORE_SHFREE_FREE : Fld := ⟨0x8014, 0x0, 0x0, 0, 19⟩
/-- CORE_SHFREE (Table 7-8). -/
def R.CORE_SHFREE : RegD :=
  { base := 0x8014, s1 := 0x0, n1 := 1, s2 := 0x0, n2 := 1, reset := 0x3CA00,
    fields := [⟨0, 19, .ro, []⟩] }
/-- CORE_RETQ.QUOTA (Table 7-9). -/
def F.CORE_RETQ_QUOTA : Fld := ⟨0x8018, 0x0, 0x0, 0, 17⟩
/-- CORE_RETQ (Table 7-9). -/
def R.CORE_RETQ : RegD :=
  { base := 0x8018, s1 := 0x0, n1 := 1, s2 := 0x0, n2 := 1, reset := 0x0,
    fields := [⟨0, 17, .rw, [(0, 65536)]⟩] }
/-- CORE_RACNT.MISS (Table 7-10). -/
def F.CORE_RACNT_MISS : Fld := ⟨0x8020, 0x0, 0x0, 16, 16⟩
/-- CORE_RACNT.NOPRED (Table 7-10). -/
def F.CORE_RACNT_NOPRED : Fld := ⟨0x8020, 0x0, 0x0, 0, 16⟩
/-- CORE_RACNT (Table 7-10). -/
def R.CORE_RACNT : RegD :=
  { base := 0x8020, s1 := 0x0, n1 := 1, s2 := 0x0, n2 := 1, reset := 0x0,
    fields := [⟨16, 16, .rc, []⟩, ⟨0, 16, .rc, []⟩] }
/-- CORE_CTCNT.CUT (Table 7-10). -/
def F.CORE_CTCNT_CUT : Fld := ⟨0x8024, 0x0, 0x0, 16, 16⟩
/-- CORE_CTCNT.STORED (Table 7-10). -/
def F.CORE_CTCNT_STORED : Fld := ⟨0x8024, 0x0, 0x0, 0, 16⟩
/-- CORE_CTCNT (Table 7-10). -/
def R.CORE_CTCNT : RegD :=
  { base := 0x8024, s1 := 0x0, n1 := 1, s2 := 0x0, n2 := 1, reset := 0x0,
    fields := [⟨16, 16, .rc, []⟩, ⟨0, 16, .rc, []⟩] }
/-- CORE_RAHIT.HIT (Table 7-11). -/
def F.CORE_RAHIT_HIT : Fld := ⟨0x8028, 0x0, 0x0, 0, 32⟩
/-- CORE_RAHIT (Table 7-11). -/
def R.CORE_RAHIT : RegD :=
  { base := 0x8028, s1 := 0x0, n1 := 1, s2 := 0x0, n2 := 1, reset := 0x0,
    fields := [⟨0, 32, .rc, []⟩] }
/-- CORE_DROPCNT0.THRESH (Table 7-12). -/
def F.CORE_DROPCNT0_THRESH : Fld := ⟨0x802C, 0x0, 0x0, 16, 16⟩
/-- CORE_DROPCNT0.AGED (Table 7-12). -/
def F.CORE_DROPCNT0_AGED : Fld := ⟨0x802C, 0x0, 0x0, 0, 16⟩
/-- CORE_DROPCNT0 (Table 7-12). -/
def R.CORE_DROPCNT0 : RegD :=
  { base := 0x802C, s1 := 0x0, n1 := 1, s2 := 0x0, n2 := 1, reset := 0x0,
    fields := [⟨16, 16, .rc, []⟩, ⟨0, 16, .rc, []⟩] }
/-- CORE_DROPCNT1.EGRDOWN (Table 7-12). -/
def F.CORE_DROPCNT1_EGRDOWN : Fld := ⟨0x8030, 0x0, 0x0, 24, 8⟩
/-- CORE_DROPCNT1.MARKED (Table 7-12). -/
def F.CORE_DROPCNT1_MARKED : Fld := ⟨0x8030, 0x0, 0x0, 16, 8⟩
/-- CORE_DROPCNT1.ENDFAIL (Table 7-12). -/
def F.CORE_DROPCNT1_ENDFAIL : Fld := ⟨0x8030, 0x0, 0x0, 0, 16⟩
/-- CORE_DROPCNT1 (Table 7-12). -/
def R.CORE_DROPCNT1 : RegD :=
  { base := 0x8030, s1 := 0x0, n1 := 1, s2 := 0x0, n2 := 1, reset := 0x0,
    fields := [⟨24, 8, .rc, []⟩, ⟨16, 8, .rc, []⟩, ⟨0, 16, .rc, []⟩] }
/-- CORE_ECCCNT.RETIRED (Table 7-13). -/
def F.CORE_ECCCNT_RETIRED : Fld := ⟨0x8034, 0x0, 0x0, 24, 8⟩
/-- CORE_ECCCNT.REPAIRED (Table 7-13). -/
def F.CORE_ECCCNT_REPAIRED : Fld := ⟨0x8034, 0x0, 0x0, 16, 8⟩
/-- CORE_ECCCNT.UNCORR (Table 7-13). -/
def F.CORE_ECCCNT_UNCORR : Fld := ⟨0x8034, 0x0, 0x0, 8, 8⟩
/-- CORE_ECCCNT.CORR (Table 7-13). -/
def F.CORE_ECCCNT_CORR : Fld := ⟨0x8034, 0x0, 0x0, 0, 8⟩
/-- CORE_ECCCNT (Table 7-13). -/
def R.CORE_ECCCNT : RegD :=
  { base := 0x8034, s1 := 0x0, n1 := 1, s2 := 0x0, n2 := 1, reset := 0x0,
    fields := [⟨24, 8, .ro, []⟩, ⟨16, 8, .ro, []⟩, ⟨8, 8, .rc, []⟩, ⟨0, 8, .rc, []⟩] }
/-- CORE_FCCTL.FLUSH (Table 7-14). -/
def F.CORE_FCCTL_FLUSH : Fld := ⟨0x8040, 0x0, 0x0, 0, 1⟩
/-- CORE_FCCTL (Table 7-14). -/
def R.CORE_FCCTL : RegD :=
  { base := 0x8040, s1 := 0x0, n1 := 1, s2 := 0x0, n2 := 1, reset := 0x0,
    fields := [⟨0, 1, .wo, []⟩] }
/-- CORE_CLSCFG.MODE (Table 7-14). -/
def F.CORE_CLSCFG_MODE : Fld := ⟨0x8100, 0x4, 0x0, 16, 1⟩
/-- CORE_CLSCFG.LIFE (Table 7-14). -/
def F.CORE_CLSCFG_LIFE : Fld := ⟨0x8100, 0x4, 0x0, 0, 16⟩
/-- CORE_CLSCFG (Table 7-14). -/
def R.CORE_CLSCFG : RegD :=
  { base := 0x8100, s1 := 0x4, n1 := 8, s2 := 0x0, n2 := 1, reset := 0xC8,
    fields := [⟨16, 1, .rw, []⟩, ⟨0, 16, .rw, []⟩] }
/-- CORE_QCFG.ALPHA (Table 7-15). -/
def F.CORE_QCFG_ALPHA : Fld := ⟨0x8800, 0x4, 0x0, 24, 4⟩
/-- CORE_QCFG.MIN (Table 7-15). -/
def F.CORE_QCFG_MIN : Fld := ⟨0x8800, 0x4, 0x0, 0, 18⟩
/-- CORE_QCFG (Table 7-15). -/
def R.CORE_QCFG : RegD :=
  { base := 0x8800, s1 := 0x4, n1 := 272, s2 := 0x0, n2 := 1, reset := 0x6000000,
    fields := [⟨24, 4, .rw, [(0, 9)]⟩, ⟨0, 18, .rw, []⟩] }
/-- CORE_QOCC.OCC (Table 7-15). -/
def F.CORE_QOCC_OCC : Fld := ⟨0x9000, 0x4, 0x0, 0, 19⟩
/-- CORE_QOCC (Table 7-15). -/
def R.CORE_QOCC : RegD :=
  { base := 0x9000, s1 := 0x4, n1 := 272, s2 := 0x0, n2 := 1, reset := 0x0,
    fields := [⟨0, 19, .ro, []⟩] }
/-- The registers of block Core. -/
def regsCore : List RegD :=
  [R.CORE_CFG, R.CORE_STAT, R.CORE_POOL, R.CORE_SHFREE, R.CORE_RETQ, R.CORE_RACNT, R.CORE_CTCNT, R.CORE_RAHIT, R.CORE_DROPCNT0, R.CORE_DROPCNT1, R.CORE_ECCCNT, R.CORE_FCCTL, R.CORE_CLSCFG, R.CORE_QCFG, R.CORE_QOCC]

/-! ### Block Trf -/

/-- TRF_SHREF.PERIOD (Table 8-6). -/
def F.TRF_SHREF_PERIOD : Fld := ⟨0xA000, 0x0, 0x0, 0, 3⟩
/-- TRF_SHREF (Table 8-6). -/
def R.TRF_SHREF : RegD :=
  { base := 0xA000, s1 := 0x0, n1 := 1, s2 := 0x0, n2 := 1, reset := 0x2,
    fields := [⟨0, 3, .rw, [(0, 6)]⟩] }
/-- TRF_CNT0.PROMOTED (Table 8-7). -/
def F.TRF_CNT0_PROMOTED : Fld := ⟨0xA004, 0x0, 0x0, 16, 16⟩
/-- TRF_CNT0.OVERRUN (Table 8-7). -/
def F.TRF_CNT0_OVERRUN : Fld := ⟨0xA004, 0x0, 0x0, 0, 16⟩
/-- TRF_CNT0 (Table 8-7). -/
def R.TRF_CNT0 : RegD :=
  { base := 0xA004, s1 := 0x0, n1 := 1, s2 := 0x0, n2 := 1, reset := 0x0,
    fields := [⟨16, 16, .rc, []⟩, ⟨0, 16, .rc, []⟩] }
/-- TRF_CNT1.METERDROP (Table 8-7). -/
def F.TRF_CNT1_METERDROP : Fld := ⟨0xA008, 0x0, 0x0, 16, 16⟩
/-- TRF_CNT1 (Table 8-7). -/
def R.TRF_CNT1 : RegD :=
  { base := 0xA008, s1 := 0x0, n1 := 1, s2 := 0x0, n2 := 1, reset := 0x0,
    fields := [⟨16, 16, .rc, []⟩] }
/-- TRF_OVH.OVH (Table 8-8). -/
def F.TRF_OVH_OVH : Fld := ⟨0xA100, 0x4, 0x0, 0, 8⟩
/-- TRF_OVH (Table 8-8). -/
def R.TRF_OVH : RegD :=
  { base := 0xA100, s1 := 0x4, n1 := 34, s2 := 0x0, n2 := 1, reset := 0x20,
    fields := [⟨0, 8, .rw, [(0, 96), (224, 255)]⟩] }
/-- TRF_URGSP.SPACING (Table 8-9). -/
def F.TRF_URGSP_SPACING : Fld := ⟨0xA200, 0x4, 0x0, 0, 16⟩
/-- TRF_URGSP (Table 8-9). -/
def R.TRF_URGSP : RegD :=
  { base := 0xA200, s1 := 0x4, n1 := 34, s2 := 0x0, n2 := 1, reset := 0xA,
    fields := [⟨0, 16, .rw, []⟩] }
/-- TRF_URGAGE.AGE (Table 8-10). -/
def F.TRF_URGAGE_AGE : Fld := ⟨0xA300, 0x4, 0x0, 0, 16⟩
/-- TRF_URGAGE (Table 8-10). -/
def R.TRF_URGAGE : RegD :=
  { base := 0xA300, s1 := 0x4, n1 := 8, s2 := 0x0, n2 := 1, reset := 0x0,
    fields := [⟨0, 16, .rw, []⟩] }
/-- TRF_GCTL.ABORT (Table 8-11). -/
def F.TRF_GCTL_ABORT : Fld := ⟨0xA400, 0x20, 0x0, 9, 1⟩
/-- TRF_GCTL.COMMIT (Table 8-11). -/
def F.TRF_GCTL_COMMIT : Fld := ⟨0xA400, 0x20, 0x0, 8, 1⟩
/-- TRF_GCTL.GUARD (Table 8-11). -/
def F.TRF_GCTL_GUARD : Fld := ⟨0xA400, 0x20, 0x0, 1, 1⟩
/-- TRF_GCTL.EN (Table 8-11). -/
def F.TRF_GCTL_EN : Fld := ⟨0xA400, 0x20, 0x0, 0, 1⟩
/-- TRF_GCTL (Table 8-11). -/
def R.TRF_GCTL : RegD :=
  { base := 0xA400, s1 := 0x20, n1 := 34, s2 := 0x0, n2 := 1, reset := 0x2,
    fields := [⟨9, 1, .wo, []⟩, ⟨8, 1, .wo, []⟩, ⟨1, 1, .rw, []⟩, ⟨0, 1, .rw, []⟩] }
/-- TRF_GSTAT.PEND (Table 8-12). -/
def F.TRF_GSTAT_PEND : Fld := ⟨0xA404, 0x20, 0x0, 31, 1⟩
/-- TRF_GSTAT.LATE (Table 8-12). -/
def F.TRF_GSTAT_LATE : Fld := ⟨0xA404, 0x20, 0x0, 30, 1⟩
/-- TRF_GSTAT.CERR (Table 8-12). -/
def F.TRF_GSTAT_CERR : Fld := ⟨0xA404, 0x20, 0x0, 29, 1⟩
/-- TRF_GSTAT.ACTBANK (Table 8-12). -/
def F.TRF_GSTAT_ACTBANK : Fld := ⟨0xA404, 0x20, 0x0, 28, 1⟩
/-- TRF_GSTAT.ENTRY (Table 8-12). -/
def F.TRF_GSTAT_ENTRY : Fld := ⟨0xA404, 0x20, 0x0, 8, 8⟩
/-- TRF_GSTAT.GATES (Table 8-12). -/
def F.TRF_GSTAT_GATES : Fld := ⟨0xA404, 0x20, 0x0, 0, 8⟩
/-- TRF_GSTAT (Table 8-12). -/
def R.TRF_GSTAT : RegD :=
  { base := 0xA404, s1 := 0x20, n1 := 34, s2 := 0x0, n2 := 1, reset := 0xFF,
    fields := [⟨31, 1, .ro, []⟩, ⟨30, 1, .w1c, []⟩, ⟨29, 1, .w1c, []⟩, ⟨28, 1, .ro, []⟩, ⟨8, 8, .ro, []⟩, ⟨0, 8, .ro, []⟩] }
/-- TRF_GLEN.LEN1 (Table 8-13). -/
def F.TRF_GLEN_LEN1 : Fld := ⟨0xA408, 0x20, 0x0, 16, 9⟩
/-- TRF_GLEN.LEN0 (Table 8-13). -/
def F.TRF_GLEN_LEN0 : Fld := ⟨0xA408, 0x20, 0x0, 0, 9⟩
/-- TRF_GLEN (Table 8-13). -/
def R.TRF_GLEN : RegD :=
  { base := 0xA408, s1 := 0x20, n1 := 34, s2 := 0x0, n2 := 1, reset := 0x10001,
    fields := [⟨16, 9, .rw, [(1, 256)]⟩, ⟨0, 9, .rw, [(1, 256)]⟩] }
/-- TRF_GCYC0.CYCLE (Table 8-14). -/
def F.TRF_GCYC0_CYCLE : Fld := ⟨0xA40C, 0x20, 0x0, 0, 32⟩
/-- TRF_GCYC0 (Table 8-14). -/
def R.TRF_GCYC0 : RegD :=
  { base := 0xA40C, s1 := 0x20, n1 := 34, s2 := 0x0, n2 := 1, reset := 0x0,
    fields := [⟨0, 32, .rw, []⟩] }
/-- TRF_GCYC1.CYCLE (Table 8-14). -/
def F.TRF_GCYC1_CYCLE : Fld := ⟨0xA410, 0x20, 0x0, 0, 32⟩
/-- TRF_GCYC1 (Table 8-14). -/
def R.TRF_GCYC1 : RegD :=
  { base := 0xA410, s1 := 0x20, n1 := 34, s2 := 0x0, n2 := 1, reset := 0x0,
    fields := [⟨0, 32, .rw, []⟩] }
/-- TRF_GBASE_LO.BASE_LO (Table 8-14). -/
def F.TRF_GBASE_LO_BASE_LO : Fld := ⟨0xA414, 0x20, 0x0, 0, 32⟩
/-- TRF_GBASE_LO (Table 8-14). -/
def R.TRF_GBASE_LO : RegD :=
  { base := 0xA414, s1 := 0x20, n1 := 34, s2 := 0x0, n2 := 1, reset := 0x0,
    fields := [⟨0, 32, .rw, []⟩] }
/-- TRF_GBASE_HI.BASE_HI (Table 8-14). -/
def F.TRF_GBASE_HI_BASE_HI : Fld := ⟨0xA418, 0x20, 0x0, 0, 32⟩
/-- TRF_GBASE_HI (Table 8-14). -/
def R.TRF_GBASE_HI : RegD :=
  { base := 0xA418, s1 := 0x20, n1 := 34, s2 := 0x0, n2 := 1, reset := 0x0,
    fields := [⟨0, 32, .rw, []⟩] }
/-- TRF_SHPCFG.EN (Table 8-15). -/
def F.TRF_SHPCFG_EN : Fld := ⟨0xA900, 0x8, 0x0, 31, 1⟩
/-- TRF_SHPCFG.WIN (Table 8-15). -/
def F.TRF_SHPCFG_WIN : Fld := ⟨0xA900, 0x8, 0x0, 28, 3⟩
/-- TRF_SHPCFG.HOLDN (Table 8-15). -/
def F.TRF_SHPCFG_HOLDN : Fld := ⟨0xA900, 0x8, 0x0, 24, 4⟩
/-- TRF_SHPCFG.DWELL (Table 8-15). -/
def F.TRF_SHPCFG_DWELL : Fld := ⟨0xA900, 0x8, 0x0, 16, 8⟩
/-- TRF_SHPCFG.HI (Table 8-15). -/
def F.TRF_SHPCFG_HI : Fld := ⟨0xA900, 0x8, 0x0, 8, 8⟩
/-- TRF_SHPCFG.LO (Table 8-15). -/
def F.TRF_SHPCFG_LO : Fld := ⟨0xA900, 0x8, 0x0, 0, 8⟩
/-- TRF_SHPCFG (Table 8-15). -/
def R.TRF_SHPCFG : RegD :=
  { base := 0xA900, s1 := 0x8, n1 := 32, s2 := 0x0, n2 := 1, reset := 0x4410E640,
    fields := [⟨31, 1, .rw, []⟩, ⟨28, 3, .rw, []⟩, ⟨24, 4, .rw, [(1, 15)]⟩, ⟨16, 8, .rw, []⟩, ⟨8, 8, .rw, []⟩, ⟨0, 8, .rw, []⟩] }
/-- TRF_SHPSTAT.UTX (Table 8-16). -/
def F.TRF_SHPSTAT_UTX : Fld := ⟨0xA904, 0x8, 0x0, 24, 8⟩
/-- TRF_SHPSTAT.URX (Table 8-16). -/
def F.TRF_SHPSTAT_URX : Fld := ⟨0xA904, 0x8, 0x0, 16, 8⟩
/-- TRF_SHPSTAT.STREAK (Table 8-16). -/
def F.TRF_SHPSTAT_STREAK : Fld := ⟨0xA904, 0x8, 0x0, 12, 4⟩
/-- TRF_SHPSTAT.TRIG (Table 8-16). -/
def F.TRF_SHPSTAT_TRIG : Fld := ⟨0xA904, 0x8, 0x0, 8, 4⟩
/-- TRF_SHPSTAT.DWLEFT (Table 8-16). -/
def F.TRF_SHPSTAT_DWLEFT : Fld := ⟨0xA904, 0x8, 0x0, 0, 8⟩
/-- TRF_SHPSTAT (Table 8-16). -/
def R.TRF_SHPSTAT : RegD :=
  { base := 0xA904, s1 := 0x8, n1 := 32, s2 := 0x0, n2 := 1, reset := 0x0,
    fields := [⟨24, 8, .ro, []⟩, ⟨16, 8, .ro, []⟩, ⟨12, 4, .ro, []⟩, ⟨8, 4, .ro, []⟩, ⟨0, 8, .ro, []⟩] }
/-- The registers of block Trf. -/
def regsTrf : List RegD :=
  [R.TRF_SHREF, R.TRF_CNT0, R.TRF_CNT1, R.TRF_OVH, R.TRF_URGSP, R.TRF_URGAGE, R.TRF_GCTL, R.TRF_GSTAT, R.TRF_GLEN, R.TRF_GCYC0, R.TRF_GCYC1, R.TRF_GBASE_LO, R.TRF_GBASE_HI, R.TRF_SHPCFG, R.TRF_SHPSTAT]

/-! ### Block Blk -/

/-- BLK_CFG.BOFF (Table 11-2). -/
def F.BLK_CFG_BOFF : Fld := ⟨0xC000, 0x0, 0x0, 24, 8⟩
/-- BLK_CFG.BUSYMAX (Table 11-2). -/
def F.BLK_CFG_BUSYMAX : Fld := ⟨0xC000, 0x0, 0x0, 16, 8⟩
/-- BLK_CFG.RDTMO (Table 11-2). -/
def F.BLK_CFG_RDTMO : Fld := ⟨0xC000, 0x0, 0x0, 0, 16⟩
/-- BLK_CFG (Table 11-2). -/
def R.BLK_CFG : RegD :=
  { base := 0xC000, s1 := 0x0, n1 := 1, s2 := 0x0, n2 := 1, reset := 0x2100064,
    fields := [⟨24, 8, .rw, [(1, 255)]⟩, ⟨16, 8, .rw, [(1, 255)]⟩, ⟨0, 16, .rw, [(1, 65535)]⟩] }
/-- BLK_CFG1.SYNCTMO (Table 11-3). -/
def F.BLK_CFG1_SYNCTMO : Fld := ⟨0xC004, 0x0, 0x0, 16, 16⟩
/-- BLK_CFG1.SYNCTH (Table 11-3). -/
def F.BLK_CFG1_SYNCTH : Fld := ⟨0xC004, 0x0, 0x0, 0, 16⟩
/-- BLK_CFG1 (Table 11-3). -/
def R.BLK_CFG1 : RegD :=
  { base := 0xC004, s1 := 0x0, n1 := 1, s2 := 0x0, n2 := 1, reset := 0x320080,
    fields := [⟨16, 16, .rw, [(1, 65535)]⟩, ⟨0, 16, .rw, [(1, 1024)]⟩] }
/-- BLK_STAT.HOLD (Table 11-4). -/
def F.BLK_STAT_HOLD : Fld := ⟨0xC008, 0x0, 0x0, 16, 13⟩
/-- BLK_STAT.TAGS (Table 11-4). -/
def F.BLK_STAT_TAGS : Fld := ⟨0xC008, 0x0, 0x0, 0, 9⟩
/-- BLK_STAT (Table 11-4). -/
def R.BLK_STAT : RegD :=
  { base := 0xC008, s1 := 0x0, n1 := 1, s2 := 0x0, n2 := 1, reset := 0x0,
    fields := [⟨16, 13, .ro, []⟩, ⟨0, 9, .ro, []⟩] }
/-- BLK_CNT.B4UNMAP (Table 11-4). -/
def F.BLK_CNT_B4UNMAP : Fld := ⟨0xC00C, 0x0, 0x0, 16, 16⟩
/-- BLK_CNT.INUNMAP (Table 11-4). -/
def F.BLK_CNT_INUNMAP : Fld := ⟨0xC00C, 0x0, 0x0, 0, 16⟩
/-- BLK_CNT (Table 11-4). -/
def R.BLK_CNT : RegD :=
  { base := 0xC00C, s1 := 0x0, n1 := 1, s2 := 0x0, n2 := 1, reset := 0x0,
    fields := [⟨16, 16, .rc, []⟩, ⟨0, 16, .rc, []⟩] }
/-- BLK_WCTL.EN (Table 11-5). -/
def F.BLK_WCTL_EN : Fld := ⟨0xC100, 0x40, 0x0, 31, 1⟩
/-- BLK_WCTL.STATE (Table 11-5). -/
def F.BLK_WCTL_STATE : Fld := ⟨0xC100, 0x40, 0x0, 28, 3⟩
/-- BLK_WCTL.ERRCODE (Table 11-5). -/
def F.BLK_WCTL_ERRCODE : Fld := ⟨0xC100, 0x40, 0x0, 24, 4⟩
/-- BLK_WCTL.LOG2SZ (Table 11-5). -/
def F.BLK_WCTL_LOG2SZ : Fld := ⟨0xC100, 0x40, 0x0, 16, 6⟩
/-- BLK_WCTL.INEN (Table 11-5). -/
def F.BLK_WCTL_INEN : Fld := ⟨0xC100, 0x40, 0x0, 15, 1⟩
/-- BLK_WCTL.TUN (Table 11-5). -/
def F.BLK_WCTL_TUN : Fld := ⟨0xC100, 0x40, 0x0, 0, 12⟩
/-- BLK_WCTL (Table 11-5). -/
def R.BLK_WCTL : RegD :=
  { base := 0xC100, s1 := 0x40, n1 := 16, s2 := 0x0, n2 := 1, reset := 0xC0000,
    fields := [⟨31, 1, .rw, []⟩, ⟨28, 3, .ro, []⟩, ⟨24, 4, .ro, []⟩, ⟨16, 6, .rw, [(12, 36)]⟩, ⟨15, 1, .rw, []⟩, ⟨0, 12, .rw, []⟩] }
/-- BLK_WOFF.OFF (Table 11-6). -/
def F.BLK_WOFF_OFF : Fld := ⟨0xC104, 0x40, 0x0, 0, 28⟩
/-- BLK_WOFF (Table 11-6). -/
def R.BLK_WOFF : RegD :=
  { base := 0xC104, s1 := 0x40, n1 := 16, s2 := 0x0, n2 := 1, reset := 0x0,
    fields := [⟨0, 28, .rw, []⟩] }
/-- BLK_ISZ.ILOG2 (Table 11-6). -/
def F.BLK_ISZ_ILOG2 : Fld := ⟨0xC118, 0x40, 0x0, 0, 6⟩
/-- BLK_ISZ (Table 11-6). -/
def R.BLK_ISZ : RegD :=
  { base := 0xC118, s1 := 0x40, n1 := 16, s2 := 0x0, n2 := 1, reset := 0xC,
    fields := [⟨0, 6, .rw, [(12, 40)]⟩] }
/-- BLK_RBASE_LO.BASE (Table 11-7). -/
def F.BLK_RBASE_LO_BASE : Fld := ⟨0xC108, 0x40, 0x0, 0, 32⟩
/-- BLK_RBASE_LO (Table 11-7). -/
def R.BLK_RBASE_LO : RegD :=
  { base := 0xC108, s1 := 0x40, n1 := 16, s2 := 0x0, n2 := 1, reset := 0x0,
    fields := [⟨0, 32, .rw, []⟩] }
/-- BLK_RBASE_HI.BASE (Table 11-7). -/
def F.BLK_RBASE_HI_BASE : Fld := ⟨0xC10C, 0x40, 0x0, 0, 32⟩
/-- BLK_RBASE_HI (Table 11-7). -/
def R.BLK_RBASE_HI : RegD :=
  { base := 0xC10C, s1 := 0x40, n1 := 16, s2 := 0x0, n2 := 1, reset := 0x0,
    fields := [⟨0, 32, .rw, []⟩] }
/-- BLK_IBASE_LO.BASE (Table 11-7). -/
def F.BLK_IBASE_LO_BASE : Fld := ⟨0xC110, 0x40, 0x0, 0, 32⟩
/-- BLK_IBASE_LO (Table 11-7). -/
def R.BLK_IBASE_LO : RegD :=
  { base := 0xC110, s1 := 0x40, n1 := 16, s2 := 0x0, n2 := 1, reset := 0x0,
    fields := [⟨0, 32, .rw, []⟩] }
/-- BLK_IBASE_HI.BASE (Table 11-7). -/
def F.BLK_IBASE_HI_BASE : Fld := ⟨0xC114, 0x40, 0x0, 0, 32⟩
/-- BLK_IBASE_HI (Table 11-7). -/
def R.BLK_IBASE_HI : RegD :=
  { base := 0xC114, s1 := 0x40, n1 := 16, s2 := 0x0, n2 := 1, reset := 0x0,
    fields := [⟨0, 32, .rw, []⟩] }
/-- BLK_POLLCFG.PEN (Table 11-8). -/
def F.BLK_POLLCFG_PEN : Fld := ⟨0xC11C, 0x40, 0x0, 31, 1⟩
/-- BLK_POLLCFG.VEC (Table 11-8). -/
def F.BLK_POLLCFG_VEC : Fld := ⟨0xC11C, 0x40, 0x0, 16, 11⟩
/-- BLK_POLLCFG.PINT (Table 11-8). -/
def F.BLK_POLLCFG_PINT : Fld := ⟨0xC11C, 0x40, 0x0, 0, 16⟩
/-- BLK_POLLCFG (Table 11-8). -/
def R.BLK_POLLCFG : RegD :=
  { base := 0xC11C, s1 := 0x40, n1 := 16, s2 := 0x0, n2 := 1, reset := 0x3E8,
    fields := [⟨31, 1, .rw, []⟩, ⟨16, 11, .rw, []⟩, ⟨0, 16, .rw, [(1, 65535)]⟩] }
/-- BLK_POLLOFF_LO.POLLOFF_LO (Table 11-9). -/
def F.BLK_POLLOFF_LO_POLLOFF_LO : Fld := ⟨0xC120, 0x40, 0x0, 0, 32⟩
/-- BLK_POLLOFF_LO (Table 11-9). -/
def R.BLK_POLLOFF_LO : RegD :=
  { base := 0xC120, s1 := 0x40, n1 := 16, s2 := 0x0, n2 := 1, reset := 0x0,
    fields := [⟨0, 32, .rw, []⟩] }
/-- BLK_POLLOFF_HI.POLLOFF_HI (Table 11-9). -/
def F.BLK_POLLOFF_HI_POLLOFF_HI : Fld := ⟨0xC124, 0x40, 0x0, 0, 32⟩
/-- BLK_POLLOFF_HI (Table 11-9). -/
def R.BLK_POLLOFF_HI : RegD :=
  { base := 0xC124, s1 := 0x40, n1 := 16, s2 := 0x0, n2 := 1, reset := 0x0,
    fields := [⟨0, 32, .rw, []⟩] }
/-- BLK_POLLVAL.POLLVAL (Table 11-9). -/
def F.BLK_POLLVAL_POLLVAL : Fld := ⟨0xC128, 0x40, 0x0, 0, 32⟩
/-- BLK_POLLVAL (Table 11-9). -/
def R.BLK_POLLVAL : RegD :=
  { base := 0xC128, s1 := 0x40, n1 := 16, s2 := 0x0, n2 := 1, reset := 0x0,
    fields := [⟨0, 32, .ro, []⟩] }
/-- BLK_WCNT0.RESEND (Table 11-10). -/
def F.BLK_WCNT0_RESEND : Fld := ⟨0xC12C, 0x40, 0x0, 16, 16⟩
/-- BLK_WCNT0.INBUSY (Table 11-10). -/
def F.BLK_WCNT0_INBUSY : Fld := ⟨0xC12C, 0x40, 0x0, 0, 16⟩
/-- BLK_WCNT0 (Table 11-10). -/
def R.BLK_WCNT0 : RegD :=
  { base := 0xC12C, s1 := 0x40, n1 := 16, s2 := 0x0, n2 := 1, reset := 0x0,
    fields := [⟨16, 16, .rc, []⟩, ⟨0, 16, .rc, []⟩] }
/-- BLK_WCNT1.TIMEOUT (Table 11-11). -/
def F.BLK_WCNT1_TIMEOUT : Fld := ⟨0xC130, 0x40, 0x0, 24, 8⟩
/-- BLK_WCNT1.ERRCPL (Table 11-11). -/
def F.BLK_WCNT1_ERRCPL : Fld := ⟨0xC130, 0x40, 0x0, 16, 8⟩
/-- BLK_WCNT1.HOLDDISC (Table 11-11). -/
def F.BLK_WCNT1_HOLDDISC : Fld := ⟨0xC130, 0x40, 0x0, 8, 8⟩
/-- BLK_WCNT1.SYNC (Table 11-11). -/
def F.BLK_WCNT1_SYNC : Fld := ⟨0xC130, 0x40, 0x0, 0, 8⟩
/-- BLK_WCNT1 (Table 11-11). -/
def R.BLK_WCNT1 : RegD :=
  { base := 0xC130, s1 := 0x40, n1 := 16, s2 := 0x0, n2 := 1, reset := 0x0,
    fields := [⟨24, 8, .rc, []⟩, ⟨16, 8, .rc, []⟩, ⟨8, 8, .rc, []⟩, ⟨0, 8, .rc, []⟩] }
/-- The registers of block Blk. -/
def regsBlk : List RegD :=
  [R.BLK_CFG, R.BLK_CFG1, R.BLK_STAT, R.BLK_CNT, R.BLK_WCTL, R.BLK_WOFF, R.BLK_ISZ, R.BLK_RBASE_LO, R.BLK_RBASE_HI, R.BLK_IBASE_LO, R.BLK_IBASE_HI, R.BLK_POLLCFG, R.BLK_POLLOFF_LO, R.BLK_POLLOFF_HI, R.BLK_POLLVAL, R.BLK_WCNT0, R.BLK_WCNT1]

/-! ### Block Peri -/

/-- PERI_CFG.RTO (Table 13-7). -/
def F.PERI_CFG_RTO : Fld := ⟨0xD000, 0x0, 0x0, 24, 8⟩
/-- PERI_CFG.ACKDLY (Table 13-7). -/
def F.PERI_CFG_ACKDLY : Fld := ⟨0xD000, 0x0, 0x0, 16, 8⟩
/-- PERI_CFG.LOSTN (Table 13-7). -/
def F.PERI_CFG_LOSTN : Fld := ⟨0xD000, 0x0, 0x0, 12, 4⟩
/-- PERI_CFG.EN (Table 13-7). -/
def F.PERI_CFG_EN : Fld := ⟨0xD000, 0x0, 0x0, 0, 1⟩
/-- PERI_CFG (Table 13-7). -/
def R.PERI_CFG : RegD :=
  { base := 0xD000, s1 := 0x0, n1 := 1, s2 := 0x0, n2 := 1, reset := 0x14C88000,
    fields := [⟨24, 8, .rw, [(1, 255)]⟩, ⟨16, 8, .rw, [(1, 255)]⟩, ⟨12, 4, .rw, [(1, 15)]⟩, ⟨0, 1, .rw, []⟩] }
/-- PERI_STAT.SOFRUN (Table 13-8). -/
def F.PERI_STAT_SOFRUN : Fld := ⟨0xD004, 0x0, 0x0, 31, 1⟩
/-- PERI_STAT.UFRAME (Table 13-8). -/
def F.PERI_STAT_UFRAME : Fld := ⟨0xD004, 0x0, 0x0, 11, 3⟩
/-- PERI_STAT.FRAME (Table 13-8). -/
def F.PERI_STAT_FRAME : Fld := ⟨0xD004, 0x0, 0x0, 0, 11⟩
/-- PERI_STAT (Table 13-8). -/
def R.PERI_STAT : RegD :=
  { base := 0xD004, s1 := 0x0, n1 := 1, s2 := 0x0, n2 := 1, reset := 0x0,
    fields := [⟨31, 1, .ro, []⟩, ⟨11, 3, .ro, []⟩, ⟨0, 11, .ro, []⟩] }
/-- PERI_CNT.SESSLOST (Table 13-8). -/
def F.PERI_CNT_SESSLOST : Fld := ⟨0xD008, 0x0, 0x0, 24, 8⟩
/-- PERI_CNT.OOW (Table 13-8). -/
def F.PERI_CNT_OOW : Fld := ⟨0xD008, 0x0, 0x0, 16, 8⟩
/-- PERI_CNT.RESEND (Table 13-8). -/
def F.PERI_CNT_RESEND : Fld := ⟨0xD008, 0x0, 0x0, 0, 16⟩
/-- PERI_CNT (Table 13-8). -/
def R.PERI_CNT : RegD :=
  { base := 0xD008, s1 := 0x0, n1 := 1, s2 := 0x0, n2 := 1, reset := 0x0,
    fields := [⟨24, 8, .rc, []⟩, ⟨16, 8, .rc, []⟩, ⟨0, 16, .rc, []⟩] }
/-- PERI_CNT1.NOROOM (Table 13-8). -/
def F.PERI_CNT1_NOROOM : Fld := ⟨0xD00C, 0x0, 0x0, 16, 16⟩
/-- PERI_CNT1.UFSKIP (Table 13-8). -/
def F.PERI_CNT1_UFSKIP : Fld := ⟨0xD00C, 0x0, 0x0, 0, 16⟩
/-- PERI_CNT1 (Table 13-8). -/
def R.PERI_CNT1 : RegD :=
  { base := 0xD00C, s1 := 0x0, n1 := 1, s2 := 0x0, n2 := 1, reset := 0x0,
    fields := [⟨16, 16, .rc, []⟩, ⟨0, 16, .rc, []⟩] }
/-- PERI_XSEG.XSEG (Table 13-8). -/
def F.PERI_XSEG_XSEG : Fld := ⟨0xD010, 0x0, 0x0, 0, 14⟩
/-- PERI_XSEG (Table 13-8). -/
def R.PERI_XSEG : RegD :=
  { base := 0xD010, s1 := 0x0, n1 := 1, s2 := 0x0, n2 := 1, reset := 0x23F0,
    fields := [⟨0, 14, .rw, [(64, 9200)]⟩] }
/-- PERI_PCTL.TEST (Table 13-10). -/
def F.PERI_PCTL_TEST : Fld := ⟨0xD100, 0x20, 0x0, 5, 3⟩
/-- PERI_PCTL.RESUME (Table 13-10). -/
def F.PERI_PCTL_RESUME : Fld := ⟨0xD100, 0x20, 0x0, 3, 1⟩
/-- PERI_PCTL.SUSPEND (Table 13-10). -/
def F.PERI_PCTL_SUSPEND : Fld := ⟨0xD100, 0x20, 0x0, 2, 1⟩
/-- PERI_PCTL.RESET (Table 13-10). -/
def F.PERI_PCTL_RESET : Fld := ⟨0xD100, 0x20, 0x0, 1, 1⟩
/-- PERI_PCTL.PEN (Table 13-10). -/
def F.PERI_PCTL_PEN : Fld := ⟨0xD100, 0x20, 0x0, 0, 1⟩
/-- PERI_PCTL (Table 13-10). -/
def R.PERI_PCTL : RegD :=
  { base := 0xD100, s1 := 0x20, n1 := 32, s2 := 0x0, n2 := 1, reset := 0x0,
    fields := [⟨5, 3, .rw, [(0, 4)]⟩, ⟨3, 1, .wo, []⟩, ⟨2, 1, .wo, []⟩, ⟨1, 1, .wo, []⟩, ⟨0, 1, .rw, []⟩] }
/-- PERI_PCFG.RSMDRV (Table 13-10). -/
def F.PERI_PCFG_RSMDRV : Fld := ⟨0xD108, 0x20, 0x0, 24, 8⟩
/-- PERI_PCFG.RSTDUR (Table 13-10). -/
def F.PERI_PCFG_RSTDUR : Fld := ⟨0xD108, 0x20, 0x0, 16, 8⟩
/-- PERI_PCFG.EVTUN (Table 13-10). -/
def F.PERI_PCFG_EVTUN : Fld := ⟨0xD108, 0x20, 0x0, 0, 12⟩
/-- PERI_PCFG (Table 13-10). -/
def R.PERI_PCFG : RegD :=
  { base := 0xD108, s1 := 0x20, n1 := 32, s2 := 0x0, n2 := 1, reset := 0x14320000,
    fields := [⟨24, 8, .rw, [(20, 255)]⟩, ⟨16, 8, .rw, [(50, 255)]⟩, ⟨0, 12, .rw, []⟩] }
/-- PERI_PSTAT.COINCIDENT (Table 13-11). -/
def F.PERI_PSTAT_COINCIDENT : Fld := ⟨0xD104, 0x20, 0x0, 9, 1⟩
/-- PERI_PSTAT.CAUSE (Table 13-11). -/
def F.PERI_PSTAT_CAUSE : Fld := ⟨0xD104, 0x20, 0x0, 8, 1⟩
/-- PERI_PSTAT.SPEED (Table 13-11). -/
def F.PERI_PSTAT_SPEED : Fld := ⟨0xD104, 0x20, 0x0, 6, 2⟩
/-- PERI_PSTAT.STATE (Table 13-11). -/
def F.PERI_PSTAT_STATE : Fld := ⟨0xD104, 0x20, 0x0, 0, 4⟩
/-- PERI_PSTAT (Table 13-11). -/
def R.PERI_PSTAT : RegD :=
  { base := 0xD104, s1 := 0x20, n1 := 32, s2 := 0x0, n2 := 1, reset := 0x0,
    fields := [⟨9, 1, .ro, []⟩, ⟨8, 1, .ro, []⟩, ⟨6, 2, .ro, []⟩, ⟨0, 4, .ro, []⟩] }
/-- PERI_PEV.DISABLED (Table 13-11). -/
def F.PERI_PEV_DISABLED : Fld := ⟨0xD10C, 0x20, 0x0, 5, 1⟩
/-- PERI_PEV.RESUMED (Table 13-11). -/
def F.PERI_PEV_RESUMED : Fld := ⟨0xD10C, 0x20, 0x0, 4, 1⟩
/-- PERI_PEV.SUSPENDED (Table 13-11). -/
def F.PERI_PEV_SUSPENDED : Fld := ⟨0xD10C, 0x20, 0x0, 3, 1⟩
/-- PERI_PEV.RESETDONE (Table 13-11). -/
def F.PERI_PEV_RESETDONE : Fld := ⟨0xD10C, 0x20, 0x0, 2, 1⟩
/-- PERI_PEV.DISCONNECT (Table 13-11). -/
def F.PERI_PEV_DISCONNECT : Fld := ⟨0xD10C, 0x20, 0x0, 1, 1⟩
/-- PERI_PEV.CONNECT (Table 13-11). -/
def F.PERI_PEV_CONNECT : Fld := ⟨0xD10C, 0x20, 0x0, 0, 1⟩
/-- PERI_PEV (Table 13-11). -/
def R.PERI_PEV : RegD :=
  { base := 0xD10C, s1 := 0x20, n1 := 32, s2 := 0x0, n2 := 1, reset := 0x0,
    fields := [⟨5, 1, .w1c, []⟩, ⟨4, 1, .w1c, []⟩, ⟨3, 1, .w1c, []⟩, ⟨2, 1, .w1c, []⟩, ⟨1, 1, .w1c, []⟩, ⟨0, 1, .w1c, []⟩] }
/-- PERI_PCNT.STALL (Table 13-12). -/
def F.PERI_PCNT_STALL : Fld := ⟨0xD110, 0x20, 0x0, 24, 8⟩
/-- PERI_PCNT.XACTERR (Table 13-12). -/
def F.PERI_PCNT_XACTERR : Fld := ⟨0xD110, 0x20, 0x0, 16, 8⟩
/-- PERI_PCNT.RETRY (Table 13-12). -/
def F.PERI_PCNT_RETRY : Fld := ⟨0xD110, 0x20, 0x0, 0, 16⟩
/-- PERI_PCNT (Table 13-12). -/
def R.PERI_PCNT : RegD :=
  { base := 0xD110, s1 := 0x20, n1 := 32, s2 := 0x0, n2 := 1, reset := 0x0,
    fields := [⟨24, 8, .rc, []⟩, ⟨16, 8, .rc, []⟩, ⟨0, 16, .rc, []⟩] }
/-- PERI_PCNT2.BABBLE (Table 13-12). -/
def F.PERI_PCNT2_BABBLE : Fld := ⟨0xD114, 0x20, 0x0, 24, 8⟩
/-- PERI_PCNT2.ISOERR (Table 13-12). -/
def F.PERI_PCNT2_ISOERR : Fld := ⟨0xD114, 0x20, 0x0, 0, 16⟩
/-- PERI_PCNT2 (Table 13-12). -/
def R.PERI_PCNT2 : RegD :=
  { base := 0xD114, s1 := 0x20, n1 := 32, s2 := 0x0, n2 := 1, reset := 0x0,
    fields := [⟨24, 8, .rc, []⟩, ⟨0, 16, .rc, []⟩] }
/-- PERI_PIRQ.EN (Table 13-12). -/
def F.PERI_PIRQ_EN : Fld := ⟨0xD118, 0x20, 0x0, 31, 1⟩
/-- PERI_PIRQ.VEC (Table 13-12). -/
def F.PERI_PIRQ_VEC : Fld := ⟨0xD118, 0x20, 0x0, 16, 11⟩
/-- PERI_PIRQ.SEL (Table 13-12). -/
def F.PERI_PIRQ_SEL : Fld := ⟨0xD118, 0x20, 0x0, 0, 6⟩
/-- PERI_PIRQ (Table 13-12). -/
def R.PERI_PIRQ : RegD :=
  { base := 0xD118, s1 := 0x20, n1 := 32, s2 := 0x0, n2 := 1, reset := 0x0,
    fields := [⟨31, 1, .rw, []⟩, ⟨16, 11, .rw, []⟩, ⟨0, 6, .rw, []⟩] }
/-- The registers of block Peri. -/
def regsPeri : List RegD :=
  [R.PERI_CFG, R.PERI_STAT, R.PERI_CNT, R.PERI_CNT1, R.PERI_XSEG, R.PERI_PCTL, R.PERI_PCFG, R.PERI_PSTAT, R.PERI_PEV, R.PERI_PCNT, R.PERI_PCNT2, R.PERI_PIRQ]

/-! ### Block Pwr -/

/-- PWR_BUDGET.WATTS (Table 14-14). -/
def F.PWR_BUDGET_WATTS : Fld := ⟨0xE000, 0x0, 0x0, 0, 13⟩
/-- PWR_BUDGET (Table 14-14). -/
def R.PWR_BUDGET : RegD :=
  { base := 0xE000, s1 := 0x0, n1 := 1, s2 := 0x0, n2 := 1, reset := 0x0,
    fields := [⟨0, 13, .rw, []⟩] }
/-- PWR_BUSCFG.OVTH (Table 14-14). -/
def F.PWR_BUSCFG_OVTH : Fld := ⟨0xE004, 0x0, 0x0, 24, 8⟩
/-- PWR_BUSCFG.UVTH (Table 14-14). -/
def F.PWR_BUSCFG_UVTH : Fld := ⟨0xE004, 0x0, 0x0, 16, 8⟩
/-- PWR_BUSCFG.UVFILT (Table 14-14). -/
def F.PWR_BUSCFG_UVFILT : Fld := ⟨0xE004, 0x0, 0x0, 0, 16⟩
/-- PWR_BUSCFG (Table 14-14). -/
def R.PWR_BUSCFG : RegD :=
  { base := 0xE004, s1 := 0x0, n1 := 1, s2 := 0x0, n2 := 1, reset := 0xF88803E8,
    fields := [⟨24, 8, .rw, []⟩, ⟨16, 8, .rw, []⟩, ⟨0, 16, .rw, [(1, 65535)]⟩] }
/-- PWR_BUSSTAT.OK (Table 14-15). -/
def F.PWR_BUSSTAT_OK : Fld := ⟨0xE008, 0x0, 0x0, 31, 1⟩
/-- PWR_BUSSTAT.OV (Table 14-15). -/
def F.PWR_BUSSTAT_OV : Fld := ⟨0xE008, 0x0, 0x0, 30, 1⟩
/-- PWR_BUSSTAT.UV (Table 14-15). -/
def F.PWR_BUSSTAT_UV : Fld := ⟨0xE008, 0x0, 0x0, 29, 1⟩
/-- PWR_BUSSTAT.VBUS (Table 14-15). -/
def F.PWR_BUSSTAT_VBUS : Fld := ⟨0xE008, 0x0, 0x0, 0, 16⟩
/-- PWR_BUSSTAT (Table 14-15). -/
def R.PWR_BUSSTAT : RegD :=
  { base := 0xE008, s1 := 0x0, n1 := 1, s2 := 0x0, n2 := 1, reset := 0x0,
    fields := [⟨31, 1, .ro, []⟩, ⟨30, 1, .ro, []⟩, ⟨29, 1, .ro, []⟩, ⟨0, 16, .ro, []⟩] }
/-- PWR_TOTAL.TOTAL (Table 14-15). -/
def F.PWR_TOTAL_TOTAL : Fld := ⟨0xE00C, 0x0, 0x0, 0, 24⟩
/-- PWR_TOTAL (Table 14-15). -/
def R.PWR_TOTAL : RegD :=
  { base := 0xE00C, s1 := 0x0, n1 := 1, s2 := 0x0, n2 := 1, reset := 0x0,
    fields := [⟨0, 24, .ro, []⟩] }
/-- PWR_CNT.BUSOV (Table 14-15). -/
def F.PWR_CNT_BUSOV : Fld := ⟨0xE010, 0x0, 0x0, 24, 8⟩
/-- PWR_CNT.BUSUV (Table 14-15). -/
def F.PWR_CNT_BUSUV : Fld := ⟨0xE010, 0x0, 0x0, 16, 8⟩
/-- PWR_CNT.OVERBUD (Table 14-15). -/
def F.PWR_CNT_OVERBUD : Fld := ⟨0xE010, 0x0, 0x0, 8, 8⟩
/-- PWR_CNT (Table 14-15). -/
def R.PWR_CNT : RegD :=
  { base := 0xE010, s1 := 0x0, n1 := 1, s2 := 0x0, n2 := 1, reset := 0x0,
    fields := [⟨24, 8, .rc, []⟩, ⟨16, 8, .rc, []⟩, ⟨8, 8, .rc, []⟩] }
/-- PWR_ERR.VALID (Table 14-16). -/
def F.PWR_ERR_VALID : Fld := ⟨0xE014, 0x0, 0x0, 31, 1⟩
/-- PWR_ERR.CAUSE (Table 14-16). -/
def F.PWR_ERR_CAUSE : Fld := ⟨0xE014, 0x0, 0x0, 16, 8⟩
/-- PWR_ERR.INDEX (Table 14-16). -/
def F.PWR_ERR_INDEX : Fld := ⟨0xE014, 0x0, 0x0, 0, 8⟩
/-- PWR_ERR (Table 14-16). -/
def R.PWR_ERR : RegD :=
  { base := 0xE014, s1 := 0x0, n1 := 1, s2 := 0x0, n2 := 1, reset := 0x0,
    fields := [⟨31, 1, .w1c, []⟩, ⟨16, 8, .ro, []⟩, ⟨0, 8, .ro, []⟩] }
/-- PWR_ALLOT.SLICE (Table 14-17). -/
def F.PWR_ALLOT_SLICE : Fld := ⟨0xE100, 0x4, 0x0, 24, 7⟩
/-- PWR_ALLOT.WATTS (Table 14-17). -/
def F.PWR_ALLOT_WATTS : Fld := ⟨0xE100, 0x4, 0x0, 0, 8⟩
/-- PWR_ALLOT (Table 14-17). -/
def R.PWR_ALLOT : RegD :=
  { base := 0xE100, s1 := 0x4, n1 := 32, s2 := 0x0, n2 := 1, reset := 0x0,
    fields := [⟨24, 7, .rw, []⟩, ⟨0, 8, .rw, []⟩] }
/-- PWR_SHARE.WATTS (Table 14-17). -/
def F.PWR_SHARE_WATTS : Fld := ⟨0xE200, 0x4, 0x0, 0, 13⟩
/-- PWR_SHARE (Table 14-17). -/
def R.PWR_SHARE : RegD :=
  { base := 0xE200, s1 := 0x4, n1 := 128, s2 := 0x0, n2 := 1, reset := 0x1E00,
    fields := [⟨0, 13, .rw, []⟩] }
/-- PWR_PSCTL.SHARED (Table 16-9). -/
def F.PWR_PSCTL_SHARED : Fld := ⟨0xE400, 0x0, 0x0, 31, 1⟩
/-- PWR_PSCTL.STBY (Table 16-9). -/
def F.PWR_PSCTL_STBY : Fld := ⟨0xE400, 0x0, 0x0, 30, 1⟩
/-- PWR_PSCTL.ARM (Table 16-9). -/
def F.PWR_PSCTL_ARM : Fld := ⟨0xE400, 0x0, 0x0, 29, 1⟩
/-- PWR_PSCTL.MGRHOLD (Table 16-9). -/
def F.PWR_PSCTL_MGRHOLD : Fld := ⟨0xE400, 0x0, 0x0, 0, 16⟩
/-- PWR_PSCTL (Table 16-9). -/
def R.PWR_PSCTL : RegD :=
  { base := 0xE400, s1 := 0x0, n1 := 1, s2 := 0x0, n2 := 1, reset := 0xC8,
    fields := [⟨31, 1, .ro, []⟩, ⟨30, 1, .wo, []⟩, ⟨29, 1, .rw, []⟩, ⟨0, 16, .rw, []⟩] }
/-- PWR_HSTAT.STATE (Table 16-10). -/
def F.PWR_HSTAT_STATE : Fld := ⟨0xE404, 0x0, 0x0, 29, 3⟩
/-- PWR_HSTAT.STBYERR (Table 16-10). -/
def F.PWR_HSTAT_STBYERR : Fld := ⟨0xE404, 0x0, 0x0, 16, 8⟩
/-- PWR_HSTAT (Table 16-10). -/
def R.PWR_HSTAT : RegD :=
  { base := 0xE404, s1 := 0x0, n1 := 1, s2 := 0x0, n2 := 1, reset := 0x0,
    fields := [⟨29, 3, .ro, []⟩, ⟨16, 8, .ro, []⟩] }
/-- PWR_LSEL0.PORTSEL (Table 16-13). -/
def F.PWR_LSEL0_PORTSEL : Fld := ⟨0xE460, 0x0, 0x0, 0, 32⟩
/-- PWR_LSEL0 (Table 16-13). -/
def R.PWR_LSEL0 : RegD :=
  { base := 0xE460, s1 := 0x0, n1 := 1, s2 := 0x0, n2 := 1, reset := 0x0,
    fields := [⟨0, 32, .rw, []⟩] }
/-- PWR_LSEL1.SEL (Table 16-13). -/
def F.PWR_LSEL1_SEL : Fld := ⟨0xE464, 0x0, 0x0, 0, 7⟩
/-- PWR_LSEL1 (Table 16-13). -/
def R.PWR_LSEL1 : RegD :=
  { base := 0xE464, s1 := 0x0, n1 := 1, s2 := 0x0, n2 := 1, reset := 0x0,
    fields := [⟨0, 7, .rw, []⟩] }
/-- PWR_VREQ.BUSY (Table 16-14). -/
def F.PWR_VREQ_BUSY : Fld := ⟨0xE470, 0x0, 0x0, 31, 1⟩
/-- PWR_VREQ.STATUS (Table 16-14). -/
def F.PWR_VREQ_STATUS : Fld := ⟨0xE470, 0x0, 0x0, 28, 3⟩
/-- PWR_VREQ.DOZELVL (Table 16-14). -/
def F.PWR_VREQ_DOZELVL : Fld := ⟨0xE470, 0x0, 0x0, 4, 2⟩
/-- PWR_VREQ.RUNLVL (Table 16-14). -/
def F.PWR_VREQ_RUNLVL : Fld := ⟨0xE470, 0x0, 0x0, 0, 2⟩
/-- PWR_VREQ (Table 16-14). -/
def R.PWR_VREQ : RegD :=
  { base := 0xE470, s1 := 0x0, n1 := 1, s2 := 0x0, n2 := 1, reset := 0x12,
    fields := [⟨31, 1, .ro, []⟩, ⟨28, 3, .ro, []⟩, ⟨4, 2, .rw, [(0, 1)]⟩, ⟨0, 2, .rw, [(2, 3)]⟩] }
/-- PWR_PMBCFG.EN (Table 16-15). -/
def F.PWR_PMBCFG_EN : Fld := ⟨0xE474, 0x0, 0x0, 31, 1⟩
/-- PWR_PMBCFG.PECEN (Table 16-15). -/
def F.PWR_PMBCFG_PECEN : Fld := ⟨0xE474, 0x0, 0x0, 30, 1⟩
/-- PWR_PMBCFG.SPEED (Table 16-15). -/
def F.PWR_PMBCFG_SPEED : Fld := ⟨0xE474, 0x0, 0x0, 28, 2⟩
/-- PWR_PMBCFG.ADDR (Table 16-15). -/
def F.PWR_PMBCFG_ADDR : Fld := ⟨0xE474, 0x0, 0x0, 16, 7⟩
/-- PWR_PMBCFG.PGTMO (Table 16-15). -/
def F.PWR_PMBCFG_PGTMO : Fld := ⟨0xE474, 0x0, 0x0, 8, 8⟩
/-- PWR_PMBCFG.SETTLE (Table 16-15). -/
def F.PWR_PMBCFG_SETTLE : Fld := ⟨0xE474, 0x0, 0x0, 0, 8⟩
/-- PWR_PMBCFG (Table 16-15). -/
def R.PWR_PMBCFG : RegD :=
  { base := 0xE474, s1 := 0x0, n1 := 1, s2 := 0x0, n2 := 1, reset := 0x10001414,
    fields := [⟨31, 1, .rw, []⟩, ⟨30, 1, .rw, []⟩, ⟨28, 2, .rw, [(0, 2)]⟩, ⟨16, 7, .rw, []⟩, ⟨8, 8, .rw, [(1, 255)]⟩, ⟨0, 8, .rw, []⟩] }
/-- PWR_VOUTCODE0.VOUT1 (Table 16-16). -/
def F.PWR_VOUTCODE0_VOUT1 : Fld := ⟨0xE478, 0x0, 0x0, 16, 16⟩
/-- PWR_VOUTCODE0.VOUT0 (Table 16-16). -/
def F.PWR_VOUTCODE0_VOUT0 : Fld := ⟨0xE478, 0x0, 0x0, 0, 16⟩
/-- PWR_VOUTCODE0 (Table 16-16). -/
def R.PWR_VOUTCODE0 : RegD :=
  { base := 0xE478, s1 := 0x0, n1 := 1, s2 := 0x0, n2 := 1, reset := 0x0,
    fields := [⟨16, 16, .rw, []⟩, ⟨0, 16, .rw, []⟩] }
/-- PWR_VOUTCODE1.VOUT3 (Table 16-16). -/
def F.PWR_VOUTCODE1_VOUT3 : Fld := ⟨0xE47C, 0x0, 0x0, 16, 16⟩
/-- PWR_VOUTCODE1.VOUT2 (Table 16-16). -/
def F.PWR_VOUTCODE1_VOUT2 : Fld := ⟨0xE47C, 0x0, 0x0, 0, 16⟩
/-- PWR_VOUTCODE1 (Table 16-16). -/
def R.PWR_VOUTCODE1 : RegD :=
  { base := 0xE47C, s1 := 0x0, n1 := 1, s2 := 0x0, n2 := 1, reset := 0x0,
    fields := [⟨16, 16, .rw, []⟩, ⟨0, 16, .rw, []⟩] }
/-- PWR_STBYARM.ARM (Table 16-17). -/
def F.PWR_STBYARM_ARM : Fld := ⟨0xE480, 0x0, 0x0, 0, 32⟩
/-- PWR_STBYARM (Table 16-17). -/
def R.PWR_STBYARM : RegD :=
  { base := 0xE480, s1 := 0x0, n1 := 1, s2 := 0x0, n2 := 1, reset := 0x0,
    fields := [⟨0, 32, .rw, []⟩] }
/-- PWR_STBYCFG.WAKEN (Table 16-17). -/
def F.PWR_STBYCFG_WAKEN : Fld := ⟨0xE484, 0x0, 0x0, 31, 1⟩
/-- PWR_STBYCFG.PERST (Table 16-17). -/
def F.PWR_STBYCFG_PERST : Fld := ⟨0xE484, 0x0, 0x0, 30, 1⟩
/-- PWR_STBYCFG (Table 16-17). -/
def R.PWR_STBYCFG : RegD :=
  { base := 0xE484, s1 := 0x0, n1 := 1, s2 := 0x0, n2 := 1, reset := 0x80000000,
    fields := [⟨31, 1, .rw, []⟩, ⟨30, 1, .rw, []⟩] }
/-- PWR_WAKE.VALID (Table 16-17). -/
def F.PWR_WAKE_VALID : Fld := ⟨0xE488, 0x0, 0x0, 31, 1⟩
/-- PWR_WAKE.CAUSE (Table 16-17). -/
def F.PWR_WAKE_CAUSE : Fld := ⟨0xE488, 0x0, 0x0, 24, 4⟩
/-- PWR_WAKE.PORT (Table 16-17). -/
def F.PWR_WAKE_PORT : Fld := ⟨0xE488, 0x0, 0x0, 0, 5⟩
/-- PWR_WAKE (Table 16-17). -/
def R.PWR_WAKE : RegD :=
  { base := 0xE488, s1 := 0x0, n1 := 1, s2 := 0x0, n2 := 1, reset := 0x0,
    fields := [⟨31, 1, .w1c, []⟩, ⟨24, 4, .ro, []⟩, ⟨0, 5, .ro, []⟩] }
/-- PWR_PSCNT.VFAIL (Table 16-17). -/
def F.PWR_PSCNT_VFAIL : Fld := ⟨0xE48C, 0x0, 0x0, 24, 8⟩
/-- PWR_PSCNT.VCHG (Table 16-17). -/
def F.PWR_PSCNT_VCHG : Fld := ⟨0xE48C, 0x0, 0x0, 0, 16⟩
/-- PWR_PSCNT (Table 16-17). -/
def R.PWR_PSCNT : RegD :=
  { base := 0xE48C, s1 := 0x0, n1 := 1, s2 := 0x0, n2 := 1, reset := 0x0,
    fields := [⟨24, 8, .rc, []⟩, ⟨0, 16, .rc, []⟩] }
/-- The registers of block Pwr. -/
def regsPwr : List RegD :=
  [R.PWR_BUDGET, R.PWR_BUSCFG, R.PWR_BUSSTAT, R.PWR_TOTAL, R.PWR_CNT, R.PWR_ERR, R.PWR_ALLOT, R.PWR_SHARE, R.PWR_PSCTL, R.PWR_HSTAT, R.PWR_LSEL0, R.PWR_LSEL1, R.PWR_VREQ, R.PWR_PMBCFG, R.PWR_VOUTCODE0, R.PWR_VOUTCODE1, R.PWR_STBYARM, R.PWR_STBYCFG, R.PWR_WAKE, R.PWR_PSCNT]

/-! ### Block Evs -/

/-- EVS_CFG.EN (Table 17-10). -/
def F.EVS_CFG_EN : Fld := ⟨0xF000, 0x20, 0x0, 31, 1⟩
/-- EVS_CFG.DEST (Table 17-10). -/
def F.EVS_CFG_DEST : Fld := ⟨0xF000, 0x20, 0x0, 30, 1⟩
/-- EVS_CFG.IRQEN (Table 17-10). -/
def F.EVS_CFG_IRQEN : Fld := ⟨0xF000, 0x20, 0x0, 29, 1⟩
/-- EVS_CFG.FLUSH (Table 17-10). -/
def F.EVS_CFG_FLUSH : Fld := ⟨0xF000, 0x20, 0x0, 28, 1⟩
/-- EVS_CFG.VEC (Table 17-10). -/
def F.EVS_CFG_VEC : Fld := ⟨0xF000, 0x20, 0x0, 16, 11⟩
/-- EVS_CFG.TUN (Table 17-10). -/
def F.EVS_CFG_TUN : Fld := ⟨0xF000, 0x20, 0x0, 0, 12⟩
/-- EVS_CFG (Table 17-10). -/
def R.EVS_CFG : RegD :=
  { base := 0xF000, s1 := 0x20, n1 := 8, s2 := 0x0, n2 := 1, reset := 0x0,
    fields := [⟨31, 1, .rw, []⟩, ⟨30, 1, .rw, []⟩, ⟨29, 1, .rw, []⟩, ⟨28, 1, .wo, []⟩, ⟨16, 11, .rw, []⟩, ⟨0, 12, .rw, []⟩] }
/-- EVS_THR.FLUSHTMO (Table 17-11). -/
def F.EVS_THR_FLUSHTMO : Fld := ⟨0xF004, 0x20, 0x0, 16, 16⟩
/-- EVS_THR.THRESH (Table 17-11). -/
def F.EVS_THR_THRESH : Fld := ⟨0xF004, 0x20, 0x0, 0, 12⟩
/-- EVS_THR (Table 17-11). -/
def R.EVS_THR : RegD :=
  { base := 0xF004, s1 := 0x20, n1 := 8, s2 := 0x0, n2 := 1, reset := 0x320000,
    fields := [⟨16, 16, .rw, [(1, 65535)]⟩, ⟨0, 12, .rw, [(0, 2048)]⟩] }
/-- EVS_STAT.STATE (Table 17-11). -/
def F.EVS_STAT_STATE : Fld := ⟨0xF008, 0x20, 0x0, 30, 2⟩
/-- EVS_STAT.FILLBANK (Table 17-11). -/
def F.EVS_STAT_FILLBANK : Fld := ⟨0xF008, 0x20, 0x0, 29, 1⟩
/-- EVS_STAT.PEND (Table 17-11). -/
def F.EVS_STAT_PEND : Fld := ⟨0xF008, 0x20, 0x0, 0, 12⟩
/-- EVS_STAT (Table 17-11). -/
def R.EVS_STAT : RegD :=
  { base := 0xF008, s1 := 0x20, n1 := 8, s2 := 0x0, n2 := 1, reset := 0x0,
    fields := [⟨30, 2, .ro, []⟩, ⟨29, 1, .ro, []⟩, ⟨0, 12, .ro, []⟩] }
/-- EVS_NEXT.NEXT (Table 17-12). -/
def F.EVS_NEXT_NEXT : Fld := ⟨0xF00C, 0x20, 0x0, 0, 32⟩
/-- EVS_NEXT (Table 17-12). -/
def R.EVS_NEXT : RegD :=
  { base := 0xF00C, s1 := 0x20, n1 := 8, s2 := 0x0, n2 := 1, reset := 0x0,
    fields := [⟨0, 32, .ro, []⟩] }
/-- EVS_CNT.LOST (Table 17-12). -/
def F.EVS_CNT_LOST : Fld := ⟨0xF010, 0x20, 0x0, 16, 16⟩
/-- EVS_CNT.THRHIT (Table 17-12). -/
def F.EVS_CNT_THRHIT : Fld := ⟨0xF010, 0x20, 0x0, 8, 8⟩
/-- EVS_CNT.MEMERR (Table 17-12). -/
def F.EVS_CNT_MEMERR : Fld := ⟨0xF010, 0x20, 0x0, 0, 8⟩
/-- EVS_CNT (Table 17-12). -/
def R.EVS_CNT : RegD :=
  { base := 0xF010, s1 := 0x20, n1 := 8, s2 := 0x0, n2 := 1, reset := 0x0,
    fields := [⟨16, 16, .rc, []⟩, ⟨8, 8, .rc, []⟩, ⟨0, 8, .rc, []⟩] }
/-- EVS_TELCFG.EN (Table 17-13). -/
def F.EVS_TELCFG_EN : Fld := ⟨0xF100, 0x0, 0x0, 31, 1⟩
/-- EVS_TELCFG.PER (Table 17-13). -/
def F.EVS_TELCFG_PER : Fld := ⟨0xF100, 0x0, 0x0, 16, 8⟩
/-- EVS_TELCFG.SEL (Table 17-13). -/
def F.EVS_TELCFG_SEL : Fld := ⟨0xF100, 0x0, 0x0, 0, 3⟩
/-- EVS_TELCFG (Table 17-13). -/
def R.EVS_TELCFG : RegD :=
  { base := 0xF100, s1 := 0x0, n1 := 1, s2 := 0x0, n2 := 1, reset := 0xA0000,
    fields := [⟨31, 1, .rw, []⟩, ⟨16, 8, .rw, [(1, 255)]⟩, ⟨0, 3, .rw, []⟩] }
/-- EVS_ERR.VALID (Table 17-13). -/
def F.EVS_ERR_VALID : Fld := ⟨0xF104, 0x0, 0x0, 31, 1⟩
/-- EVS_ERR.PROD (Table 17-13). -/
def F.EVS_ERR_PROD : Fld := ⟨0xF104, 0x0, 0x0, 0, 8⟩
/-- EVS_ERR (Table 17-13). -/
def R.EVS_ERR : RegD :=
  { base := 0xF104, s1 := 0x0, n1 := 1, s2 := 0x0, n2 := 1, reset := 0x0,
    fields := [⟨31, 1, .w1c, []⟩, ⟨0, 8, .ro, []⟩] }
/-- EVS_PROD.EN (Table 17-14). -/
def F.EVS_PROD_EN : Fld := ⟨0xF200, 0x4, 0x0, 31, 1⟩
/-- EVS_PROD.STREAM (Table 17-14). -/
def F.EVS_PROD_STREAM : Fld := ⟨0xF200, 0x4, 0x0, 24, 3⟩
/-- EVS_PROD.CREDIT (Table 17-14). -/
def F.EVS_PROD_CREDIT : Fld := ⟨0xF200, 0x4, 0x0, 10, 10⟩
/-- EVS_PROD.GRANT (Table 17-14). -/
def F.EVS_PROD_GRANT : Fld := ⟨0xF200, 0x4, 0x0, 0, 10⟩
/-- EVS_PROD (Table 17-14). -/
def R.EVS_PROD : RegD :=
  { base := 0xF200, s1 := 0x4, n1 := 162, s2 := 0x0, n2 := 1, reset := 0x80001405,
    fields := [⟨31, 1, .rw, []⟩, ⟨24, 3, .rw, []⟩, ⟨10, 10, .ro, []⟩, ⟨0, 10, .rw, []⟩] }
/-- The registers of block Evs. -/
def regsEvs : List RegD :=
  [R.EVS_CFG, R.EVS_THR, R.EVS_STAT, R.EVS_NEXT, R.EVS_CNT, R.EVS_TELCFG, R.EVS_ERR, R.EVS_PROD]

/-! ### Block Port -/

/-- PORT_LCTL.TURNLOCK (Table 3-11). -/
def F.PORT_LCTL_TURNLOCK : Fld := ⟨0x10000, 0x1000, 0x0, 8, 1⟩
/-- PORT_LCTL.FELBK_ALLOW (Table 3-11). -/
def F.PORT_LCTL_FELBK_ALLOW : Fld := ⟨0x10000, 0x1000, 0x0, 7, 1⟩
/-- PORT_LCTL.LBK (Table 3-11). -/
def F.PORT_LCTL_LBK : Fld := ⟨0x10000, 0x1000, 0x0, 4, 3⟩
/-- PORT_LCTL.MAXRATE (Table 3-11). -/
def F.PORT_LCTL_MAXRATE : Fld := ⟨0x10000, 0x1000, 0x0, 2, 2⟩
/-- PORT_LCTL.RETRAIN (Table 3-11). -/
def F.PORT_LCTL_RETRAIN : Fld := ⟨0x10000, 0x1000, 0x0, 1, 1⟩
/-- PORT_LCTL.EN (Table 3-11). -/
def F.PORT_LCTL_EN : Fld := ⟨0x10000, 0x1000, 0x0, 0, 1⟩
/-- PORT_LCTL (Table 3-11). -/
def R.PORT_LCTL : RegD :=
  { base := 0x10000, s1 := 0x1000, n1 := 32, s2 := 0x0, n2 := 1, reset := 0x8,
    fields := [⟨8, 1, .rw, []⟩, ⟨7, 1, .rw, []⟩, ⟨4, 3, .rw, [(0, 3)]⟩, ⟨2, 2, .rw, [(0, 2)]⟩, ⟨1, 1, .wo, []⟩, ⟨0, 1, .rw, []⟩] }
/-- PORT_LSTAT.RECOV (Table 3-12). -/
def F.PORT_LSTAT_RECOV : Fld := ⟨0x10004, 0x1000, 0x0, 24, 4⟩
/-- PORT_LSTAT.ROLE (Table 3-12). -/
def F.PORT_LSTAT_ROLE : Fld := ⟨0x10004, 0x1000, 0x0, 20, 2⟩
/-- PORT_LSTAT.RETIRED (Table 3-12). -/
def F.PORT_LSTAT_RETIRED : Fld := ⟨0x10004, 0x1000, 0x0, 16, 4⟩
/-- PORT_LSTAT.RXMASK (Table 3-12). -/
def F.PORT_LSTAT_RXMASK : Fld := ⟨0x10004, 0x1000, 0x0, 12, 4⟩
/-- PORT_LSTAT.TXMASK (Table 3-12). -/
def F.PORT_LSTAT_TXMASK : Fld := ⟨0x10004, 0x1000, 0x0, 8, 4⟩
/-- PORT_LSTAT.RATE (Table 3-12). -/
def F.PORT_LSTAT_RATE : Fld := ⟨0x10004, 0x1000, 0x0, 4, 2⟩
/-- PORT_LSTAT.STATE (Table 3-12). -/
def F.PORT_LSTAT_STATE : Fld := ⟨0x10004, 0x1000, 0x0, 0, 4⟩
/-- PORT_LSTAT (Table 3-12). -/
def R.PORT_LSTAT : RegD :=
  { base := 0x10004, s1 := 0x1000, n1 := 32, s2 := 0x0, n2 := 1, reset := 0x0,
    fields := [⟨24, 4, .ro, []⟩, ⟨20, 2, .ro, []⟩, ⟨16, 4, .ro, []⟩, ⟨12, 4, .ro, []⟩, ⟨8, 4, .ro, []⟩, ⟨4, 2, .ro, []⟩, ⟨0, 4, .ro, []⟩] }
/-- PORT_LMODE.TURNID (Table 3-13). -/
def F.PORT_LMODE_TURNID : Fld := ⟨0x10008, 0x1000, 0x0, 12, 4⟩
/-- PORT_LMODE.STATUS (Table 3-13). -/
def F.PORT_LMODE_STATUS : Fld := ⟨0x10008, 0x1000, 0x0, 8, 3⟩
/-- PORT_LMODE.BUSY (Table 3-13). -/
def F.PORT_LMODE_BUSY : Fld := ⟨0x10008, 0x1000, 0x0, 7, 1⟩
/-- PORT_LMODE.REQ (Table 3-13). -/
def F.PORT_LMODE_REQ : Fld := ⟨0x10008, 0x1000, 0x0, 4, 3⟩
/-- PORT_LMODE.CUR (Table 3-13). -/
def F.PORT_LMODE_CUR : Fld := ⟨0x10008, 0x1000, 0x0, 0, 3⟩
/-- PORT_LMODE (Table 3-13). -/
def R.PORT_LMODE : RegD :=
  { base := 0x10008, s1 := 0x1000, n1 := 32, s2 := 0x0, n2 := 1, reset := 0x0,
    fields := [⟨12, 4, .ro, []⟩, ⟨8, 3, .ro, []⟩, ⟨7, 1, .ro, []⟩, ⟨4, 3, .rw, []⟩, ⟨0, 3, .ro, []⟩] }
/-- PORT_LRETIRE.CAUSE (Table 3-14). -/
def F.PORT_LRETIRE_CAUSE : Fld := ⟨0x1000C, 0x1000, 0x0, 12, 4⟩
/-- PORT_LRETIRE.CLEAR (Table 3-14). -/
def F.PORT_LRETIRE_CLEAR : Fld := ⟨0x1000C, 0x1000, 0x0, 8, 1⟩
/-- PORT_LRETIRE.FORCE (Table 3-14). -/
def F.PORT_LRETIRE_FORCE : Fld := ⟨0x1000C, 0x1000, 0x0, 4, 4⟩
/-- PORT_LRETIRE.MASK (Table 3-14). -/
def F.PORT_LRETIRE_MASK : Fld := ⟨0x1000C, 0x1000, 0x0, 0, 4⟩
/-- PORT_LRETIRE (Table 3-14). -/
def R.PORT_LRETIRE : RegD :=
  { base := 0x1000C, s1 := 0x1000, n1 := 32, s2 := 0x0, n2 := 1, reset := 0x0,
    fields := [⟨12, 4, .ro, []⟩, ⟨8, 1, .wo, []⟩, ⟨4, 4, .wo, []⟩, ⟨0, 4, .ro, []⟩] }
/-- PORT_TRCNT.RECOV (Table 3-15). -/
def F.PORT_TRCNT_RECOV : Fld := ⟨0x10010, 0x1000, 0x0, 24, 8⟩
/-- PORT_TRCNT.RATEDOWN (Table 3-15). -/
def F.PORT_TRCNT_RATEDOWN : Fld := ⟨0x10010, 0x1000, 0x0, 16, 8⟩
/-- PORT_TRCNT.FAILED (Table 3-15). -/
def F.PORT_TRCNT_FAILED : Fld := ⟨0x10010, 0x1000, 0x0, 8, 8⟩
/-- PORT_TRCNT.TRANSIENT (Table 3-15). -/
def F.PORT_TRCNT_TRANSIENT : Fld := ⟨0x10010, 0x1000, 0x0, 0, 8⟩
/-- PORT_TRCNT (Table 3-15). -/
def R.PORT_TRCNT : RegD :=
  { base := 0x10010, s1 := 0x1000, n1 := 32, s2 := 0x0, n2 := 1, reset := 0x0,
    fields := [⟨24, 8, .rc, []⟩, ⟨16, 8, .rc, []⟩, ⟨8, 8, .rc, []⟩, ⟨0, 8, .rc, []⟩] }
/-- PORT_TURNCNT.FAILED (Table 3-16). -/
def F.PORT_TURNCNT_FAILED : Fld := ⟨0x10014, 0x1000, 0x0, 24, 8⟩
/-- PORT_TURNCNT.REFUSED (Table 3-16). -/
def F.PORT_TURNCNT_REFUSED : Fld := ⟨0x10014, 0x1000, 0x0, 16, 8⟩
/-- PORT_TURNCNT.DONE (Table 3-16). -/
def F.PORT_TURNCNT_DONE : Fld := ⟨0x10014, 0x1000, 0x0, 0, 16⟩
/-- PORT_TURNCNT (Table 3-16). -/
def R.PORT_TURNCNT : RegD :=
  { base := 0x10014, s1 := 0x1000, n1 := 32, s2 := 0x0, n2 := 1, reset := 0x0,
    fields := [⟨24, 8, .rc, []⟩, ⟨16, 8, .rc, []⟩, ⟨0, 16, .rc, []⟩] }
/-- PORT_LERR.LOCKLOSS (Table 3-17). -/
def F.PORT_LERR_LOCKLOSS : Fld := ⟨0x10020, 0x1000, 0x4, 24, 8⟩
/-- PORT_LERR.SHERR (Table 3-17). -/
def F.PORT_LERR_SHERR : Fld := ⟨0x10020, 0x1000, 0x4, 0, 24⟩
/-- PORT_LERR (Table 3-17). -/
def R.PORT_LERR : RegD :=
  { base := 0x10020, s1 := 0x1000, n1 := 32, s2 := 0x4, n2 := 4, reset := 0x0,
    fields := [⟨24, 8, .rc, []⟩, ⟨0, 24, .rc, []⟩] }
/-- PORT_EQCFG.FIXEDTX (Table 3-18). -/
def F.PORT_EQCFG_FIXEDTX : Fld := ⟨0x10030, 0x1000, 0x0, 8, 1⟩
/-- PORT_EQCFG.PRESET (Table 3-18). -/
def F.PORT_EQCFG_PRESET : Fld := ⟨0x10030, 0x1000, 0x0, 4, 4⟩
/-- PORT_EQCFG.ADAPT (Table 3-18). -/
def F.PORT_EQCFG_ADAPT : Fld := ⟨0x10030, 0x1000, 0x0, 0, 1⟩
/-- PORT_EQCFG (Table 3-18). -/
def R.PORT_EQCFG : RegD :=
  { base := 0x10030, s1 := 0x1000, n1 := 32, s2 := 0x0, n2 := 1, reset := 0x31,
    fields := [⟨8, 1, .rw, []⟩, ⟨4, 4, .rw, [(0, 7)]⟩, ⟨0, 1, .rw, []⟩] }
/-- PORT_EQTX.POST (Table 3-19). -/
def F.PORT_EQTX_POST : Fld := ⟨0x10040, 0x1000, 0x8, 16, 6⟩
/-- PORT_EQTX.MAIN (Table 3-19). -/
def F.PORT_EQTX_MAIN : Fld := ⟨0x10040, 0x1000, 0x8, 8, 6⟩
/-- PORT_EQTX.PRE (Table 3-19). -/
def F.PORT_EQTX_PRE : Fld := ⟨0x10040, 0x1000, 0x8, 0, 6⟩
/-- PORT_EQTX (Table 3-19). -/
def R.PORT_EQTX : RegD :=
  { base := 0x10040, s1 := 0x1000, n1 := 32, s2 := 0x8, n2 := 4, reset := 0x62802,
    fields := [⟨16, 6, .rw, [(0, 16)]⟩, ⟨8, 6, .rw, [(24, 48)]⟩, ⟨0, 6, .rw, [(0, 10)]⟩] }
/-- PORT_EQRX.EYE (Table 3-19). -/
def F.PORT_EQRX_EYE : Fld := ⟨0x10044, 0x1000, 0x8, 24, 8⟩
/-- PORT_EQRX.DFE1 (Table 3-19). -/
def F.PORT_EQRX_DFE1 : Fld := ⟨0x10044, 0x1000, 0x8, 16, 8⟩
/-- PORT_EQRX.CTLE (Table 3-19). -/
def F.PORT_EQRX_CTLE : Fld := ⟨0x10044, 0x1000, 0x8, 8, 8⟩
/-- PORT_EQRX (Table 3-19). -/
def R.PORT_EQRX : RegD :=
  { base := 0x10044, s1 := 0x1000, n1 := 32, s2 := 0x8, n2 := 4, reset := 0x0,
    fields := [⟨24, 8, .ro, []⟩, ⟨16, 8, .ro, []⟩, ⟨8, 8, .ro, []⟩] }
/-- PORT_PRBS.PAT (Table 3-20). -/
def F.PORT_PRBS_PAT : Fld := ⟨0x10060, 0x1000, 0x0, 8, 2⟩
/-- PORT_PRBS.CHKEN (Table 3-20). -/
def F.PORT_PRBS_CHKEN : Fld := ⟨0x10060, 0x1000, 0x0, 4, 4⟩
/-- PORT_PRBS.GENEN (Table 3-20). -/
def F.PORT_PRBS_GENEN : Fld := ⟨0x10060, 0x1000, 0x0, 0, 4⟩
/-- PORT_PRBS (Table 3-20). -/
def R.PORT_PRBS : RegD :=
  { base := 0x10060, s1 := 0x1000, n1 := 32, s2 := 0x0, n2 := 1, reset := 0x0,
    fields := [⟨8, 2, .rw, [(0, 2)]⟩, ⟨4, 4, .rw, []⟩, ⟨0, 4, .rw, []⟩] }
/-- PORT_PRBSERR.ERR (Table 3-20). -/
def F.PORT_PRBSERR_ERR : Fld := ⟨0x10070, 0x1000, 0x4, 0, 32⟩
/-- PORT_PRBSERR (Table 3-20). -/
def R.PORT_PRBSERR : RegD :=
  { base := 0x10070, s1 := 0x1000, n1 := 32, s2 := 0x4, n2 := 4, reset := 0x0,
    fields := [⟨0, 32, .rc, []⟩] }
/-- PORT_TDLY.VALID (Table 2-10). -/
def F.PORT_TDLY_VALID : Fld := ⟨0x100C0, 0x1000, 0x0, 31, 1⟩
/-- PORT_TDLY.BADCNT (Table 2-10). -/
def F.PORT_TDLY_BADCNT : Fld := ⟨0x100C0, 0x1000, 0x0, 24, 7⟩
/-- PORT_TDLY.DLY (Table 2-10). -/
def F.PORT_TDLY_DLY : Fld := ⟨0x100C0, 0x1000, 0x0, 0, 24⟩
/-- PORT_TDLY (Table 2-10). -/
def R.PORT_TDLY : RegD :=
  { base := 0x100C0, s1 := 0x1000, n1 := 32, s2 := 0x0, n2 := 1, reset := 0x0,
    fields := [⟨31, 1, .ro, []⟩, ⟨24, 7, .rc, []⟩, ⟨0, 24, .ro, []⟩] }
/-- PORT_TASYM.TASYM (Table 2-11). -/
def F.PORT_TASYM_TASYM : Fld := ⟨0x100C4, 0x1000, 0x0, 0, 16⟩
/-- PORT_TASYM (Table 2-11). -/
def R.PORT_TASYM : RegD :=
  { base := 0x100C4, s1 := 0x1000, n1 := 32, s2 := 0x0, n2 := 1, reset := 0x0,
    fields := [⟨0, 16, .rw, []⟩] }
/-- PORT_LKCTL.HOLD (Table 4-10). -/
def F.PORT_LKCTL_HOLD : Fld := ⟨0x10100, 0x1000, 0x0, 24, 8⟩
/-- PORT_LKCTL.IDLEDLY (Table 4-10). -/
def F.PORT_LKCTL_IDLEDLY : Fld := ⟨0x10100, 0x1000, 0x0, 16, 8⟩
/-- PORT_LKCTL.IDLEEN (Table 4-10). -/
def F.PORT_LKCTL_IDLEEN : Fld := ⟨0x10100, 0x1000, 0x0, 0, 1⟩
/-- PORT_LKCTL (Table 4-10). -/
def R.PORT_LKCTL : RegD :=
  { base := 0x10100, s1 := 0x1000, n1 := 32, s2 := 0x0, n2 := 1, reset := 0x19400000,
    fields := [⟨24, 8, .rw, []⟩, ⟨16, 8, .rw, [(1, 255)]⟩, ⟨0, 1, .rw, []⟩] }
/-- PORT_LKSTAT.PEPOCH (Table 4-11). -/
def F.PORT_LKSTAT_PEPOCH : Fld := ⟨0x10104, 0x1000, 0x0, 16, 16⟩
/-- PORT_LKSTAT.RXIDLE (Table 4-11). -/
def F.PORT_LKSTAT_RXIDLE : Fld := ⟨0x10104, 0x1000, 0x0, 7, 1⟩
/-- PORT_LKSTAT.TXIDLE (Table 4-11). -/
def F.PORT_LKSTAT_TXIDLE : Fld := ⟨0x10104, 0x1000, 0x0, 6, 1⟩
/-- PORT_LKSTAT.RESUMED (Table 4-11). -/
def F.PORT_LKSTAT_RESUMED : Fld := ⟨0x10104, 0x1000, 0x0, 5, 1⟩
/-- PORT_LKSTAT.NAKWAIT (Table 4-11). -/
def F.PORT_LKSTAT_NAKWAIT : Fld := ⟨0x10104, 0x1000, 0x0, 4, 1⟩
/-- PORT_LKSTAT.STATE (Table 4-11). -/
def F.PORT_LKSTAT_STATE : Fld := ⟨0x10104, 0x1000, 0x0, 0, 2⟩
/-- PORT_LKSTAT (Table 4-11). -/
def R.PORT_LKSTAT : RegD :=
  { base := 0x10104, s1 := 0x1000, n1 := 32, s2 := 0x0, n2 := 1, reset := 0x0,
    fields := [⟨16, 16, .ro, []⟩, ⟨7, 1, .ro, []⟩, ⟨6, 1, .ro, []⟩, ⟨5, 1, .ro, []⟩, ⟨4, 1, .ro, []⟩, ⟨0, 2, .ro, []⟩] }
/-- PORT_LKSEQ.TXNEXT (Table 4-12). -/
def F.PORT_LKSEQ_TXNEXT : Fld := ⟨0x10108, 0x1000, 0x0, 16, 12⟩
/-- PORT_LKSEQ.RXNEXT (Table 4-12). -/
def F.PORT_LKSEQ_RXNEXT : Fld := ⟨0x10108, 0x1000, 0x0, 0, 12⟩
/-- PORT_LKSEQ (Table 4-12). -/
def R.PORT_LKSEQ : RegD :=
  { base := 0x10108, s1 := 0x1000, n1 := 32, s2 := 0x0, n2 := 1, reset := 0x0,
    fields := [⟨16, 12, .ro, []⟩, ⟨0, 12, .ro, []⟩] }
/-- PORT_LKTMO.UNACKHI (Table 4-13). -/
def F.PORT_LKTMO_UNACKHI : Fld := ⟨0x1010C, 0x1000, 0x0, 16, 8⟩
/-- PORT_LKTMO.RPLTMO (Table 4-13). -/
def F.PORT_LKTMO_RPLTMO : Fld := ⟨0x1010C, 0x1000, 0x0, 0, 16⟩
/-- PORT_LKTMO (Table 4-13). -/
def R.PORT_LKTMO : RegD :=
  { base := 0x1010C, s1 := 0x1000, n1 := 32, s2 := 0x0, n2 := 1, reset := 0x4B0,
    fields := [⟨16, 8, .ro, []⟩, ⟨0, 16, .ro, []⟩] }
/-- PORT_CRDCFG0.DED3 (Table 4-14). -/
def F.PORT_CRDCFG0_DED3 : Fld := ⟨0x10110, 0x1000, 0x0, 24, 8⟩
/-- PORT_CRDCFG0.DED2 (Table 4-14). -/
def F.PORT_CRDCFG0_DED2 : Fld := ⟨0x10110, 0x1000, 0x0, 16, 8⟩
/-- PORT_CRDCFG0.DED1 (Table 4-14). -/
def F.PORT_CRDCFG0_DED1 : Fld := ⟨0x10110, 0x1000, 0x0, 8, 8⟩
/-- PORT_CRDCFG0.DED0 (Table 4-14). -/
def F.PORT_CRDCFG0_DED0 : Fld := ⟨0x10110, 0x1000, 0x0, 0, 8⟩
/-- PORT_CRDCFG0 (Table 4-14). -/
def R.PORT_CRDCFG0 : RegD :=
  { base := 0x10110, s1 := 0x1000, n1 := 32, s2 := 0x0, n2 := 1, reset := 0x0,
    fields := [⟨24, 8, .rw, []⟩, ⟨16, 8, .rw, []⟩, ⟨8, 8, .rw, []⟩, ⟨0, 8, .rw, []⟩] }
/-- PORT_CRDCFG1.DED7 (Table 4-14). -/
def F.PORT_CRDCFG1_DED7 : Fld := ⟨0x10114, 0x1000, 0x0, 24, 8⟩
/-- PORT_CRDCFG1.DED6 (Table 4-14). -/
def F.PORT_CRDCFG1_DED6 : Fld := ⟨0x10114, 0x1000, 0x0, 16, 8⟩
/-- PORT_CRDCFG1.DED5 (Table 4-14). -/
def F.PORT_CRDCFG1_DED5 : Fld := ⟨0x10114, 0x1000, 0x0, 8, 8⟩
/-- PORT_CRDCFG1.DED4 (Table 4-14). -/
def F.PORT_CRDCFG1_DED4 : Fld := ⟨0x10114, 0x1000, 0x0, 0, 8⟩
/-- PORT_CRDCFG1 (Table 4-14). -/
def R.PORT_CRDCFG1 : RegD :=
  { base := 0x10114, s1 := 0x1000, n1 := 32, s2 := 0x0, n2 := 1, reset := 0x0,
    fields := [⟨24, 8, .rw, []⟩, ⟨16, 8, .rw, []⟩, ⟨8, 8, .rw, []⟩, ⟨0, 8, .rw, []⟩] }
/-- PORT_CRDTX0.CRD3 (Table 4-15). -/
def F.PORT_CRDTX0_CRD3 : Fld := ⟨0x10118, 0x1000, 0x0, 24, 8⟩
/-- PORT_CRDTX0.CRD2 (Table 4-15). -/
def F.PORT_CRDTX0_CRD2 : Fld := ⟨0x10118, 0x1000, 0x0, 16, 8⟩
/-- PORT_CRDTX0.CRD1 (Table 4-15). -/
def F.PORT_CRDTX0_CRD1 : Fld := ⟨0x10118, 0x1000, 0x0, 8, 8⟩
/-- PORT_CRDTX0.CRD0 (Table 4-15). -/
def F.PORT_CRDTX0_CRD0 : Fld := ⟨0x10118, 0x1000, 0x0, 0, 8⟩
/-- PORT_CRDTX0 (Table 4-15). -/
def R.PORT_CRDTX0 : RegD :=
  { base := 0x10118, s1 := 0x1000, n1 := 32, s2 := 0x0, n2 := 1, reset := 0x0,
    fields := [⟨24, 8, .ro, []⟩, ⟨16, 8, .ro, []⟩, ⟨8, 8, .ro, []⟩, ⟨0, 8, .ro, []⟩] }
/-- PORT_CRDTX1.CRD7 (Table 4-15). -/
def F.PORT_CRDTX1_CRD7 : Fld := ⟨0x1011C, 0x1000, 0x0, 24, 8⟩
/-- PORT_CRDTX1.CRD6 (Table 4-15). -/
def F.PORT_CRDTX1_CRD6 : Fld := ⟨0x1011C, 0x1000, 0x0, 16, 8⟩
/-- PORT_CRDTX1.CRD5 (Table 4-15). -/
def F.PORT_CRDTX1_CRD5 : Fld := ⟨0x1011C, 0x1000, 0x0, 8, 8⟩
/-- PORT_CRDTX1.CRD4 (Table 4-15). -/
def F.PORT_CRDTX1_CRD4 : Fld := ⟨0x1011C, 0x1000, 0x0, 0, 8⟩
/-- PORT_CRDTX1 (Table 4-15). -/
def R.PORT_CRDTX1 : RegD :=
  { base := 0x1011C, s1 := 0x1000, n1 := 32, s2 := 0x0, n2 := 1, reset := 0x0,
    fields := [⟨24, 8, .ro, []⟩, ⟨16, 8, .ro, []⟩, ⟨8, 8, .ro, []⟩, ⟨0, 8, .ro, []⟩] }
/-- PORT_CRDSH.RXOCC (Table 4-16). -/
def F.PORT_CRDSH_RXOCC : Fld := ⟨0x10120, 0x1000, 0x0, 16, 9⟩
/-- PORT_CRDSH.CRSH (Table 4-16). -/
def F.PORT_CRDSH_CRSH : Fld := ⟨0x10120, 0x1000, 0x0, 0, 10⟩
/-- PORT_CRDSH (Table 4-16). -/
def R.PORT_CRDSH : RegD :=
  { base := 0x10120, s1 := 0x1000, n1 := 32, s2 := 0x0, n2 := 1, reset := 0x0,
    fields := [⟨16, 9, .ro, []⟩, ⟨0, 10, .ro, []⟩] }
/-- PORT_LKERR.FRMERR (Table 4-17). -/
def F.PORT_LKERR_FRMERR : Fld := ⟨0x10130, 0x1000, 0x0, 24, 8⟩
/-- PORT_LKERR.HDRERR (Table 4-17). -/
def F.PORT_LKERR_HDRERR : Fld := ⟨0x10130, 0x1000, 0x0, 16, 8⟩
/-- PORT_LKERR.CRCERR (Table 4-17). -/
def F.PORT_LKERR_CRCERR : Fld := ⟨0x10130, 0x1000, 0x0, 0, 16⟩
/-- PORT_LKERR (Table 4-17). -/
def R.PORT_LKERR : RegD :=
  { base := 0x10130, s1 := 0x1000, n1 := 32, s2 := 0x0, n2 := 1, reset := 0x0,
    fields := [⟨24, 8, .rc, []⟩, ⟨16, 8, .rc, []⟩, ⟨0, 16, .rc, []⟩] }
/-- PORT_LKRPL.EXHAUST (Table 4-18). -/
def F.PORT_LKRPL_EXHAUST : Fld := ⟨0x10134, 0x1000, 0x0, 24, 8⟩
/-- PORT_LKRPL.POLL (Table 4-18). -/
def F.PORT_LKRPL_POLL : Fld := ⟨0x10134, 0x1000, 0x0, 16, 8⟩
/-- PORT_LKRPL.REPLAY (Table 4-18). -/
def F.PORT_LKRPL_REPLAY : Fld := ⟨0x10134, 0x1000, 0x0, 0, 16⟩
/-- PORT_LKRPL (Table 4-18). -/
def R.PORT_LKRPL : RegD :=
  { base := 0x10134, s1 := 0x1000, n1 := 32, s2 := 0x0, n2 := 1, reset := 0x0,
    fields := [⟨24, 8, .rc, []⟩, ⟨16, 8, .rc, []⟩, ⟨0, 16, .rc, []⟩] }
/-- PORT_LKDOWN.FLUSH (Table 4-19). -/
def F.PORT_LKDOWN_FLUSH : Fld := ⟨0x10138, 0x1000, 0x0, 24, 8⟩
/-- PORT_LKDOWN.RESUME (Table 4-19). -/
def F.PORT_LKDOWN_RESUME : Fld := ⟨0x10138, 0x1000, 0x0, 16, 8⟩
/-- PORT_LKDOWN.HBLOSS (Table 4-19). -/
def F.PORT_LKDOWN_HBLOSS : Fld := ⟨0x10138, 0x1000, 0x0, 8, 8⟩
/-- PORT_LKDOWN.DOWN (Table 4-19). -/
def F.PORT_LKDOWN_DOWN : Fld := ⟨0x10138, 0x1000, 0x0, 0, 8⟩
/-- PORT_LKDOWN (Table 4-19). -/
def R.PORT_LKDOWN : RegD :=
  { base := 0x10138, s1 := 0x1000, n1 := 32, s2 := 0x0, n2 := 1, reset := 0x0,
    fields := [⟨24, 8, .rc, []⟩, ⟨16, 8, .rc, []⟩, ⟨8, 8, .rc, []⟩, ⟨0, 8, .rc, []⟩] }
/-- PORT_LKDROP.OVERSIZE (Table 4-20). -/
def F.PORT_LKDROP_OVERSIZE : Fld := ⟨0x1013C, 0x1000, 0x0, 16, 16⟩
/-- PORT_LKDROP.FLUSHED (Table 4-20). -/
def F.PORT_LKDROP_FLUSHED : Fld := ⟨0x1013C, 0x1000, 0x0, 0, 16⟩
/-- PORT_LKDROP (Table 4-20). -/
def R.PORT_LKDROP : RegD :=
  { base := 0x1013C, s1 := 0x1000, n1 := 32, s2 := 0x0, n2 := 1, reset := 0x0,
    fields := [⟨16, 16, .rc, []⟩, ⟨0, 16, .rc, []⟩] }
/-- PORT_PPCTL.EN (Table 14-5). -/
def F.PORT_PPCTL_EN : Fld := ⟨0x10200, 0x1000, 0x0, 31, 1⟩
/-- PORT_PPCTL.COOL (Table 14-5). -/
def F.PORT_PPCTL_COOL : Fld := ⟨0x10200, 0x1000, 0x0, 16, 8⟩
/-- PORT_PPCTL.INSDLY (Table 14-5). -/
def F.PORT_PPCTL_INSDLY : Fld := ⟨0x10200, 0x1000, 0x0, 8, 8⟩
/-- PORT_PPCTL.SLEW (Table 14-5). -/
def F.PORT_PPCTL_SLEW : Fld := ⟨0x10200, 0x1000, 0x0, 0, 7⟩
/-- PORT_PPCTL (Table 14-5). -/
def R.PORT_PPCTL : RegD :=
  { base := 0x10200, s1 := 0x1000, n1 := 32, s2 := 0x0, n2 := 1, reset := 0xA0928,
    fields := [⟨31, 1, .rw, []⟩, ⟨16, 8, .rw, [(1, 255)]⟩, ⟨8, 8, .rw, []⟩, ⟨0, 7, .rw, [(1, 100)]⟩] }
/-- PORT_PPSTAT.STATE (Table 14-6). -/
def F.PORT_PPSTAT_STATE : Fld := ⟨0x10204, 0x1000, 0x0, 28, 4⟩
/-- PORT_PPSTAT.ICON (Table 14-6). -/
def F.PORT_PPSTAT_ICON : Fld := ⟨0x10204, 0x1000, 0x0, 24, 4⟩
/-- PORT_PPSTAT.COOLING (Table 14-6). -/
def F.PORT_PPSTAT_COOLING : Fld := ⟨0x10204, 0x1000, 0x0, 15, 1⟩
/-- PORT_PPSTAT.SOAHOLD (Table 14-6). -/
def F.PORT_PPSTAT_SOAHOLD : Fld := ⟨0x10204, 0x1000, 0x0, 14, 1⟩
/-- PORT_PPSTAT.CALHOLD (Table 14-6). -/
def F.PORT_PPSTAT_CALHOLD : Fld := ⟨0x10204, 0x1000, 0x0, 13, 1⟩
/-- PORT_PPSTAT.NOALLOT (Table 14-6). -/
def F.PORT_PPSTAT_NOALLOT : Fld := ⟨0x10204, 0x1000, 0x0, 12, 1⟩
/-- PORT_PPSTAT.NOTSRC (Table 14-6). -/
def F.PORT_PPSTAT_NOTSRC : Fld := ⟨0x10204, 0x1000, 0x0, 11, 1⟩
/-- PORT_PPSTAT.NOVSET (Table 14-6). -/
def F.PORT_PPSTAT_NOVSET : Fld := ⟨0x10204, 0x1000, 0x0, 10, 1⟩
/-- PORT_PPSTAT.PREBIAS (Table 14-6). -/
def F.PORT_PPSTAT_PREBIAS : Fld := ⟨0x10204, 0x1000, 0x0, 4, 1⟩
/-- PORT_PPSTAT.BUSOK (Table 14-6). -/
def F.PORT_PPSTAT_BUSOK : Fld := ⟨0x10204, 0x1000, 0x0, 3, 1⟩
/-- PORT_PPSTAT.PD (Table 14-6). -/
def F.PORT_PPSTAT_PD : Fld := ⟨0x10204, 0x1000, 0x0, 2, 1⟩
/-- PORT_PPSTAT.SEATB (Table 14-6). -/
def F.PORT_PPSTAT_SEATB : Fld := ⟨0x10204, 0x1000, 0x0, 1, 1⟩
/-- PORT_PPSTAT.SEATA (Table 14-6). -/
def F.PORT_PPSTAT_SEATA : Fld := ⟨0x10204, 0x1000, 0x0, 0, 1⟩
/-- PORT_PPSTAT (Table 14-6). -/
def R.PORT_PPSTAT : RegD :=
  { base := 0x10204, s1 := 0x1000, n1 := 32, s2 := 0x0, n2 := 1, reset := 0x0,
    fields := [⟨28, 4, .ro, []⟩, ⟨24, 4, .ro, []⟩, ⟨15, 1, .ro, []⟩, ⟨14, 1, .ro, []⟩, ⟨13, 1, .ro, []⟩, ⟨12, 1, .ro, []⟩, ⟨11, 1, .ro, []⟩, ⟨10, 1, .ro, []⟩, ⟨4, 1, .ro, []⟩, ⟨3, 1, .ro, []⟩, ⟨2, 1, .ro, []⟩, ⟨1, 1, .ro, []⟩, ⟨0, 1, .ro, []⟩] }
/-- PORT_PPTRIP.LATCH (Table 14-7). -/
def F.PORT_PPTRIP_LATCH : Fld := ⟨0x10208, 0x1000, 0x0, 31, 1⟩
/-- PORT_PPTRIP.RAMP (Table 14-7). -/
def F.PORT_PPTRIP_RAMP : Fld := ⟨0x10208, 0x1000, 0x0, 30, 1⟩
/-- PORT_PPTRIP.ALSO (Table 14-7). -/
def F.PORT_PPTRIP_ALSO : Fld := ⟨0x10208, 0x1000, 0x0, 24, 4⟩
/-- PORT_PPTRIP.CAUSE (Table 14-7). -/
def F.PORT_PPTRIP_CAUSE : Fld := ⟨0x10208, 0x1000, 0x0, 16, 4⟩
/-- PORT_PPTRIP.POINT (Table 14-7). -/
def F.PORT_PPTRIP_POINT : Fld := ⟨0x10208, 0x1000, 0x0, 0, 4⟩
/-- PORT_PPTRIP (Table 14-7). -/
def R.PORT_PPTRIP : RegD :=
  { base := 0x10208, s1 := 0x1000, n1 := 32, s2 := 0x0, n2 := 1, reset := 0x0,
    fields := [⟨31, 1, .ro, []⟩, ⟨30, 1, .ro, []⟩, ⟨24, 4, .ro, []⟩, ⟨16, 4, .ro, []⟩, ⟨0, 4, .ro, []⟩] }
/-- PORT_PPTRIPT_LO.T (Table 14-7). -/
def F.PORT_PPTRIPT_LO_T : Fld := ⟨0x1020C, 0x1000, 0x0, 0, 32⟩
/-- PORT_PPTRIPT_LO (Table 14-7). -/
def R.PORT_PPTRIPT_LO : RegD :=
  { base := 0x1020C, s1 := 0x1000, n1 := 32, s2 := 0x0, n2 := 1, reset := 0x0,
    fields := [⟨0, 32, .ro, []⟩] }
/-- PORT_PPTRIPT_HI.T (Table 14-7). -/
def F.PORT_PPTRIPT_HI_T : Fld := ⟨0x10210, 0x1000, 0x0, 0, 32⟩
/-- PORT_PPTRIPT_HI (Table 14-7). -/
def R.PORT_PPTRIPT_HI : RegD :=
  { base := 0x10210, s1 := 0x1000, n1 := 32, s2 := 0x0, n2 := 1, reset := 0x0,
    fields := [⟨0, 32, .ro, []⟩] }
/-- PORT_PPCNT.HSHORT (Table 14-8). -/
def F.PORT_PPCNT_HSHORT : Fld := ⟨0x10214, 0x1000, 0x0, 24, 8⟩
/-- PORT_PPCNT.SOA (Table 14-8). -/
def F.PORT_PPCNT_SOA : Fld := ⟨0x10214, 0x1000, 0x0, 16, 8⟩
/-- PORT_PPCNT.IT (Table 14-8). -/
def F.PORT_PPCNT_IT : Fld := ⟨0x10214, 0x1000, 0x0, 8, 8⟩
/-- PORT_PPCNT.OUTV (Table 14-8). -/
def F.PORT_PPCNT_OUTV : Fld := ⟨0x10214, 0x1000, 0x0, 0, 8⟩
/-- PORT_PPCNT (Table 14-8). -/
def R.PORT_PPCNT : RegD :=
  { base := 0x10214, s1 := 0x1000, n1 := 32, s2 := 0x0, n2 := 1, reset := 0x0,
    fields := [⟨24, 8, .rc, []⟩, ⟨16, 8, .rc, []⟩, ⟨8, 8, .rc, []⟩, ⟨0, 8, .rc, []⟩] }
/-- PORT_PPCNT1.LOSSOFF (Table 14-8). -/
def F.PORT_PPCNT1_LOSSOFF : Fld := ⟨0x10218, 0x1000, 0x0, 16, 16⟩
/-- PORT_PPCNT1.ENERG (Table 14-8). -/
def F.PORT_PPCNT1_ENERG : Fld := ⟨0x10218, 0x1000, 0x0, 0, 16⟩
/-- PORT_PPCNT1 (Table 14-8). -/
def R.PORT_PPCNT1 : RegD :=
  { base := 0x10218, s1 := 0x1000, n1 := 32, s2 := 0x0, n2 := 1, reset := 0x0,
    fields := [⟨16, 16, .rc, []⟩, ⟨0, 16, .rc, []⟩] }
/-- PORT_PPSHUNT.GAIN (Table 14-9). -/
def F.PORT_PPSHUNT_GAIN : Fld := ⟨0x10220, 0x1000, 0x0, 16, 16⟩
/-- PORT_PPSHUNT.RSH (Table 14-9). -/
def F.PORT_PPSHUNT_RSH : Fld := ⟨0x10220, 0x1000, 0x0, 0, 16⟩
/-- PORT_PPSHUNT (Table 14-9). -/
def R.PORT_PPSHUNT : RegD :=
  { base := 0x10220, s1 := 0x1000, n1 := 32, s2 := 0x0, n2 := 1, reset := 0x800003E8,
    fields := [⟨16, 16, .rw, [(24576, 40960)]⟩, ⟨0, 16, .rw, [(500, 2000)]⟩] }
/-- PORT_PPHS.THR (Table 14-9). -/
def F.PORT_PPHS_THR : Fld := ⟨0x10224, 0x1000, 0x0, 0, 8⟩
/-- PORT_PPHS (Table 14-9). -/
def R.PORT_PPHS : RegD :=
  { base := 0x10224, s1 := 0x1000, n1 := 32, s2 := 0x0, n2 := 1, reset := 0xA0,
    fields := [⟨0, 8, .rw, [(16, 255)]⟩] }
/-- PORT_PPSOA.TAU (Table 14-9). -/
def F.PORT_PPSOA_TAU : Fld := ⟨0x10228, 0x1000, 0x0, 16, 3⟩
/-- PORT_PPSOA.LIMIT (Table 14-9). -/
def F.PORT_PPSOA_LIMIT : Fld := ⟨0x10228, 0x1000, 0x0, 0, 16⟩
/-- PORT_PPSOA (Table 14-9). -/
def R.PORT_PPSOA : RegD :=
  { base := 0x10228, s1 := 0x1000, n1 := 32, s2 := 0x0, n2 := 1, reset := 0x400FA,
    fields := [⟨16, 3, .rw, []⟩, ⟨0, 16, .rw, [(1, 65535)]⟩] }
/-- PORT_PPSOAACC.ACC (Table 14-10). -/
def F.PORT_PPSOAACC_ACC : Fld := ⟨0x1022C, 0x1000, 0x0, 0, 32⟩
/-- PORT_PPSOAACC (Table 14-10). -/
def R.PORT_PPSOAACC : RegD :=
  { base := 0x1022C, s1 := 0x1000, n1 := 32, s2 := 0x0, n2 := 1, reset := 0x0,
    fields := [⟨0, 32, .ro, []⟩] }
/-- PORT_PPWIN.OWT (Table 14-10). -/
def F.PORT_PPWIN_OWT : Fld := ⟨0x10230, 0x1000, 0x0, 16, 16⟩
/-- PORT_PPWIN.WIN (Table 14-10). -/
def F.PORT_PPWIN_WIN : Fld := ⟨0x10230, 0x1000, 0x0, 0, 8⟩
/-- PORT_PPWIN (Table 14-10). -/
def R.PORT_PPWIN : RegD :=
  { base := 0x10230, s1 := 0x1000, n1 := 32, s2 := 0x0, n2 := 1, reset := 0x3E8000A,
    fields := [⟨16, 16, .rw, [(1, 65535)]⟩, ⟨0, 8, .rw, [(1, 50)]⟩] }
/-- PORT_PPVSET.CODE (Table 14-11). -/
def F.PORT_PPVSET_CODE : Fld := ⟨0x10240, 0x1000, 0x4, 0, 12⟩
/-- PORT_PPVSET (Table 14-11). -/
def R.PORT_PPVSET : RegD :=
  { base := 0x10240, s1 := 0x1000, n1 := 32, s2 := 0x4, n2 := 5, reset := 0x0,
    fields := [⟨0, 12, .rw, []⟩] }
/-- PORT_PPCAL.GO (Table 14-11). -/
def F.PORT_PPCAL_GO : Fld := ⟨0x10274, 0x1000, 0x0, 31, 1⟩
/-- PORT_PPCAL.BUSY (Table 14-11). -/
def F.PORT_PPCAL_BUSY : Fld := ⟨0x10274, 0x1000, 0x0, 30, 1⟩
/-- PORT_PPCAL.FAIL (Table 14-11). -/
def F.PORT_PPCAL_FAIL : Fld := ⟨0x10274, 0x1000, 0x0, 29, 1⟩
/-- PORT_PPCAL.DONE (Table 14-11). -/
def F.PORT_PPCAL_DONE : Fld := ⟨0x10274, 0x1000, 0x0, 28, 1⟩
/-- PORT_PPCAL (Table 14-11). -/
def R.PORT_PPCAL : RegD :=
  { base := 0x10274, s1 := 0x1000, n1 := 32, s2 := 0x0, n2 := 1, reset := 0x0,
    fields := [⟨31, 1, .wo, []⟩, ⟨30, 1, .ro, []⟩, ⟨29, 1, .ro, []⟩, ⟨28, 1, .w1c, []⟩] }
/-- PORT_PPMEAS.V (Table 14-12). -/
def F.PORT_PPMEAS_V : Fld := ⟨0x10260, 0x1000, 0x0, 16, 16⟩
/-- PORT_PPMEAS.I (Table 14-12). -/
def F.PORT_PPMEAS_I : Fld := ⟨0x10260, 0x1000, 0x0, 0, 16⟩
/-- PORT_PPMEAS (Table 14-12). -/
def R.PORT_PPMEAS : RegD :=
  { base := 0x10260, s1 := 0x1000, n1 := 32, s2 := 0x0, n2 := 1, reset := 0x0,
    fields := [⟨16, 16, .ro, []⟩, ⟨0, 16, .ro, []⟩] }
/-- PORT_PPVCV.VCV (Table 14-12). -/
def F.PORT_PPVCV_VCV : Fld := ⟨0x10264, 0x1000, 0x0, 0, 16⟩
/-- PORT_PPVCV (Table 14-12). -/
def R.PORT_PPVCV : RegD :=
  { base := 0x10264, s1 := 0x1000, n1 := 32, s2 := 0x0, n2 := 1, reset := 0x0,
    fields := [⟨0, 16, .ro, []⟩] }
/-- PORT_PPPWR.P (Table 14-12). -/
def F.PORT_PPPWR_P : Fld := ⟨0x10268, 0x1000, 0x0, 0, 24⟩
/-- PORT_PPPWR (Table 14-12). -/
def R.PORT_PPPWR : RegD :=
  { base := 0x10268, s1 := 0x1000, n1 := 32, s2 := 0x0, n2 := 1, reset := 0x0,
    fields := [⟨0, 24, .ro, []⟩] }
/-- PORT_PPE_LO.E_LO (Table 14-12). -/
def F.PORT_PPE_LO_E_LO : Fld := ⟨0x1026C, 0x1000, 0x0, 0, 32⟩
/-- PORT_PPE_LO (Table 14-12). -/
def R.PORT_PPE_LO : RegD :=
  { base := 0x1026C, s1 := 0x1000, n1 := 32, s2 := 0x0, n2 := 1, reset := 0x0,
    fields := [⟨0, 32, .ro, []⟩] }
/-- PORT_PPE_HI.E_HI (Table 14-12). -/
def F.PORT_PPE_HI_E_HI : Fld := ⟨0x10270, 0x1000, 0x0, 0, 32⟩
/-- PORT_PPE_HI (Table 14-12). -/
def R.PORT_PPE_HI : RegD :=
  { base := 0x10270, s1 := 0x1000, n1 := 32, s2 := 0x0, n2 := 1, reset := 0x0,
    fields := [⟨0, 32, .ro, []⟩] }
/-- PORT_PPIT.K (Table 14-13). -/
def F.PORT_PPIT_K : Fld := ⟨0x10280, 0x1000, 0x4, 24, 8⟩
/-- PORT_PPIT.T (Table 14-13). -/
def F.PORT_PPIT_T : Fld := ⟨0x10280, 0x1000, 0x4, 0, 24⟩
/-- PORT_PPIT (Table 14-13). -/
def R.PORT_PPIT : RegD :=
  { base := 0x10280, s1 := 0x1000, n1 := 32, s2 := 0x4, n2 := 16, reset := 0x0,
    fields := [⟨24, 8, .rw, [(0, 0), (16, 255)]⟩, ⟨0, 24, .rw, []⟩] }
/-- PORT_CCCTL.PTV (Table 15-9). -/
def F.PORT_CCCTL_PTV : Fld := ⟨0x10300, 0x1000, 0x0, 31, 1⟩
/-- PORT_CCCTL.ROLE (Table 15-9). -/
def F.PORT_CCCTL_ROLE : Fld := ⟨0x10300, 0x1000, 0x0, 28, 3⟩
/-- PORT_CCCTL.SWAPEN (Table 15-9). -/
def F.PORT_CCCTL_SWAPEN : Fld := ⟨0x10300, 0x1000, 0x0, 27, 1⟩
/-- PORT_CCCTL.CSAPPLY (Table 15-9). -/
def F.PORT_CCCTL_CSAPPLY : Fld := ⟨0x10300, 0x1000, 0x0, 26, 1⟩
/-- PORT_CCCTL.SLEW (Table 15-9). -/
def F.PORT_CCCTL_SLEW : Fld := ⟨0x10300, 0x1000, 0x0, 19, 7⟩
/-- PORT_CCCTL (Table 15-9). -/
def R.PORT_CCCTL : RegD :=
  { base := 0x10300, s1 := 0x1000, n1 := 32, s2 := 0x0, n2 := 1, reset := 0x1400000,
    fields := [⟨31, 1, .rw, []⟩, ⟨28, 3, .rw, []⟩, ⟨27, 1, .rw, []⟩, ⟨26, 1, .rw, []⟩, ⟨19, 7, .rw, [(10, 100)]⟩] }
/-- PORT_CCSTAT.STATE (Table 15-10). -/
def F.PORT_CCSTAT_STATE : Fld := ⟨0x10304, 0x1000, 0x0, 28, 4⟩
/-- PORT_CCSTAT.PD (Table 15-10). -/
def F.PORT_CCSTAT_PD : Fld := ⟨0x10304, 0x1000, 0x0, 27, 1⟩
/-- PORT_CCSTAT.SRC (Table 15-10). -/
def F.PORT_CCSTAT_SRC : Fld := ⟨0x10304, 0x1000, 0x0, 26, 1⟩
/-- PORT_CCSTAT.CSON (Table 15-10). -/
def F.PORT_CCSTAT_CSON : Fld := ⟨0x10304, 0x1000, 0x0, 25, 1⟩
/-- PORT_CCSTAT.CSOK (Table 15-10). -/
def F.PORT_CCSTAT_CSOK : Fld := ⟨0x10304, 0x1000, 0x0, 24, 1⟩
/-- PORT_CCSTAT.SWAP (Table 15-10). -/
def F.PORT_CCSTAT_SWAP : Fld := ⟨0x10304, 0x1000, 0x0, 23, 1⟩
/-- PORT_CCSTAT.TXID (Table 15-10). -/
def F.PORT_CCSTAT_TXID : Fld := ⟨0x10304, 0x1000, 0x0, 20, 3⟩
/-- PORT_CCSTAT.RXID (Table 15-10). -/
def F.PORT_CCSTAT_RXID : Fld := ⟨0x10304, 0x1000, 0x0, 17, 3⟩
/-- PORT_CCSTAT (Table 15-10). -/
def R.PORT_CCSTAT : RegD :=
  { base := 0x10304, s1 := 0x1000, n1 := 32, s2 := 0x0, n2 := 1, reset := 0x0,
    fields := [⟨28, 4, .ro, []⟩, ⟨27, 1, .ro, []⟩, ⟨26, 1, .ro, []⟩, ⟨25, 1, .ro, []⟩, ⟨24, 1, .ro, []⟩, ⟨23, 1, .ro, []⟩, ⟨20, 3, .ro, []⟩, ⟨17, 3, .ro, []⟩] }
/-- PORT_CCCON.VALID (Table 15-11). -/
def F.PORT_CCCON_VALID : Fld := ⟨0x10308, 0x1000, 0x0, 31, 1⟩
/-- PORT_CCCON.TRANS (Table 15-11). -/
def F.PORT_CCCON_TRANS : Fld := ⟨0x10308, 0x1000, 0x0, 30, 1⟩
/-- PORT_CCCON.VCODE (Table 15-11). -/
def F.PORT_CCCON_VCODE : Fld := ⟨0x10308, 0x1000, 0x0, 27, 3⟩
/-- PORT_CCCON.ICUR (Table 15-11). -/
def F.PORT_CCCON_ICUR : Fld := ⟨0x10308, 0x1000, 0x0, 23, 4⟩
/-- PORT_CCCON.TVCODE (Table 15-11). -/
def F.PORT_CCCON_TVCODE : Fld := ⟨0x10308, 0x1000, 0x0, 20, 3⟩
/-- PORT_CCCON.TICUR (Table 15-11). -/
def F.PORT_CCCON_TICUR : Fld := ⟨0x10308, 0x1000, 0x0, 16, 4⟩
/-- PORT_CCCON (Table 15-11). -/
def R.PORT_CCCON : RegD :=
  { base := 0x10308, s1 := 0x1000, n1 := 32, s2 := 0x0, n2 := 1, reset := 0x0,
    fields := [⟨31, 1, .ro, []⟩, ⟨30, 1, .ro, []⟩, ⟨27, 3, .ro, []⟩, ⟨23, 4, .ro, []⟩, ⟨20, 3, .ro, []⟩, ⟨16, 4, .ro, []⟩] }
/-- PORT_CCSRC.IMAX4 (Table 15-12). -/
def F.PORT_CCSRC_IMAX4 : Fld := ⟨0x1030C, 0x1000, 0x0, 24, 4⟩
/-- PORT_CCSRC.IMAX3 (Table 15-12). -/
def F.PORT_CCSRC_IMAX3 : Fld := ⟨0x1030C, 0x1000, 0x0, 20, 4⟩
/-- PORT_CCSRC.IMAX2 (Table 15-12). -/
def F.PORT_CCSRC_IMAX2 : Fld := ⟨0x1030C, 0x1000, 0x0, 16, 4⟩
/-- PORT_CCSRC.IMAX1 (Table 15-12). -/
def F.PORT_CCSRC_IMAX1 : Fld := ⟨0x1030C, 0x1000, 0x0, 12, 4⟩
/-- PORT_CCSRC.IMAX0 (Table 15-12). -/
def F.PORT_CCSRC_IMAX0 : Fld := ⟨0x1030C, 0x1000, 0x0, 8, 4⟩
/-- PORT_CCSRC.VEN (Table 15-12). -/
def F.PORT_CCSRC_VEN : Fld := ⟨0x1030C, 0x1000, 0x0, 0, 5⟩
/-- PORT_CCSRC (Table 15-12). -/
def R.PORT_CCSRC : RegD :=
  { base := 0x1030C, s1 := 0x1000, n1 := 32, s2 := 0x0, n2 := 1, reset := 0xAAAAA01,
    fields := [⟨24, 4, .rw, [(2, 10)]⟩, ⟨20, 4, .rw, [(2, 10)]⟩, ⟨16, 4, .rw, [(2, 10)]⟩, ⟨12, 4, .rw, [(2, 10)]⟩, ⟨8, 4, .rw, [(2, 10)]⟩, ⟨0, 5, .rw, []⟩] }
/-- PORT_CCSNK.EN (Table 15-13). -/
def F.PORT_CCSNK_EN : Fld := ⟨0x10310, 0x1000, 0x4, 31, 1⟩
/-- PORT_CCSNK.VCODE (Table 15-13). -/
def F.PORT_CCSNK_VCODE : Fld := ⟨0x10310, 0x1000, 0x4, 8, 3⟩
/-- PORT_CCSNK.IMIN (Table 15-13). -/
def F.PORT_CCSNK_IMIN : Fld := ⟨0x10310, 0x1000, 0x4, 4, 4⟩
/-- PORT_CCSNK.INEED (Table 15-13). -/
def F.PORT_CCSNK_INEED : Fld := ⟨0x10310, 0x1000, 0x4, 0, 4⟩
/-- PORT_CCSNK (Table 15-13). -/
def R.PORT_CCSNK : RegD :=
  { base := 0x10310, s1 := 0x1000, n1 := 32, s2 := 0x4, n2 := 7, reset := 0x0,
    fields := [⟨31, 1, .rw, []⟩, ⟨8, 3, .rw, [(0, 4)]⟩, ⟨4, 4, .rw, [(1, 10)]⟩, ⟨0, 4, .rw, [(1, 10)]⟩] }
/-- PORT_CCTXS.FLAGS (Table 15-14). -/
def F.PORT_CCTXS_FLAGS : Fld := ⟨0x1032C, 0x1000, 0x0, 8, 8⟩
/-- PORT_CCTXS.WANT (Table 15-14). -/
def F.PORT_CCTXS_WANT : Fld := ⟨0x1032C, 0x1000, 0x0, 0, 8⟩
/-- PORT_CCTXS (Table 15-14). -/
def R.PORT_CCTXS : RegD :=
  { base := 0x1032C, s1 := 0x1000, n1 := 32, s2 := 0x0, n2 := 1, reset := 0x0,
    fields := [⟨8, 8, .rw, []⟩, ⟨0, 8, .rw, [(0, 240)]⟩] }
/-- PORT_CCCMD.ACODE (Table 15-14). -/
def F.PORT_CCCMD_ACODE : Fld := ⟨0x10330, 0x1000, 0x0, 8, 4⟩
/-- PORT_CCCMD.SWAP (Table 15-14). -/
def F.PORT_CCCMD_SWAP : Fld := ⟨0x10330, 0x1000, 0x0, 4, 1⟩
/-- PORT_CCCMD.ALERT (Table 15-14). -/
def F.PORT_CCCMD_ALERT : Fld := ⟨0x10330, 0x1000, 0x0, 3, 1⟩
/-- PORT_CCCMD.STATUS (Table 15-14). -/
def F.PORT_CCCMD_STATUS : Fld := ⟨0x10330, 0x1000, 0x0, 2, 1⟩
/-- PORT_CCCMD.RENEG (Table 15-14). -/
def F.PORT_CCCMD_RENEG : Fld := ⟨0x10330, 0x1000, 0x0, 1, 1⟩
/-- PORT_CCCMD.HARDRESET (Table 15-14). -/
def F.PORT_CCCMD_HARDRESET : Fld := ⟨0x10330, 0x1000, 0x0, 0, 1⟩
/-- PORT_CCCMD (Table 15-14). -/
def R.PORT_CCCMD : RegD :=
  { base := 0x10330, s1 := 0x1000, n1 := 32, s2 := 0x0, n2 := 1, reset := 0x0,
    fields := [⟨8, 4, .wo, []⟩, ⟨4, 1, .wo, []⟩, ⟨3, 1, .wo, []⟩, ⟨2, 1, .wo, []⟩, ⟨1, 1, .wo, []⟩, ⟨0, 1, .wo, []⟩] }
/-- PORT_CCRXH.HDR (Table 15-15). -/
def F.PORT_CCRXH_HDR : Fld := ⟨0x10340, 0x1000, 0x0, 16, 16⟩
/-- PORT_CCRXH.NEW (Table 15-15). -/
def F.PORT_CCRXH_NEW : Fld := ⟨0x10340, 0x1000, 0x0, 0, 1⟩
/-- PORT_CCRXH (Table 15-15). -/
def R.PORT_CCRXH : RegD :=
  { base := 0x10340, s1 := 0x1000, n1 := 32, s2 := 0x0, n2 := 1, reset := 0x0,
    fields := [⟨16, 16, .ro, []⟩, ⟨0, 1, .w1c, []⟩] }
/-- PORT_CCRXO0.OBJ (Table 15-15). -/
def F.PORT_CCRXO0_OBJ : Fld := ⟨0x10344, 0x1000, 0x0, 0, 32⟩
/-- PORT_CCRXO0 (Table 15-15). -/
def R.PORT_CCRXO0 : RegD :=
  { base := 0x10344, s1 := 0x1000, n1 := 32, s2 := 0x0, n2 := 1, reset := 0x0,
    fields := [⟨0, 32, .ro, []⟩] }
/-- PORT_CCRXO1.OBJ (Table 15-15). -/
def F.PORT_CCRXO1_OBJ : Fld := ⟨0x10348, 0x1000, 0x0, 0, 32⟩
/-- PORT_CCRXO1 (Table 15-15). -/
def R.PORT_CCRXO1 : RegD :=
  { base := 0x10348, s1 := 0x1000, n1 := 32, s2 := 0x0, n2 := 1, reset := 0x0,
    fields := [⟨0, 32, .ro, []⟩] }
/-- PORT_CCCNT.RETRY (Table 15-16). -/
def F.PORT_CCCNT_RETRY : Fld := ⟨0x10350, 0x1000, 0x0, 24, 8⟩
/-- PORT_CCCNT.HRESET (Table 15-16). -/
def F.PORT_CCCNT_HRESET : Fld := ⟨0x10350, 0x1000, 0x0, 16, 8⟩
/-- PORT_CCCNT.PULLTRANS (Table 15-16). -/
def F.PORT_CCCNT_PULLTRANS : Fld := ⟨0x10350, 0x1000, 0x0, 8, 8⟩
/-- PORT_CCCNT.REJECT (Table 15-16). -/
def F.PORT_CCCNT_REJECT : Fld := ⟨0x10350, 0x1000, 0x0, 0, 8⟩
/-- PORT_CCCNT (Table 15-16). -/
def R.PORT_CCCNT : RegD :=
  { base := 0x10350, s1 := 0x1000, n1 := 32, s2 := 0x0, n2 := 1, reset := 0x0,
    fields := [⟨24, 8, .rc, []⟩, ⟨16, 8, .rc, []⟩, ⟨8, 8, .rc, []⟩, ⟨0, 8, .rc, []⟩] }
/-- PORT_CCCNT1.BADMSG (Table 15-17). -/
def F.PORT_CCCNT1_BADMSG : Fld := ⟨0x10354, 0x1000, 0x0, 24, 8⟩
/-- PORT_CCCNT1.CRCERR (Table 15-17). -/
def F.PORT_CCCNT1_CRCERR : Fld := ⟨0x10354, 0x1000, 0x0, 16, 8⟩
/-- PORT_CCCNT1.COLLIDE (Table 15-17). -/
def F.PORT_CCCNT1_COLLIDE : Fld := ⟨0x10354, 0x1000, 0x0, 8, 8⟩
/-- PORT_CCCNT1.SWAP (Table 15-17). -/
def F.PORT_CCCNT1_SWAP : Fld := ⟨0x10354, 0x1000, 0x0, 0, 8⟩
/-- PORT_CCCNT1 (Table 15-17). -/
def R.PORT_CCCNT1 : RegD :=
  { base := 0x10354, s1 := 0x1000, n1 := 32, s2 := 0x0, n2 := 1, reset := 0x0,
    fields := [⟨24, 8, .rc, []⟩, ⟨16, 8, .rc, []⟩, ⟨8, 8, .rc, []⟩, ⟨0, 8, .rc, []⟩] }
/-- The registers of block Port. -/
def regsPort : List RegD :=
  [R.PORT_LCTL, R.PORT_LSTAT, R.PORT_LMODE, R.PORT_LRETIRE, R.PORT_TRCNT, R.PORT_TURNCNT, R.PORT_LERR, R.PORT_EQCFG, R.PORT_EQTX, R.PORT_EQRX, R.PORT_PRBS, R.PORT_PRBSERR, R.PORT_TDLY, R.PORT_TASYM, R.PORT_LKCTL, R.PORT_LKSTAT, R.PORT_LKSEQ, R.PORT_LKTMO, R.PORT_CRDCFG0, R.PORT_CRDCFG1, R.PORT_CRDTX0, R.PORT_CRDTX1, R.PORT_CRDSH, R.PORT_LKERR, R.PORT_LKRPL, R.PORT_LKDOWN, R.PORT_LKDROP, R.PORT_PPCTL, R.PORT_PPSTAT, R.PORT_PPTRIP, R.PORT_PPTRIPT_LO, R.PORT_PPTRIPT_HI, R.PORT_PPCNT, R.PORT_PPCNT1, R.PORT_PPSHUNT, R.PORT_PPHS, R.PORT_PPSOA, R.PORT_PPSOAACC, R.PORT_PPWIN, R.PORT_PPVSET, R.PORT_PPCAL, R.PORT_PPMEAS, R.PORT_PPVCV, R.PORT_PPPWR, R.PORT_PPE_LO, R.PORT_PPE_HI, R.PORT_PPIT, R.PORT_CCCTL, R.PORT_CCSTAT, R.PORT_CCCON, R.PORT_CCSRC, R.PORT_CCSNK, R.PORT_CCTXS, R.PORT_CCCMD, R.PORT_CCRXH, R.PORT_CCRXO0, R.PORT_CCRXO1, R.PORT_CCCNT, R.PORT_CCCNT1]

/-! ### Block Ras -/

/-- RAS_CTL.EN (Table 12-5). -/
def F.RAS_CTL_EN : Fld := ⟨0x30000, 0x1000, 0x0, 31, 1⟩
/-- RAS_CTL.STATE (Table 12-5). -/
def F.RAS_CTL_STATE : Fld := ⟨0x30000, 0x1000, 0x0, 28, 3⟩
/-- RAS_CTL.ERRCODE (Table 12-5). -/
def F.RAS_CTL_ERRCODE : Fld := ⟨0x30000, 0x1000, 0x0, 24, 4⟩
/-- RAS_CTL.PAIR (Table 12-5). -/
def F.RAS_CTL_PAIR : Fld := ⟨0x30000, 0x1000, 0x0, 23, 1⟩
/-- RAS_CTL.FPULSE (Table 12-5). -/
def F.RAS_CTL_FPULSE : Fld := ⟨0x30000, 0x1000, 0x0, 22, 1⟩
/-- RAS_CTL.TEGATE (Table 12-5). -/
def F.RAS_CTL_TEGATE : Fld := ⟨0x30000, 0x1000, 0x0, 21, 1⟩
/-- RAS_CTL.TESRC (Table 12-5). -/
def F.RAS_CTL_TESRC : Fld := ⟨0x30000, 0x1000, 0x0, 20, 1⟩
/-- RAS_CTL.TEGPIO (Table 12-5). -/
def F.RAS_CTL_TEGPIO : Fld := ⟨0x30000, 0x1000, 0x0, 16, 4⟩
/-- RAS_CTL.LOCK (Table 12-5). -/
def F.RAS_CTL_LOCK : Fld := ⟨0x30000, 0x1000, 0x0, 14, 2⟩
/-- RAS_CTL.FPW (Table 12-5). -/
def F.RAS_CTL_FPW : Fld := ⟨0x30000, 0x1000, 0x0, 0, 8⟩
/-- RAS_CTL (Table 12-5). -/
def R.RAS_CTL : RegD :=
  { base := 0x30000, s1 := 0x1000, n1 := 8, s2 := 0x0, n2 := 1, reset := 0x1,
    fields := [⟨31, 1, .rw, []⟩, ⟨28, 3, .ro, []⟩, ⟨24, 4, .ro, []⟩, ⟨23, 1, .rw, []⟩, ⟨22, 1, .rw, []⟩, ⟨21, 1, .rw, []⟩, ⟨20, 1, .rw, []⟩, ⟨16, 4, .rw, []⟩, ⟨14, 2, .rw, [(0, 2)]⟩, ⟨0, 8, .rw, [(1, 255)]⟩] }
/-- RAS_STAT.FRAME (Table 12-6). -/
def F.RAS_STAT_FRAME : Fld := ⟨0x30004, 0x1000, 0x0, 16, 16⟩
/-- RAS_STAT.LINE (Table 12-6). -/
def F.RAS_STAT_LINE : Fld := ⟨0x30004, 0x1000, 0x0, 0, 12⟩
/-- RAS_STAT (Table 12-6). -/
def R.RAS_STAT : RegD :=
  { base := 0x30004, s1 := 0x1000, n1 := 8, s2 := 0x0, n2 := 1, reset := 0x0,
    fields := [⟨16, 16, .ro, []⟩, ⟨0, 12, .ro, []⟩] }
/-- RAS_HTIM.HTOT (Table 12-7). -/
def F.RAS_HTIM_HTOT : Fld := ⟨0x30008, 0x1000, 0x0, 16, 13⟩
/-- RAS_HTIM.HACT (Table 12-7). -/
def F.RAS_HTIM_HACT : Fld := ⟨0x30008, 0x1000, 0x0, 0, 13⟩
/-- RAS_HTIM (Table 12-7). -/
def R.RAS_HTIM : RegD :=
  { base := 0x30008, s1 := 0x1000, n1 := 8, s2 := 0x0, n2 := 1, reset := 0x0,
    fields := [⟨16, 13, .rw, []⟩, ⟨0, 13, .rw, []⟩] }
/-- RAS_VTIM.VTOT (Table 12-7). -/
def F.RAS_VTIM_VTOT : Fld := ⟨0x3000C, 0x1000, 0x0, 16, 13⟩
/-- RAS_VTIM.VACT (Table 12-7). -/
def F.RAS_VTIM_VACT : Fld := ⟨0x3000C, 0x1000, 0x0, 0, 13⟩
/-- RAS_VTIM (Table 12-7). -/
def R.RAS_VTIM : RegD :=
  { base := 0x3000C, s1 := 0x1000, n1 := 8, s2 := 0x0, n2 := 1, reset := 0x0,
    fields := [⟨16, 13, .rw, []⟩, ⟨0, 13, .rw, []⟩] }
/-- RAS_FPER.INT (Table 12-8). -/
def F.RAS_FPER_INT : Fld := ⟨0x30010, 0x1000, 0x0, 0, 24⟩
/-- RAS_FPER (Table 12-8). -/
def R.RAS_FPER : RegD :=
  { base := 0x30010, s1 := 0x1000, n1 := 8, s2 := 0x0, n2 := 1, reset := 0x0,
    fields := [⟨0, 24, .rw, []⟩] }
/-- RAS_FPERF.FRAC (Table 12-8). -/
def F.RAS_FPERF_FRAC : Fld := ⟨0x30014, 0x1000, 0x0, 0, 16⟩
/-- RAS_FPERF (Table 12-8). -/
def R.RAS_FPERF : RegD :=
  { base := 0x30014, s1 := 0x1000, n1 := 8, s2 := 0x0, n2 := 1, reset := 0x0,
    fields := [⟨0, 16, .rw, []⟩] }
/-- RAS_BASE_LO.BASE_LO (Table 12-9). -/
def F.RAS_BASE_LO_BASE_LO : Fld := ⟨0x30018, 0x1000, 0x0, 0, 32⟩
/-- RAS_BASE_LO (Table 12-9). -/
def R.RAS_BASE_LO : RegD :=
  { base := 0x30018, s1 := 0x1000, n1 := 8, s2 := 0x0, n2 := 1, reset := 0x0,
    fields := [⟨0, 32, .rw, []⟩] }
/-- RAS_BASE_HI.BASE_HI (Table 12-9). -/
def F.RAS_BASE_HI_BASE_HI : Fld := ⟨0x3001C, 0x1000, 0x0, 0, 32⟩
/-- RAS_BASE_HI (Table 12-9). -/
def R.RAS_BASE_HI : RegD :=
  { base := 0x3001C, s1 := 0x1000, n1 := 8, s2 := 0x0, n2 := 1, reset := 0x0,
    fields := [⟨0, 32, .rw, []⟩] }
/-- RAS_OUT.TUN (Table 12-10). -/
def F.RAS_OUT_TUN : Fld := ⟨0x30020, 0x1000, 0x0, 20, 12⟩
/-- RAS_OUT.SEGMAX (Table 12-10). -/
def F.RAS_OUT_SEGMAX : Fld := ⟨0x30020, 0x1000, 0x0, 7, 13⟩
/-- RAS_OUT.FMT (Table 12-10). -/
def F.RAS_OUT_FMT : Fld := ⟨0x30020, 0x1000, 0x0, 0, 5⟩
/-- RAS_OUT (Table 12-10). -/
def R.RAS_OUT : RegD :=
  { base := 0x30020, s1 := 0x1000, n1 := 8, s2 := 0x0, n2 := 1, reset := 0x40000,
    fields := [⟨20, 12, .rw, []⟩, ⟨7, 13, .rw, []⟩, ⟨0, 5, .rw, [(0, 3)]⟩] }
/-- RAS_SYNC.TETMO (Table 12-11). -/
def F.RAS_SYNC_TETMO : Fld := ⟨0x30024, 0x1000, 0x0, 16, 16⟩
/-- RAS_SYNC.SYNCDLY (Table 12-11). -/
def F.RAS_SYNC_SYNCDLY : Fld := ⟨0x30024, 0x1000, 0x0, 0, 16⟩
/-- RAS_SYNC (Table 12-11). -/
def R.RAS_SYNC : RegD :=
  { base := 0x30024, s1 := 0x1000, n1 := 8, s2 := 0x0, n2 := 1, reset := 0x640000,
    fields := [⟨16, 16, .rw, []⟩, ⟨0, 16, .rw, []⟩] }
/-- RAS_BG.R (Table 12-12). -/
def F.RAS_BG_R : Fld := ⟨0x30028, 0x1000, 0x0, 20, 10⟩
/-- RAS_BG.G (Table 12-12). -/
def F.RAS_BG_G : Fld := ⟨0x30028, 0x1000, 0x0, 10, 10⟩
/-- RAS_BG.B (Table 12-12). -/
def F.RAS_BG_B : Fld := ⟨0x30028, 0x1000, 0x0, 0, 10⟩
/-- RAS_BG (Table 12-12). -/
def R.RAS_BG : RegD :=
  { base := 0x30028, s1 := 0x1000, n1 := 8, s2 := 0x0, n2 := 1, reset := 0x0,
    fields := [⟨20, 10, .rw, []⟩, ⟨10, 10, .rw, []⟩, ⟨0, 10, .rw, []⟩] }
/-- RAS_LTR.LTRGUARD (Table 12-13). -/
def F.RAS_LTR_LTRGUARD : Fld := ⟨0x3002C, 0x1000, 0x0, 0, 16⟩
/-- RAS_LTR (Table 12-13). -/
def R.RAS_LTR : RegD :=
  { base := 0x3002C, s1 := 0x1000, n1 := 8, s2 := 0x0, n2 := 1, reset := 0x7D0,
    fields := [⟨0, 16, .rw, []⟩] }
/-- RAS_TOL.TOL (Table 12-13). -/
def F.RAS_TOL_TOL : Fld := ⟨0x30030, 0x1000, 0x0, 0, 24⟩
/-- RAS_TOL (Table 12-13). -/
def R.RAS_TOL : RegD :=
  { base := 0x30030, s1 := 0x1000, n1 := 8, s2 := 0x0, n2 := 1, reset := 0x0,
    fields := [⟨0, 24, .ro, []⟩] }
/-- RAS_EVT.PANELERR (Table 12-14). -/
def F.RAS_EVT_PANELERR : Fld := ⟨0x30034, 0x1000, 0x0, 20, 1⟩
/-- RAS_EVT.BRUNDER (Table 12-14). -/
def F.RAS_EVT_BRUNDER : Fld := ⟨0x30034, 0x1000, 0x0, 19, 1⟩
/-- RAS_EVT.SEGDROP (Table 12-14). -/
def F.RAS_EVT_SEGDROP : Fld := ⟨0x30034, 0x1000, 0x0, 18, 1⟩
/-- RAS_EVT.TEMISS (Table 12-14). -/
def F.RAS_EVT_TEMISS : Fld := ⟨0x30034, 0x1000, 0x0, 17, 1⟩
/-- RAS_EVT.SYNCLOST (Table 12-14). -/
def F.RAS_EVT_SYNCLOST : Fld := ⟨0x30034, 0x1000, 0x0, 16, 1⟩
/-- RAS_EVT.CRCMIS (Table 12-14). -/
def F.RAS_EVT_CRCMIS : Fld := ⟨0x30034, 0x1000, 0x0, 8, 8⟩
/-- RAS_EVT.UNDERRUN (Table 12-14). -/
def F.RAS_EVT_UNDERRUN : Fld := ⟨0x30034, 0x1000, 0x0, 0, 4⟩
/-- RAS_EVT (Table 12-14). -/
def R.RAS_EVT : RegD :=
  { base := 0x30034, s1 := 0x1000, n1 := 8, s2 := 0x0, n2 := 1, reset := 0x0,
    fields := [⟨20, 1, .w1c, []⟩, ⟨19, 1, .w1c, []⟩, ⟨18, 1, .w1c, []⟩, ⟨17, 1, .w1c, []⟩, ⟨16, 1, .w1c, []⟩, ⟨8, 8, .w1c, []⟩, ⟨0, 4, .w1c, []⟩] }
/-- RAS_CNT0.SEGDROP (Table 12-15). -/
def F.RAS_CNT0_SEGDROP : Fld := ⟨0x30038, 0x1000, 0x0, 16, 16⟩
/-- RAS_CNT0.UNDERRUN (Table 12-15). -/
def F.RAS_CNT0_UNDERRUN : Fld := ⟨0x30038, 0x1000, 0x0, 0, 16⟩
/-- RAS_CNT0 (Table 12-15). -/
def R.RAS_CNT0 : RegD :=
  { base := 0x30038, s1 := 0x1000, n1 := 8, s2 := 0x0, n2 := 1, reset := 0x0,
    fields := [⟨16, 16, .rc, []⟩, ⟨0, 16, .rc, []⟩] }
/-- RAS_CNT1.SYNCLOST (Table 12-15). -/
def F.RAS_CNT1_SYNCLOST : Fld := ⟨0x3003C, 0x1000, 0x0, 24, 8⟩
/-- RAS_CNT1.SYNCIGN (Table 12-15). -/
def F.RAS_CNT1_SYNCIGN : Fld := ⟨0x3003C, 0x1000, 0x0, 16, 8⟩
/-- RAS_CNT1.TEMISS (Table 12-15). -/
def F.RAS_CNT1_TEMISS : Fld := ⟨0x3003C, 0x1000, 0x0, 8, 8⟩
/-- RAS_CNT1.BCUNK (Table 12-15). -/
def F.RAS_CNT1_BCUNK : Fld := ⟨0x3003C, 0x1000, 0x0, 0, 8⟩
/-- RAS_CNT1 (Table 12-15). -/
def R.RAS_CNT1 : RegD :=
  { base := 0x3003C, s1 := 0x1000, n1 := 8, s2 := 0x0, n2 := 1, reset := 0x0,
    fields := [⟨24, 8, .rc, []⟩, ⟨16, 8, .rc, []⟩, ⟨8, 8, .rc, []⟩, ⟨0, 8, .rc, []⟩] }
/-- RAS_IRQ.EN (Table 12-16). -/
def F.RAS_IRQ_EN : Fld := ⟨0x30040, 0x1000, 0x0, 31, 1⟩
/-- RAS_IRQ.VEC (Table 12-16). -/
def F.RAS_IRQ_VEC : Fld := ⟨0x30040, 0x1000, 0x0, 16, 11⟩
/-- RAS_IRQ.SEL (Table 12-16). -/
def F.RAS_IRQ_SEL : Fld := ⟨0x30040, 0x1000, 0x0, 0, 6⟩
/-- RAS_IRQ (Table 12-16). -/
def R.RAS_IRQ : RegD :=
  { base := 0x30040, s1 := 0x1000, n1 := 8, s2 := 0x0, n2 := 1, reset := 0x0,
    fields := [⟨31, 1, .rw, []⟩, ⟨16, 11, .rw, []⟩, ⟨0, 6, .rw, []⟩] }
/-- RAS_LCFG.ON (Table 12-17). -/
def F.RAS_LCFG_ON : Fld := ⟨0x30100, 0x1000, 0x20, 31, 1⟩
/-- RAS_LCFG.MFMT (Table 12-17). -/
def F.RAS_LCFG_MFMT : Fld := ⟨0x30100, 0x1000, 0x20, 24, 4⟩
/-- RAS_LCFG.AMODE (Table 12-17). -/
def F.RAS_LCFG_AMODE : Fld := ⟨0x30100, 0x1000, 0x20, 22, 2⟩
/-- RAS_LCFG.GALPHA (Table 12-17). -/
def F.RAS_LCFG_GALPHA : Fld := ⟨0x30100, 0x1000, 0x20, 8, 8⟩
/-- RAS_LCFG.SHARE (Table 12-17). -/
def F.RAS_LCFG_SHARE : Fld := ⟨0x30100, 0x1000, 0x20, 0, 8⟩
/-- RAS_LCFG (Table 12-17). -/
def R.RAS_LCFG : RegD :=
  { base := 0x30100, s1 := 0x1000, n1 := 8, s2 := 0x20, n2 := 4, reset := 0xFF00,
    fields := [⟨31, 1, .ro, []⟩, ⟨24, 4, .rw, [(0, 3)]⟩, ⟨22, 2, .rw, []⟩, ⟨8, 8, .rw, []⟩, ⟨0, 8, .rw, []⟩] }
/-- RAS_LPOS.Y (Table 12-18). -/
def F.RAS_LPOS_Y : Fld := ⟨0x30104, 0x1000, 0x20, 16, 13⟩
/-- RAS_LPOS.X (Table 12-18). -/
def F.RAS_LPOS_X : Fld := ⟨0x30104, 0x1000, 0x20, 0, 13⟩
/-- RAS_LPOS (Table 12-18). -/
def R.RAS_LPOS : RegD :=
  { base := 0x30104, s1 := 0x1000, n1 := 8, s2 := 0x20, n2 := 4, reset := 0x0,
    fields := [⟨16, 13, .rw, []⟩, ⟨0, 13, .rw, []⟩] }
/-- RAS_LSIZE.H (Table 12-18). -/
def F.RAS_LSIZE_H : Fld := ⟨0x30108, 0x1000, 0x20, 16, 13⟩
/-- RAS_LSIZE.W (Table 12-18). -/
def F.RAS_LSIZE_W : Fld := ⟨0x30108, 0x1000, 0x20, 0, 13⟩
/-- RAS_LSIZE (Table 12-18). -/
def R.RAS_LSIZE : RegD :=
  { base := 0x30108, s1 := 0x1000, n1 := 8, s2 := 0x20, n2 := 4, reset := 0x0,
    fields := [⟨16, 13, .rw, []⟩, ⟨0, 13, .rw, []⟩] }
/-- RAS_LADDR_LO.ADDR (Table 12-19). -/
def F.RAS_LADDR_LO_ADDR : Fld := ⟨0x3010C, 0x1000, 0x20, 0, 32⟩
/-- RAS_LADDR_LO (Table 12-19). -/
def R.RAS_LADDR_LO : RegD :=
  { base := 0x3010C, s1 := 0x1000, n1 := 8, s2 := 0x20, n2 := 4, reset := 0x0,
    fields := [⟨0, 32, .ro, []⟩] }
/-- RAS_LADDR_HI.ADDR (Table 12-19). -/
def F.RAS_LADDR_HI_ADDR : Fld := ⟨0x30110, 0x1000, 0x20, 0, 32⟩
/-- RAS_LADDR_HI (Table 12-19). -/
def R.RAS_LADDR_HI : RegD :=
  { base := 0x30110, s1 := 0x1000, n1 := 8, s2 := 0x20, n2 := 4, reset := 0x0,
    fields := [⟨0, 32, .ro, []⟩] }
/-- RAS_LPITCH.PITCH (Table 12-19). -/
def F.RAS_LPITCH_PITCH : Fld := ⟨0x30114, 0x1000, 0x20, 0, 16⟩
/-- RAS_LPITCH (Table 12-19). -/
def R.RAS_LPITCH : RegD :=
  { base := 0x30114, s1 := 0x1000, n1 := 8, s2 := 0x20, n2 := 4, reset := 0x0,
    fields := [⟨0, 16, .ro, []⟩] }
/-- RAS_CRCPOS.EN (Table 12-20). -/
def F.RAS_CRCPOS_EN : Fld := ⟨0x30200, 0x1000, 0x10, 31, 1⟩
/-- RAS_CRCPOS.CMPEN (Table 12-20). -/
def F.RAS_CRCPOS_CMPEN : Fld := ⟨0x30200, 0x1000, 0x10, 30, 1⟩
/-- RAS_CRCPOS.Y0 (Table 12-20). -/
def F.RAS_CRCPOS_Y0 : Fld := ⟨0x30200, 0x1000, 0x10, 16, 13⟩
/-- RAS_CRCPOS.X0 (Table 12-20). -/
def F.RAS_CRCPOS_X0 : Fld := ⟨0x30200, 0x1000, 0x10, 0, 13⟩
/-- RAS_CRCPOS (Table 12-20). -/
def R.RAS_CRCPOS : RegD :=
  { base := 0x30200, s1 := 0x1000, n1 := 8, s2 := 0x10, n2 := 8, reset := 0x0,
    fields := [⟨31, 1, .rw, []⟩, ⟨30, 1, .rw, []⟩, ⟨16, 13, .rw, []⟩, ⟨0, 13, .rw, []⟩] }
/-- RAS_CRCSIZE.H (Table 12-20). -/
def F.RAS_CRCSIZE_H : Fld := ⟨0x30204, 0x1000, 0x10, 16, 13⟩
/-- RAS_CRCSIZE.W (Table 12-20). -/
def F.RAS_CRCSIZE_W : Fld := ⟨0x30204, 0x1000, 0x10, 0, 13⟩
/-- RAS_CRCSIZE (Table 12-20). -/
def R.RAS_CRCSIZE : RegD :=
  { base := 0x30204, s1 := 0x1000, n1 := 8, s2 := 0x10, n2 := 8, reset := 0x0,
    fields := [⟨16, 13, .rw, []⟩, ⟨0, 13, .rw, []⟩] }
/-- RAS_CRCEXP.EXP (Table 12-21). -/
def F.RAS_CRCEXP_EXP : Fld := ⟨0x30208, 0x1000, 0x10, 0, 32⟩
/-- RAS_CRCEXP (Table 12-21). -/
def R.RAS_CRCEXP : RegD :=
  { base := 0x30208, s1 := 0x1000, n1 := 8, s2 := 0x10, n2 := 8, reset := 0x0,
    fields := [⟨0, 32, .rw, []⟩] }
/-- RAS_CRCRES.RES (Table 12-21). -/
def F.RAS_CRCRES_RES : Fld := ⟨0x3020C, 0x1000, 0x10, 0, 32⟩
/-- RAS_CRCRES (Table 12-21). -/
def R.RAS_CRCRES : RegD :=
  { base := 0x3020C, s1 := 0x1000, n1 := 8, s2 := 0x10, n2 := 8, reset := 0x0,
    fields := [⟨0, 32, .ro, []⟩] }
/-- The registers of block Ras. -/
def regsRas : List RegD :=
  [R.RAS_CTL, R.RAS_STAT, R.RAS_HTIM, R.RAS_VTIM, R.RAS_FPER, R.RAS_FPERF, R.RAS_BASE_LO, R.RAS_BASE_HI, R.RAS_OUT, R.RAS_SYNC, R.RAS_BG, R.RAS_LTR, R.RAS_TOL, R.RAS_EVT, R.RAS_CNT0, R.RAS_CNT1, R.RAS_IRQ, R.RAS_LCFG, R.RAS_LPOS, R.RAS_LSIZE, R.RAS_LADDR_LO, R.RAS_LADDR_HI, R.RAS_LPITCH, R.RAS_CRCPOS, R.RAS_CRCSIZE, R.RAS_CRCEXP, R.RAS_CRCRES]

/-! ### Block Mgmt -/

/-- MGMT_STAT.RUNNING (Table 19-20). -/
def F.MGMT_STAT_RUNNING : Fld := ⟨0x40000, 0x0, 0x0, 31, 1⟩
/-- MGMT_STAT.WAITING (Table 19-20). -/
def F.MGMT_STAT_WAITING : Fld := ⟨0x40000, 0x0, 0x0, 30, 1⟩
/-- MGMT_STAT.FWSTATE (Table 19-20). -/
def F.MGMT_STAT_FWSTATE : Fld := ⟨0x40000, 0x0, 0x0, 0, 16⟩
/-- MGMT_STAT (Table 19-20). -/
def R.MGMT_STAT : RegD :=
  { base := 0x40000, s1 := 0x0, n1 := 1, s2 := 0x0, n2 := 1, reset := 0x0,
    fields := [⟨31, 1, .ro, []⟩, ⟨30, 1, .ro, []⟩, ⟨0, 16, .rw, []⟩] }
/-- MGMT_H2M.MSG (Table 19-20). -/
def F.MGMT_H2M_MSG : Fld := ⟨0x40010, 0x0, 0x0, 0, 32⟩
/-- MGMT_H2M (Table 19-20). -/
def R.MGMT_H2M : RegD :=
  { base := 0x40010, s1 := 0x0, n1 := 1, s2 := 0x0, n2 := 1, reset := 0x0,
    fields := [⟨0, 32, .rw, []⟩] }
/-- MGMT_M2H.MSG (Table 19-20). -/
def F.MGMT_M2H_MSG : Fld := ⟨0x40014, 0x0, 0x0, 0, 32⟩
/-- MGMT_M2H (Table 19-20). -/
def R.MGMT_M2H : RegD :=
  { base := 0x40014, s1 := 0x0, n1 := 1, s2 := 0x0, n2 := 1, reset := 0x0,
    fields := [⟨0, 32, .rw, []⟩] }
/-- MGMT_IRQ.EN (Table 19-20). -/
def F.MGMT_IRQ_EN : Fld := ⟨0x40018, 0x0, 0x0, 31, 1⟩
/-- MGMT_IRQ.VEC (Table 19-20). -/
def F.MGMT_IRQ_VEC : Fld := ⟨0x40018, 0x0, 0x0, 16, 11⟩
/-- MGMT_IRQ (Table 19-20). -/
def R.MGMT_IRQ : RegD :=
  { base := 0x40018, s1 := 0x0, n1 := 1, s2 := 0x0, n2 := 1, reset := 0x0,
    fields := [⟨31, 1, .rw, []⟩, ⟨16, 11, .rw, []⟩] }
/-- MGMT_PWSEL.PAGE (Table 19-20). -/
def F.MGMT_PWSEL_PAGE : Fld := ⟨0x40020, 0x0, 0x0, 0, 3⟩
/-- MGMT_PWSEL (Table 19-20). -/
def R.MGMT_PWSEL : RegD :=
  { base := 0x40020, s1 := 0x0, n1 := 1, s2 := 0x0, n2 := 1, reset := 0x0,
    fields := [⟨0, 3, .rw, []⟩] }
/-- The registers of block Mgmt. -/
def regsMgmt : List RegD :=
  [R.MGMT_STAT, R.MGMT_H2M, R.MGMT_M2H, R.MGMT_IRQ, R.MGMT_PWSEL]

/-! ### Block Tunnel -/

/-- TUN_W0.SLICE (Table 5-9). -/
def F.TUN_W0_SLICE : Fld := ⟨0x80000, 0x20, 0x0, 24, 7⟩
/-- TUN_W0.STATE (Table 5-9). -/
def F.TUN_W0_STATE : Fld := ⟨0x80000, 0x20, 0x0, 16, 2⟩
/-- TUN_W0.ANYSRC (Table 5-9). -/
def F.TUN_W0_ANYSRC : Fld := ⟨0x80000, 0x20, 0x0, 14, 1⟩
/-- TUN_W0.AUTH (Table 5-9). -/
def F.TUN_W0_AUTH : Fld := ⟨0x80000, 0x20, 0x0, 13, 1⟩
/-- TUN_W0.BCAST (Table 5-9). -/
def F.TUN_W0_BCAST : Fld := ⟨0x80000, 0x20, 0x0, 12, 1⟩
/-- TUN_W0.PROT (Table 5-9). -/
def F.TUN_W0_PROT : Fld := ⟨0x80000, 0x20, 0x0, 11, 1⟩
/-- TUN_W0.CLASS (Table 5-9). -/
def F.TUN_W0_CLASS : Fld := ⟨0x80000, 0x20, 0x0, 8, 3⟩
/-- TUN_W0.TYPE (Table 5-9). -/
def F.TUN_W0_TYPE : Fld := ⟨0x80000, 0x20, 0x0, 4, 4⟩
/-- TUN_W0.EN (Table 5-9). -/
def F.TUN_W0_EN : Fld := ⟨0x80000, 0x20, 0x0, 0, 1⟩
/-- TUN_W0 (Table 5-9). -/
def R.TUN_W0 : RegD :=
  { base := 0x80000, s1 := 0x20, n1 := 4096, s2 := 0x0, n2 := 1, reset := 0x0,
    fields := [⟨24, 7, .rw, []⟩, ⟨16, 2, .ro, []⟩, ⟨14, 1, .rw, []⟩, ⟨13, 1, .rw, []⟩, ⟨12, 1, .rw, []⟩, ⟨11, 1, .rw, []⟩, ⟨8, 3, .rw, []⟩, ⟨4, 4, .rw, []⟩, ⟨0, 1, .rw, []⟩] }
/-- TUN_W1.DHUB (Table 5-9). -/
def F.TUN_W1_DHUB : Fld := ⟨0x80004, 0x20, 0x0, 16, 16⟩
/-- TUN_W1.DTUN (Table 5-9). -/
def F.TUN_W1_DTUN : Fld := ⟨0x80004, 0x20, 0x0, 0, 12⟩
/-- TUN_W1 (Table 5-9). -/
def R.TUN_W1 : RegD :=
  { base := 0x80004, s1 := 0x20, n1 := 4096, s2 := 0x0, n2 := 1, reset := 0x0,
    fields := [⟨16, 16, .rw, []⟩, ⟨0, 12, .rw, []⟩] }
/-- TUN_W2.MTREN (Table 5-9). -/
def F.TUN_W2_MTREN : Fld := ⟨0x80008, 0x20, 0x0, 28, 1⟩
/-- TUN_W2.MTR (Table 5-9). -/
def F.TUN_W2_MTR : Fld := ⟨0x80008, 0x20, 0x0, 16, 12⟩
/-- TUN_W2.FIDX (Table 5-9). -/
def F.TUN_W2_FIDX : Fld := ⟨0x80008, 0x20, 0x0, 4, 12⟩
/-- TUN_W2.FUNC (Table 5-9). -/
def F.TUN_W2_FUNC : Fld := ⟨0x80008, 0x20, 0x0, 0, 4⟩
/-- TUN_W2 (Table 5-9). -/
def R.TUN_W2 : RegD :=
  { base := 0x80008, s1 := 0x20, n1 := 4096, s2 := 0x0, n2 := 1, reset := 0x0,
    fields := [⟨28, 1, .rw, []⟩, ⟨16, 12, .rw, []⟩, ⟨4, 12, .rw, []⟩, ⟨0, 4, .rw, [(0, 5)]⟩] }
/-- TUN_W3.RETMAX (Table 5-9). -/
def F.TUN_W3_RETMAX : Fld := ⟨0x8000C, 0x20, 0x0, 16, 16⟩
/-- TUN_W3.PATH (Table 5-9). -/
def F.TUN_W3_PATH : Fld := ⟨0x8000C, 0x20, 0x0, 8, 1⟩
/-- TUN_W3.HOPS (Table 5-9). -/
def F.TUN_W3_HOPS : Fld := ⟨0x8000C, 0x20, 0x0, 0, 5⟩
/-- TUN_W3 (Table 5-9). -/
def R.TUN_W3 : RegD :=
  { base := 0x8000C, s1 := 0x20, n1 := 4096, s2 := 0x0, n2 := 1, reset := 0x1F,
    fields := [⟨16, 16, .rw, []⟩, ⟨8, 1, .rw, []⟩, ⟨0, 5, .rw, []⟩] }
/-- TUN_W4.TXSEQ (Table 5-9). -/
def F.TUN_W4_TXSEQ : Fld := ⟨0x80010, 0x20, 0x0, 0, 24⟩
/-- TUN_W4 (Table 5-9). -/
def R.TUN_W4 : RegD :=
  { base := 0x80010, s1 := 0x20, n1 := 4096, s2 := 0x0, n2 := 1, reset := 0x0,
    fields := [⟨0, 24, .ro, []⟩] }
/-- TUN_W5.RXNEXT (Table 5-9). -/
def F.TUN_W5_RXNEXT : Fld := ⟨0x80014, 0x20, 0x0, 0, 24⟩
/-- TUN_W5 (Table 5-9). -/
def R.TUN_W5 : RegD :=
  { base := 0x80014, s1 := 0x20, n1 := 4096, s2 := 0x0, n2 := 1, reset := 0x0,
    fields := [⟨0, 24, .ro, []⟩] }
/-- TUN_W6.UNACK (Table 5-9). -/
def F.TUN_W6_UNACK : Fld := ⟨0x80018, 0x20, 0x0, 16, 13⟩
/-- TUN_W6.RETOCC (Table 5-9). -/
def F.TUN_W6_RETOCC : Fld := ⟨0x80018, 0x20, 0x0, 0, 16⟩
/-- TUN_W6 (Table 5-9). -/
def R.TUN_W6 : RegD :=
  { base := 0x80018, s1 := 0x20, n1 := 4096, s2 := 0x0, n2 := 1, reset := 0x0,
    fields := [⟨16, 13, .ro, []⟩, ⟨0, 16, .ro, []⟩] }
/-- TUN_W7.FAILOVER (Table 5-9). -/
def F.TUN_W7_FAILOVER : Fld := ⟨0x8001C, 0x20, 0x0, 24, 8⟩
/-- TUN_W7.LOST (Table 5-9). -/
def F.TUN_W7_LOST : Fld := ⟨0x8001C, 0x20, 0x0, 16, 8⟩
/-- TUN_W7.DISC (Table 5-9). -/
def F.TUN_W7_DISC : Fld := ⟨0x8001C, 0x20, 0x0, 0, 16⟩
/-- TUN_W7 (Table 5-9). -/
def R.TUN_W7 : RegD :=
  { base := 0x8001C, s1 := 0x20, n1 := 4096, s2 := 0x0, n2 := 1, reset := 0x0,
    fields := [⟨24, 8, .rc, []⟩, ⟨16, 8, .rc, []⟩, ⟨0, 16, .rc, []⟩] }
/-- The registers of block Tunnel. -/
def regsTunnel : List RegD :=
  [R.TUN_W0, R.TUN_W1, R.TUN_W2, R.TUN_W3, R.TUN_W4, R.TUN_W5, R.TUN_W6, R.TUN_W7]

/-! ### Block Shaper -/

/-- TSHP_W0.EN (Table 8-17). -/
def F.TSHP_W0_EN : Fld := ⟨0xA0000, 0x8, 0x0, 31, 1⟩
/-- TSHP_W0.PEND (Table 8-17). -/
def F.TSHP_W0_PEND : Fld := ⟨0xA0000, 0x8, 0x0, 30, 1⟩
/-- TSHP_W0.RATE (Table 8-17). -/
def F.TSHP_W0_RATE : Fld := ⟨0xA0000, 0x8, 0x0, 0, 24⟩
/-- TSHP_W0 (Table 8-17). -/
def R.TSHP_W0 : RegD :=
  { base := 0xA0000, s1 := 0x8, n1 := 4096, s2 := 0x0, n2 := 1, reset := 0x0,
    fields := [⟨31, 1, .rw, []⟩, ⟨30, 1, .ro, []⟩, ⟨0, 24, .rw, []⟩] }
/-- TSHP_W1.BURST (Table 8-17). -/
def F.TSHP_W1_BURST : Fld := ⟨0xA0004, 0x8, 0x0, 16, 16⟩
/-- TSHP_W1.TOKENS (Table 8-17). -/
def F.TSHP_W1_TOKENS : Fld := ⟨0xA0004, 0x8, 0x0, 0, 16⟩
/-- TSHP_W1 (Table 8-17). -/
def R.TSHP_W1 : RegD :=
  { base := 0xA0004, s1 := 0x8, n1 := 4096, s2 := 0x0, n2 := 1, reset := 0x0,
    fields := [⟨16, 16, .rw, []⟩, ⟨0, 16, .ro, []⟩] }
/-- QSHP_W0.EN (Table 8-17). -/
def F.QSHP_W0_EN : Fld := ⟨0xA8000, 0x8, 0x0, 31, 1⟩
/-- QSHP_W0.PEND (Table 8-17). -/
def F.QSHP_W0_PEND : Fld := ⟨0xA8000, 0x8, 0x0, 30, 1⟩
/-- QSHP_W0.RATE (Table 8-17). -/
def F.QSHP_W0_RATE : Fld := ⟨0xA8000, 0x8, 0x0, 0, 24⟩
/-- QSHP_W0 (Table 8-17). -/
def R.QSHP_W0 : RegD :=
  { base := 0xA8000, s1 := 0x8, n1 := 272, s2 := 0x0, n2 := 1, reset := 0x0,
    fields := [⟨31, 1, .rw, []⟩, ⟨30, 1, .ro, []⟩, ⟨0, 24, .rw, []⟩] }
/-- QSHP_W1.BURST (Table 8-17). -/
def F.QSHP_W1_BURST : Fld := ⟨0xA8004, 0x8, 0x0, 16, 16⟩
/-- QSHP_W1.TOKENS (Table 8-17). -/
def F.QSHP_W1_TOKENS : Fld := ⟨0xA8004, 0x8, 0x0, 0, 16⟩
/-- QSHP_W1 (Table 8-17). -/
def R.QSHP_W1 : RegD :=
  { base := 0xA8004, s1 := 0x8, n1 := 272, s2 := 0x0, n2 := 1, reset := 0x0,
    fields := [⟨16, 16, .rw, []⟩, ⟨0, 16, .ro, []⟩] }
/-- MTR_W0.EN (Table 8-18). -/
def F.MTR_W0_EN : Fld := ⟨0xB0000, 0x10, 0x0, 31, 1⟩
/-- MTR_W0.AWARE (Table 8-18). -/
def F.MTR_W0_AWARE : Fld := ⟨0xB0000, 0x10, 0x0, 30, 1⟩
/-- MTR_W0.RACT (Table 8-18). -/
def F.MTR_W0_RACT : Fld := ⟨0xB0000, 0x10, 0x0, 29, 1⟩
/-- MTR_W0.PEND (Table 8-18). -/
def F.MTR_W0_PEND : Fld := ⟨0xB0000, 0x10, 0x0, 28, 1⟩
/-- MTR_W0.YSHIFT (Table 8-18). -/
def F.MTR_W0_YSHIFT : Fld := ⟨0xB0000, 0x10, 0x0, 26, 2⟩
/-- MTR_W0.CIR (Table 8-18). -/
def F.MTR_W0_CIR : Fld := ⟨0xB0000, 0x10, 0x0, 0, 24⟩
/-- MTR_W0 (Table 8-18). -/
def R.MTR_W0 : RegD :=
  { base := 0xB0000, s1 := 0x10, n1 := 4096, s2 := 0x0, n2 := 1, reset := 0x0,
    fields := [⟨31, 1, .rw, []⟩, ⟨30, 1, .rw, []⟩, ⟨29, 1, .rw, []⟩, ⟨28, 1, .ro, []⟩, ⟨26, 2, .rw, []⟩, ⟨0, 24, .rw, []⟩] }
/-- MTR_W1.PIR (Table 8-18). -/
def F.MTR_W1_PIR : Fld := ⟨0xB0004, 0x10, 0x0, 0, 24⟩
/-- MTR_W1 (Table 8-18). -/
def R.MTR_W1 : RegD :=
  { base := 0xB0004, s1 := 0x10, n1 := 4096, s2 := 0x0, n2 := 1, reset := 0x0,
    fields := [⟨0, 24, .rw, []⟩] }
/-- MTR_W2.CBS (Table 8-18). -/
def F.MTR_W2_CBS : Fld := ⟨0xB0008, 0x10, 0x0, 16, 16⟩
/-- MTR_W2.PBS (Table 8-18). -/
def F.MTR_W2_PBS : Fld := ⟨0xB0008, 0x10, 0x0, 0, 16⟩
/-- MTR_W2 (Table 8-18). -/
def R.MTR_W2 : RegD :=
  { base := 0xB0008, s1 := 0x10, n1 := 4096, s2 := 0x0, n2 := 1, reset := 0x0,
    fields := [⟨16, 16, .rw, []⟩, ⟨0, 16, .rw, []⟩] }
/-- MTR_W3.RED (Table 8-18). -/
def F.MTR_W3_RED : Fld := ⟨0xB000C, 0x10, 0x0, 16, 16⟩
/-- MTR_W3.YELLOW (Table 8-18). -/
def F.MTR_W3_YELLOW : Fld := ⟨0xB000C, 0x10, 0x0, 0, 16⟩
/-- MTR_W3 (Table 8-18). -/
def R.MTR_W3 : RegD :=
  { base := 0xB000C, s1 := 0x10, n1 := 4096, s2 := 0x0, n2 := 1, reset := 0x0,
    fields := [⟨16, 16, .rc, []⟩, ⟨0, 16, .rc, []⟩] }
/-- The registers of block Shaper. -/
def regsShaper : List RegD :=
  [R.TSHP_W0, R.TSHP_W1, R.QSHP_W0, R.QSHP_W1, R.MTR_W0, R.MTR_W1, R.MTR_W2, R.MTR_W3]

/-! ### Block Route -/

/-- ROUTE.VALID (Table 6-5). -/
def F.ROUTE_VALID : Fld := ⟨0xC0000, 0x4, 0x0, 31, 1⟩
/-- ROUTE.SEC (Table 6-5). -/
def F.ROUTE_SEC : Fld := ⟨0xC0000, 0x4, 0x0, 8, 6⟩
/-- ROUTE.PRI (Table 6-5). -/
def F.ROUTE_PRI : Fld := ⟨0xC0000, 0x4, 0x0, 0, 6⟩
/-- ROUTE (Table 6-5). -/
def R.ROUTE : RegD :=
  { base := 0xC0000, s1 := 0x4, n1 := 65536, s2 := 0x0, n2 := 1, reset := 0x0,
    fields := [⟨31, 1, .rw, []⟩, ⟨8, 6, .rw, [(0, 31), (63, 63)]⟩, ⟨0, 6, .rw, [(0, 31), (63, 63)]⟩] }
/-- The registers of block Route. -/
def regsRoute : List RegD :=
  [R.ROUTE]

/-! ### Block Gate -/

/-- GATE.GATES (Table 8-1). -/
def F.GATE_GATES : Fld := ⟨0x100000, 0x4, 0x0, 24, 8⟩
/-- GATE.INTERVAL (Table 8-1). -/
def F.GATE_INTERVAL : Fld := ⟨0x100000, 0x4, 0x0, 0, 24⟩
/-- GATE (Table 8-1). -/
def R.GATE : RegD :=
  { base := 0x100000, s1 := 0x4, n1 := 17408, s2 := 0x0, n2 := 1, reset := 0xFF000000,
    fields := [⟨24, 8, .rw, []⟩, ⟨0, 24, .rw, [(1, 16777215)]⟩] }
/-- The registers of block Gate. -/
def regsGate : List RegD :=
  [R.GATE]

/-! ### Block Bank -/

/-- RCTX0.EN (Table 9-21). -/
def F.RCTX0_EN : Fld := ⟨0x2000000, 0x40, 0x0, 31, 1⟩
/-- RCTX0.STATE (Table 9-21). -/
def F.RCTX0_STATE : Fld := ⟨0x2000000, 0x40, 0x0, 28, 3⟩
/-- RCTX0.LOG2N (Table 9-21). -/
def F.RCTX0_LOG2N : Fld := ⟨0x2000000, 0x40, 0x0, 23, 5⟩
/-- RCTX0.KIND (Table 9-21). -/
def F.RCTX0_KIND : Fld := ⟨0x2000000, 0x40, 0x0, 20, 3⟩
/-- RCTX0.REMOTE (Table 9-21). -/
def F.RCTX0_REMOTE : Fld := ⟨0x2000000, 0x40, 0x0, 19, 1⟩
/-- RCTX0.WIN (Table 9-21). -/
def F.RCTX0_WIN : Fld := ⟨0x2000000, 0x40, 0x0, 15, 4⟩
/-- RCTX0.SLICE (Table 9-21). -/
def F.RCTX0_SLICE : Fld := ⟨0x2000000, 0x40, 0x0, 8, 7⟩
/-- RCTX0.DROPNB (Table 9-21). -/
def F.RCTX0_DROPNB : Fld := ⟨0x2000000, 0x40, 0x0, 7, 1⟩
/-- RCTX0.BIND (Table 9-21). -/
def F.RCTX0_BIND : Fld := ⟨0x2000000, 0x40, 0x0, 4, 3⟩
/-- RCTX0 (Table 9-21). -/
def R.RCTX0 : RegD :=
  { base := 0x2000000, s1 := 0x40, n1 := 4096, s2 := 0x0, n2 := 1, reset := 0x2000080,
    fields := [⟨31, 1, .rw, []⟩, ⟨28, 3, .ro, []⟩, ⟨23, 5, .rw, [(4, 16)]⟩, ⟨20, 3, .rw, [(0, 5)]⟩, ⟨19, 1, .rw, []⟩, ⟨15, 4, .rw, []⟩, ⟨8, 7, .rw, []⟩, ⟨7, 1, .rw, []⟩, ⟨4, 3, .rw, []⟩] }
/-- RCTX1.DBASE_LO (Table 9-21). -/
def F.RCTX1_DBASE_LO : Fld := ⟨0x2000004, 0x40, 0x0, 0, 32⟩
/-- RCTX1 (Table 9-21). -/
def R.RCTX1 : RegD :=
  { base := 0x2000004, s1 := 0x40, n1 := 4096, s2 := 0x0, n2 := 1, reset := 0x0,
    fields := [⟨0, 32, .rw, []⟩] }
/-- RCTX2.DBASE_HI (Table 9-21). -/
def F.RCTX2_DBASE_HI : Fld := ⟨0x2000008, 0x40, 0x0, 0, 32⟩
/-- RCTX2 (Table 9-21). -/
def R.RCTX2 : RegD :=
  { base := 0x2000008, s1 := 0x40, n1 := 4096, s2 := 0x0, n2 := 1, reset := 0x0,
    fields := [⟨0, 32, .rw, []⟩] }
/-- RCTX3.CBASE_LO (Table 9-21). -/
def F.RCTX3_CBASE_LO : Fld := ⟨0x200000C, 0x40, 0x0, 0, 32⟩
/-- RCTX3 (Table 9-21). -/
def R.RCTX3 : RegD :=
  { base := 0x200000C, s1 := 0x40, n1 := 4096, s2 := 0x0, n2 := 1, reset := 0x0,
    fields := [⟨0, 32, .rw, []⟩] }
/-- RCTX4.CBASE_HI (Table 9-21). -/
def F.RCTX4_CBASE_HI : Fld := ⟨0x2000010, 0x40, 0x0, 0, 32⟩
/-- RCTX4 (Table 9-21). -/
def R.RCTX4 : RegD :=
  { base := 0x2000010, s1 := 0x40, n1 := 4096, s2 := 0x0, n2 := 1, reset := 0x0,
    fields := [⟨0, 32, .rw, []⟩] }
/-- RCTX5.IEN (Table 9-21). -/
def F.RCTX5_IEN : Fld := ⟨0x2000014, 0x40, 0x0, 31, 1⟩
/-- RCTX5.ARMED (Table 9-21). -/
def F.RCTX5_ARMED : Fld := ⟨0x2000014, 0x40, 0x0, 30, 1⟩
/-- RCTX5.VEC (Table 9-21). -/
def F.RCTX5_VEC : Fld := ⟨0x2000014, 0x40, 0x0, 16, 11⟩
/-- RCTX5.MCNT (Table 9-21). -/
def F.RCTX5_MCNT : Fld := ⟨0x2000014, 0x40, 0x0, 8, 8⟩
/-- RCTX5.MTMO (Table 9-21). -/
def F.RCTX5_MTMO : Fld := ⟨0x2000014, 0x40, 0x0, 0, 8⟩
/-- RCTX5 (Table 9-21). -/
def R.RCTX5 : RegD :=
  { base := 0x2000014, s1 := 0x40, n1 := 4096, s2 := 0x0, n2 := 1, reset := 0x100,
    fields := [⟨31, 1, .rw, []⟩, ⟨30, 1, .ro, []⟩, ⟨16, 11, .rw, []⟩, ⟨8, 8, .rw, [(1, 255)]⟩, ⟨0, 8, .rw, []⟩] }
/-- RCTX6.PIDX (Table 9-21). -/
def F.RCTX6_PIDX : Fld := ⟨0x2000018, 0x40, 0x0, 16, 16⟩
/-- RCTX6.DONE (Table 9-21). -/
def F.RCTX6_DONE : Fld := ⟨0x2000018, 0x40, 0x0, 0, 16⟩
/-- RCTX6 (Table 9-21). -/
def R.RCTX6 : RegD :=
  { base := 0x2000018, s1 := 0x40, n1 := 4096, s2 := 0x0, n2 := 1, reset := 0x0,
    fields := [⟨16, 16, .ro, []⟩, ⟨0, 16, .ro, []⟩] }
/-- RCTX7.ERRCODE (Table 9-21). -/
def F.RCTX7_ERRCODE : Fld := ⟨0x200001C, 0x40, 0x0, 24, 8⟩
/-- RCTX7.NOBUF (Table 9-21). -/
def F.RCTX7_NOBUF : Fld := ⟨0x200001C, 0x40, 0x0, 0, 16⟩
/-- RCTX7 (Table 9-21). -/
def R.RCTX7 : RegD :=
  { base := 0x200001C, s1 := 0x40, n1 := 4096, s2 := 0x0, n2 := 1, reset := 0x0,
    fields := [⟨24, 8, .ro, []⟩, ⟨0, 16, .rc, []⟩] }
/-- RCTX8.PADDR_LO (Table 9-21). -/
def F.RCTX8_PADDR_LO : Fld := ⟨0x2000020, 0x40, 0x0, 0, 32⟩
/-- RCTX8 (Table 9-21). -/
def R.RCTX8 : RegD :=
  { base := 0x2000020, s1 := 0x40, n1 := 4096, s2 := 0x0, n2 := 1, reset := 0x0,
    fields := [⟨0, 32, .rw, []⟩] }
/-- RCTX9.PADDR_HI (Table 9-21). -/
def F.RCTX9_PADDR_HI : Fld := ⟨0x2000024, 0x40, 0x0, 0, 32⟩
/-- RCTX9 (Table 9-21). -/
def R.RCTX9 : RegD :=
  { base := 0x2000024, s1 := 0x40, n1 := 4096, s2 := 0x0, n2 := 1, reset := 0x0,
    fields := [⟨0, 32, .rw, []⟩] }
/-- RCTX10.POLL (Table 9-21). -/
def F.RCTX10_POLL : Fld := ⟨0x2000028, 0x40, 0x0, 0, 24⟩
/-- RCTX10 (Table 9-21). -/
def R.RCTX10 : RegD :=
  { base := 0x2000028, s1 := 0x40, n1 := 4096, s2 := 0x0, n2 := 1, reset := 0x3E8,
    fields := [⟨0, 24, .rw, [(1, 16777215)]⟩] }
/-- ECTX0.EN (Table 13-9). -/
def F.ECTX0_EN : Fld := ⟨0x3000000, 0x10, 0x0, 31, 1⟩
/-- ECTX0.CLRHALT (Table 13-9). -/
def F.ECTX0_CLRHALT : Fld := ⟨0x3000000, 0x10, 0x0, 30, 1⟩
/-- ECTX0.STATE (Table 13-9). -/
def F.ECTX0_STATE : Fld := ⟨0x3000000, 0x10, 0x0, 28, 2⟩
/-- ECTX0.PORT (Table 13-9). -/
def F.ECTX0_PORT : Fld := ⟨0x3000000, 0x10, 0x0, 23, 5⟩
/-- ECTX0.DEVADDR (Table 13-9). -/
def F.ECTX0_DEVADDR : Fld := ⟨0x3000000, 0x10, 0x0, 16, 7⟩
/-- ECTX0.EPNUM (Table 13-9). -/
def F.ECTX0_EPNUM : Fld := ⟨0x3000000, 0x10, 0x0, 12, 4⟩
/-- ECTX0.DIR (Table 13-9). -/
def F.ECTX0_DIR : Fld := ⟨0x3000000, 0x10, 0x0, 11, 1⟩
/-- ECTX0.XTYPE (Table 13-9). -/
def F.ECTX0_XTYPE : Fld := ⟨0x3000000, 0x10, 0x0, 9, 2⟩
/-- ECTX0.SPEED (Table 13-9). -/
def F.ECTX0_SPEED : Fld := ⟨0x3000000, 0x10, 0x0, 7, 2⟩
/-- ECTX0 (Table 13-9). -/
def R.ECTX0 : RegD :=
  { base := 0x3000000, s1 := 0x10, n1 := 1024, s2 := 0x0, n2 := 1, reset := 0x0,
    fields := [⟨31, 1, .rw, []⟩, ⟨30, 1, .wo, []⟩, ⟨28, 2, .ro, []⟩, ⟨23, 5, .rw, []⟩, ⟨16, 7, .rw, []⟩, ⟨12, 4, .rw, []⟩, ⟨11, 1, .rw, []⟩, ⟨9, 2, .rw, []⟩, ⟨7, 2, .rw, [(0, 2)]⟩] }
/-- ECTX1.QUEUED (Table 13-9). -/
def F.ECTX1_QUEUED : Fld := ⟨0x3000004, 0x10, 0x0, 18, 3⟩
/-- ECTX1.MULT (Table 13-9). -/
def F.ECTX1_MULT : Fld := ⟨0x3000004, 0x10, 0x0, 16, 2⟩
/-- ECTX1.IVAL (Table 13-9). -/
def F.ECTX1_IVAL : Fld := ⟨0x3000004, 0x10, 0x0, 12, 4⟩
/-- ECTX1.MPS (Table 13-9). -/
def F.ECTX1_MPS : Fld := ⟨0x3000004, 0x10, 0x0, 0, 11⟩
/-- ECTX1 (Table 13-9). -/
def R.ECTX1 : RegD :=
  { base := 0x3000004, s1 := 0x10, n1 := 1024, s2 := 0x0, n2 := 1, reset := 0x10040,
    fields := [⟨18, 3, .ro, []⟩, ⟨16, 2, .rw, [(1, 3)]⟩, ⟨12, 4, .rw, [(0, 14)]⟩, ⟨0, 11, .rw, []⟩] }
/-- ECTX2.SIZE (Table 13-9). -/
def F.ECTX2_SIZE : Fld := ⟨0x3000008, 0x10, 0x0, 16, 13⟩
/-- ECTX2.BASE (Table 13-9). -/
def F.ECTX2_BASE : Fld := ⟨0x3000008, 0x10, 0x0, 0, 12⟩
/-- ECTX2 (Table 13-9). -/
def R.ECTX2 : RegD :=
  { base := 0x3000008, s1 := 0x10, n1 := 1024, s2 := 0x0, n2 := 1, reset := 0x0,
    fields := [⟨16, 13, .rw, []⟩, ⟨0, 12, .rw, []⟩] }
/-- ECTX3.ERR (Table 13-9). -/
def F.ECTX3_ERR : Fld := ⟨0x300000C, 0x10, 0x0, 28, 4⟩
/-- ECTX3.HUBPORT (Table 13-9). -/
def F.ECTX3_HUBPORT : Fld := ⟨0x300000C, 0x10, 0x0, 8, 7⟩
/-- ECTX3.HUBADDR (Table 13-9). -/
def F.ECTX3_HUBADDR : Fld := ⟨0x300000C, 0x10, 0x0, 0, 7⟩
/-- ECTX3 (Table 13-9). -/
def R.ECTX3 : RegD :=
  { base := 0x300000C, s1 := 0x10, n1 := 1024, s2 := 0x0, n2 := 1, reset := 0x0,
    fields := [⟨28, 4, .ro, []⟩, ⟨8, 7, .rw, []⟩, ⟨0, 7, .rw, []⟩] }
/-- PWR_DCFG.WMODE (Table 16-11). -/
def F.PWR_DCFG_WMODE : Fld := ⟨0x4000000, 0x100, 0x0, 31, 1⟩
/-- PWR_DCFG.DROP (Table 16-11). -/
def F.PWR_DCFG_DROP : Fld := ⟨0x4000000, 0x100, 0x0, 24, 3⟩
/-- PWR_DCFG.DLY (Table 16-11). -/
def F.PWR_DCFG_DLY : Fld := ⟨0x4000000, 0x100, 0x0, 0, 24⟩
/-- PWR_DCFG (Table 16-11). -/
def R.PWR_DCFG : RegD :=
  { base := 0x4000000, s1 := 0x100, n1 := 39, s2 := 0x0, n2 := 1, reset := 0x3E8,
    fields := [⟨31, 1, .rw, []⟩, ⟨24, 3, .rw, [(0, 4)]⟩, ⟨0, 24, .rw, []⟩] }
/-- PWR_DSTAT.LEVEL (Table 16-11). -/
def F.PWR_DSTAT_LEVEL : Fld := ⟨0x4000004, 0x100, 0x0, 29, 3⟩
/-- PWR_DSTAT.TARGET (Table 16-11). -/
def F.PWR_DSTAT_TARGET : Fld := ⟨0x4000004, 0x100, 0x0, 26, 3⟩
/-- PWR_DSTAT.STEP (Table 16-11). -/
def F.PWR_DSTAT_STEP : Fld := ⟨0x4000004, 0x100, 0x0, 23, 3⟩
/-- PWR_DSTAT.ABORTS (Table 16-11). -/
def F.PWR_DSTAT_ABORTS : Fld := ⟨0x4000004, 0x100, 0x0, 8, 8⟩
/-- PWR_DSTAT.LATEWAKE (Table 16-11). -/
def F.PWR_DSTAT_LATEWAKE : Fld := ⟨0x4000004, 0x100, 0x0, 0, 8⟩
/-- PWR_DSTAT (Table 16-11). -/
def R.PWR_DSTAT : RegD :=
  { base := 0x4000004, s1 := 0x100, n1 := 39, s2 := 0x0, n2 := 1, reset := 0x0,
    fields := [⟨29, 3, .ro, []⟩, ⟨26, 3, .ro, []⟩, ⟨23, 3, .ro, []⟩, ⟨8, 8, .rc, []⟩, ⟨0, 8, .rc, []⟩] }
/-- PWR_EVOTE.EVOTE (Table 16-12). -/
def F.PWR_EVOTE_EVOTE : Fld := ⟨0x4000020, 0x100, 0x4, 0, 32⟩
/-- PWR_EVOTE (Table 16-12). -/
def R.PWR_EVOTE : RegD :=
  { base := 0x4000020, s1 := 0x100, n1 := 39, s2 := 0x4, n2 := 5, reset := 0x0,
    fields := [⟨0, 32, .rw, []⟩] }
/-- PWR_VOTE.VOTE (Table 16-12). -/
def F.PWR_VOTE_VOTE : Fld := ⟨0x4000040, 0x100, 0x4, 0, 32⟩
/-- PWR_VOTE (Table 16-12). -/
def R.PWR_VOTE : RegD :=
  { base := 0x4000040, s1 := 0x100, n1 := 39, s2 := 0x4, n2 := 5, reset := 0x0,
    fields := [⟨0, 32, .ro, []⟩] }
/-- HIF_RSEL.RING (Table 9-20). -/
def F.HIF_RSEL_RING : Fld := ⟨0x5000000, 0x4, 0x0, 0, 12⟩
/-- HIF_RSEL (Table 9-20). -/
def R.HIF_RSEL : RegD :=
  { base := 0x5000000, s1 := 0x4, n1 := 18, s2 := 0x0, n2 := 1, reset := 0x0,
    fields := [⟨0, 12, .rw, []⟩] }
/-- PERI_ESEL.CTX (Table 13-9). -/
def F.PERI_ESEL_CTX : Fld := ⟨0x5000100, 0x4, 0x0, 0, 10⟩
/-- PERI_ESEL (Table 13-9). -/
def R.PERI_ESEL : RegD :=
  { base := 0x5000100, s1 := 0x4, n1 := 18, s2 := 0x0, n2 := 1, reset := 0x0,
    fields := [⟨0, 10, .rw, []⟩] }
/-- PWR_DSEL.DOMAIN (Table 16-11). -/
def F.PWR_DSEL_DOMAIN : Fld := ⟨0x5000200, 0x4, 0x0, 0, 6⟩
/-- PWR_DSEL (Table 16-11). -/
def R.PWR_DSEL : RegD :=
  { base := 0x5000200, s1 := 0x4, n1 := 18, s2 := 0x0, n2 := 1, reset := 0x0,
    fields := [⟨0, 6, .rw, [(0, 38)]⟩] }
/-- The registers of block Bank. -/
def regsBank : List RegD :=
  [R.RCTX0, R.RCTX1, R.RCTX2, R.RCTX3, R.RCTX4, R.RCTX5, R.RCTX6, R.RCTX7, R.RCTX8, R.RCTX9, R.RCTX10, R.ECTX0, R.ECTX1, R.ECTX2, R.ECTX3, R.PWR_DCFG, R.PWR_DSTAT, R.PWR_EVOTE, R.PWR_VOTE, R.HIF_RSEL, R.PERI_ESEL, R.PWR_DSEL]

end Sys2Proof.Machine
end

