-- ==== Sys2Proof/Machine/Flags.lean ====
section
/-! DEFINITION. The computed checks and amounts of the spec: the CRCs, saturating counts, rates and wire times, credit
and token arithmetic. -/

namespace Sys2Proof

/-! ## CRCs -/

/-- One bit into a CRC register of `w` bits, most significant bit first, not reflected. -/
def crcBit (w poly c : Nat) (b : Bool) : Nat :=
  let s := c * 2 % 2 ^ w
  if bitOf c (w - 1) != b then s ^^^ poly else s

/-- One byte into a CRC register, its most significant bit first. -/
def crcByte (w poly c : Nat) (b : Byte) : Nat :=
  [7, 6, 5, 4, 3, 2, 1, 0].foldl (fun a i => crcBit w poly a (bitOf b.toNat i)) c

/-- A byte string into a CRC register. -/
def crcBytes (w poly init : Nat) (l : Bytes) : Nat := l.foldl (crcByte w poly) init

/-- CRC-8 of the lane and link blocks: x^8 + x^2 + x + 1, initial value 0 (R65). -/
def crc8 (l : Bytes) : Nat := crcBytes 8 0x07 0 l

/-- CRC-16 of the tunnel header: 0x1021, initial value 0xFFFF (R127). -/
def crc16 (l : Bytes) : Nat := crcBytes 16 0x1021 0xFFFF l

/-- The register of FCRC before the final complement (R99, R109). -/
def crc32raw (l : Bytes) : Nat := crcBytes 32 0x04C11DB7 0xFFFFFFFF l

/-- FCRC: CRC-32 with 0x04C1_1DB7, initial value all ones, complemented (R99). -/
def crc32 (l : Bytes) : Nat := crc32raw l ^^^ 0xFFFFFFFF

/-- A block whose last 8 bits are the CRC-8 of the first 56 (R65). -/
def crcBlk (x : Nat) : Blk := BitVec.ofNat 64 (x % 2 ^ 56 * 256 + crc8 (beBytes 7 x))

/-- Whether a block's CRC-8 is good. -/
def Blk.crcOk (k : Blk) : Bool := crc8 (beBytes 7 (k.toNat / 256)) == k.toNat % 256

/-! ## The scrambler of a lane (R64): bit i - 1 of the 58-bit state is s[i] -/

/-- Taps s[39] and s[58] for the next 32 bits of the stream, the first of them the most significant. -/
def scrTaps (s : Nat) : Nat := (s / 2 ^ 7 ^^^ s / 2 ^ 26) % 2 ^ 32

/-- 32 transmitted bits enter the state. -/
def scrShift (s out : Nat) : Nat := (s * 2 ^ 32 + out) % 2 ^ 58

/-- A payload scrambled, and the state after it. -/
def scramble (s : Nat) (k : Blk) : Blk × Nat :=
  let a := k.toNat / 2 ^ 32 ^^^ scrTaps s
  let s := scrShift s a
  let b := k.toNat % 2 ^ 32 ^^^ scrTaps s
  (BitVec.ofNat 64 (a * 2 ^ 32 + b), scrShift s b)

/-- A received payload descrambled, and the state after it. -/
def descramble (s : Nat) (k : Blk) : Blk × Nat :=
  let a := k.toNat / 2 ^ 32
  let b := k.toNat % 2 ^ 32
  let t := scrShift s a
  (BitVec.ofNat 64 ((a ^^^ scrTaps s) * 2 ^ 32 + (b ^^^ scrTaps t)), scrShift t b)

/-- The payload of a COMMA block (Table 3-3). -/
def commaBlk : Blk := 0xAAAAAAAA00000000#64

/-- The payload of an IDLE block. -/
def idleBlk : Blk := 0x1E00000000000000#64

/-- The state after a COMMA, whose bits are shifted in unscrambled. -/
def scrComma (s : Nat) : Nat := (scrShift (scrShift s (commaBlk.toNat / 2 ^ 32)) (commaBlk.toNat % 2 ^ 32))

/-- The state after `n` copies of a block. -/
def scrRun (k : Blk) : Nat → Nat → Nat
  | 0, s => s
  | n + 1, s => scrRun k n (scramble s k).2

/-- The seed of a transmit lane's scrambler. -/
def scrSeed (m : Nat) : Nat := 0x25A5A00000000 + m

/-- Taps of the test patterns by PAT: PRBS31, PRBS13, PRBS9 (R91). -/
def prbsTaps : Nat → List Nat
  | 0 => [31, 28]
  | 1 => [13, 12, 2, 1]
  | 2 => [9, 5]
  | _ => []

/-- COMMA and IDLE blocks of the fast-exit burst at a rate code (Table 3-7). -/
def burstBlocks : Nat → Nat × Nat
  | 2 => (40, 20)
  | 1 => (20, 10)
  | _ => (8, 4)

/-! ## Amounts -/

/-- A signed number held within bounds. -/
def clampInt (lo hi x : Int) : Int := max lo (min hi x)

/-- Payload rate of one lane at a rate code, in Mbit/s (Table 3-2). -/
def laneRate : Nat → Nat
  | 2 => 51520
  | 1 => 25760
  | _ => 10000

/-- Ticks of 5 ns that `w` bytes take at `r` Mbit/s, rounded up. -/
def wireTicks (w r : Nat) : Nat := if r = 0 then 0 else ceilDiv (w * 1600) r

/-- Block time at a rate code, in units of 0.1 ps (Table 3-2). -/
def blockTime : Nat → Nat
  | 2 => 12424
  | 1 => 24848
  | _ => 64000

/-- TS2 blocks sent in `t` ticks of repeating groups of 2 COMMA and 6 TS2 at a rate code. -/
def ts2Sent (rate t : Nat) : Nat :=
  let b := t * 50000 / blockTime rate
  b / 8 * 6 + (b % 8 - 2)

/-- Cells of a tunnel frame whose body is `len` bytes (R112). -/
def cellsOf (len : Nat) : Nat := ceilDiv len 256

/-- Bytes of a link frame on the wire for a body of `len` bytes (R95). -/
def wireBytes (len : Nat) : Nat := 16 + 8 * ceilDiv len 8

/-- Tokens after accrual, in 1/4,096 byte, capped at BURST (R231). -/
def accrue (burst rate : Nat) (tok : Int) (n : Nat) : Int :=
  min ((burst * 64 * 4096 : Nat) : Int) (tok + ((rate * n : Nat) : Int))

/-- Tokens as a register shows them: units of 64 bytes, signed, saturating, 16 bits (Table 8-17). -/
def tokenField (tok : Int) : Nat := ofSigned 16 (clampInt (-32768) 32767 (tok / (64 * 4096)))

end Sys2Proof
end

