-- ==== Sys2Proof/Machine/Operands.lean ====
section
/-! DEFINITION. The forms in which commands carry their operands: lane and link blocks (Tables 2-2, 3-5, 3-8, 4-2 to
4-4), and the tunnel header (Table 5-1), read from bits and built into bits. -/

namespace Sys2Proof

/-! ## Block types (Tables 3-3 and 4-1) -/

def btTS1 : Nat := 0x2D
def btTS2 : Nat := 0x33
def btEI : Nat := 0x4B
def btStripe : Nat := 0x55
def btLmgt : Nat := 0x66
def btLbk : Nat := 0x78
def btSof : Nat := 0xB4
def btEofg : Nat := 0xE1
def btEofb : Nat := 0x9C
def btLcb : Nat := 0xC3
def btTime : Nat := 0xD2

/-- The block type (R63). -/
def Blk.btype (k : Blk) : Nat := k.field 0 7

/-- Whether a block is of a type and its CRC-8 is good. -/
def Blk.isA (k : Blk) (t : Nat) : Bool := k.btype == t && k.crcOk

/-! ## Time blocks (Table 2-2): payload bit `i` is block bit `i + 8` -/

/-- A time block's payload bits `a` to `b`. -/
def Blk.time (k : Blk) (a b : Nat) : Nat := k.field (a + 8) (b + 8)

/-- Whether a block passes the block-type check of R43 and has a subkind. -/
def Blk.isTime (k : Blk) (subkind : Nat) : Bool := k.btype == btTime && k.time 0 1 == subkind

/-- TSYNC of a ridge time (R43). -/
def timeTsync (frac ridge : Nat) : Blk := BitVec.ofNat 64 (pack [(8, btTime), (2, 0), (6, frac), (48, ridge)])
/-- DREQ. -/
def timeDreq (id : Nat) : Blk := BitVec.ofNat 64 (pack [(8, btTime), (2, 1), (6, id), (48, 0)])
/-- DRSP. -/
def timeDrsp (id res : Nat) : Blk := BitVec.ofNat 64 (pack [(8, btTime), (2, 2), (6, id), (24, res), (24, 0)])
/-- TEPOCH of the ridge time of the TSYNC before it. -/
def timeTepoch (ridge : Nat) : Blk :=
  BitVec.ofNat 64 (pack [(8, btTime), (2, 3), (6, 0), (16, ridge / 2 ^ 48), (32, 0)])

/-! ## TS1 and TS2 (Table 3-5) -/

/-- The fields of a training block. -/
structure TsBlk where
  lane : Nat
  rates : Nat
  tgt : Nat
  retire : Nat
  role : Nat
  preset : Nat
  pre : Nat
  post : Nat
  eqlane : Nat
  eqstat : Nat
  phase : Nat
  ready : Bool
deriving DecidableEq, Repr

/-- A training block read from its bits. -/
def Blk.ts (k : Blk) : TsBlk :=
  { lane := k.field 8 9, rates := k.field 10 12, tgt := k.field 13 15, retire := k.field 16 19, role := k.field 20 21,
    preset := k.field 24 27, pre := k.field 28 29, post := k.field 30 31, eqlane := k.field 32 33,
    eqstat := k.field 34 35, phase := k.field 36 37, ready := k.field 38 38 == 1 }

/-- A training block built from its fields; RETIRE has lane m at value bit m (log entry 63). -/
def TsBlk.blk (t : TsBlk) (bt : Nat) : Blk :=
  crcBlk (pack [(8, bt), (2, t.lane), (3, t.rates), (3, t.tgt), (4, t.retire), (2, t.role), (2, 0), (4, t.preset),
    (2, t.pre), (2, t.post), (2, t.eqlane), (2, t.eqstat), (2, t.phase), (1, b2n t.ready), (17, 0)])

/-- Lane numbers seen from the other end of the cable: lane m meets 3 - m (R58). -/
def flipMask (m : Nat) : Nat :=
  (if bitOf m 0 then 8 else 0) + (if bitOf m 1 then 4 else 0) + (if bitOf m 2 then 2 else 0) + (if bitOf m 3 then 1 else 0)

/-! ## LMGT (Table 3-8), STRIPE, LBK -/

/-- LMGT kinds. -/
def lmREQ : Nat := 0
def lmACK : Nat := 1
def lmNAK : Nat := 2
def lmDONE : Nat := 3
def lmFAIL : Nat := 4
def lmLREC : Nat := 5
def lmLRET : Nat := 6
def lmDREP : Nat := 7

/-- An LMGT block (Table 3-8, R83). The spec does not say which wire bit of LANES, or of RETIRE in a training block, is lane m: here lane m is value bit
m, so lane 3 goes first (log entry 63). -/
def lmgtBlk (kind id mode lanes dly x : Nat) : Blk :=
  crcBlk (pack [(8, btLmgt), (3, kind), (4, id), (3, mode), (4, lanes), (10, dly), (24, x)])

def Blk.lmKind (k : Blk) : Nat := k.field 8 10
def Blk.lmId (k : Blk) : Nat := k.field 11 14
def Blk.lmMode (k : Blk) : Nat := k.field 15 17
def Blk.lmLanes (k : Blk) : Nat := k.field 18 21
def Blk.lmDly (k : Blk) : Nat := k.field 22 31
def Blk.lmX (k : Blk) : Nat := k.field 32 55

/-- A STRIPE block announcing a lane set by sender lane number: bit 8 + m is lane m (Table 3-3). -/
def stripeBlk (set : Nat) : Blk := crcBlk (pack [(8, btStripe), (1, set), (1, set / 2), (1, set / 4), (1, set / 8), (44, 0)])

/-- The lane set of a STRIPE block, bit m for sender lane m. -/
def Blk.stripeSet (k : Blk) : Nat := k.field 8 8 + 2 * k.field 9 9 + 4 * k.field 10 10 + 8 * k.field 11 11

/-- An EI block. -/
def eiBlk : Blk := crcBlk (pack [(8, btEI), (48, 0)])

/-- A far-end loopback block: enter or exit (Table 3-3). -/
def lbkBlk (enter : Bool) : Blk := crcBlk (pack [(8, btLbk), (2, b2n enter), (46, 0)])

/-! ## Link header, trailer, LCB (Tables 4-2 to 4-4) -/

/-- The link header. -/
structure LinkHdr where
  kind : Nat
  seq : Nat
  cls : Nat
  shc : Nat
  len : Nat
  crcls : Nat
  crshr : Bool
  crcnt : Nat
deriving DecidableEq, Repr

/-- The link header read from an SOF block. -/
def Blk.sof (k : Blk) : LinkHdr :=
  { kind := k.field 8 9, seq := k.field 10 21, cls := k.field 22 24, shc := k.field 25 30, len := k.field 31 44,
    crcls := k.field 45 47, crshr := k.field 48 48 == 1, crcnt := k.field 49 55 }

/-- The SOF block of a link header. -/
def LinkHdr.blk (l : LinkHdr) : Blk :=
  crcBlk (pack [(8, btSof), (2, l.kind), (12, l.seq), (3, l.cls), (6, l.shc), (14, l.len), (3, l.crcls), (1, b2n l.crshr),
    (7, l.crcnt)])

/-- Whether LEN is in its range: 16 to 9,232 for a tunnel frame, 32 for a link message (R98, Table 4-2). -/
def LinkHdr.lenOk (l : LinkHdr) : Bool := if l.kind = 0 then 16 ≤ l.len && l.len ≤ 9232 else l.len == 32

/-- A trailer block: end code and FCRC (Table 4-3). -/
def trailerBlk (good : Bool) (fcrc : Nat) : Blk :=
  crcBlk (pack [(8, if good then btEofg else btEofb), (16, 0), (32, fcrc)])

def Blk.fcrc (k : Blk) : Nat := k.field 24 55

/-- A link control block. -/
def lcbBlk (ak aseq : Nat) (staged poll : Bool) (crcls : Nat) (crshr : Bool) (crcnt : Nat) : Blk :=
  crcBlk (pack [(8, btLcb), (2, ak), (12, aseq), (1, b2n staged), (1, b2n poll), (3, crcls), (1, b2n crshr), (7, crcnt),
    (21, 0)])

def Blk.lcAk (k : Blk) : Nat := k.field 8 9
def Blk.lcAseq (k : Blk) : Nat := k.field 10 21
def Blk.lcStaged (k : Blk) : Bool := k.field 22 22 == 1
def Blk.lcPoll (k : Blk) : Bool := k.field 23 23 == 1

/-- The pool an LCB's credit field names: class 0 to 7, or 8 for shared. -/
def Blk.lcPool (k : Blk) : Nat := if k.field 27 27 = 1 then 8 else k.field 24 26
def Blk.lcCount (k : Blk) : Nat := k.field 28 34

/-! ## The tunnel header (Table 5-1) -/

/-- The tunnel header's fields. -/
structure THdr where
  dhub : Nat
  dtun : Nat
  shub : Nat
  stun : Nat
  type : Nat
  cls : Nat
  p : Bool := false
  r : Bool := false
  b : Bool := false
  a : Bool := false
  hops : Nat := 31
  plen : Nat
  rsv : Nat := 0
  eseq : Nat := 0
  hcrc : Nat := 0
deriving DecidableEq, Repr

/-- The 16 header bytes. -/
def THdr.bytes (h : THdr) : Bytes :=
  beBytes 16 (pack [(16, h.dhub), (12, h.dtun), (16, h.shub), (12, h.stun), (4, h.type), (3, h.cls), (1, b2n h.p),
    (1, b2n h.r), (1, b2n h.b), (1, b2n h.a), (5, h.hops), (14, h.plen), (2, h.rsv), (24, h.eseq), (16, h.hcrc)])

/-- The header read from the first 16 bytes of a body. -/
def tunHdr (l : Bytes) : THdr :=
  let x := beNat (l.take 16)
  let f := wire 128 x
  { dhub := f 0 15, dtun := f 16 27, shub := f 28 43, stun := f 44 55, type := f 56 59, cls := f 60 62, p := f 63 63 == 1,
    r := f 64 64 == 1, b := f 65 65 == 1, a := f 66 66 == 1, hops := f 67 71, plen := f 72 85, rsv := f 86 87,
    eseq := f 88 111, hcrc := f 112 127 }

/-- The 14 bytes HCRC covers: byte 8 with R and HOPS masked out (R127). -/
def THdr.crcInput (h : THdr) : Bytes := (({ h with r := false, hops := 0 } : THdr).bytes).take 14

/-- The header with its HCRC computed (R127). -/
def THdr.seal (h : THdr) : THdr := { h with hcrc := crc16 h.crcInput }

/-- The form check of Table 5-2, row 2, for a header whose link header carried LEN and CLASS. -/
def THdr.formOk (h : THdr) (len cls : Nat) : Bool :=
  decide (h.type ≤ 5) && (!h.a || h.type == 0) && (!h.p || (h.type != 0 && !h.b)) && decide (h.plen ≤ 9216) &&
  h.plen + 16 == len && h.cls == cls

end Sys2Proof
end

