-- ==== Sys2Proof/Machine/State.lean ====
section
/-! DEFINITION. The state of the block as plain data: one register file for every register of Register Index, and the
state the spec gives the hub that no register shows (counts, timers, queues, exchanges in progress), chapter by chapter,
and the queue of waiting commands. -/

namespace Sys2Proof.Machine

/-- Sparse data by number: pairs in rising order of key, none equal to the default (see `Tab.wf` in Ops). -/
abbrev Tab (α : Type) := List (Nat × α)

/-! ## Time (spec/02_ridge_time.md) -/

/-- The child's delay exchange in progress on an uplink (R43, R44): request id and send stamp t1 in 1/64 tick. -/
structure DelayEx where
  id : Nat
  t1 : Int
deriving DecidableEq, Repr

/-- What a hub keeps of time on one port (R43 to R45, R84). -/
structure TimePort where
  /-- TSYNC blocks sent by this hub as parent, for the TEPOCH after every eighth (R43). -/
  sent : Nat := 0
  /-- Tick of the last TSYNC sent as parent. -/
  lastTsync : Option Nat := none
  /-- Tick of the last DREQ sent as child. -/
  lastDreq : Option Nat := none
  /-- Next request identifier. -/
  nextId : Nat := 0
  /-- Delay exchange in progress (child). -/
  ex : Option DelayEx := none
  /-- Request a DRSP is owed for (parent): the id and the tick of its arrival. -/
  owed : Option (Nat × Nat) := none
  /-- Twice the mean link delay in 1/64 tick, once measured (R44). -/
  mean2 : Option Int := none
  /-- Latest TEPOCH: EPOCH field and the TICK of the TSYNC before it (R44). -/
  epoch : Option (Nat × Nat) := none
  /-- The last TSYNC taken: TICK, FRAC and the local stamp trx in 1/64 tick. -/
  sync : Option (Nat × Nat × Int) := none
  /-- Delay last reported by a DREP (R84). -/
  drep : Option Nat := none
deriving DecidableEq, Repr

/-- Hidden state of a compare unit (R48). -/
structure CompareUnit where
  /-- Target in force, installed by a write of CMP_HI. -/
  target : Option Nat := none
  /-- The target was at or before the tick it was written in: the unit matches once in the next tick (R48). -/
  force : Option Nat := none
  /-- Tick at which the output pulse ends. -/
  pulseEnd : Option Nat := none
deriving DecidableEq, Repr

/-- Ridge time and frequency lock. TIME_STAT holds STATE, SRCPORT, SRCVALID, ERR and STEP. -/
structure TimeSt where
  /-- Ticks since the release of the chip reset (R531); the 32-bit tick count is this modulo 2^32. -/
  tick : Nat := 0
  /-- Ridge time (R5). -/
  ridge : BitVec 64 := 0#64
  /-- How far corrections of R45 and R532 have moved the tick edge, in 1/64 tick. -/
  phase : Int := 0
  /-- TIME_NOW_HI shadow of each access path (R41). -/
  shadow : Tab Nat := []
  /-- PALIGN armed: TIME_SET loads at the next SYNC_IN rising edge (R42). -/
  alignArmed : Bool := false
  /-- Tick the present acquisition attempt started (Table 2-1). -/
  acqStart : Option Nat := none
  /-- Failed acquisition attempts on the present uplink (Table 2-1). -/
  acqFails : Nat := 0
  /-- Uplink being acquired or followed. -/
  uplink : Nat := 0
  /-- In HOLD: REFCLK corrected by the last measured ratio (R39). -/
  ratioHeld : Bool := false
  /-- Re-acquiring out of HOLD: the first offset decides whether a step is applied (Table 2-1). -/
  reacq : Bool := false
  /-- Ridge time has been loaded in FLOCK (Table 2-1). -/
  loaded : Bool := false
  /-- Transmission is enabled: FLOCK has been reached once, or the hub is the summit (R36). -/
  txOn : Bool := false
  /-- Consecutive offsets within plus or minus 8/64 tick. -/
  good : Nat := 0
  /-- Consecutive offsets beyond plus or minus 2 ticks. -/
  bad : Nat := 0
  /-- TLOCK or SUMMIT has been reached since reset (R342). -/
  everLocked : Bool := false
  cmp : Tab CompareUnit := []
  /-- Loads and steps of ridge time made so far, and the tick of the last: what is aligned to ridge time tells by it that a window
  was cut (R532). -/
  jumps : Nat := 0
  jumpAt : Option Nat := none
  /-- What REFOUT shows: 0 nothing, 1 the local REFCLK frequency, 2 the fabric frequency (R35). -/
  refout : Nat := 0
deriving DecidableEq, Repr

/-! ## Event streams (spec/17_events_and_faults.md) -/

/-- A record in a bank: the 64-bit record, its running number, and the producer whose credit paid for it (none for MARK
and LOSS records, which come out of the stream's reserve, R447). -/
structure Slot where
  word : Nat
  num : Nat
  prod : Option Nat
deriving DecidableEq, Repr

/-- A bank of a stream (R442, R448, R449). -/
structure Bank where
  slots : List Slot := []
  /-- Tick of its first record. -/
  first : Option Nat := none
  /-- Reserve slots taken by MARK records. -/
  marks : Nat := 0
  /-- Producers that have a LOSS record in the bank. -/
  losses : List Nat := []
  /-- The bank was closed by the timer, FLUSH or EN = 0. -/
  flushed : Bool := false
deriving DecidableEq, Repr

/-- A stream (R442 to R452); EVS_CFG, EVS_STAT, EVS_NEXT and EVS_CNT hold the rest. -/
structure Stream where
  fill : Bank := {}
  drain : Bank := {}
  /-- Ridge time bits 63:20 of the last MARK. -/
  mark : Option Nat := none
  /-- A MARK is due because EN went from 0 to 1 (R444). -/
  markDue : Bool := false
  /-- A MARK could not be written for want of a reserve slot and is owed (R448). -/
  markOwed : Bool := false
  /-- A close is held until the other bank is empty; whether it is a flushing close (R449). -/
  held : Option Bool := none
  /-- PEND at the end of the last tick (R451). -/
  seen : Nat := 0
  /-- An event frame of the draining bank has been offered for admission (R450). -/
  offered : Bool := false
deriving DecidableEq, Repr

/-- A producer's hidden state: records lost since its last LOSS, and credits returned in a given tick, which can be
spent only from the next tick on (R447). -/
structure Producer where
  lost : Nat := 0
  retTick : Nat := 0
  ret : Nat := 0
deriving DecidableEq, Repr

/-- Event streams, fatal errors. -/
structure EvsSt where
  streams : Tab Stream := []
  prods : Tab Producer := []
  /-- Tick of the fatal error: from the next tick on the streams write nothing (R454, R459). -/
  stopped : Option Nat := none
  /-- Tick of the last telemetry (R453). -/
  telAt : Option Nat := none
deriving DecidableEq, Repr

/-! ## What the hub sends out -/

/-- An output pin the hub drives by an event of this model. -/
inductive OutPin where
  | syncOut
  | gpio (n : Nat)
  | dsch (port : Nat)
  | regEn (n : Nat)
  | csen (port : Nat)
deriving DecidableEq, Repr

/-- What the hub does on the USB pair of a port. -/
inductive UsbOut where
  /-- A start-of-frame with its frame number; a keep-alive (R341). -/
  | sof (frame : Nat)
  | keepAlive
  /-- Reset drive, resume drive, pair released, pull-downs applied, a test mode (Tables 13-4, 13-10). -/
  | se0
  | k
  | released
  | pullDowns
  | test (mode : Nat)
  /-- The packet of a SETUP or OUT transaction to a device's endpoint; an IN transaction. -/
  | setup (dev ep : Nat) (bytes : Bytes)
  | outData (dev ep : Nat) (bytes : Bytes)
  | inToken (dev ep : Nat)
  /-- The same through the translator of an external high-speed hub: its address and port (R355). -/
  | split (hub port : Nat) (what : UsbOut)
deriving DecidableEq, Repr

/-- What a port presents on the line of its configuration channel (Table 15-1). -/
inductive CcLine where
  | pullDown
  | pullUp
  | highZ
deriving DecidableEq, Repr

/-- Something that leaves the hub. -/
inductive Out where
  /-- A read answered on a path: address and word. -/
  | readData (p : Path) (addr : Nat) (v : Word)
  /-- An MSI-X message of a vector: the address it is written to, and its data. -/
  | msix (vec addr data : Nat)
  /-- A read of BAR2 answered; a configuration request answered with its word, or with Configuration Request Retry Status (R248,
  R252). -/
  | bar2Data (addr : Nat) (v : Word)
  | cfgData (v : Word)
  | cfgRetry
  /-- An error of a host read, reported through Advanced Error Reporting (R273). -/
  | aer
  /-- A pin driven high or low. -/
  | pin (p : OutPin) (level : Bool)
  /-- What a port presents on its configuration channel changes (R385, R386). -/
  | line (port : Nat) (l : CcLine)
  /-- Control blocks of one kind sent on a port: the lanes they leave on, how many copies on each, and the payload before
  scrambling. -/
  | ctl (port lanes count : Nat) (blk : Blk)
  /-- A body data block of a link frame, and the lane it leaves on (R68, R95). -/
  | data (port lane : Nat) (blk : Blk)
  /-- Repeating training groups on lanes, at a rate code: TS1, or TS2, with these contents (R70, R72). -/
  | groups (port lanes rate : Nat) (blk : Blk)
  /-- The fast-exit burst on lanes at a rate code: its COMMA and its IDLE blocks (Table 3-7). -/
  | burst (port lanes rate commas idles : Nat)
  /-- Drivers of lanes held at the idle common level, or switched off (R70, R77). -/
  | idle (port lanes : Nat)
  | off (port lanes : Nat)
  /-- Scrambled IDLE on lanes with rows aligned (Table 3-4). -/
  | idles (port lanes : Nat)
  /-- A lane's pattern generator runs, with the taps of its polynomial, or stops (no taps) (R91). -/
  | pattern (port lane : Nat) (taps : List Nat)
  /-- Receive lanes joined to, or retimed out of, transmit lanes, as pairs (from, to); none: the joins are undone (R90). -/
  | loop (port : Nat) (serial : Bool) (joins : List (Nat × Nat))
  /-- A read, or a posted write, of host memory under a PASID (R250). -/
  | hostRead (pasid addr len : Nat)
  | hostWrite (pasid addr : Nat) (bytes : Bytes)
  /-- A BAR4 read completed to the host with these bytes, or with Unsupported Request (R299, R300). -/
  | bar4Data (id : Nat) (bytes : Bytes)
  | bar4Ur (id : Nat)
  /-- A Latency Tolerance Reporting message: value, scale, and whether its Requirement bits are set (R335). -/
  | ltr (value scale : Nat) (req : Bool)
  | usb (port : Nat) (what : UsbOut)
  /-- Pn_GATE: 0 discharged, 1 ramping at SLEW, 2 full enhancement (Table 14-2). -/
  | gate (port mode : Nat)
  /-- Pn_VSET's code. -/
  | vset (port code : Nat)
  /-- A configuration-channel frame that starts at a tick: header and objects (R391). -/
  | cc (port start hdr : Nat) (objs : List Nat)
  /-- An SMBus transfer to the regulator: write word of VOUT_COMMAND with a code, or read word of STATUS_WORD (R437). -/
  | pmbusVout (code : Nat)
  | pmbusStatus
  /-- The PCIe link trains (R248). -/
  | pcieTrain
  /-- What REFOUT carries from now on: 0 nothing, 1 the local REFCLK frequency, 2 the fabric frequency (R35). -/
  | refout (mode : Nat)
  /-- Bytes written to the SPI NOR flash at an offset (R460). -/
  | flash (off : Nat) (bytes : Bytes)
deriving DecidableEq, Repr

/-! ## Lanes (spec/03_lanes.md); PORT_LSTAT, PORT_LMODE, PORT_LRETIRE, PORT_EQTX and PORT_EQRX hold the rest -/

/-- A lane turn in flight (R85 to R89). Lanes are hub lane numbers. -/
structure Turn where
  id : Nat
  /-- Execution tick X, in ridge time. -/
  x : Nat
  /-- Target mode and mode before the turn, in the hub's view. -/
  target : Nat
  from_ : Nat
  /-- Lanes that change direction. -/
  lanes : Nat
  /-- This end sent the REQ. -/
  initiator : Bool
  /-- This end executes: ACK sent, or received in time. -/
  committed : Bool := false
  /-- This end is the new sender of the turning lanes. -/
  newSender : Bool
  /-- Rows of Table 3-9 already executed at this end. -/
  stage : Nat := 0
deriving DecidableEq, Repr

/-- A single-lane recovery in progress (R80). -/
structure Recovery where
  start : Nat
  /-- This end receives on the lane (it sent LREC); else this end sends on it. -/
  receiver : Bool
  /-- Training groups sent on the lane, or the lane has block lock again, since. -/
  good : Option Nat := none
deriving DecidableEq, Repr

/-- Transmitter weights and receiver values of a lane in one direction (R74, Table 3-19). -/
structure EqSet where
  pre : Nat := 2
  main : Nat := 40
  post : Nat := 6
  eye : Nat := 0
  dfe1 : Nat := 0
  ctle : Nat := 0
deriving DecidableEq, Repr

/-- What the lanes of one port keep. -/
structure LaneSt where
  /-- Tick the present training state was entered (R70). -/
  since : Nat := 0
  /-- Lanes in block lock (R67). -/
  lock : Nat := 0
  /-- Control lane of the attempt (R70). -/
  ctl : Option Nat := none
  /-- Consecutive good TS1, by lane. -/
  ts1 : Tab Nat := []
  /-- Consecutive TS2 that agree, name the next phase, or carry READY. -/
  ts2 : Nat := 0
  /-- Tick since which this end sends such TS2. -/
  ts2From : Option Nat := none
  /-- Rates, target rate and RETIRE last received from the partner. -/
  prates : Nat := 0
  ptgt : Nat := 0
  pretire : Nat := 0
  /-- ROLE last announced by the partner (Table 3-5). -/
  prole : Nat := 0
  /-- Pairs of the attempt's lane set, by hub lane number (R73). -/
  set : Nat := 15
  /-- The 400-tick idle of RATE has ended. -/
  retuned : Bool := false
  /-- Phase of EQ: 0 A, 1 B, 2 C, 3 verify (R74). -/
  phase : Nat := 0
  /-- Lanes whose far receiver reported done in this phase. -/
  done : Nat := 0
  /-- End of the 176-tick idle after a phase change. -/
  eqIdle : Option Nat := none
  /-- Receive lanes of this end that are done in this phase; what each last asked for; tick the phase began (R74). -/
  rxOk : Nat := 0
  ask : Tab EqAsk := []
  phaseAt : Nat := 0
  /-- Tick of the last known line error in VERIFY. -/
  errAt : Nat := 0
  /-- READY exchanged: 8 TS2 with READY received. -/
  readyRx : Bool := false
  /-- Fallback ceiling (R76). -/
  ceil : Nat := 2
  /-- Consecutive failed attempts with one and the same single failing pair at one rate: pair, rate, count. -/
  single : Option (Nat × Nat × Nat) := none
  /-- Consecutive failed attempts with two or more failing pairs at one rate: rate, count. -/
  multi : Option (Nat × Nat) := none
  /-- Consecutive failed attempts at NRZ. -/
  nrz : Nat := 0
  /-- An attempt has failed since the last success. -/
  failed : Bool := false
  /-- Recoveries in progress, by lane. -/
  rec_ : Tab (Option Recovery) := []
  /-- Consecutive failed recoveries, by lane; start ticks of recoveries, latest first, by lane (R81). -/
  recFails : Tab Nat := []
  recStarts : Tab (List Nat) := []
  /-- Turn in flight. -/
  turn : Option Turn := none
  /-- Last REQ block received and its tick: its other copies follow at once (R85). -/
  reqSeen : Option (Blk × Nat) := none
  /-- Next turn identifier. -/
  turnId : Nat := 0
  /-- A request waits for the turn in flight to end (R88). -/
  waiting : Bool := false
  /-- A REQ of the partner that arrived while a turn was in flight (R21). -/
  heldReq : Option Blk := none
  /-- Saved settings, by lane × 2 + direction (1: hub transmits) (R74). -/
  saved : Tab EqSet := []
  /-- In LOOPBACK by the partner's far-end request (R90). -/
  retime : Bool := false
  /-- Turning lanes whose lock is still awaited after a turn that failed on another lane (R86). -/
  burst : Nat := 0
  /-- Transmit lane from which the next link-layer block is placed; slots already taken by lane-layer blocks of the tick, by
  lane, and that tick (R68). -/
  slot : Nat := 0
  taken : Tab Nat := []
  slotAt : Nat := 0
  /-- Scrambler of each transmit lane and descrambler of each receive lane: bit i - 1 is s[i] of R64. -/
  scr : Tab Nat := []
  des : Tab Nat := []
  /-- Lanes whose pattern generator runs, and its PAT; lanes whose checker has synchronised (R91). -/
  gen : Nat := 0
  genPat : Nat := 0
  /-- The loopback's joins are made (R90). -/
  joined : Bool := false
  chk : Nat := 0
  /-- Tick at which a signal was last reported, since the partner was seated (R165, R167). -/
  sigAt : Option Nat := none
deriving DecidableEq, Repr

/-! ## Link layer (spec/04_link_layer.md); PORT_LKSTAT, PORT_LKSEQ, PORT_CRDTX, PORT_CRDSH hold the rest -/

/-- A link frame being received: its SOF block, whether it was staged and under which frame number, the body bytes so
far, and its arrival tick. -/
structure RxOpen where
  sof : Blk
  staged : Bool
  id : Nat
  data : Bytes := []
  blocks : Nat := 0
  start : Nat
deriving DecidableEq, Repr

/-- A tunnel frame in replay memory (R102, R109, R113). -/
structure Ret where
  seq : Nat
  cls : Nat
  len : Nat
  /-- Body bytes as sent, so far. -/
  body : Bytes
  /-- Cells charged to class and to shared credit. -/
  ded : Nat
  shc : Nat
  /-- All of the body is in replay memory; the end code it was or will be closed with. -/
  full : Bool
  bad : Bool
  /-- The SOF block of its latest send, which FCRC covers (R99, R109). -/
  sof : Blk := 0#64
deriving DecidableEq, Repr

/-- The link frame that a port is transmitting: its sequence number, body blocks sent, and the payload capacity since its SOF,
in 1/1,000 bit (R95, R109). -/
structure Line where
  seq : Nat
  sent : Nat := 0
  acc : Nat := 0
  /-- Counted in OVERRUN already (R229). -/
  tallied : Bool := false
deriving DecidableEq, Repr

/-- Bytes counted in the shepherd's windows: their length, the window counted last, by its number in ridge time, its bytes, and those of
the one before it (R240). -/
structure Flow where
  w : Nat := 0
  idx : Nat := 0
  cur : Nat := 0
  prev : Nat := 0
deriving DecidableEq, Repr

/-- A thing to be sent on a port: lane-layer blocks on the lanes they address, a link-layer block (control or data) for the next
row slot, or anything else (R68). -/
inductive Item where
  | lane (lanes count : Nat) (blk : Blk)
  | link (ctl : Bool) (blk : Blk)
  | other (o : Out)
deriving DecidableEq, Repr

/-- What the link layer of one port keeps. -/
structure LinkSt where
  rx : Option RxOpen := none
  /-- Discarding blocks up to the next SOF (R98). -/
  skip : Bool := false
  /-- Replay memory, oldest first. -/
  ret : List Ret := []
  /-- Start of the running replay timer (R108). -/
  rplAt : Option Nat := none
  /-- Polls without an answer. -/
  polls : Nat := 0
  /-- ASEQ of the last NAK, and how many NAKs carried it (R111). -/
  nakSeq : Option Nat := none
  nakN : Nat := 0
  /-- In NAK-wait: frame NEXT had been staged (R104). -/
  nakStaged : Bool := false
  /-- Sequence numbers still to be resent by the replay in progress. -/
  replay : List Nat := []
  /-- Sequence number of the first frame of the last replay, until it is accepted. -/
  replayed : Option Nat := none
  /-- Last credit count received, by pool 0 to 8 (8 shared). -/
  last : Tab Nat := []
  /-- Cumulative credit count of this end's staging, and the tick it was last sent, by pool (R114). -/
  cnt : Tab Nat := []
  sent : Tab Nat := []
  /-- Tick of the last LCB sent; of the last good SOF, trailer or LCB received (R116). -/
  lcbAt : Nat := 0
  rxAt : Nat := 0
  /-- Tick of the last block sent on the transmit direction (R117). -/
  txAt : Nat := 0
  /-- Ticks of the lasting faults that count toward a rate drop (R116). -/
  faults : List Nat := []
  /-- Own EPOCH once drawn, latest EPOCH of the partner (Table 4-8). -/
  epoch : Option Nat := none
  pepoch : Nat := 0
  /-- Entry to INIT; last LPARAM sent and whether it carried RESUME. -/
  initAt : Nat := 0
  lpAt : Option Nat := none
  lpResume : Bool := false
  /-- Start of the hold time; partner EPOCH the kept state belongs to (R118, R120). -/
  downAt : Option Nat := none
  kept : Option Nat := none
  /-- The partner's largest body (R115). -/
  maxlen : Nat := 9232
  /-- Own dedicated pools in force since the last entry to INIT (R123). -/
  ded : List Nat := []
  /-- Blocks that wait for the direction to leave electrical idle (R117). -/
  wait : List Item := []
  /-- Link frame in transmission; bodies of link messages that wait for its end (R96). -/
  line : Option Line := none
  msgs : List Bytes := []
  /-- Tick by which an ACK is owed (R105); tick of the last ACK or NAK received (R121); last tick in which the conditions of
  idle entry did not hold (R117). -/
  ackAt : Option Nat := none
  ansAt : Option Nat := none
  busyAt : Nat := 0
  /-- SOF, data and trailer blocks sent and received, in bytes (R240). -/
  txFlow : Flow := {}
  rxFlow : Flow := {}
deriving DecidableEq, Repr

/-! ## Switch core and kennel (spec/07_switch_core.md) -/

/-- Where a frame stands on its way through staging (R196, R197, R200). -/
inductive Phase where
  /-- Its route is not known yet. -/
  | arriving
  /-- Built here, and kept by its source until the internal staging has room (Table 7-3); with its queues where they are fixed. -/
  | stalled (queues : Option (List Nat))
  /-- A protected packet that terminates here at an entry, waiting for its place in the sequence (R156). -/
  | protected_ (t : Nat)
  /-- Its header waits for its queue, or queues, to accept it. -/
  | routed (queues : List Nat)
  /-- Accepted; cells are admitted as they come. -/
  | accepted
  /-- Discarded: its cells leave staging as they come. -/
  | dropped
deriving DecidableEq, Repr

/-- A kennel cell of a frame and its reference count (R204, R205). -/
structure CellRef where
  cell : Nat
  refs : Nat
  poisoned : Bool := false
deriving DecidableEq, Repr

/-- Which local function built a frame here, for what it does when the header commits or the frame is discarded. -/
inductive Origin where
  | none
  /-- A TX ring's descriptor slot (R264). -/
  | ring (r slot : Nat)
  /-- A WR of a BLK descriptor, and how many bytes it carries (R269). -/
  | blk (r slot len : Nat)
  /-- A completion written as a WR, or anything else whose fate nobody awaits, is `none`. An event stream's draining bank (R450). -/
  | stream (v : Nat)
deriving DecidableEq, Repr

/-- What a function is told about a frame it built: its header committed, or it was discarded, with the status code of
Table 9-6, its ESEQ, and ridge time bits 31:0 at the commit (R264, R450). -/
structure Note where
  origin : Origin
  committed : Bool
  status : Nat
  eseq : Nat
  ts : Nat
deriving DecidableEq, Repr

/-- A tunnel frame held at this hub. -/
structure Frm where
  hdr : THdr
  /-- Body length (LEN of the link header) and the payload bytes that have arrived. -/
  len : Nat
  data : Bytes
  /-- Ingress point 0 to 33, arrival tick in staging, cells charged to shared credit. -/
  src : Nat
  arrived : Nat
  /-- CLASS of the link header. -/
  lcls : Nat
  shc : Nat := 0
  /-- Cells that have left staging. -/
  left : Nat := 0
  phase : Phase := .arriving
  /-- The end: none while OPEN, else whether it ended good. -/
  ended : Option Bool := none
  /-- The frame came with a bad end code; the core marked it bad. -/
  endBad : Bool := false
  bad : Bool := false
  /-- Cut short by a loss, or by a framing error: no further cell will come (R56, R210). -/
  cut : Bool := false
  /-- Enqueue time (tick count of R531). -/
  ts : Nat := 0
  /-- Cells in the kennel, in order. -/
  cells : List CellRef := []
  /-- Queues that hold a copy not yet finished, and queues charged for it with the cells credited back. -/
  copies : List Nat := []
  charged : List Nat := []
  credited : Nat := 0
  /-- Charged to retention (R201); the tunnel entry it was built from here. -/
  retained : Bool := false
  tun : Option Nat := none
  /-- Frame of a link-level resend under R158 or R159, not charged to the tunnel shaper. -/
  resend : Bool := false
  /-- Yellow, with the meter's YSHIFT (R238). -/
  yellow : Nat := 0
  /-- Payload rate of the ingress port at the commit (R208). -/
  rin : Nat := 0
  /-- Payload rate of each egress point at the commit, by queue (R208). -/
  routs : Tab Nat := []
  /-- Precolour of a host-ring frame: 0 green, 1 yellow, 2 red (R237). -/
  precol : Nat := 0
  /-- The meter that coloured it, the colour it gave, and the length it charged (R236, R262). -/
  metered : Option (Nat × Nat × Nat) := none
  /-- Queues whose copy still waits for acceptance while other copies proceed (R199, R200). -/
  waiting : List Nat := []
  /-- Tick in which the lifetime expired (R211). -/
  expired : Option Nat := none
  /-- Promoted here (R225). -/
  promoted : Bool := false
  origin : Origin := .none
deriving DecidableEq, Repr

/-- What an egress point is sending. -/
structure Tx where
  id : Nat
  q : Nat
  /-- Cells read so far; the whole frame has been sent. -/
  read : Nat := 0
  fin : Bool := false
  /-- Tick from which the egress is free again, once `fin`; at a port its link frame decides (R220). -/
  until_ : Nat
  /-- Counted in OVERRUN already (R229). -/
  tallied : Bool := false
  /-- Link sequence number at a port. -/
  seq : Nat := 0
deriving DecidableEq, Repr

/-- A flow-cache entry (R206). -/
structure FcEntry where
  dhub : Nat
  dtun : Nat
  egress : Nat
  path : Nat
deriving DecidableEq, Repr

/-- A kennel bank: cells returned to its stack, top first, and how many of its cells were never allocated (R203). -/
structure BankSt where
  freed : List Nat := []
  fresh : Nat := 0
deriving DecidableEq, Repr

/-- A row of a memory: ticks of its single-bit errors of the last second, whether it is a lasting fault, and whether its
cells are retired (R195). -/
structure RowSt where
  errs : List Nat := []
  faulted : Bool := false
  retired : Bool := false
deriving DecidableEq, Repr

/-- The switch core. CORE_QOCC, CORE_POOL, CORE_SHFREE and FAB_RETOCC hold the accounting quantities. -/
structure CoreSt where
  nextId : Nat := 0
  frames : Tab (Option Frm) := []
  /-- Staging lists, by ingress point × 8 + class; oldest first (R196). -/
  staging : Tab (List Nat) := []
  /-- Egress queues e × 8 + c, head first (R204). -/
  queues : Tab (List Nat) := []
  /-- Transmissions, by egress point. -/
  tx : Tab (Option Tx) := []
  /-- Ingress point served last by the admission stage (R15). -/
  rot : Nat := 33
  /-- Bank used last (R203), banks. -/
  bankRot : Nat := 63
  banks : Tab BankSt := []
  /-- Rows by memory × 2^20 + row; spare rows used, by memory × 2^20 + array. -/
  rows : Tab RowSt := []
  spares : Tab Nat := []
  /-- Cells retired for want of a spare (R195). -/
  retired : Nat := 0
  /-- Flow cache, by index (R206). -/
  fc : Tab (Option FcEntry) := []
  /-- Frames built here whose header has committed or that were discarded, to be told to their function before the
  command ends. -/
  notes : List Note := []
  /-- Frames that have left an egress point E32 or E33, with whether they ended good and whether bytes had been handed on
  before the end was known, to be given to the terminating function before the command ends. -/
  dels : List (Frm × Bool × Bool) := []
  /-- Frames delivered good at E32 and E33 to a function that takes them as messages, oldest first. -/
  inbox : List Frm := []
  /-- Next cell of every bank that the scrubber reads. -/
  scrub : Nat := 0
  /-- Banks written in tick `admAt`, one for each cell admitted in it (R15, R203). -/
  admAt : Nat := 0
  admBanks : List Nat := []
  /-- Frames that wait at the internal sources for room in staging, oldest first (Table 7-3). -/
  stall : List Nat := []
deriving DecidableEq, Repr

/-! ## Traffic control (spec/08_traffic_control.md) -/

/-- A shaper: tokens in 1/4,096 byte, and the values in force; its words hold the values written, staged while PEND is
set (R231, R232). -/
structure ShaperSt where
  tok : Int := 0
  en : Bool := false
  rate : Nat := 0
  burst : Nat := 0
deriving DecidableEq, Repr

/-- A meter: the two buckets, and the values in force (R237). -/
structure MeterSt where
  tc : Int := 0
  tp : Int := 0
  en : Bool := false
  aware : Bool := false
  ract : Bool := false
  yshift : Nat := 0
  cir : Nat := 0
  pir : Nat := 0
  cbs : Nat := 0
  pbs : Nat := 0
deriving DecidableEq, Repr

/-- The gates of an egress point: switchover tick of the active list, of the pending one (R228, R230). -/
structure GateSt where
  active : Option Nat := none
  pending : Option Nat := none
deriving DecidableEq, Repr

/-- The shepherd's view of a port: sequence number of the window last evaluated, of loads and steps seen. -/
structure ShepSt where
  /-- The trigger row of the present streak. -/
  row : Nat := 0
deriving DecidableEq, Repr

/-- Traffic control. -/
structure TrfSt where
  shapers : Tab ShaperSt := []
  meters : Tab MeterSt := []
  /-- Shapers and meters with staged values. -/
  pendS : List Nat := []
  pendM : List Nat := []
  /-- Tick of the last refill of R231. -/
  refillAt : Nat := 0
  /-- Refill period in force (R232). -/
  period : Nat := 2
  gates : Tab GateSt := []
  /-- Start of the last promoted frame, by egress point (R224). -/
  promo : Tab (Option Nat) := []
  shep : Tab ShepSt := []
deriving DecidableEq, Repr

/-! ## Tunnels and fabric assembly (spec/05_tunnels.md, spec/06_fabric_assembly.md) -/

/-- What a tunnel entry keeps beside its words (R149, R153 to R159). -/
structure TunSt where
  /-- EN was written 1 in this tick: OPEN in the next one (R147). -/
  opening : Bool := false
  /-- A path failure was detected in this tick: the resend set is fixed at its end (R158, R161). -/
  failed : Bool := false
  /-- Tick of the write of EN = 0 (R149). -/
  drainAt : Option Nat := none
  /-- Ingress end: retained packets, ESEQ and frame number, oldest first. -/
  retain : List (Nat × Nat) := []
  /-- Ingress end: windows in a row without LIVE; a PACK with LIVE came in this window; a packet was sent in it. -/
  missed : Nat := 0
  liveIn : Bool := false
  sentPkt : Bool := false
  /-- Ingress end: NEXT of the START in progress; ASEQ of the last PACK with HOLD; last resend for an ASEQ and its tick. -/
  next : Nat := 0
  hold : Option Nat := none
  holdAt : Option (Nat × Nat) := none
  /-- Egress end: START received since it opened; a packet or PHB arrived in this window; held packets; gap timer. -/
  started : Bool := false
  seen : Bool := false
  held : List (Nat × Nat) := []
  gapAt : Option Nat := none
deriving DecidableEq, Repr

/-- What fabric assembly keeps of a port. -/
structure FabPort where
  /-- Role an AUTO port resolved to (R165). -/
  role : Nat := 0
  /-- FAB_PORTCFG in force since the last link-up (R175). -/
  cfg : Option Word := none
  /-- DLG sends so far, last send, and the offer (base, len, depth) (R173). -/
  sends : Nat := 0
  sentAt : Nat := 0
  offer : Option (Nat × Nat × Nat) := none
  /-- A HELLO has come since the link-up; an offer has been made, or refused, since. -/
  heard : Bool := false
  offered : Bool := false
  /-- A DLG was sent and no DLGACK has come. -/
  await : Bool := false
  /-- Tick of the port's stagger group, once started, or of a later insertion (R185, R186). -/
  group : Option Nat := none
  /-- How the port settled since the start: 0 not yet, 1 EMPTY, 4 READY, 5 FAILED (R186). -/
  outcome : Nat := 0
  /-- Tick of the last HELLO (R190). -/
  helloAt : Option Nat := none
  /-- Counts of the last READY received. -/
  nready : Nat := 0
  nfail : Nat := 0
  /-- Out of service until FAB_PORTCFG is written (R164, R167). -/
  barred : Bool := false
deriving DecidableEq, Repr

/-- Fabric assembly and the management endpoint. -/
structure FabSt where
  ports : Tab FabPort := []
  /-- Tick the hub started its DOWN ports (R185), groups already enabled. -/
  startAt : Option Nat := none
  groups : Nat := 0
  /-- READY has been sent, or site ready declared. -/
  ready : Bool := false
  /-- REQID and STATUS of the last 8 WRITE requests, by manager slot, latest first (R457). -/
  writes : Tab (List (Nat × Nat)) := []
  /-- The counter of this hub's own latest tagged request (R457). -/
  ownCtr : Nat := 0
deriving DecidableEq, Repr

/-! ## Host interface (spec/09_host_rings.md) and block windows (spec/11_block_windows.md); HIF_RCTX and BLK hold the rest -/

/-- How far a descriptor has come (R260 to R264). -/
inductive DStage where
  /-- Its descriptor read is under way. -/
  | reading
  /-- Read and checked; its data fetch, if it needs one, has not started. -/
  | checked
  /-- Its data fetch is under way. -/
  | fetching
  /-- Its data is complete, or it waits for what starts it. -/
  | ready
  /-- A frame of it is offered for admission, or its first message or request has left. -/
  | offered
  /-- Finished; its completion is written in slot order. -/
  | done
deriving DecidableEq, Repr

/-- A descriptor that has been fetched, or is being fetched, and is not yet completed. -/
structure Desc where
  slot : Nat
  /-- Its eight words, once read. -/
  w : List Nat := []
  stage : DStage := .reading
  /-- Data fetched so far. -/
  data : Bytes := []
  /-- Bytes whose fetch, or whose block requests, have been issued. -/
  asked : Nat := 0
  /-- Bytes transferred in order, or written into the buffer. -/
  moved : Nat := 0
  /-- The read of a FLUSH has been answered (R269). -/
  flushed : Bool := false
  /-- Work has left for it, so that a reset does not withdraw it (Table 9-4). -/
  started : Bool := false
  /-- Failed reads of its data in a row, and when to read again (R273). -/
  fails : Nat := 0
  retryAt : Option Nat := none
  status : Nat := 0
  dw1 : Nat := 0
  dw2 : Nat := 0
deriving DecidableEq, Repr

/-- A descriptor read under way: first slot, how many, failures in a row and when it is issued again (R260, R273). -/
structure DRead where
  slot : Nat
  n : Nat
  fails : Nat := 0
  retryAt : Option Nat := none
deriving DecidableEq, Repr

/-- Whom a read of host memory is for: a ring's descriptors from a slot on, the data of a descriptor, a line of a layer, the
oldest inbound read of a window, a message that is sent again. -/
inductive ReadFor where
  | desc (ring slot : Nat)
  | data (ring slot : Nat)
  | line (pipe layer : Nat)
  | inb (win : Nat)
  /-- The data of a message that a ring sends again on a tunnel entry, begun at a tick (R349). -/
  | resend (ring tun tick : Nat)
deriving DecidableEq, Repr

/-- A read request of the PCIe endpoint (R247): the fetch it is part of, what is still to come, and whether its data is of no more
use and is discarded on arrival (R278, R331, R336). -/
structure HostRd where
  fetch : Nat
  who : ReadFor
  pasid : Nat
  addr : Nat
  len : Nat
  dead : Bool := false
deriving DecidableEq, Repr

/-- A ring (R253 to R279). -/
structure RingSt where
  /-- Next slot to fetch. -/
  next : Nat := 0
  /-- Descriptors from DONE on, in slot order. -/
  descs : List Desc := []
  /-- Descriptor reads under way, oldest first. -/
  reads : List DRead := []
  /-- Completions written since EN was set (R255). -/
  count : Nat := 0
  /-- Numbers of the completions of the last pass that were written with IRQ = 1 (R276). -/
  irqs : List Nat := []
  /-- Completions with IRQ = 1 since the ring was armed, and the tick of the first (R275). -/
  pend : Nat := 0
  first : Option Nat := none
  /-- Start of the ring reset. -/
  resetAt : Option Nat := none
  /-- The context goes back to its reset values when the reset ends (R249). -/
  wipe : Bool := false
  /-- Tick of the last remote poll (R277), and whether its answer is awaited. -/
  polled : Nat := 0
  polling : Bool := false
deriving DecidableEq, Repr

/-- What an RD is for (R301). -/
inductive RdUse where
  | bar4 (id off : Nat)
  | bar4Write
  | sync
  | poll
  /-- Part of a BLK transfer, at an offset of it; the read of its last byte (R269). -/
  | blk (ring slot off : Nat)
  | flush (ring slot : Nat)
  /-- Of a remote ring (R277): descriptors, data, the producer-index word. -/
  | rdesc (ring slot : Nat)
  | rdata (ring slot off : Nat)
  | rpidx (ring : Nat)
  | rsend (tun tick off : Nat)
  /-- A WR of a remote ring. -/
  | ringWrite (ring : Nat)
deriving DecidableEq, Repr

/-- A request of a window, in the order it was sent (R300): a WR with its data in the write hold, or an RD with its tag. -/
structure BlkReq where
  /-- Running number of the window's requests; its low 8 bits are a WR's TAG (R305). -/
  num : Nat
  wr : Bool
  addr : Nat
  len : Nat
  data : Bytes := []
  /-- Read tag of an RD, once it was sent. -/
  tag : Option Nat := none
  /-- Why it is made; for a WR, whether it is a BAR4 write, or the ring and slot it belongs to. -/
  use : RdUse := .sync
  /-- Tick of the first send; none while it waits to be sent. Number of its last send among the window's sends. -/
  sentAt : Option Nat := none
  sendNo : Nat := 0
  /-- Sent before, and to be sent again (R306). -/
  again : Bool := false
  /-- An RD that found no free tag and waits for RD_SEND (R301). -/
  noTag : Bool := false
  /-- Its result is of no use to anyone any more (R279, R291). -/
  abandoned : Bool := false
deriving DecidableEq, Repr

/-- A request that a completer accepted (R304). -/
structure InReq where
  wr : Bool
  addr : Nat
  len : Nat
  data : Bytes := []
  tag : Nat
  /-- WIN field of the request, class and entry it came on. -/
  win : Nat
  cls : Nat
  tun : Nat
  issued : Bool := false
deriving DecidableEq, Repr

/-- An answer or refusal of a completer that waits to be sent: entry, class, payload. -/
structure BlkAns where
  tun : Nat
  cls : Nat
  payload : Bytes
deriving DecidableEq, Repr

/-- The state of a window that its registers do not show. -/
structure WinSt where
  /-- Next request number, next send number. -/
  next : Nat := 0
  sendNo : Nat := 0
  /-- Requests that wait to be sent, and those sent and not yet released or answered; oldest first. -/
  wait : List BlkReq := []
  sent : List BlkReq := []
  /-- Backoff episode (R306): number of the refused request, consecutive BUSYs, end of the backoff, end of the quiet time
  after the resend, and the send number of the resend point. -/
  epi : Option Nat := none
  busy : Nat := 0
  backAt : Option Nat := none
  quietAt : Option Nat := none
  mark : Nat := 0
  /-- Consecutive read timeouts (R308). -/
  timeouts : Nat := 0
  /-- Poll (R310): tick of the last answer, outstanding, a value has been stored. -/
  pollAt : Nat := 0
  polling : Bool := false
  polled : Bool := false
  /-- Completer (R304, R305): accepted requests, answers that wait to be sent, and the refused request that go-back waits
  for (whether a WR, ADDR, TAG). -/
  inq : List InReq := []
  ans : List BlkAns := []
  goback : Option (Bool × Nat × Nat) := none
deriving DecidableEq, Repr

/-- A BAR4 read: its address, how many bytes, and the pieces that have come (offset and bytes). -/
structure Bar4Rd where
  id : Nat
  addr : Nat
  len : Nat
  got : List (Nat × Bytes) := []
deriving DecidableEq, Repr

/-- A slice reset in progress: its start, squash mode, descriptors it has squashed (R289, R292). -/
structure SlcRst where
  start : Nat
  squash : Bool
  squashed : Nat := 0
deriving DecidableEq, Repr

/-- An entry of the MSI-X table (Table 9-3): message address and data, and its mask bit, which is set at reset. -/
structure MsixEnt where
  addr : Nat := 0
  data : Nat := 0
  masked : Bool := true
deriving DecidableEq, Repr

/-- The MSI-X structures: the table, the pending bits, and the two bits of the capability that rule them. -/
structure MsixSt where
  tab : Tab MsixEnt := []
  pending : Nat := 0
  on : Bool := false
  mask : Bool := false
deriving DecidableEq, Repr

/-- The host interface and the block engine. -/
structure HifSt where
  rings : Tab RingSt := []
  wins : Tab WinSt := []
  /-- Tags whose read timed out: tag and tick it is freed at (R307). -/
  late : List (Nat × Nat) := []
  /-- BAR4 reads in progress. -/
  bar4 : List Bar4Rd := []
  /-- Slice resets in progress (R289). -/
  srst : Tab (Option SlcRst) := []
  /-- log2 of BAR4's size, fixed at CFGRDY (R248); 0 while there is no BAR4. -/
  bar4sz : Nat := 0
  /-- Reads of host memory: those that wait, those outstanding, of which there are at most 512, oldest first; number of the next
  fetch (R247). -/
  readQ : List HostRd := []
  reads : List HostRd := []
  nextFetch : Nat := 0
deriving DecidableEq, Repr

/-! ## Raster pipes (spec/12_raster_engine.md); RAS holds the rest -/

/-- A layer of a pipe, as it is in the frame being composed (R315, R316, R328 to R330). -/
structure RLayer where
  on : Bool := false
  addr : Nat := 0
  pitch : Nat := 0
  /-- Latched values (R329). -/
  amode : Nat := 0
  galpha : Nat := 255
  x : Nat := 0
  y : Nat := 0
  w : Nat := 0
  h : Nat := 0
  /-- It has underrun in this frame (R331). -/
  under : Bool := false
  /-- Next line to request; lines requested whose data has not all come; lines in the buffer. -/
  req : Nat := 0
  coming : List (Nat × Bytes) := []
  lines : List (Nat × Bytes) := []
  /-- Least fill seen in this frame, and whether the layer was on in it (R334). -/
  fmin : Option Nat := none
  /-- On, base and pitch of the present frame, while a flip latched for the next one has replaced them (R328). -/
  kept : Option (Bool × Nat × Nat) := none
deriving DecidableEq, Repr

/-- A CRC rectangle as latched (R329, R332): its two words and EXP, and its CRC register so far. -/
structure RRect where
  pos : Word := 0#32
  size : Word := 0#32
  exp : Nat := 0
  crc : Nat := 0xFFFFFFFF
deriving DecidableEq, Repr

/-- What a pipe keeps. -/
structure PipeSt where
  layers : Tab RLayer := []
  rects : Tab RRect := []
  /-- Tick and ridge time of the enable. -/
  enAt : Nat := 0
  enRidge : Nat := 0
  /-- Timing in force: LOCK, BASE, FPER in 1/65,536 tick (R321). -/
  lock : Nat := 0
  base : Nat := 0
  fper : Nat := 0
  /-- Ridge time of a write that changes to ridge-time lock. -/
  wrote : Option Nat := none
  /-- Start of the present frame: tick and ridge time; whether it is the first. -/
  ftick : Nat := 0
  fridge : Nat := 0
  first : Bool := true
  /-- Number of the next frame since the start it is timed from, and that start: a tick, or for ridge-time lock BASE (R319). -/
  k : Nat := 0
  f0 : Nat := 0
  /-- Frame start fixed by a SYNC_IN edge, or at FPER after a loss (R320). -/
  at_ : Option Nat := none
  lost : Bool := false
  /-- The latch of the next frame has been made; first TE counted since (R323). -/
  latched : Bool := false
  te : Option Nat := none
  /-- Next line to release; a layer has underrun in this frame. -/
  line : Nat := 0
  undr : Bool := false
  /-- Segments that wait to be placed in staging (R326). -/
  segs : List Bytes := []
  /-- Flips latched for the next frame: ring, slot, and whether a later one supersedes it (R267). -/
  due : List (Nat × Nat × Bool) := []
  /-- Tolerance of the frame composed last, to be shown at the next frame start (R334). -/
  tol : Nat := 0
  /-- Tick of a squash after which layers go off at the next frame start (Table 10-3, R336). -/
  allOff : Option Nat := none
  /-- Latched flips were dropped: when the tick ends the layers go back to the bases of the present frame (Table 9-13, R337). -/
  undo : Bool := false
  /-- End of the frame pulse (R322). -/
  pulseEnd : Option Nat := none
deriving DecidableEq, Repr

/-- The raster engine: pipes, and the last LTR message: the value it carried in ns, none for no demand, and its tick (R335). -/
structure RasSt where
  pipes : Tab PipeSt := []
  ltr : Option (Option Nat × Nat) := none
deriving DecidableEq, Repr

/-! ## Peripheral controller (spec/13_peripheral_controller.md); PERI and PERI_ECTX hold the rest -/

/-- A transfer message without SEQ and ASEQ (Table 5-8). -/
structure TMsg where
  kind : Nat
  last : Bool := false
  zlp : Bool := false
  port : Nat := 0
  dev : Nat := 0
  ep : Nat := 0
  dir : Bool := false
  xtype : Nat := 0
  status : Nat := 0
  xid : Nat := 0
  data : Bytes := []
  /-- Of a message that a ring engine built: where in host memory the last bytes of its data stand, and how many (R349). -/
  host : Nat × Nat := (0, 0)
deriving DecidableEq, Repr

/-- A numbered message that has been sent and not acknowledged: SEQ, and the context whose area holds its data at the
controller (R346). -/
structure SMsg where
  seq : Nat
  ctx : Option Nat
  msg : TMsg
deriving DecidableEq, Repr

/-- The data of a message that a ring engine sends again is being read from host memory (R349): the message, the tick of the reads,
what has come, failures in a row and when to read again (R273). -/
structure Resend where
  seq : Nat
  at_ : Nat
  got : Bytes := []
  fails : Nat := 0
  retryAt : Option Nat := none
deriving DecidableEq, Repr

/-- The message session of a peripheral tunnel entry at this end (R347 to R351). -/
structure Sess where
  /-- TXSEQ and RXEXP. -/
  tx : Nat := 0
  rx : Nat := 0
  /-- Sent and unacknowledged, oldest first; those of them to be sent again; numbered messages that wait to be sent. -/
  unack : List SMsg := []
  again : List Nat := []
  queue : List (Option Nat × TMsg) := []
  /-- The data of the message to be sent again, at a ring's end. -/
  fetch : Option Resend := none
  /-- Start of the resend timer, and its expiries without a release. -/
  rtoAt : Option Nat := none
  expiries : Nat := 0
  /-- The session is lost (R351). -/
  lost : Bool := false
  /-- Transfers whose first messages were taken and that are over, before their LAST message came: the rest is discarded
  (R352). -/
  cont : List Nat := []
  /-- Messages taken and not yet acknowledged, tick of the first; an ACK is owed at once. -/
  taken : Nat := 0
  ackAt : Option Nat := none
  ackNow : Bool := false
deriving DecidableEq, Repr

/-- A transfer at the controller (R352 to R356). -/
structure Xfer where
  /-- Tunnel entry, XID, context. -/
  tun : Nat
  xid : Nat
  ctx : Nat
  port : Nat
  dev : Nat
  ep : Nat
  dir : Bool
  xtype : Nat
  setup : Bytes := []
  /-- OUT data that waits for the bus; the LAST message has come; ZLP asked for. -/
  out : Bytes := []
  full : Bool := false
  zlp : Bool := false
  /-- IN bytes wanted. -/
  want : Nat := 0
  /-- Bytes received from the device, those not yet in a message, good bytes sent to it, bytes of isochronous packets
  tried. -/
  got : Nat := 0
  buf : Bytes := []
  sent : Nat := 0
  slots : Nat := 0
  /-- Start microframe of an isochronous transfer, modulo 16,384. -/
  start : Option Nat := none
  /-- 0 setup, 1 data, 2 status stage, 3 zero-length packet at the end. -/
  phase : Nat := 1
  /-- Failed attempts of the present transaction; an isochronous packet was lost. -/
  fails : Nat := 0
  lost : Bool := false
  /-- Status it ends with at the next transaction boundary. -/
  abort : Option Nat := none
deriving DecidableEq, Repr

/-- What the controller keeps of a root port. -/
structure PeriPort where
  /-- Start of the reset drive, or of the resume drive. -/
  since : Option Nat := none
  /-- Periodic contexts still to be served in this microframe, in context order, once for each transaction (R355). -/
  todo : List Nat := []
  /-- Control contexts served in this microframe; bulk contexts that have had their turn. -/
  ctls : List Nat := []
  bulks : List Nat := []
  /-- The context whose transaction failed and is retried at once (R356). -/
  retry : Option Nat := none
deriving DecidableEq, Repr

/-- The peripheral controller, and the sessions of the PERI rings. -/
structure PeriSt where
  sess : Tab Sess := []
  /-- Transfers, in arrival order. -/
  xfers : List Xfer := []
  ports : Tab PeriPort := []
  /-- Tick of the last SOFs, and of the last microframe boundary (R342). -/
  sofAt : Option Nat := none
  edgeAt : Option Nat := none
deriving DecidableEq, Repr

/-! ## Power path and configuration channel (spec/14_power_path.md, spec/15_power_negotiation.md); PORT_PP* and PORT_CC* hold
the rest -/

/-- A configuration-channel message without its MSGID (R392, R393): KIND and objects. -/
structure CcMsg where
  kind : Nat
  objs : List Nat
deriving DecidableEq, Repr

/-- A message that waits for the line, is being sent, or awaits its acknowledgement (R394, R395): its MSGID, how many sends
have begun, and the end of the present send; none while a send has still to start. -/
structure CcTx where
  msg : CcMsg
  id : Nat
  sends : Nat := 0
  endAt : Option Nat := none
deriving DecidableEq, Repr

/-- A cable-supply swap after its CableSupplySwap (R412): this end becomes the supplier; end of the Accept's acknowledgement;
the old supplier has removed the supply; Pn_CSUP has been below 0.8 V since. -/
structure Swap where
  gain : Bool
  at_ : Option Nat := none
  removed : Bool := false
  low : Bool := false
deriving DecidableEq, Repr

/-- A voltage transition (R405), or a return to the safe supply (R413): codes and voltages in mV at its ends, start, number
of 200-tick steps and steps done; tick VSET reached its target; tick since which VOS has been within 3 % of it. -/
structure Trans where
  ret : Bool
  fromC : Nat
  toC : Nat
  fromV : Nat
  toV : Nat
  start : Nat
  steps : Nat
  done : Nat := 0
  reached : Option Nat := none
  inAt : Option Nat := none
deriving DecidableEq, Repr

/-- A port's end of the configuration channel. -/
structure CcPort where
  /-- A message has been taken since attachment and the last hard reset; PTV has been set since attachment. -/
  rxAny : Bool := false
  ptvSeen : Bool := false
  /-- Tick of the attachment. -/
  attAt : Nat := 0
  /-- Last edge on the line; the next start follows a collision. -/
  lineAt : Nat := 0
  coll : Bool := false
  /-- Messages that wait, first to go first; the message in hand. -/
  out : List CcMsg := []
  tx : Option CcTx := none
  /-- Supply objects (VCODE, IMAX) of the latest Offer sent, or taken, and its MSGID. -/
  offer : List (Nat × Nat) := []
  offerId : Nat := 0
  /-- Deadlines of Table 15-7. -/
  offAt : Option Nat := none
  reqAt : Option Nat := none
  respAt : Option Nat := none
  readyAt : Option Nat := none
  hrAt : Option Nat := none
  /-- Voltage code and current agreed in the open exchange. -/
  tv : Nat := 0
  ti : Nat := 0
  /-- An Offer is wanted once no exchange is open; commands that wait (Table 15-14): KIND and ACODE. -/
  want : Bool := false
  cmds : List (Nat × Nat) := []
  swap : Option Swap := none
  /-- The cable supply failed; the partner supplies it after a swap; Pn_CSUP below 0.8 V since. -/
  csFault : Bool := false
  csPeer : Bool := false
  csLowAt : Option Nat := none
  /-- Pn_CSUP below 4.5 V since; tick at which this end applied the supply. -/
  csDipAt : Option Nat := none
  csAt : Nat := 0
  /-- A hard reset has been started here and its HardReset has not acted yet. -/
  hr : Bool := false
  /-- A renegotiation of the shepherd (R243): whether it is a raise, and whether it has been started. -/
  ren : Option (Bool × Bool) := none
  /-- A change of the allotment that is acted on once no exchange is open: whether it raises it; its power is released (R244). -/
  allot : Option Bool := none
  freed : Bool := false
deriving DecidableEq, Repr

/-- A port's power path. -/
structure PwrPort where
  cc : CcPort := {}
  trans : Option Trans := none
  /-- The gate is driven on; Pn_DSCH is asserted; a turn-off asserts it until VOS is below 1 V (R369); VSET code and the voltage in
  mV it stands for. -/
  gate : Bool := false
  dsch : Bool := false
  drain : Bool := false
  vset : Nat := 0
  vnow : Nat := 12000
  /-- Latest samples of VOS in a row below 1 V (R366), at most 2. -/
  low1 : Nat := 0
  /-- SOA integrator in pJ, counts of the I-t points, samples in a row outside the output window, tick from which the window
  is judged again after a transition (R372, R373). -/
  soa : Nat := 0
  its : Tab Nat := []
  owt : Nat := 0
  winAt : Option Nat := none
  /-- Energy in pJ; shadows of PORT_PPE_HI by access path (R380). -/
  energy : Nat := 0
  eShadow : Tab Nat := []
  /-- Sum of the powers in µW, and samples, of the present power window. -/
  psum : Nat := 0
  pnum : Nat := 0
  /-- Insertion delay: start, and whether it has ended; end of the cool-down; start of the gate ramp. -/
  delayAt : Option Nat := none
  delayed : Bool := false
  coolAt : Option Nat := none
  rampAt : Option Nat := none
  /-- EN has been written 0 since the trip. -/
  toggled : Bool := false
  /-- Tick of the last trip. -/
  tripAt : Option Nat := none
  /-- Start of a calibration; one has ended since reset (R378). -/
  calAt : Option Nat := none
  calibrated : Bool := false
  /-- A sink's FET: VOS at or above 10.8 V since; below 8 V since (R408). -/
  hiAt : Option Nat := none
  loAt : Option Nat := none
deriving DecidableEq, Repr

/-! ## Power domains and VCORE (spec/16_power_states.md); PWR_DSTAT, PWR_EVOTE, PWR_VREQ hold the rest -/

/-- What a domain keeps. -/
structure Dom where
  /-- Its vote vector has been empty since; the DLY timer is spent and the begin condition awaited (R426). -/
  emptyAt : Option Nat := none
  spent : Bool := false
  /-- Start of the present step; a wake is pending (R428). -/
  stepAt : Nat := 0
  wake : Bool := false
  /-- It is on its way back to RUN; it waits for domains it depends on (R420). -/
  exit : Bool := false
  waits : Bool := false
  /-- Entry was asked for in local mode (R423), and waits for a client. -/
  chosen : Bool := false
  /-- CORE: no entry to DOZE after a failed commit until a register is written (R439). -/
  barred : Bool := false
  /-- The steps of a withdrawn entry are being undone (R427). -/
  undo : Bool := false
deriving DecidableEq, Repr

/-- A VCORE change (R435 to R439): level aimed at and level left; stage 0 VOUT_COMMAND, 1 polling, 2 settling, 3 the old code being
written back, 4 polling for it, 5 ceiling and clock being lowered before VOUT_COMMAND, 6 clock and ceiling being raised; start of stage
5, or tick of the VOUT_COMMAND's STOP; tick power good was taken, or start of stage 6; failed transfers in a row; status it ends with. -/
structure VChange where
  level : Nat
  old : Nat
  /-- It is the commit of CORE's entry to DOZE. -/
  commit : Bool := false
  stage : Nat := 0
  sentAt : Nat := 0
  goodAt : Nat := 0
  fails : Nat := 0
  status : Nat := 1
deriving DecidableEq, Repr

/-- The power path of every port, the input bus, and the power states. -/
structure PwrSt where
  ports : Tab PwrPort := []
  /-- Shares (by slice) and PWR_ALLOTn.SLICE (by 128 + port) as they stood at the start of tick `wasAt`, of those changed in it:
  what the checks of that tick still see (R382). -/
  wasAt : Nat := 0
  was : Tab Nat := []
  /-- Tick of the latest software write that can give a permission (R368). -/
  swAt : Option Nat := none
  /-- Power windows in a row above the budget; the excursion has been counted; loads and steps seen (R380, R532). -/
  overs : Nat := 0
  counted : Bool := false
  jumps : Nat := 0
  doms : Tab Dom := []
  /-- The processor is in the wait instruction (R423). -/
  cpuWait : Bool := false
  /-- End of each manager slot's implicit vote (R425). -/
  mgr : Tab Nat := []
  /-- The change under way, and the level asked for while it is, or while PMBus is off. -/
  chg : Option VChange := none
  next : Option Nat := none
  /-- Level codes whose ceiling and whose clock of the management controller the sequencer permits (Table 16-7). -/
  ceilLvl : Nat := 2
  clk : Nat := 2
  /-- What an entry of CORE has lowered ceiling and clock to, for as long as it lasts (R17, Table 16-5). -/
  cap : Nat := 12
  clkCap : Nat := 2
  /-- Standby entry: start of the drain step under way, and the domains that take it; a wake that is pending, with its cause
  and port. -/
  stby : Option (Nat × List Nat) := none
  stbyWake : Option (Nat × Nat) := none
  /-- Only AON is powered (Standby), or nothing is (`off`, VAON absent). -/
  asleep : Bool := false
  off : Bool := false
  /-- Roles of the ports while only AON is powered (R433). -/
  roles : Tab Nat := []
  /-- Latest access to the memories of SRAM in DOZE (R419). -/
  sramAt : Option Nat := none
  /-- Function in D3hot; PERST_N asserted. -/
  d3 : Bool := false
  perst : Bool := false
deriving DecidableEq, Repr

/-! ## Reset, rails, boot, configuration, OTP, management memory (spec/18_reset_and_boot.md, spec/19_register_index.md) -/

/-- What the boot ROM does (R471, R472). -/
inductive Rom where
  /-- Held until the rails are up; reading and verifying the slots; waiting for a host load; waiting to retry the flash; the
  image runs. -/
  | held
  | verify
  | hostLoad
  | flashWait
  | running
deriving DecidableEq, Repr

/-- A section that is being applied (R475): the words still to come, and what it pauses for. -/
structure CfgRun where
  words : List Nat
  /-- A WAIT ends at this tick. -/
  waitAt : Option Nat := none
  /-- A POLL: address, mask, value, last tick. -/
  poll : Option (Nat × Nat × Nat × Nat) := none
deriving DecidableEq, Repr

/-- Reset and boot. -/
structure BootSt where
  /-- The OTP items as loaded at the last chip reset (R464); their trims are in the blocks (R13). -/
  otp : Tab Nat := []
  loaded : Bool := false
  /-- Analog blocks that stay disabled: row of Table 1-1 from 0, instance. -/
  bad : List (Nat × Nat) := []
  /-- REG_EN outputs asserted; rails seen in range; start of the present step; failed attempts; next attempt (R468). -/
  regEn : Nat := 0
  good : Nat := 0
  railAt : Option Nat := none
  tries : Nat := 0
  retryAt : Option Nat := none
  rom : Rom := .held
  flashAt : Option Nat := none
  /-- The host-loaded image so far (R472). -/
  load : Bytes := []
  /-- Entry point and identification of the running image. -/
  entry : Nat := 0
  fwid : Nat := 0
  /-- Start of the watchdog's present count (R464). -/
  wdtAt : Nat := 0
  /-- An OTP item being programmed: item, data, start (R477). -/
  prog : Option (Nat × Nat × Nat) := none
  /-- Configuration (R473, R474): the image has been taken; the section under way; sections that wait for it, and JOIN sections
  by hub: the words, none where the hash failed, with the SITEID that the first BOOT section writes. -/
  cfg : Bool := false
  run_ : Option CfgRun := none
  todo : List (Option (List Nat) × Option Nat) := []
  join : List (Nat × Option (List Nat)) := []
  /-- Requests of the management controller that had no response: sends so far and tick of the last, by REQID (R457). -/
  mreqs : Tab (Nat × Nat) := []
  /-- The management controller's 512 KiB memory, as shown by the privileged window, by word (R485). -/
  mem : Tab Word := []
  /-- Interrupts of the management controller that have been raised and not been taken: mailbox, power event, non-maskable,
  and others by the resource that raised them (R424, R459, R485). -/
  irqs : List Nat := []
deriving DecidableEq, Repr

/-! ## The present tick -/

/-- A claim of a field (address × 32 + lowest bit) that was refused: the resource, the claimant, the owner. -/
structure Refused where
  key : Nat
  res : Nat
  claimant : Nat
  owner : Nat
deriving DecidableEq, Repr

/-- What has happened in the present tick, for the same-tick rules of R11, R30 and R55: bits of a register that an event set, or a
reset cleared, which a software write of the same tick leaves alone; events that each counter (address × 32 + lowest bit) has
counted; whether a chip reset has cleared the hub. Of the registers that hold claiming fields and were written in the tick, the words
at its start; the refusals that stand so far, and how many there have been. An interrupt to the management controller has been raised
(R440). -/
structure Ledger where
  hot : Tab Word := []
  ev : Tab Nat := []
  wiped : Bool := false
  first : Tab Word := []
  refused : List Refused := []
  refusals : Nat := 0
  irq : Bool := false
deriving DecidableEq, Repr

/-! ## The whole block -/

/-- Everything the spec gives the hub but the one-time programmable memory and the command queue. -/
structure Hub where
  /-- Every register of Register Index, and the banked contexts, by address; an unlisted address holds its reset word. -/
  regs : Tab Word := []
  /-- Time. -/
  time : TimeSt := {}
  /-- Time exchanges, by port. -/
  tport : Tab TimePort := []
  /-- Event streams. -/
  evs : EvsSt := {}
  /-- Owner of each shared resource of Table 1-8, by resource code; an unlisted resource has its owner after reset. -/
  owners : Tab Nat := []
  /-- THE MODEL'S OWN field, not the spec's: how many free values have been drawn (log entry 5). -/
  draws : Nat := 0
  /-- What the hub has sent out of its pins and interfaces, oldest first. -/
  out : List Out := []
  /-- Lanes, by port. -/
  lanes : Tab LaneSt := []
  /-- Link layer, by port. -/
  links : Tab LinkSt := []
  /-- Switch core and kennel. -/
  core : CoreSt := {}
  /-- Traffic control. -/
  trf : TrfSt := {}
  /-- Tunnel entries, by number. -/
  tuns : Tab TunSt := []
  /-- Fabric assembly. -/
  fab : FabSt := {}
  /-- Host interface and block windows. -/
  hif : HifSt := {}
  /-- Peripheral controller and message sessions. -/
  peri : PeriSt := {}
  /-- The two 128-bit site keys as read from the one-time programmable memory (R184). -/
  keys : Tab Nat := []
  /-- Raster engine. -/
  ras : RasSt := {}
  /-- Power paths, configuration channels, power states. -/
  pwr : PwrSt := {}
  /-- Reset, boot, configuration and the management controller. -/
  boot : BootSt := {}
  /-- MSI-X (R251, R275). -/
  msi : MsixSt := {}
  /-- What has happened in the present tick (R11, R55). -/
  led : Ledger := {}
deriving DecidableEq, Repr

/-- The one-time programmable memory (R476): the programmed bits of each item, by item number. No reset clears it. -/
structure Otp where
  /-- Bits of items 1 to 12 (Table 18-6). -/
  bits : Tab Nat := []
deriving DecidableEq, Repr

/-- The state of the block: the hub, the hub as it stood at the start of the present tick, which reads return (R55), its one-time
programmable memory, and the commands that wait, first in, first out. -/
structure State where
  hub : Hub
  start : Hub
  otp : Otp
  pending : List Instr
deriving DecidableEq, Repr

/-- Why the block stops. No command of this block stops it: every fault of the spec is an effect on State (R455). -/
inductive Fault where
  /-- Raised by no command: the spec's faults are counters, records and isolation, never a stop. Safe. -/
  | none
deriving DecidableEq, Repr

/-- Why a command is refused. -/
inductive Refusal where
  /-- Raised by the arm of a command that has no meaning yet. Safe: nothing can be proved about its effect. -/
  | notModelled (mnemonic : String)
deriving DecidableEq, Repr

/-- The hub right after the release of the power-on reset (R464): every register at its reset value (Register Index
and the chapters' tables), every count at zero, every queue empty, every strap sampled 0 (the pins' pull-downs, R466), and GLB_RSTCAUSE tells the power-on reset.
Registers whose reset value the spec leaves to OTP or the fuse are those of a blank, unlocked part (log entry 3). -/
def Hub.reset : Hub := { regs := [(0x104, 1#32)] }

/-- The machine right after reset: nothing is waiting, nothing is programmed in OTP by the field. -/
def State.reset : State := { hub := Hub.reset, start := Hub.reset, otp := {}, pending := [] }

end Sys2Proof.Machine
end

