-- ==== Sys2Proof/Machine/Ops.lean ====
section
/-! DEFINITION. The named operations every meaning is written over: sparse tables, the register file, ownership of the
shared resources (R25 to R31), and writing an event record (R444 to R449). -/

namespace Sys2Proof.Machine

/-! ## Sparse tables -/

/-- The value at key `i`, `d` where none is listed. -/
def Tab.get {α : Type} (d : α) : Tab α → Nat → α
  | [], _ => d
  | (k, v) :: t, i => if k = i then v else Tab.get d t i

/-- The table without the entries of key `i`. -/
def Tab.erase {α : Type} : Tab α → Nat → Tab α
  | [], _ => []
  | (k, v) :: t, i => if k = i then Tab.erase t i else (k, v) :: Tab.erase t i

/-- The table with `(i, v)` put before the first greater key. -/
def Tab.ins {α : Type} : Tab α → Nat → α → Tab α
  | [], i, v => [(i, v)]
  | (k, w) :: t, i, v => if i < k then (i, v) :: (k, w) :: t else (k, w) :: Tab.ins t i v

/-- The table that reads `v` at `i` and as before elsewhere; writing the default removes the entry, so that equal
tables are equal lists. -/
def Tab.set {α : Type} [DecidableEq α] (d : α) (t : Tab α) (i : Nat) (v : α) : Tab α :=
  if v = d then Tab.erase t i else Tab.ins (Tab.erase t i) i v

/-- The entry of key `i` changed by `f`. -/
def Tab.modify {α : Type} [DecidableEq α] (d : α) (t : Tab α) (i : Nat) (f : α → α) : Tab α :=
  Tab.set d t i (f (Tab.get d t i))

/-- Every key of the table is above `b`, and the keys rise. -/
def Tab.above {α : Type} (b : Nat) : Tab α → Bool
  | [] => true
  | (k, _) :: t => decide (b < k) && Tab.above k t

/-- The canonical form: keys strictly rising, and no entry equal to the default of its key. -/
def Tab.wf {α : Type} [DecidableEq α] (d : Nat → α) : Tab α → Bool
  | [] => true
  | (k, v) :: t => Tab.above k t && decide (v ≠ d k) && Tab.wf d t

/-! ## The register file -/

/-- Whether a register array holds address `a`. -/
def regHas (r : RegD) (a : Nat) : Bool :=
  r.base ≤ a && (
    let o := a - r.base
    if r.n2 = 1 then
      (if r.n1 = 1 then o = 0 else o % r.s1 = 0 && o / r.s1 < r.n1)
    else
      (let q := o % r.s1; o / r.s1 < r.n1 && q % r.s2 = 0 && q / r.s2 < r.n2))

/-- The block whose registers an address can belong to (Table 19-1). -/
def regBlock (a : Nat) : List RegD :=
  if a < 0x1000 then regsGlb
  else if a < 0x2000 then regsTime
  else if a < 0x3000 then regsHif
  else if a < 0x4000 then regsSlc
  else if a < 0x8000 then regsFab
  else if a < 0xA000 then regsCore
  else if a < 0xC000 then regsTrf
  else if a < 0xD000 then regsBlk
  else if a < 0xE000 then regsPeri
  else if a < 0xF000 then regsPwr
  else if a < 0x10000 then regsEvs
  else if a < 0x30000 then regsPort
  else if a < 0x38000 then regsRas
  else if a < 0x40000 then []
  else if a < 0x80000 then regsMgmt
  else if a < 0xA0000 then regsTunnel
  else if a < 0xC0000 then regsShaper
  else if a < 0x100000 then regsRoute
  else if a < 0x200000 then regsGate
  else regsBank

/-- The register at an address, if Register Index lists one. -/
def findReg (a : Nat) : Option RegD := (regBlock a).find? (fun r => regHas r a)

/-- The reset values of the I-t points 0 to 4 (Table 14-3), as PORT_PPIT words. -/
def itReset : Nat → Nat
  | 0 => 18 * 2 ^ 24 + 1000000
  | 1 => 24 * 2 ^ 24 + 100000
  | 2 => 32 * 2 ^ 24 + 10000
  | 3 => 64 * 2 ^ 24 + 1000
  | 4 => 128 * 2 ^ 24 + 100
  | _ => 0

/-- Reset words that depend on the element of an array, or on no table cell: class C7 is LOSSLESS (Table 7-14), S0 is
bound and owns every ring and tunnel entry (Tables 10-5, 10-6), the I-t points of Table 14-3. -/
def specialReset (a : Nat) : Option Nat :=
  if a = 0x811C then some 0x100C8
  else if a = 0x3000 then some 0x80000000
  else if a = 0x3200 then some 0x50001000
  else if 0x10000 ≤ a ∧ a < 0x30000 ∧ 0x280 ≤ a % 0x1000 ∧ a % 0x1000 < 0x2C0 ∧ a % 4 = 0 then
    some (itReset ((a % 0x1000 - 0x280) / 4))
  else none

/-- The reset word of the register at an address. -/
def resetWord (a : Nat) : Word :=
  match specialReset a with
  | some v => BitVec.ofNat 32 v
  | none =>
    match findReg a with
    | some r => BitVec.ofNat 32 r.reset
    | none => 0#32

/-- The word a register holds. -/
def Hub.reg (h : Hub) (a : Nat) : Word := Tab.get (resetWord a) h.regs a

/-- The hub with a register's word replaced. -/
def Hub.setReg (h : Hub) (a : Nat) (v : Word) : Hub := { h with regs := Tab.set (resetWord a) h.regs a v }

/-- The value of field `f` of element `(i, j)`. -/
def Hub.get (h : Hub) (f : Fld) (i : Nat := 0) (j : Nat := 0) : Nat := (h.reg (f.addr i j)).bits f.lo f.w

/-- A one-bit field as a Bool. -/
def Hub.flag (h : Hub) (f : Fld) (i : Nat := 0) (j : Nat := 0) : Bool := h.get f i j != 0

/-- The hub with field `f` of element `(i, j)` set to the low bits of `v`. -/
def Hub.set (h : Hub) (f : Fld) (v : Nat) (i : Nat := 0) (j : Nat := 0) : Hub :=
  h.setReg (f.addr i j) ((h.reg (f.addr i j)).setBits f.lo f.w v)

/-- The bits of a field in its register. -/
def fldMask (f : Fld) : Word := Word.setBits 0#32 f.lo f.w (2 ^ f.w - 1)

/-- Bits of the register at an address are an event's, or a reset's, in this tick: a software write of the tick leaves them (R11,
R55). -/
def Hub.hot (h : Hub) (a : Nat) (m : Word) : Hub :=
  { h with led := { h.led with hot := Tab.modify 0#32 h.led.hot a (· ||| m) } }

/-- A field is an event's, or a reset's, in this tick. -/
def Hub.mark (h : Hub) (f : Fld) (i : Nat := 0) (j : Nat := 0) : Hub := h.hot (f.addr i j) (fldMask f)

/-- Whether an event, or a reset, has set a field in this tick. -/
def Hub.isHot (h : Hub) (f : Fld) (i : Nat := 0) (j : Nat := 0) : Bool := Tab.get 0#32 h.led.hot (f.addr i j) &&& fldMask f != 0#32

/-- An event, or a reset, sets a field that software writes too. -/
def Hub.raise (h : Hub) (f : Fld) (v : Nat) (i : Nat := 0) (j : Nat := 0) : Hub := (h.set f v i j).mark f i j

/-- Where the ledger counts the events of a counter. -/
def fldSlot (f : Fld) (i j : Nat) : Nat := 32 * f.addr i j + f.lo

/-- Events of this tick that a counter counts: a read in the tick does not clear them (R11). -/
def Hub.tally (h : Hub) (f : Fld) (i j n : Nat) : Hub :=
  { h with led := { h.led with ev := Tab.modify 0 h.led.ev (fldSlot f i j) (· + n) } }

/-- A counter field raised by `n`, saturating at its all-ones value. -/
def Hub.bump (h : Hub) (f : Fld) (i : Nat := 0) (n : Nat := 1) : Hub :=
  (h.set f (min (h.get f i + n) (2 ^ f.w - 1)) i).tally f i 0 n

/-- A 64-bit value held in a pair of registers, low word first. -/
def Hub.get64 (h : Hub) (lo hi : Fld) (i : Nat := 0) (j : Nat := 0) : Nat := 2 ^ 32 * h.get hi i j + h.get lo i j

/-- A pair of registers set to a 64-bit value. -/
def Hub.set64 (h : Hub) (lo hi : Fld) (v : Nat) (i : Nat := 0) (j : Nat := 0) : Hub :=
  (h.set lo (v % 2 ^ 32) i j).set hi (v / 2 ^ 32) i j

/-! ## Time, output, free values -/

/-- The present tick, counted from the release of the chip reset (R531). -/
def Hub.now (h : Hub) : Nat := h.time.tick

/-- Ridge time as a number (R5). -/
def Hub.ridge (h : Hub) : Nat := h.time.ridge.toNat

/-- A deadline that has been reached. -/
def Hub.due (h : Hub) : Option Nat → Bool
  | some d => d ≤ h.now
  | none => false

/-- Something sent out of the hub. -/
def Hub.emit (h : Hub) (o : Out) : Hub := { h with out := h.out ++ [o] }

/-- A fresh free value, and the hub with the count of draws advanced (log entry 5). -/
def Hub.draw (h : Hub) : Nat × Hub := (Config.freeValue h.draws, { h with draws := h.draws + 1 })

/-- The message of an MSI-X vector as the table holds it. -/
def Hub.msixSend (h : Hub) (v : Nat) : Hub :=
  let e := Tab.get {} h.msi.tab v
  h.emit (.msix v e.addr e.data)

/-- A vector is masked, on its own or with the whole function. -/
def Hub.msixMasked (h : Hub) (v : Nat) : Bool := h.msi.mask || (Tab.get {} h.msi.tab v).masked

/-- An MSI-X vector (R251, R275): sent where MSI-X is enabled, or held pending while it is masked. The MSI-X definition of the base
specification is PRESUMED: nothing is sent or held while the capability is disabled (log entry 36). -/
def Hub.vector (h : Hub) (v : Nat) : Hub :=
  if ¬ h.msi.on then h
  else if h.msixMasked v then { h with msi := { h.msi with pending := h.msi.pending ||| 2 ^ v } }
  else h.msixSend v

/-- Pending vectors that are no longer masked are sent, in ascending order (R275; log entry 36). -/
def Hub.msixRelease (h : Hub) : Hub :=
  if ¬ h.msi.on then h
  else
    let l := (List.range 2048).filter (fun v => bitOf h.msi.pending v && !h.msixMasked v)
    l.foldl (fun g v => g.msixSend v) { h with msi := { h.msi with pending := l.foldl (fun p v => p - 2 ^ v) h.msi.pending } }

/-! ## Event records (spec/17_events_and_faults.md) -/

/-- Producer numbers of Table 17-3. -/
def prodSlice (s : Nat) : Nat := 32 + s
def prodShepherd : Nat := 160
def prodTime : Nat := 161

/-- Resource numbers of R54, for the SRC field. -/
def srcHost : Nat := 32
def srcPipe (p : Nat) : Nat := 33 + p
def srcPeri : Nat := 41
def srcMgmt : Nat := 42
def srcStream (v : Nat) : Nat := 43 + v
def srcTime : Nat := 51
def srcHub : Nat := 52

/-- A record head (Table 17-1): class, code, source, the low 20 bits of the ridge time, data. -/
def recHead (h : Hub) (cls code src data : Nat) : Nat :=
  2 ^ 60 * cls + 2 ^ 52 * code + 2 ^ 44 * src + 2 ^ 24 * (h.ridge % 2 ^ 20) + data % 2 ^ 24

/-- A continuation (R445): the head's class and code with bit 7 set, 52 bits of data. -/
def recCont (cls code data : Nat) : Nat := 2 ^ 60 * cls + 2 ^ 52 * (code + 0x80) + data % 2 ^ 52

/-- Slots of a bank that are used. -/
def Bank.used (b : Bank) : Nat := b.slots.length

/-- Reserve slots of a bank that are taken (R448). -/
def Bank.reserve (b : Bank) : Nat := b.marks + b.losses.length

def Hub.stream (h : Hub) (v : Nat) : Stream := Tab.get {} h.evs.streams v
def Hub.setStream (h : Hub) (v : Nat) (x : Stream) : Hub :=
  { h with evs := { h.evs with streams := Tab.set {} h.evs.streams v x } }
def Hub.prod (h : Hub) (p : Nat) : Producer := Tab.get {} h.evs.prods p
def Hub.setProd (h : Hub) (p : Nat) (x : Producer) : Hub :=
  { h with evs := { h.evs with prods := Tab.set {} h.evs.prods p x } }

/-- Credits a producer can spend in this tick: those returned in this tick are not usable yet (R447). -/
def Hub.usable (h : Hub) (p : Nat) : Nat :=
  let c := h.get F.EVS_PROD_CREDIT p
  let x := h.prod p
  if x.retTick = h.now then c - x.ret else c

/-- Records of a stream not yet drained (R451). -/
def Stream.pend (x : Stream) : Nat := x.fill.used + x.drain.used

/-- PEND brought up to date (R451). -/
def Hub.pendUpdate (h : Hub) (v : Nat) : Hub := h.set F.EVS_STAT_PEND (h.stream v).pend v

/-- The end of a tick for a stream: PEND risen to THRESH since the last one counts THRHIT and may send the vector (R451). -/
def Hub.threshold (h : Hub) (v : Nat) : Hub :=
  let x := h.stream v
  let th := h.get F.EVS_THR_THRESH v
  let h := if x.seen = x.pend then h else h.setStream v { x with seen := x.pend }
  if 0 < th ∧ x.seen < th ∧ th ≤ x.pend then
    let h := h.bump F.EVS_CNT_THRHIT v
    if h.flag F.EVS_CFG_IRQEN v then h.vector (h.get F.EVS_CFG_VEC v) else h
  else h

/-- The end of a tick for every stream. -/
def Hub.thresholds (h : Hub) : Hub := (h.evs.streams.map (·.1)).foldl (fun g v => g.threshold v) h

/-- One record put into the filling bank with the stream's running number, which then advances (R444). -/
def Hub.pushRec (h : Hub) (v : Nat) (r : Nat) (prod : Option Nat) : Hub :=
  let x := h.stream v
  let n := h.get F.EVS_NEXT_NEXT v
  let b := x.fill
  let b := { b with slots := b.slots ++ [{ word := r, num := n, prod := prod }],
                    first := match b.first with | some t => some t | none => some h.now }
  (h.setStream v { x with fill := b }).set F.EVS_NEXT_NEXT (n + 1) v

/-- Whether a MARK must precede the next record (R444): after EN went to 1, or when ridge time bits 63:20 differ from
the last MARK's. -/
def Hub.markNeeded (h : Hub) (v : Nat) : Bool :=
  let x := h.stream v
  x.markDue || x.markOwed || x.mark ≠ some (h.ridge / 2 ^ 20)

/-- Write a MARK from the reserve of the filling bank; `none` where no reserve slot is free (R448). -/
def Hub.writeMark (h : Hub) (v : Nat) : Option Hub :=
  let x := h.stream v
  if x.fill.reserve < 64 then
    let k := h.ridge / 2 ^ 20
    let x := { x with fill := { x.fill with marks := x.fill.marks + 1 }, mark := some k, markDue := false, markOwed := false }
    some ((h.setStream v x).pushRec v (1 * 2 ^ 60 + k % 2 ^ 44) none)
  else none

/-- The filling bank becomes the draining bank and an empty bank fills (R449). -/
def Hub.swapBanks (h : Hub) (v : Nat) (flushed : Bool) : Hub :=
  let x := h.stream v
  let x := { x with drain := { x.fill with flushed := flushed }, fill := {}, held := none, offered := false }
  let h := (h.setStream v x).set F.EVS_STAT_FILLBANK (1 - h.get F.EVS_STAT_FILLBANK v) v
  if x.markOwed then (h.writeMark v).getD h else h

/-- Close the filling bank, or hold the close while the other bank has undrained records (R449). An empty bank stays. -/
def Hub.closeBank (h : Hub) (v : Nat) (flushed : Bool) : Hub :=
  let x := h.stream v
  if x.fill.slots.isEmpty then h
  else if x.drain.slots.isEmpty then h.swapBanks v flushed
  else h.setStream v { x with held := some (flushed || x.held.getD false) }

/-- A full bank closes (R449). -/
def Hub.closeFull (h : Hub) (v : Nat) : Hub :=
  if 1024 ≤ (h.stream v).fill.used then h.closeBank v false else h

/-- Records lost for want of credit or of a MARK (R447, R448). -/
def Hub.loseRecords (h : Hub) (p v n : Nat) : Hub :=
  let x := h.prod p
  (h.setProd p { x with lost := x.lost + n }).bump F.EVS_CNT_LOST v n

/-- Streams take no record after the tick of a fatal error (R454, R459). -/
def Hub.evsOpen (h : Hub) : Bool :=
  match h.evs.stopped with
  | some t => h.now ≤ t
  | none => true

/-- Producer `p` writes a record of one or two units: it spends a credit for each, and a MARK goes first where one is
needed; with too few credits, or no slot for the MARK, the records are lost (R444 to R448). -/
def Hub.record (h : Hub) (p : Nat) (rs : List Nat) : Hub :=
  if ¬ h.flag F.EVS_PROD_EN p ∨ ¬ h.evsOpen then h
  else
    let v := h.get F.EVS_PROD_STREAM p
    if h.usable p < rs.length then h.loseRecords p v rs.length
    else
      let marked := if h.markNeeded v then h.writeMark v else some h
      match marked with
      | none => (h.setStream v { h.stream v with markOwed := true }).loseRecords p v rs.length
      | some h1 =>
        let h2 := rs.foldl (fun g r => g.pushRec v r (some p)) h1
        let h3 := h2.set F.EVS_PROD_CREDIT (h2.get F.EVS_PROD_CREDIT p - rs.length) p
        (h3.pendUpdate v).closeFull v

/-- A record of one unit. -/
def Hub.rec1 (h : Hub) (p cls code src data : Nat) : Hub := h.record p [recHead h cls code src data]

/-- A record with its continuation. -/
def Hub.rec2 (h : Hub) (p cls code src data cont : Nat) : Hub :=
  h.record p [recHead h cls code src data, recCont cls code cont]

/-- A hub-wide FAULT record goes to S0's producer (Table 17-3). -/
def Hub.fault0 (h : Hub) (code src data : Nat) : Hub := h.rec1 (prodSlice 0) 3 code src data

/-- Write the LOSS record that producer `p` is owed, if its credits are back and the filling bank has a LOSS slot for
it (R447, R448). -/
def Hub.lossRecord (h : Hub) (p : Nat) : Hub :=
  let x := h.prod p
  let v := h.get F.EVS_PROD_STREAM p
  let b := (h.stream v).fill
  if x.lost = 0 ∨ h.usable p = 0 ∨ ¬ h.evsOpen then h
  else if b.losses.contains p ∨ 56 ≤ b.losses.length ∨ 64 ≤ b.reserve then h
  else
    match (if h.markNeeded v then h.writeMark v else some h) with
    | none => h
    | some h1 =>
      let y := h1.stream v
      if 64 ≤ y.fill.reserve then h
      else
        let h2 := h1.setStream v { y with fill := { y.fill with losses := y.fill.losses ++ [p] } }
        let h3 := h2.pushRec v (recHead h2 1 1 (srcStream v) (2 ^ 16 * p + min x.lost 0xFFFF)) none
        ((h3.setProd p { h3.prod p with lost := 0 }).pendUpdate v).closeFull v

/-- Every LOSS record that can be written now (R447). -/
def Hub.lossSweep (h : Hub) : Hub :=
  (h.evs.prods.map (·.1)).foldl (fun g p => g.lossRecord p) h

/-- A credit of producer `p` comes back: usable from the next tick on (R447). -/
def Hub.returnCredit (h : Hub) (p : Nat) : Hub :=
  let x := h.prod p
  let r := if x.retTick = h.now then x.ret + 1 else 1
  let g := h.get F.EVS_PROD_GRANT p
  if h.get F.EVS_PROD_CREDIT p < g ∧ h.flag F.EVS_PROD_EN p then
    (h.setProd p { x with retTick := h.now, ret := r }).set F.EVS_PROD_CREDIT (h.get F.EVS_PROD_CREDIT p + 1) p
  else h

/-- Undrained records of a producer in a stream. -/
def Stream.undrained (x : Stream) (p : Nat) : Nat :=
  (x.fill.slots.filter (fun s => s.prod = some p)).length + (x.drain.slots.filter (fun s => s.prod = some p)).length

/-! ## Shared resources (Table 1-8) -/

/-- Resource codes of Table 1-8. -/
def resSyncIn : Nat := 0x00
def resSyncOut : Nat := 0x01
def resGpio (g : Nat) : Nat := 0x10 + g
def resAnalog (n : Nat) : Nat := 0x20 + n
def resPixbuf (p : Nat) : Nat := 0x40 + p
def resCells : Nat := 0x50

/-- Owner and claimant codes of R26. -/
def ownFirmware : Nat := 0x01
def ownTime : Nat := 0x02
def ownMeasure : Nat := 0x03
def ownCal : Nat := 0x04
def ownTrans : Nat := 0x05
def ownFuse : Nat := 0x06
def ownRaster : Nat := 0x08
def ownPipe (p : Nat) : Nat := 0x10 + p
def ownSlice (s : Nat) : Nat := 0x80 + s

/-- The owner of a resource after reset: measurement for the analog sets, none for the rest (Table 1-8). -/
def ownerReset (r : Nat) : Nat := if 0x20 ≤ r ∧ r < 0x40 then ownMeasure else 0

/-- The present owner of a resource. -/
def Hub.owner (h : Hub) (r : Nat) : Nat := Tab.get (ownerReset r) h.owners r

/-- The hub with the owner of a resource set. -/
def Hub.setOwner (h : Hub) (r o : Nat) : Hub := { h with owners := Tab.set (ownerReset r) h.owners r o }

/-- A claim refused with CONFLICT: GLB_CLAIM holds it, GLB_CLAIMCNT counts it, one FAULT CLAIM record goes to slice 0's
stream (R25, Tables 1-11, 1-12). -/
def Hub.refuseClaim (h : Hub) (r claimant owner : Nat) : Hub :=
  let h := (((h.raise F.GLB_CLAIM_VALID 1).set F.GLB_CLAIM_RESOURCE r).set F.GLB_CLAIM_CLAIMANT claimant).set
    F.GLB_CLAIM_OWNER owner
  (h.bump F.GLB_CLAIMCNT_COUNT).fault0 0x05 srcHub (2 ^ 16 * r + 2 ^ 8 * claimant + owner)

/-- A claim on a resource: granted where it has no other owner (measurement gives way on an analog set), else refused
(R25, R26). Answers whether it was granted. -/
def Hub.claim (h : Hub) (r claimant : Nat) : Bool × Hub :=
  let o := h.owner r
  if o = 0 ∨ o = claimant ∨ (0x20 ≤ r ∧ r < 0x40 ∧ o = ownMeasure) then (true, h.setOwner r claimant)
  else (false, h.refuseClaim r claimant o)

/-! ### The net effect of a tick's writes (R30) -/

/-- Where a claiming field is noted. -/
def fkey (f : Fld) (i : Nat) : Nat := 32 * f.addr i 0 + f.lo

/-- The word of a register with claiming fields is noted before its first write in the tick. -/
def Hub.keepFirst (h : Hub) (a : Nat) : Hub :=
  if h.led.first.any (fun e => e.1 == a) then h else { h with led := { h.led with first := Tab.ins h.led.first a (h.reg a) } }

/-- A field as it stood at the start of the tick. -/
def Hub.firstOf (h : Hub) (f : Fld) (i : Nat) : Nat :=
  match h.led.first.find? (fun e => e.1 == f.addr i 0) with
  | some e => e.2.bits f.lo f.w
  | none => h.get f i

/-- A field is written again: what an earlier write of the tick was refused is no refusal. -/
def Hub.unrefuse (h : Hub) (key : Nat) : Hub :=
  { h with led := { h.led with refused := h.led.refused.filter (fun x => x.key != key) } }

/-- A field's claim is refused, unless a later write of the tick takes it back. -/
def Hub.refuseFor (h : Hub) (key r claimant owner : Nat) : Hub :=
  { h with led := { h.led with refused := h.led.refused ++ [⟨key, r, claimant, owner⟩], refusals := h.led.refusals + 1 } }

/-- The claim of a field that software writes. -/
def Hub.claimFor (h : Hub) (key r claimant : Nat) : Bool × Hub :=
  let o := h.owner r
  if o = 0 ∨ o = claimant then (true, h.setOwner r claimant) else (false, h.refuseFor key r claimant o)

/-- The refusals that the tick's net effects leave are recorded (R25). -/
def Hub.postClaims (h : Hub) : Hub :=
  h.led.refused.foldl (fun g x => g.refuseClaim x.res x.claimant x.owner) { h with led := { h.led with refused := [] } }

/-- A release: the resource goes back to its resting owner, if `claimant` holds it. -/
def Hub.release (h : Hub) (r claimant : Nat) : Hub :=
  if h.owner r = claimant then h.setOwner r (ownerReset r) else h

/-! ## A tick passes -/

/-- One tick of the core clock with no command in it: tick count and ridge time advance (R5, R531), and LOSS records
whose credits came back can be written (R447). -/
def Hub.tick (h : Hub) : Hub :=
  { h with time := { h.time with tick := h.time.tick + 1, ridge := h.time.ridge + 1#64 }, led := {} }.lossSweep

/-! ## Running a meaning -/

/-- A meaning that always answers a next state: the hub changed by `f`, OTP and the queue kept. -/
def act (f : Hub → Hub) (s : State) : Host.Outcome State Fault Refusal := .next { s with hub := f s.hub }

/-- `f` where the event's premise holds; else nothing happens (log entry 2). -/
def Hub.when (h : Hub) (c : Prop) [Decidable c] (f : Hub → Hub) : Hub := if c then f h else h

/-- A change made for every number of a list, in order. -/
def Hub.each (h : Hub) (l : List Nat) (f : Nat → Hub → Hub) : Hub := l.foldl (fun g i => f i g) h

/-- The ports, in order. -/
def ports : List Nat := List.range 32

end Sys2Proof.Machine
end

