-- ==== Sys2Proof/Machine/CoreOps.lean ====
section
/-! DEFINITION. Shared operations over frames and the kennel: staging, credit return, cell allocation and release, queue
accounting, and what happens to a frame that is discarded, fails or is cut short (spec/07_switch_core.md). -/

namespace Sys2Proof.Machine

/-! ## Access to the per-port and per-frame state -/

def Hub.lane (h : Hub) (n : Nat) : LaneSt := Tab.get {} h.lanes n
def Hub.setLane (h : Hub) (n : Nat) (x : LaneSt) : Hub := { h with lanes := Tab.set {} h.lanes n x }
def Hub.link (h : Hub) (n : Nat) : LinkSt := Tab.get {} h.links n
def Hub.setLink (h : Hub) (n : Nat) (x : LinkSt) : Hub := { h with links := Tab.set {} h.links n x }
def Hub.tp (h : Hub) (n : Nat) : TimePort := Tab.get {} h.tport n
def Hub.setTp (h : Hub) (n : Nat) (x : TimePort) : Hub := { h with tport := Tab.set {} h.tport n x }
def Hub.tun (h : Hub) (t : Nat) : TunSt := Tab.get {} h.tuns t
def Hub.setTun (h : Hub) (t : Nat) (x : TunSt) : Hub := { h with tuns := Tab.set {} h.tuns t x }
def Hub.fabp (h : Hub) (n : Nat) : FabPort := Tab.get {} h.fab.ports n
def Hub.setFabp (h : Hub) (n : Nat) (x : FabPort) : Hub :=
  { h with fab := { h.fab with ports := Tab.set {} h.fab.ports n x } }
def Hub.frm (h : Hub) (i : Nat) : Option Frm := Tab.get none h.core.frames i
def Hub.putFrm (h : Hub) (i : Nat) (f : Option Frm) : Hub :=
  { h with core := { h.core with frames := Tab.set none h.core.frames i f } }
def Hub.setFrm (h : Hub) (i : Nat) (f : Frm) : Hub := h.putFrm i (some f)
def Hub.queue (h : Hub) (q : Nat) : List Nat := Tab.get [] h.core.queues q
def Hub.setQueue (h : Hub) (q : Nat) (l : List Nat) : Hub :=
  { h with core := { h.core with queues := Tab.set [] h.core.queues q l } }
def Hub.stage (h : Hub) (k : Nat) : List Nat := Tab.get [] h.core.staging k
def Hub.setStage (h : Hub) (k : Nat) (l : List Nat) : Hub :=
  { h with core := { h.core with staging := Tab.set [] h.core.staging k l } }
def Hub.tx (h : Hub) (e : Nat) : Option Tx := Tab.get none h.core.tx e
def Hub.setTx (h : Hub) (e : Nat) (t : Option Tx) : Hub :=
  { h with core := { h.core with tx := Tab.set none h.core.tx e t } }

/-- Cells of a frame. -/
def Frm.n (f : Frm) : Nat := cellsOf f.len

/-- The staging list a frame stands in: ingress point × 8 + class. -/
def Frm.key (f : Frm) : Nat := f.src * 8 + f.lcls

/-- Cells of a frame that have arrived in staging: whole cells while it is open, all of them once it has ended. -/
def Frm.here (f : Frm) : Nat := if f.ended.isSome then f.n else min f.n ((16 + f.data.length) / 256)

/-- Cells at an ingress point's staging (Table 7-3). -/
def stagingCells (p : Nat) : Nat := if p < 32 then 384 else if p = 32 then 1024 else 512

/-- A frame that its source still keeps. -/
def Frm.stalled (f : Frm) : Bool :=
  match f.phase with
  | .stalled _ => true
  | _ => false

/-- Cells now in an ingress point's staging. -/
def Hub.staged (h : Hub) (p : Nat) : Nat :=
  h.core.frames.foldl (fun a x => match x.2 with
    | some f => if f.src = p ∧ ¬ f.stalled then a + (f.here - f.left) else a
    | none => a) 0

/-- PORT_CRDSH.RXOCC brought up to date (Table 4-16). -/
def Hub.rxOcc (h : Hub) (p : Nat) : Hub := if p < 32 then h.set F.PORT_CRDSH_RXOCC (h.staged p) p else h

/-! ## Blocks sent on a port -/

/-- A link is UP (Table 4-11). -/
def Hub.linkUp (h : Hub) (n : Nat) : Bool := h.get F.PORT_LKSTAT_STATE n == 2

/-- The lanes of a port are ACTIVE (Table 3-12). -/
def Hub.active (h : Hub) (n : Nat) : Bool := h.get F.PORT_LSTAT_STATE n == 7

/-- `n` copies of a block pass the scrambler of each of some transmit lanes (R64); the fill of IDLE between two sends is not
counted (log entry 63). -/
def Hub.scrOn (h : Hub) (n lanes count : Nat) (k : Blk) : Hub :=
  let l := h.lane n
  h.setLane n { l with scr := (bitList 4 0 lanes).foldl (fun t m => Tab.set 0 t m (scrRun k count (Tab.get 0 t m))) l.scr }

/-- A block received on a lane passes its descrambler: the state is what the far scrambler made of the payload (R64). -/
def Hub.heard (h : Hub) (n m : Nat) (k : Blk) : Hub :=
  let l := h.lane n
  h.setLane n { l with des := Tab.set 0 l.des m (scramble (Tab.get 0 l.des m) k).2 }

/-- Row slots of this tick that lane-layer blocks have taken (R68); those of an earlier tick are past. -/
def Hub.taken (h : Hub) (n : Nat) : Tab Nat := let l := h.lane n; if l.slotAt = h.now then l.taken else []

/-- Lane-layer blocks go into the slots of the lanes they address (R68). -/
def Hub.takeSlots (h : Hub) (n lanes count : Nat) : Hub :=
  let t := (bitList 4 0 lanes).foldl (fun t m => Tab.set 0 t m (Tab.get 0 t m + count)) (h.taken n)
  h.setLane n { h.lane n with taken := t, slotAt := h.now }

/-- The lane of the next free slot, from lane `m` on over the lanes of `tx`, and the slots still taken after it (R68). -/
def nextSlot (tx : List Nat) (m : Nat) (taken : Tab Nat) : Nat → Nat × Tab Nat
  | 0 => (m, taken)
  | k + 1 =>
    let m := (tx.find? (m ≤ ·)).getD (tx.headD 0)
    let c := Tab.get 0 taken m
    if c = 0 then (m, taken) else nextSlot tx (m + 1) (Tab.set 0 taken m (c - 1)) k

/-- The next link-layer block is dealt to its lane, in ascending order of the active transmit lanes (R68); the fill between two
link-layer blocks is whole rows (log entry 63). -/
def Hub.deal (h : Hub) (n : Nat) : Nat × Hub :=
  let l := h.lane n
  let t := h.taken n
  let r := nextSlot (bitList 4 0 (h.get F.PORT_LSTAT_TXMASK n)) l.slot t (t.foldl (fun a x => a + x.2) 4)
  (r.1, h.setLane n { l with slot := r.1 + 1, taken := r.2, slotAt := h.now })

/-- Striping starts at the lowest-numbered active transmit lane (R68). -/
def Hub.firstSlot (h : Hub) (n : Nat) : Hub := h.setLane n { h.lane n with slot := 0, taken := [] }

/-- `k` bytes counted in window `i` of length `w`. -/
def Flow.add (f : Flow) (w i k : Nat) : Flow :=
  if f.w = w ∧ f.idx = i then { f with cur := f.cur + k }
  else { w := w, idx := i, cur := k, prev := if f.w = w ∧ f.idx + 1 = i then f.cur else 0 }

/-- The bytes of the window before window `i`. -/
def Flow.last (f : Flow) (w i : Nat) : Nat :=
  if f.w ≠ w then 0 else if f.idx = i then f.prev else if f.idx + 1 = i then f.cur else 0

/-- Length of a port's shepherd window (R240). -/
def Hub.shepW (h : Hub) (n : Nat) : Nat := 1024 * 2 ^ h.get F.TRF_SHPCFG_WIN n

/-- A SOF, data or trailer block was sent, or received (R240). -/
def Hub.txCount (h : Hub) (n : Nat) : Hub :=
  h.setLink n { h.link n with txFlow := (h.link n).txFlow.add (h.shepW n) (h.ridge / h.shepW n) 8 }
def Hub.rxCount (h : Hub) (n : Nat) : Hub :=
  h.setLink n { h.link n with rxFlow := (h.link n).rxFlow.add (h.shepW n) (h.ridge / h.shepW n) 8 }

/-- The control blocks that belong to a link frame (R240). -/
def frameCtl (k : Blk) : Bool := k.btype == btSof || k.btype == btEofg || k.btype == btEofb

/-- Something leaves on a port's lanes. -/
def Hub.transmit (h : Hub) (n : Nat) : Item → Hub
  | .lane lanes count k => ((h.takeSlots n lanes count).scrOn n lanes count k).emit (.ctl n lanes count k)
  | .link ctl k =>
    let h := if ctl && !frameCtl k then h else h.txCount n
    let r := h.deal n
    (r.2.scrOn n (2 ^ r.1) 1 k).emit (if ctl then .ctl n (2 ^ r.1) 1 k else .data n r.1 k)
  | .other o => h.emit o

/-- Something sent on a port: at once, or when the direction has left electrical idle (R117), and a link-layer
block while no lane transmits, every one being recovered, in order. After a fatal error a hub transmits nothing on any
lane (R459). -/
def Hub.send (h : Hub) (n : Nat) (x : Item) : Hub :=
  if h.flag F.GLB_FATAL_VALID then h
  else
    let l := h.link n
    let stuck : Bool := match x with
      | .link _ _ => (h.active n && h.get F.PORT_LSTAT_TXMASK n == 0) || l.wait != []
      | _ => false
    if h.flag F.PORT_LKSTAT_TXIDLE n ∨ stuck then h.setLink n { l with wait := l.wait ++ [x] }
    else (h.setLink n { l with txAt := h.now }).transmit n x

/-- What waited to be sent is sent. -/
def Hub.flushWait (h : Hub) (n : Nat) : Hub :=
  let l := h.link n
  if h.flag F.PORT_LKSTAT_TXIDLE n ∨ (h.active n ∧ h.get F.PORT_LSTAT_TXMASK n = 0) then h
  else l.wait.foldl (fun g x => g.send n x) (h.setLink n { l with wait := [] })

/-- A link-layer control block in the row slots of R68. -/
def Hub.sendCtl (h : Hub) (n : Nat) (b : Blk) : Hub := h.send n (.link true b)

/-- The cumulative credit count of a pool of a port's staging. -/
def LinkSt.count (l : LinkSt) (pool : Nat) : Nat := Tab.get 0 l.cnt pool

/-- An LCB with the count of a pool (R106, R114). -/
def Hub.sendLcb (h : Hub) (n ak aseq : Nat) (staged poll : Bool) (pool : Nat) : Hub :=
  let l := h.link n
  let h := h.setLink n { l with lcbAt := h.now, sent := Tab.set 0 l.sent pool h.now }
  h.sendCtl n (lcbBlk ak aseq staged poll (pool % 8) (pool == 8) (l.count pool))

/-- Credit for `k` cells of a pool comes back: counted, and sent while the link is UP (R114). -/
def Hub.creditBack (h : Hub) (n pool k : Nat) : Hub :=
  if k = 0 then h
  else
    let l := h.link n
    let h := h.setLink n { l with cnt := Tab.set 0 l.cnt pool ((l.count pool + k) % 128) }
    if h.linkUp n then h.sendLcb n 0 0 false false pool else h

/-- `k` cells of a frame leave staging; at a port, the first cells count toward the class pool, the rest toward the
shared pool (R114). -/
def Hub.leave (h : Hub) (i k : Nat) : Hub :=
  match h.frm i with
  | none => h
  | some f =>
    let d := f.n - f.shc
    let ded := min (f.left + k) d - min f.left d
    let h := h.setFrm i { f with left := f.left + k }
    if f.src < 32 then ((h.creditBack f.src f.lcls ded).creditBack f.src 8 (k - ded)).rxOcc f.src else h

/-! ## Accounting (R198) -/

/-- The queues. -/
def queues : List Nat := List.range 272

/-- Cells q.sh that a queue takes from the shared pool (Table 7-4). -/
def Hub.qsh (h : Hub) (q : Nat) : Nat := h.get F.CORE_QOCC_OCC q - h.get F.CORE_QCFG_MIN q

/-- Sum of all queue minimums. -/
def Hub.sumMin (h : Hub) : Nat := queues.foldl (fun a q => a + h.get F.CORE_QCFG_MIN q) 0

/-- shused of Table 7-4. -/
def Hub.shUsed (h : Hub) : Nat := queues.foldl (fun a q => a + h.qsh q) 0

/-- CORE_POOL and CORE_SHFREE brought up to date (R198). -/
def Hub.pool (h : Hub) : Hub :=
  let sq := 262144 - h.sumMin - h.get F.CORE_RETQ_QUOTA - 13824 - h.core.retired
  (h.set F.CORE_POOL_SQ sq).set F.CORE_SHFREE_FREE (sq - h.shUsed)

/-- q.occ raised by `n`. -/
def Hub.occUp (h : Hub) (q n : Nat) : Hub := (h.set F.CORE_QOCC_OCC (h.get F.CORE_QOCC_OCC q + n) q).pool

/-- q.occ lowered by `n`. -/
def Hub.occDown (h : Hub) (q n : Nat) : Hub := (h.set F.CORE_QOCC_OCC (h.get F.CORE_QOCC_OCC q - n) q).pool

/-- Cells charged to the retention quota, raised or lowered (R201). -/
def Hub.retUp (h : Hub) (n : Nat) : Hub := h.set F.FAB_RETOCC_CELLS (h.get F.FAB_RETOCC_CELLS + n)
def Hub.retDown (h : Hub) (n : Nat) : Hub := h.set F.FAB_RETOCC_CELLS (h.get F.FAB_RETOCC_CELLS - n)

/-- The threshold check of R199 for `n` cells at queue `q`, with the exponent lowered by `ys` for a yellow frame
(R238). -/
def Hub.accepts (h : Hub) (q n ys : Nat) : Bool :=
  let occ := h.get F.CORE_QOCC_OCC q
  let mn := h.get F.CORE_QCFG_MIN q
  let s := n - min n (mn - occ)
  let f := h.get F.CORE_SHFREE_FREE
  let code := h.get F.CORE_QCFG_ALPHA q - ys
  let t := f * 2 ^ code / 64
  s == 0 || (decide (h.qsh q + s ≤ t) && decide (s ≤ f))

/-! ## Cells (R203 to R205) -/

/-- The row of a kennel cell, as a key of the row table (memory 0). -/
def rowKey (cell : Nat) : Nat := cell % 64 * 256 + cell / 64 / 16

/-- Whether a row's cells may be allocated (R195). -/
def Hub.rowFree (h : Hub) (k : Nat) : Bool := let r := Tab.get {} h.core.rows k; !r.faulted && !r.retired

/-- The first never-allocated cell of a bank, from index `i`, whose row may be used. -/
def Hub.freshCell (h : Hub) (b : Nat) : Nat → Nat → Option Nat
  | 0, _ => none
  | fuel + 1, i =>
    if 4096 ≤ i then none
    else if h.rowFree (rowKey (i * 64 + b)) then some i
    else h.freshCell b fuel (i + 1)

/-- The top cell of a bank's stack, taken (R203). -/
def Hub.takeCell (h : Hub) (b : Nat) : Option (Nat × Hub) :=
  let k := Tab.get {} h.core.banks b
  match k.freed.find? (fun c => h.rowFree (rowKey c)) with
  | some c => some (c, { h with core := { h.core with banks := Tab.set {} h.core.banks b { k with freed := k.freed.erase c } } })
  | none =>
    match h.freshCell b (4096 - k.fresh) k.fresh with
    | some i => some (i * 64 + b,
        { h with core := { h.core with banks := Tab.set {} h.core.banks b { k with fresh := i + 1 } } })
    | none => none

/-- Banks in rotating order after `b`. -/
def banksAfter (b : Nat) : List Nat := (List.range 64).map (fun i => (b + 1 + i) % 64)

/-- The banks written in this tick: as many as cells were admitted in it (R203, R215). -/
def Hub.written (h : Hub) : List Nat := if h.core.admAt = h.now then h.core.admBanks else []

/-- A cell allocated from the first bank, in rotating order, that is not empty and was not written in this tick (R203). -/
def Hub.allocCell (h : Hub) : Option (Nat × Hub) :=
  (banksAfter h.core.bankRot).findSome? (fun b =>
    if h.written.contains b then none
    else match h.takeCell b with
      | some (c, g) => some (c, { g with core := { g.core with bankRot := b, admAt := h.now, admBanks := b :: h.written } })
      | none => none)

/-- A cell goes back to its bank's stack. -/
def Hub.freeCell (h : Hub) (c : Nat) : Hub :=
  let b := c % 64
  let k := Tab.get {} h.core.banks b
  { h with core := { h.core with banks := Tab.set {} h.core.banks b { k with freed := c :: k.freed } } }

/-- Cells `a` to `b - 1` of a frame are read, or discarded, by one holder: each loses a reference, and those that reach
none are freed and credited to the queues charged for the frame (R205). -/
def Hub.dropRefs (h : Hub) (i a b : Nat) : Hub :=
  match h.frm i with
  | none => h
  | some f =>
    let dead := ((f.cells.drop a).take (b - a)).filter (fun c => c.refs = 1)
    let cells := f.cells.take a ++ ((f.cells.drop a).take (b - a)).map (fun c => { c with refs := c.refs - 1 }) ++
      f.cells.drop (max a b)
    let h := h.setFrm i { f with cells := cells, credited := f.credited + dead.length }
    let h := dead.foldl (fun g c => g.freeCell c.cell) h
    f.charged.foldl (fun g q => g.occDown q dead.length) h

/-- Once a frame has no copy and no retention left: the charge for cells that never came is given back; while it is
still open its further cells leave staging as a discard, and once it has ended it is gone. -/
def Hub.gone (h : Hub) (i : Nat) : Hub :=
  match h.frm i with
  | none => h
  | some f =>
    if f.copies ≠ [] ∨ f.waiting ≠ [] ∨ f.retained then h
    else
      let h := f.charged.foldl (fun g q => g.occDown q (f.n - f.credited)) h
      let h := (h.setFrm i { f with phase := .dropped, charged := [] }).leave i (f.here - f.left)
      let h := h.setStage f.key ((h.stage f.key).filter (· ≠ i))
      if f.ended.isSome then (h.putFrm i none).rxOcc f.src else h

/-- The function that built a frame is told of its commit or discard (R264, R450). -/
def Hub.note (h : Hub) (f : Frm) (committed : Bool) (status : Nat) : Hub :=
  if f.origin = .none then h
  else
    let n : Note := { origin := f.origin, committed := committed, status := status, eseq := f.hdr.eseq,
                      ts := if committed then h.ridge % 2 ^ 32 else 0 }
    { h with core := { h.core with notes := h.core.notes ++ [n] } }

/-- A frame that waits in staging is discarded: its cells leave staging as they come (R130, R200). `status` is what a ring
is told (Table 9-6). -/
def Hub.dropStaged (h : Hub) (i : Nat) (status : Nat := 0) : Hub :=
  match h.frm i with
  | none => h
  | some f =>
    let h := h.note f false status
    (h.setFrm i { f with phase := .dropped }).gone i

/-- A copy that has not started leaves its queue and is discarded (R205, R211). -/
def Hub.dropCopy (h : Hub) (i q : Nat) : Hub :=
  match h.frm i with
  | none => h
  | some f =>
    let h := h.setQueue q ((h.queue q).erase i)
    let h := (h.setFrm i { f with copies := f.copies.erase q }).dropRefs i 0 f.cells.length
    h.gone i

/-- The queues whose copy of a frame has started and has not been read to its end. -/
def Hub.startedIn (h : Hub) (i : Nat) : List Nat :=
  (List.range 34).filterMap (fun e => match h.tx e with
    | some t => if t.id = i ∧ ¬ t.fin then some t.q else none
    | none => none)

/-- The copies that still wait for their queue are discarded (R211). -/
def Hub.dropWaits (h : Hub) (i : Nat) : Hub :=
  match h.frm i with
  | none => h
  | some f =>
    let h := h.setFrm i { f with waiting := [] }
    let h := h.each f.waiting (fun _ g => g.dropRefs i 0 f.cells.length)
    (h.setStage f.key (if f.left = f.n then (h.stage f.key).erase i else h.stage f.key)).gone i

/-! ## Frames built at this hub -/

/-- The staging of an internal source's ingress point has room for `n` cells, no frame waiting ahead (Table 7-3). -/
def Hub.stageRoom (h : Hub) (p n : Nat) : Bool := (p != 33 || h.core.stall == []) && decide (h.staged p + n ≤ stagingCells p)

/-- A new frame with all its bytes present, put at the end of its class list in the staging of ingress point `src` (R197), or kept by
its source while the internal staging has no room (Table 7-3); answers its number. -/
def Hub.newFrame (h : Hub) (hd : THdr) (payload : Bytes) (src : Nat) (tun : Option Nat) (o : Origin) : Nat × Hub :=
  let i := h.core.nextId
  let f : Frm := { hdr := hd, len := payload.length + 16, data := payload, src := src, arrived := h.now, lcls := hd.cls,
                   ended := some true, tun := tun, origin := o }
  let h := { h with core := { h.core with nextId := i + 1 } }
  if src = 33 ∧ ¬ h.stageRoom 33 f.n then
    (i, { h with core := { h.core with stall := h.core.stall ++ [i] } }.setFrm i { f with phase := .stalled none })
  else (i, (h.setFrm i f).setStage f.key (h.stage f.key ++ [i]))

/-- Frames that stalled at the internal sources come into staging, oldest first, as room returns (Table 7-3). -/
def Hub.unstall (h : Hub) : Nat → Hub
  | 0 => h
  | k + 1 =>
    match h.core.stall with
    | [] => h
    | i :: is =>
      let g := { h with core := { h.core with stall := is } }
      match h.frm i with
      | none => g.unstall k
      | some f =>
        (match f.phase with
        | .stalled qs =>
          if h.staged 33 + f.n ≤ stagingCells 33 then
            ((g.setFrm i { f with arrived := h.now, phase := match qs with | some l => .routed l | none => .arriving }).setStage f.key
              (h.stage f.key ++ [i])).unstall k
          else h
        | _ => g.unstall k)

/-- The route of a frame is known: its queues (R197). -/
def Hub.routed_ (h : Hub) (i : Nat) (qs : List Nat) : Hub :=
  match h.frm i with
  | some f => h.setFrm i { f with phase := if f.stalled then .stalled (some qs) else .routed qs }
  | none => h

/-- The hub's own ID for SHUB: 0xFFFF where it has none (R169). -/
def Hub.myId (h : Hub) : Nat := if h.flag F.FAB_ID_VALID then h.get F.FAB_ID_HUBID else 0xFFFF

/-- A management frame between endpoints 0x000, built by the internal sources (R169, R153). -/
def Hub.mgmtFrame (h : Hub) (dhub hops cls : Nat) (b : Bool) (payload : Bytes) : Hub :=
  let hd : THdr := { dhub := dhub, dtun := 0, shub := h.myId, stun := 0, type := 0, cls := cls, b := b, hops := hops,
                     plen := payload.length }
  (h.newFrame hd.seal payload 33 none .none).2

end Sys2Proof.Machine
end

