-- ==== Sys2Proof/Machine/TunOps.lean ====
section
/-! DEFINITION. Shared operations over port roles, routes and tunnel entries: the role a port has (R163 to R168), the egress
of a destination (R176), discards at an endpoint, and a failover with its resend (R158, R159). -/

namespace Sys2Proof.Machine

/-! ## Roles -/

/-- The FAB_PORTCFG word in force: the one of the last link-up while the link is UP, else the register (R175). -/
def Hub.portCfg (h : Hub) (n : Nat) : Word :=
  let reg := h.reg (F.FAB_PORTCFG_ROLE.addr n 0)
  if h.linkUp n then (h.fabp n).cfg.getD reg else reg

/-- The resolved role of a port, coded as Table 6-1: 0 while AUTO is unresolved (R163, R165). -/
def Hub.role (h : Hub) (n : Nat) : Nat :=
  let r := (h.portCfg n).bits 0 3
  if h.flag F.TIME_CTL_SUMMIT then (if r = 0 ∨ r = 2 ∨ r = 3 then 1 else r)
  else if r = 0 then (h.fabp n).role else r

/-- The port with role `r`, the lowest-numbered. -/
def Hub.portOfRole (h : Hub) (r : Nat) : Option Nat := ports.find? (fun n => h.role n = r)

/-- A port on which this hub follows the partner's time: an uplink (R166). -/
def Hub.isUplink (h : Hub) (n : Nat) : Bool := h.role n == 2 || h.role n == 3

/-- This hub is the child on a port: an uplink, or a PEER link with PEERPAR = 0 (Table 6-1, R166). -/
def Hub.isChild (h : Hub) (n : Nat) : Bool :=
  h.isUplink n || (h.role n == 4 && (h.portCfg n).bits 8 1 == 0)

/-- The ROLE code of TS1, TS2 and PORT_LSTAT: 0 not known, 1 parent, 2 child (Table 3-5). -/
def Hub.tsRole (h : Hub) (n : Nat) : Nat := if h.isChild n then 2 else if h.role n = 0 then 0 else 1

/-- One-way delay of a port in ticks: the delay of PORT_TDLY rounded up (R84). -/
def Hub.dl (h : Hub) (n : Nat) : Nat := ceilDiv (h.get F.PORT_TDLY_DLY n) 64

/-! ## Routes (R176) -/

/-- Whether an ID lies in a range. -/
def inRange (id base len : Nat) : Bool := id / 2 ^ (16 - len) == base / 2 ^ (16 - len)

/-- Whether this hub holds a range and `id` lies in it. -/
def Hub.inMyRange (h : Hub) (id : Nat) : Bool :=
  h.flag F.FAB_ID_VALID && inRange id (h.get F.FAB_ID_HUBID) (h.get F.FAB_ID_LEN)

/-- The port over which the sub-range that holds `id` was delegated. -/
def Hub.portOfRange (h : Hub) (id : Nat) : Option Nat :=
  ports.find? (fun n => h.flag F.FAB_PORTDLG_VALID n &&
    inRange id (h.get F.FAB_PORTDLG_BASE n) (h.get F.FAB_PORTDLG_LEN n))

/-- Primary and secondary egress port of a destination hub (R176, first step). -/
def Hub.routePair (h : Hub) (d : Nat) : Option Nat × Option Nat :=
  if h.flag F.ROUTE_VALID d then
    let p := h.get F.ROUTE_PRI d
    let s := h.get F.ROUTE_SEC d
    (if p < 32 then some p else none, if s < 32 then some s else none)
  else if h.inMyRange d then (h.portOfRange d, none)
  else (h.portOfRole 2, h.portOfRole 3)

/-- A link is down but within its hold time (R176, Table 4-10). -/
def Hub.inHold (h : Hub) (n : Nat) : Bool :=
  match (h.link n).downAt with
  | some t => !h.linkUp n && h.now < t + 40000 * h.get F.PORT_LKCTL_HOLD n
  | none => false

/-- The egress of a frame that is not protected at this hub, and whether it is a fallback to SEC (R176, second step). -/
def Hub.chooseEgress (h : Hub) (d : Nat) : Option (Nat × Bool) :=
  match h.routePair d with
  | (none, _) => none
  | (some p, s) =>
    if h.linkUp p then some (p, false)
    else match s with
      | some q => if h.linkUp q then some (q, true) else if h.inHold p then some (p, false) else none
      | none => if h.inHold p then some (p, false) else none

/-- The egress that the PATH of a protected entry selects at its ingress hub (R176). -/
def Hub.pathEgress (h : Hub) (t : Nat) : Option Nat :=
  match h.routePair (h.get F.TUN_W1_DHUB t) with
  | (p, s) => if h.flag F.TUN_W3_PATH t then (match s with | some q => some q | none => p) else p

/-! ## Tunnel entries -/

/-- STATE codes of Table 5-9. -/
def tsClosed : Nat := 0
def tsOpen : Nat := 1
def tsDraining : Nat := 2
def tsStarting : Nat := 3

/-- The state of an entry; entry 0 is always OPEN (R145). -/
def Hub.tunState (h : Hub) (t : Nat) : Nat := if t = 0 then tsOpen else h.get F.TUN_W0_STATE t

/-- A discard counted at an endpoint (Table 5-9, word 7). -/
def Hub.disc (h : Hub) (t : Nat) (n : Nat := 1) : Hub := h.bump F.TUN_W7_DISC t n

/-- Cells of the packets of a list, by ESEQ and frame number. -/
def Hub.cellsIn (h : Hub) (l : List (Nat × Nat)) : Nat :=
  l.foldl (fun a p => match h.frm p.2 with | some f => a + f.n | none => a) 0

/-- The cells of retained and held packets of an entry, as word 6 shows them, and the packets retained. -/
def Hub.tunWord6 (h : Hub) (t : Nat) : Hub :=
  let x := h.tun t
  (h.set F.TUN_W6_UNACK x.retain.length t).set F.TUN_W6_RETOCC (h.cellsIn x.retain + h.cellsIn x.held) t

/-- The entries that are protected and not CLOSED: only these keep windows (R153). -/
def Hub.protTuns (h : Hub) : List Nat :=
  ((h.regs.filterMap (fun x => if 0x80000 ≤ x.1 ∧ x.1 < 0xA0000 ∧ x.1 % 0x20 = 0 then some ((x.1 - 0x80000) / 0x20) else none)).filter
    (fun t => h.flag F.TUN_W0_PROT t && h.get F.TUN_W0_STATE t != tsClosed))

/-- A retained packet is linked once more into a queue: each of its cells gets a reference (R205). One whose route is not known yet
goes out by its first send. -/
def Hub.relink (h : Hub) (i q : Nat) : Hub :=
  match h.frm i with
  | none => h
  | some f =>
    match f.phase with
    | .accepted =>
      let cells := f.cells.map (fun c => { c with refs := c.refs + 1 })
      (h.setFrm i { f with cells := cells, copies := f.copies ++ [q], ts := h.now, resend := true }).setQueue q (h.queue q ++ [i])
    | .routed _ => h.setFrm i { f with phase := .routed [q], resend := true }
    | _ => h

/-- The copies of a frame that have not started leave their queues: it stays where it is retained. -/
def Hub.unlink (h : Hub) (i : Nat) : Hub :=
  match h.frm i with
  | none => h
  | some f => (f.copies.filter (fun q => (h.queue q).contains i)).eraseDups.foldl (fun g q => g.dropCopy i q) h

/-- Retained packets of an entry after sequence `after` (all of them for `none`) are sent again on the present path, each in its
class, in ESEQ order and ahead of any new packet: one that still waits in a queue takes its place among them (R158, R159). -/
def Hub.resend (h : Hub) (t : Nat) (after : Option Nat) : Hub :=
  match h.pathEgress t with
  | none => h
  | some e =>
    let l := (h.tun t).retain.filter (fun p => match after with
      | none => true
      | some a => let d := (p.1 + 2 ^ 24 - a) % 2 ^ 24; 0 < d && d < 2 ^ 23)
    let h := h.each (l.map (·.2)) (fun i g => g.unlink i)
    h.each (l.map (·.2)) (fun i g => match g.frm i with
      | some f => g.relink i (e * 8 + f.hdr.cls)
      | none => g)

/-- The frame was built from an entry that is STARTING: it sends no packet (R154). -/
def Hub.starting (h : Hub) (f : Frm) : Bool :=
  match f.tun with
  | some t => f.retained && h.tunState t == tsStarting
  | none => false

/-- A path failure of an ingress entry is detected: PATH is inverted where the route allows it, the failover is counted
and recorded, and the resend set is fixed when the tick ends (R158, R161). -/
def Hub.failover (h : Hub) (t : Nat) : Hub :=
  let rp := h.routePair (h.get F.TUN_W1_DHUB t)
  let p := h.get F.TUN_W3_PATH t
  let np := match rp.2 with
    | none => 0
    | some _ => if p = 0 then 1 else (match rp.1 with | some e => if h.linkUp e then 0 else 1 | none => 1)
  let h := h.set F.TUN_W3_PATH np t
  let h := (h.bump F.TUN_W7_FAILOVER t).bump F.FAB_PROTCNT_FAILOVER
  let h := h.rec1 (prodSlice (h.get F.TUN_W0_SLICE t)) 3 0x07 srcHub (2 ^ 12 * np + t)
  h.setTun t { h.tun t with missed := 0, failed := true }

/-- The port that is the present egress of protected entries goes down: a path failure of each (R158). -/
def Hub.portFailover (h : Hub) (n : Nat) : Hub :=
  h.each (h.protTuns.filter (fun t => h.pathEgress t = some n)) (fun t g => g.failover t)

/-- What the end of a tick brings at an entry: one opened in it is OPEN (R147), and one whose path failed in it sends every packet
still retained, on the path now selected; a STARTING one waits for its STARTACK (R154, R158). -/
def Hub.tunTick (h : Hub) (t : Nat) : Hub :=
  let x := h.tun t
  let h := h.setTun t { x with opening := false, failed := false }
  let h := if x.opening ∧ h.flag F.TUN_W0_EN t ∧ h.get F.TUN_W0_STATE t = tsClosed then h.set F.TUN_W0_STATE tsOpen t else h
  if x.failed ∧ h.get F.TUN_W0_STATE t ≠ tsStarting then h.resend t none else h

/-- The end of a tick at every entry that has something due. -/
def Hub.tunsTick (h : Hub) : Hub :=
  h.each ((h.tuns.filter (fun x => x.2.opening || x.2.failed)).map (·.1)) (fun t g => g.tunTick t)

end Sys2Proof.Machine
end

