-- ==== Sys2Proof/Machine/TurnOps.lean ====
section
/-! DEFINITION. Shared operations of the lanes that the link layer needs too: lane sets and modes, training groups and bursts, and
lane turns up to their end (spec/03_lanes.md). -/

namespace Sys2Proof.Machine

/-! ## The lanes -/

/-- A set of lanes without those of another. -/
def without (a b : Nat) : Nat := (bitList 4 0 a).foldl (fun x i => if bitOf b i then x else x + 2 ^ i) 0

/-- A set of lanes with those of another. -/
def union (a b : Nat) : Nat := a ||| b

/-- Lane mode and pairs to transmit lanes (Tables 3-1, R82). -/
def fixedTx (ret : Nat) : Nat := if bitOf ret 0 then 1 else 0
def fixedRx (ret : Nat) : Nat := if bitOf ret 3 then 2 else 3

/-- The transmit lanes of a mode with the pairs of `ret` retired. -/
def modeTx (mode ret : Nat) : Nat :=
  match mode with
  | 0 => 3
  | 1 => 7
  | 2 => 1
  | 3 => 15 - ret % 16 - 2 ^ fixedRx ret
  | _ => 2 ^ fixedTx ret

/-- The receive lanes of a mode. -/
def modeRx (mode ret : Nat) : Nat := 15 - ret % 16 - modeTx mode ret

/-- Whether a mode exists for the lane set (R59, R82). -/
def modeExists (mode ret : Nat) : Bool := if ret % 16 = 0 then decide (mode ≤ 2) else mode == 3 || mode == 4

/-- The mode of the other end (R60). -/
def mirrorMode : Nat → Nat
  | 1 => 2
  | 2 => 1
  | 3 => 4
  | 4 => 3
  | m => m

/-- The training-default mode (R74, R82): 2:2 with four pairs; with three, 2:1 at the parent. -/
def Hub.defaultMode (h : Hub) (n ret : Nat) : Nat := if ret % 16 = 0 then 0 else if h.isChild n then 4 else 3

/-- Pairs outside the lane set in use: a pair cleared in ACTIVE stays out until the next full training (R73, R81). -/
def Hub.outPairs (h : Hub) (n : Nat) : Nat := if h.active n then 15 - (h.lane n).set else h.get F.PORT_LRETIRE_MASK n

/-- The lane that carries what R43 places on L0: the fixed transmit lane, or, while it is being recovered, the
lowest-numbered other active transmit lane (R80, R82). -/
def Hub.l0 (h : Hub) (n : Nat) : Nat :=
  let f := fixedTx (h.outPairs n)
  if bitOf (h.get F.PORT_LSTAT_RECOV n) f then
    ((bitList 4 0 (h.get F.PORT_LSTAT_TXMASK n)).filter (· ≠ f)).headD f
  else f

/-- Blocks of one kind sent on the fixed transmit lane. -/
def Hub.sendL0 (h : Hub) (n count : Nat) (b : Blk) : Hub := h.send n (.lane (2 ^ h.l0 n) count b)

/-- This end's TS1 (R72, R73), but for the lane it goes out on; it requests nothing. -/
def Hub.ownTs (h : Hub) (n : Nat) : TsBlk :=
  let l := h.lane n
  let top := min (h.get F.PORT_LCTL_MAXRATE n) 2
  { lane := 0, rates := (if top = 2 then 7 else if top = 1 then 3 else 1), tgt := min top l.ceil,
    retire := h.get F.PORT_LRETIRE_MASK n, role := h.tsRole n, preset := 15, pre := 0, post := 0,
    eqlane := 0, eqstat := 0, phase := l.phase, ready := false }

/-- Repeating groups of 2 COMMA and 6 training blocks on lanes at a rate, each with its own LANE (R70, R72). A group leaves a
scrambler as it leaves it after any number of groups, since a COMMA fills the state (R64). -/
def Hub.groups (h : Hub) (n lanes rate bt : Nat) (t : TsBlk) : Hub :=
  h.each (bitList 4 0 lanes) (fun m g =>
    let k := { t with lane := m : TsBlk }.blk bt
    let l := g.lane n
    let s := scrRun k 6 (scrComma (scrComma (Tab.get 0 l.scr m)))
    (g.setLane n { l with scr := Tab.set 0 l.scr m s }).send n (.other (.groups n (2 ^ m) rate k)))

/-- The fast-exit burst on lanes at the port's rate (Table 3-7); its COMMAs fill the scramblers (R64). -/
def Hub.burst (h : Hub) (n lanes : Nat) : Hub :=
  let r := h.get F.PORT_LSTAT_RATE n
  let b := burstBlocks r
  let l := h.lane n
  let scr := (bitList 4 0 lanes).foldl (fun t m => Tab.set 0 t m (scrRun idleBlk b.2 (scrComma (Tab.get 0 t m)))) l.scr
  (h.setLane n { l with scr := scr }).send n (.other (.burst n lanes r b.1 b.2))

/-- A turn ends: PORT_LMODE, one count of PORT_TURNCNT, one shepherd record, and the shepherd's dwell (R21, R89, R241). -/
def Hub.turnEnd (h : Hub) (n status : Nat) : Hub :=
  let l := h.lane n
  let h := h.setLane n { l with turn := none }
  let h := (h.set F.PORT_LMODE_STATUS status n).set F.PORT_LMODE_BUSY 0 n
  let h := if status = 1 then h.bump F.PORT_TURNCNT_DONE n
           else if status = 3 ∨ status = 4 then h.bump F.PORT_TURNCNT_FAILED n
           else h.bump F.PORT_TURNCNT_REFUSED n
  let h := (h.set F.TRF_SHPSTAT_DWLEFT (h.get F.TRF_SHPCFG_DWELL n) n).set F.TRF_SHPSTAT_STREAK 0 n
  h.rec1 prodShepherd 6 0x02 n (2 ^ 19 * status + 2 ^ 16 * h.get F.PORT_LMODE_CUR n)

/-! ## Lane turns (R84, R85) -/

/-- R84 allows a turn: ACTIVE, the child in TLOCK, and a valid delay at the parent. -/
def Hub.turnAllowed (h : Hub) (n : Nat) : Bool :=
  h.active n && h.flag F.PORT_TDLY_VALID n && (!h.isChild n || h.get F.TIME_STAT_STATE == 3)

/-- DLY of an LMGT block: the child's delay, 0 from the parent (Table 3-8). -/
def Hub.lmDly (h : Hub) (n : Nat) : Nat := if h.isChild n then h.dl n else 0

/-- The lanes that change direction between the present mode and a target, and whether this end is their new sender. -/
def Hub.turnLanes (h : Hub) (n target : Nat) : Nat × Bool :=
  let r := h.outPairs n
  let a := modeTx (h.get F.PORT_LMODE_CUR n) r
  let b := modeTx target r
  (union (without a b) (without b a), without b a != 0)

/-- PORT_LMODE.REQ is evaluated: it waits for a turn in flight to end; else a turn starts, or ends at once INVALID or NOTLOCKED
(R85, R88, Table 3-13). The turn ID counts from 0 to 15 and round again, for each port (log entry 63). -/
def Hub.evalReq (h : Hub) (n : Nat) : Hub :=
  let req := h.get F.PORT_LMODE_REQ n
  let l := h.lane n
  if l.turn.isSome then h.setLane n { l with waiting := true }
  else
    let h := h.setLane n { l with waiting := false }
    if req = h.get F.PORT_LMODE_CUR n ∨ h.flag F.PORT_LCTL_TURNLOCK n then h
    else if ¬ modeExists req (h.outPairs n) then h.turnEnd n 5
    else if ¬ h.turnAllowed n then h.turnEnd n 6
    else
      let x := (h.ridge + 3 * h.dl n + 64) % 2 ^ 64
      let tl := h.turnLanes n req
      let t : Turn := { id := l.turnId, x := x, target := req, from_ := h.get F.PORT_LMODE_CUR n, lanes := tl.1,
                        initiator := true, newSender := tl.2 }
      let h := h.setLane n { l with waiting := false, turn := some t, turnId := (l.turnId + 1) % 16 }
      let h := (h.set F.PORT_LMODE_BUSY 1 n).set F.PORT_LMODE_TURNID t.id n
      h.sendL0 n 3 (lmgtBlk lmREQ t.id req 0 (h.lmDly n) x)

/-- The state of a turn changed. -/
def Hub.setTurn (h : Hub) (n : Nat) (t : Turn) : Hub := h.setLane n { h.lane n with turn := some t }

/-- The first ridge time at or after now whose low 24 bits equal XTIME (Table 3-8). -/
def nextX (now x : Nat) : Nat := now + (x + 2 ^ 24 - now % 2 ^ 24) % 2 ^ 24

/-- The responder's answer to a REQ (R85). -/
def Hub.answerReq (h : Hub) (n : Nat) (k : Blk) : Hub :=
  let target := mirrorMode k.lmMode
  let x := nextX h.ridge k.lmX
  let tl := h.turnLanes n target
  let late := !tl.2 && decide (x - h.dl n < h.ridge)
  if h.flag F.PORT_LCTL_TURNLOCK n ∨ ¬ h.turnAllowed n ∨ ¬ modeExists target (h.outPairs n) ∨ late then
    h.sendL0 n 3 (lmgtBlk lmNAK k.lmId target 0 (h.lmDly n) k.lmX)
  else
    let h := h.sendL0 n 3 (lmgtBlk lmACK k.lmId target 0 (h.lmDly n) k.lmX)
    let h := (h.set F.PORT_LMODE_BUSY 1 n).set F.PORT_LMODE_TURNID k.lmId n
    h.setTurn n { id := k.lmId, x := x, target := target, from_ := h.get F.PORT_LMODE_CUR n, lanes := tl.1,
                  initiator := false, committed := true, newSender := tl.2 }

/-- A turn ends; a request of the partner that arrived meanwhile is answered, where the lanes are still there to answer on, and a
local one that waited is evaluated (R21, R88). -/
def Hub.turnOver (h : Hub) (n status : Nat) : Hub :=
  let h := h.turnEnd n status
  let l := h.lane n
  let h := match l.heldReq with
    | some k => (h.setLane n { l with heldReq := none }).when (h.active n) (fun h => h.answerReq n k)
    | none => h
  if l.waiting then h.evalReq n else h

end Sys2Proof.Machine
end

