-- ==== Sys2Proof/Machine/LinkOps.lean ====
section
/-! DEFINITION. Shared operations of the link layer and the lanes: sending a frame, its retention and its charge, the end of
a frame that fails, link down, replay, flush, and what takes the lanes to DETECT (spec/03_lanes.md, spec/04_link_layer.md). -/

namespace Sys2Proof.Machine

/-! ## Credit at the sender (R112) -/

/-- The class credit field of a class. -/
def crdField (c : Nat) : Fld :=
  match c with
  | 0 => F.PORT_CRDTX0_CRD0
  | 1 => F.PORT_CRDTX0_CRD1
  | 2 => F.PORT_CRDTX0_CRD2
  | 3 => F.PORT_CRDTX0_CRD3
  | 4 => F.PORT_CRDTX1_CRD4
  | 5 => F.PORT_CRDTX1_CRD5
  | 6 => F.PORT_CRDTX1_CRD6
  | _ => F.PORT_CRDTX1_CRD7

/-- Credit of a pool: class 0 to 7, or 8 for the shared pool. -/
def Hub.crd (h : Hub) (n p : Nat) : Nat := if p < 8 then h.get (crdField p) n else h.get F.PORT_CRDSH_CRSH n
def Hub.setCrd (h : Hub) (n p v : Nat) : Hub := if p < 8 then h.set (crdField p) v n else h.set F.PORT_CRDSH_CRSH v n

/-- eligible(f) of R112. -/
def Hub.creditOk (h : Hub) (n cls k : Nat) : Bool := decide (k ≤ h.crd n cls + h.crd n 8)

/-! ## Rates -/

/-- Payload rate of a port's transmit, and receive, direction in the lane mode and rate in force, in Mbit/s (Tables 3-1, 3-2). -/
def Hub.txRate (h : Hub) (n : Nat) : Nat :=
  if h.active n then popCount 4 (modeTx (h.get F.PORT_LMODE_CUR n) (h.outPairs n)) * laneRate (h.get F.PORT_LSTAT_RATE n) else 0
def Hub.rxRate (h : Hub) (n : Nat) : Nat :=
  if h.active n then popCount 4 (modeRx (h.get F.PORT_LMODE_CUR n) (h.outPairs n)) * laneRate (h.get F.PORT_LSTAT_RATE n) else 0

/-- Payload rate of the lanes that carry link blocks now. -/
def Hub.lineRate (h : Hub) (n : Nat) : Nat := popCount 4 (h.get F.PORT_LSTAT_TXMASK n) * laneRate (h.get F.PORT_LSTAT_RATE n)

/-- Payload rate of an egress point (R208). -/
def Hub.outRate (h : Hub) (e : Nat) : Nat := if e < 32 then h.txRate e else 252000

/-! ## Replay memory (R102) -/

/-- Bytes of replay memory in use. -/
def LinkSt.used (l : LinkSt) : Nat := l.ret.foldl (fun a r => a + wireBytes r.len) 0

/-- UNACKHI and RPLTMO brought up to date (Table 4-13, R108). -/
def Hub.lkTmo (h : Hub) (n : Nat) : Hub :=
  let p := if h.flag F.PORT_TDLY_VALID n then 2 * h.dl n + 64 else 1200
  (h.set F.PORT_LKTMO_UNACKHI ((h.link n).ret.length / 8) n).set F.PORT_LKTMO_RPLTMO p n

/-- The replay timer runs while any frame is unacknowledged; started now if it was not running (R108). -/
def Hub.rplRun (h : Hub) (n : Nat) : Hub :=
  let l := h.link n
  h.setLink n { l with rplAt := if l.ret = [] then none else match l.rplAt with | some t => some t | none => some h.now }

/-- A link frame's blocks after the SOF: the body padded to whole blocks (R95). -/
def padBody (b : Bytes) : Bytes := b ++ List.replicate (8 * ceilDiv b.length 8 - b.length) 0#8

/-- FCRC over the SOF block and the padded body (R99). -/
def fcrcOf (sof : Blk) (body : Bytes) : Nat := crc32 (beBytes 8 sof.toNat ++ padBody body)

/-- The SOF block sent for a frame, carrying the shared-credit count (R97, R114). -/
def Hub.sofBlk (h : Hub) (n seq cls shc len : Nat) : Blk :=
  LinkHdr.blk { kind := 0, seq := seq, cls := cls, shc := shc, len := len, crcls := 0, crshr := true,
                crcnt := (h.link n).count 8 }

/-- The data blocks of a body: 8 bytes each in byte order, the last padded with zero bytes (R95). -/
def bodyBlks (b : Bytes) : List Blk :=
  let p := padBody b
  (List.range (p.length / 8)).map (fun i => BitVec.ofNat 64 (beNat (sub p (8 * i) 8)))

/-- Data blocks of a body sent in the row slots of R68. -/
def Hub.sendBody (h : Hub) (n : Nat) (b : Bytes) : Hub := (bodyBlks b).foldl (fun g k => g.send n (.link false k)) h

/-- A link message on the lanes: SOF, 32 bytes, good trailer (R95, Table 4-2). -/
def Hub.putMsg (h : Hub) (n : Nat) (body : Bytes) : Hub :=
  let s := LinkHdr.blk { kind := 1, seq := 0, cls := 0, shc := 0, len := 32, crcls := 0, crshr := true,
                         crcnt := (h.link n).count 8 }
  ((h.sendCtl n s).sendBody n body).sendCtl n (trailerBlk true (fcrcOf s body))

/-- A link message sent, after the frame in transmission if there is one: frames are never interleaved (R96). -/
def Hub.sendMsg (h : Hub) (n : Nat) (body : Bytes) : Hub :=
  let l := h.link n
  if l.line.isSome then h.setLink n { l with msgs := l.msgs ++ [body] } else h.putMsg n body

/-- The link messages that waited for the end of a frame. -/
def Hub.sendMsgs (h : Hub) (n : Nat) : Hub :=
  let l := h.link n
  l.msgs.foldl (fun g b => g.putMsg n b) (h.setLink n { l with msgs := [] })

/-- The bytes of a frame as it leaves this hub on a port: HOPS decremented (R131), R set if promoted here (R132), and
nothing else changed. -/
def Frm.outBytes (f : Frm) : Bytes :=
  ({ f.hdr with hops := f.hdr.hops - 1, r := f.hdr.r || f.promoted } : THdr).bytes ++ f.data

/-- The frame that an egress point sends has been read to its end: at a port replay memory holds all of it, with its end code
(R100, R102); at E32 or E33 it reaches its function. -/
def Hub.readEnd (h : Hub) (e : Nat) (t : Tx) (f : Frm) (good : Bool) : Hub :=
  if e < 32 then
    let l := h.link e
    h.setLink e { l with ret := l.ret.map (fun r => if r.seq = t.seq then { r with full := true, bad := !good } else r) }
  else { h with core := { h.core with dels := h.core.dels ++ [(f, good, good || decide (0 < t.read))] } }

/-- What an egress point is sending goes on with the cells now in the kennel: they are read, at a port into replay memory, their
references drop, and after the last cell, or where the frame was cut short, the frame has been read to its end (R100, R205,
R210). -/
def Hub.pump (h : Hub) (e : Nat) : Hub :=
  match h.tx e with
  | none => h
  | some t =>
    if t.fin then h
    else match h.frm t.id with
    | none => h
    | some f =>
      let have_ := f.cells.length
      let poisoned := ((f.cells.drop t.read).any (·.poisoned)) && !f.bad
      let h := if poisoned then (h.setFrm t.id { f with bad := true }).bump F.CORE_DROPCNT1_MARKED else h
      let bad := f.bad || poisoned || f.endBad
      let lo := t.read * 256
      let hi := min f.len (have_ * 256)
      let bytes := ((if e < 32 then f.outBytes else []).drop lo).take (hi - lo)
      let l := h.link e
      let h := if e < 32 ∧ bytes ≠ [] then
          h.setLink e { l with ret := l.ret.map (fun r => if r.seq = t.seq then { r with body := r.body ++ bytes } else r) }
        else h
      let h := h.dropRefs t.id t.read have_
      if f.cut || (f.ended.isSome && have_ == f.n) then
        let h := (h.setTx e (some { t with read := have_, fin := true })).readEnd e t f (!bad && f.ended == some true)
        match h.frm t.id with
        | some f => (h.setFrm t.id { f with copies := f.copies.erase t.q }).gone t.id
        | none => h
      else h.setTx e (some { t with read := have_ })

/-- The head frame of a queue starts at its egress (R222): at a port it takes the next sequence number, is charged credit
and retained, and its SOF leaves (R102, R112); then what is in the kennel is read, and follows tick by tick (`Hub.frameTick`). -/
def Hub.startFrame (h : Hub) (e q i : Nat) : Hub :=
  match h.frm i with
  | none => h
  | some f =>
    let h := h.setQueue q ((h.queue q).erase i)
    let h := if f.ended.isSome then h.bump F.CORE_CTCNT_STORED else h.bump F.CORE_CTCNT_CUT
    -- a packet of its entry is sent in this window (R153)
    let h := match f.tun with
      | some t => if f.hdr.p then h.setTun t { h.tun t with sentPkt := true } else h
      | none => h
    if e < 32 then
      let c := f.hdr.cls
      let d := min f.n (h.crd e c)
      let shc := f.n - d
      let h := (h.setCrd e c (h.crd e c - d)).setCrd e 8 (h.crd e 8 - shc)
      let seq := h.get F.PORT_LKSEQ_TXNEXT e
      let h := h.set F.PORT_LKSEQ_TXNEXT (seq + 1) e
      let l := h.link e
      let sof := h.sofBlk e seq c shc f.len
      let h := (h.setLink e { l with ret := l.ret ++ [{ seq := seq, cls := c, len := f.len, body := [], ded := d, shc := shc,
                                                        full := false, bad := false, sof := sof }],
                                     sent := Tab.set 0 l.sent 8 h.now,
                                     line := some { seq := seq } }).sendCtl e sof
      let h := (h.rplRun e).lkTmo e
      (h.setTx e (some { id := i, q := q, until_ := h.now, seq := seq })).pump e
    else
      (h.setTx e (some { id := i, q := q, until_ := h.now + wireTicks (wireBytes f.len) 252000 })).pump e

/-! ## Frames that fail at their end (R204, R209, R210) -/

/-- A frame's end fails (R204, R209), or a loss cuts it short (`cut`): a frame that has not started is unlinked and freed and counted
in ENDFAIL; a started one is marked bad and closed with a bad end code. -/
def Hub.failFrame (h : Hub) (i : Nat) (cut : Bool) : Hub :=
  match h.frm i with
  | none => h
  | some f =>
    let f := { f with ended := some false, cut := cut }
    let st := h.startedIn i
    match f.phase with
    | .dropped => (h.setFrm i f).gone i
    | .accepted =>
      let rest := f.copies.filter (fun q => !st.contains q)
      let h := (h.setFrm i { f with bad := f.bad || st != [], copies := f.copies.filter (fun q => st.contains q), waiting := [] })
      let h := h.each rest (fun q g => g.setQueue q ((g.queue q).erase i))
      let h := h.each (rest ++ f.waiting) (fun _ g => g.dropRefs i 0 f.cells.length)
      if st = [] then (h.bump F.CORE_DROPCNT1_ENDFAIL).gone i
      else
        let h := h.bump F.CORE_DROPCNT1_MARKED
        let h := if cut then (h.leave i (f.n - f.left)).setStage f.key ((h.stage f.key).erase i) else h
        h.each (st.map (· / 8)) (fun e g => g.pump e)
    | _ => ((h.setFrm i f).bump F.CORE_DROPCNT1_ENDFAIL).dropStaged i

/-- The open receive frame of a port ends as failed (R56, R101). -/
def Hub.failOpen (h : Hub) (n : Nat) (cut : Bool) : Hub :=
  let l := h.link n
  match l.rx with
  | none => h
  | some r =>
    let h := h.setLink n { l with rx := none }
    if r.staged then
      if 2 ≤ r.blocks then h.failFrame r.id cut
      else
        -- the header had not come whole: its cells still count back (R114)
        let k := cellsOf r.sof.sof.len
        let d := k - r.sof.sof.shc
        ((h.creditBack n r.sof.sof.cls d).creditBack n 8 (k - d)).bump F.CORE_DROPCNT1_ENDFAIL
    else h

/-! ## Link down and training restart -/

/-- Why a link goes down: the cause of the LINK DOWN record (Table 17-2). -/
def causeLanes : Nat := 1
def causeHeartbeat : Nat := 2
def causeReplay : Nat := 3
def causeEpoch : Nat := 4

/-- The link goes from UP, or INIT, to DOWN (R119, Table 4-9): the open frame fails, the hold time starts, state that can
be resumed is kept with the partner's EPOCH, a transmission is cut, protected paths over the port fail over (R158). -/
def Hub.linkDown (h : Hub) (n cause : Nat) : Hub :=
  let st := h.get F.PORT_LKSTAT_STATE n
  if st = 0 then h
  else if st = 1 then h.set F.PORT_LKSTAT_STATE 0 n
  else
    let h := (h.set F.PORT_LKSTAT_STATE 0 n).set F.PORT_LKSTAT_NAKWAIT 0 n
    let h := (h.set F.PORT_LKSTAT_TXIDLE 0 n).set F.PORT_LKSTAT_RXIDLE 0 n
    let h := h.failOpen n true
    let l := h.link n
    let h := h.setLink n { l with downAt := some h.now, kept := some (h.get F.PORT_LKSTAT_PEPOCH n), rplAt := none, polls := 0, replay := [],
                                  skip := false, wait := [], line := none, msgs := [], ackAt := none }
    let h := (h.bump F.PORT_LKDOWN_DOWN n).rec1 n 4 0x01 n (2 ^ 20 * cause)
    h.portFailover n

/-- Retained frames are discarded: counted in FLUSHED, and, where there was one, in FLUSH with one LINK FLUSH record
(R120). -/
def Hub.flush (h : Hub) (n : Nat) : Hub :=
  let l := h.link n
  let k := l.ret.length
  let h := h.setLink n { l with ret := [], replay := [], rplAt := none, kept := none }
  let h := h.bump F.PORT_LKDROP_FLUSHED n k
  let h := if 0 < k then (h.bump F.PORT_LKDOWN_FLUSH n).rec1 n 4 0x03 n (min k 0xFFFF) else h
  h.lkTmo n

/-- A loopback ends at this end: its joins are undone and the pattern generators stop (R90, R91). -/
def Hub.loopEnd (h : Hub) (n : Nat) : Hub :=
  let l := h.lane n
  let h := h.setLane n { l with gen := 0, chk := 0, joined := false, retime := false }
  let h := (bitList 4 0 l.gen).foldl (fun g m => g.emit (.pattern n m [])) h
  if l.joined then h.emit (.loop n false []) else h

/-- The lanes leave whatever they did: every lane unlocked, no link block sent or received. A REQ of the partner that waits is gone
with the lanes that would carry its answer. -/
def Hub.clearLanes (h : Hub) (n : Nat) : Hub :=
  let h := h.loopEnd n
  let l := h.lane n
  let h := h.setLane n { l with since := h.now, lock := 0, ctl := none, ts1 := [], ts2 := 0, ts2From := none, retuned := false,
                                phase := 0, done := 0, eqIdle := none, rxOk := 0, ask := [], readyRx := false, rec_ := [],
                                turn := none, heldReq := none, reqSeen := none, burst := 0, slot := 0, taken := [] }
  let h := ((h.set F.PORT_LSTAT_TXMASK 0 n).set F.PORT_LSTAT_RXMASK 0 n).set F.PORT_LSTAT_RECOV 0 n
  (h.set F.PORT_LSTAT_RATE 0 n).set F.PORT_LSTAT_ROLE (h.tsRole n) n

/-- The lanes are disabled: transmitters off, receivers squelched (R70). -/
def Hub.toDisabled (h : Hub) (n : Nat) : Hub :=
  ((h.clearLanes n).set F.PORT_LSTAT_STATE 0 n).emit (.off n 15)

/-- The lanes start training from DETECT: the scramblers of the transmit lanes are seeded (R64), and training groups sent at NRZ on
L0 and L1 (R70). A port that FAB_PORTCFG has turned OFF meanwhile is not trained again, and PORT_LCTL.EN is held at 0 (Table 6-1,
R175). -/
def Hub.toDetect (h : Hub) (n : Nat) : Hub :=
  if h.role n = 5 then (h.set F.PORT_LCTL_EN 0 n).toDisabled n
  else
    let h := (h.clearLanes n).set F.PORT_LSTAT_STATE 1 n
    let l := h.lane n
    let h := h.setLane n { l with scr := [0, 1].foldl (fun t m => Tab.set 0 t m (scrSeed m)) l.scr }
    h.groups n 3 0 btTS1 (h.ownTs n)

/-- The lanes leave ACTIVE for what `f` does: a turn in flight is abandoned (R88) and the link goes down with `cause`; then a request
that waited for the turn is evaluated (R21). -/
def Hub.leaveActive (h : Hub) (n cause : Nat) (f : Hub → Hub) : Hub :=
  let h := if (h.lane n).turn.isSome then h.turnEnd n 3 else h
  let h := f (h.linkDown n cause)
  if (h.lane n).waiting then h.evalReq n else h

/-- The lanes leave ACTIVE and training starts again from DETECT. -/
def Hub.dropLanes (h : Hub) (n cause : Nat) : Hub := h.leaveActive n cause (fun h => h.toDetect n)

/-- A lasting link fault (R116): link down and full training; the third within a second lowers the fallback ceiling. At rate 0 there
is no lower one: the drop is counted all the same (log entry 64). -/
def Hub.linkFault (h : Hub) (n cause : Nat) : Hub :=
  let l := h.link n
  let fs := h.now :: l.faults.filter (fun t => h.now < t + 200000000)
  let h := if 3 ≤ fs.length then
      let a := h.lane n
      let h := (h.setLink n { l with faults := [] })
      (h.setLane n { a with ceil := a.ceil - 1 }).bump F.PORT_TRCNT_RATEDOWN n
    else h.setLink n { l with faults := fs }
  h.dropLanes n cause

/-! ## Replay (R109, R113) -/

/-- The next frame of a replay starts once no frame is on the line and its class and shared counters hold what its first send was
charged; one released meanwhile is passed over. -/
def Hub.replayOn (h : Hub) (n : Nat) : Hub :=
  let l := h.link n
  let left := l.replay.filter (fun s => l.ret.any (fun r => r.seq = s))
  match left.head?.bind (fun s => l.ret.find? (fun r => r.seq = s)) with
  | none => h.setLink n { l with replay := left }
  | some r =>
    if l.line.isNone ∧ r.ded ≤ h.crd n r.cls ∧ r.shc ≤ h.crd n 8 then
      let h := (h.setCrd n r.cls (h.crd n r.cls - r.ded)).setCrd n 8 (h.crd n 8 - r.shc)
      let sof := h.sofBlk n r.seq r.cls r.shc r.len
      let h := h.setLink n { l with replay := left.tail, line := some { seq := r.seq },
                                    ret := l.ret.map (fun x => if x.seq = r.seq then { x with sof := sof } else x) }
      h.sendCtl n sof
    else h.setLink n { l with replay := left }

/-- The link frame in transmission on a port is closed at once with EOFB and the complement of the FCRC over what was sent
(R109). -/
def Hub.abortTx (h : Hub) (n : Nat) : Hub :=
  let l := h.link n
  match l.line with
  | some x =>
    let h := h.setLink n { l with line := none }
    (match l.ret.find? (fun r => r.seq = x.seq) with
    | some r => h.sendCtl n (trailerBlk false (fcrcOf r.sof ((padBody r.body).take (8 * x.sent)) ^^^ 0xFFFFFFFF))
    | none => h)
  | none => h

/-- Sequence numbers from `a` to the newest retained. -/
def LinkSt.from_ (l : LinkSt) (a : Nat) : List Nat :=
  (l.ret.filter (fun r => (r.seq + 4096 - a) % 4096 < 2048)).map (·.seq)

/-- A replay from sequence `s` (R109): charges of the frames after `s`, and of `s` where it was not staged, are refunded
(R113), and every retained frame from `s` is sent again. -/
def Hub.replayFrom (h : Hub) (n s : Nat) (staged : Bool) : Hub :=
  let h := h.abortTx n
  let l := h.link n
  let back := l.ret.filter (fun r => let d := (r.seq + 4096 - s) % 4096; d < 2048 && (0 < d || !staged) && !l.replay.contains r.seq)
  let h := back.foldl (fun g r => (g.setCrd n r.cls (g.crd n r.cls + r.ded)).setCrd n 8 (g.crd n 8 + r.shc)) h
  let h := h.setLink n { h.link n with replay := l.from_ s, replayed := some s }
  ((h.bump F.PORT_LKRPL_REPLAY n).sendMsgs n).replayOn n

/-- Retained frames up to and including ASEQ are released (R105); the replay timer restarts where that advances the
oldest. -/
def Hub.release_ (h : Hub) (n aseq : Nat) : Hub :=
  let l := h.link n
  let keep := l.ret.filter (fun r => 0 < (r.seq + 4096 - aseq) % 4096 && (r.seq + 4096 - aseq) % 4096 < 2048)
  let moved := keep.length < l.ret.length
  let h := h.setLink n { l with ret := keep,
                                replay := l.replay.filter (fun s => keep.any (fun r => r.seq = s)),
                                rplAt := if keep = [] then none else if moved then some h.now else l.rplAt,
                                nakSeq := if moved then none else l.nakSeq, nakN := if moved then 0 else l.nakN,
                                replayed := if moved then none else l.replayed, polls := 0, ansAt := some h.now }
  h.lkTmo n

/-! ## What the ticks bring on a port -/

/-- NEXT of a port's receiver; ASEQ = NEXT - 1 (R103, R105). -/
def Hub.rxNext (h : Hub) (n : Nat) : Nat := h.get F.PORT_LKSEQ_RXNEXT n
def Hub.aseq (h : Hub) (n : Nat) : Nat := (h.rxNext n + 4095) % 4096

/-- Body blocks of a retained frame that are in replay memory. -/
def Ret.blks (r : Ret) : Nat := if r.full then ceilDiv r.body.length 8 else r.body.length / 8

/-- The frame on the line goes on for one tick: as many body blocks as the lanes' payload carried since its SOF and replay memory
holds, then its trailer, with its end code and FCRC (R95, R99, R100); messages and the replay that waited for its end follow. -/
def Hub.frameTick (h : Hub) (n : Nat) : Hub :=
  let l := h.link n
  match l.line with
  | none => h
  | some x =>
    if h.flag F.PORT_LKSTAT_TXIDLE n then h
    else match l.ret.find? (fun r => r.seq = x.seq) with
    | none => h.setLink n { l with line := none }
    | some r =>
      let acc := x.acc + 5 * h.lineRate n
      let k := max x.sent (min r.blks (acc / 64000 - 1))
      let full := r.full && k == r.blks && decide ((k + 2) * 64000 ≤ acc)
      let line : Line := { x with sent := k, acc := min acc ((k + 2) * 64000) }
      let h := h.setLink n { l with line := some line }
      let h := h.sendBody n ((r.body.drop (8 * x.sent)).take (8 * (k - x.sent)))
      if full then
        let h := h.sendCtl n (trailerBlk (!r.bad) (fcrcOf r.sof r.body))
        let h := h.setLink n { h.link n with line := none }
        (h.sendMsgs n).replayOn n
      else h

/-- The ACK owed to the partner goes out at the latest 4 ticks after the first frame it covers (R105). -/
def Hub.ackTick (h : Hub) (n : Nat) : Hub :=
  if h.linkUp n ∧ h.due (h.link n).ackAt then
    (h.setLink n { h.link n with ackAt := none }).sendLcb n 1 (h.aseq n) false false 8
  else h

end Sys2Proof.Machine
end

