-- ==== Sys2Proof/Machine/FabOps.lean ====
section
/-! DEFINITION. Shared operations of fabric assembly: the messages of Table 6-2, joining, settling and readiness
(R171, R185 to R188), and a port set to ROLEERR (R164, R167). -/

namespace Sys2Proof.Machine

/-! ## Messages (Table 6-2) -/

/-- MOP codes of the fabric-assembly messages. -/
def mopHello : Nat := 0x10
def mopDlg : Nat := 0x11
def mopDlgack : Nat := 0x12
def mopReady : Nat := 0x13
def mopSiteready : Nat := 0x14
/-- Heartbeats (Table 5-5). -/
def mopPhb : Nat := 0x20
def mopPack : Nat := 0x21

/-- A link-local message: DHUB 0xFFFF, HOPS 1, sent on port `n` in class C7 (R169). -/
def Hub.fabSend (h : Hub) (n : Nat) (payload : Nat) : Hub :=
  let hd : THdr := { dhub := 0xFFFF, dtun := 0, shub := h.myId, stun := 0, type := 0, cls := 7, hops := 1, plen := 32 }
  let r := h.newFrame hd.seal (beBytes 32 payload) 33 none .none
  r.2.routed_ r.1 [n * 8 + 7]

/-- HELLO sent on a port (R171). -/
def Hub.hello (h : Hub) (n : Nat) : Hub :=
  h.fabSend n (pack [(8, mopHello), (8, 1), (16, h.get F.FAB_CTL_SITEID), (4, 0), (1, h.get F.FAB_ID_VALID),
    (1, h.get F.FAB_ID_SUMMIT), (3, h.role n), (5, n), (2, 0), (16, h.get F.FAB_ID_HUBID), (5, h.get F.FAB_ID_LEN),
    (4, h.get F.FAB_ID_DEPTH), (183, 0)])

/-- HELLO on every link that is UP, after a change of ID, role or depth (R171). -/
def Hub.helloAll (h : Hub) : Hub := h.each (ports.filter (fun n => h.linkUp n)) (fun n g => g.hello n)

/-- HELLO on every UP link on which the resolved role is no longer `old` (R171). -/
def Hub.helloRoles (h : Hub) (old : Nat → Nat) : Hub :=
  h.each (ports.filter (fun n => h.linkUp n && h.role n != old n)) (fun n g => g.hello n)

/-- DLG of an offer (base, len, depth). -/
def Hub.dlgMsg (h : Hub) (n : Nat) (o : Nat × Nat × Nat) : Hub :=
  h.fabSend n (pack [(8, mopDlg), (8, 1), (16, h.get F.FAB_CTL_SITEID), (16, o.1), (5, o.2.1), (4, o.2.2), (199, 0)])

/-- DLGACK. -/
def Hub.dlgackMsg (h : Hub) (n result base len : Nat) : Hub :=
  h.fabSend n (pack [(8, mopDlgack), (8, 1), (16, h.get F.FAB_CTL_SITEID), (4, result), (12, 0), (16, base), (5, len),
    (187, 0)])

/-- READY or SITEREADY payload. -/
def readyPayload (mop site nready nfail rtime : Nat) : Nat :=
  pack [(8, mop), (8, 1), (16, site), (17, nready), (15, 0), (17, nfail), (47, 0), (64, rtime), (64, 0)]

/-! ## Counts and readiness (R185 to R188) -/

/-- The DOWN ports that a start waits for: role DOWN and not SECDOWN (R187). -/
def Hub.downPorts (h : Hub) : List Nat := ports.filter (fun n => h.role n == 1 && h.get F.FAB_PORTSTAT_STATE n != 9)

/-- A port that has settled FAILED: by its timeout, DLGERR or ROLEERR (R186). -/
def Hub.portFailed (h : Hub) (n : Nat) : Bool := (h.fabp n).outcome == 5

/-- NREADY: this node and every node of which a READY came (R187). -/
def Hub.nReady (h : Hub) : Nat := h.downPorts.foldl (fun a n => a + (h.fabp n).nready) 1

/-- NFAIL: own FAILED ports and those received. -/
def Hub.nFail (h : Hub) : Nat := h.downPorts.foldl (fun a n => a + (h.fabp n).nfail + b2n (h.portFailed n)) 0

/-- FAB_SITE.NREADY and FAB_SITEFAIL brought up to date. At a hub other than the summit, once site ready was received the
counts of its subtree stay (Table 6-11). -/
def Hub.siteCounts (h : Hub) : Hub :=
  (h.set F.FAB_SITE_NREADY (if h.flag F.FAB_SITE_JOINED then h.nReady else 0)).set F.FAB_SITEFAIL_NFAIL h.nFail

/-- READY on the primary uplink with the present counts (R187). -/
def Hub.sendReady (h : Hub) : Hub :=
  match h.portOfRole 2 with
  | some n => if h.linkUp n then
      h.fabSend n (readyPayload mopReady (h.get F.FAB_CTL_SITEID) h.nReady h.nFail 0) else h
  | none => h

/-- The record of site ready or of updated counts, to S0's stream (Tables 17-2, 17-3). -/
def Hub.siteRecord (h : Hub) (code : Nat) : Hub :=
  h.rec2 (prodSlice 0) 4 code srcHub 0 (2 ^ 17 * h.nFail + h.nReady)

/-- A ready node tells so: READY at a hub below the summit; at the summit site ready is declared once, and later counts
are recorded (R187, R188). -/
def Hub.tellReady (h : Hub) : Hub :=
  let h := h.siteCounts
  if h.flag F.TIME_CTL_SUMMIT then
    if h.flag F.FAB_SITE_SREADY then h.siteRecord 0x06
    else
      let t := h.ridge
      let h := ((h.set F.FAB_SITE_SREADY 1).set64 F.FAB_SRTIME_LO_SRT_LO F.FAB_SRTIME_HI_SRT_HI t).siteRecord 0x05
      h.mgmtFrame 0 31 7 true (beBytes 32 (readyPayload mopSiteready (h.get F.FAB_CTL_SITEID) h.nReady h.nFail t))
  else h.sendReady

/-- A node is ready when it has joined, has started, and every DOWN port has settled (R185). -/
def Hub.readyCheck (h : Hub) : Hub :=
  let h := h.siteCounts
  if h.flag F.FAB_SITE_READY ∨ ¬ h.flag F.FAB_SITE_JOINED ∨ h.fab.startAt.isNone then h
  else if h.downPorts.all (fun n => (h.fabp n).outcome != 0) then (h.set F.FAB_SITE_READY 1).tellReady
  else h

/-- How a port in a state settles: FAILED where DLGERR or ROLEERR is set (R186). -/
def settleOf (state : Nat) : Nat := if state = 6 ∨ state = 7 then 5 else state

/-- A port may settle now: once during a start, and again after readiness (R186). -/
def Hub.maySettle (h : Hub) (n : Nat) : Bool :=
  h.fab.startAt.isSome && ((h.fabp n).outcome == 0 || h.flag F.FAB_SITE_READY)

/-- A port settles in a state, a FAILED one counted; after readiness every later settlement is reported (R186, R187). -/
def Hub.settle (h : Hub) (n state : Nat) : Hub :=
  let ok := h.maySettle n
  let h := h.set F.FAB_PORTSTAT_STATE state n
  if ok then
    let h := h.setFabp n { h.fabp n with outcome := settleOf state }
    let h := if settleOf state = 5 then h.bump F.FAB_ASMCNT_FAILED else h
    if h.flag F.FAB_SITE_READY then h.tellReady else h.readyCheck
  else h.siteCounts

/-- The seating pins and the partner's pull-down are seen (R186). -/
def Hub.partnerSeen (h : Hub) (n : Nat) : Bool :=
  h.flag F.PORT_PPSTAT_SEATA n && h.flag F.PORT_PPSTAT_SEATB n && h.flag F.PORT_PPSTAT_PD n

/-- A later joining begins: a partner is inserted at a DOWN port that stands EMPTY after the start, and PORTTMO runs from now
(R186, log entry 67). -/
def Hub.fabSeen (h : Hub) (n : Nat) : Hub :=
  if h.fab.startAt.isSome ∧ h.role n = 1 ∧ h.get F.FAB_PORTSTAT_STATE n = 1 ∧ h.partnerSeen n then
    (h.set F.FAB_PORTSTAT_STATE 2 n).setFabp n { h.fabp n with group := some h.now }
  else h

/-- The hub starts its DOWN ports: those without a partner settle EMPTY at once, those of which a READY has come, or that have
failed, settle so, and the others wait (R185, R186). -/
def Hub.startCheck (h : Hub) : Hub :=
  if ¬ h.flag F.FAB_SITE_JOINED ∨ ¬ h.flag F.FAB_CTL_START ∨ h.fab.startAt.isSome then h
  else
    let h := { h with fab := { h.fab with startAt := some h.now } }
    let h := h.each h.downPorts (fun n g =>
      let st := g.get F.FAB_PORTSTAT_STATE n
      if ¬ g.partnerSeen n then (g.set F.FAB_PORTSTAT_STATE 1 n).setFabp n { g.fabp n with outcome := 1 }
      else if st = 4 ∨ st = 6 ∨ st = 7 then
        let g := g.setFabp n { g.fabp n with outcome := settleOf st }
        if st = 4 then g else g.bump F.FAB_ASMCNT_FAILED
      else if st = 3 then g
      else g.set F.FAB_PORTSTAT_STATE 2 n)
    h.readyCheck

/-- A node joins when it holds its range in TLOCK, or is the summit with START set (R185). -/
def Hub.joinCheck (h : Hub) : Hub :=
  let now_ := if h.flag F.TIME_CTL_SUMMIT then h.flag F.FAB_CTL_START
              else h.flag F.FAB_ID_VALID && h.get F.TIME_STAT_STATE == 3
  let h := if now_ then h.set F.FAB_SITE_JOINED 1 else h
  h.startCheck.siteCounts

/-- A port loses its partner: a waiting or settled DOWN port settles EMPTY (R186); one that was the partner's secondary uplink was not
awaited. -/
def Hub.fabLoss (h : Hub) (n : Nat) : Hub :=
  let st := h.get F.FAB_PORTSTAT_STATE n
  if h.role n = 1 ∧ h.fab.startAt.isSome ∧ st ≠ 1 then
    let h := h.setFabp n { h.fabp n with nready := 0, nfail := 0, await := false }
    if st = 9 then (h.set F.FAB_PORTSTAT_STATE 1 n).setFabp n { h.fabp n with outcome := 1 } else h.settle n 1
  else h

/-- A FAILED settlement, reported with the last result (R186). -/
def Hub.fabFailed (h : Hub) (n : Nat) : Hub :=
  let h := if h.maySettle n then h.fault0 0x09 n (3 * 16 + h.get F.FAB_PORTSTAT_RESULT n) else h
  h.settle n 5

/-- A port set to DLGERR with a result (R172 to R174): counted, recorded, settled FAILED (R186). -/
def Hub.dlgErr (h : Hub) (n result : Nat) : Hub :=
  let h := (h.set F.FAB_PORTSTAT_RESULT result n).bump F.FAB_ASMCNT_DLGERR
  let h := (h.fault0 0x09 n (1 * 16 + result)).setFabp n { h.fabp n with await := false }
  h.settle n 6

/-- A port set to ROLEERR: the link goes down and the port stays out of service until its FAB_PORTCFG is written
(R164, R167). Only a DOWN port settles (R186). -/
def Hub.roleErr (h : Hub) (n : Nat) : Hub :=
  let down := h.role n == 1
  let h := (h.bump F.FAB_ASMCNT_ROLEERR).fault0 0x09 n (2 * 16)
  let h := h.setFabp n { h.fabp n with barred := true, await := false }
  let h := if (h.lane n).turn.isSome then h.turnEnd n 3 else h
  let h := (h.linkDown n causeLanes).toDisabled n
  if down then h.settle n 7 else h.set F.FAB_PORTSTAT_STATE 7 n

/-! ## Time lock reaches the other chapters -/

/-- The child reports its delay with LMGT DREP (R84). -/
def Hub.drep (h : Hub) (n : Nat) : Hub :=
  if h.isChild n ∧ h.active n ∧ h.flag F.PORT_TDLY_VALID n then
    let d := h.dl n
    (h.sendL0 n 1 (lmgtBlk lmDREP 0 0 0 d 0)).setTp n { h.tp n with drep := some d }
  else h

end Sys2Proof.Machine
end

