-- ==== Sys2Proof/Machine/RingOps.lean ====
section
/-! DEFINITION. Access to the rings and what E32 can take: the context of a ring, the PASID of a slice, ownership, and the
posted buffer space of a receive ring (spec/09_host_rings.md, spec/10_slices.md). -/

namespace Sys2Proof.Machine

def Hub.ring (h : Hub) (r : Nat) : RingSt := Tab.get {} h.hif.rings r
def Hub.setRing (h : Hub) (r : Nat) (x : RingSt) : Hub :=
  { h with hif := { h.hif with rings := Tab.set {} h.hif.rings r x } }
def Hub.pipe (h : Hub) (d : Nat) : PipeSt := Tab.get {} h.ras.pipes d
def Hub.setPipe (h : Hub) (d : Nat) (x : PipeSt) : Hub := { h with ras := { h.ras with pipes := Tab.set {} h.ras.pipes d x } }
def PipeSt.layer (x : PipeSt) (l : Nat) : RLayer := Tab.get {} x.layers l
def PipeSt.setLayer (x : PipeSt) (l : Nat) (y : RLayer) : PipeSt := { x with layers := Tab.set {} x.layers l y }
def Hub.win (h : Hub) (w : Nat) : WinSt := Tab.get {} h.hif.wins w
def Hub.setWin (h : Hub) (w : Nat) (x : WinSt) : Hub :=
  { h with hif := { h.hif with wins := Tab.set {} h.hif.wins w x } }

/-! ## Host memory (R247, R250) -/

/-- A range cut at the multiples of `m` of its addresses: pieces of address and length. -/
def cutAt (m : Nat) : Nat → Nat → Nat → List (Nat × Nat)
  | 0, _, _ => []
  | k + 1, a, n =>
    let j := min n (m - a % m)
    if n = 0 then [] else (a, j) :: cutAt m k (a + j) (n - j)

/-- The pieces of a range of `n` bytes at `a`, cut at the 4 KiB boundaries of its addresses (R268, R300). -/
def pagesOf (a n : Nat) : List (Nat × Nat) := cutAt 4096 (n / 4096 + 2) a n

/-- Posted writes of a range under a PASID: of at most 512 bytes each, cut at the multiples of 512 (Table 9-1, log entry 68). -/
def Hub.hostWrite (h : Hub) (pasid addr : Nat) (bytes : Bytes) : Hub :=
  (cutAt 512 (bytes.length / 512 + 2) addr bytes.length).foldl (fun g p =>
    g.emit (.hostWrite pasid p.1 (sub bytes (p.1 - addr) p.2))) h

/-- A BAR4 read completes to the host, in completions of at most 512 bytes (R300), cut as the writes are (log entry 68). -/
def Hub.bar4Done (h : Hub) (id addr : Nat) (bytes : Bytes) : Hub :=
  (cutAt 512 (bytes.length / 512 + 2) addr bytes.length).foldl (fun g p => g.emit (.bar4Data id (sub bytes (p.1 - addr) p.2))) h

/-- Reads that wait are issued in order while fewer than 512 are outstanding (Table 9-1). -/
def Hub.issueReads (h : Hub) : Hub :=
  let k := 512 - h.hif.reads.length
  let l := h.hif.readQ.take k
  l.foldl (fun g q => g.emit (.hostRead q.pasid q.addr q.len))
    { h with hif := { h.hif with reads := h.hif.reads ++ l, readQ := h.hif.readQ.drop k } }

/-- A fetch of a range under a PASID: read requests of at most 4,096 bytes that cross no 4 KiB boundary (Table 9-1). -/
def Hub.hostRead (h : Hub) (who : ReadFor) (pasid addr len : Nat) : Hub :=
  let l := (pagesOf addr len).map (fun p => ({ fetch := h.hif.nextFetch, who := who, pasid := pasid, addr := p.1, len := p.2 } : HostRd))
  { h with hif := { h.hif with readQ := h.hif.readQ ++ l, nextFetch := h.hif.nextFetch + 1 } }.issueReads

/-- The oldest read outstanding of those chosen. -/
def Hub.oldestRead (h : Hub) (p : ReadFor → Bool) : Option HostRd := h.hif.reads.find? (fun q => p q.who)

/-- Bytes of a fetch that are outstanding. -/
def Hub.fetchDue (h : Hub) (k : Nat) : Nat := h.hif.reads.foldl (fun n q => if q.fetch = k then n + q.len else n) 0

/-- `n` bytes of a fetch come, for its reads in order. -/
def consume (k : Nat) : Nat → List HostRd → List HostRd
  | _, [] => []
  | n, q :: l =>
    if q.fetch ≠ k then q :: consume k n l
    else if q.len ≤ n then consume k (n - q.len) l
    else { q with addr := q.addr + n, len := q.len - n } :: l

/-- Bytes of a fetch have arrived. -/
def Hub.fetchTake (h : Hub) (k n : Nat) : Hub := { h with hif := { h.hif with reads := consume k n h.hif.reads } }.issueReads

/-- A fetch has ended, whole or by an error. -/
def Hub.fetchEnd (h : Hub) (k : Nat) : Hub :=
  { h with hif := { h.hif with reads := h.hif.reads.filter (fun q => q.fetch ≠ k), readQ := h.hif.readQ.filter (fun q => q.fetch ≠ k) } }.issueReads

/-- Reads that are of no more use: those that wait are not made, and what the others bring is discarded (R278, R331, R336). -/
def Hub.dropReads (h : Hub) (p : ReadFor → Bool) : Hub :=
  { h with hif := { h.hif with reads := h.hif.reads.map (fun q => if p q.who then { q with dead := true } else q),
                               readQ := h.hif.readQ.filter (fun q => !p q.who) } }

/-- Reads of a ring's descriptors, and of the data of its descriptors, of one slot or of all with what it sends again. -/
def ofDescs (r : Nat) : ReadFor → Bool
  | .desc a _ => a == r
  | _ => false
def ofData (r : Nat) (slot : Option Nat) : ReadFor → Bool
  | .data a b => a == r && (slot.isNone || slot == some b)
  | .resend a _ _ => a == r && slot.isNone
  | _ => false
def ofLine (d l : Nat) : ReadFor → Bool
  | .line a b => a == d && b == l
  | _ => false

/-- Ring states (Table 9-21). -/
def rIDLE : Nat := 0
def rRUN : Nat := 1
def rRESETTING : Nat := 2
def rERROR : Nat := 3

/-- Ring kinds (Table 9-4). -/
def kTX : Nat := 0
def kRX : Nat := 1
def kFLIP : Nat := 2
def kBLK : Nat := 3
def kPERI : Nat := 4
def kEVT : Nat := 5

def Hub.rState (h : Hub) (r : Nat) : Nat := h.get F.RCTX0_STATE r
def Hub.rKind (h : Hub) (r : Nat) : Nat := h.get F.RCTX0_KIND r
def Hub.rSlice (h : Hub) (r : Nat) : Nat := h.get F.RCTX0_SLICE r
def Hub.rRemote (h : Hub) (r : Nat) : Bool := h.flag F.RCTX0_REMOTE r

/-- N of a ring (R253). -/
def Hub.rN (h : Hub) (r : Nat) : Nat := 2 ^ h.get F.RCTX0_LOG2N r

/-- A slice is bound (R284). -/
def Hub.bound (h : Hub) (s : Nat) : Bool := h.flag F.SLC_BIND_VALID s
def Hub.pasid (h : Hub) (s : Nat) : Nat := h.get F.SLC_BIND_PASID s

/-- A slice is being reset (Table 10-6). -/
def Hub.resetting (h : Hub) (s : Nat) : Bool := h.get F.SLC_STAT_STATE s == 2

/-- Slice of element `i` of an owner array, whose words hold four each (Table 10-11). -/
def Hub.ownerOf (h : Hub) (f : Fld) (i : Nat) : Nat := (h.reg (f.addr (i / 4) 0)).bits (i % 4 * 8) 7

def Hub.pipeOwner (h : Hub) (p : Nat) : Nat := h.ownerOf F.SLC_PIPEOWN_OWN0 p
def Hub.strmOwner (h : Hub) (v : Nat) : Nat := h.ownerOf F.SLC_STRMOWN_OWN0 v
def Hub.winOwner (h : Hub) (w : Nat) : Nat := h.ownerOf F.SLC_WINOWN_OWN0 w
def Hub.usbOwner (h : Hub) (n : Nat) : Nat := h.ownerOf F.SLC_USBOWN_OWN0 n
def Hub.qOwner (h : Hub) (q : Nat) : Nat := h.ownerOf F.SLC_QOWN_OWN0 q
def Hub.mtrOwner (h : Hub) (m : Nat) : Nat := h.ownerOf F.SLC_MTROWN_OWN0 (m / 16)

/-- A word of a descriptor. -/
def Desc.dw (d : Desc) (i : Nat) : Nat := d.w.getD i 0

/-- Bits `lo` to `lo + w - 1` of word `i` of a descriptor (R256). -/
def Desc.f (d : Desc) (i lo w : Nat) : Nat := d.dw i / 2 ^ lo % 2 ^ w

/-- The 64-bit address in dw2 and dw3. -/
def Desc.addr (d : Desc) : Nat := 2 ^ 32 * d.dw 3 + d.dw 2

/-- BUFLEN of an RX or EVT descriptor (Tables 9-8, 9-12). -/
def Hub.bufLen (h : Hub) (r : Nat) (d : Desc) : Nat := if h.rKind r = kRX then d.f 1 0 14 else d.f 1 0 16

/-- Posted buffers of an RX or EVT ring: checked and not finished, oldest first. -/
def Hub.buffers (h : Hub) (r : Nat) : List Desc := (h.ring r).descs.filter (fun d => d.stage == .ready)

/-- Posted buffer space of an RX ring (R266). -/
def Hub.room (h : Hub) (r : Nat) : Nat := (h.buffers r).foldl (fun a d => a + h.bufLen r d) 0

/-- A descriptor changed by `f`, found by its slot. -/
def Hub.modDesc (h : Hub) (r slot : Nat) (f : Desc → Desc) : Hub :=
  let x := h.ring r
  h.setRing r { x with descs := x.descs.map (fun d => if d.slot = slot then f d else d) }

/-- Work of a descriptor has left (Table 9-4). -/
def Hub.startDesc (h : Hub) (r slot : Nat) : Hub := h.modDesc r slot (fun d => { d with started := true })

/-- A frame at an entry with FUNC 0 finds its ring: RUN, of the entry's slice, of kind RX, or PERI for TYPE 4 (R266). -/
def Hub.ringFor (h : Hub) (t : Nat) : Option Nat :=
  let r := h.get F.TUN_W2_FIDX t
  let k := if h.get F.TUN_W0_TYPE t = 4 then kPERI else kRX
  if h.rState r = rRUN ∧ h.rSlice r = h.get F.TUN_W0_SLICE t ∧ h.rKind r = k then some r else none

/-- E32 can accept a frame: a receive ring needs the buffer space, unless DROPNB discards it (R266). -/
def Hub.hostOk (h : Hub) (f : Frm) : Bool :=
  let t := f.hdr.dtun
  if h.get F.TUN_W2_FUNC t = 0 ∧ f.hdr.type ≠ 4 then
    match h.ringFor t with
    | some r => h.flag F.RCTX0_DROPNB r || decide (f.hdr.plen ≤ h.room r)
    | none => true
  else true

end Sys2Proof.Machine
end

