-- ==== Sys2Proof/Machine/TrfOps.lean ====
section
/-! DEFINITION. Shared operations of traffic control: gates (R228, R229), shapers and meters (R231 to R238), ageing (R211),
and which head frames an egress point may start (R220 to R226). -/

namespace Sys2Proof.Machine

/-! ## Lengths, shapers, meters -/

/-- L of R219 for a payload of `plen` bytes at egress point `e`. -/
def Hub.chargeLen (h : Hub) (e plen : Nat) : Nat := ((plen : Int) + toSigned 8 (h.get F.TRF_OVH_OVH e)).toNat

def Hub.shaper (h : Hub) (i : Nat) : ShaperSt := Tab.get {} h.trf.shapers i

/-- The token field of shaper `i` (tunnel shaper t: i = t; queue shaper q: i = 4,096 + q) brought up to date. -/
def Hub.showTok (h : Hub) (i : Nat) (t : Int) : Hub :=
  if i < 4096 then h.set F.TSHP_W1_TOKENS (tokenField t) i else h.set F.QSHP_W1_TOKENS (tokenField t) (i - 4096)

def Hub.setShaper (h : Hub) (i : Nat) (x : ShaperSt) : Hub :=
  ({ h with trf := { h.trf with shapers := Tab.set {} h.trf.shapers i x } }).showTok i x.tok

/-- A shaper lets its next frame go (R231). -/
def Hub.shaperOk (h : Hub) (i : Nat) : Bool := let x := h.shaper i; !x.en || decide (0 ≤ x.tok)

/-- A charge of `l` bytes (R231). -/
def Hub.shaperCharge (h : Hub) (i l : Nat) : Hub :=
  let x := h.shaper i
  if x.en then h.setShaper i { x with tok := x.tok - ((l * 4096 : Nat) : Int) } else h

def Hub.meter (h : Hub) (m : Nat) : MeterSt := Tab.get {} h.trf.meters m
def Hub.setMeter (h : Hub) (m : Nat) (x : MeterSt) : Hub :=
  { h with trf := { h.trf with meters := Tab.set {} h.trf.meters m x } }

/-- The colour of a frame of `l` bytes at a meter, 0 green, 1 yellow, 2 red, and the meter's new buckets (R237). A meter
that is not enabled colours nothing. -/
def meterColour (x : MeterSt) (pre l : Nat) : Nat × MeterSt :=
  let l4 : Int := ((l * 4096 : Nat) : Int)
  let pc := if x.aware then pre else 0
  if ¬ x.en then (0, x)
  else if pc = 2 ∨ x.tp < l4 then (2, x)
  else if pc = 1 ∨ x.tc < l4 then (1, { x with tp := x.tp - l4 })
  else (0, { x with tp := x.tp - l4, tc := x.tc - l4 })

/-- A charge of `l` bytes of a frame of colour `c` given back (R262). -/
def MeterSt.refund (x : MeterSt) (c l : Nat) : MeterSt :=
  let l4 : Int := ((l * 4096 : Nat) : Int)
  let full (b : Nat) : Int := ((b * 64 * 4096 : Nat) : Int)
  { x with tp := if c ≤ 1 then min (x.tp + l4) (full x.pbs) else x.tp, tc := if c = 0 then min (x.tc + l4) (full x.cbs) else x.tc }

/-! ## Gates (R227 to R230) -/

def Hub.gate (h : Hub) (e : Nat) : GateSt := Tab.get {} h.trf.gates e
def Hub.setGate (h : Hub) (e : Nat) (x : GateSt) : Hub := { h with trf := { h.trf with gates := Tab.set {} h.trf.gates e x } }

/-- The cycle time and length of a bank. -/
def Hub.gcyc (h : Hub) (e b : Nat) : Nat := if b = 0 then h.get F.TRF_GCYC0_CYCLE e else h.get F.TRF_GCYC1_CYCLE e
def Hub.glen (h : Hub) (e b : Nat) : Nat := if b = 0 then h.get F.TRF_GLEN_LEN0 e else h.get F.TRF_GLEN_LEN1 e

/-- The gate list entry in force at offset `o`: the first whose cumulative end exceeds it, else the last (R228). -/
def Hub.gateWalk (h : Hub) (base : Nat) (o : Nat) : Nat → Nat → Nat → Nat × Nat
  | 0, i, _ => (i, h.get F.GATE_GATES (base + i))
  | k + 1, i, sum =>
    let s := sum + h.get F.GATE_INTERVAL (base + i)
    if o < s ∨ k = 0 then (i, h.get F.GATE_GATES (base + i)) else Hub.gateWalk h base o k (i + 1) s

/-- Entry and gates of a list of bank `b` that began at tick `s`, at tick `t` (R228). -/
def Hub.listAt (h : Hub) (e b s t : Nat) : Nat × Nat :=
  let c := h.gcyc e b
  let o := if c = 0 then 0 else (t - s) % c
  h.gateWalk (e * 512 + b * 256) o (h.glen e b) 0 0

/-- Entry and gates of an egress point at ridge time `t`, following a pending switchover (R228, R229). -/
def Hub.gatesAt (h : Hub) (e t : Nat) : Nat × Nat :=
  if ¬ h.flag F.TRF_GCTL_EN e then (0, 0xFF)
  else
    let g := h.gate e
    let b := h.get F.TRF_GSTAT_ACTBANK e
    let cur := match g.active with
      | some s => h.listAt e b s t
      | none => (0, 0xFF)
    match g.pending with
    | some s => if s ≤ t then h.listAt e (1 - b) s t else cur
    | none => cur

/-- The gate of a class is open now. -/
def Hub.gateOpen (h : Hub) (e c : Nat) : Bool := bitOf (h.gatesAt e h.ridge).2 c

/-- Ticks a frame needs under GUARD (R229). -/
def Hub.guardNeed (h : Hub) (e plen : Nat) : Nat :=
  let w := wireBytes (plen + 16)
  if e < 32 then
    let set := h.get F.PORT_LSTAT_TXMASK e
    let lanes := match (h.lane e).turn with
      | some t => popCount 4 set - popCount 4 (set &&& t.lanes)
      | none => popCount 4 set
    wireTicks w (lanes * laneRate (h.get F.PORT_LSTAT_RATE e)) + (if h.flag F.PORT_LKSTAT_TXIDLE e then 16 else 0)
  else wireTicks w 252000

/-- GUARD lets the frame start: the gate stays open for as long as it needs (R229). -/
def Hub.guardOk (h : Hub) (e c plen : Nat) : Bool :=
  if h.flag F.TRF_GCTL_EN e && h.flag F.TRF_GCTL_GUARD e then
    (List.range (h.guardNeed e plen)).all (fun i => bitOf (h.gatesAt e (h.ridge + i)).2 c)
  else true

/-! ## Age (R211, R223, R226) -/

/-- Ticks since a frame was enqueued (R204, R531). -/
def Hub.age (h : Hub) (f : Frm) : Nat := (h.now + 2 ^ 32 - f.ts % 2 ^ 32) % 2 ^ 32

/-- The lifetime of a class in ticks; none when ageing is off. -/
def Hub.life (h : Hub) (c : Nat) : Option Nat :=
  let l := h.get F.CORE_CLSCFG_LIFE c
  if l = 0 then none else some (l * 1000)

/-- A frame aged in an earlier tick: its lifetime expired before this tick (R211). Retained frames are never aged
(R213). -/
def Hub.aged (h : Hub) (f : Frm) : Bool :=
  !f.retained && ((match f.expired with | some t => decide (t < h.now) | none => false) ||
    (match h.life f.hdr.cls with | some l => decide (l + 1 < h.age f) | none => false))

/-- A header that waits in staging is checked against the same lifetime, from its arrival in staging (R211); the mark of a frame
whose other copies are in their queues is theirs. -/
def Hub.agedStaged (h : Hub) (f : Frm) : Bool :=
  h.aged { f with ts := f.arrived, expired := if f.phase = .accepted then none else f.expired }

/-- The tick in which the lifetime expires. -/
def Hub.expiring (h : Hub) (f : Frm) : Bool :=
  match h.life f.hdr.cls with
  | some l => h.age f == l + 1
  | none => false

/-- A head frame is urgent (R223). -/
def Hub.urgent (h : Hub) (f : Frm) : Bool :=
  let a := h.get F.TRF_URGAGE_AGE f.hdr.cls
  a != 0 && decide (a * 1000 < h.age f)

/-- A class whose AGE is not below its lifetime is never promoted (R226). -/
def Hub.promotable (h : Hub) (c : Nat) : Bool :=
  match h.life c with
  | some l => decide (h.get F.TRF_URGAGE_AGE c * 1000 < l)
  | none => true

/-! ## Eligibility (R208, R221) -/

/-- The start condition of R208. -/
def Hub.startOk (h : Hub) (f : Frm) (q : Nat) : Bool :=
  let a := f.cells.length
  if f.ended == some true then decide (0 < a)
  else
    let rout := Tab.get 0 f.routs q
    h.flag F.CORE_CFG_CTEN && decide (0 < a) && (decide (rout ≤ f.rin) || decide (f.n * (rout - f.rin) ≤ a * rout))

/-- Bytes of the payload at `i`, most significant first. -/
def Frm.at_ (f : Frm) (i n : Nat) : Nat := beNat (sub f.data i n)

/-- Whether a management payload is a request for this endpoint: its MOP has bit 7 clear and is no message of fabric
assembly and no heartbeat (Table 5-5, R138). -/
def Frm.mgmtReq (f : Frm) : Bool :=
  let m := f.at_ 0 1
  m < 0x80 && !(0x10 ≤ m && m ≤ 0x14) && m != 0x20 && m != 0x21

/-- Cells of the response that a request will be answered with (R136, R138). -/
def Frm.respCells (f : Frm) : Nat :=
  cellsOf (16 + 16 + (if f.at_ 0 1 = 1 ∧ f.at_ 10 2 ≤ 1024 then 4 * f.at_ 10 2 else 0) + (if f.hdr.a then 8 else 0))

/-- Cells of the responses to the requests that the management controller has taken and not answered yet (R533). -/
def Hub.owedCells (h : Hub) : Nat :=
  h.core.inbox.foldl (fun a f => if f.hdr.type = 0 ∧ f.mgmtReq then a + f.respCells else a) 0

/-- E33 can accept a head frame: always, but for a management request while the staging of the internal sources has no
room for its response beside those owed (R220, R533); E32 can where its ring has room for it (R266). -/
def Hub.sinkOk (h : Hub) (e : Nat) (f : Frm) : Bool :=
  if e = 33 then !(f.hdr.type = 0 && f.hdr.dtun = 0 && f.mgmtReq) || h.stageRoom 33 (h.owedCells + f.respCells)
  else h.hostOk f

/-- Replay memory has room for a frame's full wire length, and fewer than 2,047 frames are unacknowledged (R102). -/
def Hub.replayRoom (h : Hub) (e : Nat) (f : Frm) : Bool :=
  let l := h.link e
  decide (l.used + wireBytes f.len ≤ 98304) && decide (l.ret.length < 2047)

/-- A head frame of queue (e, c) is eligible (R221), ageing apart. -/
def Hub.eligible (h : Hub) (e c : Nat) (f : Frm) : Bool :=
  h.startOk f (e * 8 + c) && h.gateOpen e c && h.guardOk e c f.hdr.plen && h.shaperOk (4096 + e * 8 + c) &&
  (if e < 32 then h.creditOk e c f.n && h.replayRoom e f else h.sinkOk e f)

/-- Some queue of an egress point holds an eligible head frame. -/
def Hub.backlogged (h : Hub) (e : Nat) : Bool :=
  (List.range 8).any (fun c => match (h.queue (e * 8 + c)).head? with
    | some i => (match h.frm i with | some f => h.eligible e c f && !h.aged f | none => false)
    | none => false)

/-- An egress point is free to start a frame (R220): a port once the last one has left its lanes and no replay is in progress. -/
def Hub.egressFree (h : Hub) (e : Nat) : Bool :=
  (match h.tx e with | some t => t.fin && decide (t.until_ ≤ h.now) | none => true) &&
  (if e < 32 then h.linkUp e && (h.link e).replay == [] && (h.link e).line == none else true)

/-- The conditions of idle entry hold: no frame eligible, on the line or unacknowledged, no message waiting, every ACK owed sent
(R117); credit counts are sent as they change (R114). -/
def Hub.quiet (h : Hub) (n : Nat) : Bool :=
  let l := h.link n
  l.ret == [] && l.line == none && l.msgs == [] && l.ackAt == none && !h.backlogged n

/-- A tick passes on every port: the frame on the line goes on, an ACK that is due leaves, and a direction that is not quiet
begins its idle delay again (R105, R117). -/
def Hub.linkTick (h : Hub) : Hub :=
  h.each (h.links.map (·.1)) (fun n g =>
    let g := (g.frameTick n).ackTick n
    if g.linkUp n ∧ ¬ g.quiet n then g.setLink n { g.link n with busyAt := g.now } else g)

/-- Heads of a queue that are aged, or, at a port, longer than the partner's MAXLEN, are discarded (R115, R211, R222). -/
def Hub.dropHeads (h : Hub) (e c : Nat) : Nat → Hub
  | 0 => h
  | k + 1 =>
    match (h.queue (e * 8 + c)).head? with
    | none => h
    | some i =>
      match h.frm i with
      | none => h
      | some f =>
        if h.aged f then ((h.bump F.CORE_DROPCNT0_AGED).dropCopy i (e * 8 + c)).dropHeads e c k
        else if e < 32 ∧ (h.link e).maxlen < f.len then
          ((h.bump F.PORT_LKDROP_OVERSIZE e).dropCopy i (e * 8 + c)).dropHeads e c k
        else h

end Sys2Proof.Machine
end

