-- ==== Sys2Proof/Machine/BuildOps.lean ====
section
/-! DEFINITION. Frames that a local function sends on a tunnel entry: when it may offer one, and the header that is built
(R128, R155, R234), and the hand-over of protected packets to their queue (R156, R201). -/

namespace Sys2Proof.Machine

/-- Retention takes `n` more cells within the quota (R155, R201). -/
def Hub.quotaRoom (h : Hub) (n : Nat) : Bool := decide (h.get F.FAB_RETOCC_CELLS + n ≤ h.get F.CORE_RETQ_QUOTA)

/-- A protected entry may take a new packet of `n` cells: RETMAX bounds the cells it retains (R155). -/
def Hub.mayRetain (h : Hub) (t n : Nat) : Bool :=
  let m := h.get F.TUN_W3_RETMAX t
  decide (h.get F.TUN_W6_UNACK t < 4096) && (m == 0 || decide (h.cellsIn (h.tun t).retain + n ≤ m)) && h.quotaRoom n

/-- The local function of an entry may offer its next frame, of `plen` payload bytes, from ingress point `src`: the entry
is OPEN (R149, R154), its shaper is eligible (R234), retention has room (R155), and the staging has (Table 7-3). -/
def Hub.mayBuild (h : Hub) (t plen src : Nat) : Bool :=
  let n := cellsOf (plen + 16)
  h.tunState t == tsOpen && h.shaperOk t && (!h.flag F.TUN_W0_PROT t || h.mayRetain t n) &&
  h.stageRoom src n

/-- The header of entry `t` for a payload (R128); the entry's word 0 of the management endpoint is fixed (R145). -/
def Hub.entryHdr (h : Hub) (t plen : Nat) : THdr :=
  let p := h.flag F.TUN_W0_PROT t
  let hd : THdr := { dhub := h.get F.TUN_W1_DHUB t, dtun := h.get F.TUN_W1_DTUN t, shub := h.myId, stun := t,
                     type := h.get F.TUN_W0_TYPE t, cls := h.get F.TUN_W0_CLASS t, p := p,
                     b := h.flag F.TUN_W0_BCAST t, a := h.flag F.TUN_W0_AUTH t, hops := h.get F.TUN_W3_HOPS t,
                     plen := plen, eseq := if p then h.get F.TUN_W4_TXSEQ t else 0 }
  hd.seal

/-- A frame built from entry `t`, in a class of its own if one is named: a protected one takes the next ESEQ and is
retained from now on (R155). -/
def Hub.buildIn (h : Hub) (t : Nat) (cls : Option Nat) (payload : Bytes) (src : Nat) (o : Origin) (precol : Nat := 0) : Hub :=
  let hd := h.entryHdr t payload.length
  let hd := match cls with
    | some c => ({ hd with cls := c } : THdr).seal
    | none => hd
  let r := h.newFrame hd payload src (some t) o
  let h := r.2
  match h.frm r.1 with
  | none => h
  | some f =>
    if hd.p then
      let h := h.setFrm r.1 { f with retained := true, precol := precol }
      let h := (h.retUp f.n).set F.TUN_W4_TXSEQ (hd.eseq + 1) t
      let x := h.tun t
      (h.setTun t { x with retain := x.retain ++ [(hd.eseq, r.1)] }).tunWord6 t
    else h.setFrm r.1 { f with precol := precol }

/-- A frame built from entry `t` in its class. -/
def Hub.build (h : Hub) (t : Nat) (payload : Bytes) (src : Nat) (o : Origin) (precol : Nat := 0) : Hub :=
  h.buildIn t none payload src o precol

/-- The egress point of a frame that terminates at an entry: the host interface for host rings and block windows, the
internal sinks for the rest (Table 5-9 FUNC). -/
def Hub.sinkOf (h : Hub) (t : Nat) : Nat :=
  let f := h.get F.TUN_W2_FUNC t
  if t ≠ 0 ∧ (f = 0 ∨ f = 4) then 32 else 33

/-- A frame is linked into a queue: its copy follows those there (R204). -/
def Hub.link_ (h : Hub) (i q : Nat) : Hub :=
  match h.frm i with
  | some f => (h.setFrm i { f with copies := f.copies ++ [q] }).setQueue q (h.queue q ++ [i])
  | none => h

/-- A held packet is delivered if its queue accepts it; its cells, in staging or admitted, pass from the quota to the queue (R201). -/
def Hub.deliverHeld (h : Hub) (t i : Nat) : Hub × Bool :=
  match h.frm i with
  | none => (h, true)
  | some f =>
    let q := h.sinkOf t * 8 + f.hdr.cls
    if h.accepts q f.n 0 then
      let h := (h.retDown f.n).occUp q f.n
      let h := (h.setFrm i { f with phase := .accepted, retained := false, charged := [q], ts := h.now,
                                    routs := [(q, h.outRate (q / 8))] }).link_ i q
      (h, true)
    else (h, false)

/-- Held packets at RXNEXT are delivered in order as long as there is one and it is accepted (R156). -/
def Hub.deliverRun (h : Hub) (t : Nat) : Nat → Hub
  | 0 => h
  | k + 1 =>
    let x := h.tun t
    let n := h.get F.TUN_W5_RXNEXT t
    match x.held.find? (fun p => p.1 = n) with
    | none => h
    | some p =>
      match h.deliverHeld t p.2 with
      | (h, true) =>
        let h := h.setTun t { h.tun t with held := (h.tun t).held.filter (fun q => q.1 ≠ n) }
        ((h.set F.TUN_W5_RXNEXT (n + 1) t).tunWord6 t).deliverRun t k
      | (h, false) => h

/-- The gap timer stops when RXNEXT has arrived or nothing is held, and starts when a packet is held while RXNEXT is
missing (R157). -/
def Hub.gapCheck (h : Hub) (t : Nat) : Hub :=
  let x := h.tun t
  if x.held = [] ∨ x.held.any (fun p => p.1 = h.get F.TUN_W5_RXNEXT t) then h.setTun t { x with gapAt := none }
  else match x.gapAt with
    | some _ => h
    | none => h.setTun t { x with gapAt := some h.now }

/-- A held or retained packet is discarded: its cells go back to the quota (R149, R154). -/
def Hub.dropRetained (h : Hub) (i : Nat) : Hub :=
  match h.frm i with
  | none => h
  | some f =>
    let h := (h.retDown f.n).setFrm i { f with retained := false }
    match f.phase with
    | .accepted => (h.dropRefs i 0 f.cells.length).gone i
    | _ => (((h.setFrm i { f with retained := false, phase := .dropped }).dropRefs i 0 f.cells.length)).gone i

/-- RXNEXT has arrived: the gap timer stops, and runs afresh where packets stay held beyond a further gap (R157). -/
def Hub.gapFresh (h : Hub) (t : Nat) : Hub := (h.setTun t { h.tun t with gapAt := none }).gapCheck t

/-- Every entry's held packets that can now be delivered (R201). -/
def Hub.deliverAll (h : Hub) : Hub :=
  h.each ((h.tuns.filter (fun x => x.2.held ≠ [])).map (·.1)) (fun t g => (g.deliverRun t 4096).gapCheck t)

/-! ## Messages delivered here -/

/-- The oldest message in the inbox that a command takes, and the hub without it. -/
def Hub.takeMsg (h : Hub) (p : Frm → Bool) : Option (Frm × Hub) :=
  match h.core.inbox.find? p with
  | some f => some (f, { h with core := { h.core with inbox := h.core.inbox.erase f } })
  | none => none

/-- A request to the management controller with this MOP, at whichever of its entries it came. -/
def Frm.isReq (f : Frm) (m : Nat) : Bool := f.hdr.type == 0 && f.at_ 0 1 == m

/-- A management payload of endpoint 0x000 with this MOP. -/
def Frm.isMop (f : Frm) (m : Nat) : Bool := f.hdr.type == 0 && f.hdr.dtun == 0 && f.at_ 0 1 == m

end Sys2Proof.Machine
end

