-- ==== Sys2Proof/Machine/SessOps.lean ====
section
/-! DEFINITION. The message session of a peripheral tunnel, the same at both its ends: numbering, acknowledgement, resend
(spec/13_peripheral_controller.md R347 to R351). -/

namespace Sys2Proof.Machine

def Hub.sess (h : Hub) (t : Nat) : Sess := Tab.get {} h.peri.sess t
def Hub.setSess (h : Hub) (t : Nat) (x : Sess) : Hub := { h with peri := { h.peri with sess := Tab.set {} h.peri.sess t x } }

/-- A session starts afresh when its entry becomes OPEN (R347). -/
def Hub.newSession (h : Hub) (t : Nat) : Hub := h.setSess t {}

/-- PKIND codes (Table 5-8). -/
def pkXreq : Nat := 0
def pkXcpl : Nat := 1
def pkAck : Nat := 2
def pkPortev : Nat := 3

/-- The payload of a transfer message (Table 5-8). -/
def TMsg.payload (m : TMsg) (seq aseq : Nat) : Bytes :=
  beBytes 16 (pack [(4, m.kind), (1, b2n m.last), (1, b2n m.zlp), (2, 0), (16, seq), (16, aseq), (5, m.port), (7, m.dev),
    (4, m.ep), (1, b2n m.dir), (2, m.xtype), (5, 0), (8, m.status), (8, 0), (16, m.data.length), (16, m.xid), (16, 0)]) ++ m.data

/-- ASEQ that every message carries (R347). -/
def Sess.aseq (x : Sess) : Nat := (x.rx + 65535) % 65536

/-- A numbered message leaves: its ASEQ acknowledges what was taken (R349). An XREQ of a host ring starts its descriptor (Table 9-4). -/
def Hub.sendSMsg (h : Hub) (t : Nat) (s : SMsg) : Hub :=
  let x := h.sess t
  let h := if s.msg.kind = pkXreq ∧ h.get F.TUN_W2_FUNC t = 0 then h.startDesc (h.get F.TUN_W2_FIDX t) s.msg.xid else h
  let h := h.build t (s.msg.payload s.seq x.aseq) (h.sinkOf t) .none
  h.setSess t { x with taken := 0, ackAt := none, ackNow := false }

/-- An ACK leaves (R347, R349). -/
def Hub.sendAck (h : Hub) (t : Nat) : Hub :=
  let x := h.sess t
  if h.mayBuild t 16 (h.sinkOf t) then
    let h := h.build t (({ kind := pkAck, port := h.get F.TUN_W2_FIDX t % 32 } : TMsg).payload x.tx x.aseq) (h.sinkOf t) .none
    h.setSess t { x with taken := 0, ackAt := none, ackNow := false }
  else h.setSess t { x with ackNow := true }

/-- A message as it is sent again: a ring engine's with its data read from host memory once more; none until that has come (R349). -/
def Sess.resent (x : Sess) (s : SMsg) : Option SMsg :=
  if s.msg.host.2 = 0 then some s
  else
    match x.fetch with
    | some f =>
      if f.seq = s.seq ∧ f.got.length = s.msg.host.2 then
        some { s with msg := { s.msg with data := s.msg.data.take (s.msg.data.length - s.msg.host.2) ++ f.got } }
      else none
    | none => none

/-- Messages of a session leave as far as they may: resends in SEQ order, then an ACK that is owed, then new messages up
to 16 unacknowledged (R347, R349). -/
def Hub.sessPump (h : Hub) (t : Nat) : Nat → Hub
  | 0 => h
  | k + 1 =>
    let x := h.sess t
    if x.lost then h
    else
      match x.again with
      | q :: rest =>
        match x.unack.find? (fun s => s.seq = q) with
        | none => (h.setSess t { x with again := rest }).sessPump t k
        | some s =>
          match x.resent s with
          | some s =>
            if h.mayBuild t (16 + s.msg.data.length) (h.sinkOf t) then
              (((h.setSess t { x with again := rest, fetch := none }).sendSMsg t s).bump F.PERI_CNT_RESEND).sessPump t k
            else h
          | none => if x.ackNow then h.sendAck t else h
      | [] =>
        match x.queue with
        | (c, m) :: rest =>
          if x.unack.length < 16 ∧ h.mayBuild t (16 + m.data.length) (h.sinkOf t) then
            let s : SMsg := { seq := x.tx, ctx := c, msg := m }
            let h := h.setSess t { x with tx := (x.tx + 1) % 65536, unack := x.unack ++ [s], queue := rest,
                                          rtoAt := some (x.rtoAt.getD h.now) }
            (h.sendSMsg t s).sessPump t k
          else if x.ackNow then h.sendAck t else h
        | [] => if x.ackNow then h.sendAck t else h

/-- A numbered message joins the session. A lost session takes none (R351). -/
def Hub.post (h : Hub) (t : Nat) (c : Option Nat) (m : TMsg) : Hub :=
  let x := h.sess t
  if x.lost then h else h.setSess t { x with queue := x.queue ++ [(c, m)] }

end Sys2Proof.Machine
end

