-- ==== Sys2Proof/Machine/BlkOps.lean ====
section
/-! DEFINITION. The requester of the block windows: the write hold, the read tags, and requests sent in order
(spec/11_block_windows.md R300 to R303). -/

namespace Sys2Proof.Machine

/-- Window states (Table 11-5). -/
def wIDLE : Nat := 0
def wRUN : Nat := 1
def wBACKOFF : Nat := 2
def wERROR : Nat := 3
def wCLOSING : Nat := 4

def Hub.wState (h : Hub) (w : Nat) : Nat := h.get F.BLK_WCTL_STATE w
def Hub.wTun (h : Hub) (w : Nat) : Nat := h.get F.BLK_WCTL_TUN w
def Hub.wSize (h : Hub) (w : Nat) : Nat := 2 ^ h.get F.BLK_WCTL_LOG2SZ w
def Hub.wBase (h : Hub) (w : Nat) : Nat := h.get64 F.BLK_RBASE_LO_BASE F.BLK_RBASE_HI_BASE w

/-- The windows. -/
def windows : List Nat := List.range 16

/-- Units of 256 bytes a request takes in the write hold (R302). -/
def BlkReq.units (r : BlkReq) : Nat := if r.wr then ceilDiv r.len 256 else 0

/-- Units of the write hold in use. -/
def Hub.holdUse (h : Hub) : Nat :=
  h.hif.wins.foldl (fun a x => (x.2.wait ++ x.2.sent).foldl (fun b r => b + r.units) a) 0

/-- Read tags held: of reads outstanding, and of timed-out reads (R301, R307). -/
def Hub.tagsHeld (h : Hub) : List Nat :=
  h.hif.wins.flatMap (fun x => (x.2.wait ++ x.2.sent).filterMap (fun r => r.tag)) ++ h.hif.late.map (·.1)

/-- BLK_STAT brought up to date. -/
def Hub.showBlk (h : Hub) : Hub := (h.set F.BLK_STAT_HOLD h.holdUse).set F.BLK_STAT_TAGS h.tagsHeld.length

/-- The lowest free read tag. -/
def Hub.freeTag (h : Hub) : Option Nat := let u := h.tagsHeld; (List.range 256).find? (fun t => !u.contains t)

/-- A request joins those of its window, in order (R300). -/
def Hub.enq (h : Hub) (w : Nat) (r : BlkReq) : Hub :=
  let x := h.win w
  h.setWin w { x with next := x.next + 1, wait := x.wait ++ [{ r with num := x.next }] }

/-- BOP codes (Table 5-7). -/
def bopWR : Nat := 0
def bopRD : Nat := 1
def bopCPLD : Nat := 2
def bopCPL : Nat := 3
def bopBUSY : Nat := 4

/-- A block payload (Table 5-7). -/
def blkPayload (bop status tag win len addr : Nat) (data : Bytes) : Bytes :=
  beBytes 16 (pack [(4, bop), (4, status), (8, tag), (4, win), (12, 0), (13, len), (19, 0), (64, addr)]) ++ data

/-- The payload of a request. -/
def BlkReq.payload (r : BlkReq) (w : Nat) : Bytes :=
  if r.wr then blkPayload bopWR 0 (r.num % 256) w r.len r.addr r.data
  else blkPayload bopRD 0 (r.tag.getD 0) w r.len r.addr []

/-- A request is sent, for the first time or again (R302, R306). -/
def Hub.sendReq (h : Hub) (w : Nat) (r : BlkReq) : Hub :=
  let o : Origin := match r.use with
    | .blk ring slot _ => if r.wr ∧ ¬ r.again then .blk ring slot r.len else .none
    | _ => .none
  let h := h.build (h.wTun w) (r.payload w) 32 o
  let h := match r.use with
    | .blk ring slot _ => h.startDesc ring slot
    | _ => h
  let h := if r.again then h.bump F.BLK_WCNT0_RESEND w
           else if r.use = .sync then h.bump F.BLK_WCNT1_SYNC w else h
  let x := h.win w
  h.setWin w { x with sent := x.sent ++ [{ r with sentAt := some (r.sentAt.getD h.now), sendNo := x.sendNo, again := false, noTag := false }],
                      sendNo := x.sendNo + 1 }

/-- The window's tunnel takes a request's frame now. -/
def Hub.reqRoom (h : Hub) (w : Nat) (r : BlkReq) : Bool :=
  h.mayBuild (h.wTun w) (16 + if r.wr then r.len else 0) 32

/-- A BAR4 access. -/
def BlkReq.bar4 (r : BlkReq) : Bool := match r.use with
  | .bar4 _ _ => true
  | .bar4Write => true
  | _ => false

/-- The first BAR4 write behind BAR4 accesses only: PCIe lets it pass waiting BAR4 reads (R301). -/
def passing : List BlkReq → Option BlkReq
  | [] => none
  | r :: l => if ¬ r.bar4 then none else if r.wr then some r else passing l

/-- Requests of a window leave in order while it may send: no backoff, room in the tunnel, a free tag for an RD
(R300, R301, R306). -/
def Hub.pumpReqs (h : Hub) (w : Nat) : Nat → Hub
  | 0 => h
  | k + 1 =>
    let x := h.win w
    let st := h.wState w
    if x.backAt.isSome ∨ (st ≠ wRUN ∧ st ≠ wBACKOFF ∧ st ≠ wCLOSING) then h
    else
      match x.wait with
      | [] => h
      | r :: rest =>
        if r.wr ∨ r.tag.isSome then
          if h.reqRoom w r then ((h.setWin w { x with wait := rest }).sendReq w r).pumpReqs w k else h
        else
          match (if r.noTag then none else h.freeTag) with
          | some g =>
            if h.reqRoom w r then ((h.setWin w { x with wait := rest }).sendReq w { r with tag := some g }).pumpReqs w k else h
          | none =>
            let x := { x with wait := { r with noTag := true } :: rest }
            let h := h.setWin w x
            match passing x.wait with
            | some q => if h.reqRoom w q then ((h.setWin w { x with wait := x.wait.erase q }).sendReq w q).pumpReqs w k else h
            | none => h

/-- Answers of a completer leave in order, in the class of their requests (R304, R305). -/
def Hub.pumpAns (h : Hub) (w : Nat) : Nat → Hub
  | 0 => h
  | k + 1 =>
    let x := h.win w
    match x.ans with
    | [] => h
    | a :: rest =>
      if h.mayBuild a.tun a.payload.length 32 then
        ((h.setWin w { x with ans := rest }).buildIn a.tun (some a.cls) a.payload 32 .none).pumpAns w k
      else h

/-- What a window can send leaves. -/
def Hub.pumpWin (h : Hub) (w : Nat) : Hub :=
  let x := h.win w
  if x.wait = [] ∧ x.ans = [] then h
  else (h.pumpAns w x.ans.length).pumpReqs w x.wait.length

/-- A write of `bytes` at an offset of a window: one WR per remote page (R300). -/
def Hub.winWrite (h : Hub) (w off : Nat) (bytes : Bytes) (use : RdUse) : Hub :=
  (pagesOf (h.wBase w + off) bytes.length).foldl (fun g p =>
    g.enq w { num := 0, wr := true, addr := p.1, len := p.2, data := sub bytes (p.1 - (h.wBase w + off)) p.2, use := use }) h

end Sys2Proof.Machine
end

