-- ==== Sys2Proof/Machine/Crypto.lean ====
section
/-! DEFINITION. The standard functions that the spec names and does not restate: SHA-256 (R471, R473), ECDSA on the curve P-256
(R470) and AES-128-CMAC (R137). PRESUMED from FIPS 180-4, FIPS 186-4, FIPS 197 and NIST SP 800-38B (log entries 7 and 8). Byte
strings are lists of numbers below 256. -/

namespace Sys2Proof.Machine

/-- A byte string as a number, first byte the most significant. -/
def ofBytes (l : List Nat) : Nat := l.foldl (fun x b => x * 256 + b % 256) 0

/-- The low `n` bytes of a number, most significant first. -/
def toBytes : Nat → Nat → List Nat
  | 0, _ => []
  | n + 1, x => toBytes n (x / 256) ++ [x % 256]

/-! ## SHA-256 (FIPS 180-4) -/

def rotr32 (x n : Nat) : Nat := (x >>> n ||| x <<< (32 - n)) % 2 ^ 32
def add32 (x y : Nat) : Nat := (x + y) % 2 ^ 32

/-- The round constants, sixteen to a number, the first of them in its highest bits. -/
def shaKRows : List Nat :=
  [0x428a2f9871374491b5c0fbcfe9b5dba53956c25b59f111f1923f82a4ab1c5ed5d807aa9812835b01243185be550c7dc372be5d7480deb1fe9bdc06a7c19bf174,
   0xe49b69c1efbe47860fc19dc6240ca1cc2de92c6f4a7484aa5cb0a9dc76f988da983e5152a831c66db00327c8bf597fc7c6e00bf3d5a7914706ca635114292967,
   0x27b70a852e1b21384d2c6dfc53380d13650a7354766a0abb81c2c92e92722c85a2bfe8a1a81a664bc24b8b70c76c51a3d192e819d6990624f40e3585106aa070,
   0x19a4c1161e376c082748774c34b0bcb5391c0cb34ed8aa4a5b9cca4f682e6ff3748f82ee78a5636f84c878148cc7020890befffaa4506cebbef9a3f7c67178f2]

/-- The round constants in their order. -/
def shaK : List Nat := shaKRows.flatMap (fun r => (List.range 16).map (fun i => r >>> (32 * (15 - i)) % 2 ^ 32))

/-- The eight working words. -/
structure Sha where
  a : Nat
  b : Nat
  c : Nat
  d : Nat
  e : Nat
  f : Nat
  g : Nat
  h : Nat
deriving DecidableEq, Repr

def shaInit : Sha :=
  { a := 0x6a09e667, b := 0xbb67ae85, c := 0x3c6ef372, d := 0xa54ff53a, e := 0x510e527f, f := 0x9b05688c, g := 0x1f83d9ab, h := 0x5be0cd19 }

/-- The schedule, latest word first, extended by `n` words. -/
def shaExtend : Nat → List Nat → List Nat
  | 0, w => w
  | n + 1, w =>
    let x := w.getD 14 0
    let y := w.getD 1 0
    let s0 := rotr32 x 7 ^^^ rotr32 x 18 ^^^ (x >>> 3)
    let s1 := rotr32 y 17 ^^^ rotr32 y 19 ^^^ (y >>> 10)
    shaExtend n ((s1 + w.getD 6 0 + s0 + w.getD 15 0) % 2 ^ 32 :: w)

/-- One round with its constant and schedule word. -/
def shaRound (s : Sha) (k : Nat × Nat) : Sha :=
  let s1 := rotr32 s.e 6 ^^^ rotr32 s.e 11 ^^^ rotr32 s.e 25
  let ch := (s.e &&& s.f) ^^^ ((s.e ^^^ 0xFFFFFFFF) &&& s.g)
  let t1 := (s.h + s1 + ch + k.1 + k.2) % 2 ^ 32
  let s0 := rotr32 s.a 2 ^^^ rotr32 s.a 13 ^^^ rotr32 s.a 22
  let maj := (s.a &&& s.b) ^^^ (s.a &&& s.c) ^^^ (s.b &&& s.c)
  { a := add32 t1 (add32 s0 maj), b := s.a, c := s.b, d := s.c, e := add32 s.d t1, f := s.e, g := s.f, h := s.g }

/-- The words of a block of 64 bytes, latest first. -/
def shaWords : Nat → List Nat → List Nat → List Nat
  | 0, _, w => w
  | n + 1, b, w => shaWords n (b.drop 4) (ofBytes (b.take 4) :: w)

/-- One block. -/
def shaBlock (s : Sha) (b : List Nat) : Sha :=
  let w := (shaExtend 48 (shaWords 16 b [])).reverse
  let t := (shaK.zip w).foldl shaRound s
  { a := add32 s.a t.a, b := add32 s.b t.b, c := add32 s.c t.c, d := add32 s.d t.d, e := add32 s.e t.e, f := add32 s.f t.f,
    g := add32 s.g t.g, h := add32 s.h t.h }

def shaBlocks : Nat → Sha → List Nat → Sha
  | 0, s, _ => s
  | n + 1, s, m => shaBlocks n (shaBlock s (m.take 64)) (m.drop 64)

/-- SHA-256 of a byte string, as a number: the first byte of the hash is the most significant. -/
def sha256 (m : List Nat) : Nat :=
  let p := m ++ [0x80] ++ List.replicate ((119 - m.length % 64) % 64) 0 ++ toBytes 8 (8 * m.length)
  let s := shaBlocks (p.length / 64) shaInit p
  [s.a, s.b, s.c, s.d, s.e, s.f, s.g, s.h].foldl (fun x w => x * 2 ^ 32 + w) 0

/-! ## AES-128 and CMAC (FIPS 197, SP 800-38B) -/

/-- The S-box: row x / 16, whose byte x mod 16 from the least significant is the substitute of x. -/
def sboxRows : List Nat :=
  [0x76abd7fe2b670130c56f6bf27b777c63, 0xc072a49cafa2d4adf04759fa7dc982ca, 0x1531d871f1e5a534ccf73f362693fdb7,
   0x75b227ebe28012079a059618c323c704, 0x842fe329b3d63b52a05a6e1b1a2c8309, 0xcf584c4a39becb6a5bb1fc20ed00d153,
   0xa89f3c507f02f94585334d43fbaaefd0, 0xd2f3ff1021dab6bcf5389d928f40a351, 0x73195d643d7ea7c41744975fec130ccd,
   0xdb0b5ede14b8ee4688902a22dc4f8160, 0x79e4959162acd3c25c2406490a3a32e0, 0x08ae7a65eaf4566ca94ed58d6d37c8e7,
   0x8a8bbd4b1f74dde8c6b4a61c2e2578ba, 0x9e1dc186b95735610ef6034866b53e70, 0xdf2855cee9871e9b948ed9691198f8e1,
   0x16bb54b00f2d99416842e6bf0d89a18c]

/-- The substitution of one byte. -/
def sbox (x : Nat) : Nat := (sboxRows.getD (x / 16) 0 >>> (8 * (x % 16))) % 256

/-- A byte doubled in the field of 256 elements, modulo x^8 + x^4 + x^3 + x + 1. -/
def xtime (x : Nat) : Nat := if x < 128 then 2 * x else 2 * x ^^^ 0x11B

def shiftRows (s : List Nat) : List Nat := (List.range 16).map (fun i => s.getD ((i + 4 * (i % 4)) % 16) 0)

def mixColumns : List Nat → List Nat
  | a :: b :: c :: d :: r =>
    (xtime a ^^^ (xtime b ^^^ b) ^^^ c ^^^ d) :: (a ^^^ xtime b ^^^ (xtime c ^^^ c) ^^^ d) ::
      (a ^^^ b ^^^ xtime c ^^^ (xtime d ^^^ d)) :: ((xtime a ^^^ a) ^^^ b ^^^ c ^^^ xtime d) :: mixColumns r
  | _ => []

def xorBytes (x y : List Nat) : List Nat := List.zipWith (· ^^^ ·) x y

/-- The next round key, from the last one and the round constant. -/
def nextKey (k : List Nat) (rcon : Nat) : List Nat :=
  let t := [sbox (k.getD 13 0) ^^^ rcon, sbox (k.getD 14 0), sbox (k.getD 15 0), sbox (k.getD 12 0)]
  let w0 := xorBytes (k.take 4) t
  let w1 := xorBytes ((k.drop 4).take 4) w0
  let w2 := xorBytes ((k.drop 8).take 4) w1
  w0 ++ w1 ++ w2 ++ xorBytes (k.drop 12) w2

/-- Rounds that are left, the last of them without column mixing. -/
def aesRounds : Nat → List Nat → List Nat → Nat → List Nat
  | 0, s, _, _ => s
  | n + 1, s, k, rcon =>
    let k := nextKey k rcon
    let s := shiftRows (s.map sbox)
    aesRounds n (xorBytes (if n = 0 then s else mixColumns s) k) k (xtime rcon)

/-- AES-128 of a block of 16 bytes under a 128-bit key. -/
def aes (key : Nat) (b : List Nat) : List Nat :=
  let k := toBytes 16 key
  aesRounds 10 (xorBytes b k) k 1

/-- Doubling in the field of 2^128 elements. -/
def dbl128 (x : Nat) : Nat := if x < 2 ^ 127 then 2 * x else (2 * x - 2 ^ 128) ^^^ 0x87

def cmacBlocks (key : Nat) : Nat → List Nat → List Nat → List Nat
  | 0, c, _ => c
  | n + 1, c, m => cmacBlocks key n (aes key (xorBytes c (m.take 16))) (m.drop 16)

/-- The leftmost 64 bits of AES-128-CMAC of a byte string (R137). -/
def cmacTag (key : Nat) (m : List Nat) : Nat :=
  let k1 := dbl128 (ofBytes (aes key (List.replicate 16 0)))
  let n := (m.length + 15) / 16 - 1
  let last := m.drop (16 * n)
  let l := if last.length = 16 then xorBytes last (toBytes 16 k1)
    else xorBytes (last ++ [0x80] ++ List.replicate (15 - last.length) 0) (toBytes 16 (dbl128 k1))
  ofBytes (cmacBlocks key (n + 1) (List.replicate 16 0) (m.take (16 * n) ++ l)) / 2 ^ 64

/-! ## ECDSA on P-256 (FIPS 186-4) -/

def ecP : Nat := 0xFFFFFFFF00000001000000000000000000000000FFFFFFFFFFFFFFFFFFFFFFFF
def ecN : Nat := 0xFFFFFFFF00000000FFFFFFFFFFFFFFFFBCE6FAADA7179E84F3B9CAC2FC632551
def ecB : Nat := 0x5AC635D8AA3A93E7B3EBBD55769886BC651D06B0CC53B0F63BCE3C3E27D2604B
def ecGx : Nat := 0x6B17D1F2E12C4247F8BCE6E563A440F277037D812DEB33A0F4A13945D898C296
def ecGy : Nat := 0x4FE342E2FE1A7F9B8EE7EB4A7C0F9E162BCE33576B315ECECBB6406837BF51F5

/-- `x` to the power `e`, of at most `n` bits, modulo `m`. -/
def powMod (m : Nat) : Nat → Nat → Nat → Nat
  | 0, _, _ => 1
  | n + 1, x, e => let r := powMod m n (x * x % m) (e / 2); if e % 2 = 1 then r * x % m else r

/-- A point: x / z² and y / z³, with z = 0 at infinity. -/
structure EcPt where
  x : Nat
  y : Nat
  z : Nat
deriving DecidableEq, Repr

/-- A difference modulo p. -/
def subP (a b : Nat) : Nat := (a + ecP - b % ecP) % ecP

def ecDouble (q : EcPt) : EcPt :=
  let d := q.z * q.z % ecP
  let g := q.y * q.y % ecP
  let b := q.x * g % ecP
  let a := 3 * (subP q.x d * (q.x + d) % ecP) % ecP
  let x := subP (a * a) (8 * b)
  { x := x, y := subP (a * subP (4 * b) x) (8 * (g * g)), z := 2 * q.y * q.z % ecP }

def ecAdd (q r : EcPt) : EcPt :=
  if q.z = 0 then r else if r.z = 0 then q
  else
    let zz := q.z * q.z % ecP
    let ww := r.z * r.z % ecP
    let u := q.x * ww % ecP
    let h := subP (r.x * zz) u
    let s := q.y * (r.z * ww) % ecP
    let k := subP (r.y * (q.z * zz)) s
    if h = 0 then (if k = 0 then ecDouble q else { x := 1, y := 1, z := 0 })
    else
      let hh := h * h % ecP
      let v := u * hh % ecP
      let x := subP (k * k) (h * hh + 2 * v)
      { x := x, y := subP (k * subP v x) (s * (h * hh)), z := q.z * r.z * h % ecP }

/-- `e`, of at most `n` bits, times a point. -/
def ecMul : Nat → Nat → EcPt → EcPt
  | 0, _, _ => { x := 1, y := 1, z := 0 }
  | n + 1, e, q => let r := ecDouble (ecMul n (e / 2) q); if e % 2 = 1 then ecAdd r q else r

/-- A public key and a signature, 64 bytes each, and the signed bytes: the signature is accepted. A key that is no point of the curve is none. -/
def ecdsaVerify (pub sig msg : List Nat) : Bool :=
  let x := ofBytes (pub.take 32)
  let y := ofBytes (pub.drop 32)
  let r := ofBytes (sig.take 32)
  let s := ofBytes (sig.drop 32)
  let w := powMod ecN 256 s (ecN - 2)
  let q := ecAdd (ecMul 256 (sha256 msg * w % ecN) { x := ecGx, y := ecGy, z := 1 }) (ecMul 256 (r * w % ecN) { x := x, y := y, z := 1 })
  let z := powMod ecP 256 (q.z * q.z % ecP) (ecP - 2)
  decide (pub.length = 64 ∧ sig.length = 64 ∧ x < ecP ∧ y < ecP ∧ 0 < r ∧ r < ecN ∧ 0 < s ∧ s < ecN) &&
  y * y % ecP == (x * x * x + ecB + 3 * (ecP - x)) % ecP && q.z != 0 && q.x * z % ecP % ecN == r

end Sys2Proof.Machine
end

