-- ==== Sys2Proof/Machine/HostOps.lean ====
section
/-! DEFINITION. The ring engine: completions and interrupts, the checks of a descriptor, what starts a descriptor, doorbells,
ring reset (spec/09_host_rings.md), and the tag of a management payload (R137). -/

namespace Sys2Proof.Machine

/-! ## Tags (R137) -/

/-- The 8-byte tag of a payload under a site key. -/
def Hub.tagOf (h : Hub) (key : Nat) (hd : THdr) (payload : Bytes) : Bytes :=
  beBytes 8 (cmacTag (Tab.get 0 h.keys key) ((hd.crcInput ++ payload).map (·.toNat)))

/-- The payload of a frame with A = 1 without its tag, if the tag verifies under a key in use. -/
def Hub.untag (h : Hub) (f : Frm) : Option Bytes :=
  let p := f.data.take f.hdr.plen
  let body := p.take (p.length - 8)
  let k := f.at_ 1 1 / 128
  if bitOf (h.get F.FAB_MGMTCFG_KEYEN) k ∧ p.drop (p.length - 8) = h.tagOf k f.hdr body then some body else none

/-! ## Host memory -/

/-- A write a ring makes: on the local PCIe bus under its slice's PASID, or through its window (R250, R277, R284). -/
def Hub.ringWrite (h : Hub) (r addr : Nat) (bytes : Bytes) : Hub :=
  if h.rRemote r then h.winWrite (h.get F.RCTX0_WIN r) addr bytes (.ringWrite r)
  else if h.bound (h.rSlice r) then h.hostWrite (h.pasid (h.rSlice r)) addr bytes
  else h

/-- A read a ring makes, for `who`; through a window one RD per page, whose use is told its distance from the start. -/
def Hub.ringRead (h : Hub) (r addr len : Nat) (who : ReadFor) (use : Nat → RdUse) : Hub :=
  if h.rRemote r then
    let w := h.get F.RCTX0_WIN r
    let a := h.wBase w + addr
    (pagesOf a len).foldl (fun g p => g.enq w { num := 0, wr := false, addr := p.1, len := p.2, use := use (p.1 - a) }) h
  else if h.bound (h.rSlice r) then h.hostRead who (h.pasid (h.rSlice r)) addr len
  else h

/-! ## Interrupts (R275, R276) -/

/-- The ring may send its vector: not while it is being reset (R276). -/
def Hub.mayInt (h : Hub) (r : Nat) : Bool := h.rState r == rRUN && !h.rRemote r && h.flag F.RCTX5_IEN r && h.flag F.RCTX5_ARMED r

/-- The ring's vector is sent, which disarms it. -/
def Hub.ringVec (h : Hub) (r : Nat) : Hub :=
  ((h.vector (h.get F.RCTX5_VEC r)).set F.RCTX5_ARMED 0 r).setRing r { h.ring r with pend := 0, first := none }

/-- Enough completions are pending. -/
def Hub.modCheck (h : Hub) (r : Nat) : Hub :=
  let x := h.ring r
  if h.mayInt r ∧ 0 < x.pend ∧ (h.get F.RCTX5_MCNT r ≤ x.pend ∨ h.get F.RCTX5_MTMO r = 0) then h.ringVec r else h

/-- An ARM write with consumed index `c` (R276). -/
def Hub.armRing (h : Hub) (r c : Nat) : Hub :=
  let x := h.ring r
  let n := h.rN r
  let h := (h.set F.RCTX5_ARMED 1 r).setRing r { x with pend := 0, first := none }
  let k := (h.get F.RCTX6_DONE r + n - c % n) % n
  if x.irqs.any (fun i => x.count ≤ i + k) ∧ h.mayInt r then h.ringVec r else h

/-! ## Completions (R254 to R257, R272) -/

/-- Four words, little-endian. -/
def wordBytes (l : List Nat) : Bytes := l.flatMap (fun x => leBytes 4 x)

/-- The completion of the oldest descriptor is written and counted. -/
def Hub.writeCpl (h : Hub) (r : Nat) (d : Desc) : Hub :=
  let x := h.ring r
  let n := h.rN r
  let phase := b2n (x.count / n % 2 == 0)
  let a := h.get64 F.RCTX3_CBASE_LO F.RCTX4_CBASE_HI r + d.slot * 16
  let dw3 := 2 ^ 31 * phase + 2 ^ 24 * h.rKind r + 2 ^ 16 * d.status + d.slot
  let b := wordBytes [d.dw 7, d.dw1, d.dw2, dw3]
  let h := if h.flag F.HIF_PCTL_SPLITCPL then (h.ringWrite r a (b.take 12)).ringWrite r (a + 12) (b.drop 12) else h.ringWrite r a b
  let irq := d.f 0 27 1 == 1
  let armed := h.flag F.RCTX5_ARMED r
  let y := { x with count := x.count + 1, irqs := (if irq then x.irqs ++ [x.count] else x.irqs).filter (fun i => x.count + 1 ≤ i + n),
                    pend := if irq && armed then x.pend + 1 else x.pend,
                    first := if irq && armed then some (x.first.getD h.now) else x.first }
  ((h.setRing r y).set F.RCTX6_DONE ((d.slot + 1) % n) r).modCheck r

/-- Finished descriptors complete in slot order (R272); a ring in ERROR completes nothing (R274). -/
def Hub.drainDone (h : Hub) (r : Nat) : Nat → Hub
  | 0 => h
  | k + 1 =>
    let x := h.ring r
    match x.descs with
    | [] => h
    | d :: rest =>
      if d.stage = .done ∧ (h.rState r = rRUN ∨ h.rState r = rRESETTING) then
        ((h.setRing r { x with descs := rest }).writeCpl r d).drainDone r k
      else h

/-- The descriptor of a slot that is not finished. -/
def Hub.descOf (h : Hub) (r slot : Nat) : Option Desc := (h.ring r).descs.find? (fun d => d.slot == slot && d.stage != .done)

/-- A descriptor is finished with a status and its two result words. -/
def Hub.finDesc (h : Hub) (r slot status dw1 dw2 : Nat) : Hub :=
  if (h.descOf r slot).isNone then h
  else
    let h := h.modDesc r slot (fun d => { d with stage := .done, status := status, dw1 := dw1, dw2 := dw2, data := [] })
    h.drainDone r (h.ring r).descs.length

/-! ## Ring errors (R258, R273, R274) -/

/-- The ring goes to ERROR. -/
def Hub.ringError (h : Hub) (r code : Nat) : Hub := (h.set F.RCTX0_STATE rERROR r).set F.RCTX7_ERRCODE code r

/-- A descriptor read failed for the third time (R273). -/
def Hub.descFail (h : Hub) (r : Nat) : Hub :=
  let h := ((h.bump F.HIF_ERRCNT_FETCHFAIL).ringError r 1).rec1 (prodSlice (h.rSlice r)) 3 0x06 srcHost r
  if h.flag F.HIF_ERRCFG_EN then h.vector (h.get F.HIF_ERRCFG_VEC) else h

/-- Status codes of Table 9-6. -/
def cOK : Nat := 0
def cCLOSED : Nat := 2
def cDENIED : Nat := 3
def cBADDESC : Nat := 4
def cFETCHERR : Nat := 8
def cSQUASHED : Nat := 9
def cBADEND : Nat := 10
def cREMOTE : Nat := 11
def cUSB : Nat := 12
def cSUPERSEDED : Nat := 13
def cTIMEOUT : Nat := 14

/-- The descriptor whose data is being fetched, the oldest. -/
def RingSt.fetching (x : RingSt) : Option Desc := x.descs.find? (fun d => d.stage == .fetching)

/-- A descriptor read failed (R273): retried after 200 ticks, lasting on the third failure. -/
def Hub.descReadFailed (h : Hub) (r slot : Nat) : Hub :=
  let x := h.ring r
  match x.reads.find? (fun d => d.slot = slot) with
  | none => h
  | some d =>
    if 2 ≤ d.fails then h.descFail r
    else h.setRing r { x with reads := x.reads.map (fun d => if d.slot = slot then
      { d with fails := d.fails + 1, retryAt := some (h.now + 200) } else d) }

/-- A data read failed (R273). -/
def Hub.dataReadFailed (h : Hub) (r slot : Nat) : Hub :=
  match h.descOf r slot with
  | none => h
  | some d =>
    if d.stage ≠ .fetching then h
    else if 2 ≤ d.fails then (h.bump F.HIF_ERRCNT_FETCHFAIL).finDesc r slot cFETCHERR (if h.rKind r = kBLK then d.moved else 0) 0
    else h.modDesc r slot (fun d => { d with fails := d.fails + 1, retryAt := some (h.now + 200) })

/-! ## The checks of a descriptor (R263 to R271) -/

/-- A TUN field names an entry of the ring's slice. -/
def Hub.tunMine (h : Hub) (r t : Nat) : Bool := h.get F.TUN_W0_SLICE t == h.rSlice r

/-- LEN of a TX descriptor for a tunnel type (R264, Table 5-3): of the PLEN range, less 8 bytes with AUTH = 1. A management payload
is 8 bytes longer with its tag. -/
def txLenOk (type len : Nat) (auth : Bool) : Bool :=
  let n := if auth then len + 8 else len
  match type with
  | 0 => 16 ≤ len && len ≤ 4112
  | 1 => 14 ≤ n && n ≤ 9216
  | 5 => 16 ≤ n && n ≤ 8200
  | _ => false

/-- LEN of a BLK or PERI descriptor. -/
def Desc.len (d : Desc) (kind : Nat) : Nat := if kind = kBLK then d.f 1 0 25 else if kind = kPERI then d.f 1 0 20 else d.f 1 0 14

/-- ROFF of a BLK descriptor. -/
def Desc.roff (d : Desc) : Nat := 2 ^ 32 * d.dw 5 + d.dw 4

/-- The first check of a descriptor that fails, as its status (R263, R264, R266 to R271, R328); CLOSED is left to the start. -/
def Hub.checkDesc (h : Hub) (r : Nat) (d : Desc) : Option Nat :=
  let k := h.rKind r
  let t := d.f 0 0 12
  let w := d.f 0 16 4
  if d.f 0 28 4 ≠ k then some cBADDESC
  else if k = kTX then
    if d.f 0 24 2 = 3 then some cBADDESC
    else if ¬ h.tunMine r t then some cDENIED
    else if h.get F.TUN_W2_FUNC t ≠ 0 ∨ ¬ txLenOk (h.get F.TUN_W0_TYPE t) (d.len k) (h.flag F.TUN_W0_AUTH t) then some cBADDESC
    else none
  else if k = kRX then
    let n := d.f 1 0 14
    if n % 64 ≠ 0 ∨ n < 64 ∨ 9216 < n ∨ d.dw 2 % 64 ≠ 0 then some cBADDESC else none
  else if k = kEVT then
    let n := d.f 1 0 16
    if n % 64 ≠ 0 ∨ n < 64 ∨ 32768 < n ∨ d.dw 2 % 64 ≠ 0 then some cBADDESC else none
  else if k = kFLIP then
    let p := h.get F.RCTX0_BIND r
    let l := d.f 0 16 2
    let b := (if l = 0 then h.get F.RAS_HTIM_HACT p else h.get F.RAS_LSIZE_W p l) * (if h.get F.RAS_LCFG_MFMT p l = 3 then 2 else 4)
    if d.f 1 0 16 % 64 ≠ 0 ∨ d.dw 2 % 64 ≠ 0 then some cBADDESC
    else if d.f 0 15 1 = 1 ∧ (d.f 1 0 16 < b ∨ 4096 * h.get F.RAS_LCFG_SHARE p l < b) then some cBADDESC
    else none
  else if k = kBLK then
    let n := d.len k
    if h.winOwner w ≠ h.rSlice r then some cDENIED
    else if n = 0 ∨ 16777216 < n ∨ h.wSize w < d.roff + n then some cBADDESC
    else if h.wState w = wERROR then some cREMOTE
    else if h.wState w = wIDLE ∨ h.wState w = wCLOSING then some cDENIED
    else none
  else
    if ¬ h.tunMine r t then some cDENIED
    else if h.get F.TUN_W2_FUNC t ≠ 0 ∨ h.get F.TUN_W0_TYPE t ≠ 4 ∨ h.get F.TUN_W2_FIDX t ≠ r then some cBADDESC
    else none

/-- Data that a descriptor has to fetch from host memory. -/
def Desc.needs (d : Desc) (kind : Nat) : Nat :=
  if kind = kTX then d.len kind
  else if kind = kBLK then (if d.f 0 22 1 = 0 then d.len kind else 0)
  else if kind = kPERI then (if d.f 4 15 1 = 0 then d.len kind else 0)
  else 0

/-- A descriptor has been read: checked, and ready at once where no data is to be fetched. -/
def Hub.takeDesc (h : Hub) (r : Nat) (d : Desc) : Desc :=
  match h.checkDesc r d with
  | some c => { d with stage := .done, status := c }
  | none =>
    let k := h.rKind r
    if k = kBLK ∨ 0 < d.needs k then { d with stage := .checked } else { d with stage := .ready }

/-! ## Reads that come back (R260, R261) -/

/-- The words of the descriptor read that began at a slot arrive: each descriptor is checked (R260). -/
def Hub.descArrive (h : Hub) (r slot : Nat) (ws : List Nat) : Hub :=
  let x := h.ring r
  match x.reads.find? (fun d => d.slot = slot) with
  | none => h
  | some q =>
    if ws.length ≠ 8 * q.n then h
    else
      let h := if 0 < q.fails then h.bump F.HIF_ERRCNT_FETCHRETRY else h
      let ds := x.descs.map (fun d =>
        if d.stage = .reading ∧ slot ≤ d.slot ∧ d.slot < slot + q.n then
          h.takeDesc r { d with w := (ws.drop (8 * (d.slot - slot))).take 8 }
        else d)
      h.setRing r { x with reads := x.reads.erase q, descs := ds }

/-- Bytes that the present data fetch of a descriptor brings: all of them, or one block request's worth (R268). -/
def Hub.fetchLen (h : Hub) (r : Nat) (d : Desc) : Nat :=
  let k := h.rKind r
  if k = kBLK then min (4096 - (h.wBase (d.f 0 16 4) + d.roff + d.asked) % 4096) (d.len k - d.asked) else d.needs k

/-- Bytes of a data fetch arrive (R261). A complete block request's worth joins the window's requests; the last one is
followed by the read of a FLUSH (R268, R269). -/
def Hub.dataArrive (h : Hub) (r slot : Nat) (bytes : Bytes) : Hub :=
  match h.descOf r slot with
  | none => h
  | some d =>
    if d.stage ≠ .fetching ∨ h.fetchLen r d < d.data.length + bytes.length then h
    else
      let h := if 0 < d.fails then h.bump F.HIF_ERRCNT_FETCHRETRY else h
      let data := d.data ++ bytes
      if data.length < h.fetchLen r d then h.modDesc r slot (fun d => { d with data := data, fails := 0 })
      else if h.rKind r = kBLK then
        let w := d.f 0 16 4
        let a := h.wBase w + d.roff
        let n := d.len kBLK
        let done := n ≤ d.asked + data.length
        let h := h.enq w { num := 0, wr := true, addr := a + d.asked, len := data.length, data := data, use := .blk r slot d.asked }
        let h := if done ∧ d.f 0 23 1 = 1 then h.enq w { num := 0, wr := false, addr := a + n - 1, len := 1, use := .flush r slot } else h
        h.modDesc r slot (fun d => { d with data := [], fails := 0, asked := d.asked + data.length,
                                            stage := if done then .offered else .checked })
      else h.modDesc r slot (fun d => { d with data := data, fails := 0, stage := .ready })

/-! ## Doorbells (R258) -/

/-- A producer index is taken. -/
def Hub.takePidx (h : Hub) (r p : Nat) : Hub := if h.rN r ≤ p then h.ringError r 2 else h.set F.RCTX6_PIDX p r

/-- A doorbell from the owner of slice `s` (none: every slice). -/
def Hub.doorbell (h : Hub) (s : Option Nat) (v : Word) : Hub :=
  let r := v.bits 0 12
  if h.rState r = rRUN ∧ (s = none ∨ s = some (h.rSlice r)) then h.takePidx r (v.bits 16 16)
  else h.bump F.HIF_ERRCNT_DBIGNORED

/-- An ARM write (R276); one that names no such ring is counted. -/
def Hub.arm (h : Hub) (s : Option Nat) (v : Word) : Hub :=
  let r := v.bits 0 12
  if h.rState r = rRUN ∧ (s = none ∨ s = some (h.rSlice r)) then h.armRing r (v.bits 16 16)
  else h.bump F.HIF_ERRCNT_DBIGNORED

/-- The slice whose rights a path carries: S0 but for a manager slot that names another (R181, R288). -/
def Hub.pathSlice (h : Hub) (p : Path) : Nat :=
  match p with
  | .tunnel m => h.get F.FAB_RMGR_SLICE m
  | _ => 0

/-- The slice to which a path's doorbells are limited (R259). -/
def Hub.pathLimit (h : Hub) (p : Path) : Option Nat := if h.pathSlice p = 0 then none else some (h.pathSlice p)

/-! ## Starting descriptors -/

/-- The descriptors in slot order after those whose work has all been given out. -/
def RingSt.nextDesc (x : RingSt) : Option Desc := x.descs.find? (fun d => d.stage != .done && d.stage != .offered)

/-- The status of a check that fails at the start, where CLOSED stands before the checks of FUNC, TYPE and LEN (R264). -/
def Hub.startStatus (h : Hub) (t c : Nat) : Nat :=
  if c = cBADDESC ∧ (h.tunState t = tsClosed ∨ h.tunState t = tsDraining) then cCLOSED else c

/-- The frame of a TX descriptor is built once its data is complete, after all five checks (R264, R265); it waits while its
entry is STARTING or cannot take it. -/
def Hub.startTx (h : Hub) (r : Nat) (d : Desc) : Hub × Bool :=
  let t := d.f 0 0 12
  let auth := h.flag F.TUN_W0_AUTH t
  let key := (d.data.getD 1 0#8).toNat / 128
  let plen := d.data.length + if auth then 8 else 0
  let st := h.tunState t
  match h.checkDesc r d with
  | some c => (h.finDesc r d.slot (h.startStatus t c) 0 0, true)
  | none =>
    if st = tsClosed ∨ st = tsDraining then (h.finDesc r d.slot cCLOSED 0 0, true)
    else if auth ∧ ¬ bitOf (h.get F.FAB_MGMTCFG_KEYEN) key then (h.finDesc r d.slot cDENIED 0 0, true)
    else if h.mayBuild t plen 32 then
      let payload := if auth then d.data ++ h.tagOf key (h.entryHdr t plen) d.data else d.data
      let h := h.build t payload 32 (.ring r d.slot) (d.f 0 24 2)
      (h.modDesc r d.slot (fun d => { d with stage := .offered, data := [] }), true)
    else (h, false)

/-- The RDs of a read transfer, or its end with the status of its window (R268, R308). -/
def Hub.startRead (h : Hub) (r : Nat) (d : Desc) : Hub :=
  let w := d.f 0 16 4
  match h.checkDesc r d with
  | some c => h.finDesc r d.slot c 0 0
  | none =>
    let a := h.wBase w + d.roff
    let h := (pagesOf a (d.len kBLK)).foldl (fun g p =>
      g.enq w { num := 0, wr := false, addr := p.1, len := p.2, use := .blk r d.slot (p.1 - a) }) h
    h.modDesc r d.slot (fun d => { d with stage := .offered, asked := d.len kBLK })

/-- Data cut into messages of at most `n` bytes, with whether each is the last (R270). -/
def cut : Nat → Nat → Bytes → List (Bytes × Bool)
  | 0, _, l => [(l, true)]
  | k + 1, n, l => if l.length ≤ n then [(l, true)] else (l.take n, false) :: cut k n (l.drop n)

/-- The XREQ messages of a PERI descriptor (Tables 5-8, 13-2). The descriptor names no start microframe, so an isochronous
transfer starts as soon as possible. -/
def Hub.xreqs (h : Hub) (d : Desc) : List TMsg :=
  let xt := d.f 4 13 2
  let dirIn := d.f 4 15 1 == 1
  let len := d.len kPERI
  let lead : Bytes := if xt = 0 then leBytes 4 (d.dw 5) ++ leBytes 4 (d.dw 6) else if xt = 1 then beBytes 4 (2 ^ 31) else []
  let body : Bytes := lead ++ (if xt ≠ 0 ∧ dirIn then beBytes 4 len else d.data)
  let n := h.get F.PERI_XSEG_XSEG
  let fixed := body.length - d.data.length
  (cut (body.length / n + 1) n body).zipIdx.map (fun p =>
    let o := max fixed (p.2 * n)
    { kind := pkXreq, last := p.1.2, zlp := d.f 0 12 1 == 1, port := d.f 4 27 5, dev := d.f 4 20 7, ep := d.f 4 16 4, dir := dirIn,
      xtype := xt, xid := d.slot, data := p.1.1, host := (d.addr + (o - fixed), p.2 * n + p.1.1.length - o) })

/-- A PERI descriptor starts: its messages join the session (R270); a lost session completes it (R351). -/
def Hub.startPeri (h : Hub) (r : Nat) (d : Desc) : Hub × Bool :=
  let t := d.f 0 0 12
  let st := h.tunState t
  match h.checkDesc r d with
  | some c => (h.finDesc r d.slot (h.startStatus t c) 0 0, true)
  | none =>
    if st = tsClosed ∨ st = tsDraining then (h.finDesc r d.slot cCLOSED 0 0, true)
    else if (h.sess t).lost then (h.finDesc r d.slot cUSB 0 (2 ^ 16 * d.slot + 15), true)
    else if st = tsOpen then
      let h := (h.xreqs d).foldl (fun g m => g.post t none m) h
      (h.modDesc r d.slot (fun d => { d with stage := .offered, data := [] }), true)
    else (h, false)

/-! ### A message sent again (R349, R273) -/

/-- The ring engine of a tunnel entry reads the data of a message again. -/
def Hub.resendFetch (h : Hub) (t : Nat) (s : SMsg) (fails : Nat) : Hub :=
  let r := h.get F.TUN_W2_FIDX t
  let k := h.now
  (h.setSess t { h.sess t with fetch := some { seq := s.seq, at_ := k, fails := fails } }).ringRead r s.msg.host.1 s.msg.host.2
    (.resend r t k) (fun o => .rsend t k o)

/-- The message that a session's ring engine has to read for. -/
def Hub.resendNeed (h : Hub) (t : Nat) : Option SMsg :=
  let x := h.sess t
  let st := h.rState (h.get F.TUN_W2_FIDX t)
  if x.lost ∨ h.get F.TUN_W2_FUNC t ≠ 0 ∨ (st ≠ rRUN ∧ st ≠ rRESETTING) then none
  else
    match x.again with
    | q :: _ => x.unack.find? (fun s => s.seq == q && decide (0 < s.msg.host.2))
    | [] => none

/-- The data of the next message to be sent again is asked for. -/
def Hub.resendRead (h : Hub) (t : Nat) : Hub :=
  match h.resendNeed t, (h.sess t).fetch with
  | some s, none => h.resendFetch t s 0
  | _, _ => h

/-- Bytes of a message that is sent again arrive. -/
def Hub.resendArrive (h : Hub) (t k : Nat) (bytes : Bytes) : Hub :=
  match (h.sess t).fetch with
  | some f =>
    if f.at_ ≠ k then h
    else
      let h := if 0 < f.fails then h.bump F.HIF_ERRCNT_FETCHRETRY else h
      h.setSess t { h.sess t with fetch := some { f with got := f.got ++ bytes, fails := 0 } }
  | none => h

/-- A read of a message's data failed: again after 200 ticks; the third failure in a row completes the descriptor FETCHERR, and the
message waits for the next expiry (R273; log entry 68). -/
def Hub.resendFailed (h : Hub) (t k : Nat) : Hub :=
  let x := h.sess t
  match x.fetch with
  | some f =>
    if f.at_ ≠ k then h
    else if f.fails < 2 then h.setSess t { x with fetch := some { f with got := [], fails := f.fails + 1, retryAt := some (h.now + 200) } }
    else
      let h := (h.bump F.HIF_ERRCNT_FETCHFAIL).setSess t { x with fetch := none, again := x.again.filter (fun q => q != f.seq) }
      match x.unack.find? (fun s => s.seq == f.seq) with
      | some s => h.finDesc (h.get F.TUN_W2_FIDX t) s.msg.xid cFETCHERR 0 0
      | none => h
  | none => h

/-- Reads of a ring's messages whose 200 ticks have passed are issued again. -/
def Hub.resendRetry (h : Hub) (r : Nat) : Hub :=
  h.each ((h.peri.sess.map (·.1)).filter (fun t => h.get F.TUN_W2_FIDX t == r && h.due ((h.sess t).fetch.bind (·.retryAt)))) (fun t g =>
    match g.resendNeed t, (g.sess t).fetch with
    | some s, some f => g.resendFetch t s f.fails
    | _, _ => g)

/-- The work of a descriptor has started, so that a reset does not withdraw it (Table 9-4). -/
def Desc.begun (d : Desc) : Bool := d.started || d.stage == .done

/-- What a RUN ring can start now, in slot order, and the completions that are due. A transfer starts once those before it have
(R272), and a read transfer as far ahead as a data fetch may (R261). -/
def Hub.pumpRing (h : Hub) (r : Nat) : Nat → Hub
  | 0 => h
  | k + 1 =>
    let h := (h.drainDone r (h.ring r).descs.length).modCheck r
    if h.rState r ≠ rRUN then h
    else
      match (h.ring r).nextDesc with
      | none => h
      | some d =>
        let kind := h.rKind r
        let before := (h.ring r).descs.takeWhile (fun q => q.slot != d.slot)
        let turn := before.all (·.begun)
        let go (x : Hub × Bool) : Hub := if x.2 then x.1.pumpRing r k else x.1
        if kind = kTX ∧ d.stage = .ready then go (h.startTx r d)
        else if kind = kPERI ∧ d.stage = .ready ∧ turn then go (h.startPeri r d)
        else if kind = kBLK ∧ d.stage = .checked ∧ d.f 0 22 1 = 1 ∧ turn ∧ (d.f 0 26 1 = 0 ∨ before = []) ∧
            before.length ≤ h.get F.HIF_FETCHCFG_RADEPTH then (h.startRead r d).pumpRing r k
        else h

/-! ## Reset (R262, R278, R279) -/

/-- Rings that are not IDLE. -/
def Hub.liveRings (h : Hub) : List Nat :=
  h.regs.filterMap (fun x =>
    if 0x2000000 ≤ x.1 ∧ x.1 < 0x2040000 ∧ x.1 % 0x40 = 0 ∧ x.2.bits 28 3 ≠ 0 then some ((x.1 - 0x2000000) / 0x40) else none)

/-- A protected packet that has not committed was never sent: it leaves retention, and the newest of its entry gives its ESEQ back
(R155, R262; log entry 68). -/
def Hub.unretain (h : Hub) (i : Nat) : Hub :=
  match h.frm i with
  | none => h
  | some f =>
    match f.tun with
    | none => h
    | some t =>
      if ¬ f.retained then h
      else
        let x := h.tun t
        let h := ((h.retDown f.n).setFrm i { f with retained := false }).setTun t { x with retain := x.retain.filter (fun p => p.2 ≠ i) }
        let last := h.get F.TUN_W4_TXSEQ t = (f.hdr.eseq + 1) % 2 ^ 24
        (if last then h.set F.TUN_W4_TXSEQ f.hdr.eseq t else h).tunWord6 t

/-- What a meter charged for a frame, and counted, is taken back (R19, R262). -/
def Hub.unmeter (h : Hub) (i : Nat) : Hub :=
  match (h.frm i).bind (·.metered) with
  | none => h
  | some (m, c, l) =>
    let h := if c = 1 then h.set F.MTR_W3_YELLOW (h.get F.MTR_W3_YELLOW m - 1) m
      else if c = 2 then h.set F.MTR_W3_RED (h.get F.MTR_W3_RED m - 1) m else h
    h.setMeter m ((h.meter m).refund c l)

/-- The staged frame of a TX descriptor is freed without an answer (R262). -/
def Hub.withdrawTx (h : Hub) (r slot : Nat) : Hub :=
  match h.core.frames.findSome? (fun x => match x.2 with
      | some f => if f.origin = .ring r slot ∧ f.phase ≠ .accepted then some (x.1, f) else none
      | none => none) with
  | some (i, f) => (((h.setFrm i { f with origin := .none }).unretain i).unmeter i).dropStaged i
  | none => h

/-- Requests that have not been sent are withdrawn, and answers to the others are of no more use. -/
def Hub.abandonReqs (h : Hub) (mine : RdUse → Bool) : Hub :=
  h.each windows (fun w g =>
    let x := g.win w
    let off (q : BlkReq) : BlkReq := if mine q.use then { q with abandoned := true } else q
    g.setWin w { x with wait := (x.wait.filter (fun q => !mine q.use || q.again)).map off, sent := x.sent.map off })

/-- A descriptor's requests and reads are given up. -/
def Hub.abandon (h : Hub) (r slot : Nat) : Hub :=
  (h.dropReads (ofData r (some slot))).abandonReqs (fun u => match u with
    | .blk a b _ => a == r && b == slot
    | .flush a b => a == r && b == slot
    | .rdata a b _ => a == r && b == slot
    | _ => false)

/-- Messages of a PERI descriptor none of which has left leave the session's queue (R262). -/
def Hub.withdrawMsgs (h : Hub) (r t slot : Nat) : Hub :=
  if h.get F.TUN_W2_FUNC t = 0 ∧ h.get F.TUN_W2_FIDX t = r then
    let x := h.sess t
    h.setSess t { x with queue := x.queue.filter (fun p => !(p.2.kind == pkXreq && p.2.xid == slot)) }
  else h

/-- A descriptor that has not started is discarded, with its data, its frame, its requests or its messages (R262). -/
def Hub.withdraw (h : Hub) (r : Nat) (d : Desc) : Hub :=
  let h := h.abandon r d.slot
  if d.stage ≠ .offered then h
  else if h.rKind r = kTX then h.withdrawTx r d.slot
  else if h.rKind r = kPERI then h.withdrawMsgs r (d.f 0 0 12) d.slot
  else h

/-- Reads of a ring's descriptors, and its polls, are given up: what they bring is discarded on arrival (Table 9-13). -/
def Hub.dropFetches (h : Hub) (r : Nat) : Hub :=
  (h.dropReads (ofDescs r)).abandonReqs (fun u => match u with
    | .rdesc a _ => a == r
    | .rpidx a => a == r
    | _ => false)

/-- Flips of a ring that wait for a frame start are dropped; when the tick ends their layers go back (Table 9-13, R337). -/
def Hub.dropFlips (h : Hub) (r : Nat) : Hub :=
  h.each (h.ras.pipes.map (·.1)) (fun d g =>
    let x := g.pipe d
    if x.due.any (fun p => p.1 == r) then g.setPipe d { x with due := x.due.filter (fun p => p.1 ≠ r), undo := true } else g)

/-- Descriptors that are started and not finished complete SQUASHED; answers their number. -/
def Hub.squash (h : Hub) (r : Nat) : Nat × Hub :=
  let l := (h.ring r).descs.filter (fun d => d.stage != .done)
  (l.length, l.foldl (fun g d => (g.abandon r d.slot).finDesc r d.slot cSQUASHED (if g.rKind r = kBLK then d.moved else 0) 0) h)

/-- The started descriptors of a ring complete SQUASHED; a slice reset that runs counts them (R292). -/
def Hub.squashRing (h : Hub) (r : Nat) : Hub :=
  let s := h.rSlice r
  let q := h.squash r
  match Tab.get none h.hif.srst s with
  | some x => { q.2 with hif := { q.2.hif with srst := Tab.set none q.2.hif.srst s (some { x with squashed := x.squashed + q.1 }) } }
  | none => q.2

/-- Steps 1 to 3 of Table 9-13: descriptors that have not started are withdrawn, the newest first; the started ones run on. -/
def Hub.ringReset (h : Hub) (r : Nat) (wipe : Bool) : Hub :=
  if h.rState r = rRESETTING then h.setRing r { h.ring r with wipe := wipe || (h.ring r).wipe }
  else
    let x := h.ring r
    let h := (h.set F.RCTX0_STATE rRESETTING r).setRing r
      { x with descs := x.descs.filter (·.begun), reads := [], polling := false, resetAt := some h.now, wipe := wipe }
    let h := (h.dropFetches r).dropFlips r
    let h := (x.descs.filter (fun d => !d.begun)).reverse.foldl (fun g d => g.withdraw r d) h
    h.drainDone r (h.ring r).descs.length

/-- Rings assigned to two slices after a ring passes from one to the other (Table 10-6). -/
def Hub.moveRing (h : Hub) (a b : Nat) : Hub :=
  if a = b then h
  else (h.set F.SLC_STAT_RINGS (h.get F.SLC_STAT_RINGS a - 1) a).set F.SLC_STAT_RINGS (h.get F.SLC_STAT_RINGS b + 1) b

/-- The context words of a ring go back to their reset values; software writes of the tick do not reach them (R55). -/
def Hub.wipeRing (h : Hub) (r : Nat) : Hub :=
  let h := h.moveRing (h.rSlice r) 0
  (List.range 11).foldl (fun g i => let a := 0x2000000 + r * 0x40 + i * 4; (g.setReg a (resetWord a)).hot a 0xFFFFFFFF#32) h

/-- A ring reset ends (Table 9-13, step 5). -/
def Hub.ringIdle (h : Hub) (r : Nat) : Hub :=
  let x := h.ring r
  let h := ((((h.set F.RCTX0_STATE rIDLE r).raise F.RCTX0_EN 0 r).set F.RCTX6_PIDX 0 r).set F.RCTX6_DONE 0 r).setRing r {}
  if x.wipe then h.wipeRing r else h

/-! ## Enabling (R282, R283, R286) -/

/-- Another RUN ring of this kind binds the pipe or stream. -/
def Hub.bindTaken (h : Hub) (r kind b : Nat) : Bool :=
  h.liveRings.any (fun q => q != r && h.rState q == rRUN && h.rKind q == kind && h.get F.RCTX0_BIND q == b)

/-- The conditions of R283 and R286 for a ring with the context it now holds. -/
def Hub.ringOk (h : Hub) (r : Nat) : Bool :=
  let k := h.rKind r
  let s := h.rSlice r
  let b := h.get F.RCTX0_BIND r
  h.get F.RCTX1_DBASE_LO r % 64 == 0 && h.get F.RCTX3_CBASE_LO r % 64 == 0 && h.bound s &&
  (k != kFLIP || (h.pipeOwner b == s && !h.bindTaken r kFLIP b)) &&
  (k != kEVT || (h.strmOwner b == s && !h.bindTaken r kEVT b)) &&
  (!h.rRemote r || (h.winOwner (h.get F.RCTX0_WIN r) == s && (k == kTX || k == kRX || k == kPERI || k == kEVT)))

/-- A ring starts: RUN, armed, PIDX and DONE 0 (R255, R275). -/
def Hub.ringStart (h : Hub) (r : Nat) : Hub :=
  ((((((h.set F.RCTX0_STATE rRUN r).set F.RCTX0_EN 1 r).set F.RCTX6_PIDX 0 r).set F.RCTX6_DONE 0 r).set F.RCTX5_ARMED 1 r).set
    F.RCTX7_ERRCODE 0 r).setRing r { polled := h.now }

/-- A write of word 0 of a ring's context; a slice other than S0 leaves SLICE, REMOTE and WIN (R282, R283, Table 10-2). -/
def Hub.rctx0 (h : Hub) (r : Nat) (v : Word) (s0 : Bool) : Hub :=
  let st := h.rState r
  if st = rIDLE then
    let n := v.bits 23 5
    let k := v.bits 20 3
    let enc := decide (4 ≤ n) && decide (n ≤ 16) && decide (k ≤ 5)
    let h := if 4 ≤ n ∧ n ≤ 16 then h.set F.RCTX0_LOG2N n r else h
    let h := if k ≤ 5 then h.set F.RCTX0_KIND k r else h
    let h := if s0 then
        (((h.moveRing (h.rSlice r) (v.bits 8 7)).set F.RCTX0_REMOTE (v.bits 19 1) r).set F.RCTX0_WIN (v.bits 15 4) r).set
          F.RCTX0_SLICE (v.bits 8 7) r
      else h
    let h := (h.set F.RCTX0_DROPNB (v.bits 7 1) r).set F.RCTX0_BIND (v.bits 4 3) r
    if v.bits 31 1 = 0 then h
    else if enc && h.ringOk r then h.ringStart r
    else h.set F.RCTX7_ERRCODE 3 r
  else if v.bits 31 1 = 0 ∧ (st = rRUN ∨ st = rERROR) then h.ringReset r false
  else h

end Sys2Proof.Machine
end

