-- ==== Sys2Proof/Machine/RasOps.lean ====
section
/-! DEFINITION. Shared operations of the raster engine: timing, flags, segments, and the claims that fields of RAS_CTL make
(spec/12_raster_engine.md). -/

namespace Sys2Proof.Machine

/-- Layers. -/
def layers : List Nat := [0, 1, 2, 3]

/-- Bytes per pixel of a memory format (Table 12-1). -/
def fmtB (m : Nat) : Nat := if m = 3 then 2 else 4

/-- Bits per pixel of a wire format (Table 12-2). -/
def fmtBpp : Nat → Nat
  | 0 => 24
  | 1 => 30
  | 2 => 18
  | _ => 16

/-- Component widths of a wire format. -/
def fmtComp : Nat → Nat × Nat × Nat
  | 0 => (8, 8, 8)
  | 1 => (10, 10, 10)
  | 2 => (6, 6, 6)
  | _ => (5, 6, 5)

/-- FPER in 1/65,536 tick. -/
def Hub.fperReg (h : Hub) (d : Nat) : Nat := 65536 * h.get F.RAS_FPER_INT d + h.get F.RAS_FPERF_FRAC d

def Hub.vact (h : Hub) (d : Nat) : Nat := h.get F.RAS_VTIM_VACT d
def Hub.vtot (h : Hub) (d : Nat) : Nat := h.get F.RAS_VTIM_VTOT d
def Hub.hact (h : Hub) (d : Nat) : Nat := h.get F.RAS_HTIM_HACT d

/-- The tick of line `l` of the present frame: F + floor(l × LPER) (R318). -/
def Hub.lineTick (h : Hub) (d l : Nat) : Nat := (h.pipe d).ftick + l * (h.pipe d).fper / (65536 * max 1 (h.vtot d))

/-- STATE codes of RAS_CTL. -/
def pIDLE : Nat := 0
def pPREP : Nat := 1
def pRUN : Nat := 2
def Hub.pState (h : Hub) (d : Nat) : Nat := h.get F.RAS_CTL_STATE d

/-- The slice's producer of a pipe. -/
def Hub.pipeProd (h : Hub) (d : Nat) : Nat := prodSlice (h.pipeOwner d)

/-- An event flag of a pipe is set; going from 0 to 1 it may send the vector (Tables 12-14, 12-16). -/
def Hub.rasFlag (h : Hub) (d : Nat) (f : Fld) (v sel : Nat) : Hub :=
  let old := h.get f d
  let h := (h.set f (old ||| v) d).hot (f.addr d 0) (Word.setBits 0#32 f.lo f.w v)
  if (old ||| v) ≠ old ∧ h.flag F.RAS_IRQ_EN d ∧ bitOf (h.get F.RAS_IRQ_SEL d) sel then h.vector (h.get F.RAS_IRQ_VEC d) else h

/-- Segments that wait are dropped (R326). -/
def Hub.dropSegs (h : Hub) (d : Nat) : Hub :=
  let x := h.pipe d
  if x.segs = [] then h
  else ((h.setPipe d { x with segs := [] }).bump F.RAS_CNT0_SEGDROP d x.segs.length).rasFlag d F.RAS_EVT_SEGDROP 1 4

/-- Segments enter staging in order as it has room; where the tunnel entry is no longer OPEN they are dropped (R326). -/
def Hub.pumpSegs (h : Hub) (d : Nat) : Nat → Hub
  | 0 => h
  | k + 1 =>
    let x := h.pipe d
    let t := h.get F.RAS_OUT_TUN d
    match x.segs with
    | [] => h
    | s :: rest =>
      if h.tunState t ≠ tsOpen then h.dropSegs d
      else if h.mayBuild t s.length 33 then ((h.setPipe d { x with segs := rest }).build t s 33 .none).pumpSegs d k
      else h

/-- FRAME of the next frame. -/
def Hub.nextFrame (h : Hub) (d : Nat) : Nat :=
  let x := h.pipe d
  if x.lock = 2 then x.k % 65536 else if x.first then 0 else (h.get F.RAS_STAT_FRAME d + 1) % 65536

/-- The frame being composed or, from its latch tick on, fetched, and the line it has come to. -/
def Hub.composing (h : Hub) (d : Nat) : Nat × Nat :=
  if (h.pipe d).latched then (h.nextFrame d, 0) else (h.get F.RAS_STAT_FRAME d, (h.pipe d).line)

/-- Layer `l` underruns (R331): off for the rest of the frame, its reads abandoned; flag, count and record. -/
def Hub.underrun (h : Hub) (d l line : Nat) : Hub :=
  let x := h.pipe d
  let y := x.layer l
  if y.under then h
  else
    let h := (h.dropReads (ofLine d l)).setPipe d { x.setLayer l { y with under := true, coming := [], lines := [] } with undr := true }
    let h := (h.rasFlag d F.RAS_EVT_UNDERRUN (2 ^ l) 0).bump F.RAS_CNT0_UNDERRUN d
    h.rec2 (h.pipeProd d) 8 0x01 (srcPipe d) (2 ^ 22 * l + line) (h.composing d).1

/-! ## Claims of RAS_CTL (R314, R319, R322, R323) -/

/-- Whether any pipe but `d` is locked to SYNC_IN. -/
def Hub.syncUsed (h : Hub) (d : Nat) : Bool := (List.range 8).any (fun p => p != d && h.get F.RAS_CTL_LOCK p == 1)

/-- LOCK written: a change to SYNC_IN claims the pin, the last pipe to leave it releases it; TEGATE excludes every lock but
free-running (R319, R323). A change to ridge-time lock notes when it was made (R321). -/
def Hub.setLock (h : Hub) (d v tegate : Nat) : Hub :=
  let h := h.unrefuse (fkey F.RAS_CTL_LOCK d)
  let old := h.get F.RAS_CTL_LOCK d
  if v = old ∨ 2 < v ∨ (v ≠ 0 ∧ tegate = 1) then h
  else if v = 1 then
    match h.claimFor (fkey F.RAS_CTL_LOCK d) resSyncIn ownRaster with
    | (true, h) => h.set F.RAS_CTL_LOCK 1 d
    | (false, h) => if h.firstOf F.RAS_CTL_LOCK d = 1 then h else h.set F.RAS_CTL_LOCK (h.firstOf F.RAS_CTL_LOCK d) d
  else
    let h := h.set F.RAS_CTL_LOCK v d
    let h := if v = 2 then h.setPipe d { h.pipe d with wrote := some h.ridge } else h
    if old = 1 ∧ ¬ h.syncUsed d then h.release resSyncIn ownRaster else h

/-- FPULSE written: it claims SYNC_OUT for the pipe (R322). -/
def Hub.setFpulse (h : Hub) (d v : Nat) : Hub :=
  let h := h.unrefuse (fkey F.RAS_CTL_FPULSE d)
  if v = h.get F.RAS_CTL_FPULSE d then h
  else if v = 1 then
    match h.claimFor (fkey F.RAS_CTL_FPULSE d) resSyncOut (ownPipe d) with
    | (true, h) => h.set F.RAS_CTL_FPULSE 1 d
    | (false, h) => h
  else
    let x := h.pipe d
    let h := if x.pulseEnd.isSome then (h.emit (.pin .syncOut false)).setPipe d { x with pulseEnd := none } else h
    (h.release resSyncOut (ownPipe d)).set F.RAS_CTL_FPULSE 0 d

/-- PAIR written in IDLE: it claims, or releases, the buffer of the neighbouring pipe (R314). -/
def Hub.setPair (h : Hub) (d v : Nat) : Hub :=
  let q := d ^^^ 1
  let h := h.unrefuse (fkey F.RAS_CTL_PAIR d)
  if v = h.get F.RAS_CTL_PAIR d then h
  else if v = 1 then
    match h.claimFor (fkey F.RAS_CTL_PAIR d) (resPixbuf q) (ownPipe d) with
    | (true, h) => h.set F.RAS_CTL_PAIR 1 d
    | (false, h) => h
  else (h.release (resPixbuf q) (ownPipe d)).set F.RAS_CTL_PAIR 0 d

/-- TESRC and TEGPIO written in IDLE: GPIO gating claims its pin (R323). A refused claim of another pin leaves TEGPIO and the pin
already held; one that TESRC makes leaves TESRC (R25). -/
def Hub.setTe (h : Hub) (d src g : Nat) : Hub :=
  let h := h.unrefuse (fkey F.RAS_CTL_TESRC d)
  let old := h.get F.RAS_CTL_TEGPIO d
  let was := h.get F.RAS_CTL_TESRC d
  let leave (h : Hub) : Hub := if was = 1 then h.release (resGpio old) (ownPipe d) else h
  if src = 0 then ((leave h).set F.RAS_CTL_TESRC 0 d).set F.RAS_CTL_TEGPIO g d
  else if was = 1 ∧ g = old then h
  else
    match h.claimFor (fkey F.RAS_CTL_TESRC d) (resGpio g) (ownPipe d) with
    | (true, h) => ((leave h).set F.RAS_CTL_TEGPIO g d).set F.RAS_CTL_TESRC 1 d
    | (false, h) => if was = 1 then h else h.set F.RAS_CTL_TEGPIO g d

/-! ## Enabling (R313) -/

/-- The timing satisfies R317. -/
def Hub.timingOk (h : Hub) (d : Nat) : Bool :=
  let ha := h.hact d
  let ht := h.get F.RAS_HTIM_HTOT d
  let va := h.vact d
  let vt := h.vtot d
  let f := h.fperReg d
  decide (1 ≤ ha ∧ ha ≤ 4096 ∧ ha ≤ ht ∧ ht ≤ 8191 ∧ 1 ≤ va ∧ va ≤ 4096 ∧ va + 2 ≤ vt ∧ vt ≤ 8191) &&
  decide (64 * 65536 * vt ≤ f) &&
  -- pixel clock: HTOT × VTOT / (FPER × 5 ns) at most 640 MHz
  decide (ht * vt * 200 * 65536 ≤ 640 * f) &&
  decide (ha * va * 200000000 * 65536 ≤ 530841600 * f)

/-- Units of 4 KiB a pipe holds (R314). -/
def Hub.unitsHeld (h : Hub) (d : Nat) : Nat := 128 + if h.owner (resPixbuf (d ^^^ 1)) = ownPipe d then 128 else 0

/-- A write of EN = 1 in IDLE. -/
def Hub.pipeStart (h : Hub) (d : Nat) : Hub :=
  let t := h.get F.RAS_OUT_TUN d
  let refuse (h : Hub) (c : Nat) : Hub := h.set F.RAS_CTL_ERRCODE c d
  if ¬ h.timingOk d then refuse h 1
  else
    match h.claimFor (fkey F.RAS_CTL_EN d) (resPixbuf d) (ownPipe d) with
    | (false, h) => refuse h 2
    | (true, h) =>
      let c := if h.flag F.RAS_CTL_PAIR d ∧ h.owner (resPixbuf (d ^^^ 1)) ≠ ownPipe d then 2
        else if h.tunState t ≠ tsOpen ∨ h.get F.TUN_W0_TYPE t ≠ 2 ∨ h.get F.TUN_W2_FUNC t ≠ 1 ∨ h.get F.TUN_W2_FIDX t ≠ d ∨
          h.get F.TUN_W0_SLICE t ≠ h.pipeOwner d then 3
        else if h.unitsHeld d < layers.foldl (fun a l => a + h.get F.RAS_LCFG_SHARE d l) 0 then 4
        else if 3 < h.get F.RAS_OUT_FMT d ∨ 9200 < ceilDiv (h.get F.RAS_OUT_SEGMAX d * fmtBpp (h.get F.RAS_OUT_FMT d)) 8 then 5
        else 0
      if c ≠ 0 then refuse (h.release (resPixbuf d) (ownPipe d)) c
      else
        let x := h.pipe d
        let lock := h.get F.RAS_CTL_LOCK d
        let base := h.get64 F.RAS_BASE_LO_BASE_LO F.RAS_BASE_HI_BASE_HI d
        let fper := h.fperReg d
        let need := h.ridge + 100000 - base
        let k := if lock = 2 then ceilDiv (need * 65536) fper else 0
        -- in PREP the tolerance is 0 (R334)
        let h := ((h.set F.RAS_CTL_EN 1 d).set F.RAS_CTL_STATE pPREP d).set F.RAS_TOL_TOL 0 d
        h.setPipe d { layers := x.layers.map (fun p => (p.1, { p.2 with lines := [], coming := [], req := 0, under := false, fmin := none })),
                      enAt := h.now, enRidge := h.ridge, lock := lock, base := base, fper := fper, k := k,
                      f0 := h.now + 100000, allOff := x.allOff }

/-- A layer goes back to the base it has in the present frame: what a latched flip would have shown is no longer fetched (R328). -/
def Hub.unflip (h : Hub) (d l : Nat) : Hub :=
  let x := h.pipe d
  let y := x.layer l
  match y.kept with
  | none => h
  | some (on, a, p) =>
    (h.dropReads (ofLine d l)).setPipe d
      (x.setLayer l { y with on := on, addr := a, pitch := p, kept := none, req := 0, coming := [], lines := [] })

/-- The end of a tick in which latched flips were dropped: a frame that started in it is left as latched (R337). -/
def Hub.rasTick (h : Hub) : Hub :=
  h.each ((h.ras.pipes.filter (fun e => e.2.undo)).map (·.1)) (fun d g =>
    let g := g.each layers (fun l k => k.unflip d l)
    g.setPipe d { g.pipe d with undo := false })

/-- A write of EN = 0 (R336): flips that were latched stay pending, and what reads in flight bring is discarded. -/
def Hub.pipeStop (h : Hub) (d : Nat) : Hub :=
  if h.pState d = pIDLE then h
  else
    let h := h.each layers (fun l g => (g.unflip d l).dropReads (ofLine d l))
    let x := h.pipe d
    let h := (h.set F.RAS_CTL_EN 0 d).set F.RAS_CTL_STATE pIDLE d
    let h := h.release (resPixbuf d) (ownPipe d)
    let h := x.due.foldl (fun g p => g.modDesc p.1 p.2.1 (fun q => if q.stage = .offered then { q with stage := .ready } else q)) h
    let h := if x.pulseEnd.isSome then h.emit (.pin .syncOut false) else h
    h.setPipe d { layers := x.layers.map (fun p => (p.1, { p.2 with lines := [], coming := [] })), allOff := x.allOff }

/-- EN written 0: what an earlier write of EN in the tick was refused, and its ERRCODE, are no refusal (R30). -/
def Hub.enTake (h : Hub) (d : Nat) : Hub :=
  if h.led.refused.any (fun x => x.key == fkey F.RAS_CTL_EN d) then
    (h.unrefuse (fkey F.RAS_CTL_EN d)).set F.RAS_CTL_ERRCODE (h.firstOf F.RAS_CTL_ERRCODE d) d
  else h

/-- A write of RAS_CTL: the other fields first, then EN. -/
def Hub.rasCtl (h : Hub) (d : Nat) (v : Word) : Hub :=
  let h := h.keepFirst (F.RAS_CTL_EN.addr d 0)
  let tegate := v.bits 21 1
  let lock := v.bits 14 2
  let idle := h.pState d == pIDLE
  -- TEGATE = 1 and LOCK other than free-running exclude each other: each is judged by the other's present value
  let h := if tegate = 1 ∧ h.get F.RAS_CTL_LOCK d ≠ 0 then h else h.set F.RAS_CTL_TEGATE tegate d
  let h := h.setLock d lock (h.get F.RAS_CTL_TEGATE d)
  let h := h.setFpulse d (v.bits 22 1)
  let h := if v.bits 0 8 = 0 then h else h.set F.RAS_CTL_FPW (v.bits 0 8) d
  let h := if idle then (h.setPair d (v.bits 23 1)).setTe d (v.bits 20 1) (v.bits 16 4) else h
  if v.bits 31 1 = 0 then (h.enTake d).pipeStop d else if idle then (h.enTake d).pipeStart d else h

/-! ## Slice reset (Table 10-3) -/

/-- Pending flips of a slice's pipes have gone with their rings; in squash mode the layers go off at the first frame start after this
tick (R336). -/
def Hub.rasReset (h : Hub) (s : Nat) (squash : Bool) : Hub :=
  if ¬ squash then h
  else h.each ((List.range 8).filter (fun d => h.pipeOwner d = s)) (fun d g => g.setPipe d { g.pipe d with allOff := some g.now })

end Sys2Proof.Machine
end

