-- ==== Sys2Proof/Machine/PeriOps.lean ====
section
/-! DEFINITION. Shared operations of the peripheral controller: contexts and their areas, transfers and their ends, port
events (spec/13_peripheral_controller.md). -/

namespace Sys2Proof.Machine

def Hub.pport (h : Hub) (n : Nat) : PeriPort := Tab.get {} h.peri.ports n
def Hub.setPport (h : Hub) (n : Nat) (x : PeriPort) : Hub := { h with peri := { h.peri with ports := Tab.set {} h.peri.ports n x } }
def Hub.setXfers (h : Hub) (l : List Xfer) : Hub := { h with peri := { h.peri with xfers := l } }

/-- PERI_PSTATn.STATE codes (Table 13-11). -/
def upOFF : Nat := 0
def upDISCONNECTED : Nat := 1
def upATTACHED : Nat := 2
def upRESETTING : Nat := 3
def upENABLED : Nat := 4
def upSUSPENDED : Nat := 5
def upRESUMING : Nat := 6
def upDISABLED : Nat := 7
def Hub.upState (h : Hub) (n : Nat) : Nat := h.get F.PERI_PSTAT_STATE n

/-- Transfer status codes (Table 13-3). -/
def xOK : Nat := 0
def xSTALL : Nat := 1
def xXACTERR : Nat := 2
def xBABBLE : Nat := 3
def xBUSRESET : Nat := 4
def xDISCONNECT : Nat := 5
def xSUSPENDED : Nat := 6
def xNOTOWNER : Nat := 7
def xBADREQ : Nat := 8
def xNOEP : Nat := 9
def xNEEDADDR : Nat := 10
def xHALTED : Nat := 11
def xISOPART : Nat := 12
def xLATE : Nat := 13
def xSQUASHED : Nat := 14
def xSESSION : Nat := 15
def xNOMEM : Nat := 16

/-- PERI_ECTX0.STATE codes. -/
def eIDLE : Nat := 0
def eACTIVE : Nat := 1
def eHALTED : Nat := 2
def eNEEDADDR : Nat := 3

/-! ## Contexts (R344 to R346) -/

/-- The enabled contexts, in order. -/
def Hub.ctxs (h : Hub) : List Nat :=
  h.regs.filterMap (fun x =>
    if 0x3000000 ≤ x.1 ∧ x.1 < 0x3004000 ∧ x.1 % 16 = 0 ∧ x.2.bits 31 1 = 1 then some ((x.1 - 0x3000000) / 16) else none)

def Hub.ctxSize (h : Hub) (x : Nat) : Nat := h.get F.ECTX2_SIZE x * 64
def Hub.ctxMps (h : Hub) (x : Nat) : Nat := h.get F.ECTX1_MPS x

/-- The enabled context that a request matches (R344). -/
def Hub.matchCtx (h : Hub) (port dev ep : Nat) (dir : Bool) : Option Nat :=
  h.ctxs.find? (fun x => h.get F.ECTX0_PORT x == port && h.get F.ECTX0_DEVADDR x == dev && h.get F.ECTX0_EPNUM x == ep &&
    (h.get F.ECTX0_XTYPE x == 0 || h.flag F.ECTX0_DIR x == dir))

/-- Transfers of a context, in arrival order; the first has started (R354). -/
def Hub.xfersOf (h : Hub) (x : Nat) : List Xfer := h.peri.xfers.filter (fun q => q.ctx == x)

/-- Bytes of a context's area in use (R346): data that waits for the bus, data received and not yet acknowledged. -/
def Hub.areaUsed (h : Hub) (x : Nat) : Nat :=
  (h.xfersOf x).foldl (fun a q => a + q.out.length + q.buf.length + if q.phase = 0 then q.setup.length else 0) 0 +
  h.peri.sess.foldl (fun a p =>
    a + (p.2.unack.filter (fun m => m.ctx == some x)).foldl (fun b m => b + m.msg.data.length) 0 +
    (p.2.queue.filter (fun m => m.1 == some x)).foldl (fun b m => b + m.2.data.length) 0) 0

def Hub.areaFree (h : Hub) (x : Nat) : Nat := h.ctxSize x - h.areaUsed x

/-- QUEUED follows the transfers of the context (Table 13-9). -/
def Hub.showQueued (h : Hub) (x : Nat) : Hub := h.set F.ECTX1_QUEUED (min 7 ((h.xfersOf x).length - 1)) x

/-! ## The end of a transfer (R353) -/

/-- The transfer has an IN data stage. -/
def Xfer.dataIn (q : Xfer) : Bool := if q.xtype = 0 then bitOf (q.setup.getD 0 0#8).toNat 7 && q.want != 0 else q.dir

/-- An XCPL of a transfer. -/
def Xfer.xcpl (q : Xfer) (last : Bool) (status : Nat) (data : Bytes) : TMsg :=
  { kind := pkXcpl, last := last, port := q.port, dev := q.dev, ep := q.ep, dir := q.dir, xtype := q.xtype, status := status,
    xid := q.xid, data := data }

/-- IN data of one XCPL: min(9,200, SIZE × 32) bytes (Table 13-2). -/
def Hub.chunk (h : Hub) (x : Nat) : Nat := max 1 (min 9200 (h.get F.ECTX2_SIZE x * 32))

/-- The last message of a session's queue, if it is an unfinished XCPL of this transfer, becomes its last one (Table 13-6). -/
def lastOf (q : Xfer) (status : Nat) (l : List (Option Nat × TMsg)) : Option (List (Option Nat × TMsg)) :=
  match l.reverse with
  | (c, m) :: r =>
    if m.kind = pkXcpl ∧ m.xid = q.xid ∧ m.last = false then some (((c, { m with last := true, status := status }) :: r).reverse)
    else none
  | [] => none

/-- The closing messages of a transfer: its remaining IN data, or the byte count (Table 13-2). -/
def Hub.closeMsgs (h : Hub) (q : Xfer) (status : Nat) : Hub :=
  if ¬ q.dataIn then h.post q.tun none (q.xcpl true status (beBytes 4 q.sent))
  else
    match (if q.buf = [] then lastOf q status (h.sess q.tun).queue else none) with
    | some l => h.setSess q.tun { h.sess q.tun with queue := l }
    | none =>
      (cut (q.buf.length / h.chunk q.ctx + 1) (h.chunk q.ctx) q.buf).foldl (fun g p =>
        g.post q.tun (some q.ctx) (q.xcpl p.2 (if p.2 then status else 0) p.1)) h

/-- A transfer ends with a status: its closing messages join the session; messages of it still to come are discarded. -/
def Hub.endXfer (h : Hub) (q : Xfer) (status : Nat) : Hub :=
  let h := h.setXfers (h.peri.xfers.filter (fun z => !(z.tun == q.tun && z.xid == q.xid && z.ctx == q.ctx)))
  let h := if q.full then h else h.setSess q.tun { h.sess q.tun with cont := (h.sess q.tun).cont ++ [q.xid] }
  (h.closeMsgs q status).showQueued q.ctx

/-- Every transfer of some kind ends with a status. -/
def Hub.endXfers (h : Hub) (p : Xfer → Bool) (status : Nat) : Hub :=
  (h.peri.xfers.filter p).foldl (fun g q => g.endXfer q status) h

/-- Transfers of some kind end with a status at their next transaction boundary. -/
def Hub.abortXfers (h : Hub) (p : Xfer → Bool) (status : Nat) : Hub :=
  h.setXfers (h.peri.xfers.map (fun q => if p q ∧ q.abort.isNone then { q with abort := some status } else q))

/-- An endpoint becomes HALTED: the transfers queued on it complete HALTED (R356). -/
def Hub.haltCtx (h : Hub) (x : Nat) : Hub := (h.set F.ECTX0_STATE eHALTED x).endXfers (fun q => q.ctx == x) xHALTED

/-- Enabled contexts of a port that are not at the default address are marked for re-addressing (R359). -/
def Hub.markCtxs (h : Hub) (n : Nat) : Hub :=
  h.each (h.ctxs.filter (fun x => h.get F.ECTX0_PORT x == n && h.get F.ECTX0_DEVADDR x != 0)) (fun x g =>
    g.set F.ECTX0_STATE eNEEDADDR x)

/-! ## Port events (R357) -/

/-- Event `c` of port `n`: its flag, a record, a PORTEV. -/
def Hub.portEvent (h : Hub) (n c : Nat) : Hub :=
  let i := c - 1
  let old := h.reg (F.PERI_PEV_CONNECT.addr n 0)
  let h := (h.setReg (F.PERI_PEV_CONNECT.addr n 0) (old.setBits i 1 1)).hot (F.PERI_PEV_CONNECT.addr n 0) (Word.setBits 0#32 i 1 1)
  let h := if old.bits i 1 = 0 ∧ h.flag F.PERI_PIRQ_EN n ∧ bitOf (h.get F.PERI_PIRQ_SEL n) i then
      h.vector (h.get F.PERI_PIRQ_VEC n) else h
  let stat := h.reg (F.PERI_PSTAT_STATE.addr n 0)
  let h := h.rec1 (prodSlice (h.usbOwner n)) 9 c srcPeri (2 ^ 19 * n + stat.bits 0 10)
  let t := h.get F.PERI_PCFG_EVTUN n
  if h.tunState t = tsOpen ∧ h.get F.TUN_W0_TYPE t = 4 ∧ h.get F.TUN_W2_FUNC t = 2 ∧ h.get F.TUN_W2_FIDX t = n then
    h.post t none { kind := pkPortev, port := n, status := c, data := beBytes 4 stat.toNat }
  else h

/-- What the pair of a port does. -/
def Hub.usb (h : Hub) (n : Nat) (w : UsbOut) : Hub := h.emit (.usb n w)

/-- A port goes to a state with nothing under way on its bus. -/
def Hub.toUp (h : Hub) (n s : Nat) : Hub := (h.set F.PERI_PSTAT_STATE s n).setPport n {}

/-- Ports in OFF that may leave it: PEN, the controller enabled, ridge time aligned once (R342), the port's USB 2.0 PHY enabled with
its trims (R13). -/
def Hub.powerPorts (h : Hub) : Hub :=
  h.each (ports.filter (fun n => h.flag F.PERI_PCTL_PEN n && h.upState n == upOFF && h.flag F.PERI_CFG_EN && h.time.everLocked &&
      h.boot.loaded && !h.boot.bad.contains (2, n)))
    (fun n g => (g.toUp n upDISCONNECTED).usb n .pullDowns)

/-- A port goes to OFF (Table 13-4). -/
def Hub.portOff (h : Hub) (n : Nat) : Hub :=
  if h.upState n = upOFF then h
  else ((h.endXfers (fun q => q.port == n) xDISCONNECT).toUp n upOFF).usb n .released

/-- The bus reset of a port starts (R359). -/
def Hub.busReset (h : Hub) (n : Nat) : Hub :=
  let s := h.upState n
  if s = upATTACHED ∨ s = upENABLED ∨ s = upSUSPENDED ∨ s = upRESUMING ∨ s = upDISABLED then
    let h := ((h.endXfers (fun q => q.port == n) xBUSRESET).markCtxs n).toUp n upRESETTING
    (h.setPport n { since := some h.now }).usb n .se0
  else h

/-- SUSPEND (Table 13-4): what runs ends after its transaction. -/
def Hub.portSuspend (h : Hub) (n : Nat) : Hub :=
  if h.upState n = upENABLED then
    ((h.abortXfers (fun q => q.port == n) xSUSPENDED).set F.PERI_PSTAT_STATE upSUSPENDED n).portEvent n 4
  else h

/-- RESUME (Table 13-4, R358). -/
def Hub.portResume (h : Hub) (n : Nat) : Hub :=
  if h.upState n = upSUSPENDED then
    let h := ((h.set F.PERI_PSTAT_STATE upRESUMING n).set F.PERI_PSTAT_CAUSE 0 n).set F.PERI_PSTAT_COINCIDENT 0 n
    (h.setPport n { h.pport n with since := some h.now }).usb n .k
  else if h.upState n = upRESUMING ∧ h.get F.PERI_PSTAT_CAUSE n = 1 then
    (h.set F.PERI_PSTAT_CAUSE 0 n).set F.PERI_PSTAT_COINCIDENT 1 n
  else h

/-- A write of PERI_PCTLn: TEST, PEN, and then RESET before SUSPEND before RESUME (R361). -/
def Hub.pctl (h : Hub) (n : Nat) (v : Word) : Hub :=
  let t := v.bits 5 3
  let h := if t ≤ 4 ∧ t ≠ h.get F.PERI_PCTL_TEST n then (h.set F.PERI_PCTL_TEST t n).usb n (.test t) else h
  let h := h.set F.PERI_PCTL_PEN (v.bits 0 1) n
  let h := if v.bits 0 1 = 0 then h.portOff n else h.powerPorts
  let h := if v.bits 1 1 = 1 then h.busReset n else h
  let h := if v.bits 2 1 = 1 then h.portSuspend n else h
  if v.bits 3 1 = 1 then h.portResume n else h

/-! ## Enabling a context (R345) -/

/-- Bytes that a periodic context reserves in each microframe or frame of its interval. -/
def Hub.ctxBytes (h : Hub) (x : Nat) : Nat := h.ctxMps x * h.get F.ECTX1_MULT x

/-- Reserved on a port by periodic contexts of high speed, or of full and low speed. Intervals are powers of two counted from
0, so the microframes that every interval divides carry all of them. -/
def Hub.reserved (h : Hub) (n : Nat) (hs : Bool) (l : List Nat) : Nat :=
  (l.filter (fun x => h.get F.ECTX0_PORT x == n && (h.get F.ECTX0_XTYPE x == 1 || h.get F.ECTX0_XTYPE x == 3) &&
    (h.get F.ECTX0_SPEED x == 0) == hs)).foldl (fun a x => a + h.ctxBytes x) 0

/-- The first condition of R345 that refuses context `x`, 0 for none. -/
def Hub.ctxErr (h : Hub) (x : Nat) (badEnc : Bool) : Nat :=
  let l := h.ctxs.filter (fun y => y != x)
  let b := h.get F.ECTX2_BASE x
  let z := h.get F.ECTX2_SIZE x
  let n := h.get F.ECTX0_PORT x
  if l.any (fun y => decide (b < h.get F.ECTX2_BASE y + h.get F.ECTX2_SIZE y) && decide (h.get F.ECTX2_BASE y < b + z)) then 1
  else if 4096 < b + z ∨ z * 64 < 2 * h.ctxBytes x then 2
  else if 6000 < h.reserved n true (x :: l) ∨ 1350 < h.reserved n false (x :: l) then 3
  else if l.any (fun y => h.get F.ECTX0_PORT y == n && h.get F.ECTX0_DEVADDR y == h.get F.ECTX0_DEVADDR x &&
      h.get F.ECTX0_EPNUM y == h.get F.ECTX0_EPNUM x && h.get F.ECTX0_DIR y == h.get F.ECTX0_DIR x) then 4
  else if badEnc ∨ (h.get F.ECTX0_XTYPE x = 0 ∧ h.flag F.ECTX0_DIR x) then 5
  else 0

/-- A write of PERI_ECTX0 of context `x` (R345, R356, R359). -/
def Hub.ectx0 (h : Hub) (x : Nat) (v : Word) : Hub :=
  let st := h.get F.ECTX0_STATE x
  let en := h.flag F.ECTX0_EN x
  let h := if st = eNEEDADDR ∨ (st = eHALTED ∧ v.bits 30 1 = 1) then h.set F.ECTX0_STATE eACTIVE x else h
  if en then
    if v.bits 31 1 = 1 then h else (h.set F.ECTX0_EN 0 x).set F.ECTX0_STATE eIDLE x
  else
    let sp := v.bits 7 2
    let h := ((((h.set F.ECTX0_PORT (v.bits 23 5) x).set F.ECTX0_DEVADDR (v.bits 16 7) x).set F.ECTX0_EPNUM (v.bits 12 4) x).set
      F.ECTX0_DIR (v.bits 11 1) x).set F.ECTX0_XTYPE (v.bits 9 2) x
    let h := if sp = 3 then h else h.set F.ECTX0_SPEED sp x
    if v.bits 31 1 = 0 then h
    else
      let c := h.ctxErr x (sp == 3)
      if c = 0 then (h.set F.ECTX0_EN 1 x).set F.ECTX0_STATE eACTIVE x else h.set F.ECTX3_ERR c x

/-! ## Slice reset (R360) -/

/-- Root ports of a slice: transfers that have not started end SQUASHED; in squash mode the others do at the next boundary. -/
def Hub.usbReset (h : Hub) (s : Nat) (squash : Bool) : Hub :=
  let mine (q : Xfer) : Bool := h.usbOwner q.port == s
  let begun (q : Xfer) : Bool := ((h.xfersOf q.ctx).head? == some q) && q.start.isNone
  let h' := h.endXfers (fun q => mine q && !begun q) xSQUASHED
  if squash then h'.abortXfers mine xSQUASHED else h'

/-- Started transfers of a slice's ports are over. -/
def Hub.usbQuiet (h : Hub) (s : Nat) : Bool := h.peri.xfers.all (fun q => h.usbOwner q.port != s)

end Sys2Proof.Machine
end

