-- ==== Sys2Proof/Machine/RegOps.lean ====
section
/-! DEFINITION. What a software write does to a register by the access codes of its fields (R9, R10, Table 0-4), and the
clearing of what a read of RC fields returned (R11). -/

namespace Sys2Proof.Machine

/-- Whether a value is a defined encoding of a field (R9). -/
def FieldD.allows (f : FieldD) (x : Nat) : Bool := f.ok.isEmpty || f.ok.any (fun r => decide (r.1 ≤ x) && decide (x ≤ r.2))

/-- One field of a written register: `locked` freezes RWL fields (R483). -/
def fieldWrite (locked : Bool) (v : Word) (old : Word) (f : FieldD) : Word :=
  let x := v.bits f.lo f.w
  let o := old.bits f.lo f.w
  match f.acc with
  | .rw => if FieldD.allows f x then old.setBits f.lo f.w x else old
  | .rwl => if FieldD.allows f x && !locked then old.setBits f.lo f.w x else old
  | .w1c => old.setBits f.lo f.w ((BitVec.ofNat 32 o &&& ~~~(BitVec.ofNat 32 x)).toNat)
  | .w1s => old.setBits f.lo f.w ((BitVec.ofNat 32 o ||| BitVec.ofNat 32 x).toNat)
  | .ro => old
  | .wo => old
  | .rc => old

/-- GLB_LOCK is set. -/
def Hub.locked? (h : Hub) : Bool := h.flag F.GLB_LOCK_LOCK

/-- A register at an address takes a write, the fields whose lowest bit is in `skip` left out. -/
def Hub.wr (h : Hub) (a : Nat) (v : Word) (skip : List Nat := []) : Hub :=
  match findReg a with
  | none => h
  | some r => h.setReg a ((r.fields.filter (fun f => !skip.contains f.lo)).foldl (fieldWrite h.locked? v) (h.reg a))

/-- Only the fields whose lowest bit is in `only` take a write. -/
def Hub.wrOnly (h : Hub) (a : Nat) (v : Word) (only : List Nat) : Hub :=
  match findReg a with
  | none => h
  | some r => h.wr a v ((r.fields.map (·.lo)).filter (fun l => !only.contains l))

/-- The word a register reads as: WO fields and reserved bits read as zero (R9, R10). -/
def Hub.rd (h : Hub) (a : Nat) : Word :=
  match findReg a with
  | none => 0#32
  | some r => r.fields.foldl (fun w f => if f.acc = .wo then w else w.setBits f.lo f.w ((h.reg a).bits f.lo f.w)) 0#32

/-- What a read leaves in the RC fields of a register, field `f` becoming `v f`; a register without one stays (R11). -/
def Hub.rcLeave (h : Hub) (a : Nat) (v : FieldD → Nat) : Hub :=
  match findReg a with
  | none => h
  | some r =>
    if r.fields.all (fun f => f.acc ≠ .rc) then h
    else h.setReg a (r.fields.foldl (fun w f => if f.acc = .rc then w.setBits f.lo f.w (v f) else w) (h.reg a))

/-- The RC fields that a read returned are cleared. -/
def Hub.rcClear (h : Hub) (a : Nat) : Hub := h.rcLeave a (fun _ => 0)

/-- A read clears only what it returned: the events of its own tick stay counted (R11). -/
def Hub.rcTake (h : Hub) (a : Nat) : Hub := h.rcLeave a (fun f => min (Tab.get 0 h.led.ev (32 * a + f.lo)) (2 ^ f.w - 1))

/-- What a software write of a value asks for, without the bits that an event set, or a reset cleared, in the same tick (R11, R55). -/
def Hub.current (h : Hub) (a : Nat) (v : Word) : Word :=
  let m : Word := Tab.get 0#32 h.led.hot a
  if m = 0#32 then v
  else
    match findReg a with
    | none => v
    | some r => r.fields.foldl (fun w f =>
        let x := Word.bits m f.lo f.w
        match f.acc with
        | .rw => if x = 0 then w else w.setBits f.lo f.w ((h.reg a).bits f.lo f.w)
        | .rwl => if x = 0 then w else w.setBits f.lo f.w ((h.reg a).bits f.lo f.w)
        | .w1c => w.setBits f.lo f.w ((BitVec.ofNat 32 (w.bits f.lo f.w) &&& ~~~(BitVec.ofNat 32 x)).toNat)
        | _ => w) v

end Sys2Proof.Machine
end

