-- ==== Sys2Proof/Machine/PwrOps.lean ====
section
/-! DEFINITION. Shared operations of the power path and of the configuration channel: the state machine of Table 14-2, turn-offs
and trips, contracts, messages and their acknowledgement, offers, hard resets (spec/14_power_path.md,
spec/15_power_negotiation.md). -/

namespace Sys2Proof.Machine

def Hub.pp (h : Hub) (n : Nat) : PwrPort := Tab.get {} h.pwr.ports n
def Hub.setPp (h : Hub) (n : Nat) (x : PwrPort) : Hub := { h with pwr := { h.pwr with ports := Tab.set {} h.pwr.ports n x } }
def Hub.cc (h : Hub) (n : Nat) : CcPort := (h.pp n).cc
def Hub.setCc (h : Hub) (n : Nat) (c : CcPort) : Hub := h.setPp n { h.pp n with cc := c }
/-- A partner is attached (R388). -/
def Hub.attached (h : Hub) (n : Nat) : Bool := h.flag F.PORT_CCSTAT_PD n || h.flag F.PORT_CCSTAT_SRC n

/-- The port's domain is OFF: its front end and its configuration-channel transceiver have no power (R429, Table 16-5). -/
def Hub.portDark (h : Hub) (n : Nat) : Bool := h.get F.PWR_DSTAT_LEVEL n == 4

/-- PORT_PPSTAT.STATE codes. -/
def ppOFF : Nat := 0
def ppWAIT : Nat := 1
def ppDELAY : Nat := 2
def ppRAMP : Nat := 3
def ppSAFE : Nat := 4
def ppON : Nat := 5
def ppLATCHED : Nat := 6
def Hub.ppState (h : Hub) (n : Nat) : Nat := h.get F.PORT_PPSTAT_STATE n
def Hub.energised (h : Hub) (n : Nat) : Bool := h.ppState n == ppRAMP || h.ppState n == ppSAFE || h.ppState n == ppON

/-- Roles of Table 15-1. -/
def Hub.isSource (h : Hub) (n : Nat) : Bool := h.get F.PORT_CCCTL_ROLE n == 1
def Hub.isSink (h : Hub) (n : Nat) : Bool := h.get F.PORT_CCCTL_ROLE n == 2 || h.get F.PORT_CCCTL_ROLE n == 3

/-- What a role presents on the line (Table 15-1). -/
def roleLine : Nat → CcLine
  | 1 => .pullUp
  | 4 => .highZ
  | _ => .pullDown

/-- What a port presents on the line of its channel (R385, R386): the pull-down while VAON is absent; in Standby a SOURCE port, which
has no supply for its pull-up, presents high impedance. -/
def Hub.line (h : Hub) (n : Nat) : CcLine :=
  if h.pwr.off then .pullDown
  else if h.pwr.asleep then (if Tab.get 0 h.pwr.roles n = 1 then .highZ else roleLine (Tab.get 0 h.pwr.roles n))
  else roleLine (h.get F.PORT_CCCTL_ROLE n)

/-- The ports whose line changes from one hub to another. -/
def Hub.lineOuts (h g : Hub) : List Out :=
  ports.filterMap (fun n => if h.line n = g.line n then none else some (.line n (g.line n)))

/-- The changes of the lines go out. -/
def Hub.showLines (h g : Hub) : Hub := { g with out := g.out ++ h.lineOuts g }

/-- Producer of a port's power and fault records (Table 17-3). -/
def Hub.powerProd (h : Hub) (n : Nat) : Nat := prodSlice (h.get F.PWR_ALLOT_SLICE n)

/-- Voltage of a VCODE in mV (R393). -/
def vcodeMv : Nat → Nat
  | 0 => 12000
  | 1 => 20000
  | 2 => 28000
  | 3 => 36000
  | _ => 48000

/-- The analog set of a port. -/
def Hub.setIcon (h : Hub) (n i : Nat) : Hub := h.set F.PORT_PPSTAT_ICON i n

/-- VOS in mV. -/
def Hub.vos (h : Hub) (n : Nat) : Nat := h.get F.PORT_PPMEAS_V n

/-- Pn_GATE, Pn_VSET, Pn_DSCH and Pn_CSEN. -/
def Hub.driveGate (h : Hub) (n mode : Nat) : Hub := (h.setPp n { h.pp n with gate := mode != 0 }).emit (.gate n mode)
def Hub.setVset (h : Hub) (n code mv : Nat) : Hub :=
  let x := h.pp n
  let h := h.setPp n { x with vset := code, vnow := mv }
  if x.vset = code then h else h.emit (.vset n code)
def Hub.setDsch (h : Hub) (n : Nat) (on : Bool) : Hub :=
  if (h.pp n).dsch = on then h else (h.setPp n { h.pp n with dsch := on }).emit (.pin (.dsch n) on)
def Hub.setCson (h : Hub) (n : Nat) (on : Bool) : Hub :=
  if h.flag F.PORT_CCSTAT_CSON n = on then h
  else ((h.set F.PORT_CCSTAT_CSON (b2n on) n).setCc n { h.cc n with csAt := h.now }).emit (.pin (.csen n) on)

/-- Safe code of VSET. -/
def Hub.safeVset (h : Hub) (n : Nat) : Hub := h.setVset n (h.get F.PORT_PPVSET_CODE n 0) 12000

/-! ## The channel: exchanges and messages (R390 to R395) -/

/-- PORT_CCSTAT.STATE codes of a source (Table 15-5) and of a sink (Table 15-6). -/
def csIDLE : Nat := 0
def csOFFER : Nat := 1
def csWAITREQ : Nat := 2
def csTRANS : Nat := 3
def csCONTRACT : Nat := 4
def csNOCON : Nat := 5
def csHRESET : Nat := 6
def ckDETACHED : Nat := 0
def ckWAITOFF : Nat := 1
def ckWAITACC : Nat := 2
def ckHRESET : Nat := 5
def Hub.ccState (h : Hub) (n : Nat) : Nat := h.get F.PORT_CCSTAT_STATE n
def Hub.setCcState (h : Hub) (n s : Nat) : Hub := h.set F.PORT_CCSTAT_STATE s n

/-- Message kinds (R392). -/
def kAck : Nat := 0
def kOffer : Nat := 1
def kRequest : Nat := 2
def kAccept : Nat := 3
def kReject : Nat := 4
def kReady : Nat := 5
def kStatus : Nat := 6
def kAlert : Nat := 7
def kSwap : Nat := 8
def kHardReset : Nat := 9

/-- A contract is in force. -/
def Hub.contract (h : Hub) (n : Nat) : Bool := h.flag F.PORT_CCCON_VALID n

/-- An exchange is open on the port. -/
def Hub.ccOpen (h : Hub) (n : Nat) : Bool :=
  let c := h.cc n
  let s := h.ccState n
  c.tx.isSome || !c.out.isEmpty || c.swap.isSome || c.hr ||
  (if h.isSource n then s == csOFFER || s == csWAITREQ || s == csTRANS || s == csHRESET
   else s == ckWAITACC || s == csTRANS || s == ckHRESET)

/-- A header (Table 15-3). -/
def Hub.ccHdr (h : Hub) (n kind nobj id : Nat) : Nat :=
  pack [(4, kind), (3, nobj), (3, id), (1, b2n (h.isSource n)), (1, h.get F.PORT_CCSTAT_CSON n), (2, 1), (2, 0)]

/-- Ticks that a frame with `k` objects lasts (R391), at 800/3 ticks to the unit interval. -/
def ccTicks (k : Nat) : Nat := ceilDiv ((112 + 32 * k) * 800) 3

/-- A message is queued. -/
def Hub.ccQueue (h : Hub) (n : Nat) (m : CcMsg) : Hub := h.setCc n { h.cc n with out := (h.cc n).out ++ [m] }

/-- A Reject with a reason, counted. -/
def Hub.ccReject (h : Hub) (n reason : Nat) : Hub := (h.ccQueue n ⟨kReject, [2 ^ 28 * reason]⟩).bump F.PORT_CCCNT_REJECT n

/-- A message taken is acknowledged: the acknowledgement starts 534 to 6,000 ticks after its end, when the hub chooses
(R394); answers the hub and the end of the acknowledgement. -/
def Hub.ccAck (h : Hub) (n id : Nat) : Hub × Nat :=
  let r := h.draw
  let start := h.now + 534 + r.1 % 5467
  let e := start + ccTicks 0
  let h := r.2.emit (.cc n start (h.ccHdr n kAck 0 id) [])
  (h.setCc n { h.cc n with lineAt := e }, e)

/-! ## Renegotiations of the shepherd (R243, R244, R407) -/

/-- A renegotiation ends DONE 1, REFUSED 2 or ABANDONED 3: one shepherd record. -/
def Hub.renEnd (h : Hub) (n result : Nat) : Hub :=
  match (h.cc n).ren with
  | none => h
  | some _ => (h.setCc n { h.cc n with ren := none }).rec1 prodShepherd 6 0x03 n (2 ^ 22 * result + h.get F.PWR_ALLOT_WATTS n)

/-- A started renegotiation ends, one that waits does not. -/
def Hub.renEndStarted (h : Hub) (n result : Nat) : Hub :=
  match (h.cc n).ren with
  | some (_, true) => h.renEnd n result
  | _ => h

/-! ## Offers (R397) -/

/-- Highest current offered at a voltage, in 0.5 A; below 2 it is not offered. -/
def Hub.imax (h : Hub) (n m : Nat) : Nat :=
  let i := match m with
    | 0 => h.get F.PORT_CCSRC_IMAX0 n
    | 1 => h.get F.PORT_CCSRC_IMAX1 n
    | 2 => h.get F.PORT_CCSRC_IMAX2 n
    | 3 => h.get F.PORT_CCSRC_IMAX3 n
    | _ => h.get F.PORT_CCSRC_IMAX4 n
  if (m = 0 ∨ bitOf (h.get F.PORT_CCSRC_VEN n) m) ∧ h.get F.PORT_PPVSET_CODE n m ≠ 0 then
    min (min i 10) (2000 * h.get F.PWR_ALLOT_WATTS n / vcodeMv m)
  else 0

/-- The supply objects of an Offer. -/
def Hub.offerObjs (h : Hub) (n : Nat) : List (Nat × Nat) :=
  ((List.range 5).map (fun m => (m, h.imax n m))).filter (fun o => decide (2 ≤ o.2))

/-- An Offer is queued; a source with nothing to offer stays without one. -/
def Hub.sendOffer (h : Hub) (n : Nat) : Hub :=
  let os := h.offerObjs n
  if os = [] then h
  else
    let h := h.setCc n { h.cc n with offer := os, offAt := none, want := false,
                                     ren := (h.cc n).ren.map (fun r => if r.1 then r else (r.1, true)) }
    (h.ccQueue n ⟨kOffer, os.map (fun o => 2 ^ 29 * o.1 + 2 ^ 25 * o.2)⟩).setCcState n csOFFER

/-- The message of a command that waits (Table 15-14, R393). -/
def Hub.cmdMsg (h : Hub) (n : Nat) (c : Nat × Nat) : CcMsg :=
  if c.1 = kStatus then
    ⟨kStatus, [2 ^ 16 * h.vos n + h.get F.PORT_PPMEAS_I n, 2 ^ 24 * h.get F.PORT_CCTXS_WANT n + 2 ^ 16 * h.get F.PORT_CCTXS_FLAGS n]⟩
  else if c.1 = kAlert then ⟨kAlert, [2 ^ 28 * c.2]⟩
  else ⟨kSwap, []⟩

/-- The contract in force, or the safe supply, lies within an allotment (R382, R407). -/
def Hub.fits (h : Hub) (n : Nat) : Bool :=
  !h.contract n || decide (vcodeMv (h.get F.PORT_CCCON_VCODE n) * h.get F.PORT_CCCON_ICUR n ≤ 2000 * h.get F.PWR_ALLOT_WATTS n)

/-- A changed allotment is acted on (R243, R407): a raise waits for the lowerings; a lowering that the present contract fits is
DONE at once; an Offer is wanted for every lowering. -/
def Hub.renBegin (h : Hub) (n : Nat) : Hub :=
  match (h.cc n).allot with
  | none => h
  | some raise =>
    let h := h.setCc n { h.cc n with allot := none, ren := some (raise, false), want := (h.cc n).want || !raise }
    if !raise && h.fits n then h.renEnd n 1 else h

/-- With no exchange open, a changed allotment is acted on, and an Offer that is wanted or a command that waits begins one. -/
def Hub.ccNext (h : Hub) (n : Nat) : Hub :=
  let h := if h.ccOpen n then h else h.renBegin n
  let c := h.cc n
  let s := h.ccState n
  if h.ccOpen n then h
  else if h.isSource n ∧ h.flag F.PORT_CCCTL_PTV n ∧ c.want ∧ (h.ppState n = ppSAFE ∨ h.ppState n = ppON) ∧
      (s = csIDLE ∨ s = csCONTRACT ∨ s = csNOCON) ∧ h.offerObjs n ≠ [] then h.sendOffer n
  else if ¬ h.attached n then h
  else
    match c.cmds with
    | [] => h
    | x :: rest =>
      let h := (h.setCc n { c with cmds := rest }).ccQueue n (h.cmdMsg n x)
      if x.1 = kSwap then
        (h.setCc n { h.cc n with swap := some { gain := !h.flag F.PORT_CCSTAT_CSON n } }).set F.PORT_CCSTAT_SWAP 1 n
      else h

/-- An Offer is wanted as soon as no exchange is open. -/
def Hub.wantOffer (h : Hub) (n : Nat) : Hub := (h.setCc n { h.cc n with want := true }).ccNext n

/-- A command is queued once. -/
def Hub.ccCmd (h : Hub) (n : Nat) (x : Nat × Nat) : Hub :=
  let c := h.cc n
  if c.cmds.any (fun y => y.1 = x.1) ∨ ¬ h.attached n then h else (h.setCc n { c with cmds := c.cmds ++ [x] }).ccNext n

/-! ## The end of contracts, exchanges and swaps (R413 to R415, R534) -/

/-- A contract in force is cleared with a cause. -/
def Hub.clearContract (h : Hub) (n cause : Nat) : Hub :=
  let was := h.contract n
  let h := h.setReg (F.PORT_CCCON_VALID.addr n 0) 0#32
  if was then h.rec1 (h.powerProd n) 7 0x02 n cause else h

/-- Every exchange ends; a HardReset under way goes on. -/
def Hub.endExchange (h : Hub) (n : Nat) : Hub :=
  let c := h.cc n
  let tx := c.tx.filter (fun t => t.msg.kind == kHardReset)
  let out := c.out.filter (fun m => m.kind == kHardReset)
  (h.setCc n { c with tx := tx, out := out, offAt := none, reqAt := none, respAt := none, readyAt := none, want := false,
                      swap := none }).set F.PORT_CCSTAT_SWAP 0 n

/-- A transition that runs is abandoned, and measurement has the analog set again (Table 1-8). -/
def Hub.dropTrans (h : Hub) (n : Nat) : Hub :=
  (h.setPp n { h.pp n with trans := none }).release (resAnalog n) 5

/-- What a turn-off, or a loss, does to the channel: the exchange is abandoned and the contract cleared. A cable pulled while a
transition runs writes PULLTRANS in place of CLEARED (R415). -/
def Hub.loseContract (h : Hub) (n cause : Nat) (cable : Bool) : Hub :=
  let t := (h.pp n).trans
  let pulled := cable && t.any (fun t => !t.ret)
  let h := if pulled then
      let old := if h.contract n then h.get F.PORT_CCCON_VCODE n else 0
      let tv := h.get F.PORT_CCCON_TVCODE n
      let h := h.setReg (F.PORT_CCCON_VALID.addr n 0) 0#32
      (h.bump F.PORT_CCCNT_PULLTRANS n).rec1 (h.powerProd n) 7 0x06 n (old * 8 + tv)
    else h.clearContract n cause
  let h := (h.endExchange n).dropTrans n
  let c := h.cc n
  if c.ren.isNone ∧ c.allot.isNone then h
  else
    let h := h.setCc n { c with ren := some (c.ren.getD (false, false)), allot := none, freed := true }
    h.renEnd n 3

/-- The policy's resting state. -/
def Hub.ccRest (h : Hub) (n : Nat) : Hub :=
  if h.isSink n ∧ h.flag F.PORT_CCSTAT_SRC n ∧ (h.pp n).gate ∧ h.flag F.PORT_CCCTL_PTV n then h.setCcState n ckWAITOFF
  else h.setCcState n csIDLE

/-! ## The power path (R366 to R370) -/

/-- The three conditions that also turn an energised port off. -/
def Hub.ppSeen (h : Hub) (n : Nat) : Bool :=
  h.flag F.PORT_PPSTAT_SEATA n && h.flag F.PORT_PPSTAT_SEATB n && h.flag F.PORT_PPSTAT_PD n && h.flag F.PWR_BUSSTAT_OK

/-- The pre-bias condition: the two latest samples of VOS are below 1 V. -/
def Hub.prebias (h : Hub) (n : Nat) : Bool := (h.pp n).low1 == 2

/-- The SOA integrator holds the port back (R367). -/
def Hub.soaHold (h : Hub) (n : Nat) : Bool := decide (1000000000 * h.get F.PORT_PPSOA_LIMIT n < 4 * (h.pp n).soa)

/-- Calibration holds the port back (Table 14-6). -/
def Hub.calHold (h : Hub) (n : Nat) : Bool := h.owner (resAnalog n) != ownMeasure || h.flag F.PORT_PPCAL_FAIL n

/-- The permissions of R367; a port is calibrated before it first energises (R378). -/
def Hub.permitted (h : Hub) (n : Nat) : Bool :=
  h.flag F.PORT_PPCTL_EN n && !h.flag F.PORT_PPTRIP_LATCH n && h.isSource n && decide (12 ≤ h.get F.PWR_ALLOT_WATTS n) &&
  h.get F.PORT_PPVSET_CODE n 0 != 0 && !h.calHold n && (h.pp n).calibrated && !h.soaHold n

/-- PORT_PPSTAT shows each condition and permission. -/
def Hub.ppShow (h : Hub) (n : Nat) : Hub :=
  ((((((((h.set F.PORT_PPSTAT_COOLING (b2n (h.pp n).coolAt.isSome) n).set F.PORT_PPSTAT_SOAHOLD (b2n (h.soaHold n)) n).set
    F.PORT_PPSTAT_CALHOLD (b2n (h.calHold n)) n).set F.PORT_PPSTAT_NOALLOT (b2n (decide (h.get F.PWR_ALLOT_WATTS n < 12))) n).set
    F.PORT_PPSTAT_NOTSRC (b2n (!h.isSource n)) n).set F.PORT_PPSTAT_NOVSET (b2n (h.get F.PORT_PPVSET_CODE n 0 == 0)) n).set
    F.PORT_PPSTAT_PREBIAS (b2n (h.prebias n)) n).set F.PORT_PPSTAT_BUSOK (h.get F.PWR_BUSSTAT_OK) n)

def Hub.setPpState (h : Hub) (n s : Nat) : Hub := h.set F.PORT_PPSTAT_STATE s n

/-- Pn_DSCH. With the gate off it is asserted until VOS is below 1 V after a turn-off, and while only the pre-bias condition keeps a
port in WAIT (R366, R369). While the output falls, it is where VOS exceeds the ramp by more than 3 % (R405). -/
def Hub.dschShow (h : Hub) (n : Nat) : Hub :=
  let x := h.pp n
  if x.gate then h.setDsch n (x.trans.any (fun t => decide (t.toV < t.fromV) && decide (x.vnow * 103 < h.vos n * 100)))
  else h.setDsch n (x.drain || (h.ppState n == ppWAIT && h.ppSeen n && !h.prebias n))

/-- A turn-off's discharge begins. -/
def Hub.drainOn (h : Hub) (n : Nat) : Hub := (h.setPp n { h.pp n with drain := true }).setDsch n true

/-- A turn-off: gate discharged, Pn_DSCH until VOS is below 1 V, VSET at the safe code, contract and exchange gone (R369). -/
def Hub.turnOff (h : Hub) (n cause : Nat) (cable : Bool) : Hub :=
  let h := (h.loseContract n cause cable).driveGate n 0
  let h := ((h.drainOn n).safeVset n).setIcon n 0
  let h := h.setPp n { h.pp n with rampAt := none, delayAt := none, delayed := false, winAt := none, owt := 0, its := [] }
  h.setCcState n csIDLE

/-- The port energises (R368). -/
def Hub.energise (h : Hub) (n : Nat) : Hub :=
  let h := (((h.safeVset n).driveGate n 1).setPpState n ppRAMP).bump F.PORT_PPCNT1_ENERG n
  (h.setPp n { h.pp n with rampAt := some h.now, delayAt := none, delayed := false, drain := false, cc := { h.cc n with freed := false } }).dschShow n |>.setIcon n 2

/-- The conditions and permissions of a port are judged (Table 14-2); `cable`: what failed is attachment or seating. -/
def Hub.ppEval (h : Hub) (n : Nat) (cable : Bool := false) (cause : Nat := 1) : Hub :=
  let h := h.ppShow n
  let s := h.ppState n
  let ok := h.ppSeen n
  if s = ppWAIT then
    if ok ∧ h.prebias n then ((h.setPp n { h.pp n with delayAt := some h.now, delayed := false }).setPpState n ppDELAY).dschShow n
    else h.dschShow n
  else if s = ppDELAY then
    let x := h.pp n
    if ¬ (ok ∧ h.prebias n) then ((h.setPp n { x with delayAt := none, delayed := false }).setPpState n ppWAIT).dschShow n
    else if x.delayed ∧ x.coolAt.isNone ∧ h.permitted n then h.energise n
    else h
  else if h.energised n ∧ ¬ ok then
    ((h.turnOff n cause cable).bump F.PORT_PPCNT1_LOSSOFF n).setPpState n ppWAIT
  else h

/-- PORT_PPCTL.EN takes a value (Table 14-2). -/
def Hub.ppEnable (h : Hub) (n v : Nat) : Hub :=
  let s := h.ppState n
  let old := h.get F.PORT_PPCTL_EN n
  let h := h.set F.PORT_PPCTL_EN v n
  if s = ppLATCHED then
    let x := h.pp n
    if v = 0 then h.setPp n { x with toggled := true }
    else if x.toggled then
      let h := (h.set F.PORT_PPTRIP_LATCH 0 n).setOwner (resAnalog n) ownMeasure
      let h := h.setPp n { x with toggled := false, coolAt := some (h.now + 20000000 * h.get F.PORT_PPCTL_COOL n) }
      (h.setPpState n ppWAIT).ppEval n
    else h
  else if v = 0 then
    let h := if h.energised n then h.turnOff n 4 false
      else if s = ppOFF ∨ h.isSink n then h
      else ((h.driveGate n 0).drainOn n).safeVset n
    ((h.setPp n { h.pp n with delayAt := none, delayed := false }).setPpState n ppOFF).ppShow n
  else if s = ppOFF ∧ old = 0 then (h.setPpState n ppWAIT).ppEval n
  else h

/-- The sink FET of a port is turned off (R401, R408). -/
def Hub.sinkOff (h : Hub) (n cause : Nat) (cable : Bool) : Hub :=
  (((h.loseContract n cause cable).driveGate n 0).setIcon n 0).setCcState n ckDETACHED

/-- A trip (R370 to R376): cause 1 HSHORT, 2 SOA, 3 IT, 4 OUTV. A further cause of the same tick sets its ALSO bit. -/
def Hub.trip (h : Hub) (n cause point : Nat) : Hub :=
  if h.ppState n = ppLATCHED ∧ (h.pp n).tripAt = some h.now then
    if h.get F.PORT_PPTRIP_CAUSE n = cause then h
    else h.set F.PORT_PPTRIP_ALSO (setBit (h.get F.PORT_PPTRIP_ALSO n) (cause - 1)) n
  else
    let ramp := b2n (h.ppState n == ppRAMP)
    let sink := h.isSink n && (h.pp n).gate
    let h := if sink then (h.sinkOff n 2 false).safeVset n else h.turnOff n 2 false
    let h := (h.setOwner (resAnalog n) ownFuse).set F.PORT_PPCAL_BUSY 0 n
    let h := h.setPp n { h.pp n with calAt := none, toggled := false, tripAt := some h.now, coolAt := none }
    let h := (((((h.set F.PORT_PPTRIP_LATCH 1 n).set F.PORT_PPTRIP_RAMP ramp n).set F.PORT_PPTRIP_ALSO 0 n).set
      F.PORT_PPTRIP_CAUSE cause n).set F.PORT_PPTRIP_POINT point n).set64 F.PORT_PPTRIPT_LO_T F.PORT_PPTRIPT_HI_T h.ridge n
    let h := h.bump (match cause with
      | 1 => F.PORT_PPCNT_HSHORT
      | 2 => F.PORT_PPCNT_SOA
      | 3 => F.PORT_PPCNT_IT
      | _ => F.PORT_PPCNT_OUTV) n
    ((h.rec1 (h.powerProd n) 3 0x0C n (2 ^ 16 * cause + 2 ^ 15 * ramp + point)).setPpState n ppLATCHED).ppShow n

/-- Trips of one tick: the lowest code is the cause. -/
def Hub.trips (h : Hub) (n point : Nat) (causes : List Nat) : Hub :=
  match causes with
  | [] => h
  | c :: rest => rest.foldl (fun g k => g.trip n k 0) (h.trip n c (if c = 3 then point else 0))

/-! ## Transitions (R405, R406, R413) -/

/-- A voltage that lies within 3 % of another. -/
def within3 (v t : Nat) : Bool := decide (t * 97 ≤ v * 100) && decide (v * 100 ≤ t * 103)

/-- A transition starts from the present code and voltage, at SLEW. One with no ramp is at its target at once. -/
def Hub.startTrans (h : Hub) (n toC toV : Nat) (ret : Bool) : Hub :=
  let x := h.pp n
  let d := if x.vnow < toV then toV - x.vnow else x.vnow - toV
  let steps := ceilDiv (d * 2000 / max 1 (h.get F.PORT_CCCTL_SLEW n)) 200
  let t : Trans := { ret := ret, fromC := x.vset, toC := toC, fromV := x.vnow, toV := toV, start := h.now, steps := steps,
                     reached := if steps = 0 then some h.now else none,
                     inAt := if steps = 0 ∧ within3 (h.vos n) toV then some h.now else none }
  let h := (h.setPp n { x with trans := some t, owt := 0 }).set F.PORT_CCCON_TRANS 1 n
  if steps = 0 then h.setVset n toC toV else h

/-- The return to the safe supply (R413): it claims the set unless the transition it replaces holds it. At 12 V already, there
is nothing to return from, and a claim made for an Accept that had not been acknowledged is given up. -/
def Hub.startReturn (h : Hub) (n : Nat) : Hub :=
  let x := h.pp n
  if x.trans.isNone ∧ x.vnow = 12000 then (h.release (resAnalog n) 5).setIcon n 2
  else
    let h := if x.trans.isSome then h else h.setOwner (resAnalog n) 5
    (h.startTrans n (h.get F.PORT_PPVSET_CODE n 0) 12000 true).set F.PORT_CCCON_TICUR 2 n

/-! ## Hard resets (R413, R414) -/

/-- A hard reset is started: HardReset is the only message to send. -/
def Hub.hrStart (h : Hub) (n : Nat) : Hub :=
  if ¬ h.attached n ∨ (h.cc n).hr then h
  else
    let c := h.cc n
    let h := h.setCc n { c with hr := true, tx := none, out := [⟨kHardReset, []⟩], offAt := none, reqAt := none, respAt := none,
                                readyAt := none }
    h.setCcState n (if h.isSource n then csHRESET else ckHRESET)

/-- A hard reset acts, `base` being the tick it counts from; `recvd`: HardReset was taken here. -/
def Hub.hrAct (h : Hub) (n base : Nat) (recvd : Bool) : Hub :=
  let swap := (h.cc n).swap.isSome
  let src := h.isSource n
  let path := h.energised n
  let old := if h.contract n then h.get F.PORT_CCCON_ICUR n else 2
  let h := ((h.bump F.PORT_CCCNT_HRESET n).rec1 (h.powerProd n) 7 0x03 n (b2n recvd)).clearContract n 3
  let h := (h.endExchange n).renEndStarted n 3
  let h := if swap then h.setCson n false else h
  let h := h.setCc n { h.cc n with hr := false, tx := none, out := [], rxAny := false, hrAt := some (base + 2000000),
                                   csFault := false, csPeer := if swap then false else (h.cc n).csPeer }
  let h := ((h.set F.PORT_CCSTAT_TXID 0 n).set F.PORT_CCSTAT_RXID 0 n).setCcState n (if src then csHRESET else ckHRESET)
  if src ∧ path then
    let h := if h.ppState n = ppON then h.setPpState n ppSAFE else h
    if h.ppState n = ppSAFE then (h.setIcon n old).startReturn n else h
  else if src then h
  else h.setIcon n (if (h.pp n).gate then 2 else 0)

/-! ## Losses of the partner (R388, R415) -/

/-- Seating or attachment is lost: the contract, the exchange and the cable supply of the port go with it. -/
def Hub.ppLoss (h : Hub) (n : Nat) : Hub :=
  let h := h.ppEval n true
  let h := (h.loseContract n 1 true).setCson n false
  let h := h.setCc n { h.cc n with csFault := false, csPeer := false, hr := false, tx := none, out := [], hrAt := none, cmds := [] }
  h.ccRest n

/-! ## The budget (R381) -/

def Hub.allot (h : Hub) (n : Nat) : Nat := h.get F.PWR_ALLOT_WATTS n

/-- What this tick's checks still see of a share, or of a port's SLICE, that has changed in it (R382). -/
def Hub.wasOr (h : Hub) (k new : Nat) : Nat :=
  if h.pwr.wasAt = h.now then ((h.pwr.was.find? (fun e => e.1 == k)).map (·.2)).getD new else new
def Hub.share (h : Hub) (s : Nat) : Nat := h.wasOr s (h.get F.PWR_SHARE_WATTS s)
def Hub.chargedTo (h : Hub) (n : Nat) : Nat := h.wasOr (128 + n) (h.get F.PWR_ALLOT_SLICE n)

/-- The value at the start of the tick is kept before a change. -/
def Hub.keepWas (h : Hub) (k old : Nat) : Hub :=
  let l := if h.pwr.wasAt = h.now then h.pwr.was else []
  { h with pwr := { h.pwr with wasAt := h.now, was := if l.any (fun e => e.1 == k) then l else Tab.ins l k old } }

/-- Sum of the allotments, with port `n`'s taken as `w`; those charged to a slice, with port `n` charged to `s'`. -/
def Hub.allotSum (h : Hub) (n w : Nat) : Nat := ports.foldl (fun a m => a + if m = n then w else h.allot m) 0
def Hub.sliceSum (h : Hub) (n w s' s : Nat) : Nat :=
  ports.foldl (fun a m => a + if m = n then (if s' = s then w else 0) else if h.chargedTo m = s then h.allot m else 0) 0

/-- A refusal is recorded in PWR_ERR. -/
def Hub.pwrErr (h : Hub) (cause index : Nat) : Hub :=
  ((h.raise F.PWR_ERR_VALID 1).set F.PWR_ERR_CAUSE cause).set F.PWR_ERR_INDEX index

/-- Power charged to a port in 0.5 mW (R407): allotment, or the contract's if higher; none once released (R244). -/
def Hub.charged (h : Hub) (n : Nat) : Nat :=
  if (h.cc n).freed then 0 else max (h.allot n * 2000) (if h.contract n then vcodeMv (h.get F.PORT_CCCON_VCODE n) * h.get F.PORT_CCCON_ICUR n else 0)

/-! ## Votes (R425) -/

/-- A software write gives a permission: it is seen from the next tick on (R368). -/
def Hub.swPerm (h : Hub) : Hub := { h with pwr := { h.pwr with swAt := some h.now } }

/-- At each tick: a port in DELAY energises once its permissions hold, from the tick after a software write on (R368); the old
supplier of a swap removes the cable supply from tick A on (R412). -/
def Hub.powerTick (h : Hub) : Hub :=
  h.each (h.pwr.ports.map (·.1)) (fun n g =>
    let g := if g.ppState n = ppDELAY ∧ g.pwr.swAt ≠ some g.now then g.ppEval n else g
    match (g.cc n).swap with
    | some w =>
      if ¬ w.gain ∧ ¬ w.removed ∧ g.due w.at_ then
        (g.setCson n false).setCc n { (g.setCson n false).cc n with swap := some { w with removed := true } }
      else g
    | none => g)

/-- Unbinding a slice clears its explicit votes (R286). -/
def Hub.dropVotes (h : Hub) (s : Nat) : Hub :=
  h.each (List.range 39) (fun d g =>
    let w := s / 32
    g.set F.PWR_EVOTE_EVOTE (clrBit (g.get F.PWR_EVOTE_EVOTE d w) (s % 32)) d w)

end Sys2Proof.Machine
end

