-- ==== Sys2Proof/Machine/ResetOps.lean ====
section
/-! DEFINITION. The resets of Table 18-1 as operations on the hub, and raising an interrupt of the management controller
(spec/18_reset_and_boot.md). -/

namespace Sys2Proof.Machine

/-- Interrupts of the management controller that the spec names (R424, R459, R485). -/
def irqMailbox : Nat := 0
def irqPower : Nat := 1
def irqNmi : Nat := 2

/-- An interrupt to the management controller is raised. -/
def Hub.mirq (h : Hub) (k : Nat) : Hub :=
  { h with boot := { h.boot with irqs := if h.boot.irqs.contains k then h.boot.irqs else h.boot.irqs ++ [k] }, led := { h.led with irq := true } }

/-- An analog block whose trim failed its OTP check stays disabled (R13): row of Table 1-1 from 0, instance. -/
def Hub.trimBad (h : Hub) (row i : Nat) : Bool := h.boot.bad.contains (row, i)

/-- Rows of Table 1-1 from 0: USB 2.0 PHY, power-path front end, configuration-channel transceiver. -/
def rowUsb : Nat := 2
def rowPower : Nat := 3
def rowCc : Nat := 4
/-- An analog block is enabled: its trims have been loaded, and passed their check (R13); the two that belong to the domain of a port
are off with it (R429, Table 16-5). -/
def Hub.blockOn (h : Hub) (row i : Nat) : Bool :=
  h.boot.loaded && !h.trimBad row i && !((row == rowPower || row == rowCc) && h.portDark i)

/-- A strap as sampled at the last chip reset (Table 18-2). -/
def Hub.strap (h : Hub) (k : Nat) : Bool := bitOf (h.get F.GLB_STRAP_STRAP) k

/-- The item as loaded at the last chip reset (R477). -/
def Hub.otpItem (h : Hub) (i : Nat) : Nat := Tab.get 0 h.boot.otp i

/-- The chip resets of Table 18-1. -/
inductive ResetKind where
  | power
  | pin
  | watchdog
  | cairn
  | chip
  | standby
deriving DecidableEq, Repr

/-- Power-on and pin resets clear everything (Table 18-1). -/
def ResetKind.full : ResetKind → Bool
  | .power => true
  | .pin => true
  | _ => false

/-- The bit of GLB_RSTCAUSE that a reset sets. -/
def ResetKind.cause : ResetKind → Fld
  | .power => F.GLB_RSTCAUSE_POR
  | .pin => F.GLB_RSTCAUSE_PIN
  | .watchdog => F.GLB_RSTCAUSE_WDT
  | .cairn => F.GLB_RSTCAUSE_CAIRN
  | .chip => F.GLB_RSTCAUSE_CHIP
  | .standby => F.GLB_RSTCAUSE_STBY

/-- Registers of the kept set that are kept whole (R465). -/
def keptReg (a : Nat) : Bool :=
  a == 0x104 || (decide (0x140 ≤ a) && decide (a < 0x180)) || a == 0xE480 || a == 0xE484 || a == 0xE488 ||
  (decide (0x10000 ≤ a) && decide (a < 0x30000) &&
    (a % 0x1000 == 0x208 || a % 0x1000 == 0x20C || a % 0x1000 == 0x210 || a % 0x1000 == 0x26C))

/-- Every output that a reset switches off: lanes, gates, the cable supply, discharges of the outputs that were energised. -/
def Hub.outputsOff (h : Hub) : List Out :=
  ports.flatMap (fun n =>
    (if h.get F.PORT_LSTAT_STATE n = 0 then [] else [Out.off n 15]) ++
    (if (h.pp n).gate then [Out.gate n 0] else []) ++
    (if (h.pp n).dsch = ((h.pp n).gate || (h.pp n).drain) then [] else [Out.pin (.dsch n) ((h.pp n).gate || (h.pp n).drain)]) ++
    (if h.flag F.PORT_CCSTAT_CSON n then [Out.pin (.csen n) false] else []))

/-- What the power paths keep: the energy counters, and the discharge of an output that was energised (R465). -/
def Hub.keptPower (h : Hub) : Tab PwrPort :=
  h.pwr.ports.filterMap (fun e =>
    let d := e.2.gate || e.2.drain
    let x : PwrPort := { energy := e.2.energy, dsch := d, drain := d }
    if x = {} then none else some (e.1, x))

/-- Latched ports stay latched, the fuse owning their analog sets (R28, R465). -/
def Hub.relatch (h : Hub) : Hub :=
  h.each ports (fun n g => if g.flag F.PORT_PPTRIP_LATCH n then (g.setPpState n ppLATCHED).setOwner (resAnalog n) ownFuse else g)

/-- What OTP and straps show at once (Tables 18-7, 18-8, 18-10, 17-17, 19-17; R482): identification, debug lock, rollback
count, SECBOOT, REVOKE, and which items hold a programmed bit. -/
def Hub.showOtp (h : Hub) (otp : Tab Nat) : Hub :=
  let it (i : Nat) : Nat := Tab.get 0 otp i
  let h := ((h.set F.GLB_DIEID_LO_DIEID (it 2)).set F.GLB_DIEID_HI_DIEID (it 2 / 2 ^ 32)).set F.GLB_DBG_LOCKED (b2n (it 12 % 2 == 1))
  let h := ((h.set F.GLB_BOOTSTAT_ROLLBACK (popCount 64 (it 10))).set F.GLB_OTPSTAT_SECBOOT (it 11)).set F.GLB_OTPSTAT_REVOKE (it 9)
  h.set F.GLB_OTPSTAT_PROG ((List.range 12).foldl (fun a i => a + b2n (it (i + 1) != 0) * 2 ^ i) 0)

/-- At the summit ridge time starts with the reset, and transmission is permitted (Table 2-1, R36); the summit holds hub ID 0x0000 with prefix
length 0 at depth 0 (R163). -/
def Hub.summitStart (h : Hub) : Hub :=
  if h.strap 0 then
    let h := (h.set F.TIME_CTL_SUMMIT 1).set F.TIME_STAT_STATE 5
    let h := (h.set F.FAB_ID_VALID 1).set F.FAB_ID_SUMMIT 1
    { h with time := { h.time with txOn := true, everLocked := true } }
  else h

/-- A chip reset but for what the ports present: straps sampled, OTP items taken, every resource back with its owner after reset; the
OTP read and the rails follow (R468). -/
def Hub.resetAll (h : Hub) (k : ResetKind) (otp : Tab Nat) (straps : Nat) : Hub :=
  let full := k.full
  let g : Hub := { out := h.out ++ h.outputsOff, draws := h.draws,
                   regs := if full then [] else h.regs.filter (fun e => keptReg e.1),
                   pwr := { ports := if full then [] else h.keptPower },
                   boot := { otp := otp }, led := { wiped := true } }
  let g := if full then g
    else ((g.set F.GLB_CAIRNSTAT_LASTCAUSE (h.get F.GLB_CAIRNSTAT_LASTCAUSE)).set F.GLB_CAIRNSTAT_LASTLEN
      (h.get F.GLB_CAIRNSTAT_LASTLEN)).set F.GLB_CAIRNSTAT_TIMEDOUT (h.get F.GLB_CAIRNSTAT_TIMEDOUT)
  let g := (g.set F.GLB_STRAP_STRAP straps).raise k.cause 1
  -- STRAP_PCIEOFF: the HIF domain, 36, stays OFF (Table 18-2)
  let g := if bitOf straps 5 then g.set F.PWR_DSTAT_LEVEL 4 36 else g
  let g := { (g.relatch.showOtp otp).summitStart with keys := [3, 4].filterMap (fun i =>
    let v := Tab.get 0 otp i
    if v = 0 then none else some (i - 3, v)) }
  -- a pin reset leaves the rails as they are; any other turns them off
  if k = .pin then { g with boot := { g.boot with regEn := h.boot.regEn, good := h.boot.good } }
  else { g with out := g.out ++ ([3, 2, 1, 0].filter (fun r => bitOf h.boot.regEn r)).map (fun r => Out.pin (.regEn r) false) }

/-- A chip reset (R464). -/
def Hub.chipReset (h : Hub) (k : ResetKind) (otp : Tab Nat) (straps : Nat) : Hub := h.showLines (h.resetAll k otp straps)

end Sys2Proof.Machine
end

