-- ==== Sys2Proof/Machine/PwsOps.lean ====
section
/-! DEFINITION. Shared operations of the power states: votes, entry and exit of domains, the VCORE sequencer, Standby entry
(spec/16_power_states.md). -/

namespace Sys2Proof.Machine

/-! ## Domains and levels (Tables 16-1, 16-2) -/

def dAON : Nat := 32
def dMGMT : Nat := 33
def dCORE : Nat := 34
def dSRAM : Nat := 35
def dHIF : Nat := 36
def dRAS : Nat := 37
def dPERI : Nat := 38
def domains : List Nat := (List.range 39).filter (fun d => d != 32)

/-- Level codes (R419). -/
def lvRUN : Nat := 0
def lvIDLE : Nat := 1
def lvSLEEP : Nat := 2
def lvDOZE : Nat := 3
def lvOFF : Nat := 4

def Hub.dom (h : Hub) (d : Nat) : Dom := Tab.get {} h.pwr.doms d
def Hub.setDom (h : Hub) (d : Nat) (x : Dom) : Hub := { h with pwr := { h.pwr with doms := Tab.set {} h.pwr.doms d x } }
def Hub.level (h : Hub) (d : Nat) : Nat := h.get F.PWR_DSTAT_LEVEL d
def Hub.dstep (h : Hub) (d : Nat) : Nat := h.get F.PWR_DSTAT_STEP d

/-- A level that firmware can ask of a domain (Table 16-2). -/
def hasLevel (d l : Nat) : Bool :=
  if d < 32 then l == 1 || l == 2 || l == 4
  else if d = 33 then l == 1 || l == 2
  else if d = 34 then l == 3 || l == 4
  else if d = 35 then l == 2 || l == 3
  else if d = 36 then l == 1 || l == 2 || l == 4
  else if d = 37 then l == 4
  else if d = 38 then l == 2 || l == 4
  else false

/-! ## Votes (Table 16-4) -/

def Hub.shared (h : Hub) : Bool := h.flag F.PWR_PSCTL_SHARED

/-- A pipe that is enabled; one whose owner is `s`. -/
def Hub.pipeOn (h : Hub) (d : Nat) : Bool := h.pState d != pIDLE

/-- A ring with REMOTE = 0 in RUN or RESETTING. -/
def Hub.localBusy (h : Hub) (r : Nat) : Bool := !h.rRemote r && (h.rState r == rRUN || h.rState r == rRESETTING)

/-- An egress queue that holds more than its MIN. -/
def Hub.overMin (h : Hub) (q : Nat) : Bool := decide (h.get F.CORE_QCFG_MIN q < h.get F.CORE_QOCC_OCC q)

/-- The queues that hold more than their MIN, among those that hold frames or have one being sent. -/
def Hub.fullQueues (h : Hub) : List Nat :=
  (h.core.queues.map (·.1) ++ h.core.tx.filterMap (fun e => e.2.map (·.q))).filter (fun q => h.overMin q)

/-- A slice's implicit vote. -/
def Hub.sliceVote (h : Hub) (d s : Nat) : Bool :=
  if d = dHIF then h.liveRings.any (fun r => h.localBusy r && h.rSlice r == s)
  else if d = dRAS then (List.range 8).any (fun p => h.pipeOn p && h.pipeOwner p == s)
  else if d = dPERI then !h.usbQuiet s
  else if d = dCORE ∨ d = dSRAM then h.fullQueues.any (fun q => h.qOwner q == s)
  else false

/-- Some slice's implicit vote. -/
def Hub.anySlice (h : Hub) (d : Nat) : Bool :=
  if d = dHIF then h.liveRings.any (fun r => h.localBusy r)
  else if d = dRAS then (List.range 8).any (fun p => h.pipeOn p)
  else if d = dPERI then !h.peri.xfers.isEmpty
  else if d = dCORE ∨ d = dSRAM then !h.fullQueues.isEmpty
  else false

/-- A manager slot's implicit vote: until MGRHOLD × 1,000 ticks after its last request. -/
def Hub.mgrVote (h : Hub) (d m : Nat) : Bool :=
  (d == dMGMT || d == dCORE || d == dSRAM) && decide (h.now < Tab.get 0 h.pwr.mgr m)

/-- The implicit votes of the internal clients, bits 145 to 149. -/
def Hub.clientVote (h : Hub) (d v : Nat) : Bool :=
  if v = 145 then
    d < 32 && (decide (2 ≤ h.get F.PORT_LSTAT_STATE d) && decide (h.get F.PORT_LSTAT_STATE d ≤ 6) || h.get F.PORT_LKSTAT_STATE d == 1 ||
      (h.lane d).turn.isSome || h.get F.PORT_LSTAT_RECOV d != 0)
  else if v = 146 then (d < 32 || d == dCORE || d == dSRAM || d == dMGMT) && !h.flag F.FAB_SITE_READY
  else if v = 147 then d < 32 && (h.cc d).ren.any (fun r => r.2)
  else if v = 148 then d < 32 && (h.ppState d == ppRAMP || (h.pp d).trans.isSome)
  else if v = 149 then d == dCORE && h.evs.streams.any (fun e => decide (0 < e.2.pend))
  else false

def Hub.anyClient (h : Hub) (d : Nat) : Bool := [145, 146, 147, 148, 149].any (fun v => h.clientVote d v)

/-- An explicit bit of PWR_EVOTE. -/
def Hub.explicitVote (h : Hub) (d v : Nat) : Bool := bitOf (h.get F.PWR_EVOTE_EVOTE d (v / 32)) (v % 32)

/-- A bit of the vector (R425): what PWR_VOTEw shows. -/
def Hub.vote (h : Hub) (d v : Nat) : Bool :=
  d != dAON && (h.explicitVote d v ||
    (if v < 128 then h.sliceVote d v else if v < 144 then h.mgrVote d (v - 128) else h.clientVote d v))

/-- A domain's vector holds a bit. -/
def Hub.voted (h : Hub) (d : Nat) : Bool :=
  (List.range 5).any (fun w => h.get F.PWR_EVOTE_EVOTE d w != 0) || h.anySlice d || (List.range 16).any (fun m => h.mgrVote d m) ||
    h.anyClient d

/-- What holds a domain at RUN: the whole vector in shared mode, the internal clients in local mode (R423, R425). -/
def Hub.held (h : Hub) (d : Nat) : Bool := if h.shared then h.voted d else h.anyClient d

/-- The mode follows the slices and manager slots; on the way to shared mode S0 votes for every domain (R422). -/
def Hub.modeCheck (h : Hub) : Hub :=
  let now_ := (List.range 127).any (fun s => h.bound (s + 1)) || (List.range 16).any (fun m => h.flag F.FAB_RMGR_EN m)
  if now_ = h.shared then h
  else
    let h := h.set F.PWR_PSCTL_SHARED (b2n now_)
    if now_ then h.each domains (fun d g =>
      let g := g.set F.PWR_EVOTE_EVOTE (setBit (g.get F.PWR_EVOTE_EVOTE d 0) 0) d 0
      if (g.dom d).chosen then g.setDom d { g.dom d with chosen := false } else g)
    else h

/-! ## The VCORE sequencer (R435 to R439) -/

def levelCeil : Nat → Nat
  | 0 => 7
  | 1 => 8
  | 2 => 10
  | _ => 12
/-- The management controller's clock: 0 200 MHz, 1 300 MHz, 2 400 MHz. -/
def levelClk (l : Nat) : Nat := min l 2
def Hub.voutCode (h : Hub) (l : Nat) : Nat :=
  match l with
  | 0 => h.get F.PWR_VOUTCODE0_VOUT0
  | 1 => h.get F.PWR_VOUTCODE0_VOUT1
  | 2 => h.get F.PWR_VOUTCODE1_VOUT2
  | _ => h.get F.PWR_VOUTCODE1_VOUT3
def Hub.vlevel (h : Hub) : Nat := h.get F.CORE_STAT_VLEVEL

/-- The admission ceiling in force: that of the sequencer's level, under the cap of an entry of CORE (R16, R17). -/
def Hub.ceiling (h : Hub) : Nat := min (levelCeil h.pwr.ceilLvl) h.pwr.cap
/-- The management controller's clock in force. -/
def Hub.clock (h : Hub) : Nat := min h.pwr.clk h.pwr.clkCap

/-- CORE_STAT.CEIL follows the ceiling, which is 0 for good after a fatal error (R437, R459). -/
def Hub.showCeil (h : Hub) : Hub := if h.flag F.GLB_FATAL_VALID then h else h.set F.CORE_STAT_CEIL h.ceiling
/-- The sequencer permits the ceiling of a level; an entry of CORE caps it. -/
def Hub.setCeil (h : Hub) (l : Nat) : Hub := { h with pwr := { h.pwr with ceilLvl := l } }.showCeil
def Hub.setCap (h : Hub) (c : Nat) : Hub := { h with pwr := { h.pwr with cap := c } }.showCeil
/-- The sequencer permits the clock of a level; an entry of CORE caps it. -/
def Hub.setClk (h : Hub) (c : Nat) : Hub := { h with pwr := { h.pwr with clk := c } }
def Hub.setClkCap (h : Hub) (c : Nat) : Hub := { h with pwr := { h.pwr with clkCap := c } }
def Hub.setChg (h : Hub) (c : Option VChange) : Hub := { h with pwr := { h.pwr with chg := c } }
def Hub.setNext (h : Hub) (c : Option Nat) : Hub := { h with pwr := { h.pwr with next := c } }

/-- VOUT_COMMAND of a change is written. -/
def Hub.writeVout (h : Hub) (c : VChange) : Hub := (h.setChg (some { c with stage := 0 })).emit (.pmbusVout (h.voutCode c.level))

/-- A change starts: a decrease first lowers ceiling and clock, unless an entry of CORE has (R437). -/
def Hub.startChange (h : Hub) (l : Nat) : Hub :=
  let commit := h.dstep dCORE == 5 && h.get F.PWR_DSTAT_TARGET dCORE == lvDOZE
  let c : VChange := { level := l, old := h.vlevel, commit := commit, stage := 5, sentAt := h.now }
  let h := h.set F.PWR_VREQ_BUSY 1
  if c.old < l then h.writeVout c
  else if h.ceiling ≤ levelCeil l ∧ h.clock ≤ levelClk l then ((h.setCeil l).setClk (levelClk l)).writeVout c
  else h.setChg (some c)

/-- The level that CORE should run at (R435). -/
def Hub.wantLevel (h : Hub) : Nat :=
  if h.level dCORE = lvDOZE ∧ ¬ (h.dom dCORE).exit then h.get F.PWR_VREQ_DOZELVL else h.get F.PWR_VREQ_RUNLVL

/-- A level is asked for: held while PMBus is off, kept while another change is in progress (R435, R436). -/
def Hub.askLevel (h : Hub) (l : Nat) : Hub :=
  if h.pwr.chg.isSome then h.setNext (some l)
  else if l = h.vlevel then h
  else if ¬ h.flag F.PWR_PMBCFG_EN then h.set F.PWR_VREQ_STATUS 4
  else h.startChange l

/-! ## Entry and exit (R420, R426 to R428, Table 16-5) -/

/-- The condition under which an entry begins (Table 16-5). -/
def Hub.mayBegin (h : Hub) (d l : Nat) : Bool :=
  let low (x : Nat) : Bool := h.level x == lvSLEEP || h.level x == lvOFF
  if d < 32 then
    let slp := h.get F.PORT_LKSTAT_STATE d == 0 ||
      ((h.get F.FAB_PORTSTAT_KIND d == 1 || h.get F.FAB_PORTSTAT_KIND d == 2) && (h.link d).ret.isEmpty)
    l == lvIDLE || (slp && (l == lvSLEEP ||
      ((h.ppState d == ppOFF || h.ppState d == ppLATCHED) && !(h.isSink d && (h.pp d).gate) && h.level dSRAM != lvOFF)))
  else if d = dMGMT then h.pwr.cpuWait
  else if d = dCORE then
    if l = lvDOZE then h.flag F.PWR_PMBCFG_EN && h.voutCode (h.get F.PWR_VREQ_DOZELVL) != 0 && !(h.dom d).barred
    else ports.all low && low dHIF && h.level dRAS == lvOFF && low dPERI
  else if d = dSRAM then h.level dCORE == lvOFF || (l == lvDOZE && h.level dCORE == lvDOZE)
  else if d = dHIF then
    l == lvIDLE || (l == lvSLEEP && h.pwr.d3 && h.liveRings.all (fun r => h.rRemote r)) || (l == lvOFF && h.pwr.perst)
  else if d = dRAS then (List.range 8).all (fun p => !h.pipeOn p)
  else if d = dPERI then
    if l = lvOFF then ports.all (fun n => !h.flag F.PERI_PCTL_PEN n)
    else ports.all (fun n => !h.flag F.PERI_PCTL_PEN n || ((h.upState n == upOFF || h.upState n == upDISCONNECTED ||
      h.upState n == upSUSPENDED) && h.peri.xfers.all (fun q => q.port != n)))
  else false

/-- A step with nothing to do (Table 16-5). -/
def stepEmpty (d l k : Nat) : Bool :=
  if d < 32 then k == 3 && l == lvIDLE
  else if d = 33 then k == 1 || k == 3 || (k == 4 && l == lvIDLE)
  else if d = 34 then k == 3 || (k == 2 && l == lvDOZE)
  else if d = 35 then k == 1 || k == 3 || (k == 4 && l == lvDOZE)
  else if d = 36 then k ≤ 4 && !(k == 4 && l != lvIDLE) && !(k == 2 && l == lvSLEEP)
  else if d = 37 then k == 1 || k == 3
  else k ≤ 3

def Hub.setStep (h : Hub) (d k : Nat) : Hub := (h.set F.PWR_DSTAT_STEP k d).setDom d { h.dom d with stepAt := h.now }

/-- An entry has ended without a change of level. -/
def Hub.entryGone (h : Hub) (d : Nat) : Hub :=
  let h := ((h.setStep d 0).set F.PWR_DSTAT_TARGET 0 d).bump F.PWR_DSTAT_ABORTS d
  h.setDom d { h.dom d with wake := false, emptyAt := none, spent := false, undo := false }

/-- An entry is withdrawn (R427): what CORE's has lowered is raised again in reverse order, the clock in 8 ticks and the ceiling at
the tick boundary after (Table 16-8); the steps of the others leave nothing to wait for. -/
def Hub.withdrawEntry (h : Hub) (d : Nat) : Hub :=
  if d ≠ dCORE then h.entryGone d
  else
    let h := h.setStep dCORE (if h.dstep dCORE = 4 ∧ h.pwr.clkCap < 2 then 4 else 1)
    h.setDom dCORE { h.dom dCORE with undo := true }

/-- A step of an entry starts; steps with nothing to do end in the same tick, and a wake in abort mode withdraws at the abort
point between them (R426 to R428). Step 5 of CORE's entry to DOZE is a VCORE change. -/
def Hub.beginStep (h : Hub) (d k : Nat) : Nat → Hub
  | 0 => h
  | f + 1 =>
    if 1 < k ∧ (h.dom d).wake ∧ ¬ h.flag F.PWR_DCFG_WMODE d then h.withdrawEntry d
    else
      let l := h.get F.PWR_DSTAT_TARGET d
      let h := h.setStep d k
      if k < 5 ∧ stepEmpty d l k then h.beginStep d (k + 1) f
      else if k = 5 ∧ d = dCORE ∧ l = lvDOZE then h.askLevel (h.get F.PWR_VREQ_DOZELVL)
      else h

/-- An entry starts. -/
def Hub.startEntry (h : Hub) (d l : Nat) : Hub :=
  let h := (h.set F.PWR_DSTAT_TARGET l d).setDom d { h.dom d with wake := false, chosen := false, spent := false, emptyAt := none }
  h.beginStep d 1 6

/-- An entry to DROP starts if the domain has that level, rests at RUN and its begin condition holds (R426). -/
def Hub.tryEntry (h : Hub) (d : Nat) : Hub :=
  let l := h.get F.PWR_DCFG_DROP d
  if hasLevel d l ∧ h.level d = lvRUN ∧ h.dstep d = 0 ∧ ¬ (h.dom d).exit ∧ h.mayBegin d l then h.startEntry d l else h

/-- The domain a waking domain waits for is back, or at DOZE with no vote (R420). -/
def Hub.depOk (h : Hub) (d : Nat) : Bool :=
  h.level d == lvRUN || (h.level d == lvDOZE && !h.held d)

/-- The domain that a domain's level depends on (R420). -/
def depOf (d : Nat) : Option Nat :=
  if d = dSRAM ∨ d = dAON ∨ d = dMGMT then none else if d = dCORE then some dSRAM else some dCORE

/-- An exit begins, but for HIF under STRAP_PCIEOFF (Table 18-2), waking first what the level depends on: CORE at OFF needs SRAM, the others need CORE (R420). CORE leaves
DOZE by a VCORE change. -/
def Hub.exitFrom (h : Hub) (d : Nat) : Nat → Hub
  | 0 => h
  | f + 1 =>
    if h.level d = lvRUN ∨ (h.dom d).exit ∨ (d = dHIF ∧ h.strap 5) then h
    else
      let h := h.setDom d { h.dom d with exit := true, chosen := false }
      if d = dCORE ∧ h.level d = lvDOZE then h.askLevel (h.get F.PWR_VREQ_RUNLVL)
      else
        match depOf d with
        | none => h
        | some e =>
          if h.level d = lvIDLE ∨ h.depOk e then h
          else (h.exitFrom e f).setDom d { (h.exitFrom e f).dom d with waits := true }
def Hub.startExit (h : Hub) (d : Nat) : Hub := h.exitFrom d 3

/-- A wake of a domain (R428): pending while an entry runs, an exit at its level. -/
def Hub.wakeDom (h : Hub) (d : Nat) : Hub :=
  if h.dstep d ≠ 0 then h.setDom d { h.dom d with wake := true }
  else if h.level d ≠ lvRUN then h.startExit d
  else h.setDom d { h.dom d with chosen := false }

/-- Local mode: the processor's wait ends, which wakes every selected domain (R424). -/
def Hub.selected (h : Hub) (d : Nat) : Bool :=
  if d < 32 then bitOf (h.get F.PWR_LSEL0_PORTSEL) d else d != dAON && bitOf (h.get F.PWR_LSEL1_SEL) (d - 32)
def Hub.endWait (h : Hub) : Hub :=
  let h := { h with pwr := { h.pwr with cpuWait := false } }.set F.MGMT_STAT_WAITING 0
  (h.each (domains.filter (fun d => h.selected d)) (fun d g => g.wakeDom d)).wakeDom dMGMT

/-- A wake source of Table 16-6 of a domain. In local mode the wake of a selected domain, or an
interrupt, ends the processor's wait. -/
def Hub.domainWake (h : Hub) (d : Nat) : Hub :=
  if h.pwr.stby.isSome then { h with pwr := { h.pwr with stbyWake := some (0, 0) } }
  else if d = dAON then h
  else
    let h := h.wakeDom d
    if d = dMGMT ∨ (¬ h.shared ∧ h.pwr.cpuWait ∧ h.selected d) then
      if h.shared then { h with pwr := { h.pwr with cpuWait := false } }.set F.MGMT_STAT_WAITING 0
      else if d = dMGMT then h.endWait
      else (h.mirq irqPower).endWait
    else h

/-- An interrupt that was raised ends the processor's wait (R424). -/
def Hub.irqWake (h : Hub) : Hub := if h.led.irq ∧ h.pwr.cpuWait then h.domainWake dMGMT else h

/-- Lanes of a port that rests deeper than IDLE: link down, transmitters off (Table 16-5). -/
def Hub.portSleep (h : Hub) (n : Nat) : Hub := (h.linkDown n causeLanes).toDisabled n

/-- A level is reached (step 5): a wake that came too late starts the exit (R428). -/
def Hub.commitLevel (h : Hub) (d : Nat) : Hub :=
  let l := h.get F.PWR_DSTAT_TARGET d
  let late := (h.dom d).wake
  let h := ((h.setStep d 0).set F.PWR_DSTAT_TARGET 0 d).set F.PWR_DSTAT_LEVEL l d
  let h := h.setDom d { h.dom d with wake := false }
  let h := if d = dCORE ∧ l = lvDOZE then (h.setCap 12).setClkCap 2 else h
  let h := if d < 32 ∧ (l = lvSLEEP ∨ l = lvOFF) then h.portSleep d else h
  if late then (h.bump F.PWR_DSTAT_LATEWAKE d).startExit d else h

/-- A domain is back at RUN: those that waited for it may start their own exits (R420). -/
def Hub.backAtRun (h : Hub) (d : Nat) : Hub :=
  let h := (h.set F.PWR_DSTAT_LEVEL 0 d).setDom d { h.dom d with exit := false, waits := false, emptyAt := none, spent := false }
  h.each domains (fun e g =>
    let x := g.dom e
    if x.waits ∧ (depOf e).any (fun f => g.depOk f) then g.setDom e { x with waits := false } else g)

/-! ## The end of a VCORE change -/

/-- A change has ended: CORE's entry or exit that waited for it goes on, and the latest request kept is applied (R435, R439). -/
def Hub.endChange (h : Hub) (c : VChange) (status : Nat) : Hub :=
  let h := ((h.set F.PWR_VREQ_BUSY 0).set F.PWR_VREQ_STATUS status).setChg none
  let h := if c.commit ∧ h.dstep dCORE = 5 then
      if status = 1 then h.commitLevel dCORE
      else
        let h := ((h.entryGone dCORE).setCap 12).setClkCap 2
        (h.setDom dCORE { h.dom dCORE with barred := true }).setNext none
    else if (h.dom dCORE).exit ∧ h.level dCORE = lvDOZE then
      if h.vlevel = h.get F.PWR_VREQ_RUNLVL then h.backAtRun dCORE else h.setDom dCORE { h.dom dCORE with exit := false }
    else h
  match h.pwr.next with
  | none => h
  | some l => if h.pwr.chg.isSome then h else (h.setNext none).askLevel l

/-- A change fails with PMBERR 2 or NOPG 3: a decrease writes the old code back (R439). -/
def Hub.failChange (h : Hub) (c : VChange) (status : Nat) : Hub :=
  let h := (h.bump F.PWR_PSCNT_VFAIL).set F.PWR_VREQ_STATUS status
  let h := h.fault0 0x10 srcHub (c.level * 16 + status)
  if c.level < c.old then
    (h.setChg (some { c with stage := 3, fails := 0, status := status })).emit (.pmbusVout (h.voutCode c.old))
  else h.endChange c status

/-- A change is complete (R437). -/
def Hub.changeDone (h : Hub) (c : VChange) : Hub := (h.bump F.PWR_PSCNT_VCHG).endChange c 1

/-! ## What happens at each tick -/

/-- How long the clock of the management controller takes to come to a level (R437). -/
def Hub.clkTime (h : Hub) (l : Nat) : Nat := if levelClk l = h.clock then 0 else 8

/-- The sequencer at a tick boundary (R17, R437): before VOUT_COMMAND the ceiling is lowered at the next boundary, and the clock in 8
ticks; after an increase, or with the old code back, the clock is raised in 8 ticks, and the ceiling at the boundary after. -/
def Hub.seqTick (h : Hub) : Hub :=
  match h.pwr.chg with
  | none => h
  | some c =>
    if c.stage = 5 then
      let t := c.sentAt + 1 + h.clkTime c.level
      let h := if c.sentAt < h.now then h.setCeil c.level else h
      if t ≤ h.now then (h.setClk (levelClk c.level)).writeVout c else h
    else if c.stage = 6 then
      let l := if c.status = 1 then c.level else c.old
      if levelClk l ≠ h.pwr.clk then
        if c.goodAt + 8 ≤ h.now then (h.setClk (levelClk l)).setChg (some { c with goodAt := c.goodAt + 8 }) else h
      else if c.goodAt < h.now then
        let h := h.setCeil l
        if c.status = 1 then h.changeDone c else h.endChange c c.status
      else h
    else h

/-- The undoing of CORE's entry at a tick boundary (R427, Table 16-8). -/
def Hub.undoTick (h : Hub) : Hub :=
  let x := h.dom dCORE
  if ¬ x.undo then h
  else if h.dstep dCORE = 4 then
    if x.stepAt + 8 ≤ h.now then (h.setClkCap 2).setStep dCORE 1 else h
  else if x.stepAt < h.now then (h.setCap 12).entryGone dCORE
  else h

/-- VCORE's part of a new tick. -/
def Hub.vcoreTick (h : Hub) : Hub := h.undoTick.seqTick

/-- The vector of a domain is judged at the end of a tick: a set bit wakes, an empty one runs the DLY timer; a domain whose
timer is spent, or that firmware has chosen in local mode, enters once its condition holds (R423, R426, R428, R430). -/
def Hub.domTick (h : Hub) (d : Nat) : Hub :=
  let x := h.dom d
  if h.held d then
    let h := if x.emptyAt.isSome ∨ x.spent then h.setDom d { x with emptyAt := none, spent := false } else h
    if h.dstep d = 0 ∧ h.level d = lvRUN then h
    else if ¬ h.shared ∧ h.pwr.cpuWait ∧ h.selected d then ((h.wakeDom d).mirq irqPower).endWait
    else h.wakeDom d
  else if h.dstep d ≠ 0 ∨ h.level d ≠ lvRUN then h
  else if h.shared then
    if x.spent then h.tryEntry d
    else if x.emptyAt.isNone then h.setDom d { x with emptyAt := some h.now }
    else h
  else if x.chosen then h.tryEntry d
  else h

/-- In local mode only the domains that firmware chose, or that have left RUN, are looked at. -/
def Hub.domsTick (h : Hub) : Hub :=
  if h.shared then h.each domains (fun d g => g.domTick d)
  else h.each (h.pwr.doms.map (·.1)) (fun d g => g.domTick d)

/-! ## Standby (R431 to R433) -/

/-- The order in which the domains go OFF. -/
def stbyGroups : List (List Nat) := [ports, [37], [38], [36], [34], [35], [33]]

/-- What the domains of a group do in place of the begin conditions (R432). -/
def Hub.stbyAct (h : Hub) (d : Nat) : Hub :=
  if d < 32 then h.portSleep d
  else if d = dRAS then h.each (List.range 8) (fun p g => g.pipeStop p)
  else if d = dPERI then
    let h := h.each (ports.filter (fun n => h.flag F.PERI_PCTL_PEN n)) (fun n g => g.portSuspend n)
    h.abortXfers (fun _ => true) xSUSPENDED
  else if d = dHIF then
    let h := h.each (h.liveRings.filter (fun r => !h.rRemote r)) (fun r g => ((g.ringReset r false).squash r).2)
    ((h.set F.HIF_PSTAT_LINKUP 0).set F.HIF_PSTAT_WIDTH 0).set F.HIF_PSTAT_SPEED 0
  else if d = dCORE then
    let h := h.each (List.range 272) (fun q g => if g.get F.CORE_QOCC_OCC q = 0 then g else g.set F.CORE_QOCC_OCC 0 q)
    { (h.setDom dCORE { h.dom dCORE with undo := false }).setCap 0 with core := {} }
  else h

/-- A group starts its entry to OFF. -/
def Hub.stbyGroup (h : Hub) (l : List Nat) : Hub :=
  let h := h.each l (fun d g => ((g.stbyAct d).set F.PWR_DSTAT_TARGET lvOFF d).setStep d 2)
  { h with pwr := { h.pwr with stby := some (h.now, l) } }

/-- A wake during Standby entry in abort mode: every domain goes back to RUN (R431). -/
def Hub.stbyWithdraw (h : Hub) : Hub :=
  let h := { h with pwr := { h.pwr with stby := none, stbyWake := none } }
  h.each domains (fun d g =>
    if g.dstep d = 5 then g.wakeDom d
    else if g.dstep d ≠ 0 then g.withdrawEntry d
    else if g.level d ≠ lvRUN then g.startExit d
    else g)

/-- REG_EN is deasserted: only AON is powered, and what AON keeps is kept (R431); the roles of the ports stay in the wake
comparator's watch, its trim included (R13, R433), and say what the ports present (R386). A wake that MGMT's complete mode left
pending ends Standby next (R428, R431). -/
def Hub.goDark (h : Hub) (otp : Tab Nat) : Hub :=
  let roles := ports.filterMap (fun n => if h.get F.PORT_CCCTL_ROLE n = 0 then none else some (n, h.get F.PORT_CCCTL_ROLE n))
  let g := h.resetAll .standby otp (h.get F.GLB_STRAP_STRAP)
  let g := g.set F.GLB_RSTCAUSE_STBY (h.get F.GLB_RSTCAUSE_STBY)
  h.showLines { g with pwr := { g.pwr with asleep := true, roles := roles, stbyWake := h.pwr.stbyWake },
                       boot := { g.boot with bad := h.boot.bad.filter (fun b => b.1 == 6) } }

end Sys2Proof.Machine
end

