-- ==== Sys2Proof/Machine/EvsOps.lean ====
section
/-! DEFINITION. Draining an event stream, and what a fatal error stops (spec/17_events_and_faults.md). -/

namespace Sys2Proof.Machine

/-- A fatal error has occurred (R459). -/
def Hub.fatal? (h : Hub) : Bool := h.flag F.GLB_FATAL_VALID

/-- Records leave a stream: each one's credit returns (R449, R450). -/
def Hub.drained (h : Hub) (v : Nat) (l : List Slot) : Hub :=
  let h := l.foldl (fun g s => match s.prod with
    | some p => g.returnCredit p
    | none => g) h
  h.set F.EVS_STAT_PEND (h.stream v).pend v

/-- A close that was held takes place once the other bank is empty (R449). -/
def Hub.heldClose (h : Hub) (v : Nat) : Hub :=
  match (h.stream v).held with
  | some f => if (h.stream v).drain.slots = [] then h.closeBank v f else h
  | none => h

/-- The payload of a bank's event frame (R143, R450). -/
def evPayload (v : Nat) (l : List Slot) : Bytes :=
  beBytes 8 (pack [(3, v), (13, 0), (16, l.length), (32, (l.head?.map (·.num)).getD 0)]) ++ l.flatMap (fun s => beBytes 8 s.word)

/-- The entry a stream drains to (R442). -/
def Hub.evEntry (h : Hub) (v : Nat) : Bool :=
  let t := h.get F.EVS_CFG_TUN v
  h.tunState t == tsOpen && h.get F.TUN_W0_TYPE t == 5 && h.get F.TUN_W2_FUNC t == 3 && h.get F.TUN_W2_FIDX t == v

/-- The draining bank leaves as one event frame, where the entry takes it (R450). -/
def Hub.pumpStream (h : Hub) (v : Nat) : Hub :=
  let x := h.stream v
  let t := h.get F.EVS_CFG_TUN v
  if h.flag F.EVS_CFG_EN v ∧ h.flag F.EVS_CFG_DEST v ∧ x.drain.slots ≠ [] ∧ x.offered = false ∧ h.evEntry v ∧
      h.mayBuild t (8 + 8 * x.drain.slots.length) 33 then
    (h.setStream v { x with offered := true }).build t (evPayload v x.drain.slots) 33 (.stream v)
  else h

/-- The header of the event frame has committed, or the frame was discarded: its records have left (R450). -/
def Hub.streamSent (h : Hub) (v : Nat) : Hub :=
  let x := h.stream v
  ((h.setStream v { x with drain := {}, offered := false }).drained v x.drain.slots).heldClose v

/-- The event ring that a stream writes to: one being reset whose started buffer runs on (Table 9-13), else the RUN ring that binds
it (R271). -/
def Hub.evRing (h : Hub) (v : Nat) : Option Nat :=
  let l := h.liveRings.filter (fun r => h.rKind r == kEVT && h.get F.RCTX0_BIND r == v)
  match l.find? (fun r => h.rState r == rRESETTING && (h.buffers r).any (·.started)) with
  | some r => some r
  | none => l.find? (fun r => h.rState r == rRUN)

/-- EVS_STAT.STATE (Table 17-11): OFF; WAIT while no buffer is posted, or the event frame is held back (R449, R450); RUN. -/
def Hub.evState (h : Hub) (v : Nat) : Nat :=
  let x := h.stream v
  if ¬ h.flag F.EVS_CFG_EN v then 0
  else if x.drain.slots = [] then 1
  else if h.flag F.EVS_CFG_DEST v then 2
  else match h.evRing v with
    | some r => if h.buffers r = [] then 2 else 1
    | none => 2

end Sys2Proof.Machine
end

