-- ==== Sys2Proof/Machine/Settle.lean ====
section
/-! DEFINITION. What closes every command: the functions that built frames are told of their commit or discard, frames that left
E32 or E33 reach the function where they terminate, and what can now leave is offered. -/

namespace Sys2Proof.Machine

/-! ## Commits and discards (R264, R269, R450) -/

/-- A function is told of its frame's commit or discard. A WR that was discarded is retained by its protected entry, which sends
it again. -/
def Hub.takeNote (h : Hub) (n : Note) : Hub :=
  match n.origin with
  | .none => h
  | .ring r slot => h.finDesc r slot n.status n.eseq n.ts
  | .blk r slot len => h.modDesc r slot (fun d => { d with moved := d.moved + len })
  | .stream v => h.streamSent v

def Hub.takeNotes (h : Hub) : Hub :=
  h.core.notes.foldl Hub.takeNote { h with core := { h.core with notes := [] } }

/-! ## Delivery (R135, R151, R152, R266) -/

/-- The length rule of Table 5-3 for the types a function other than management takes. -/
def Frm.payloadOk (f : Frm) : Bool :=
  let p := f.hdr.plen
  match f.hdr.type with
  | 1 => decide (14 ≤ p ∧ p ≤ 9216)
  | 3 => let b := f.at_ 0 1 / 16
         let n := wire 128 (f.at_ 0 16) 32 44
         decide (b ≤ 4 ∧ 1 ≤ n ∧ n ≤ 4096 ∧ (b = bopCPL → f.at_ 0 1 % 16 ≠ 0)) &&
         decide (p = 16 + if b = bopWR ∨ b = bopCPLD then n else 0)
  | 5 => decide (8 ≤ p) && (let n := f.at_ 2 2
                            decide (1 ≤ n ∧ n ≤ 1024 ∧ p = 8 + 8 * n))
  | _ => true

/-- The length rule for a management payload that goes to a ring (R266). -/
def mgmtLenOk (n : Nat) : Bool := decide (16 ≤ n) && (n - 16) % 4 == 0 && decide (n - 16 ≤ 4096)

/-- The bytes that a frame writes to its ring; none where it is discarded. -/
def Hub.ringBytes (h : Hub) (f : Frm) : Option Bytes :=
  let p := f.data.take f.hdr.plen
  if f.hdr.type ≠ 0 then (if f.payloadOk then some p else none)
  else if f.hdr.a then (if 8 ≤ f.hdr.plen ∧ mgmtLenOk (f.hdr.plen - 8) then h.untag f else none)
  else if mgmtLenOk f.hdr.plen then some p else none

/-- The length of a payload for a ring is right, as far as it is known before a tag is verified. -/
def Frm.ringOk (f : Frm) : Bool := if f.hdr.type ≠ 0 then f.payloadOk else !f.hdr.a && mgmtLenOk f.hdr.plen

/-- Bytes fill consecutive buffers in slot order; each buffer completes (Table 9-8). -/
def Hub.fillBuffers (h : Hub) (r : Nat) (f : Frm) (bad first : Bool) : Nat → Bytes → Hub
  | 0, _ => h
  | k + 1, b =>
    match (h.buffers r).head? with
    | none => h
    | some d =>
      let n := h.bufLen r d
      let c := b.take n
      let last := decide (b.length ≤ n)
      let dw1 := pack [(1, b2n f.hdr.r), (3, f.hdr.cls), (12, f.hdr.stun), (1, b2n first), (1, b2n last), (14, c.length)]
      let dw2 := pack [(16, f.hdr.shub), (4, f.hdr.type), (12, f.hdr.dtun)]
      let h := (h.ringWrite r d.addr c).finDesc r d.slot (if last && bad then cBADEND else cOK) dw1 dw2
      if last then h else h.fillBuffers r f bad false k (b.drop n)

/-- The ring whose buffers a frame fills: the entry's, or while that is being reset, its buffers that the frame has started
(Table 9-13). -/
def Hub.fillRing (h : Hub) (t : Nat) : Option Nat :=
  match h.ringFor t with
  | some r => some r
  | none =>
    let r := h.get F.TUN_W2_FIDX t
    if h.rState r = rRESETTING ∧ h.rKind r = kRX ∧ h.buffers r ≠ [] then some r else none

/-- Bytes that a frame read at E32 has so far written to its ring: none of a management payload whose tag is still to be verified. -/
def Hub.rxBytes (h : Hub) : Option (Frm × Nat) :=
  match h.tx 32 with
  | none => none
  | some x =>
    match h.frm x.id with
    | some f =>
      if ¬ x.fin ∧ f.hdr.dtun ≠ 0 ∧ h.get F.TUN_W2_FUNC f.hdr.dtun = 0 ∧ f.hdr.type ≠ 4 ∧ f.ringOk then
        some (f, min f.hdr.plen (x.read * 256 - 16))
      else none
    | none => none

/-- Buffers into which the first `n` bytes of a frame go have started (Table 9-4). -/
def Hub.startBufs (h : Hub) (r : Nat) : Nat → List Desc → Hub
  | _, [] => h
  | n, d :: l => if n = 0 then h else (h.startDesc r d.slot).startBufs r (n - h.bufLen r d) l

/-- The buffers of the frame that is leaving E32 start as its bytes are written. -/
def Hub.rxStart (h : Hub) : Hub :=
  match h.rxBytes with
  | none => h
  | some (f, n) =>
    match h.ringFor f.hdr.dtun with
    | some r => if f.hdr.plen ≤ h.room r then h.startBufs r n (h.buffers r) else h
    | none => h

/-- A frame for a receive ring (R266). -/
def Hub.toRing (h : Hub) (f : Frm) (good begun : Bool) : Hub :=
  let t := f.hdr.dtun
  match h.fillRing t with
  | none => (if good then h else h.bump F.FAB_TUNDISC1_BADEND).disc t
  | some r =>
    if good then
      match h.ringBytes f with
      | some b => h.fillBuffers r f false true (b.length / 64 + 1) b
      | none => h.disc t
    else
      let h := (h.bump F.FAB_TUNDISC1_BADEND).disc t
      if begun ∧ f.ringOk then h.fillBuffers r f true true (f.data.length / 64 + 1) (f.data.take f.hdr.plen) else h

/-- A link-local delivery (R170). -/
def Frm.linkLocal (f : Frm) : Bool := f.hdr.type == 0 && f.hdr.dtun == 0 && f.hdr.dhub == 0xFFFF && f.hdr.hops == 0 && decide (f.src < 32)

/-- The answer to a request of this hub's management controller (R138, R457): matched by its request identifier. -/
def Hub.ownAnswer (h : Hub) (f : Frm) : Hub :=
  { h with boot := { h.boot with mreqs := Tab.set (0, 0) h.boot.mreqs (f.at_ 2 2) (0, 0) } }

/-- The length rule of Table 5-3 for a READ or WRITE response: a READ that STATUS 0 answers carries data. -/
def Frm.respOk (f : Frm) : Bool :=
  f.hdr.plen == 16 + (if f.at_ 0 1 = 0x81 ∧ f.at_ 1 1 % 16 = 0 then 4 * f.at_ 10 2 else 0) + (if f.hdr.a then 8 else 0)

/-- A good management payload at an entry of the management controller, endpoint 0x000 or another with FUNC 5. Heartbeats and fabric
assembly are taken at endpoint 0x000 alone (R145, R153, R169). -/
def Hub.toMgmt (h : Hub) (f : Frm) : Hub :=
  let m := f.at_ 0 1
  let t := f.hdr.dtun
  let keep (h : Hub) : Hub := { h with core := { h.core with inbox := h.core.inbox ++ [f] } }
  if f.linkLocal ∧ ¬ (0x10 ≤ m ∧ m ≤ 0x13) ∧ ¬ (h.flag F.FAB_ID_VALID ∧ h.get F.FAB_ID_HUBID = 0xFFFF) then h.bump F.FAB_TUNDISC0_HOPS
  else if 0x10 ≤ m ∧ m ≤ 0x14 then
    if f.hdr.plen ≠ 32 ∨ (m ≠ 0x14 ∧ ¬ f.linkLocal) ∨ t ≠ 0 then h.disc t else keep h
  else if m = mopPhb ∨ m = mopPack then (if t = 0 then keep h else h.disc t)
  else if m < 0x80 then keep h
  else if (m = 0x81 ∨ m = 0x82) ∧ f.respOk then h.ownAnswer f
  else h.disc t

/-- A frame has left E32 or E33 (R152): `good` whether it ended well, `begun` whether bytes had left before the end was known. -/
def Hub.deliver (h : Hub) (f : Frm) (good begun : Bool) : Hub :=
  let t := f.hdr.dtun
  let func := if t = 0 then 5 else h.get F.TUN_W2_FUNC t
  if func = 0 ∧ f.hdr.type ≠ 4 then h.toRing f good begun
  else if ¬ good then (h.bump F.FAB_TUNDISC1_BADEND).disc t
  else if func = 5 then h.toMgmt f
  else if func = 0 ∧ (h.ringFor t).isNone then h.disc t
  else if ¬ f.payloadOk then h.disc t
  else if func = 0 ∨ func = 1 ∨ func = 2 ∨ func = 4 then { h with core := { h.core with inbox := h.core.inbox ++ [f] } }
  else h

def Hub.deliverDels (h : Hub) : Hub :=
  h.core.dels.foldl (fun g d => g.deliver d.1 d.2.1 d.2.2) { h with core := { h.core with dels := [] } }

/-! ## What can leave now -/

/-- Rings, windows and streams, which a fatal error stops (R459). -/
def Hub.pumpEngines (h : Hub) : Hub :=
  if h.fatal? then h
  else
    let h := h.each h.liveRings (fun r g => g.pumpRing r ((g.ring r).descs.length + 1))
    let h := if h.hif.wins = [] then h else (h.each windows (fun w g => g.pumpWin w)).showBlk
    h.each (h.evs.streams.map (·.1)) (fun v g => g.pumpStream v)

/-- Message sessions, segments, held packets. -/
def Hub.pumpRest (h : Hub) : Hub :=
  let h := h.each (h.peri.sess.map (·.1)) (fun t g =>
    (g.sessPump t ((g.sess t).queue.length + (g.sess t).again.length + 2)).resendRead t)
  h.each (h.ras.pipes.map (·.1)) (fun d g => g.pumpSegs d (g.pipe d).segs.length)

/-- SOF generation starts once TLOCK, or SUMMIT, has been reached (R342). -/
def Hub.sofStart (h : Hub) : Hub :=
  if h.time.everLocked ∧ ¬ h.flag F.PERI_STAT_SOFRUN then (h.set F.PERI_STAT_SOFRUN 1).powerPorts else h

/-- An access to the memories of SRAM in DOZE (R419): every command may make one. -/
def Hub.sramAccess (h : Hub) : Hub :=
  if h.level dSRAM = lvDOZE then { h with pwr := { h.pwr with sramAt := some h.now } } else h

/-- What REFOUT carries: the fabric frequency in SUMMIT, FLOCK, TLOCK and HOLD, the local one in BOOT and FACQ (R35). -/
def Hub.refoutMode (h : Hub) : Nat :=
  if ¬ h.flag F.TIME_CTL_REFOUT_EN then 0 else if h.get F.TIME_STAT_STATE ≤ 1 then 1 else 2

/-- REFOUT follows the time state. -/
def Hub.showRefout (h : Hub) : Hub :=
  if h.refoutMode = h.time.refout then h
  else { h with time := { h.time with refout := h.refoutMode } }.emit (.refout h.refoutMode)

/-- What closes every command. -/
def Hub.finish (h : Hub) : Hub :=
  (h.takeNotes.deliverDels.rxStart.pumpEngines.pumpRest.sofStart.unstall h.core.stall.length).irqWake.sramAccess.showRefout

/-! ## A tick passes -/

/-- One tick of the core clock: at its end entries open and resend sets are fixed, dropped flips leave their layers, permissions, votes and thresholds are judged, then the tick count and ridge time advance, and the
ports' lanes carry on; nothing counts while only AON is powered, or nothing is (R426, R431, log entry 1). -/
def Hub.passTick (h : Hub) : Hub := if h.pwr.asleep then h else h.postClaims.tunsTick.rasTick.powerTick.domsTick.thresholds.tick.vcoreTick.linkTick

/-! ## Running a meaning -/

/-- A meaning whose change of the hub is `f`; while only AON is powered, or nothing is, it has no effect (R431, R490). -/
def run (f : Hub → Hub) (s : State) : Host.Outcome State Fault Refusal :=
  act (fun h => if h.pwr.asleep then h else (f h).finish) s

/-- A meaning of an engine that a fatal error stops (R459). -/
def runLive (f : Hub → Hub) (s : State) : Host.Outcome State Fault Refusal :=
  act (fun h => if h.pwr.asleep || h.fatal? then h else (f h).finish) s

/-- A meaning that no access to a memory goes with. -/
def runQ (f : Hub → Hub) (s : State) : Host.Outcome State Fault Refusal :=
  act (fun h => if h.pwr.asleep then h else f h) s

/-- A meaning that needs the one-time programmable memory. -/
def runO (f : Tab Nat → Hub → Hub) (s : State) : Host.Outcome State Fault Refusal :=
  act (fun h => if h.pwr.asleep then h else (f s.otp.bits h).finish) s

/-- A meaning of a software write: one whose target a chip reset of the same tick has cleared is discarded (R55). -/
def runW (f : Tab Nat → Hub → Hub) (s : State) : Host.Outcome State Fault Refusal :=
  act (fun h => if h.pwr.asleep || h.led.wiped then h else (f s.otp.bits h).finish) s

/-- A meaning that reads registers: `f` is given the hub at the start of the tick, which is what reads return, and answers what is
left of it for later reads of the tick, and the hub (R11, R55). -/
def runS (f : Tab Nat → Hub → Hub → Hub × Hub) (s : State) : Host.Outcome State Fault Refusal :=
  if s.hub.pwr.asleep then .next s
  else
    let r := f s.otp.bits s.start s.hub
    .next { s with start := r.1, hub := r.2.finish }

/-- A meaning that acts whatever is powered: resets, wakes and the loss of VAON. -/
def runAny (f : Tab Nat → Hub → Hub) (s : State) : Host.Outcome State Fault Refusal :=
  act (fun h => f s.otp.bits h) s

end Sys2Proof.Machine
end

