-- ==== Sys2Proof/Machine/Block.lean ====
section
/-! DEFINITION. The meanings of the block-window commands: windows, BAR4 accesses, answers, the completer, backoff and
timeouts (spec/11_block_windows.md). -/

namespace Sys2Proof.Machine

/-! ## Windows (R296, R297, R309) -/

/-- A RUN ring with REMOTE = 1 names the window. -/
def Hub.remoteOn (h : Hub) (w : Nat) : Bool :=
  h.liveRings.any (fun r => h.rState r == rRUN && h.rRemote r && h.get F.RCTX0_WIN r == w)

/-- First byte of a window in BAR4. -/
def Hub.wOff (h : Hub) (w : Nat) : Nat := 4096 * h.get F.BLK_WOFF_OFF w

/-- Bytes of BAR4 (R248). -/
def Hub.bar4Size (h : Hub) : Nat :=
  let n := if h.flag F.HIF_PCTL_CFGRDY then h.hif.bar4sz else h.get F.HIF_BAR4SZ_SIZE
  if n = 0 then 0 else 2 ^ n

/-- The first condition of R297 that a window breaks, as its code; 0 for none. -/
def Hub.winCheck (h : Hub) (w : Nat) : Nat :=
  let o := h.wOff w
  let n := h.wSize w
  let t := h.wTun w
  if o % n ≠ 0 ∨ h.bar4Size < o + n then 1
  else if windows.any (fun v => v != w && h.flag F.BLK_WCTL_EN v && decide (o < h.wOff v + h.wSize v) && decide (h.wOff v < o + n)) then 2
  else if h.get F.TUN_W0_TYPE t ≠ 3 ∨ h.get F.TUN_W2_FUNC t ≠ 4 ∨ h.get F.TUN_W2_FIDX t ≠ w ∨ ¬ h.flag F.TUN_W0_PROT t then 3
  else if h.get F.TUN_W0_SLICE t ≠ h.winOwner w then 4
  else if h.get F.BLK_RBASE_LO_BASE w % 4096 ≠ 0 ∨ h.get F.BLK_IBASE_LO_BASE w % 4096 ≠ 0 then 5
  else 0

/-- A write of BLK_WCTL (R297, R309); size and tunnel change only in IDLE and for S0. -/
def Hub.wctl (h : Hub) (w : Nat) (v : Word) (s0 : Bool) : Hub :=
  let st := h.wState w
  let lg := v.bits 16 6
  let lgOk := decide (12 ≤ lg) && decide (lg ≤ 36)
  let h := h.set F.BLK_WCTL_INEN (v.bits 15 1) w
  let h := if st = wIDLE ∧ s0 then
      (if lgOk then h.set F.BLK_WCTL_LOG2SZ lg w else h).set F.BLK_WCTL_TUN (v.bits 0 12) w
    else h
  if v.bits 31 1 = 1 then
    if st ≠ wIDLE then h
    else
      let c := if s0 && !lgOk then 5 else h.winCheck w
      if c ≠ 0 then h.set F.BLK_WCTL_ERRCODE c w
      else ((h.set F.BLK_WCTL_EN 1 w).set F.BLK_WCTL_STATE wRUN w).setWin w { h.win w with pollAt := h.now }
  else if st = wRUN ∨ st = wBACKOFF ∨ st = wERROR then
    if h.remoteOn w then h.set F.BLK_WCTL_ERRCODE 8 w
    else (h.set F.BLK_WCTL_EN 0 w).set F.BLK_WCTL_STATE wCLOSING w
  else h

/-- A path may write a window's registers: S0, or the slice that owns it (Table 10-2). -/
def Hub.winRight (h : Hub) (p : Path) (w : Nat) : Bool := h.pathSlice p == 0 || h.pathSlice p == h.winOwner w

/-- WINDOW_ENABLE (R297): a write of BLK_WCTL with EN = 1. -/
def Hub.windowEnable (h : Hub) (p : Path) (w : Nat) (v : Word) : Hub :=
  h.when (v.bits 31 1 = 1 ∧ h.winRight p w) (fun h => h.wctl w v (h.pathSlice p == 0))

def execWindowEnable (p : Path) (w : WindowId) (v : Word) (s : State) : Host.Outcome State Fault Refusal :=
  runW (fun _ h => h.windowEnable p w v) s

/-- WINDOW_CLOSE (R309): a write of BLK_WCTL with EN = 0. -/
def Hub.windowClose (h : Hub) (p : Path) (w : Nat) (v : Word) : Hub :=
  h.when (v.bits 31 1 = 0 ∧ h.winRight p w) (fun h => h.wctl w v (h.pathSlice p == 0))

def execWindowClose (p : Path) (w : WindowId) (v : Word) (s : State) : Host.Outcome State Fault Refusal :=
  runW (fun _ h => h.windowClose p w v) s

/-- WINDOW_CLOSE_END (R309): nothing is held and no read is outstanding. -/
def Hub.windowCloseEnd (h : Hub) (w : Nat) : Hub :=
  let x := h.win w
  h.when (h.wState w = wCLOSING ∧ x.wait = [] ∧ x.sent = []) (fun h =>
    (h.set F.BLK_WCTL_STATE wIDLE w).setWin w { next := x.next, inq := x.inq, ans := x.ans, goback := x.goback, polled := x.polled })

def execWindowCloseEnd (w : WindowId) (s : State) : Host.Outcome State Fault Refusal := runLive (fun h => h.windowCloseEnd w) s

/-! ## BAR4 (R298 to R302) -/

/-- The enabled window whose range holds a BAR4 offset (R298). -/
def Hub.winAt (h : Hub) (a : Nat) : Option Nat :=
  windows.find? (fun w => h.flag F.BLK_WCTL_EN w && decide (h.wOff w ≤ a) && decide (a < h.wOff w + h.wSize w))

/-- A BAR4 access that ends at the hub: its slice is RESETTING, or its window is in ERROR (Table 10-3, R308). -/
def Hub.bar4Dead (h : Hub) (w : Nat) : Option Hub :=
  let s := h.winOwner w
  if h.resetting s then some (h.bump F.SLC_RSTINFO_BAR4DISC s)
  else if h.wState w = wERROR then some (h.bump F.BLK_WCNT1_HOLDDISC w)
  else none

/-- BAR4_WRITE (R299, R300): where the write hold has no room the hub withholds posted credit, and the write has not come. -/
def Hub.bar4Write (h : Hub) (a : Nat) (bytes : Bytes) : Hub :=
  match h.winAt a with
  | none => h.bump F.BLK_CNT_B4UNMAP
  | some w =>
    match h.bar4Dead w with
    | some h => h
    | none =>
      let need := (pagesOf (h.wBase w + (a - h.wOff w)) bytes.length).foldl (fun n p => n + ceilDiv p.2 256) 0
      h.when (h.holdUse + need ≤ 4096) (fun h => h.winWrite w (a - h.wOff w) bytes .bar4Write)

def execBar4Write (a : Nat) (bytes : List (BitVec 8)) (s : State) : Host.Outcome State Fault Refusal :=
  runLive (fun h => h.bar4Write a bytes) s

/-- `n` bytes of ones. -/
def ones (n : Nat) : Bytes := List.replicate n 0xFF#8

/-- BAR4_READ (R299, R300), under a number by which its completion is told. -/
def Hub.bar4Read (h : Hub) (id a len : Nat) : Hub :=
  match h.winAt a with
  | none => (h.bump F.BLK_CNT_B4UNMAP).emit (.bar4Ur id)
  | some w =>
    match h.bar4Dead w with
    | some h => h.bar4Done id a (ones len)
    | none =>
      let b := h.wBase w + (a - h.wOff w)
      let h := { h with hif := { h.hif with bar4 := h.hif.bar4 ++ [{ id := id, addr := a, len := len }] } }
      (pagesOf b len).foldl (fun g p =>
        g.enq w { num := 0, wr := false, addr := p.1, len := p.2, use := .bar4 id (p.1 - b) }) h

def execBar4Read (id a : Nat) (len : Fin 4097) (s : State) : Host.Outcome State Fault Refusal :=
  runLive (fun h => h.bar4Read id a len) s

/-- RD_SEND (R301): a tag is free again for the reads of a window that waited for one. -/
def Hub.rdSend (h : Hub) (w : Nat) : Hub :=
  let x := h.win w
  h.when (h.freeTag.isSome) (fun h => h.setWin w { x with wait := x.wait.map (fun r => { r with noTag := false }) })

def execRdSend (w : WindowId) (s : State) : Host.Outcome State Fault Refusal := runLive (fun h => h.rdSend w) s

/-- A read of a window after its newest held WR is outstanding. -/
def syncCovered : List BlkReq → Bool
  | [] => true
  | r :: l => if l.any (·.wr) then syncCovered l else if r.wr then l.any (fun q => !q.wr) else true

/-- SYNC_READ (R303, R309): a 1-byte read of the last byte of the newest held WR. -/
def Hub.syncRead (h : Hub) (w : Nat) : Hub :=
  let x := h.win w
  -- requests that wait to be sent again have been sent
  let out := (x.sent ++ x.wait).filter (fun r => r.sentAt.isSome)
  let held := out.filter (·.wr)
  let kib := held.foldl (fun n r => n + r.len) 0
  let old := match held.head? with
    | some r => h.due (r.sentAt.map (· + h.get F.BLK_CFG1_SYNCTMO * 100))
    | none => false
  match held.getLast? with
  | none => h
  | some r =>
    h.when (¬ syncCovered out ∧ ¬ x.wait.any (fun q => !q.wr && q.sentAt.isNone) ∧
        (1024 * h.get F.BLK_CFG1_SYNCTH ≤ kib ∨ old = true ∨ h.wState w = wCLOSING)) (fun h =>
      h.enq w { num := 0, wr := false, addr := r.addr + r.len - 1, len := 1, use := .sync })

def execSyncRead (w : WindowId) (s : State) : Host.Outcome State Fault Refusal := runLive (fun h => h.syncRead w) s

/-! ## Answers (R302, R306, R307, R310) -/

/-- How a read ended. -/
inductive RdEnd where
  | data (bytes : Bytes)
  | error (status : Nat)
  | timeout
deriving DecidableEq, Repr

/-- A piece of a BAR4 read has come; the last one completes it to the host. -/
def Hub.bar4Piece (h : Hub) (id off : Nat) (b : Bytes) : Hub :=
  match h.hif.bar4.find? (fun r => r.id = id) with
  | none => h
  | some r =>
    let got := r.got ++ [(off, b)]
    let rest := h.hif.bar4.erase r
    if got.foldl (fun n p => n + p.2.length) 0 < r.len then
      { h with hif := { h.hif with bar4 := rest ++ [{ r with got := got }] } }
    else
      let all := got.foldl (fun acc p => acc.take p.1 ++ p.2 ++ acc.drop (p.1 + p.2.length)) (ones r.len)
      { h with hif := { h.hif with bar4 := rest } }.bar4Done id r.addr all

/-- A polled word (R310): a value that differs is stored and sends the vector, but for the first after PEN was set. -/
def Hub.pollAnswer (h : Hub) (w : Nat) (e : RdEnd) : Hub :=
  let x := h.win w
  let h := h.setWin w { x with polling := false, pollAt := h.now }
  match e with
  | .data b =>
    let v := leNat (b.take 4)
    if ¬ x.polled then (h.setWin w { h.win w with polled := true }).set F.BLK_POLLVAL_POLLVAL v w
    else if v = h.get F.BLK_POLLVAL_POLLVAL w then h
    else (h.set F.BLK_POLLVAL_POLLVAL v w).vector (h.get F.BLK_POLLCFG_VEC w)
  | _ => h

/-- What a finished read does for whoever made it (R269, R277, R307). -/
def Hub.rdDone (h : Hub) (w : Nat) (r : BlkReq) (e : RdEnd) : Hub :=
  let h := match e with
    | .error _ => h.bump F.BLK_WCNT1_ERRCPL w
    | _ => h
  if r.abandoned then h
  else
    match r.use with
    | .bar4 id off => h.bar4Piece id off (match e with
      | .data b => b ++ ones (r.len - b.length)
      | _ => ones r.len)
    | .poll => h.pollAnswer w e
    | .blk ring slot off =>
      match h.descOf ring slot with
      | none => h
      | some d =>
        match e with
        | .data b =>
          (h.ringWrite ring (d.addr + off) b).modDesc ring slot (fun d => { d with moved := if d.moved = off then off + b.length else d.moved })
        | .error s => (h.abandon ring slot).finDesc ring slot cREMOTE d.moved s
        | .timeout => (h.abandon ring slot).finDesc ring slot cTIMEOUT d.moved 0
    | .flush ring slot =>
      match h.descOf ring slot with
      | none => h
      | some d =>
        match e with
        | .data _ => h.modDesc ring slot (fun d => { d with flushed := true })
        | .error s => h.finDesc ring slot cREMOTE d.moved s
        | .timeout => h.finDesc ring slot cTIMEOUT d.moved 0
    | .rdesc ring slot => match e with
      | .data b => h.descArrive ring slot ((List.range (b.length / 4)).map (fun i => leNat (sub b (4 * i) 4)))
      | _ => h.descReadFailed ring slot
    | .rdata ring slot off => match e with
      | .data b => (match h.descOf ring slot with
        | some d => if off = d.asked + d.data.length then h.dataArrive ring slot b else h
        | none => h)
      | _ => h.dataReadFailed ring slot
    | .rsend t k off => match e with
      | .data b => if ((h.sess t).fetch.map (·.got.length)) = some off then h.resendArrive t k b else h
      | _ => h.resendFailed t k
    | .rpidx ring =>
      let h := h.setRing ring { h.ring ring with polling := false }
      match e with
      | .data b => if h.rState ring = rRUN then h.takePidx ring (leNat (b.take 2)) else h
      | _ => h
    | _ => h

/-- A window enters ERROR (R308): held WRs are discarded, its reads end as timed out, its block descriptors end REMOTE. -/
def Hub.winError (h : Hub) (w code : Nat) : Hub :=
  let x := h.win w
  let all := x.sent ++ x.wait
  let reads := all.filter (fun r => !r.wr)
  let late := reads.filterMap (fun r => r.tag.map (fun t => (t, h.now + 1000 * h.get F.BLK_CFG_RDTMO)))
  let h := (h.set F.BLK_WCTL_STATE wERROR w).set F.BLK_WCTL_ERRCODE code w
  let h := h.rec1 (prodSlice (h.winOwner w)) 3 0x0A srcHost (code * 16 + w)
  let h := h.bump F.BLK_WCNT1_HOLDDISC w (all.filter (·.wr)).length
  let h := h.setWin w { x with wait := [], sent := [], epi := none, busy := 0, backAt := none, quietAt := none, timeouts := 0 }
  let h := { h with hif := { h.hif with late := h.hif.late ++ late } }
  let blk := all.filterMap (fun r => match r.use with
    | .blk a b _ => some (a, b)
    | .flush a b => some (a, b)
    | _ => none)
  let h := blk.eraseDups.foldl (fun g p => match g.descOf p.1 p.2 with
    | some d => g.finDesc p.1 p.2 cREMOTE d.moved 0
    | none => g) h
  reads.foldl (fun g r => g.rdDone w r .timeout) h

/-- The window of the entry a block message came to (R304). -/
def Hub.blkWin (h : Hub) (f : Frm) : Nat := h.get F.TUN_W2_FIDX f.hdr.dtun % 16

/-- A block message with this BOP. -/
def Frm.isBop (f : Frm) (b : Nat) : Bool := f.hdr.type == 3 && f.at_ 0 1 / 16 == b

/-- A backoff episode ends (R306). -/
def Hub.epiEnd (h : Hub) (w : Nat) : Hub :=
  h.setWin w { h.win w with epi := none, busy := 0, backAt := none, quietAt := none }

/-- BLOCK_COMPLETION_RECEIVE (R302, R307): the oldest CPLD or CPL. -/
def Hub.blkCompletion (h : Hub) : Hub :=
  match h.takeMsg (fun f => f.isBop bopCPLD || f.isBop bopCPL) with
  | none => h
  | some (f, h) =>
    let w := h.blkWin f
    let tag := f.at_ 1 1
    let x := h.win w
    match x.sent.findIdx? (fun r => !r.wr && r.tag == some tag) with
    | none => { h with hif := { h.hif with late := h.hif.late.filter (fun p => p.1 ≠ tag) } }
    | some i =>
      match x.sent[i]? with
      | none => h
      | some r =>
        let sent := (x.sent.take i).filter (fun q => !q.wr) ++ x.sent.drop (i + 1)
        let h := h.setWin w { x with sent := sent, timeouts := 0 }
        let h := if x.epi.isSome ∧ x.backAt.isNone ∧ x.mark ≤ r.sendNo then h.epiEnd w else h
        h.rdDone w r (if f.isBop bopCPLD then .data (sub f.data 16 (f.hdr.plen - 16)) else .error (f.at_ 0 1 % 16))

def execBlockCompletionReceive (s : State) : Host.Outcome State Fault Refusal := runLive Hub.blkCompletion s

/-- READ_TIMEOUT (R307): the oldest read of a window whose time is up; the third in a row is a lasting fault (R308). -/
def Hub.readTimeout (h : Hub) (w : Nat) : Hub :=
  let x := h.win w
  let tmo := 1000 * h.get F.BLK_CFG_RDTMO
  match (x.sent ++ x.wait).find? (fun r => !r.wr && h.due (r.sentAt.map (· + tmo))) with
  | none => h
  | some r =>
    let h := h.setWin w { x with sent := x.sent.erase r, wait := x.wait.erase r, timeouts := x.timeouts + 1 }
    let h := { h with hif := { h.hif with late := h.hif.late ++ (r.tag.toList.map (fun t => (t, h.now + tmo))) } }
    let h := (h.bump F.BLK_WCNT1_TIMEOUT w).rdDone w r .timeout
    if 3 ≤ x.timeouts + 1 then h.winError w 6 else h

def execReadTimeout (w : WindowId) (s : State) : Host.Outcome State Fault Refusal := runLive (fun h => h.readTimeout w) s

/-- LATE_TAG_FREE (R307). -/
def Hub.lateFree (h : Hub) : Hub :=
  { h with hif := { h.hif with late := h.hif.late.filter (fun p => decide (h.now < p.2)) } }

def execLateTagFree (s : State) : Host.Outcome State Fault Refusal := runLive Hub.lateFree s

/-! ## BUSY and backoff (R306) -/

/-- The request a BUSY names. -/
def BlkReq.named (r : BlkReq) (tag addr : Nat) : Bool :=
  r.addr == addr && (if r.wr then r.num % 256 == tag else r.tag == some tag)

/-- BUSY_RECEIVE (R306): the oldest BUSY. Before the resend of an open episode, one that names a request sent after its first is ignored;
after it, the request named is the refused one (DEDUCED, log entry 69). -/
def Hub.busyReceive (h : Hub) : Hub :=
  match h.takeMsg (fun f => f.isBop bopBUSY) with
  | none => h
  | some (f, h) =>
    let w := h.blkWin f
    let x := h.win w
    match x.sent.find? (fun r => r.named (f.at_ 1 1) (f.at_ 8 8)) with
    | none => h
    | some r =>
      if x.epi.any (fun e => decide (e < r.num)) ∧ ¬ (x.backAt.isNone ∧ x.mark ≤ r.sendNo) then h
      else
        let n := if x.epi = some r.num then x.busy + 1 else 1
        let back := h.now + h.get F.BLK_CFG_BOFF * 100 * 2 ^ min (n - 1) 6
        let h := h.setWin w { x with epi := some r.num, busy := n, backAt := some back, quietAt := none }
        let h := if h.wState w = wRUN then h.set F.BLK_WCTL_STATE wBACKOFF w else h
        if h.get F.BLK_CFG_BUSYMAX ≤ n then h.winError w 7 else h

def execBusyReceive (s : State) : Host.Outcome State Fault Refusal := runLive Hub.busyReceive s

/-- BACKOFF_EXPIRY (R306): the refused request and every later one are to be sent again, in order. -/
def Hub.backoffExpiry (h : Hub) (w : Nat) : Hub :=
  let x := h.win w
  h.when (h.due x.backAt) (fun h =>
    let e := x.epi.getD 0
    let re := (x.sent.filter (fun r => decide (e ≤ r.num))).map (fun r => { r with again := true })
    let h := h.setWin w { x with sent := x.sent.filter (fun r => decide (r.num < e)), wait := re ++ x.wait, backAt := none,
                                 quietAt := some (h.now + 10 * h.get F.BLK_CFG_BOFF * 100 + 2000), mark := x.sendNo }
    if h.wState w = wBACKOFF then h.set F.BLK_WCTL_STATE wRUN w else h)

def execBackoffExpiry (w : WindowId) (s : State) : Host.Outcome State Fault Refusal := runLive (fun h => h.backoffExpiry w) s

/-- EPISODE_QUIET_END (R306). -/
def Hub.quietEnd (h : Hub) (w : Nat) : Hub := h.when (h.due (h.win w).quietAt ∧ (h.win w).backAt = none) (fun h => h.epiEnd w)

def execEpisodeQuietEnd (w : WindowId) (s : State) : Host.Outcome State Fault Refusal := runLive (fun h => h.quietEnd w) s

/-- POLL_SEND (R310): PINT ticks after the previous answer. -/
def Hub.pollSend (h : Hub) (w : Nat) : Hub :=
  let x := h.win w
  let st := h.wState w
  h.when (h.flag F.BLK_POLLCFG_PEN w ∧ (st = wRUN ∨ st = wBACKOFF) ∧ x.polling = false ∧
      x.pollAt + h.get F.BLK_POLLCFG_PINT w ≤ h.now) (fun h =>
    let a := h.wBase w + h.get64 F.BLK_POLLOFF_LO_POLLOFF_LO F.BLK_POLLOFF_HI_POLLOFF_HI w
    (h.setWin w { x with polling := true }).enq w { num := 0, wr := false, addr := a, len := 4, use := .poll })

def execPollSend (w : WindowId) (s : State) : Host.Outcome State Fault Refusal := runLive (fun h => h.pollSend w) s

/-! ## The completer (R304, R305) -/

/-- An answer joins those of its window. -/
def Hub.answer (h : Hub) (w : Nat) (q : InReq) (bop status : Nat) (data : Bytes) : Hub :=
  let x := h.win w
  h.setWin w { x with ans := x.ans ++ [{ tun := q.tun, cls := q.cls, payload := blkPayload bop status q.tag q.win q.len q.addr data }] }

/-- A request is refused with BUSY and go-back entered, if it was not (R305). -/
def Hub.refuseReq (h : Hub) (w : Nat) (q : InReq) : Hub :=
  let x := h.win w
  let h := h.setWin w { x with goback := some (x.goback.getD (q.wr, q.addr, q.tag)) }
  (h.bump F.BLK_WCNT0_INBUSY w).answer w q bopBUSY 0 []

/-- The inbound queue takes a request (R305). -/
def inRoom (l : List InReq) (q : InReq) : Bool :=
  if q.wr then decide (l.foldl (fun n r => if r.wr then n + r.len else n) 0 + q.len ≤ 32768)
  else decide ((l.filter (fun r => !r.wr && !r.issued)).length < 64)

/-- The checks of R304 on a request. -/
def Hub.inCheck (h : Hub) (w : Nat) (q : InReq) : Hub :=
  let x := h.win w
  let b := h.get64 F.BLK_IBASE_LO_BASE F.BLK_IBASE_HI_BASE w
  let n := 2 ^ h.get F.BLK_ISZ_ILOG2 w
  if ¬ h.flag F.BLK_WCTL_INEN w ∨ q.addr < b ∨ b + n < q.addr + q.len then
    if q.wr then h.bump F.BLK_CNT_INUNMAP else h.answer w q bopCPL 1 []
  else if h.resetting (h.winOwner w) then h.refuseReq w q
  else if x.goback.isSome ∧ x.goback ≠ some (q.wr, q.addr, q.tag) then h.refuseReq w q
  else if inRoom x.inq q then h.setWin w { x with goback := none, inq := x.inq ++ [q] }
  else (h.setWin w { x with goback := none }).refuseReq w q

/-- INBOUND_REQUEST (R304): the oldest WR or RD. -/
def Hub.inbound (h : Hub) : Hub :=
  match h.takeMsg (fun f => f.isBop bopWR || f.isBop bopRD) with
  | none => h
  | some (f, h) =>
    let wr := f.isBop bopWR
    h.inCheck (h.blkWin f)
      { wr := wr, addr := f.at_ 8 8, len := f.at_ 4 2 / 8, data := if wr then sub f.data 16 (f.hdr.plen - 16) else [],
        tag := f.at_ 1 1, win := f.at_ 2 1 / 16, cls := f.hdr.cls, tun := f.hdr.dtun }

def execInboundRequest (s : State) : Host.Outcome State Fault Refusal := runLive Hub.inbound s

/-- INBOUND_PCIE_ISSUE (R304): the oldest request not yet issued, under the PASID of the window's slice; nothing is issued for
an unbound slice (R284). -/
def Hub.inIssue (h : Hub) (w : Nat) : Hub :=
  let x := h.win w
  let s := h.winOwner w
  match x.inq.find? (fun q => !q.issued) with
  | none => h
  | some q =>
    h.when (h.bound s) (fun h =>
      if q.wr then (h.setWin w { x with inq := x.inq.erase q }).hostWrite (h.pasid s) q.addr q.data
      else
        let l := (x.inq.takeWhile (fun r => r.issued)) ++ { q with issued := true } :: x.inq.drop ((x.inq.takeWhile (fun r => r.issued)).length + 1)
        (h.setWin w { x with inq := l }).hostRead (.inb w) (h.pasid s) q.addr q.len)

def execInboundPcieIssue (w : WindowId) (s : State) : Host.Outcome State Fault Refusal := runLive (fun h => h.inIssue w) s

/-- INBOUND_PCIE_COMPLETION (R304): the oldest read issued ends, with its data (0), Unsupported Request or Completer Abort (1),
or poisoned (2). -/
def Hub.inCompletion (h : Hub) (w st : Nat) (bytes : Bytes) : Hub :=
  let x := h.win w
  match h.oldestRead (· = .inb w), x.inq.find? (fun q => q.issued) with
  | some k, some q =>
    h.when (st ≠ 0 ∨ bytes.length = q.len) (fun h =>
      let h := (h.fetchEnd k.fetch).setWin w { x with inq := x.inq.erase q }
      let h := if st = 0 then h else h.emit .aer
      if st = 0 then h.answer w q bopCPLD 0 bytes else h.answer w q bopCPL (st + 1) [])
  | _, _ => h

def execInboundPcieCompletion (w : WindowId) (st : Fin 3) (bytes : List (BitVec 8)) (s : State) :
    Host.Outcome State Fault Refusal := runLive (fun h => h.inCompletion w st bytes) s

end Sys2Proof.Machine
end

