-- ==== Sys2Proof/Machine/LaneOps.lean ====
section
/-! DEFINITION. Shared operations of the lanes: lane sets, retirement (R81, R82), single-lane recovery (R80), a failed
attempt (R76), the start of a lane turn (R85), settings of a lane that turns (R74). -/

namespace Sys2Proof.Machine

/-- An invalid sync header, or a lane-layer CRC failure, counted on a lane (R65, R67). -/
def Hub.shErr (h : Hub) (n m k : Nat) : Hub :=
  (h.set F.PORT_LERR_SHERR (min (h.get F.PORT_LERR_SHERR n m + k) (2 ^ 24 - 1)) n m).tally F.PORT_LERR_SHERR n m k

/-- The STRIPE row that announces a transmit lane set, on every lane of the row; the set applies from the next row, which starts at
its lowest lane (R68). -/
def Hub.stripe (h : Hub) (n row set : Nat) : Hub :=
  (((h.send n (.lane row 1 (stripeBlk set))).set F.PORT_LSTAT_TXMASK set n).firstSlot n).flushWait n

/-- A row of EI on lanes, whose drivers then go to the idle level (R77). -/
def Hub.eiRow (h : Hub) (n lanes : Nat) : Hub := (h.send n (.lane lanes 1 eiBlk)).emit (.idle n lanes)

/-! ## Settings of a turning lane (R74, Table 3-19) -/

/-- The setting a lane's registers show. -/
def Hub.eqNow (h : Hub) (n m : Nat) : EqSet :=
  { pre := h.get F.PORT_EQTX_PRE n m, main := h.get F.PORT_EQTX_MAIN n m, post := h.get F.PORT_EQTX_POST n m,
    eye := h.get F.PORT_EQRX_EYE n m, dfe1 := h.get F.PORT_EQRX_DFE1 n m, ctle := h.get F.PORT_EQRX_CTLE n m }

/-- A setting put into a lane's registers. -/
def Hub.eqLoad (h : Hub) (n m : Nat) (e : EqSet) : Hub :=
  let h := ((h.set F.PORT_EQTX_PRE e.pre n m).set F.PORT_EQTX_MAIN e.main n m).set F.PORT_EQTX_POST e.post n m
  ((h.set F.PORT_EQRX_EYE e.eye n m).set F.PORT_EQRX_DFE1 e.dfe1 n m).set F.PORT_EQRX_CTLE e.ctle n m

/-- The present settings of lanes are saved for the direction each has: to transmit for those of `tx` (R74). -/
def Hub.saveSettings (h : Hub) (n lanes tx : Nat) : Hub :=
  h.each (bitList 4 0 lanes) (fun m g =>
    let l := g.lane n
    g.setLane n { l with saved := Tab.set {} l.saved (m * 2 + b2n (bitOf tx m)) (g.eqNow n m) })

/-- Lanes change direction, to transmit for those of `tx`: the setting of the direction that each had is saved, that of the new one
loaded (R74). -/
def Hub.turnSettings (h : Hub) (n lanes tx : Nat) : Hub :=
  (h.saveSettings n lanes (without 15 tx)).each (bitList 4 0 lanes) (fun m g =>
    g.eqLoad n m (Tab.get {} (g.lane n).saved (m * 2 + b2n (bitOf tx m))))

/-! ## Lane sets -/

/-- The masks and mode of a port in ACTIVE, over the pairs of its lane set. -/
def Hub.setMode (h : Hub) (n mode : Nat) : Hub :=
  let r := h.outPairs n
  ((h.set F.PORT_LMODE_CUR mode n).set F.PORT_LSTAT_TXMASK (modeTx mode r) n).set F.PORT_LSTAT_RXMASK (modeRx mode r) n

/-- The retirement mask cleared (R81). -/
def Hub.clearRetire (h : Hub) (n : Nat) : Hub := (h.set F.PORT_LRETIRE_MASK 0 n).set F.PORT_LSTAT_RETIRED 0 n

/-- No recovery of a lane is in progress any more. -/
def Hub.recoveryOff (h : Hub) (n m : Nat) : Hub :=
  let l := h.lane n
  (h.setLane n { l with rec_ := Tab.set none l.rec_ m none }).set F.PORT_LSTAT_RECOV (without (h.get F.PORT_LSTAT_RECOV n) (2 ^ m)) n

/-- A pair leaves the lane set in ACTIVE: announced with LRET unless the partner announced it, and left out at the next STRIPE row
(R81). A turn whose target mode is gone ends INVALID (R88); with fewer than three pairs the port goes down (Table 3-4). The lane that
is left to turn takes its new direction with the masks, with no idle, burst or saved setting of its own (log entry 63). -/
def Hub.leavePair (h : Hub) (n m : Nat) (announce : Bool) : Hub :=
  let out := h.outPairs n
  if bitOf out m then h
  else
    let h := (h.setLane n { h.lane n with set := 15 - (out + 2 ^ m) }).recoveryOff n m
    let tx := h.get F.PORT_LSTAT_TXMASK n
    let h := if announce then h.send n (.lane tx 3 (lmgtBlk lmLRET 0 0 (2 ^ m) (h.lmDly n) 0)) else h
    let gone := (h.lane n).turn.any (fun t => !modeExists t.target (out + 2 ^ m))
    if 2 ≤ popCount 4 (out + 2 ^ m) then (if gone then h.turnEnd n 5 else h).dropLanes n causeLanes
    else
      let h := h.setMode n (h.defaultMode n (out + 2 ^ m))
      let h := h.stripe n tx (h.get F.PORT_LSTAT_TXMASK n)
      if gone then h.turnOver n 5 else h

/-- The pair of a lane is retired (R81): reported, and in ACTIVE out of the lane set. -/
def Hub.retire (h : Hub) (n m cause : Nat) : Hub :=
  let old := h.get F.PORT_LRETIRE_MASK n
  if bitOf old m then h
  else
    let mask := old + 2 ^ m
    let h := ((h.set F.PORT_LRETIRE_MASK mask n).set F.PORT_LRETIRE_CAUSE cause n).set F.PORT_LSTAT_RETIRED mask n
    let h := h.rec1 n 4 0x04 n (2 ^ 16 * mask + cause)
    if h.active n then h.leavePair n m (cause ≠ 5) else h

/-! ## Recovery (R80) -/

/-- A recovery of a receive lane begins: its saved setting is restored, and LREC names it on every active transmit lane (R80). -/
def Hub.beginRecovery (h : Hub) (n m : Nat) (past : List Nat) : Hub :=
  let l := h.lane n
  let h := h.setLane n { l with rec_ := Tab.set none l.rec_ m (some { start := h.now, receiver := true }),
                                recStarts := Tab.set [] l.recStarts m ((h.now :: past).take 3) }
  let h := (h.set F.PORT_LSTAT_RECOV (union (h.get F.PORT_LSTAT_RECOV n) (2 ^ m)) n).eqLoad n m (Tab.get {} l.saved (m * 2))
  h.send n (.lane (h.get F.PORT_LSTAT_TXMASK n) 1 (lmgtBlk lmLREC 0 0 (2 ^ m) (h.lmDly n) 0))

/-- A receive lane is to be recovered: LREC names it on every active transmit lane; a fourth start within a second of the
first of the three before it retires the pair instead (R80, R81). -/
def Hub.startRecovery (h : Hub) (n m : Nat) : Hub :=
  let l := h.lane n
  if (Tab.get none l.rec_ m).isSome ∨ bitOf (h.outPairs n) m then h
  else
    let past := Tab.get [] l.recStarts m
    match past[2]? with
    | some t => if h.now < t + 200000000 then h.retire n m 3 else h.beginRecovery n m past
    | none => h.beginRecovery n m past

/-- This end sends on a lane that the partner wants recovered: left out at the next STRIPE row, training groups sent on it
at the port's rate (R80). -/
def Hub.recoverSend (h : Hub) (n m : Nat) : Hub :=
  let l := h.lane n
  let tx := h.get F.PORT_LSTAT_TXMASK n
  let h := h.setLane n { l with rec_ := Tab.set none l.rec_ m (some { start := h.now, receiver := false, good := some h.now }) }
  let h := h.set F.PORT_LSTAT_RECOV (union (h.get F.PORT_LSTAT_RECOV n) (2 ^ m)) n
  let h := h.stripe n tx (without tx (2 ^ m))
  h.groups n (2 ^ m) (h.get F.PORT_LSTAT_RATE n) btTS1 (h.ownTs n)

/-! ## A failed attempt (R76) -/

/-- A training attempt has failed with the pairs of `bad` failing: counted and judged, then DETECT, or FAULT after the
third at NRZ; a third at NRZ that also retires a pair or lowers the ceiling does both (log entry 63). -/
def Hub.attemptFailed (h : Hub) (n bad : Nat) : Hub :=
  let l := h.lane n
  let rate := h.get F.PORT_LSTAT_RATE n
  let h := h.bump F.PORT_TRCNT_FAILED n
  let k := popCount 4 bad
  let pair := (bitList 4 0 bad).headD 0
  let sc := if k = 1 then (match l.single with
      | some (p, r, c) => if p = pair ∧ r = rate then c + 1 else 1
      | none => 1) else 0
  let mc := if 2 ≤ k then (match l.multi with | some (r, c) => if r = rate then c + 1 else 1 | none => 1) else 0
  let nz := if rate = 0 then l.nrz + 1 else 0
  let h := h.setLane n { l with failed := true, single := if sc = 0 ∨ sc = 3 then none else some (pair, rate, sc),
                                multi := if mc = 0 ∨ mc = 3 then none else some (rate, mc), nrz := if nz = 3 then 0 else nz }
  let h := if sc = 3 then h.retire n pair 1 else h
  let h := if mc = 3 then (h.setLane n { h.lane n with ceil := (h.lane n).ceil - 1 }).bump F.PORT_TRCNT_RATEDOWN n else h
  if nz = 3 then
    let h := ((h.clearLanes n).set F.PORT_LSTAT_STATE 9 n).emit (.off n 15)
    h.fault0 0x03 n 0
  else h.toDetect n

end Sys2Proof.Machine
end

