-- ==== Sys2Proof/Machine/Power.lean ====
section
/-! DEFINITION. The meanings of the power path's commands: insertion, breaker, measurement, calibration, budget
(spec/14_power_path.md), and the shepherd's re-allotment of power (R243). -/

namespace Sys2Proof.Machine

/-! ## Insertion (R366 to R370) -/

def seatFld (pin : Nat) : Fld := if pin = 0 then F.PORT_PPSTAT_SEATA else F.PORT_PPSTAT_SEATB

/-- SEATING_CLOSED (R366): the pin has been sampled closed for 2 ms. -/
def Hub.seatClosed (h : Hub) (n pin : Nat) : Hub := ((h.set (seatFld pin) 1 n).ppEval n).fabSeen n

def execSeatingClosed (n : PortId) (pin : Fin 2) (s : State) : Host.Outcome State Fault Refusal :=
  run (fun h => h.seatClosed n pin) s

/-- What an opened seating pin does to the lanes and the link: the link goes down and its retained frames are flushed
(Tables 2-14, 4-9); the fallback ceiling returns to rate 2 (R78) and the retired pairs are cleared (R81). -/
def Hub.seatLanes (h : Hub) (n : Nat) : Hub :=
  let h := if h.active n then h.dropLanes n causeLanes else h.linkDown n causeLanes
  let h := (h.flush n).clearRetire n
  h.setLane n { h.lane n with ceil := 2, sigAt := none }

/-- SEATING_OPEN (R366, R369, R415): sampled open, the pin counts as open at once. -/
def Hub.seatOpen (h : Hub) (n pin : Nat) : Hub :=
  let h := (h.set (seatFld pin) 0 n).seatLanes n
  (h.ppLoss n).fabLoss n

def execSeatingOpen (n : PortId) (pin : Fin 2) (s : State) : Host.Outcome State Fault Refusal :=
  run (fun h => h.seatOpen n pin) s

/-- INSERTION_DELAY_END (R368): (INSDLY + 1) × 10 ms after its start. -/
def Hub.insDelayEnd (h : Hub) (n : Nat) : Hub :=
  match (h.pp n).delayAt with
  | none => h
  | some t =>
    h.when (t + (h.get F.PORT_PPCTL_INSDLY n + 1) * 2000000 ≤ h.now) (fun h =>
      (h.setPp n { h.pp n with delayed := true }).ppEval n)

def execInsertionDelayEnd (n : PortId) (s : State) : Host.Outcome State Fault Refusal := run (fun h => h.insDelayEnd n) s

/-- A write of PORT_PPCTL. -/
def Hub.ppctl (h : Hub) (n : Nat) (v : Word) : Hub :=
  ((h.wr (F.PORT_PPCTL_EN.addr n 0) v [31]).swPerm).ppEnable n (v.bits 31 1)

/-- POWER_PATH_ENABLE (R369, R375): a write of PORT_PPCTL on a path with S0's rights. -/
def Hub.ppEnableWrite (h : Hub) (p : Path) (n : Nat) (v : Word) : Hub :=
  h.when ((h.pathLimit p).isNone) (fun h => h.ppctl n v)

def execPowerPathEnable (p : Path) (n : PortId) (v : Word) (s : State) : Host.Outcome State Fault Refusal :=
  runW (fun _ h => h.ppEnableWrite p n v) s

/-- RAMP_COMPLETE (R369): VOS at 11.4 V or above; the path is SAFE, and the policy makes its first Offer. -/
def Hub.rampComplete (h : Hub) (n : Nat) : Hub :=
  h.when (h.ppState n = ppRAMP ∧ 11400 ≤ h.vos n) (fun h =>
    let h := (h.emit (.gate n 2)).setPpState n ppSAFE
    (h.setPp n { h.pp n with rampAt := none, owt := 0 }).wantOffer n)

def execRampComplete (n : PortId) (s : State) : Host.Outcome State Fault Refusal := run (fun h => h.rampComplete n) s

/-- RAMP_TIMEOUT (R370): VOS below 11.4 V after twice the nominal ramp plus 2 ms. -/
def Hub.rampTimeout (h : Hub) (n : Nat) : Hub :=
  match (h.pp n).rampAt with
  | none => h
  | some t =>
    h.when (h.ppState n = ppRAMP ∧ h.vos n < 11400 ∧
        t + 2 * (24000000 / max 1 (h.get F.PORT_PPCTL_SLEW n)) + 400000 ≤ h.now) (fun h => h.trip n 4 0)

def execRampTimeout (n : PortId) (s : State) : Host.Outcome State Fault Refusal := run (fun h => h.rampTimeout n) s

/-! ## Protection (R371 to R374) -/

/-- HARD_SHORT_TRIP (R371): never blanked, in any state of a front end that is enabled. -/
def execHardShortTrip (n : PortId) (s : State) : Host.Outcome State Fault Refusal :=
  run (fun h => h.when (h.blockOn rowPower n) (fun h => h.trip n 1 0)) s

/-- A quotient that is no whole number is rounded one way or the other; which way the spec does not say (log entry 6). -/
def quot (x : Int) (n : Nat) : Int := if x % n = 0 then x / n else if Config.roundUp x then x / n + 1 else x / n

/-- Current in mA of a shunt voltage in µV, with the board's shunt and gain trim (R378, R379). -/
def Hub.shuntMa (h : Hub) (n : Nat) (uv : Int) : Int :=
  quot (uv * 1000 * (h.get F.PORT_PPSHUNT_GAIN n : Int)) (max 1 (h.get F.PORT_PPSHUNT_RSH n) * 32768)

/-- The readings of a sample (R380): current and, where sampled, VOS and VCV. -/
def Hub.readings (h : Hub) (n : Nat) (ma : Int) (vos vcv : Option Nat) : Hub :=
  let h := h.set F.PORT_PPMEAS_I (ofSigned 16 (clampInt (-32768) 32767 ma)) n
  let h := match vcv with
    | some v => h.set F.PORT_PPVCV_VCV v n
    | none => h
  match vos with
  | none => h
  | some v =>
    let x := h.pp n
    let low := decide (v < 1000)
    (h.setPp n { x with low1 := if low then min 2 (x.low1 + 1) else 0,
                         hiAt := if 10800 ≤ v then some (x.hiAt.getD h.now) else none,
                         loAt := if v < 8000 then some (x.loAt.getD h.now) else none }).set F.PORT_PPMEAS_V v n

/-- A sample of VOS below 1 V ends the discharge of a turn-off (R369). -/
def Hub.dschCheck (h : Hub) (n : Nat) : Hub := (if h.vos n < 1000 then h.setPp n { h.pp n with drain := false } else h).dschShow n

/-- The SOA integrator takes a sample (R372), in pJ. -/
def Hub.soaStep (h : Hub) (n : Nat) (i : Nat) : Hub :=
  let x := h.pp n
  let e := x.soa + (h.get F.PORT_PPVCV_VCV n - h.vos n) * i - (quot x.soa (1000 * 2 ^ h.get F.PORT_PPSOA_TAU n)).toNat
  (h.setPp n { x with soa := e }).set F.PORT_PPSOAACC_ACC (min (e / 1000000) 0xFFFFFFFF) n

/-- Energy and the sums of the power window take a sample (R380). -/
def Hub.energyStep (h : Hub) (n : Nat) (i : Nat) : Hub :=
  let x := h.pp n
  let w := h.vos n * i
  let e := x.energy + w
  (h.setPp n { x with energy := e, psum := x.psum + w, pnum := x.pnum + 1 }).set F.PORT_PPE_LO_E_LO (e / 1000000 % 2 ^ 32) n

/-- Breaker on: the I-t curve and the trips run. -/
def Hub.breaker (h : Hub) (n : Nat) : Bool := h.energised n || (h.isSink n && (h.pp n).gate)

/-- The counts of the I-t points after a sample (R372). -/
def Hub.itStep (h : Hub) (n i : Nat) : Hub :=
  if ¬ h.breaker n then h
  else
    let icon := h.get F.PORT_PPSTAT_ICON n * 500
    h.each (List.range 16) (fun p g =>
      let k := g.get F.PORT_PPIT_K n p
      let x := g.pp n
      g.setPp n { x with its := Tab.set 0 x.its p (if k ≠ 0 ∧ k * icon < i * 16 then Tab.get 0 x.its p + 1 else 0) })

/-- The lowest point whose count exceeds its time. -/
def Hub.itTrip (h : Hub) (n : Nat) : Option Nat :=
  (List.range 16).find? (fun p => h.get F.PORT_PPIT_K n p != 0 && decide (h.get F.PORT_PPIT_T n p < Tab.get 0 (h.pp n).its p))

/-- The output window takes a sample (R373). -/
def Hub.windowStep (h : Hub) (n : Nat) : Hub :=
  let x := h.pp n
  let s := h.ppState n
  let off := x.trans.isSome || x.winAt.any (fun t => decide (h.now < t))
  if (s = ppSAFE ∨ s = ppON) ∧ ¬ off then
    let t := if s = ppON then vcodeMv (h.get F.PORT_CCCON_VCODE n) else 12000
    let d := if h.vos n < t then t - h.vos n else h.vos n - t
    h.setPp n { x with owt := if h.get F.PORT_PPWIN_WIN n * t < d * 100 then x.owt + 1 else 0, winAt := none }
  else h.setPp n { x with owt := 0 }

/-- A transition sees whether VOS is within 3 % of its target (R406). -/
def Hub.transStep (h : Hub) (n : Nat) : Hub :=
  let x := h.pp n
  match x.trans with
  | none => h
  | some t =>
    let inAt := if within3 (h.vos n) t.toV then some (t.inAt.getD h.now) else none
    h.setPp n { x with trans := some { t with inAt := inAt } }

/-- Pn_CSUP: 4.75 V sets CSOK, 4.5 V is the limit of a supplier, 0.8 V that of a swap (R411, R412). -/
def Hub.csupStep (h : Hub) (n : Nat) (csup : Option Nat) : Hub :=
  match csup with
  | none => h
  | some v =>
    let c := h.cc n
    (h.set F.PORT_CCSTAT_CSOK (b2n (decide (4750 ≤ v))) n).setCc n
      { c with csLowAt := if v < 800 then some (c.csLowAt.getD h.now) else none,
               csDipAt := if v < 4500 then some (c.csDipAt.getD h.now) else none,
               swap := c.swap.map (fun w => if v < 800 ∧ h.due w.at_ then { w with low := true } else w) }

/-- CURRENT_SAMPLE (R372, R373, R380): the shunt voltage in µV, and in mV what was sampled of VOS, VCV and Pn_CSUP. -/
def Hub.sample (h : Hub) (n : Nat) (raw : Int) (vos vcv csup : Option Nat) : Hub :=
  let ma := h.shuntMa n raw
  let i := ma.natAbs
  let h := ((h.readings n ma vos vcv).csupStep n csup).soaStep n i
  let h := (((h.energyStep n i).itStep n i).windowStep n).transStep n
  let soa := decide (1000000000 * h.get F.PORT_PPSOA_LIMIT n < (h.pp n).soa)
  let it := h.itTrip n
  let outv := decide (h.get F.PORT_PPWIN_OWT n < (h.pp n).owt)
  let same := h.ppState n == ppLATCHED && decide ((h.pp n).tripAt = some h.now)
  let h := if h.breaker n ∨ same then
      h.trips n (it.getD 0) ((if soa then [2] else []) ++ (if it.isSome then [3] else []) ++ (if outv then [4] else []))
    else h
  (h.dschCheck n).ppEval n

def execCurrentSample (n : PortId) (raw : BitVec 16) (vos vcv csup : Option (BitVec 16)) (s : State) :
    Host.Outcome State Fault Refusal :=
  run (fun h => h.when (h.blockOn rowPower n) (fun h =>
    h.sample n raw.toInt (vos.map (·.toNat)) (vcv.map (·.toNat)) (csup.map (·.toNat)))) s

/-- The input condition falls: every energised port is turned off and enters WAIT, DELAY goes back to WAIT (R374). -/
def Hub.busFails (h : Hub) (mv cause : Nat) : Hub :=
  let h := (h.set F.PWR_BUSSTAT_OK 0).set F.PWR_BUSSTAT_VBUS (min mv 0xFFFF)
  h.each ports (fun n g => g.ppEval n false cause)

/-- BUS_OVER_VOLTAGE (R374): a rise to OVTH or above. -/
def Hub.busOver (h : Hub) (mv : Nat) : Hub :=
  h.when (h.get F.PWR_BUSCFG_OVTH * 250 ≤ mv ∧ ¬ h.flag F.PWR_BUSSTAT_OV) (fun h =>
    (((h.set F.PWR_BUSSTAT_OV 1).set F.PWR_BUSSTAT_UV 0).bump F.PWR_CNT_BUSOV).busFails mv 4)

def execBusOverVoltage (mv : BitVec 16) (s : State) : Host.Outcome State Fault Refusal := run (fun h => h.busOver mv.toNat) s

/-- BUS_UNDER_VOLTAGE (R374): below UVTH for UVFILT µs. -/
def Hub.busUnder (h : Hub) (mv : Nat) : Hub :=
  h.when (mv < h.get F.PWR_BUSCFG_UVTH * 250 ∧ ¬ h.flag F.PWR_BUSSTAT_UV) (fun h =>
    (((h.set F.PWR_BUSSTAT_UV 1).set F.PWR_BUSSTAT_OV 0).bump F.PWR_CNT_BUSUV).busFails mv 1)

def execBusUnderVoltage (mv : BitVec 16) (s : State) : Host.Outcome State Fault Refusal := run (fun h => h.busUnder mv.toNat) s

/-- BUS_IN_RANGE (R374): between UVTH + 1 V and OVTH − 1 V for 10 ms. -/
def Hub.busInRange (h : Hub) (mv : Nat) : Hub :=
  h.when (2000000 ≤ h.now ∧ h.get F.PWR_BUSCFG_UVTH * 250 + 1000 ≤ mv ∧ mv + 1000 ≤ h.get F.PWR_BUSCFG_OVTH * 250) (fun h =>
    let h := ((h.set F.PWR_BUSSTAT_OK 1).set F.PWR_BUSSTAT_OV 0).set F.PWR_BUSSTAT_UV 0
    let h := h.set F.PWR_BUSSTAT_VBUS mv
    h.each ports (fun n g => g.ppEval n))

def execBusInRange (mv : BitVec 16) (s : State) : Host.Outcome State Fault Refusal := run (fun h => h.busInRange mv.toNat) s

/-- COOL_DOWN_END (R377): COOL × 100 ms after the toggle. -/
def Hub.coolEnd (h : Hub) (n : Nat) : Hub :=
  h.when (h.due (h.pp n).coolAt) (fun h => (h.setPp n { h.pp n with coolAt := none }).ppEval n)

def execCoolDownEnd (n : PortId) (s : State) : Host.Outcome State Fault Refusal := run (fun h => h.coolEnd n) s

/-! ## Measurement (R378 to R380) -/

/-- PORT_PPCAL.GO: a claim for calibration, refused while the gate is on (R27, R378). -/
def Hub.calStart (h : Hub) (n : Nat) : Hub :=
  let r := resAnalog n
  if h.flag F.PORT_PPCAL_BUSY n ∨ ¬ h.blockOn rowPower n then h
  else if (h.pp n).gate then h.refuseClaim r ownCal (h.owner r)
  else
    let c := h.claim r ownCal
    if c.1 then ((c.2.set F.PORT_PPCAL_BUSY 1 n).setPp n { c.2.pp n with calAt := some h.now }).ppShow n else c.2

/-- A write of PORT_PPCAL. -/
def Hub.ppcal (h : Hub) (n : Nat) (v : Word) : Hub :=
  let h := h.wr (F.PORT_PPCAL_GO.addr n 0) v
  if v.bits 31 1 = 1 then h.calStart n else h

/-- CALIBRATION_START (R378). -/
def Hub.calWrite (h : Hub) (p : Path) (n : Nat) (v : Word) : Hub := h.when ((h.pathLimit p).isNone) (fun h => h.ppcal n v)

def execCalibrationStart (p : Path) (n : PortId) (v : Word) (s : State) : Host.Outcome State Fault Refusal :=
  runW (fun _ h => h.calWrite p n v) s

/-- CALIBRATION_END (R378): with its result; one that has not ended within 400,000 ticks has failed. -/
def Hub.calEnd (h : Hub) (n : Nat) (fail : Bool) : Hub :=
  match (h.pp n).calAt with
  | none => h
  | some t =>
    let bad := fail || decide (t + 400000 < h.now)
    let h := ((h.set F.PORT_PPCAL_BUSY 0 n).raise F.PORT_PPCAL_DONE 1 n).set F.PORT_PPCAL_FAIL (b2n bad) n
    let h := (h.setPp n { h.pp n with calAt := none, calibrated := true }).release (resAnalog n) ownCal
    let h := if bad then h.rec1 (h.powerProd n) 3 0x0D n 0 else h
    h.ppEval n

def execCalibrationEnd (n : PortId) (fail : Bool) (s : State) : Host.Outcome State Fault Refusal := run (fun h => h.calEnd n fail) s

/-- POWER_WINDOW_END (R380): every port's mean of the window that ends; a window cut by a load or a step of ridge time gives
none (R532). -/
def Hub.powerWindow (h : Hub) : Hub :=
  h.when (h.ridge % 200000 = 0) (fun h =>
    let cut := h.pwr.jumps != h.time.jumps
    let h := { h with pwr := { h.pwr with jumps := h.time.jumps } }
    let h := h.each ports (fun n g =>
      let x := g.pp n
      let g := if cut ∨ x.pnum = 0 then g else g.set F.PORT_PPPWR_P (min (quot x.psum (x.pnum * 1000)).toNat 0xFFFFFF) n
      g.setPp n { x with psum := 0, pnum := 0 })
    if cut then h
    else
      let total := ports.foldl (fun a n => a + h.get F.PORT_PPPWR_P n) 0
      let h := h.set F.PWR_TOTAL_TOTAL (min total 0xFFFFFF)
      if total ≤ 1000 * h.get F.PWR_BUDGET_WATTS then { h with pwr := { h.pwr with overs := 0, counted := false } }
      else
        let overs := h.pwr.overs + 1
        let h := { h with pwr := { h.pwr with overs := overs } }
        if 8 ≤ overs ∧ ¬ h.pwr.counted then
          let h := { h with pwr := { h.pwr with counted := true } }
          (h.bump F.PWR_CNT_OVERBUD).fault0 0x0E srcHub (min (total / 1000) 0xFFFFFF)
        else h)

def execPowerWindowEnd (s : State) : Host.Outcome State Fault Refusal := run (fun h => h.powerWindow) s

/-- A read of PORT_PPE_LO holds bits 63:32 of the same instant, the start of the tick, for its path (R55, R380). -/
def Hub.energyRead (st h : Hub) (p : Path) (n : Nat) : Hub :=
  let x := h.pp n
  h.setPp n { x with eShadow := Tab.set 0 x.eShadow p.num ((st.pp n).energy / 1000000 / 2 ^ 32 % 2 ^ 32) }

/-- ENERGY_READ (R380): the low word goes out. -/
def Hub.energyLo (st h : Hub) (p : Path) (n : Nat) : Hub :=
  h.when ((h.pathLimit p).isNone) (fun h =>
    st.energyRead (h.emit (.readData p (F.PORT_PPE_LO_E_LO.addr n 0) (st.reg (F.PORT_PPE_LO_E_LO.addr n 0)))) p n)

def execEnergyRead (p : Path) (n : PortId) (s : State) : Host.Outcome State Fault Refusal :=
  runS (fun _ st h => (st, st.energyLo h p n)) s

/-! ## The budget (R243, R244, R381, R407) -/

/-- The lowest cause that refuses an allotment, with the number PWR_ERR names (R381). -/
def Hub.allotErr (h : Hub) (n sl w : Nat) : Option (Nat × Nat) :=
  if h.get F.PWR_BUDGET_WATTS < h.allotSum n w then some (1, n)
  else if h.share sl < h.sliceSum n w sl sl then some (2, sl)
  else if w < 12 ∧ h.energised n then some (3, n)
  else if 240 < w then some (4, n)
  else none

/-- A write of PWR_ALLOTn: refused, or taken, a port in SAFE or ON being renegotiated (R243, R381). -/
def Hub.allotWrite (h : Hub) (n : Nat) (v : Word) : Hub :=
  let w := v.bits 0 8
  let sl := v.bits 24 7
  match h.allotErr n sl w with
  | some (c, i) => h.pwrErr c i
  | none =>
    let old := h.allot n
    let h := ((((h.keepWas (128 + n) (h.get F.PWR_ALLOT_SLICE n)).set F.PWR_ALLOT_SLICE sl n).set F.PWR_ALLOT_WATTS w n).swPerm).ppShow n
    if w = old then h
    else
      let h := h.setCc n { h.cc n with freed := false }
      if h.isSource n ∧ (h.ppState n = ppSAFE ∨ h.ppState n = ppON) then
        (h.setCc n { h.cc n with allot := some (decide (old < w)) }).ccNext n
      else h

/-- ALLOTMENT_WRITE (R243, R381). -/
def execAllotmentWrite (p : Path) (n : PortId) (v : Word) (s : State) : Host.Outcome State Fault Refusal :=
  runW (fun _ h => h.when ((h.pathLimit p).isNone) (fun h => h.allotWrite n v)) s

/-- A write of PWR_BUDGET, or of PWR_SHAREs (R381). -/
def Hub.budgetWrite (h : Hub) (share : Option Nat) (v : Word) : Hub :=
  let w := v.bits 0 13
  match share with
  | none =>
    if w < h.allotSum 32 0 then h.pwrErr 1 0xFF
    else if 7680 < w then h.pwrErr 4 0xFF
    else h.set F.PWR_BUDGET_WATTS w
  | some s =>
    if w < h.sliceSum 32 0 0 s then h.pwrErr 2 s
    else if 7680 < w then h.pwrErr 4 s
    else (h.keepWas s (h.get F.PWR_SHARE_WATTS s)).set F.PWR_SHARE_WATTS w s

/-- BUDGET_WRITE (R381): PWR_SHAREs of a slice, else PWR_BUDGET. -/
def execBudgetWrite (p : Path) (share : Option (Fin 128)) (v : Word) (s : State) : Host.Outcome State Fault Refusal :=
  runW (fun _ h => h.when ((h.pathLimit p).isNone) (fun h => h.budgetWrite (share.map (·.val)) v)) s

/-- A lowering is still to end. -/
def Hub.lowering (h : Hub) : Bool :=
  ports.any (fun n => (h.cc n).allot == some false || (h.cc n).ren.any (fun r => !r.1))

/-- RAISE_START (R243, R407): once every lowering has ended, each waiting raise that the budget covers is started; one that it
cannot cover ends REFUSED. One whose port has an exchange open waits for its end. -/
def Hub.raiseStart (h : Hub) : Hub :=
  h.when (h.lowering = false) (fun h =>
    h.each ports (fun n g =>
      if (g.cc n).ren = some (true, false) ∧ ¬ g.ccOpen n then
        if ports.foldl (fun a m => a + g.charged m) 0 ≤ 2000 * g.get F.PWR_BUDGET_WATTS then
          (g.setCc n { g.cc n with ren := some (true, true) }).wantOffer n
        else g.renEnd n 2
      else g))

def execRaiseStart (s : State) : Host.Outcome State Fault Refusal := run (fun h => h.raiseStart) s

end Sys2Proof.Machine
end

