-- ==== Sys2Proof/Machine/Boot.lean ====
section
/-! DEFINITION. The meanings of the commands on chip resets, rails, the boot ROM, the watchdog, the one-time programmable memory,
the register lock and the mailbox (spec/18_reset_and_boot.md, R483 to R486, R490). -/

namespace Sys2Proof.Machine

/-! ## Chip resets (R464, R490) -/

/-- POWER_ON_RESET (R490): VAON has crossed its rising threshold. -/
def Hub.powerOn (h : Hub) (otp : Tab Nat) (straps : Nat) : Hub := h.when h.pwr.off (fun h => h.chipReset .power otp straps)

def execPowerOnReset (straps : BitVec 8) (s : State) : Host.Outcome State Fault Refusal :=
  runAny (fun otp h => h.powerOn otp straps.toNat) s

/-- PIN_RESET (R464): RESET_N was low for 200 ticks. -/
def Hub.pinReset (h : Hub) (otp : Tab Nat) (straps : Nat) : Hub := h.when (¬ h.pwr.off) (fun h => h.chipReset .pin otp straps)

def execPinReset (straps : BitVec 8) (s : State) : Host.Outcome State Fault Refusal :=
  runAny (fun otp h => h.pinReset otp straps.toNat) s

/-- VAON_LOSS (R386, R490, R493): every FET is off, REG_EN is low, nothing is powered, every port presents its pull-down. -/
def Hub.vaonLoss (h : Hub) : Hub :=
  h.when (¬ h.pwr.off) (fun h =>
    let en := ([3, 2, 1, 0].filter (fun r => bitOf h.boot.regEn r)).map (fun r => Out.pin (.regEn r) false)
    h.showLines { out := h.out ++ h.outputsOff ++ en, draws := h.draws, pwr := { asleep := true, off := true } })

def execVaonLoss (s : State) : Host.Outcome State Fault Refusal := runAny (fun _ h => h.vaonLoss) s

/-! ## The watchdog (R464, Table 18-8) -/

/-- A write of GLB_WDT: CHIPRST resets at once; EN starts the count, KICK restarts it. -/
def Hub.wdtWrite (h : Hub) (otp : Tab Nat) (straps : Nat) (v : Word) : Hub :=
  if v.bits 29 1 = 1 then h.chipReset .chip otp straps
  else
    let was := h.flag F.GLB_WDT_EN
    let h := h.wr (F.GLB_WDT_EN.addr 0 0) v
    if v.bits 30 1 = 1 ∨ (¬ was ∧ h.flag F.GLB_WDT_EN) then { h with boot := { h.boot with wdtAt := h.now } } else h

/-- WATCHDOG_KICK (R464): a write of GLB_WDT with KICK = 1. -/
def Hub.kick (h : Hub) (p : Path) (v : Word) : Hub :=
  h.when ((h.pathLimit p).isNone ∧ v.bits 30 1 = 1 ∧ v.bits 29 1 = 0) (fun h => h.wdtWrite [] 0 v)

def execWatchdogKick (p : Path) (v : Word) (s : State) : Host.Outcome State Fault Refusal := runW (fun _ h => h.kick p v) s

/-- CHIPRST (R464): a write of GLB_WDT with CHIPRST = 1. -/
def Hub.chipRst (h : Hub) (otp : Tab Nat) (p : Path) (v : Word) (straps : Nat) : Hub :=
  h.when ((h.pathLimit p).isNone ∧ v.bits 29 1 = 1) (fun h => h.wdtWrite otp straps v)

def execChiprst (p : Path) (v : Word) (straps : BitVec 8) (s : State) : Host.Outcome State Fault Refusal :=
  runW (fun otp h => h.chipRst otp p v straps.toNat) s

/-- WATCHDOG_EXPIRY (R464). -/
def Hub.watchdog (h : Hub) (otp : Tab Nat) (straps : Nat) : Hub :=
  h.when (h.flag F.GLB_WDT_EN ∧ h.boot.wdtAt + 2000000 * h.get F.GLB_WDT_TMO ≤ h.now) (fun h => h.chipReset .watchdog otp straps)

def execWatchdogExpiry (straps : BitVec 8) (s : State) : Host.Outcome State Fault Refusal :=
  runO (fun otp h => h.watchdog otp straps.toNat) s

/-! ## Trims and rails (R13, R468) -/

/-- REG_EN outputs are asserted. -/
def Hub.regEnOn (h : Hub) (l : List Nat) : Hub :=
  let h := l.foldl (fun g r => g.emit (.pin (.regEn r) true)) h
  { h with boot := { h.boot with regEn := l.foldl setBit h.boot.regEn, railAt := some h.now } }

/-- The rails are up: the ROM starts, by the boot source of the straps (Table 18-2, R471, R472). -/
def Hub.romStart (h : Hub) : Hub :=
  { h with boot := { h.boot with railAt := none, tries := 0, rom := if h.strap 2 ∧ ¬ h.strap 1 then (if h.strap 5 then .flashWait else .hostLoad) else .verify,
                                 flashAt := if h.strap 2 ∧ ¬ h.strap 1 ∧ h.strap 5 then some (h.now + 200000000) else none } }

/-- The rail sequence starts. -/
def Hub.railStart (h : Hub) : Hub :=
  if h.boot.good = 15 then h.romStart else h.regEnOn (if h.strap 6 then [0, 1, 2, 3] else [0])

/-- OTP_LOAD_COMPLETE (R13, R468): trims are in their blocks; those that failed their check, named by row of Table 1-1 and
instance, keep their blocks disabled. Every port's measurement is calibrated, and the rails follow. -/
def Hub.otpLoaded (h : Hub) (bad : List (Nat × Nat)) : Hub :=
  h.when (h.boot.loaded = false) (fun h =>
    let h := { h with boot := { h.boot with loaded := true, bad := bad } }
    let h := bad.foldl (fun g b => g.fault0 0x01 srcHub b.1) h
    (h.each ports (fun n g => g.calStart n)).railStart.powerPorts)

def execOtpLoadComplete (bad : List (Nat × Nat)) (s : State) : Host.Outcome State Fault Refusal := run (fun h => h.otpLoaded bad) s

/-- RAIL_IN_RANGE (R468): rail `r` has been in range for 20,000 ticks. -/
def Hub.railGood (h : Hub) (r : Nat) : Hub :=
  h.when (bitOf h.boot.regEn r ∧ ¬ bitOf h.boot.good r ∧ h.due (h.boot.railAt.map (· + 20000))) (fun h =>
    let h := { h with boot := { h.boot with good := setBit h.boot.good r } }
    if h.boot.good = 15 then h.romStart
    else if h.strap 6 then h
    else h.regEnOn [r + 1])

def execRailInRange (r : Fin 4) (s : State) : Host.Outcome State Fault Refusal := run (fun h => h.railGood r) s

/-- RAIL_TIMEOUT (R468): 10 ms after a REG_EN, or 3 ms after all of them, a rail is missing. -/
def Hub.railTimeout (h : Hub) : Hub :=
  h.when (h.due (h.boot.railAt.map (· + if h.strap 6 then 600000 else 2000000))) (fun h =>
    let h := ([3, 2, 1, 0].filter (fun r => bitOf h.boot.regEn r)).foldl (fun g r => g.emit (.pin (.regEn r) false)) h
    let n := h.boot.tries + 1
    { h with boot := { h.boot with regEn := 0, good := 0, railAt := none, tries := n,
                                   retryAt := if n < 3 then some (h.now + 200000000) else none } })

def execRailTimeout (s : State) : Host.Outcome State Fault Refusal := run Hub.railTimeout s

/-- RAIL_RETRY (R468). -/
def Hub.railRetry (h : Hub) : Hub :=
  h.when (h.due h.boot.retryAt) (fun h => { h with boot := { h.boot with retryAt := none } }.railStart)

def execRailRetry (s : State) : Host.Outcome State Fault Refusal := run Hub.railRetry s

/-! ## The boot image (R470 to R472) -/

/-- A 32-bit little-endian word of a byte string. -/
def le32 (b : Bytes) (i : Nat) : Nat := leNat (sub b i 4)
def le16 (b : Bytes) (i : Nat) : Nat := leNat (sub b i 2)

/-- A public key is anchored: SECBOOT is unblown, or an unrevoked BOOTKEY slot holds its hash (R471). -/
def Hub.keyOk (h : Hub) (pub : Bytes) : Bool :=
  h.otpItem 11 % 2 == 0 ||
  [0, 1, 2, 3].any (fun j => !bitOf (h.otpItem 9) j && sha256 (pub.map (·.toNat)) == h.otpItem (5 + j) % 2 ^ 256)

/-- A signature block (PUBKEY, SIG) over signed bytes is accepted (R471). -/
def Hub.sigOk (h : Hub) (block signed : Bytes) : Bool :=
  ecdsaVerify ((block.take 64).map (·.toNat)) ((sub block 64 64).map (·.toNat)) (signed.map (·.toNat)) && h.keyOk (block.take 64)

/-- The code of an image. -/
def imgCode (b : Bytes) : Bytes := sub b 256 (le32 b 0x08)

/-- A slot, or a host-loaded image, is acceptable (R471). -/
def Hub.imgOk (h : Hub) (b : Bytes) : Bool :=
  let n := le32 b 0x08
  le32 b 0 == 0x544C4233 && le16 b 4 == 1 && n % 4 == 0 && decide (4 ≤ n ∧ n ≤ 458752 ∧ 256 + n ≤ b.length) &&
  decide (popCount 64 (h.otpItem 10) ≤ le32 b 0x10) && h.sigOk (sub b 0x38 128) (b.take 0x78 ++ imgCode b)

/-- The words of the management controller's memory that a code fills, from address 0. -/
def memOf : Nat → Nat → Bytes → Tab Word
  | 0, _, _ => []
  | k + 1, i, b =>
    let w := BitVec.ofNat 32 (leNat (b.take 4))
    if w = 0#32 then memOf k (i + 1) (b.drop 4) else (i, w) :: memOf k (i + 1) (b.drop 4)

/-- An image starts at its ENTRY; under STRAP_DBGWAIT it is held there, unless DBG_LOCK is blown (Table 18-2). -/
def Hub.startImage (h : Hub) (b : Bytes) (slot host : Nat) : Hub :=
  let c := imgCode b
  let h := { h with boot := { h.boot with rom := .running, entry := le32 b 0x0C, fwid := leNat (sub b 0x18 32), load := [],
                                          mem := memOf (c.length / 4) 0 c } }
  let h := ((h.set F.GLB_BOOTSTAT_SLOT slot).set F.GLB_BOOTSTAT_HOSTLOAD host).set F.GLB_BOOTSTAT_SVN (le32 b 0x10)
  (h.set F.GLB_BOOTSTAT_UNANCHORED (b2n (h.otpItem 11 % 2 == 0))).set F.MGMT_STAT_RUNNING
    (b2n (!h.strap 7 || h.flag F.GLB_DBG_LOCKED))

/-- BOOT_SLOT_VERIFY (R471): the slot with the higher SVN first, slot A on a tie; where neither is acceptable, host load or a
later retry. -/
def Hub.bootVerify (h : Hub) (a b : Bytes) : Hub :=
  h.when (h.boot.rom = .verify) (fun h =>
    let slots := if le32 a 0x10 < le32 b 0x10 then [(1, b), (0, a)] else [(0, a), (1, b)]
    match slots.find? (fun e => h.imgOk e.2) with
    | some e => h.startImage e.2 e.1 0
    | none =>
      if h.strap 1 ∧ ¬ h.strap 2 ∧ ¬ h.strap 5 then { h with boot := { h.boot with rom := .hostLoad, load := [] } }
      else { h with boot := { h.boot with rom := .flashWait, flashAt := some (h.now + 200000000) } })

def execBootSlotVerify (a b : List (BitVec 8)) (s : State) : Host.Outcome State Fault Refusal := run (fun h => h.bootVerify a b) s

/-- FLASH_RETRY (R471). -/
def Hub.flashRetry (h : Hub) : Hub :=
  h.when (h.boot.rom = .flashWait ∧ h.due h.boot.flashAt) (fun h => { h with boot := { h.boot with rom := .verify, flashAt := none } })

def execFlashRetry (s : State) : Host.Outcome State Fault Refusal := run Hub.flashRetry s

/-- HOST_LOAD_DATA (R472, Table 18-9): the next word of the image. -/
def Hub.loadData (h : Hub) (v : Word) : Hub :=
  h.when (h.boot.rom = .hostLoad ∧ h.boot.load.length + 4 ≤ 459008) (fun h =>
    { h with boot := { h.boot with load := h.boot.load ++ leBytes 4 v.toNat } })

def execHostLoadData (p : Path) (v : Word) (s : State) : Host.Outcome State Fault Refusal :=
  runW (fun _ h => h.when ((h.pathLimit p).isNone) (fun h => h.loadData v)) s

/-- A write of GLB_LOADCTL (R472): GO checks what was loaded. -/
def Hub.loadCtl (h : Hub) (v : Word) : Hub :=
  let h := h.wr (F.GLB_LOADCTL_GO.addr 0 0) v
  h.when (v.bits 31 1 = 1 ∧ h.boot.rom = .hostLoad) (fun h =>
    if h.imgOk h.boot.load then h.startImage h.boot.load 0 1
    else { h with boot := { h.boot with load := [] } }.raise F.GLB_LOADCTL_ERR 1)

def execHostLoadGo (p : Path) (v : Word) (s : State) : Host.Outcome State Fault Refusal :=
  runW (fun _ h => h.when ((h.pathLimit p).isNone) (fun h => h.loadCtl v)) s

/-! ## OTP (R476, R477) -/

/-- Bits of an item of Table 18-6. -/
def otpWidth : Nat → Nat
  | 2 => 64
  | 3 => 128
  | 4 => 128
  | 9 => 4
  | 10 => 64
  | 11 => 1
  | 12 => 1
  | _ => 256

/-- GLB_OTPDATA as one number, and set from one. -/
def Hub.otpData (h : Hub) : Nat := (List.range 8).foldl (fun a k => a + 2 ^ (32 * k) * h.get F.GLB_OTPDATA_DATA k) 0
def Hub.setOtpData (h : Hub) (x : Nat) : Hub := h.each (List.range 8) (fun k g => g.set F.GLB_OTPDATA_DATA (x / 2 ^ (32 * k)) k)

/-- A programming of an item is refused (R477); items 1 and 2 are programmed at the factory. -/
def Hub.progRefused (h : Hub) (otp : Tab Nat) (i : Nat) : Bool :=
  i < 3 || decide (12 < i) || (i != 9 && i != 10 && Tab.get 0 otp i != 0) || h.locked? || !bitOf h.boot.good 0

/-- A write of GLB_OTPCMD. Through the management tunnel it is ignored. -/
def Hub.otpCmd (h : Hub) (otp : Tab Nat) (p : Path) (v : Word) : Hub :=
  match p with
  | .tunnel _ => h
  | .own => h
  | _ =>
    let h := h.wr (F.GLB_OTPCMD_GO.addr 0 0) v
    let i := h.get F.GLB_OTPCMD_ITEM
    if v.bits 31 1 = 0 ∨ v.bits 8 8 ≠ 0x5A ∨ h.flag F.GLB_OTPSTAT_BUSY then h
    else if v.bits 30 1 = 0 then
      if 5 ≤ i ∧ i ≤ 8 then h.setOtpData (Tab.get 0 otp i) else h.raise F.GLB_OTPSTAT_ERR 1
    else if h.progRefused otp i then h.raise F.GLB_OTPSTAT_ERR 1
    else
      let x := h.otpData % 2 ^ otpWidth i
      ({ h with boot := { h.boot with prog := some (i, x, h.now) } }.setOtpData 0).set F.GLB_OTPSTAT_BUSY 1

/-- OTP_PROGRAM (R477): a write of GLB_OTPCMD with OP = 1. -/
def Hub.otpProgram (h : Hub) (otp : Tab Nat) (p : Path) (v : Word) : Hub := h.when (v.bits 30 1 = 1) (fun h => h.otpCmd otp p v)

def execOtpProgram (p : Path) (v : Word) (s : State) : Host.Outcome State Fault Refusal := runW (fun otp h => h.otpProgram otp p v) s

/-- OTP_READ (R477): a write of GLB_OTPCMD with OP = 0. -/
def Hub.otpRead (h : Hub) (otp : Tab Nat) (p : Path) (v : Word) : Hub := h.when (v.bits 30 1 = 0) (fun h => h.otpCmd otp p v)

def execOtpRead (p : Path) (v : Word) (s : State) : Host.Outcome State Fault Refusal := runW (fun otp h => h.otpRead otp p v) s

/-- The bits of an item after a programming: ROLLBACK takes one bit a command, its lowest that is not blown (Table 18-6). -/
def otpAfter (i old x : Nat) : Nat :=
  if i = 10 then
    match (List.range 64).find? (fun k => !bitOf old k) with
    | some k => if x = 0 then old else setBit old k
    | none => old
  else old ||| x

/-- The hub once a programming has ended: DBG_LOCK acts at once (R462). -/
def Hub.progEnd (h : Hub) (i new : Nat) : Hub :=
  let h := { h with boot := { h.boot with prog := none } }.set F.GLB_OTPSTAT_BUSY 0
  let h := if new ≠ 0 then h.set F.GLB_OTPSTAT_PROG (setBit (h.get F.GLB_OTPSTAT_PROG) (i - 1)) else h
  if i = 12 ∧ new % 2 = 1 then h.set F.GLB_DBG_LOCKED 1 else h

/-- OTP_PROGRAM_END (R477). -/
def execOtpProgramEnd (s : State) : Host.Outcome State Fault Refusal :=
  if s.hub.pwr.asleep then .next s
  else
    match s.hub.boot.prog with
    | none => .next s
    | some (i, x, _) =>
      let new := otpAfter i (Tab.get 0 s.otp.bits i) x
      .next { s with hub := (s.hub.progEnd i new).finish, otp := { bits := Tab.set 0 s.otp.bits i new } }

/-! ## The lock and the mailbox (R483, R485) -/

/-- GLB_LOCK_SET (R483): over PCIe, by the management controller, or from a manager slot that names S0. -/
def execGlbLockSet (p : Path) (s : State) : Host.Outcome State Fault Refusal :=
  runW (fun _ h => h.when ((h.pathLimit p).isNone) (fun h => h.set F.GLB_LOCK_LOCK 1)) s

/-- A write of MGMT_H2M: from PCIe or the tunnel it raises the mailbox interrupt. -/
def Hub.h2m (h : Hub) (p : Path) (v : Word) : Hub :=
  let h := h.set F.MGMT_H2M_MSG v.toNat
  if p = .mgmt then h else h.mirq irqMailbox

/-- MGMT_H2M_WRITE (R485). -/
def execMgmtH2mWrite (p : Path) (v : Word) (s : State) : Host.Outcome State Fault Refusal :=
  runW (fun _ h => h.when ((h.pathLimit p).isNone) (fun h => h.h2m p v)) s

/-- A write of MGMT_M2H: by the management controller it sends the vector. -/
def Hub.m2h (h : Hub) (p : Path) (v : Word) : Hub :=
  let h := h.set F.MGMT_M2H_MSG v.toNat
  if p = .mgmt ∧ h.flag F.MGMT_IRQ_EN then h.vector (h.get F.MGMT_IRQ_VEC) else h

/-- MGMT_M2H_WRITE (R485). -/
def execMgmtM2hWrite (p : Path) (v : Word) (s : State) : Host.Outcome State Fault Refusal :=
  runW (fun _ h => h.when ((h.pathLimit p).isNone) (fun h => h.m2h p v)) s

end Sys2Proof.Machine
end

