-- ==== Sys2Proof/Machine/Contract.lean ====
section
/-! DEFINITION. The meanings of the configuration channel's commands: attachment, messages, contracts, voltage transitions,
sink ports, cable supply, hard resets (spec/15_power_negotiation.md). -/

namespace Sys2Proof.Machine

/-! ## Attachment (R388) -/

/-- ATTACH_DETECT (R388): 1 ms of idle line inside the window. -/
def Hub.attach (h : Hub) (n : Nat) : Hub :=
  h.when ((h.isSource n ∨ h.isSink n) ∧ ¬ h.attached n ∧ h.blockOn rowCc n) (fun h =>
    let h := (h.set F.PORT_CCSTAT_TXID 0 n).set F.PORT_CCSTAT_RXID 0 n
    let c := h.cc n
    let h := h.setCc n { c with rxAny := false, ptvSeen := h.flag F.PORT_CCCTL_PTV n, attAt := h.now, csFault := false,
                                csPeer := false, coll := false, cmds := [] }
    if h.isSource n then (((h.set F.PORT_CCSTAT_PD 1 n).set F.PORT_PPSTAT_PD 1 n).ppEval n).fabSeen n
    else (h.set F.PORT_CCSTAT_SRC 1 n).ccRest n)

def execAttachDetect (n : PortId) (s : State) : Host.Outcome State Fault Refusal := run (fun h => h.attach n) s

/-- ATTACH_LOSS (R388, R401, R415). -/
def Hub.attachLoss (h : Hub) (n : Nat) : Hub :=
  h.when (h.attached n) (fun h =>
    let h := ((h.set F.PORT_CCSTAT_PD 0 n).set F.PORT_CCSTAT_SRC 0 n).set F.PORT_PPSTAT_PD 0 n
    let h := if h.isSink n ∧ (h.pp n).gate then h.sinkOff n 1 true else h
    (h.ppLoss n).fabLoss n)

def execAttachLoss (n : PortId) (s : State) : Host.Outcome State Fault Refusal := run (fun h => h.attachLoss n) s

/-! ## Sending and acknowledgements (R390, R394, R395) -/

/-- Idle line that a start needs (R390). -/
def Hub.idleNeed (h : Hub) (n kind : Nat) : Nat :=
  if kind = kHardReset then 534 else if (h.cc n).coll ∧ ¬ h.isSource n then 16000 else 8000

/-- The message in hand, or the first that waits, which takes the next MSGID. -/
def Hub.takeOut (h : Hub) (n : Nat) : Hub × Option CcTx :=
  let c := h.cc n
  match c.tx with
  | some t => (h, some t)
  | none =>
    match c.out with
    | [] => (h, none)
    | m :: rest =>
      let id := h.get F.PORT_CCSTAT_TXID n
      let t : CcTx := { msg := m, id := id }
      (h.setCc n { c with out := rest, tx := some t, offerId := if m.kind = kOffer then id else c.offerId }, some t)

/-- MESSAGE_SEND_START (R390): `col`: a mismatch in the preamble stops the send. -/
def Hub.ccSend (h : Hub) (n : Nat) (col : Bool) : Hub :=
  let r := h.takeOut n
  match r.2 with
  | none => h
  | some t =>
    h.when (t.endAt.isNone ∧ h.attached n ∧ ¬ h.portDark n ∧ (h.cc n).lineAt + h.idleNeed n t.msg.kind ≤ h.now) (fun _ =>
      let h := r.1
      let c := h.cc n
      if col then (h.bump F.PORT_CCCNT1_COLLIDE n).setCc n { c with coll := true, lineAt := h.now }
      else
        let e := h.now + ccTicks t.msg.objs.length
        (h.emit (.cc n h.now (h.ccHdr n t.msg.kind t.msg.objs.length t.id) t.msg.objs)).setCc n
          { c with coll := false, lineAt := e, tx := some { t with sends := t.sends + 1, endAt := some e } })

def execMessageSendStart (n : PortId) (col : Bool) (s : State) : Host.Outcome State Fault Refusal :=
  run (fun h => h.ccSend n col) s

/-- A contract comes into force (R406); one record; a renegotiation that was started is DONE (R407). -/
def Hub.inForce (h : Hub) (n v i : Nat) : Hub :=
  let h := (((h.setReg (F.PORT_CCCON_VALID.addr n 0) 0#32).set F.PORT_CCCON_VALID 1 n).set F.PORT_CCCON_VCODE v n).set
    F.PORT_CCCON_ICUR i n
  let h := (h.rec1 (h.powerProd n) 7 0x01 n (v * 16 + i)).setIcon n i
  let h := if h.isSource n ∧ h.ppState n = ppSAFE then h.setPpState n ppON else h
  (h.setCcState n csCONTRACT).renEndStarted n 1

/-- A swap completes: this end now supplies, or the partner does (R412). -/
def Hub.swapDone (h : Hub) (n : Nat) (gain : Bool) : Hub :=
  let h := (h.setCc n { h.cc n with swap := none, csPeer := !gain }).set F.PORT_CCSTAT_SWAP 0 n
  (h.bump F.PORT_CCCNT1_SWAP n).rec1 (h.powerProd n) 7 0x07 n (b2n gain)

/-- The current of the contract in force, or of the safe supply. -/
def Hub.icur (h : Hub) (n : Nat) : Nat := if h.contract n then h.get F.PORT_CCCON_ICUR n else 2
/-- The voltage code of the contract in force, or of the safe supply. -/
def Hub.vcur (h : Hub) (n : Nat) : Nat := if h.contract n then h.get F.PORT_CCCON_VCODE n else 0

/-- A message of this end has been acknowledged: what follows from it. -/
def Hub.ccAcked (h : Hub) (n : Nat) (t : CcTx) : Hub :=
  let c := h.cc n
  let k := t.msg.kind
  if k = kOffer then
    if h.ccState n = csOFFER then (h.setCc n { c with reqAt := some (h.now + 2000000) }).setCcState n csWAITREQ else h
  else if k = kRequest then h.setCc n { c with respAt := some (h.now + 200000) }
  else if k = kAccept then
    if t.msg.objs = [] then h.setCc n { c with swap := c.swap.map (fun w => { w with at_ := some h.now }) }
    else
      let h := (h.set F.PORT_CCCON_TVCODE c.tv n).set F.PORT_CCCON_TICUR c.ti n
      let h := (h.setIcon n (max (h.icur n) c.ti)).setCcState n csTRANS
      h.startTrans n (h.get F.PORT_PPVSET_CODE n c.tv) (vcodeMv c.tv) false
  else if k = kReady then
    if bitOf (t.msg.objs.getD 0 0) 24 then h.swapDone n true else h.inForce n c.tv c.ti
  else if k = kHardReset then h.hrAct n (t.endAt.getD h.now) false
  else h

/-- An acknowledgement's header (Table 15-3): MSGID, NOBJ, REV. -/
def ccId (hdr : Nat) : Nat := wire 16 hdr 7 9
def ccKind (hdr : Nat) : Nat := wire 16 hdr 0 3
def ccNobj (hdr : Nat) : Nat := wire 16 hdr 4 6
def ccRev (hdr : Nat) : Nat := wire 16 hdr 12 13

/-- ACKNOWLEDGEMENT_RECEIVE (R394, R395): at its end. -/
def Hub.ccAckRx (h : Hub) (n hdr : Nat) : Hub :=
  h.when (ccKind hdr = kAck ∧ h.attached n) (fun h =>
    let h := h.setCc n { h.cc n with lineAt := h.now }
    if ccNobj hdr ≠ 0 ∨ ccRev hdr ≠ 1 then h.bump F.PORT_CCCNT1_BADMSG n
    else
      match (h.cc n).tx with
      | none => h
      | some t =>
        if t.id = ccId hdr ∧ t.endAt.any (fun e => decide (e ≤ h.now) && decide (h.now ≤ e + 40000)) then
          let h := if 1 < t.sends then h.bump F.PORT_CCCNT_RETRY n else h
          let h := (h.set F.PORT_CCSTAT_TXID (t.id + 1) n).setCc n { h.cc n with tx := none }
          (h.ccAcked n t).ccNext n
        else h)

def execAcknowledgementReceive (n : PortId) (hdr : BitVec 16) (s : State) : Host.Outcome State Fault Refusal :=
  run (fun h => h.ccAckRx n hdr.toNat) s

/-- ACKNOWLEDGEMENT_TIMEOUT (R395): 40,000 ticks after the end of a message; three sends in all. -/
def Hub.ccAckTmo (h : Hub) (n : Nat) : Hub :=
  match (h.cc n).tx with
  | none => h
  | some t =>
    match t.endAt with
    | none => h
    | some e =>
      h.when (e + 40000 ≤ h.now) (fun h =>
        let c := h.cc n
        if t.sends < 3 then h.setCc n { c with tx := some { t with endAt := none } }
        else if t.msg.kind = kHardReset then (h.setCc n { c with tx := none }).hrAct n e false
        else if t.msg.kind = kOffer ∧ ¬ h.contract n then h.setCc n { c with tx := none, offAt := some (e + 400000) }
        else h.hrStart n)

def execAcknowledgementTimeout (n : PortId) (s : State) : Host.Outcome State Fault Refusal := run (fun h => h.ccAckTmo n) s

/-! ## Taking a message (R391 to R396) -/

/-- Bits `a` to `b` of an object (R8). -/
def ob (x a b : Nat) : Nat := wire 32 x a b

/-- A current of 0.5 A to 5 A is a defined encoding (R393). -/
def icurOk (i : Nat) : Bool := decide (1 ≤ i) && decide (i ≤ 10)

/-- NOBJ lies in its row and every defined field holds a defined encoding (R393, Table 15-4). -/
def ccOk (kind : Nat) (o : List Nat) : Bool :=
  let x := o.getD 0 0
  match kind with
  | 1 => decide (1 ≤ o.length) && decide (o.length ≤ 5) &&
      o.all (fun y => decide (ob y 0 2 ≤ 4) && decide (2 ≤ ob y 3 6) && decide (ob y 3 6 ≤ 10))
  | 2 => o.length == 1 && icurOk (ob x 3 6)
  | 3 => o.isEmpty || (o.length == 1 && decide (ob x 0 2 ≤ 4) && icurOk (ob x 3 6) && decide (10 ≤ ob x 7 13) && decide (ob x 7 13 ≤ 100))
  | 4 => o.length == 1 && decide (1 ≤ ob x 0 3) && decide (ob x 0 3 ≤ 6)
  | 5 => o.length == 1 && decide (ob x 0 2 ≤ 4) && icurOk (ob x 3 6)
  | 6 => o.length == 2 && decide (ob (o.getD 1 0) 0 7 ≤ 240)
  | 7 => o.length == 1 && decide (1 ≤ ob x 0 3) && decide (ob x 0 3 ≤ 4)
  | 8 => o.isEmpty
  | 9 => o.isEmpty
  | _ => false

/-- A frame is well formed (R393). -/
def ccGood (hdr : Nat) (o : List Nat) : Bool := ccRev hdr == 1 && ccNobj hdr == o.length && ccOk (ccKind hdr) o

/-- A frame with a good CRC comes in: acknowledged; discarded and counted where malformed; a MSGID taken last is not acted on
again; else `act` with the tick at which the acknowledgement ends (R393 to R396). -/
def Hub.ccTake (h : Hub) (n hdr : Nat) (o : List Nat) (act : Nat → Hub → Hub) : Hub :=
  let h := h.setCc n { h.cc n with lineAt := h.now }
  if h.portDark n ∨ ¬ h.attached n ∨ (h.isSink n ∧ ¬ (h.cc n).ptvSeen) then h
  else
    let a := h.ccAck n (ccId hdr)
    let h := a.1
    if ¬ ccGood hdr o then h.bump F.PORT_CCCNT1_BADMSG n
    else if (h.cc n).rxAny ∧ h.get F.PORT_CCSTAT_RXID n = ccId hdr then h
    else
      let h := (h.set F.PORT_CCSTAT_RXID (ccId hdr) n).setCc n { h.cc n with rxAny := true }
      if (h.cc n).hr ∧ ccKind hdr ≠ kHardReset then h else act a.2 h

/-- A row's message is of its kind. -/
def Hub.ccRecv (h : Hub) (n kind : Nat) (hdr : BitVec 16) (objs : List Word) (act : Nat → Hub → Hub) : Hub :=
  h.when (ccKind hdr.toNat = kind) (fun h => h.ccTake n hdr.toNat (objs.map (·.toNat)) act)

/-- CC_BAD_FRAME (R391, R393, R394). -/
def Hub.ccBad (h : Hub) (n hdr : Nat) (o : List Nat) (crcOk : Bool) : Hub :=
  if ¬ crcOk then (h.setCc n { h.cc n with lineAt := h.now }).bump F.PORT_CCCNT1_CRCERR n
  else if ccKind hdr = kAck then
    if ccNobj hdr ≠ 0 ∨ ccRev hdr ≠ 1 then (h.setCc n { h.cc n with lineAt := h.now }).bump F.PORT_CCCNT1_BADMSG n else h
  else h.when (ccGood hdr o = false) (fun h => h.ccTake n hdr o (fun _ g => g))

def execCcBadFrame (n : PortId) (hdr : BitVec 16) (objs : List Word) (crcOk : Bool) (s : State) :
    Host.Outcome State Fault Refusal :=
  run (fun h => h.ccBad n hdr.toNat (objs.map (·.toNat)) crcOk) s

/-- The state of a sink whose exchange ends without a new contract. -/
def Hub.sinkRest (h : Hub) (n : Nat) : Hub := h.setCcState n (if h.contract n then csCONTRACT else ckWAITOFF)

/-- The state of a source whose exchange ends without a new contract. -/
def Hub.srcRest (h : Hub) (n : Nat) : Hub := h.setCcState n (if h.contract n then csCONTRACT else csNOCON)

/-- The row of the policy table that an Offer meets first: its object's index and the current asked for (R398). -/
def Hub.choose (h : Hub) (n : Nat) (os : List (Nat × Nat)) : Option (Nat × Nat × Nat) :=
  (List.range 7).findSome? (fun m =>
    if ¬ h.flag F.PORT_CCSNK_EN n m then none
    else
      match os.zipIdx.find? (fun o => o.1.1 == h.get F.PORT_CCSNK_VCODE n m) with
      | none => none
      | some ((v, i), k) =>
        if h.get F.PORT_CCSNK_IMIN n m ≤ i then some (k, v, min (h.get F.PORT_CCSNK_INEED n m) i) else none)

/-- A sink takes an Offer (R396, R398, Table 15-6). -/
def Hub.offerRx (h : Hub) (n id : Nat) (os : List (Nat × Nat)) : Hub :=
  let s := h.ccState n
  if ¬ h.isSink n ∨ ¬ (s = ckWAITOFF ∨ s = ckWAITACC ∨ s = csCONTRACT) then h
  else
    let c := h.cc n
    -- an open exchange is abandoned first
    let keep := fun (m : CcMsg) => m.kind != kRequest && m.kind != kReject
    let h := h.setCc n { c with respAt := none, out := c.out.filter keep, tx := c.tx.filter (fun t => keep t.msg), offer := os,
                                offerId := id }
    match (if h.flag F.PORT_CCCTL_PTV n then h.choose n os else none) with
    | none => (h.ccReject n 4).sinkRest n
    | some (k, v, i) =>
      let h := h.setCc n { h.cc n with tv := v, ti := i }
      (h.ccQueue n ⟨kRequest, [2 ^ 29 * k + 2 ^ 25 * i + 2 ^ 22 * id]⟩).setCcState n ckWAITACC

/-- OFFER_RECEIVE (R398). -/
def execOfferReceive (n : PortId) (hdr : BitVec 16) (objs : List Word) (s : State) : Host.Outcome State Fault Refusal :=
  run (fun h => h.ccRecv n kOffer hdr objs (fun _ g =>
    g.offerRx n (ccId hdr.toNat) (objs.map (fun o => (ob o.toNat 0 2, ob o.toNat 3 6))))) s

/-- A source refuses a Request of an open exchange, which ends (Table 15-5, R407). -/
def Hub.reqRefuse (h : Hub) (n reason : Nat) : Hub := ((h.ccReject n reason).srcRest n).renEndStarted n 2

/-- A source takes a Request (R399). -/
def Hub.requestRx (h : Hub) (n x : Nat) : Hub :=
  let s := h.ccState n
  let c := h.cc n
  if ¬ h.isSource n then h
  else if s ≠ csWAITREQ ∧ s ≠ csOFFER then h.ccReject n 6
  else
    let h := h.setCc n { c with reqAt := none, offAt := none }
    match c.offer[ob x 0 2]? with
    | none => h.reqRefuse n (if ob x 7 9 = c.offerId then 2 else 1)
    | some (v, imax) =>
      if ob x 7 9 ≠ c.offerId then h.reqRefuse n 1
      else if imax < ob x 3 6 then h.reqRefuse n 2
      else
        let cl := if v = h.vcur n then (true, h) else h.claim (resAnalog n) ownTrans
        if ¬ cl.1 then cl.2.reqRefuse n 3
        else
          let h := (cl.2.setCcState n csWAITREQ).setCc n { cl.2.cc n with tv := v, ti := ob x 3 6 }
          h.ccQueue n ⟨kAccept, [2 ^ 29 * v + 2 ^ 25 * ob x 3 6 + 2 ^ 18 * h.get F.PORT_CCCTL_SLEW n]⟩

/-- REQUEST_RECEIVE (R399). -/
def execRequestReceive (n : PortId) (hdr : BitVec 16) (objs : List Word) (s : State) : Host.Outcome State Fault Refusal :=
  run (fun h => h.ccRecv n kRequest hdr objs (fun _ g => g.requestRx n ((objs.getD 0 0#32).toNat))) s

/-- The Request of the open exchange has gone out, so that an Accept or Reject answers it. -/
def Hub.asked (h : Hub) (n : Nat) : Bool :=
  let c := h.cc n
  h.isSink n && h.ccState n == ckWAITACC && !c.out.any (fun m => m.kind == kRequest) &&
    !c.tx.any (fun t => t.msg.kind == kRequest && t.sends == 0)

/-- The Request is done: it needs no acknowledgement any more. -/
def Hub.askDone (h : Hub) (n : Nat) : Hub :=
  let c := h.cc n
  h.setCc n { c with respAt := none, tx := c.tx.filter (fun t => t.msg.kind != kRequest) }

/-- ACCEPT_RECEIVE (R401, R402, R412): of a Request, or of a swap. -/
def Hub.acceptRx (h : Hub) (n a : Nat) (o : List Nat) : Hub :=
  let c := h.cc n
  match o with
  | [] =>
    match c.swap with
    | some w => if w.at_.isNone then h.setCc n { c with swap := some { w with at_ := some a } } else h
    | none => h
  | x :: _ =>
    if ¬ h.asked n then h
    else
      let h := h.askDone n
      let v := ob x 0 2
      let i := ob x 3 6
      let d := let p := vcodeMv (h.vcur n); let q := vcodeMv v; if p < q then q - p else p - q
      let h := h.setCc n { h.cc n with tv := v, ti := i, readyAt := some (a + d * 2000 / max 1 (ob x 7 13) + 400000) }
      let h := ((h.set F.PORT_CCCON_TRANS 1 n).set F.PORT_CCCON_TVCODE v n).set F.PORT_CCCON_TICUR i n
      (h.setIcon n (max (h.icur n) i)).setCcState n csTRANS

def execAcceptReceive (n : PortId) (hdr : BitVec 16) (objs : List Word) (s : State) : Host.Outcome State Fault Refusal :=
  run (fun h => h.ccRecv n kAccept hdr objs (fun a g => g.acceptRx n a (objs.map (·.toNat)))) s

/-- A Reject comes in (R400, R401, R407, R412): the present contract is kept. -/
def Hub.rejectRx (h : Hub) (n : Nat) : Hub :=
  let h := h.bump F.PORT_CCCNT_REJECT n
  let s := h.ccState n
  let c := h.cc n
  let h := if c.swap.any (fun w => w.at_.isNone) then (h.setCc n { c with swap := none }).set F.PORT_CCSTAT_SWAP 0 n
    else if h.isSource n ∧ (s = csWAITREQ ∨ s = csOFFER) then
      ((h.setCc n { c with reqAt := none, offAt := none, tx := c.tx.filter (fun t => t.msg.kind != kOffer) }).srcRest n).renEndStarted n 2
    else if h.asked n then (h.askDone n).sinkRest n
    else h
  h.ccNext n

/-- REJECT_RECEIVE (R400). -/
def execRejectReceive (n : PortId) (hdr : BitVec 16) (objs : List Word) (s : State) : Host.Outcome State Fault Refusal :=
  run (fun h => h.ccRecv n kReject hdr objs (fun _ g => g.rejectRx n)) s

/-- A Ready comes in: of the contract, or of a swap (R401, R412). -/
def Hub.readyRx (h : Hub) (n x : Nat) : Hub :=
  let c := h.cc n
  if ob x 7 7 = 1 then
    if c.swap.any (fun w => !w.gain && w.at_.isSome) then (h.swapDone n false).ccNext n else h
  else if h.isSink n ∧ h.ccState n = csTRANS then
    ((h.setCc n { c with readyAt := none }).inForce n (ob x 0 2) (ob x 3 6)).ccNext n
  else h

/-- CC_READY_RECEIVE (R401, R406, R412). -/
def execCcReadyReceive (n : PortId) (hdr : BitVec 16) (objs : List Word) (s : State) : Host.Outcome State Fault Refusal :=
  run (fun h => h.ccRecv n kReady hdr objs (fun _ g => g.readyRx n ((objs.getD 0 0#32).toNat))) s

/-- A Status or Alert is held in PORT_CCRXH and PORT_CCRXOm. -/
def Hub.ccHold (h : Hub) (n hdr : Nat) (o : List Nat) : Hub :=
  let h := ((h.set F.PORT_CCRXH_HDR hdr n).raise F.PORT_CCRXH_NEW 1 n).set F.PORT_CCRXO0_OBJ (o.getD 0 0) n
  if 1 < o.length then h.set F.PORT_CCRXO1_OBJ (o.getD 1 0) n else h

/-- STATUS_RECEIVE (R393, Table 17-2). -/
def execStatusReceive (n : PortId) (hdr : BitVec 16) (objs : List Word) (s : State) : Host.Outcome State Fault Refusal :=
  run (fun h => h.ccRecv n kStatus hdr objs (fun _ g =>
    let o := objs.map (·.toNat)
    let y := o.getD 1 0
    (g.ccHold n hdr.toNat o).rec2 (g.powerProd n) 7 0x04 n (ob y 8 15 * 256 + ob y 0 7) (o.getD 0 0))) s

/-- ALERT_RECEIVE (R393, Table 17-2). -/
def execAlertReceive (n : PortId) (hdr : BitVec 16) (objs : List Word) (s : State) : Host.Outcome State Fault Refusal :=
  run (fun h => h.ccRecv n kAlert hdr objs (fun _ g =>
    let o := objs.map (·.toNat)
    (g.ccHold n hdr.toNat o).rec1 (g.powerProd n) 7 0x05 n (ob (o.getD 0 0) 0 3))) s

/-- CABLE_SUPPLY_SWAP_RECEIVE (R412): the sender's CSUP says which end supplies. -/
def Hub.swapRx (h : Hub) (n : Nat) (csup : Bool) : Hub :=
  if ¬ h.flag F.PORT_CCCTL_SWAPEN n ∨ h.ccOpen n ∨ (h.pp n).trans.isSome then h.ccReject n 5
  else ((h.ccQueue n ⟨kAccept, []⟩).setCc n { (h.ccQueue n ⟨kAccept, []⟩).cc n with swap := some { gain := csup } }).set
    F.PORT_CCSTAT_SWAP 1 n

def execCableSupplySwapReceive (n : PortId) (hdr : BitVec 16) (objs : List Word) (s : State) : Host.Outcome State Fault Refusal :=
  run (fun h => h.ccRecv n kSwap hdr objs (fun _ g => g.swapRx n (wire 16 hdr.toNat 11 11 == 1))) s

/-- HARDRESET_RECEIVE (R413): acts once, until HRREC ends. -/
def execHardresetReceive (n : PortId) (hdr : BitVec 16) (objs : List Word) (s : State) : Host.Outcome State Fault Refusal :=
  run (fun h => h.ccRecv n kHardReset hdr objs (fun _ g => if (g.cc n).hrAt.isSome then g else g.hrAct n g.now true)) s

/-! ## Timers of Table 15-7 -/

/-- OFFINT_EXPIRY (R400): the Offer is sent again while the policy acts. -/
def Hub.offintEnd (h : Hub) (n : Nat) : Hub :=
  h.when (h.due (h.cc n).offAt ∧ h.flag F.PORT_CCCTL_PTV n) (fun h => h.sendOffer n)

def execOffintExpiry (n : PortId) (s : State) : Host.Outcome State Fault Refusal := run (fun h => h.offintEnd n) s

/-- REQTMO_EXPIRY (R400, R402). -/
def execReqtmoExpiry (n : PortId) (s : State) : Host.Outcome State Fault Refusal :=
  run (fun h => h.when (h.due (h.cc n).reqAt ∧ h.ccState n = csWAITREQ) (fun h => h.hrStart n)) s

/-- RESPTMO_EXPIRY (R401, R402). -/
def execResptmoExpiry (n : PortId) (s : State) : Host.Outcome State Fault Refusal :=
  run (fun h => h.when (h.due (h.cc n).respAt ∧ h.ccState n = ckWAITACC) (fun h => h.hrStart n)) s

/-- READYTMO_EXPIRY (R401, R402). -/
def execReadytmoExpiry (n : PortId) (s : State) : Host.Outcome State Fault Refusal :=
  run (fun h => h.when (h.due (h.cc n).readyAt ∧ h.ccState n = csTRANS) (fun h => h.hrStart n)) s

/-- HRREC_END (R400, R401, R413). -/
def Hub.hrrecEnd (h : Hub) (n : Nat) : Hub :=
  h.when (h.due (h.cc n).hrAt) (fun h =>
    let h := h.setCc n { h.cc n with hrAt := none }
    if h.isSource n then (h.setCcState n csIDLE).wantOffer n
    else (h.setCcState n (if (h.pp n).gate ∧ h.flag F.PORT_CCSTAT_SRC n then ckWAITOFF else ckDETACHED)).ccNext n)

def execHrrecEnd (n : PortId) (s : State) : Host.Outcome State Fault Refusal := run (fun h => h.hrrecEnd n) s

/-! ## Swaps of the cable supply (R411, R412) -/

/-- SWAPTMO_EXPIRY (R412): no Ready by 5 ms after A. -/
def execSwaptmoExpiry (n : PortId) (s : State) : Host.Outcome State Fault Refusal :=
  run (fun h => h.when ((h.cc n).swap.any (fun w => w.at_.any (fun a => decide (a + 1000000 ≤ h.now)))) (fun h => h.hrStart n)) s

/-- SWAP_APPLY (R412): Pn_CSUP below 0.8 V for 2,000 ticks, and not before A + 20,000. -/
def execSwapApply (n : PortId) (s : State) : Host.Outcome State Fault Refusal :=
  run (fun h => h.when ((h.cc n).swap.any (fun w => w.gain && w.at_.any (fun a => decide (a + 20000 ≤ h.now))) ∧
    (h.cc n).csLowAt.any (fun t => decide (t + 2000 ≤ h.now))) (fun h => h.setCson n true)) s

/-- SWAP_READY (R412): Pn_CSUP has reached 4.75 V; Ready goes out once. -/
def Hub.swapReady (h : Hub) (n : Nat) : Hub :=
  let c := h.cc n
  h.when (c.swap.any (fun w => w.gain && w.at_.isSome) ∧ h.flag F.PORT_CCSTAT_CSON n ∧ h.flag F.PORT_CCSTAT_CSOK n ∧
      ¬ c.out.any (fun m => m.kind == kReady) ∧ ¬ c.tx.any (fun t => t.msg.kind == kReady)) (fun h =>
    h.ccQueue n ⟨kReady, [2 ^ 29 * h.vcur n + 2 ^ 25 * h.icur n + 2 ^ 24]⟩)

def execSwapReady (n : PortId) (s : State) : Host.Outcome State Fault Refusal := run (fun h => h.swapReady n) s

/-- SWAP_CSUP_TIMEOUT (R412): Pn_CSUP still above 0.8 V at A + 200,000. -/
def execSwapCsupTimeout (n : PortId) (s : State) : Host.Outcome State Fault Refusal :=
  run (fun h => h.when ((h.cc n).swap.any (fun w => !w.low && w.at_.any (fun a => decide (a + 200000 ≤ h.now)))) (fun h => h.hrStart n)) s

/-- CABLE_SUPPLY_APPLY (R411): the SOURCE end, once the path is SAFE, or with CSAPPLY once PD is set. -/
def Hub.csApply (h : Hub) (n : Nat) : Hub :=
  let c := h.cc n
  h.when (h.isSource n ∧ h.attached n ∧ ¬ c.csFault ∧ ¬ c.csPeer ∧ c.swap.isNone ∧ c.hrAt.isNone ∧
      (h.flag F.PORT_CCCTL_CSAPPLY n ∨ h.ppState n = ppSAFE ∨ h.ppState n = ppON)) (fun h => h.setCson n true)

def execCableSupplyApply (n : PortId) (s : State) : Host.Outcome State Fault Refusal := run (fun h => h.csApply n) s

/-- CABLE_SUPPLY_FAULT (R411): Pn_CSUP below 4.5 V for 200,000 ticks while this end supplies. -/
def Hub.csFaultEnd (h : Hub) (n : Nat) : Hub :=
  let c := h.cc n
  h.when (h.flag F.PORT_CCSTAT_CSON n ∧ c.csDipAt.any (fun t => decide (max t c.csAt + 200000 ≤ h.now))) (fun h =>
    let h := h.setCson n false
    let h := h.setCc n { h.cc n with csFault := true, cmds := (h.cc n).cmds ++ [(kAlert, 4)] }
    (h.rec1 (h.powerProd n) 3 0x0F n 0).ccNext n)

def execCableSupplyFault (n : PortId) (s : State) : Host.Outcome State Fault Refusal := run (fun h => h.csFaultEnd n) s

/-! ## Software (R387, R396, Tables 15-9, 15-14) -/

/-- PORT_CCCTL.ROLE takes a value: only with the path OFF and no contract (R387). -/
def Hub.setRole (h : Hub) (n v : Nat) : Hub :=
  if v ≤ 4 ∧ v ≠ h.get F.PORT_CCCTL_ROLE n ∧ h.ppState n = ppOFF ∧ ¬ h.contract n then
    let h := if h.isSink n ∧ (h.pp n).gate then h.sinkOff n 4 false else h
    let h := ((h.set F.PORT_CCSTAT_PD 0 n).set F.PORT_CCSTAT_SRC 0 n).set F.PORT_PPSTAT_PD 0 n
    let h := ((h.endExchange n).setCson n false).setCcState n 0
    let c := h.cc n
    let h := h.setCc n { c with hr := false, hrAt := none, tx := none, out := [], cmds := [], csFault := false, csPeer := false }
    (h.showLines (h.set F.PORT_CCCTL_ROLE v n)).ppShow n
  else h

/-- A write of PORT_CCCTL. -/
def Hub.ccctl (h : Hub) (n : Nat) (v : Word) : Hub :=
  let h := (h.wr (F.PORT_CCCTL_PTV.addr n 0) v [31, 28]).swPerm.setRole n (v.bits 28 3)
  let h := h.set F.PORT_CCCTL_PTV (v.bits 31 1) n
  if v.bits 31 1 = 0 then h
  else
    let h := h.setCc n { h.cc n with ptvSeen := true }
    let h := if h.isSink n ∧ h.ccState n = ckDETACHED then h.ccRest n else h
    h.ccNext n

/-- PTV_WRITE (R396). -/
def execPtvWrite (p : Path) (n : PortId) (v : Word) (s : State) : Host.Outcome State Fault Refusal :=
  runW (fun _ h => h.when ((h.pathLimit p).isNone) (fun h => h.ccctl n v)) s

/-- ROLE_WRITE (R387). -/
def execRoleWrite (p : Path) (n : PortId) (v : Word) (s : State) : Host.Outcome State Fault Refusal :=
  runW (fun _ h => h.when ((h.pathLimit p).isNone) (fun h => h.ccctl n v)) s

/-- A write of PORT_CCCMD (Table 15-14). -/
def Hub.cccmd (h : Hub) (n : Nat) (v : Word) : Hub :=
  let c := v.bits 8 4
  let h := if v.bits 1 1 = 1 ∧ h.isSource n then h.wantOffer n else h
  let h := if v.bits 2 1 = 1 then h.ccCmd n (kStatus, 0) else h
  let h := if v.bits 3 1 = 1 ∧ 1 ≤ c ∧ c ≤ 4 then h.ccCmd n (kAlert, c) else h
  let h := if v.bits 4 1 = 1 then h.ccCmd n (kSwap, 0) else h
  if v.bits 0 1 = 1 then h.hrStart n else h

/-- A write of PORT_CCCMD on a path with S0's rights. -/
def Hub.cccmdWrite (h : Hub) (p : Path) (n : Nat) (v : Word) : Hub := h.when ((h.pathLimit p).isNone) (fun h => h.cccmd n v)

/-- RENEG (R400). -/
def execReneg (p : Path) (n : PortId) (v : Word) (s : State) : Host.Outcome State Fault Refusal :=
  runW (fun _ h => h.cccmdWrite p n v) s
/-- CCCMD_STATUS (R393). -/
def execCccmdStatus (p : Path) (n : PortId) (v : Word) (s : State) : Host.Outcome State Fault Refusal :=
  runW (fun _ h => h.cccmdWrite p n v) s
/-- CCCMD_ALERT (R393). -/
def execCccmdAlert (p : Path) (n : PortId) (v : Word) (s : State) : Host.Outcome State Fault Refusal :=
  runW (fun _ h => h.cccmdWrite p n v) s
/-- CCCMD_SWAP (R412). -/
def execCccmdSwap (p : Path) (n : PortId) (v : Word) (s : State) : Host.Outcome State Fault Refusal :=
  runW (fun _ h => h.cccmdWrite p n v) s
/-- CCCMD_HARDRESET (R413). -/
def execCccmdHardreset (p : Path) (n : PortId) (v : Word) (s : State) : Host.Outcome State Fault Refusal :=
  runW (fun _ h => h.cccmdWrite p n v) s

/-! ## Transitions (R405, R406) -/

/-- A code `k` steps of `n` from one to another; how a step that is no whole code is rounded is not stated (log entry 9). -/
def Hub.interp (h : Hub) (a b k n : Nat) : Nat × Hub :=
  let x : Int := (a : Int) * n + ((b : Int) - a) * k
  if n = 0 then (b, h)
  else if x % n = 0 then ((x / n).toNat, h)
  else let r := h.draw; ((x / n).toNat + r.1 % 2, r.2)

/-- TRANSITION_STEP (R405): one step every 200 ticks. -/
def Hub.transNext (h : Hub) (n : Nat) : Hub :=
  match (h.pp n).trans with
  | none => h
  | some t =>
    h.when (t.done < t.steps ∧ t.start + 200 * (t.done + 1) ≤ h.now) (fun h =>
      let k := t.done + 1
      let r := h.interp t.fromC t.toC k t.steps
      let h := r.2
      let v := ((t.fromV : Int) + ((t.toV : Int) - t.fromV) * k / t.steps).toNat
      let last := k = t.steps
      let t := { t with done := k, reached := if last then some h.now else none }
      let h := h.setPp n { h.pp n with trans := some t }
      (h.setVset n (if last then t.toC else r.1) (if last then t.toV else v)).dschShow n)

def execTransitionStep (n : PortId) (s : State) : Host.Outcome State Fault Refusal := run (fun h => h.transNext n) s

/-- VOS has stayed within 3 % of the target for 4,000 ticks since VSET reached it. -/
def Trans.settled (t : Trans) (now : Nat) : Bool :=
  t.reached.any (fun r => t.inAt.any (fun i => decide (max r i + 4000 ≤ now)))

/-- TRANSITION_END (R406): the set is released, and the source sends Ready; a return transition brings ICON to 1 A (R413). -/
def Hub.transEnd (h : Hub) (n : Nat) : Hub :=
  match (h.pp n).trans with
  | none => h
  | some t =>
    h.when (t.settled h.now) (fun h =>
      let h := (h.dropTrans n).setPp n { (h.dropTrans n).pp n with winAt := some (h.now + 200000), owt := 0 }
      let h := (h.set F.PORT_CCCON_TRANS 0 n).dschShow n
      if t.ret then (h.set F.PORT_CCCON_TICUR 0 n).setIcon n 2
      else
        let c := h.cc n
        h.ccQueue n ⟨kReady, [2 ^ 29 * c.tv + 2 ^ 25 * c.ti]⟩)

def execTransitionEnd (n : PortId) (s : State) : Host.Outcome State Fault Refusal := run (fun h => h.transEnd n) s

/-- TRANSITION_SETTLE_TIMEOUT (R406): 200,000 ticks after VSET reached its target. -/
def Hub.transTmo (h : Hub) (n : Nat) : Hub :=
  match (h.pp n).trans with
  | none => h
  | some t =>
    h.when (t.reached.any (fun r => decide (r + 200000 ≤ h.now)) ∧ t.settled h.now = false) (fun h => h.trip n 4 0)

def execTransitionSettleTimeout (n : PortId) (s : State) : Host.Outcome State Fault Refusal := run (fun h => h.transTmo n) s

/-! ## Sink ports (R408) -/

/-- SINK_FET_ON (R408): SRC, and VOS at or above 10.8 V, for 200,000 ticks. -/
def Hub.fetOn (h : Hub) (n : Nat) : Hub :=
  h.when (h.blockOn rowPower n ∧ h.isSink n ∧ ¬ (h.pp n).gate ∧ h.flag F.PORT_CCSTAT_SRC n ∧ ¬ h.flag F.PORT_PPTRIP_LATCH n ∧
      (h.cc n).attAt + 200000 ≤ h.now ∧ (h.pp n).hiAt.any (fun t => decide (t + 200000 ≤ h.now))) (fun h =>
    ((((h.driveGate n 1).dschShow n).setIcon n 2).ccRest n).ccNext n)

def execSinkFetOn (n : PortId) (s : State) : Host.Outcome State Fault Refusal := run (fun h => h.fetOn n) s

/-- SINK_FET_OFF (R408): VOS below 8 V for 200,000 ticks. -/
def Hub.fetOff (h : Hub) (n : Nat) : Hub :=
  h.when (h.isSink n ∧ (h.pp n).gate ∧ (h.pp n).loAt.any (fun t => decide (t + 200000 ≤ h.now))) (fun h => h.sinkOff n 4 false)

def execSinkFetOff (n : PortId) (s : State) : Host.Outcome State Fault Refusal := run (fun h => h.fetOff n) s

end Sys2Proof.Machine
end

