-- ==== Sys2Proof/Machine/Raster.lean ====
section
/-! DEFINITION. The meanings of the raster commands: pipes, frames, lines, flips, layers and latency tolerance
(spec/12_raster_engine.md). -/

namespace Sys2Proof.Machine

/-! ## Enable and disable (R313, R336) -/

/-- A path may write a pipe's registers: S0, or the slice that owns it (Table 10-2). -/
def Hub.pipeRight (h : Hub) (p : Path) (d : Nat) : Bool := h.pathSlice p == 0 || h.pathSlice p == h.pipeOwner d

/-- PIPE_ENABLE (R313): a write of RAS_CTL with EN = 1. -/
def Hub.pipeEnable (h : Hub) (p : Path) (d : Nat) (v : Word) : Hub :=
  h.when (v.bits 31 1 = 1 ∧ h.pipeRight p d) (fun h => h.rasCtl d v)

def execPipeEnable (p : Path) (d : PipeId) (v : Word) (s : State) : Host.Outcome State Fault Refusal :=
  runW (fun _ h => h.pipeEnable p d v) s

/-- PIPE_DISABLE (R336): a write of RAS_CTL with EN = 0. -/
def Hub.pipeDisable (h : Hub) (p : Path) (d : Nat) (v : Word) : Hub :=
  h.when (v.bits 31 1 = 0 ∧ h.pipeRight p d) (fun h => h.rasCtl d v)

def execPipeDisable (p : Path) (d : PipeId) (v : Word) (s : State) : Host.Outcome State Fault Refusal :=
  runW (fun _ h => h.pipeDisable p d v) s

/-! ## Layers -/

/-- Width of a layer in pixels, and the lines of it that are shown: overlays are clipped to the active area (R316). -/
def Hub.layerW (h : Hub) (d l : Nat) (y : RLayer) : Nat := if l = 0 then h.hact d else y.w
def Hub.layerRows (h : Hub) (d l : Nat) (y : RLayer) : Nat :=
  if l = 0 then h.vact d else if y.w = 0 then 0 else min y.h (h.vact d - y.y)

/-- Bytes of one line of a layer (R330). -/
def Hub.lineBytes (h : Hub) (d l : Nat) (y : RLayer) : Nat := h.layerW d l y * fmtB (h.get F.RAS_LCFG_MFMT d l)

/-- Bytes of a layer in its share, with those on their way. -/
def Hub.layerFill (h : Hub) (d l : Nat) (y : RLayer) : Nat := (y.lines.length + y.coming.length) * h.lineBytes d l y

/-- LAYER_LINE_FETCH (R330): the next line, where the share has room for all of it; requests of at most 4,096 bytes within
their pages, under the owner's PASID. -/
def Hub.lineFetch (h : Hub) (d l : Nat) : Hub :=
  let x := h.pipe d
  let y := x.layer l
  let n := h.lineBytes d l y
  let s := h.pipeOwner d
  h.when (h.pState d ≠ pIDLE ∧ y.on ∧ ¬ y.under ∧ y.req < h.layerRows d l y ∧
      h.layerFill d l y + n ≤ 4096 * h.get F.RAS_LCFG_SHARE d l ∧ h.bound s) (fun h =>
    let h := h.setPipe d (x.setLayer l { y with req := y.req + 1, coming := y.coming ++ [(y.req, [])] })
    h.hostRead (.line d l) (h.pasid s) (y.addr + y.req * y.pitch) n)

def execLayerLineFetch (d : PipeId) (l : Fin 4) (s : State) : Host.Outcome State Fault Refusal := run (fun h => h.lineFetch d l) s

/-- LAYER_DATA_ARRIVAL (R330, R331): bytes of the oldest line on its way, or the failure of its read. -/
def Hub.layerData (h : Hub) (d l : Nat) (ok : Bool) (bytes : Bytes) : Hub :=
  match h.oldestRead (ofLine d l) with
  | none => h
  | some q =>
    if ¬ ok then
      let h := (h.fetchEnd q.fetch).emit .aer
      if q.dead then h else h.underrun d l (h.composing d).2
    else h.when (bytes.length ≤ h.fetchDue q.fetch) (fun h =>
      let h := h.fetchTake q.fetch bytes.length
      let x := h.pipe d
      let y := x.layer l
      match y.coming with
      | [] => h
      | (i, b) :: rest =>
        let b := b ++ bytes
        if q.dead then h
        else if h.lineBytes d l y ≤ b.length then h.setPipe d (x.setLayer l { y with coming := rest, lines := y.lines ++ [(i, b)] })
        else h.setPipe d (x.setLayer l { y with coming := (i, b) :: rest }))

def execLayerDataArrival (d : PipeId) (l : Fin 4) (ok : Bool) (bytes : List (BitVec 8)) (s : State) :
    Host.Outcome State Fault Refusal := run (fun h => h.layerData d l ok bytes) s

/-! ## Composition (R315, R316) -/

/-- A component of `b` bits widened to 10 by repeating its bits from the most significant (R315). -/
def widen (b v : Nat) : Nat :=
  let r := v * 2 ^ b + v
  let r4 := r * 2 ^ (2 * b) + r
  -- four copies: 4b bits, of which the top 10 are wanted; five copies for b = 2
  if b = 10 then v else if b = 2 then v * 341 else r4 / 2 ^ (4 * b - 10)

/-- A pixel in 10-bit components. -/
structure Pix where
  r : Nat
  g : Nat
  b : Nat
deriving DecidableEq, Repr

/-- A pixel read from a layer's memory word, with its alpha (Table 12-1). -/
def pixOf (m w : Nat) : Pix × Nat :=
  let f (lo n : Nat) : Nat := widen n (w / 2 ^ lo % 2 ^ n)
  match m with
  | 0 => (⟨f 16 8, f 8 8, f 0 8⟩, 1023)
  | 1 => (⟨f 16 8, f 8 8, f 0 8⟩, f 24 8)
  | 2 => (⟨f 20 10, f 10 10, f 0 10⟩, f 30 2)
  | _ => (⟨f 11 5, f 5 6, f 0 5⟩, 1023)

/-- `x / 1023` rounded to the nearest. -/
def div1023 (x : Nat) : Nat := (2 * x + 1023) / 2046

/-- The alpha of a pixel under AMODE (R316). -/
def alphaOf (amode ap ag : Nat) : Nat :=
  match amode with
  | 0 => 1023
  | 1 => ap
  | 2 => ag
  | _ => div1023 (ap * ag)

/-- A source pixel over another. -/
def blend (a : Nat) (s t : Pix) : Pix :=
  let m (x y : Nat) : Nat := div1023 (a * x + (1023 - a) * y)
  ⟨m s.r t.r, m s.g t.g, m s.b t.b⟩

/-- Pixel `i` of a layer line. -/
def pixAt (m : Nat) (line : Bytes) (i : Nat) : Pix × Nat := pixOf m (leNat (sub line (i * fmtB m) (fmtB m)))

/-- Overlays 1 to 3 over a pixel at column `x` of line `l`. `rows` holds, by layer, the line's bytes where the layer is shown. -/
def Hub.overlay (h : Hub) (d x : Nat) (rows : List (Nat × RLayer × Bytes)) (dst : Pix) : Pix :=
  rows.foldl (fun t r =>
    let l := r.1
    let y := r.2.1
    if y.x ≤ x ∧ x < y.x + y.w then
      let p := pixAt (h.get F.RAS_LCFG_MFMT d l) r.2.2 (x - y.x)
      blend (alphaOf y.amode p.2 (widen 8 y.galpha)) p.1 t
    else t) dst

/-- A composed pixel in the wire format's components, most significant first. -/
def outPix (fmt : Nat) (p : Pix) : List (Nat × Nat) :=
  let c := fmtComp fmt
  let o (b v : Nat) : Nat × Nat := (b, (v * (2 ^ b - 1) + 511) / 1023)
  [o c.1 p.r, o c.2.1 p.g, o c.2.2 p.b]

/-- Pixels packed as one bit stream, filled with zero bits to a byte (R324). -/
def packPix (fmt : Nat) (l : List Pix) : Bytes :=
  let bits := l.length * fmtBpp fmt
  let n := ceilDiv bits 8
  beBytes n (pack (l.flatMap (outPix fmt)) * 2 ^ (8 * n - bits))

/-- The row of layer `l` that line `line` of the picture shows. -/
def rowOf (l line : Nat) (y : RLayer) : Option Nat :=
  if l = 0 then some line else if y.w ≠ 0 ∧ y.y ≤ line ∧ line < y.y + y.h then some (line - y.y) else none

/-- Layers that line `line` needs: on, not underrun, and crossing it. -/
def Hub.needed (h : Hub) (d line : Nat) : List Nat :=
  layers.filter (fun l => let y := (h.pipe d).layer l; y.on && !y.under && (rowOf l line y).isSome)

/-- A layer's line in the buffer. -/
def RLayer.have_ (y : RLayer) (row : Nat) : Option Bytes := (y.lines.find? (fun p => p.1 = row)).map (·.2)

/-- Layers whose line is not in the buffer underrun (R331). -/
def Hub.lineCheck (h : Hub) (d line : Nat) : Hub :=
  h.each (h.needed d line) (fun l g =>
    let y := (g.pipe d).layer l
    match (rowOf l line y).bind (fun r => y.have_ r) with
    | some _ => g
    | none => g.underrun d l line)

/-- The composed line (R316). -/
def Hub.compose (h : Hub) (d line : Nat) : List Pix :=
  let x := h.pipe d
  let rows := (h.needed d line).filterMap (fun l =>
    let y := x.layer l
    (rowOf l line y).bind (fun r => (y.have_ r).map (fun b => (l, y, b))))
  let bg : Pix := ⟨h.get F.RAS_BG_R d, h.get F.RAS_BG_G d, h.get F.RAS_BG_B d⟩
  let base := rows.find? (fun r => r.1 = 0)
  let lit := rows.filter (fun r => r.1 ≠ 0)
  (List.range (h.hact d)).map (fun i =>
    let dst := match base with
      | some r => (pixAt (h.get F.RAS_LCFG_MFMT d 0) r.2.2 i).1
      | none => bg
    h.overlay d i lit dst)

/-! ## Line release (R318, R324 to R326, R332, R333) -/

/-- The segment header (Table 5-6) and the packed pixels. -/
def Hub.segment (h : Hub) (d line x0 : Nat) (px : List Pix) (lend : Bool) : Bytes :=
  let fmt := h.get F.RAS_OUT_FMT d
  beBytes 16 (pack [(4, 0), (1, b2n (line == 0 && x0 == 0)), (1, b2n (lend && line + 1 == h.vact d)), (1, b2n lend), (1, 0), (3, d),
    (5, fmt), (16, h.get F.RAS_STAT_FRAME d), (4, 0), (12, line), (4, 0), (12, x0), (16, px.length), (16, 0),
    (32, (h.pipe d).fridge)]) ++ packPix fmt px

/-- A line cut into segments of SEGMAX pixels (R325). -/
def Hub.segments (h : Hub) (d line : Nat) : Nat → Nat → List Pix → List Bytes
  | 0, _, _ => []
  | k + 1, x0, px =>
    let n := max 1 (h.get F.RAS_OUT_SEGMAX d)
    if px.length ≤ n then [h.segment d line x0 px true]
    else h.segment d line x0 (px.take n) false :: h.segments d line k (x0 + n) (px.drop n)

/-- A latched CRC rectangle takes its part of a line; at its last line the result is written and compared (R332, R333). -/
def Hub.rectLine (h : Hub) (d r line : Nat) (px : List Pix) : Hub :=
  let x := h.pipe d
  let q := Tab.get {} x.rects r
  let en := q.pos.bits 31 1
  let x0 := q.pos.bits 0 13
  let y0 := q.pos.bits 16 13
  let w := q.size.bits 0 13
  let hh := q.size.bits 16 13
  if en = 0 ∨ w = 0 ∨ hh = 0 ∨ h.hact d < x0 + w ∨ h.vact d < y0 + hh ∨ line < y0 ∨ y0 + hh ≤ line then h
  else
    let c := crcBytes 32 0x04C11DB7 (if line = y0 then 0xFFFFFFFF else q.crc)
      (packPix (h.get F.RAS_OUT_FMT d) ((px.drop x0).take w))
    let h := h.setPipe d { x with rects := Tab.set {} x.rects r { q with crc := c } }
    if line + 1 ≠ y0 + hh then h
    else
      let res := c ^^^ 0xFFFFFFFF
      let h := h.set F.RAS_CRCRES_RES res d r
      if q.pos.bits 30 1 = 1 ∧ res ≠ q.exp then
        (h.rasFlag d F.RAS_EVT_CRCMIS (2 ^ r) 1).rec2 (h.pipeProd d) 8 0x02 (srcPipe d)
          (2 ^ 23 * b2n x.undr + 2 ^ 16 * r + h.get F.RAS_STAT_FRAME d) res
      else h

/-- After a line is released its data leaves the shares; the least fill is kept while lines remain to be fetched (R334). -/
def Hub.lineUsed (h : Hub) (d line : Nat) : Hub :=
  h.each layers (fun l g =>
    let x := g.pipe d
    let y := x.layer l
    let y := match rowOf l line y with
      | some r => { y with lines := y.lines.filter (fun p => p.1 ≠ r) }
      | none => y
    let fill := y.lines.length * g.lineBytes d l y
    let y := if y.on ∧ ¬ y.under ∧ y.req < g.layerRows d l y then
        { y with fmin := some (match y.fmin with | some m => min m fill | none => fill) }
      else y
    g.setPipe d (x.setLayer l y))

/-- LINE_RELEASE (R318): the next active line, at its release tick; segments of the line before that still wait are dropped
(R326). The composition of the line after begins, and needs its data (Table 12-4). -/
def Hub.lineRelease (h : Hub) (d : Nat) : Hub :=
  let x := h.pipe d
  let line := x.line
  h.when (h.pState d = pRUN ∧ line < h.vact d ∧ ¬ x.latched ∧ h.lineTick d line ≤ h.now) (fun h =>
    let h := (h.dropSegs d).lineCheck d line
    let px := h.compose d line
    let h := (h.set F.RAS_STAT_LINE line d).setPipe d { h.pipe d with line := line + 1, segs := h.segments d line px.length 0 px }
    let h := (h.each (List.range 8) (fun r g => g.rectLine d r line px)).lineUsed d line
    if line + 1 < h.vact d then h.lineCheck d (line + 1) else h)

def execLineRelease (d : PipeId) (s : State) : Host.Outcome State Fault Refusal := run (fun h => h.lineRelease d) s

/-! ## Latch (R328, R329) -/

/-- The RUN flip ring of a pipe (R267). -/
def Hub.flipRing (h : Hub) (d : Nat) : Option Nat :=
  h.liveRings.find? (fun r => h.rState r == rRUN && h.rKind r == kFLIP && h.get F.RCTX0_BIND r == d)

/-- A taken flip falls due at the frame with count `n`: untargeted, or its target is `n` or has passed. -/
def flipDue (n : Nat) (q : Desc) : Bool :=
  q.stage == .ready && (q.f 0 14 1 == 0 || decide ((n + 65536 - q.f 4 16 16) % 65536 < 32768))

/-- The base, pitch and state that a flip gives its layer. -/
def Hub.flipLayer (h : Hub) (d : Nat) (q : Desc) : Hub :=
  let x := h.pipe d
  let l := q.f 0 16 2
  let y := x.layer l
  let y := { y with kept := some (y.kept.getD (y.on, y.addr, y.pitch)) }
  h.setPipe d (x.setLayer l (if q.f 0 15 1 = 1 then { y with on := true, addr := q.addr, pitch := q.f 1 0 16 }
                             else { y with on := false }))

/-- Flips due are latched: of those for one layer the last in slot order applies (R267). Flips start in slot order, so that one
waiting for its FRAME keeps those behind it waiting (R272; log entry 68). -/
def Hub.latchFlips (h : Hub) (d : Nat) : Hub :=
  match h.flipRing d with
  | none => h
  | some r =>
    let n := h.nextFrame d
    let due := (((h.ring r).descs.filter (fun q => q.stage != .done)).takeWhile (flipDue n))
    let last (q : Desc) : Bool := !((due.dropWhile (fun z => z.slot != q.slot)).drop 1).any (fun z => z.f 0 16 2 == q.f 0 16 2)
    let h := due.foldl (fun g q => g.modDesc r q.slot (fun z => { z with stage := .offered })) h
    let h := (due.filter last).foldl (fun g q => g.flipLayer d q) h
    h.setPipe d { h.pipe d with due := (h.pipe d).due ++ due.map (fun q => (r, q.slot, !last q)) }

/-- Latched registers of a layer are taken, and its fetch starts afresh (R329 to R331). -/
def Hub.latchLayer (h : Hub) (d l : Nat) : Hub :=
  let h := h.dropReads (ofLine d l)
  let x := h.pipe d
  let y := x.layer l
  h.setPipe d (x.setLayer l { y with
    amode := h.get F.RAS_LCFG_AMODE d l, galpha := h.get F.RAS_LCFG_GALPHA d l,
    x := h.get F.RAS_LPOS_X d l, y := h.get F.RAS_LPOS_Y d l, w := h.get F.RAS_LSIZE_W d l, h := h.get F.RAS_LSIZE_H d l,
    under := false, req := 0, coming := [], lines := [] })

/-- A CRC rectangle's registers are taken. -/
def Hub.latchRect (h : Hub) (d r : Nat) : Hub :=
  let x := h.pipe d
  let q : RRect :=
    { pos := h.reg (F.RAS_CRCPOS_EN.addr d r), size := h.reg (F.RAS_CRCSIZE_W.addr d r), exp := h.get F.RAS_CRCEXP_EXP d r }
  h.setPipe d { x with rects := Tab.set {} x.rects r q }

/-- TOL of the frame just ended (R334): none where no layer had lines to fetch, which leaves nothing to be late. -/
def Hub.tolerance (h : Hub) (d : Nat) : Option Nat :=
  let x := h.pipe d
  let ts := layers.filterMap (fun l =>
    let y := x.layer l
    let n := h.lineBytes d l y
    if n = 0 then none else y.fmin.map (fun m => m * x.fper / (65536 * max 1 (h.vtot d) * n)))
  match ts with
  | [] => none
  | t :: r => some (r.foldl min t - h.get F.RAS_LTR_LTRGUARD d)

/-- LATCH_TICK (R328): F + floor(VACT × LPER), once every active line is released; before the first frame, once after the
enable. The tolerance of the frame that has been composed is worked out from its fills, and shown at the frame start. -/
def Hub.latchTick (h : Hub) (d : Nat) : Hub :=
  let x := h.pipe d
  let prep := h.pState d == pPREP
  h.when (h.pState d ≠ pIDLE ∧ x.latched = false ∧ (prep = true ∨ (x.line = h.vact d ∧ h.lineTick d (h.vact d) ≤ h.now))) (fun h =>
    let h := h.dropSegs d
    let tol := if prep then 0 else min ((h.tolerance d).getD 0xFFFFFF) 0xFFFFFF
    let y := h.pipe d
    let h := h.setPipe d { y with tol := tol, layers := y.layers.map (fun p => (p.1, ({ p.2 with fmin := none } : RLayer))) }
    let h := (h.latchFlips d).each layers (fun l g => g.latchLayer d l)
    let h := h.each (List.range 8) (fun r g => g.latchRect d r)
    h.setPipe d { h.pipe d with latched := true })

def execLatchTick (d : PipeId) (s : State) : Host.Outcome State Fault Refusal := run (fun h => h.latchTick d) s

/-! ## Frame starts (R319 to R323) -/

/-- The timing registers take effect at a frame start, and time the frame that follows (R321). -/
def Hub.adoptTiming (h : Hub) (d : Nat) (rebase : Bool) : Hub :=
  let x := h.pipe d
  let lock := h.get F.RAS_CTL_LOCK d
  let base := h.get64 F.RAS_BASE_LO_BASE_LO F.RAS_BASE_HI_BASE_HI d
  let fper := max 1 (h.fperReg d)
  let same := lock = x.lock ∧ fper = x.fper ∧ (lock = 2 → base = x.base)
  let y := { x with lock := lock, base := base, fper := fper, wrote := none }
  if lock = 2 then
    let from_ := if x.lock = 2 then x.fridge + 1 else (x.wrote.getD x.fridge) + ceilDiv (2 * fper) 65536
    h.setPipe d { y with k := if same then x.k + 1 else ceilDiv ((max from_ (x.fridge + 1) - base) * 65536) fper }
  else if lock = 0 then h.setPipe d (if same ∧ ¬ rebase then { y with k := x.k + 1 } else { y with f0 := x.ftick, k := 1 })
  else h.setPipe d { y with at_ := if x.lost then some (x.ftick + fper / 65536) else none }

/-- Flips latched for this frame complete with its count and time (R267, R328). -/
def Hub.finishFlips (h : Hub) (d : Nat) : Hub :=
  let x := h.pipe d
  let fr := h.get F.RAS_STAT_FRAME d
  let h := h.setPipe d { x with due := [] }
  x.due.foldl (fun g p => g.finDesc p.1 p.2.1 (if p.2.2 then cSUPERSEDED else cOK) (2 ^ 16 * fr) (x.fridge % 2 ^ 32)) h

/-- The registers show the layers of the present frame (Tables 12-17, 12-19). -/
def Hub.showLayers (h : Hub) (d : Nat) : Hub :=
  h.each layers (fun l g =>
    let y := (g.pipe d).layer l
    let g := g.set F.RAS_LCFG_ON (b2n y.on) d l
    let g := (g.set F.RAS_LADDR_LO_ADDR (y.addr % 2 ^ 32) d l).set F.RAS_LADDR_HI_ADDR (y.addr / 2 ^ 32) d l
    g.set F.RAS_LPITCH_PITCH y.pitch d l)

/-- A frame starts at tick `t` (R318 to R322). -/
def Hub.beginFrame (h : Hub) (d t : Nat) (rebase : Bool) : Hub :=
  let n := h.nextFrame d
  let x := h.pipe d
  let squashed := match x.allOff with
    | some t => decide (t < h.now)
    | none => false
  let off (y : RLayer) : RLayer := if squashed then { y with on := false, kept := none } else { y with kept := none }
  let x := { x with layers := x.layers.map (fun p => (p.1, off p.2)), allOff := if squashed then none else x.allOff, ftick := t,
                    fridge := h.ridge - (h.now - t), first := false, latched := false, te := none, line := 0, undr := false }
  let h := (((h.setPipe d x).set F.RAS_CTL_STATE pRUN d).set F.RAS_STAT_FRAME n d).set F.RAS_TOL_TOL x.tol d
  let h := ((h.finishFlips d).showLayers d).adoptTiming d rebase
  if h.flag F.RAS_CTL_FPULSE d then
    (h.emit (.pin .syncOut true)).setPipe d { h.pipe d with pulseEnd := some (h.now + h.get F.RAS_CTL_FPW d) }
  else h

/-- The tick, or for ridge-time lock the ridge time, at which the next frame starts by its lock source (R319, R320). -/
def Hub.nextStart (h : Hub) (d : Nat) : Option Nat :=
  let x := h.pipe d
  if x.lock = 2 then some (x.base + x.k * x.fper / 65536)
  else if x.lock = 1 then x.at_
  else some (x.f0 + x.k * x.fper / 65536)

/-- The frame start by the lock source is due, TE gating apart. -/
def Hub.startDue (h : Hub) (d : Nat) : Bool :=
  match h.nextStart d with
  | some t => if (h.pipe d).lock = 2 then decide (t ≤ h.ridge) else decide (t ≤ h.now)
  | none => false

/-- TE gating is in effect (R323); the first frame has no TE to wait for. -/
def Hub.gated (h : Hub) (d : Nat) : Bool := h.flag F.RAS_CTL_TEGATE d && (h.pipe d).lock == 0 && !(h.pipe d).first

/-- FRAME_START (R319, R320, R323). -/
def Hub.frameStart (h : Hub) (d : Nat) : Hub :=
  let x := h.pipe d
  h.when (h.pState d ≠ pIDLE ∧ x.latched = true ∧ h.startDue d ∧ (h.gated d → x.te.isSome)) (fun h =>
    h.beginFrame d (if x.lock = 1 then x.at_.getD h.now else h.now) (h.gated d))

def execFrameStart (d : PipeId) (s : State) : Host.Outcome State Fault Refusal := run (fun h => h.frameStart d) s

/-- A SYNC_IN edge at one pipe (R320). -/
def Hub.syncEdge1 (h : Hub) (d : Nat) : Hub :=
  let x := h.pipe d
  if h.pState d = pIDLE ∨ x.lock ≠ 1 then h
  else if x.first then
    if x.enAt + 100000 ≤ h.now ∧ x.at_.isNone then h.setPipe d { x with at_ := some (h.now + h.get F.RAS_SYNC_SYNCDLY d) } else h
  else if x.latched ∧ (x.at_.isNone ∨ x.lost) then
    h.setPipe d { x with at_ := some (h.now + h.get F.RAS_SYNC_SYNCDLY d), lost := false }
  else h.bump F.RAS_CNT1_SYNCIGN d

/-- SYNC_IN_EDGE (R320): a rising edge sampled while the raster engine owns the pin. -/
def Hub.syncEdge (h : Hub) : Hub := h.when (h.owner resSyncIn = ownRaster) (fun h => h.each (List.range 8) (fun d g => g.syncEdge1 d))

def execSyncInEdge (s : State) : Host.Outcome State Fault Refusal := run Hub.syncEdge s

/-- SYNCLOST_DEADLINE (R320): no edge by F + floor(1.25 × FPER); the frame counts as started at F + floor(FPER). -/
def Hub.syncLost (h : Hub) (d : Nat) : Hub :=
  let x := h.pipe d
  h.when (h.pState d = pRUN ∧ x.lock = 1 ∧ x.latched = true ∧ x.at_ = none ∧ x.lost = false ∧
      x.ftick + 5 * x.fper / (4 * 65536) ≤ h.now) (fun h =>
    let h := (h.rasFlag d F.RAS_EVT_SYNCLOST 1 2).bump F.RAS_CNT1_SYNCLOST d
    let h := h.setPipe d { h.pipe d with lost := true }
    h.beginFrame d (x.ftick + x.fper / 65536) false)

def execSynclostDeadline (d : PipeId) (s : State) : Host.Outcome State Fault Refusal := run (fun h => h.syncLost d) s

/-- A TE counts after the latch tick of the next frame; the first is kept (R323). -/
def Hub.countTe (h : Hub) (d : Nat) : Hub :=
  let x := h.pipe d
  if h.gated d ∧ x.latched ∧ x.te.isNone then h.setPipe d { x with te := some h.now } else h

/-- TE_ARRIVAL (R323): a tearing effect on GPIO TEGPIO. -/
def Hub.teArrival (h : Hub) (d : Nat) : Hub :=
  h.when (h.flag F.RAS_CTL_TESRC d ∧ h.owner (resGpio (h.get F.RAS_CTL_TEGPIO d)) = ownPipe d) (fun h => h.countTe d)

def execTeArrival (d : PipeId) (s : State) : Host.Outcome State Fault Refusal := run (fun h => h.teArrival d) s

/-- TE_TIMEOUT (R323). -/
def Hub.teTimeout (h : Hub) (d : Nat) : Hub :=
  let x := h.pipe d
  h.when (h.pState d = pRUN ∧ h.gated d ∧ x.latched = true ∧ x.te = none ∧
      x.f0 + x.k * x.fper / 65536 + h.get F.RAS_SYNC_TETMO d * 100 ≤ h.now) (fun h =>
    ((h.rasFlag d F.RAS_EVT_TEMISS 1 3).bump F.RAS_CNT1_TEMISS d).beginFrame d h.now true)

def execTeTimeout (d : PipeId) (s : State) : Host.Outcome State Fault Refusal := run (fun h => h.teTimeout d) s

/-- FRAME_PULSE_END (R322). -/
def Hub.pulseEnd (h : Hub) (d : Nat) : Hub :=
  let x := h.pipe d
  h.when (h.due x.pulseEnd) (fun h => (h.emit (.pin .syncOut false)).setPipe d { x with pulseEnd := none })

def execFramePulseEnd (d : PipeId) (s : State) : Host.Outcome State Fault Refusal := run (fun h => h.pulseEnd d) s

/-! ## Back-channel (R327) -/

/-- What a back-channel event does at its pipe (Table 12-3). -/
def Hub.backEvent (h : Hub) (d : Nat) (f : Frm) : Hub :=
  let fr := f.at_ 2 2
  match f.at_ 8 2 with
  | 1 => if h.flag F.RAS_CTL_TESRC d then h else h.countTe d
  | 2 => h.rec2 (h.pipeProd d) 8 0x03 (srcPipe d) fr (f.at_ 12 4)
  | 3 => (h.rasFlag d F.RAS_EVT_BRUNDER 1 5).rec2 (h.pipeProd d) 8 0x04 (srcPipe d) (f.at_ 4 2 % 4096) fr
  | 4 => (h.rasFlag d F.RAS_EVT_PANELERR 1 5).rec1 (h.pipeProd d) 8 0x05 (srcPipe d) fr
  | _ => h.bump F.RAS_CNT1_BCUNK d

/-- BACK_CHANNEL_EVENT (R327): the oldest raster frame delivered; one that is no event is discarded. -/
def Hub.backChannel (h : Hub) : Hub :=
  match h.takeMsg (fun f => f.hdr.type == 2) with
  | none => h
  | some (f, h) =>
    if f.at_ 0 1 / 16 ≠ 1 ∨ f.hdr.plen ≠ 16 then h.disc f.hdr.dtun
    else h.backEvent (h.get F.TUN_W2_FIDX f.hdr.dtun % 8) f

def execBackChannelEvent (s : State) : Host.Outcome State Fault Refusal := run Hub.backChannel s

/-! ## Latency tolerance (R334, R335) -/

/-- A pipe makes a demand: enabled, with a layer on. -/
def Hub.demands (h : Hub) (d : Nat) : Bool := h.flag F.RAS_CTL_EN d && layers.any (fun l => ((h.pipe d).layer l).on)

/-- V in ns: the least tolerance among the pipes that make a demand. -/
def Hub.ltrValue (h : Hub) : Option Nat :=
  (List.range 8).foldl (fun a d =>
    if h.demands d then
      let v := 5 * h.get F.RAS_TOL_TOL d
      match a with
      | some b => some (min b v)
      | none => some v
    else a) none

/-- The smallest scale from 0 to 5 that holds a value. -/
def ltrCode (v : Nat) : Nat × Nat :=
  match [0, 1, 2, 3, 4, 5].find? (fun s => v / 32 ^ s ≤ 1023) with
  | some s => (v / 32 ^ s, s)
  | none => (1023, 5)

/-- LTR_SEND (R335). -/
def Hub.ltrSend (h : Hub) : Hub :=
  let v := h.ltrValue
  let go := match h.ras.ltr, v with
    | none, some _ => true
    | none, none => false
    | some (none, _), some _ => true
    | some (some _, _), none => true
    | some (none, _), none => false
    | some (some a, t), some b => decide (b < a) || (decide (9 * a ≤ 8 * b) && decide (a < b) && decide (t + 200000 ≤ h.now))
  h.when (h.flag F.HIF_PCTL_LTREN ∧ go = true) (fun h =>
    let h := { h with ras := { h.ras with ltr := some (v.map (fun x => (ltrCode x).1 * 32 ^ (ltrCode x).2), h.now) } }
    match v with
    | some x => h.emit (.ltr (ltrCode x).1 (ltrCode x).2 true)
    | none => h.emit (.ltr 0 0 false))

def execLtrSend (s : State) : Host.Outcome State Fault Refusal := run Hub.ltrSend s

end Sys2Proof.Machine
end

