-- ==== Sys2Proof/Machine/Switch.lean ====
section
/-! DEFINITION. The meanings of the switch-core commands: route stage, admission, selection at an egress point, ageing,
flow cache and the buffer quotas (spec/07_switch_core.md, with Tables 5-2 and 5-11 of spec/05_tunnels.md). -/

namespace Sys2Proof.Machine

/-! ## Route stage (R129 to R134, R151, R206, R236) -/

/-- Endpoint checks at the terminating hub, in order (Table 5-11): the counter of the first that fails. -/
def Hub.endpointFail (h : Hub) (f : Frm) : Option Fld :=
  let t := f.hdr.dtun
  if t ≠ 0 ∧ (h.tunState t = tsClosed ∨ h.tunState t = tsDraining) then some F.FAB_TUNDISC1_NOEP
  else if t = 0 then (if f.hdr.type ≠ 0 ∨ f.hdr.p then some F.FAB_TUNDISC1_TYPEM else none)
  else if f.hdr.type ≠ h.get F.TUN_W0_TYPE t ∨ f.hdr.p ≠ h.flag F.TUN_W0_PROT t ∨
      (f.hdr.a = false ∧ h.flag F.TUN_W0_AUTH t) then some F.FAB_TUNDISC1_TYPEM
  else if ¬ h.flag F.TUN_W0_ANYSRC t ∧
      (f.hdr.shub ≠ h.get F.TUN_W1_DHUB t ∨ f.hdr.stun ≠ h.get F.TUN_W1_DTUN t) then some F.FAB_TUNDISC1_SRCM
  else none

/-- A frame that fails a check at the route stage: counted and discarded (R130). A protected packet of this hub is retained all the
same, for a later resend: its cells leave staging into the retention they are charged to (R155, R201). -/
def Hub.routeDrop (h : Hub) (i : Nat) (c : Fld) : Hub :=
  let h := h.bump c
  match h.frm i with
  | none => h
  | some f =>
    if f.retained then (h.note f false 0).setFrm i { f with phase := .accepted, ts := h.now, origin := .none }
    else h.dropStaged i

/-- A frame that fails an endpoint check: counted hub-wide and in the entry (R151). -/
def Hub.endpointDrop (h : Hub) (i t : Nat) (c : Fld) : Hub := ((h.bump c).disc t).dropStaged i

/-- Index of a destination in the flow cache (R206). -/
def fcIndex (dhub dtun : Nat) : Nat := (dhub ^^^ (dtun * 16)) % 2048

/-- The prediction of the flow cache for a header (R206). -/
def Hub.predict (h : Hub) (d : THdr) : Option FcEntry :=
  match Tab.get none h.core.fc (fcIndex d.dhub d.dtun) with
  | some e => if e.dhub = d.dhub ∧ e.dtun = d.dtun then some e else none
  | none => none

/-- A lookup that passed every check: the prediction is confirmed or withdrawn, and the entry overwritten (R206, R207). -/
def Hub.confirm (h : Hub) (d : THdr) (egress path : Nat) : Hub :=
  if ¬ h.flag F.CORE_CFG_RAEN ∨ d.b then h
  else
    let h := match h.predict d with
      | some e => if e.egress = egress then h.bump F.CORE_RAHIT_HIT else h.bump F.CORE_RACNT_MISS
      | none => h
    { h with core := { h.core with fc := Tab.set none h.core.fc (fcIndex d.dhub d.dtun)
                                     (some { dhub := d.dhub, dtun := d.dtun, egress := egress, path := path }) } }

/-- A frame built here from a metered entry is coloured, at the lowest egress point that it goes to (R219, R236 to R238);
answers whether it proceeds. -/
def Hub.meterFrame (h : Hub) (i e : Nat) : Hub × Bool :=
  match h.frm i with
  | none => (h, false)
  | some f =>
    match f.tun with
    | none => (h, true)
    | some t =>
      if ¬ h.flag F.TUN_W2_MTREN t then (h, true)
      else
        let m := h.get F.TUN_W2_MTR t
        let x := h.meter m
        let c := meterColour x f.precol (h.chargeLen e f.hdr.plen)
        let f := { f with metered := if x.en then some (m, c.1, h.chargeLen e f.hdr.plen) else none }
        let h := (h.setMeter m c.2).setFrm i f
        let yellow := h.setFrm i { f with yellow := x.yshift }
        if c.1 = 0 then (h, true)
        else if c.1 = 1 then
          let h := h.bump F.MTR_W3_YELLOW m
          (if f.hdr.p then h else (h.setFrm i { f with yellow := x.yshift }), true)
        else
          let h := h.bump F.MTR_W3_RED m
          if f.hdr.p then (h, true)
          else if x.ract then (yellow.bump F.MTR_W3_RED m, true)
          else (h.bump F.TRF_CNT1_METERDROP, false)

/-- What follows a successful lookup: the meter, then the wait for acceptance. -/
def Hub.toQueues (h : Hub) (i : Nat) (qs : List Nat) : Hub :=
  match h.meterFrame i (qs.foldl (fun a q => min a (q / 8)) 33) with
  | (h, true) => h.routed_ i qs
  | (h, false) => h.dropStaged i 5

/-- A frame that terminates here, after its endpoint checks: a protected packet goes to its entry's sequence (R156), one built here
past its meter (R236), any other to the queue of the function. -/
def Hub.terminate (h : Hub) (i : Nat) (f : Frm) : Hub :=
  let t := f.hdr.dtun
  match h.endpointFail f with
  | some c => h.endpointDrop i t c
  | none =>
    let e := h.sinkOf t
    let h := h.confirm f.hdr e 0
    if f.hdr.p then
      let h := (h.meterFrame i e).1
      match h.frm i with
      | some f => h.setFrm i { f with phase := .protected_ t }
      | none => h
    else h.toQueues i [e * 8 + f.hdr.cls]

/-- A broadcast frame where it is copied (R134): to each port over which a sub-range was delegated, and to the local
endpoint unless this hub sent it; each copy is checked. -/
def Hub.broadcast (h : Hub) (i : Nat) (f : Frm) : Hub :=
  let ps := ports.filter (fun n => h.flag F.FAB_PORTDLG_VALID n)
  let local_ := !(h.flag F.FAB_ID_VALID && f.hdr.shub == h.get F.FAB_ID_HUBID)
  let (h, lq) := if local_ then
      (match h.endpointFail f with
       | some c => ((h.bump c).disc f.hdr.dtun, [])
       | none => (h, [h.sinkOf f.hdr.dtun * 8 + f.hdr.cls]))
    else (h, [])
  let (h, pq) := if f.hdr.hops = 0 then (h.bump F.FAB_TUNDISC0_HOPS 0 ps.length, [])
                 else (h, ps.map (fun n => n * 8 + f.hdr.cls))
  let qs := pq ++ lq
  if qs = [] then h.dropStaged i else h.toQueues i qs

/-- A frame that leaves on a port: hop limit before route (Table 5-2); a protected packet at its ingress hub follows its
PATH (R176). -/
def Hub.transit (h : Hub) (i : Nat) (f : Frm) : Hub :=
  if f.hdr.hops = 0 then h.routeDrop i F.FAB_TUNDISC0_HOPS
  else
    let t := f.tun.getD 0
    let choice := if f.retained then (h.pathEgress t).map (fun e => (e, false)) else h.chooseEgress f.hdr.dhub
    match choice with
    | none => h.routeDrop i F.FAB_TUNDISC0_NOROUTE
    | some (e, fb) =>
      let h := if fb then h.bump F.FAB_ROUTECNT_FALLBACK else h
      (h.confirm f.hdr e (if f.retained then h.get F.TUN_W3_PATH t else 0)).toQueues i [e * 8 + f.hdr.cls]

/-- The lookup of a header and its checks (R129, R134, R151, R170, R176). -/
def Hub.lookup (h : Hub) (i : Nat) : Hub :=
  match h.frm i with
  | none => h
  | some f =>
    let d := f.hdr
    let me := h.flag F.FAB_ID_VALID && d.dhub == h.get F.FAB_ID_HUBID
    let linkLocal := decide (f.src < 32) && d.type == 0 && d.dtun == 0 && d.dhub == 0xFFFF && d.hops == 0
    -- the port over which this hub's own range was delegated to it
    let fromParent := decide (f.src < 32) && h.role f.src == 2 && !h.inMyRange d.dhub
    let h := if h.flag F.CORE_CFG_RAEN ∧ ¬ d.b ∧ (h.predict d).isNone then h.bump F.CORE_RACNT_NOPRED else h
    if d.hcrc ≠ crc16 d.crcInput then h.routeDrop i F.FAB_TUNDISC0_HCRC
    else if ¬ d.formOk f.len f.lcls then h.routeDrop i F.FAB_TUNDISC0_HDR
    else if linkLocal then h.terminate i f
    else if d.b then (if me || fromParent then h.broadcast i f else h.transit i f)
    else if me then h.terminate i f
    else h.transit i f

/-- Numbers of the frames of an ingress point that wait for the route stage, in order of arrival. -/
def Hub.arriving (h : Hub) (p : Nat) : List Nat :=
  h.core.frames.filterMap (fun x => match x.2 with
    | some f => if f.src = p ∧ f.phase = .arriving then some x.1 else none
    | none => none)

/-- ROUTE_STAGE: the oldest header of an ingress point whose route is not known. -/
def Hub.routeStage (h : Hub) (p : Nat) : Hub :=
  match (h.arriving p).head? with
  | some i => h.lookup i
  | none => h

def execRouteStage (p : EgressId) (s : State) : Host.Outcome State Fault Refusal := run (fun h => h.routeStage p) s

/-! ## Admission (R15, R197, R199, R200) -/

/-- The tunnel shaper's charge at the header commit (R234). -/
def Hub.chargeTunnel (h : Hub) (f : Frm) (qs : List Nat) : Hub :=
  match f.tun with
  | some t => if f.resend then h else h.shaperCharge t (h.chargeLen (qs.foldl (fun a q => min a (q / 8)) 33) f.hdr.plen)
  | none => h

/-- A header commits to the queues that accepted it (R199, R204); `wait` are those that did not, in LOSSLESS mode. The tunnel shaper
is charged once, for the lowest of all the egress points the frame goes to (R219, R234). -/
def Hub.commit (h : Hub) (i : Nat) (qs wait : List Nat) : Hub :=
  match h.frm i with
  | none => h
  | some f =>
    let rin := if f.src < 32 then h.rxRate f.src else 0
    let h := if f.retained then h else h.each qs (fun q g => g.occUp q f.n)
    let h := h.setFrm i { f with phase := .accepted, ts := h.now, rin := rin, routs := qs.map (fun q => (q, h.outRate (q / 8))),
                                 charged := if f.retained then [] else qs, waiting := wait, copies := [], expired := none }
    let h := h.each qs (fun q g => g.link_ i q)
    (h.chargeTunnel f (qs ++ wait)).note f true 0

/-- A queue whose copy waited accepts it (R199, R200). -/
def Hub.commitLate (h : Hub) (i q : Nat) : Hub :=
  match h.frm i with
  | none => h
  | some f =>
    let h := (h.occUp q f.n).setFrm i { f with waiting := f.waiting.erase q, charged := f.charged ++ [q],
                                               routs := f.routs ++ [(q, h.outRate (q / 8))] }
    let h := if f.waiting.erase q = [] ∧ f.left = f.n then h.setStage f.key ((h.stage f.key).erase i) else h
    h.link_ i q

/-- The threshold check of a header at each of its queues, and what follows a refusal (R199, R200, R201); a packet of an entry that is
STARTING is retained and linked nowhere (R154). Answers whether the header committed. -/
def Hub.check (h : Hub) (i : Nat) (qs : List Nat) : Hub × Bool :=
  match h.frm i with
  | none => (h, false)
  | some f =>
    if f.retained then (let g := h.commit i qs []; (if h.starting f then g.unlink i else g, true))
    else
      let ok := qs.filter (fun q => h.accepts q f.n f.yellow)
      let no := qs.filter (fun q => !h.accepts q f.n f.yellow)
      if h.flag F.CORE_CLSCFG_MODE f.hdr.cls then
        if ok = [] then (h, false) else (h.commit i ok no, true)
      else
        let h := h.bump F.CORE_DROPCNT0_THRESH 0 no.length
        if ok = [] then (h.dropStaged i 6, false) else (h.commit i ok [], true)

/-- One cell of an accepted frame passes from staging into the kennel (R203, R205). -/
def Hub.admitCell (h : Hub) (i : Nat) : Option Hub :=
  match h.frm i with
  | none => none
  | some f =>
    if f.here ≤ f.left then none
    else match h.allocCell with
      | none => none
      | some (c, h) =>
        let refs := f.copies.length + f.waiting.length + b2n f.retained
        let h := (h.setFrm i { f with cells := f.cells ++ [{ cell := c, refs := refs }] }).leave i 1
        let h := if f.left + 1 = f.n ∧ f.waiting = [] then h.setStage f.key ((h.stage f.key).erase i) else h
        some h

/-- The copies that still wait are discarded: the frame aged in staging (R211). -/
def Hub.dropWaiting (h : Hub) (i : Nat) : Hub :=
  match h.frm i with
  | none => h
  | some f => (h.bump F.CORE_DROPCNT0_AGED 0 f.waiting.length).dropWaits i

/-- The admission stage turns to the head of one class list: what it discards, commits and admits (R197). -/
def Hub.admitHead (h : Hub) (k : Nat) : Nat → Hub × Bool
  | 0 => (h, false)
  | fuel + 1 =>
    match (h.stage k).head? with
    | none => (h, false)
    | some i =>
      match h.frm i with
      | none => (h, false)
      | some f =>
        match f.phase with
        | .routed qs =>
          if h.agedStaged f then ((h.bump F.CORE_DROPCNT0_AGED).dropStaged i 7).admitHead k fuel
          else if f.here = 0 then (h, false)
          else match h.check i qs with
            | (h, true) => (match h.admitCell i with
              | some h => (h, true)
              | none => (h, false))
            | (h, false) => if (h.stage k).head? = some i then (h, false) else h.admitHead k fuel
        | .accepted =>
          let h := h.each f.waiting (fun q g => if g.accepts q f.n f.yellow then g.commitLate i q else g)
          let h := if h.agedStaged f then h.dropWaiting i else h
          if (h.stage k).head? ≠ some i then h.admitHead k fuel
          else match h.admitCell i with
            | some h => (h, true)
            | none => (h, false)
        | _ => (h, false)

/-- One turn of the admission stage at an ingress point: one cell from the highest class that has one (R197). -/
def Hub.admitPoint (h : Hub) (p : Nat) : List Nat → Hub × Bool
  | [] => (h, false)
  | c :: cs =>
    match h.admitHead (p * 8 + c) ((h.stage (p * 8 + c)).length + 1) with
    | (h, true) => (h, true)
    | (h, false) => h.admitPoint p cs

/-- The next ingress point, in round-robin order, that has a cell to admit (R15). -/
def Hub.admitNext (h : Hub) : List Nat → Hub × Bool
  | [] => (h, false)
  | p :: ps =>
    match h.admitPoint p [7, 6, 5, 4, 3, 2, 1, 0] with
    | (h, true) => ({ h with core := { h.core with rot := p } }, true)
    | (h, false) => h.admitNext ps

/-- Ingress points in rotating order after the one served last. -/
def pointsAfter (r : Nat) : List Nat := (List.range 34).map (fun i => (r + 1 + i) % 34)

/-- At most `k` cells admitted, one after the other. -/
def Hub.admitUpTo (h : Hub) : Nat → Hub
  | 0 => h
  | k + 1 =>
    match h.admitNext (pointsAfter h.core.rot) with
    | (h, true) => h.admitUpTo k
    | (h, false) => h

/-! ## Errors in cells that are read (R194, R195) -/

/-- A cell with a double-bit error is poisoned. -/
def Hub.poison (h : Hub) (c : Nat) : Hub :=
  { h with core := { h.core with frames := h.core.frames.map (fun x => (x.1, x.2.map (fun f =>
      { f with cells := f.cells.map (fun k => if k.cell = c then { k with poisoned := true } else k) }))) } }

/-- A row becomes a lasting fault by a double-bit error, or by singles more than 1,000 ticks apart within a second (R195). -/
def Hub.rowError (h : Hub) (k : Nat) (double : Bool) : Hub :=
  let r : RowSt := Tab.get {} h.core.rows k
  let es := r.errs.filter (fun t => h.now ≤ t + 200000000)
  let bad := double || es.any (fun t => t + 1000 < h.now)
  let r := { r with errs := h.now :: es, faulted := r.faulted || (bad && !r.retired) }
  { h with core := { h.core with rows := Tab.set {} h.core.rows k r } }

/-- One ECC error found on reading a cell (R194, R195); a double one writes FAULT UNCORR (R458). -/
def Hub.eccCell (h : Hub) (c : Nat) (double : Bool) : Hub :=
  let h := if double then ((h.bump F.CORE_ECCCNT_UNCORR).poison c).fault0 0x11 srcHub (rowKey c) else h.bump F.CORE_ECCCNT_CORR
  h.rowError (rowKey c) double

/-- The errors of `ecc`, each a cell and whether it is double, in the cells of `l` that are about to be read. -/
def Hub.eccRead (h : Hub) (l : List CellRef) (ecc : List (Nat × Bool)) : Hub :=
  (ecc.filter (fun x => l.any (fun c => c.cell = x.1))).foldl (fun g x => g.eccCell x.1 x.2) h

/-- The cells of a started frame that an egress point has not read yet. -/
def Hub.unread (h : Hub) (e : Nat) : List CellRef :=
  match h.tx e with
  | some t => if t.fin then [] else (match h.frm t.id with | some f => f.cells.drop t.read | none => [])
  | none => []

/-- The errors that an egress point finds in cells it reads on, in the tick they come (R194): free values (log entry 73). -/
def Hub.readErrors (h : Hub) (e : Nat) (l : List CellRef) : List (Nat × Bool) :=
  l.filterMap (fun c => (Config.cellError h.now e c.cell).map (fun d => (c.cell, d)))

/-- Every egress point sends on the cells that have come, with the errors found in them (R194, R208). -/
def Hub.pumpAll (h : Hub) : Hub :=
  h.each (h.core.tx.map (·.1)) (fun e g => (g.eccRead (g.unread e) (g.readErrors e (g.unread e))).pump e)

/-- ADMIT_CELLS: the admission of one tick, up to the ceiling for all that is admitted in it (R15, R215). Held packets that now find
room are delivered (R201). -/
def Hub.admitCells (h : Hub) : Hub :=
  if h.flag F.GLB_FATAL_VALID then h
  else (h.deliverAll.admitUpTo (h.get F.CORE_STAT_CEIL - h.written.length)).pumpAll

def execAdmitCells (s : State) : Host.Outcome State Fault Refusal := run (fun h => h.admitCells) s

/-! ## Selection at an egress point (R220 to R226) -/

/-- Head frame of a queue. -/
def Hub.head (h : Hub) (q : Nat) : Option (Nat × Frm) :=
  match (h.queue q).head? with
  | some i => (h.frm i).map (fun f => (i, f))
  | none => none

/-- Head of class `c` if it is eligible. -/
def Hub.eligibleHead (h : Hub) (e c : Nat) : Option (Nat × Frm) :=
  match h.head (e * 8 + c) with
  | some (i, f) => if h.eligible e c f then some (i, f) else none
  | none => none

/-- The class that strict priority picks. -/
def Hub.strictPick (h : Hub) (e : Nat) : Option Nat := [7, 6, 5, 4, 3, 2, 1, 0].find? (fun c => (h.eligibleHead e c).isSome)

/-- The promotion spacing of an egress point has elapsed (R224). -/
def Hub.spacingOk (h : Hub) (e : Nat) : Bool :=
  let sp := h.get F.TRF_URGSP_SPACING e
  sp != 0 && (match Tab.get none h.trf.promo e with
    | none => true
    | some t => decide (t + sp * 100 ≤ h.now))

/-- The class promoted from the urgency band: of the eligible, urgent heads below the pick that do not expire now, the one
enqueued first, ties to the lower class (R222, R223, R226). -/
def Hub.urgentPick (h : Hub) (e : Nat) (pick : Option Nat) : Option Nat :=
  let u := (List.range 8).filterMap (fun c =>
    if (match pick with | some p => decide (c < p) | none => true) then
      (match h.eligibleHead e c with
       | some (_, f) => if h.promotable c && h.urgent f && !h.expiring f then some (c, h.age f) else none
       | none => none)
    else none)
  u.foldl (fun best x => match best with
    | none => some x
    | some b => if b.2 < x.2 then some x else some b) none |>.map (·.1)

/-- The picked head starts and is charged to its queue shaper (R222, R235); `ecc` are the errors found in the cells it is read
from. -/
def Hub.startPick (h : Hub) (e c : Nat) (ecc : List (Nat × Bool)) : Hub :=
  match h.head (e * 8 + c) with
  | some (i, f) =>
    ((h.eccRead f.cells ecc).shaperCharge (4096 + e * 8 + c) (h.chargeLen e f.hdr.plen)).startFrame e (e * 8 + c) i
  | none => h

/-- The picked head is served from the urgency band: R set, counted, the spacing restarted (R132, R225). -/
def Hub.promote (h : Hub) (e c : Nat) : Hub :=
  match h.head (e * 8 + c) with
  | some (i, f) =>
    let h := (h.setFrm i { f with promoted := true }).bump F.TRF_CNT0_PROMOTED
    { h with trf := { h.trf with promo := Tab.set none h.trf.promo e (some h.now) } }
  | none => h

/-- The head is served by strict priority, or, if urgent lower ones may overtake it and it is not urgent itself, from the
urgency band (R222, R225). -/
def Hub.select (h : Hub) (e : Nat) (ecc : List (Nat × Bool)) : Hub :=
  let p := h.strictPick e
  let own := match p with
    | some c => (match h.eligibleHead e c with | some (_, f) => h.urgent f | none => false)
    | none => false
  match (if h.spacingOk e && !own then h.urgentPick e p else none), p with
  | some c, _ => (h.promote e c).startPick e c ecc
  | none, some c => h.startPick e c ecc
  | none, none => h

/-- A head at E32 whose receive ring lacks buffers is discarded when DROPNB is set (R266). -/
def Hub.dropNoBuf (h : Hub) (q : Nat) : Nat → Hub
  | 0 => h
  | k + 1 =>
    match h.head q with
    | some (i, f) =>
      let t := f.hdr.dtun
      (match (if h.get F.TUN_W2_FUNC t = 0 ∧ f.hdr.type ≠ 4 then h.ringFor t else none) with
      | some r =>
        if h.flag F.RCTX0_DROPNB r ∧ h.room r < f.hdr.plen then ((h.bump F.RCTX7_NOBUF r).dropCopy i q).dropNoBuf q k else h
      | none => h)
    | none => h

/-- EGRESS_SELECT (R222); `ecc` lists cells with an error and whether it is double. -/
def Hub.egressSelect (h : Hub) (e : Nat) (ecc : List (Nat × Bool)) : Hub :=
  h.when (h.egressFree e ∧ ¬ h.flag F.GLB_FATAL_VALID) (fun h =>
    let h := [7, 6, 5, 4, 3, 2, 1, 0].foldl (fun g c => g.dropHeads e c (g.queue (e * 8 + c)).length) h
    let h := if e = 32 then (List.range 8).foldl (fun g c => g.dropNoBuf (256 + c) (g.queue (256 + c)).length) h else h
    h.select e ecc)

def execEgressSelect (e : EgressId) (ecc : List (Nat × Bool)) (s : State) : Host.Outcome State Fault Refusal :=
  run (fun h => h.egressSelect e ecc) s

/-! ## Ageing (R211 to R214) -/

/-- Frames that wait: in a queue without having started, or as a header in staging (R213). -/
def Hub.waits (h : Hub) (i : Nat) (f : Frm) : Bool :=
  !f.retained && (match f.phase with
    | .routed _ => true
    | .accepted => f.waiting != [] || f.copies.any (fun q => !(h.startedIn i).contains q)
    | _ => false)

/-- LIFETIME_EXPIRY (R211, R216): every waiting frame whose age now exceeds its class lifetime is marked; it is discarded when
selected or swept in a later tick. -/
def Hub.lifetimeExpiry (h : Hub) : Hub :=
  { h with core := { h.core with frames := h.core.frames.map (fun x => (x.1, x.2.map (fun f =>
      let g : Frm := if f.phase = .accepted then f else { f with ts := f.arrived }
      match h.life f.hdr.cls with
      | some l => if h.waits x.1 f && f.expired.isNone && decide (l < h.age g) then { f with expired := some h.now } else f
      | none => f))) } }

def execLifetimeExpiry (s : State) : Host.Outcome State Fault Refusal := run Hub.lifetimeExpiry s

/-- The sweeper at the head of a queue: aged heads go, and heads for a port down beyond its hold time (R212, R214). -/
def Hub.sweepQueue (h : Hub) (q : Nat) : Nat → Hub
  | 0 => h
  | k + 1 =>
    match h.head q with
    | some (i, f) =>
      let e := q / 8
      if h.aged f then ((h.bump F.CORE_DROPCNT0_AGED).dropCopy i q).sweepQueue q k
      else if e < 32 ∧ h.get F.PORT_LKSTAT_STATE e = 0 ∧ ¬ h.inHold e then
        ((h.bump F.CORE_DROPCNT1_EGRDOWN).dropCopy i q).sweepQueue q k
      else h
    | none => h

/-- The sweeper at the head of a staging list (R211, R212). -/
def Hub.sweepStage (h : Hub) (k : Nat) : Nat → Hub
  | 0 => h
  | fuel + 1 =>
    match (h.stage k).head? with
    | some i =>
      (match h.frm i with
      | some f =>
        (match f.phase with
        | .routed _ =>
          if h.agedStaged f then ((h.bump F.CORE_DROPCNT0_AGED).dropStaged i 7).sweepStage k fuel else h
        | .accepted => if f.waiting ≠ [] ∧ h.agedStaged f then (h.dropWaiting i).sweepStage k fuel else h
        | _ => h)
      | none => h)
    | none => h

/-- SWEEPER_VISIT (R212). -/
def Hub.sweep (h : Hub) : Hub :=
  h.when (h.flag F.CORE_CFG_SWEEPEN) (fun h =>
    let h := h.each (h.core.queues.map (·.1)) (fun q g => g.sweepQueue q (g.queue q).length)
    h.each (h.core.staging.map (·.1)) (fun k g => g.sweepStage k (g.stage k).length))

def execSweeperVisit (s : State) : Host.Outcome State Fault Refusal := run Hub.sweep s

/-! ## Flow cache, quotas -/

/-- FLOW_CACHE_FLUSH (R207). -/
def Hub.flowFlush (h : Hub) : Hub := { h with core := { h.core with fc := [] } }

def execFlowCacheFlush (s : State) : Host.Outcome State Fault Refusal := runW (fun _ h => h.flowFlush) s

/-- The claimant code of a write on a path (R26). -/
def Hub.writer (h : Hub) (p : Path) : Nat :=
  match p with
  | .mgmt => ownFirmware
  | .own => ownFirmware
  | .pcie => ownSlice 0
  | .tunnel m => ownSlice (h.get F.FAB_RMGR_SLICE m)

/-- Reserved cells: all minimums and the quota (R29). -/
def Hub.cellsReserved (h : Hub) : Nat := h.sumMin + h.get F.CORE_RETQ_QUOTA

/-- The reserved cells stay within their bound once one quantity is `v` (R29). -/
def Hub.cellsFit (h : Hub) (f : Fld) (i v : Nat) : Bool := decide (h.cellsReserved - h.get f i + v ≤ 229376)

/-- A write of MIN or QUOTA (R29, R30): refused where the sum would exceed its bound, which leaves the quantity as it was at the start
of the tick. -/
def Hub.cellsClaim (h : Hub) (p : Path) (f : Fld) (i v : Nat) : Hub :=
  let h := (h.keepFirst (f.addr i 0)).unrefuse (fkey f i)
  if v ≤ h.get f i ∨ h.cellsFit f i v then (h.set f v i).pool
  else
    let s := h.firstOf f i
    (if h.cellsFit f i s then (h.set f s i).pool else h).refuseFor (fkey f i) resCells (h.writer p) 0

/-- MIN_WRITE (R29, R202). -/
def Hub.minWrite (h : Hub) (p : Path) (q v : Nat) : Hub := h.cellsClaim p F.CORE_QCFG_MIN q v

def execMinWrite (p : Path) (q : Fin 272) (v : Fin 262144) (s : State) : Host.Outcome State Fault Refusal :=
  runW (fun _ h => h.when ((h.pathLimit p).isNone) (fun h => h.minWrite p q v)) s

/-- QUOTA_WRITE (R29, R202, Table 7-9): values above 65,536 are reserved and leave the field (R9). -/
def Hub.quotaWrite (h : Hub) (p : Path) (v : Nat) : Hub :=
  if 65536 < v then h else h.cellsClaim p F.CORE_RETQ_QUOTA 0 v

def execQuotaWrite (p : Path) (v : Fin 131072) (s : State) : Host.Outcome State Fault Refusal :=
  runW (fun _ h => h.when ((h.pathLimit p).isNone) (fun h => h.quotaWrite p v)) s

end Sys2Proof.Machine
end

