-- ==== Sys2Proof/Machine/Time.lean ====
section
/-! DEFINITION. The meanings of the time commands: frequency lock, ridge time, time blocks, capture and compare
(spec/02_ridge_time.md). -/

namespace Sys2Proof.Machine

/-! ## Shared steps -/

/-- Half of a count of 1/64 ticks; which way an odd count is rounded the spec does not say (log entry 6). -/
def half (x : Int) : Int := if x % 2 = 0 then x / 2 else if Config.roundUp x then x / 2 + 1 else x / 2

/-- No port of the hub is up: every PORT_LCTL.EN is 0 (R33). -/
def Hub.noPortUp (h : Hub) : Bool := ports.all (fun n => !h.flag F.PORT_LCTL_EN n)

/-- The TIME_STAT.STATE codes (Table 2-5). -/
def tmBOOT : Nat := 0
def tmFACQ : Nat := 1
def tmFLOCK : Nat := 2
def tmTLOCK : Nat := 3
def tmHOLD : Nat := 4
def tmSUMMIT : Nat := 5

def Hub.tmState (h : Hub) : Nat := h.get F.TIME_STAT_STATE

/-- Ridge time is loaded with a value (R42); windows aligned to ridge time see a jump (R532). -/
def Hub.loadRidge (h : Hub) (v : Nat) : Hub :=
  { h with time := { h.time with ridge := BitVec.ofNat 64 v, jumps := h.time.jumps + 1, jumpAt := some h.now } }

/-- An offset in 1/64 tick is applied in one step: whole ticks to ridge time, the rest to the tick edge. -/
def Hub.applyOffset (h : Hub) (o : Int) : Hub :=
  { h with time := { h.time with ridge := BitVec.ofInt 64 ((h.ridge : Int) + o / 64), phase := h.time.phase + o % 64,
                                 jumps := h.time.jumps + 1, jumpAt := some h.now } }

/-- The port's asymmetry, signed, in 1/64 tick: 0 without a lock source (R45). -/
def Hub.tasym (h : Hub) (n : Nat) : Int := toSigned 16 (h.get F.PORT_TASYM_TASYM n)

/-- A local stamp in 1/64 tick. -/
def Hub.stamp (h : Hub) (frac : Nat) : Int := (64 * h.ridge + frac : Nat)

/-- The offset of R44 on a port, once its delay, a TEPOCH and a TSYNC are known. -/
def Hub.offset (h : Hub) (n : Nat) : Option Int :=
  let x := h.tp n
  match x.mean2, x.epoch, x.sync with
  | some m, some (e, at_), some (tick, frac, trx) =>
    let hi := if tick < at_ then e + 1 else e
    let parent : Int := ((2 ^ 48 * (hi % 2 ^ 16) + tick) * 64 + frac : Nat)
    some (toSigned 70 (ofSigned 70 (parent + (half m + half (h.tasym n)) - trx)))
  | _, _, _ => none

/-- The latest offset shown in TIME_STAT.ERR, saturated (Table 2-5). -/
def Hub.showErr (h : Hub) (o : Int) : Hub := h.set F.TIME_STAT_ERR (ofSigned 8 (clampInt (-128) 127 o))

/-- A record of TIME's producer (Table 17-2, class 10). -/
def Hub.timeRec (h : Hub) (code data : Nat) : Hub := h.rec1 prodTime 10 code srcTime data

/-- TLOCK, or SUMMIT, is reached: SOF generation may run from now on (R342), the delay is reported (R84), and the hub may
have joined (R185). -/
def Hub.locked (h : Hub) : Hub :=
  let h := { h with time := { h.time with everLocked := true } }
  (h.each (ports.filter (fun n => h.isChild n)) (fun n g => g.drep n)).joinCheck

/-- Ridge time is loaded in FLOCK once the first TEPOCH and delay exchange are complete (Table 2-1, R44). Out of HOLD, a
first offset within 2 ticks is not applied. -/
def Hub.tryLoad (h : Hub) (n : Nat) : Hub :=
  if h.tmState = tmFLOCK ∧ h.time.loaded = false ∧ h.flag F.TIME_STAT_SRCVALID ∧ h.get F.TIME_STAT_SRCPORT = n then
    match h.offset n with
    | none => h
    | some o =>
      let h := h.showErr o
      let keep := h.time.reacq && decide (-128 ≤ o) && decide (o ≤ 128)
      let h := if keep then h else h.applyOffset o
      -- the stamp of the TSYNC the load was computed from lies before the load
      let h := h.setTp n { h.tp n with sync := none }
      { h with time := { h.time with loaded := true, reacq := false, good := 0, bad := 0 } }
  else h

/-- A time block discarded (R43). -/
def Hub.badTime (h : Hub) (n : Nat) : Hub := h.bump F.PORT_TDLY_BADCNT n

/-- The other uplink of a port that is one. -/
def Hub.otherUplink (h : Hub) (n : Nat) : Option Nat := h.portOfRole (if h.role n = 2 then 3 else 2)

/-- An acquisition on a port starts (Table 2-1): its exchanges start afresh. -/
def Hub.acquire (h : Hub) (n : Nat) : Hub :=
  let h := h.setTp n { h.tp n with mean2 := none, epoch := none, sync := none, ex := none }
  let h := { h with time := { h.time with uplink := n, acqStart := some h.now, loaded := false, good := 0, bad := 0 } }
  h.set F.TIME_STAT_STATE tmFACQ

/-- In HOLD an uplink reaches block lock: the PLL reacquires with phase build-out (Table 2-1, R40). -/
def Hub.holdReacquire (h : Hub) (n : Nat) : Hub :=
  if h.tmState = tmHOLD ∧ h.isUplink n then
    let h := { h with time := { h.time with reacq := true, acqFails := 0 } }
    h.acquire n
  else h

/-- Lanes of an enabled port begin training once transmission is permitted (R36, R70). -/
def Hub.tryDetect (h : Hub) (n : Nat) : Hub :=
  if h.flag F.PORT_LCTL_EN n ∧ h.time.txOn ∧ h.get F.PORT_LSTAT_STATE n = 0 ∧ h.role n ≠ 5 ∧ (h.fabp n).barred = false ∧
      ¬ h.flag F.GLB_FATAL_VALID then h.toDetect n
  else h

/-! ## Reference and frequency lock -/

/-- SSC_WRITE (R33): at the summit only while no port is up; any other hub holds what is written. Depths above 10 are reserved
(R9). -/
def Hub.sscWrite (h : Hub) (freq depth : Nat) (en : Bool) : Hub :=
  h.when (¬ h.flag F.GLB_LOCK_LOCK ∧ (¬ h.flag F.TIME_CTL_SUMMIT ∨ h.noPortUp)) (fun h =>
    let h := (h.set F.TIME_CTL_SSC_FREQ freq).set F.TIME_CTL_SSC_EN (b2n en)
    if depth ≤ 10 then h.set F.TIME_CTL_SSC_DEPTH depth else h)

def execSscWrite (freq : Fin 4) (depth : Fin 16) (en : Bool) (s : State) : Host.Outcome State Fault Refusal :=
  runW (fun _ h => h.sscWrite freq depth en) s

/-- A port may be the uplink acquired in BOOT (R165). -/
def Hub.mayAcquire (h : Hub) (n : Nat) : Bool :=
  (h.fabp n).barred == false && (h.role n == 2 || (h.role n == 0 && (h.portOfRole 2).isNone))

/-- AUTO ports resolve: port `n` is the primary uplink, every other AUTO port DOWN (R165). -/
def Hub.resolveAuto (h : Hub) (n : Nat) : Hub :=
  h.each ports (fun m g => if (g.portCfg m).bits 0 3 = 0 then g.setFabp m { g.fabp m with role := if m = n then 2 else 1 } else g)

/-- A signal is reported on a port. -/
def Hub.signalAt (h : Hub) (n : Nat) : Hub := h.setLane n { h.lane n with sigAt := some h.now }

/-- UPLINK_SIGNAL_DETECT (R36, Table 2-1). A role that resolves anew is announced on a link that is UP (R171). -/
def Hub.uplinkSignal (h : Hub) (n : Nat) : Hub :=
  (h.signalAt n).when (h.tmState = tmBOOT ∧ ¬ h.flag F.TIME_CTL_SUMMIT ∧ h.flag F.PORT_LCTL_EN n ∧ h.mayAcquire n) (fun h =>
    let old := h.role
    let h := if h.role n = 0 then h.resolveAuto n
             else h.each ports (fun m g => if g.role m = 0 then g.setFabp m { g.fabp m with role := 1 } else g)
    let h := h.helloRoles old
    { h with time := { h.time with acqFails := 0 } }.acquire n)

def execUplinkSignalDetect (n : PortId) (s : State) : Host.Outcome State Fault Refusal := run (fun h => h.uplinkSignal n) s

/-- FREQUENCY_LOCK (R38, Table 2-1): FLOCK, transmission enabled, exchanges start. -/
def Hub.frequencyLock (h : Hub) : Hub :=
  h.when (h.tmState = tmFACQ) (fun h =>
    let h := ((h.set F.TIME_STAT_STATE tmFLOCK).set F.TIME_STAT_SRCPORT h.time.uplink).set F.TIME_STAT_SRCVALID 1
    let h := { h with time := { h.time with txOn := true, acqStart := none, acqFails := 0, ratioHeld := false } }
    h.each ports (fun n g => g.tryDetect n))

def execFrequencyLock (s : State) : Host.Outcome State Fault Refusal := run Hub.frequencyLock s

/-- FACQ_TIMEOUT (Table 2-1, R38). -/
def Hub.facqTimeout (h : Hub) : Hub :=
  h.when (h.tmState = tmFACQ ∧ h.due (h.time.acqStart.map (· + 100000))) (fun h =>
    let u := h.time.uplink
    if h.time.acqFails + 1 < 3 then
      { h with time := { h.time with acqFails := h.time.acqFails + 1, acqStart := some h.now } }
    else
      let h := { h with time := { h.time with acqFails := 0 } }
      let h := h.fault0 0x02 srcTime u
      h.acquire ((h.otherUplink u).getD u))

def execFacqTimeout (s : State) : Host.Outcome State Fault Refusal := run Hub.facqTimeout s

/-- LOCK_SOURCE_LOST (R39): the other uplink if it is up, else HOLD. Up means that its lanes are ACTIVE, since the PLL needs no more
of it than a recovered clock (DESIGN CHOICE, log entry 62). -/
def Hub.lockSourceLost (h : Hub) : Hub :=
  h.when (h.tmState = tmFLOCK ∨ h.tmState = tmTLOCK) (fun h =>
    let lost := h.get F.TIME_STAT_SRCPORT
    let other := (h.otherUplink lost).filter (fun m => m ≠ lost)
    match other.filter (fun m => h.active m) with
    | some m =>
      let h := (h.set F.TIME_STAT_SRCPORT m).timeRec 0x04 m
      { h with time := { h.time with uplink := m, good := 0, bad := 0 } }
    | none =>
      let h := ((h.set F.TIME_STAT_STATE tmHOLD).set F.TIME_STAT_SRCVALID 0).timeRec 0x03 lost
      let h := { h with time := { h.time with ratioHeld := true } }
      match other.filter (fun m => (h.lane m).lock ≠ 0) with
      | some m => h.holdReacquire m
      | none => h)

def execLockSourceLost (s : State) : Host.Outcome State Fault Refusal := run Hub.lockSourceLost s

/-! ## Time blocks -/

/-- TSYNC_SEND (R43): every 8,192 ticks, with a TEPOCH after every eighth. -/
def Hub.tsyncSend (h : Hub) (n frac : Nat) : Hub :=
  let x := h.tp n
  h.when (h.active n ∧ ¬ h.isChild n ∧ (x.lastTsync.isNone ∨ h.due (x.lastTsync.map (· + 8192)))) (fun h =>
    let r := h.ridge
    let h := h.sendL0 n 1 (timeTsync frac r)
    let h := h.setTp n { x with sent := x.sent + 1, lastTsync := some h.now }
    if (x.sent + 1) % 8 = 0 then h.sendL0 n 1 (timeTepoch r) else h)

def execTsyncSend (n : PortId) (frac : Fin 64) (s : State) : Host.Outcome State Fault Refusal :=
  run (fun h => h.tsyncSend n frac) s

/-- DREQ_SEND (R43): every 8,192 ticks in FLOCK, every 65,536 in TLOCK. -/
def Hub.dreqSend (h : Hub) (n frac : Nat) : Hub :=
  let x := h.tp n
  let gap := if h.tmState = tmFLOCK then 8192 else 65536
  h.when (h.active n ∧ h.isChild n ∧ (h.tmState = tmFLOCK ∨ h.tmState = tmTLOCK) ∧
      (x.lastDreq.isNone ∨ h.due (x.lastDreq.map (· + gap)))) (fun h =>
    let h := h.sendL0 n 1 (timeDreq x.nextId)
    h.setTp n { x with lastDreq := some h.now, nextId := (x.nextId + 1) % 64,
                       ex := some { id := x.nextId, t1 := h.stamp frac } })

def execDreqSend (n : PortId) (frac : Fin 64) (s : State) : Host.Outcome State Fault Refusal :=
  run (fun h => h.dreqSend n frac) s

/-- DREQ_RECEIVE (R43): the parent answers with DRSP and its residence. -/
def Hub.dreqReceive (h : Hub) (n : Nat) (k : Blk) (res : Nat) : Hub :=
  h.when (h.active n) (fun h =>
    if k.btype ≠ btTime then h.badTime n
    else if k.isTime 1 ∧ ¬ h.isChild n then h.sendL0 n 1 (timeDrsp (k.time 2 7) res)
    else h)

def execDreqReceive (n : PortId) (k : Blk) (res : BitVec 24) (s : State) : Host.Outcome State Fault Refusal :=
  run (fun h => h.dreqReceive n k res.toNat) s

/-- DRSP_RECEIVE (R44): twice the mean delay is (t4 - t1) - RES; PORT_TDLY shows the mean. -/
def Hub.drspReceive (h : Hub) (n : Nat) (k : Blk) (frac : Nat) : Hub :=
  h.when (h.active n) (fun h =>
    if k.btype ≠ btTime then h.badTime n
    else
      let x := h.tp n
      match x.ex with
      | none => h
      | some e =>
        if k.isTime 2 ∧ h.isChild n ∧ e.id = k.time 2 7 then
          let m := h.stamp frac - e.t1 - (k.time 8 31 : Nat)
          let h := h.setTp n { x with ex := none, mean2 := some m }
          let d := (clampInt 0 (2 ^ 24 - 1) (half m)).toNat
          let h := ((h.set F.PORT_TDLY_DLY d n).set F.PORT_TDLY_VALID 1 n).lkTmo n
          let h := if h.tmState = tmTLOCK ∧ x.drep ≠ some (h.dl n) then h.drep n else h
          h.tryLoad n
        else h)

def execDrspReceive (n : PortId) (k : Blk) (frac : Fin 64) (s : State) : Host.Outcome State Fault Refusal :=
  run (fun h => h.drspReceive n k frac) s

/-- TEPOCH_RECEIVE (R44): the high 16 bits of ridge time at the TSYNC before it. -/
def Hub.tepochReceive (h : Hub) (n : Nat) (k : Blk) : Hub :=
  h.when (h.active n) (fun h =>
    if k.btype ≠ btTime then h.badTime n
    else if k.isTime 3 ∧ h.isUplink n then
      let x := h.tp n
      (h.setTp n { x with epoch := some (k.time 8 23, (x.sync.map (·.1)).getD 0) }).tryLoad n
    else h)

def execTepochReceive (n : PortId) (k : Blk) (s : State) : Host.Outcome State Fault Refusal :=
  run (fun h => h.tepochReceive n k) s

/-- The sign of an offset. -/
def sgn (o : Int) : Int := if 0 < o then 1 else if o < 0 then -1 else 0

/-- An offset beyond 2 ticks on four TSYNC in a row in TLOCK is applied in one step (Table 2-1, R532). -/
def Hub.stepTime (h : Hub) (n : Nat) (o : Int) : Hub :=
  let h := (h.applyOffset o).setTp n { (h.tp n) with sync := none }
  let h := ((h.raise F.TIME_STAT_STEP 1).set F.TIME_STAT_STATE tmFLOCK).timeRec 0x02 (ofSigned 8 (clampInt (-128) 127 o))
  { h with time := { h.time with good := 0, bad := 0 } }

/-- What an offset does once ridge time has been loaded (Table 2-1, R45). -/
def Hub.useOffset (h : Hub) (n : Nat) (o : Int) : Hub :=
  let h := h.showErr o
  if h.tmState = tmFLOCK then
    let g := if -8 ≤ o ∧ o ≤ 8 then h.time.good + 1 else 0
    let h := { h with time := { h.time with good := g } }
    if g = 4 then ({ h with time := { h.time with good := 0, bad := 0 } }.set F.TIME_STAT_STATE tmTLOCK).locked else h
  else if h.tmState = tmTLOCK then
    let b := if o < -128 ∨ 128 < o then h.time.bad + 1 else 0
    let h := { h with time := { h.time with bad := b } }
    if b = 4 then h.stepTime n o
    else { h with time := { h.time with phase := h.time.phase + sgn o } }
  else h

/-- TSYNC_RECEIVE (R44, R45): the stamps are kept; on the lock source the offset is used. -/
def Hub.tsyncReceive (h : Hub) (n : Nat) (k : Blk) (frac : Nat) : Hub :=
  h.when (h.active n) (fun h =>
    if k.btype ≠ btTime then h.badTime n
    else if k.isTime 0 ∧ h.isUplink n then
      let x := h.tp n
      let tick := k.time 8 55
      -- a TICK below the one before it has wrapped: the epoch moves on by one
      let ep := match x.epoch, x.sync with
        | some (e, a), some (t, _, _) => if tick < t ∧ a ≤ t then some (e + 1, 0) else some (e, a)
        | e, _ => e
      let h := h.setTp n { x with sync := some (tick, k.time 2 7, h.stamp frac), epoch := ep }
      if h.flag F.TIME_STAT_SRCVALID ∧ h.get F.TIME_STAT_SRCPORT = n then
        if h.time.loaded then (match h.offset n with | some o => h.useOffset n o | none => h) else h.tryLoad n
      else h
    else h)

def execTsyncReceive (n : PortId) (k : Blk) (frac : Fin 64) (s : State) : Host.Outcome State Fault Refusal :=
  run (fun h => h.tsyncReceive n k frac) s

/-! ## Ridge time as software sees it -/

/-- Ridge time bits 63:32 of the start of the tick are held for a path (R41, R55). -/
def Hub.latchTime (st h : Hub) (p : Path) : Hub :=
  { h with time := { h.time with shadow := Tab.set 0 h.time.shadow p.num (st.ridge / 2 ^ 32) } }

/-- TIME_NOW_LO_READ (R41). -/
def Hub.timeNowLo (st h : Hub) (p : Path) : Hub := (st.latchTime h p).emit (.readData p 0x1008 (BitVec.ofNat 32 st.ridge))

def execTimeNowLoRead (p : Path) (s : State) : Host.Outcome State Fault Refusal := runS (fun _ st h => (st, st.timeNowLo h p)) s

/-- LOAD (R42): TIME_SET into ridge time, at the summit while no port is up. -/
def Hub.timeLoad (h : Hub) : Hub :=
  h.when (h.flag F.TIME_CTL_SUMMIT ∧ h.noPortUp) (fun h => h.loadRidge (h.get64 F.TIME_SET_LO_SET_LO F.TIME_SET_HI_SET_HI))

def execLoad (s : State) : Host.Outcome State Fault Refusal := runW (fun _ h => h.timeLoad) s

/-- PALIGN (R42): the load is armed, if TIME owns SYNC_IN. -/
def Hub.palign (h : Hub) : Hub :=
  h.when (h.flag F.TIME_CTL_SUMMIT ∧ h.noPortUp ∧ h.owner resSyncIn = ownTime) (fun h =>
    { h with time := { h.time with alignArmed := true } })

def execPalign (s : State) : Host.Outcome State Fault Refusal := runW (fun _ h => h.palign) s

/-- PALIGN_EDGE (R42): the armed load happens at the sampled edge. An edge that comes while a port is up, or while TIME does not own
SYNC_IN, does nothing, and the load stays armed for a later one (DESIGN CHOICE, log entry 62). -/
def Hub.palignEdge (h : Hub) : Hub :=
  h.when (h.time.alignArmed ∧ h.owner resSyncIn = ownTime ∧ h.noPortUp) (fun h =>
    { h with time := { h.time with alignArmed := false } }.loadRidge (h.get64 F.TIME_SET_LO_SET_LO F.TIME_SET_HI_SET_HI))

def execPalignEdge (s : State) : Host.Outcome State Fault Refusal := run Hub.palignEdge s

/-! ## Capture and compare -/

/-- The resource of a capture unit's source (Table 2-8). -/
def Hub.capRes (h : Hub) (u : Nat) : Nat :=
  if h.get F.TIME_CAPCFG_SRC u < 2 then resSyncIn else resGpio (h.get F.TIME_CAPCFG_GPIO u)

/-- CAPTURE_EDGE (R47). -/
def Hub.captureEdge (h : Hub) (u : Nat) : Hub :=
  h.when (h.flag F.TIME_CAPCFG_EN u ∧ h.get F.TIME_CAPCFG_SRC u < 4 ∧ h.owner (h.capRes u) = ownTime) (fun h =>
    if h.flag F.TIME_CAPCFG_VALID u then h.raise F.TIME_CAPCFG_OVR 1 u
    else (h.set64 F.TIME_CAP_LO_CAP F.TIME_CAP_HI_CAP h.ridge u).raise F.TIME_CAPCFG_VALID 1 u)

def execCaptureEdge (u : Fin 4) (s : State) : Host.Outcome State Fault Refusal := run (fun h => h.captureEdge u) s

def Hub.cmp (h : Hub) (u : Nat) : CompareUnit := Tab.get {} h.time.cmp u
def Hub.setCmp (h : Hub) (u : Nat) (c : CompareUnit) : Hub :=
  { h with time := { h.time with cmp := Tab.set {} h.time.cmp u c } }

/-- The output pin of a compare unit, with its resource (Table 2-9); none for an event record only. -/
def Hub.cmpPin (h : Hub) (u : Nat) : Option (OutPin × Nat) :=
  match h.get F.TIME_CMPCFG_OUT u with
  | 1 => some (.syncOut, resSyncOut)
  | 2 => some (.gpio (h.get F.TIME_CMPCFG_GPIO u), resGpio (h.get F.TIME_CMPCFG_GPIO u))
  | _ => none

/-- Whether some capture or compare unit of TIME, or PULSE_IN, still uses a resource. -/
def Hub.timeUses (h : Hub) (r : Nat) : Bool :=
  (r == resSyncIn && h.flag F.TIME_CTL_PULSE_IN) ||
  [0, 1, 2, 3].any (fun u => h.flag F.TIME_CAPCFG_EN u && h.capRes u == r) ||
  [0, 1, 2, 3].any (fun u => (h.flag F.TIME_CMPCFG_EN u || (h.cmp u).pulseEnd.isSome) &&
    (match h.cmpPin u with | some (_, q) => q == r | none => false))

/-- TIME gives a resource back once nothing of it uses it. -/
def Hub.timeRelease (h : Hub) (r : Nat) : Hub := if h.timeUses r then h else h.release r ownTime

/-- COMPARE_TARGET_WRITE (R48): the write of CMP_HI installs the target; one at or before the present tick matches in the
next tick, or, where the unit is not enabled then, in the tick it is found enabled (DESIGN CHOICE, log entry 62). -/
def Hub.compareTarget (h : Hub) (u : Nat) (hi : Word) : Hub :=
  let h := h.set F.TIME_CMP_HI_CMP hi.toNat u
  let t := h.get64 F.TIME_CMP_LO_CMP F.TIME_CMP_HI_CMP u
  if t ≤ h.ridge then (h.setCmp u { h.cmp u with target := some t, force := some (h.now + 1) }).raise F.TIME_CMPCFG_LATE 1 u
  else h.setCmp u { h.cmp u with target := some t, force := none }

def execCompareTargetWrite (u : Fin 4) (hi : Word) (s : State) : Host.Outcome State Fault Refusal :=
  runW (fun _ h => h.compareTarget u hi) s

/-- COMPARE_MATCH (R48). -/
def Hub.compareMatch (h : Hub) (u : Nat) : Hub :=
  let c := h.cmp u
  h.when (h.flag F.TIME_CMPCFG_EN u ∧ (c.target = some h.ridge ∨ h.due c.force)) (fun h =>
    let h := h.raise F.TIME_CMPCFG_MATCHED 1 u
    let per := h.get F.TIME_CMP_PER_CMP_PER u
    let nt := ((c.target.getD 0) + per) % 2 ^ 64
    let pin := h.cmpPin u
    let c := { c with force := none, target := some nt,
                      pulseEnd := if pin.isSome then some (h.now + h.get F.TIME_CMPCFG_WIDTH u) else none }
    let h := h.setCmp u c
    let h := match pin with
      | some (p, _) => h.emit (.pin p true)
      | none => h.timeRec 0x01 u
    if per = 0 then h.raise F.TIME_CMPCFG_EN 0 u
    else h.set64 F.TIME_CMP_LO_CMP F.TIME_CMP_HI_CMP nt u)

def execCompareMatch (u : Fin 4) (s : State) : Host.Outcome State Fault Refusal := run (fun h => h.compareMatch u) s

/-- The output pulse of a compare unit on a pin ends; a pin that TIME no longer uses is given back. -/
def Hub.endPulse (h : Hub) (u : Nat) (pin : Option (OutPin × Nat)) : Hub :=
  match (h.cmp u).pulseEnd, pin with
  | some _, some (p, r) => ((h.setCmp u { h.cmp u with pulseEnd := none }).emit (.pin p false)).timeRelease r
  | _, _ => h.setCmp u { h.cmp u with pulseEnd := none }

/-- COMPARE_PULSE_END (R48): the WIDTH count has expired. -/
def Hub.comparePulseEnd (h : Hub) (u : Nat) : Hub := h.when (h.due (h.cmp u).pulseEnd) (fun h => h.endPulse u (h.cmpPin u))

def execComparePulseEnd (u : Fin 4) (s : State) : Host.Outcome State Fault Refusal := run (fun h => h.comparePulseEnd u) s

end Sys2Proof.Machine
end

