-- ==== Sys2Proof/Machine/Usb.lean ====
section
/-! DEFINITION. The meanings of the peripheral commands: microframes, transactions, transfer messages and their session, root
ports (spec/13_peripheral_controller.md). -/

namespace Sys2Proof.Machine

/-! ## Serving the bus (R341, R342, R354 to R356) -/

/-- Bytes a transaction of a transfer may bring in fit the context's area (R346). -/
def Hub.inRoomFor (h : Hub) (x : Nat) : Bool := decide (h.ctxBytes x ≤ h.areaFree x)

/-- A transaction of the transfer can be issued. -/
def Hub.servable (h : Hub) (q : Xfer) : Bool :=
  let x := q.ctx
  let outReady := decide (h.ctxMps x ≤ q.out.length) || q.full
  q.start.isNone && q.abort.isNone &&
  (if q.xtype = 0 then
    (if q.phase = 1 then (if q.dataIn then h.inRoomFor x else outReady) else true)
   else if q.dir then h.inRoomFor x else outReady)

/-- The transfer a context runs. -/
def Hub.running (h : Hub) (x : Nat) : Option Xfer := (h.xfersOf x).head?

/-- A context's transfer can be issued on its port. -/
def Hub.ready (h : Hub) (x : Nat) : Bool :=
  match h.running x with
  | some q => h.flag F.ECTX0_EN x && h.servable q
  | none => false

/-- Contexts of a port and type whose transfers can be issued. -/
def Hub.readyOf (h : Hub) (n xt : Nat) : List Nat :=
  h.ctxs.filter (fun x => h.get F.ECTX0_PORT x == n && h.get F.ECTX0_XTYPE x == xt && h.ready x)

/-- The next transaction of port `n` may be one of context `x` (R355): a retry first; then periodic transactions in context
order, control, and bulk in turn. -/
def Hub.mayServe (h : Hub) (n x xt : Nat) : Bool :=
  let p := h.pport n
  let todo := p.todo.filter h.ready
  match p.retry.filter h.ready with
  | some y => y == x
  | none =>
    if xt = 1 ∨ xt = 3 then todo.head? == some x
    else if xt = 0 then todo.isEmpty
    else
      let bulk := h.readyOf n 2
      todo.isEmpty && (h.readyOf n 0).all (fun y => p.ctls.contains y) &&
      (!p.bulks.contains x || bulk.all (fun y => p.bulks.contains y))

/-- The transfer after a good transaction that brought `data`, and the status it ends with, if it ends. -/
def Xfer.good (q : Xfer) (mps : Nat) (data : Bytes) : Xfer × Option Nat :=
  let isoEnd := some (if q.lost then xISOPART else xOK)
  let d := data.take (q.want - q.got)
  let qi := { q with got := q.got + d.length, buf := q.buf ++ d, slots := q.slots + mps, fails := 0 }
  let n := min mps q.out.length
  let qo := { q with out := q.out.drop n, sent := q.sent + n, fails := 0 }
  let outOver := qo.full && qo.out.isEmpty
  if q.xtype = 0 then
    if q.phase = 0 then ({ q with phase := if q.want = 0 then 2 else 1, fails := 0 }, none)
    else if q.phase = 2 then (q, some xOK)
    else if q.dataIn then (if data.length < mps ∨ q.want ≤ qi.got then { qi with phase := 2 } else qi, none)
    else (if outOver then { qo with phase := 2 } else qo, none)
  else if q.dir then
    if q.xtype = 1 then (qi, if data.length < mps ∨ q.want ≤ qi.slots then isoEnd else none)
    else (qi, if data.length < mps ∨ q.want ≤ qi.got then some xOK else none)
  else if q.xtype = 1 then (qo, if outOver then isoEnd else none)
  else if q.phase = 3 then (qo, some xOK)
  else if ¬ outOver then (qo, none)
  else if q.zlp ∧ 0 < qo.sent ∧ qo.sent % mps = 0 then ({ qo with phase := 3 }, none)
  else (qo, some xOK)

/-- The transfer after an isochronous packet was lost. -/
def Xfer.isoLost (q : Xfer) (mps : Nat) : Xfer × Option Nat :=
  let q := { q with lost := true, slots := q.slots + mps, out := q.out.drop mps }
  (q, if (if q.dir then decide (q.want ≤ q.slots) else q.full && q.out.isEmpty) then some xISOPART else none)

/-- A transfer replaced by a later state of it. -/
def Hub.putXfer (h : Hub) (q : Xfer) : Hub :=
  h.setXfers (h.peri.xfers.map (fun z => if z.tun == q.tun && z.xid == q.xid && z.ctx == q.ctx then q else z))

/-- IN data that has collected leaves in messages (Table 13-2). -/
def Hub.shipIn (h : Hub) (q : Xfer) : Nat → Hub
  | 0 => h
  | k + 1 =>
    let n := h.chunk q.ctx
    if q.buf.length < n then h.putXfer q
    else
      let q' := { q with buf := q.buf.drop n }
      (((h.putXfer q').post q.tun (some q.ctx) (q.xcpl false 0 (q.buf.take n)))).shipIn q' k

/-- The packet of a transaction, as the device sees it. -/
def Hub.devPacket (h : Hub) (q : Xfer) : UsbOut :=
  let pkt := q.out.take (h.ctxMps q.ctx)
  if q.xtype = 0 then
    if q.phase = 0 then .setup q.dev q.ep q.setup
    else if q.phase = 2 then (if q.dataIn then .outData q.dev q.ep [] else .inToken q.dev q.ep)
    else if q.dataIn then .inToken q.dev q.ep else .outData q.dev q.ep pkt
  else if q.dir then .inToken q.dev q.ep else .outData q.dev q.ep pkt

/-- The packet of a transaction on the port's bus: full and low speed behind an external hub go by split transactions (R355). -/
def Hub.busPacket (h : Hub) (q : Xfer) : UsbOut :=
  if h.get F.ECTX0_SPEED q.ctx = 0 ∨ h.get F.ECTX3_HUBADDR q.ctx = 0 then h.devPacket q
  else .split (h.get F.ECTX3_HUBADDR q.ctx) (h.get F.ECTX3_HUBPORT q.ctx) (h.devPacket q)

/-- What the schedule of a port keeps after a transaction of context `x`; `served`: it is not served again in this microframe. -/
def Hub.served (h : Hub) (n x xt : Nat) (served : Bool) (retry : Bool) : Hub :=
  let p := h.pport n
  let todo := if served then p.todo.filter (fun y => y != x) else p.todo.erase x
  let p := if retry then { p with retry := some x }
    else if xt = 0 then { p with retry := none, ctls := if p.ctls.contains x then p.ctls else p.ctls ++ [x] }
    else if xt = 2 then { p with retry := none, bulks := if p.bulks.contains x then [x] else p.bulks ++ [x] }
    else { p with retry := none, todo := todo }
  h.setPport n p

/-- The transfer has taken a step: it ends with a status, goes on, or ends as it was told to. -/
def Hub.stepped (h : Hub) (r : Xfer × Option Nat) : Hub :=
  let h := h.putXfer r.1
  match r.1.abort, r.2 with
  | some st, _ => h.endXfer r.1 st
  | none, some st => h.endXfer r.1 st
  | none, none => h.shipIn r.1 (r.1.buf.length + 1)

/-- A transaction that ended well, NAK, STALL, or failed (R355, R356). -/
def Hub.xactEnd (h : Hub) (x : Nat) (res : Nat) (data : Bytes) : Hub :=
  match h.running x with
  | none => h
  | some q =>
    let n := q.port
    let xt := q.xtype
    let mps := max 1 (h.ctxMps x)
    if ¬ h.flag F.PERI_CFG_EN ∨ mps < data.length then h
    else if q.abort.isSome then
      -- the transaction that was under way when the transfer was told to end
      h.stepped (if res = 0 then q.good mps data else (q, none))
    else if ¬ (h.upState n = upENABLED ∧ h.ready x ∧ h.mayServe n x xt) then h
    else
      let h := h.usb n (h.busPacket q)
      match res with
      | 0 =>
        let h := if 0 < q.fails then h.bump F.PERI_PCNT_RETRY n else h
        let r := q.good mps data
        (h.stepped r).served n x xt r.2.isSome false
      | 1 => ((h.putXfer { q with fails := 0 }).served n x xt true false)
      | 2 =>
        let h := (h.bump F.PERI_PCNT_STALL n).endXfer q xSTALL
        (h.haltCtx x).served n x xt true false
      | _ =>
        if xt = 1 then
          let r := q.isoLost mps
          ((h.bump F.PERI_PCNT2_ISOERR n).stepped r).served n x xt r.2.isSome false
        else if q.fails < 2 then (h.putXfer { q with fails := q.fails + 1 }).served n x xt false true
        else
          let h := (h.bump F.PERI_PCNT_XACTERR n).endXfer q xXACTERR
          (h.haltCtx x).served n x xt true false

/-- TRANSACTION_END: result 0 good, 1 NAK, 2 STALL, 3 a timeout or an error in the packet. -/
def execTransactionEnd (x : CtxId) (res : Fin 4) (data : List (BitVec 8)) (s : State) : Host.Outcome State Fault Refusal :=
  run (fun h => h.xactEnd x res data) s

/-- Periodic contexts of a port that are served in microframe `m`, once for each of their transactions (R355, Table 13-9). -/
def Hub.periodic (h : Hub) (n m : Nat) : List Nat :=
  (h.ctxs.filter (fun x => h.get F.ECTX0_PORT x == n && (h.get F.ECTX0_XTYPE x == 1 || h.get F.ECTX0_XTYPE x == 3) &&
    m % 2 ^ h.get F.ECTX1_IVAL x == 0)).flatMap (fun x =>
      List.replicate (max 1 (h.get F.ECTX1_MULT x)) x)

/-- Microframe `m` is the start microframe, or stands after it by less than half of the count's range (R355). -/
def startPassed (a m : Nat) : Bool := decide ((m + 16384 - a) % 16384 < 8192)

/-- MICROFRAME_START (R341, R342): SOFs and keep-alives, the ports' schedules; a boundary too soon after the last is passed
over. A transfer whose start microframe was passed over starts in the next one that is not (log entry 72). Transfers that were told to end and have no transaction under way end here. -/
def Hub.microframe (h : Hub) : Hub :=
  h.when (h.time.everLocked ∧ h.flag F.PERI_CFG_EN ∧ h.ridge % 25000 = 0 ∧ h.peri.edgeAt ≠ some h.now) (fun h =>
    let h := { h with peri := { h.peri with edgeAt := some h.now } }
    let m := h.ridge / 25000
    let f := h.ridge / 200000 % 2048
    if h.peri.sofAt.any (fun t => h.now < t + 12500) then h.bump F.PERI_CNT1_UFSKIP
    else
      let h := { h with peri := { h.peri with sofAt := some h.now } }
      let h := (h.peri.xfers.filter (fun q => q.abort.isSome)).foldl (fun g q => g.endXfer q (q.abort.getD 0)) h
      let h := h.setXfers (h.peri.xfers.map (fun q => if q.start.any (fun a => startPassed a (m % 16384)) then { q with start := none } else q))
      h.each (ports.filter (fun n => h.upState n == upENABLED)) (fun n g =>
        let sp := g.get F.PERI_PSTAT_SPEED n
        let g := if sp = 0 then g.usb n (.sof f) else if m % 8 ≠ 0 then g else if sp = 1 then g.usb n (.sof f) else g.usb n .keepAlive
        g.setPport n { g.pport n with todo := g.periodic n m, ctls := [], retry := none }))

def execMicroframeStart (s : State) : Host.Outcome State Fault Refusal := run Hub.microframe s

/-! ## Context registers (R345, R356) -/

/-- The context a path selects, if the path reaches it (Table 10-2). -/
def Hub.selCtx (h : Hub) (p : Path) : Option Nat :=
  let x := h.get F.PERI_ESEL_CTX p.sel
  let s := h.pathSlice p
  if s = 0 ∨ s = h.usbOwner (h.get F.ECTX0_PORT x) then some x else none

/-- A write of PERI_ECTX0 on a path; a slice other than S0 cannot take a context to a port it does not own (R362). -/
def Hub.ectx0Write (h : Hub) (p : Path) (v : Word) : Hub :=
  match h.selCtx p with
  | none => h
  | some x =>
    let s := h.pathSlice p
    if s = 0 ∨ s = h.usbOwner (v.bits 23 5) then h.ectx0 x v else h

/-- ENDPOINT_ENABLE (R345): a write of PERI_ECTX0 with EN = 1. -/
def Hub.endpointEnable (h : Hub) (p : Path) (v : Word) : Hub := h.when (v.bits 31 1 = 1) (fun h => h.ectx0Write p v)

def execEndpointEnable (p : Path) (v : Word) (s : State) : Host.Outcome State Fault Refusal := runW (fun _ h => h.endpointEnable p v) s

/-- CLRHALT (R356): a write of PERI_ECTX0 with CLRHALT = 1. -/
def Hub.clrHalt (h : Hub) (p : Path) (v : Word) : Hub := h.when (v.bits 30 1 = 1) (fun h => h.ectx0Write p v)

def execClrhalt (p : Path) (v : Word) (s : State) : Host.Outcome State Fault Refusal := runW (fun _ h => h.clrHalt p v) s

/-! ## The session (R347 to R351) -/

/-- The session of an entry is lost (R351): one record, SESSLOST; the controller's transfers end at their next boundary, a
ring's descriptors complete. -/
def Hub.sessionLost (h : Hub) (t : Nat) : Hub :=
  let h := (h.setSess t { h.sess t with lost := true, unack := [], again := [], queue := [], fetch := none, rtoAt := none, taken := 0,
                                        ackAt := none, ackNow := false }).bump F.PERI_CNT_SESSLOST
  let ring := h.get F.TUN_W2_FUNC t == 0
  let h := h.rec1 (prodSlice (h.get F.TUN_W0_SLICE t)) 3 0x0B (if ring then srcHost else srcPeri) t
  if ring then
    let r := h.get F.TUN_W2_FIDX t
    let l := (h.ring r).descs.filter (fun d => d.stage == .offered && d.f 0 0 12 == t)
    l.foldl (fun g d => g.finDesc r d.slot cUSB d.moved (2 ^ 16 * d.slot + xSESSION)) h
  else h.abortXfers (fun q => q.tun == t) xSESSION

/-- An ASEQ releases every message up to it; out of the range it is ignored (R348). -/
def Hub.takeAseq (h : Hub) (t a : Nat) : Hub :=
  let x := h.sess t
  if x.unack.any (fun m => m.seq = a) then
    let rest := (x.unack.dropWhile (fun m => m.seq != a)).drop 1
    h.setSess t { x with unack := rest, again := x.again.filter (fun q => rest.any (fun m => m.seq = q)), expiries := 0,
                         fetch := x.fetch.filter (fun f => rest.any (fun m => m.seq = f.seq)),
                         rtoAt := if rest = [] then none else some h.now }
  else h

/-- The fields of a received transfer message, if its form is right (Tables 5-3, 5-8). -/
def Frm.tmsg (f : Frm) : Option (TMsg × Nat × Nat) :=
  let w := wire 128 (beNat (f.data.take 16))
  let m : TMsg := { kind := w 0 3, last := w 4 4 == 1, zlp := w 5 5 == 1, port := w 40 44, dev := w 45 51, ep := w 52 55,
                    dir := w 56 56 == 1, xtype := w 57 58, status := w 64 71, xid := w 96 111,
                    data := (f.data.take f.hdr.plen).drop 16 }
  let n := w 80 95
  if m.kind ≤ 3 ∧ n ≤ 9200 ∧ f.hdr.plen = 16 + n ∧ (m.kind = pkAck → n = 0) then some (m, w 8 23, w 24 39) else none

/-- A transfer that the message belongs to at the controller. -/
def Hub.xferOf (h : Hub) (t : Nat) (m : TMsg) : Option Xfer := h.peri.xfers.find? (fun q => q.tun == t && q.xid == m.xid && !q.full)

/-- Area bytes that an XREQ brings: its setup bytes and OUT data (R350). -/
def TMsg.need (m : TMsg) (first : Bool) : Nat :=
  if m.xtype = 0 then m.data.length
  else if m.dir then 0
  else if m.xtype = 1 ∧ first then m.data.length - 4 else m.data.length

/-- The context an XREQ concerns: that of its transfer, or the one its first message matches. -/
def Hub.xreqCtx (h : Hub) (t : Nat) (m : TMsg) : Option Nat :=
  match h.xferOf t m with
  | some q => some q.ctx
  | none => if (h.sess t).cont.contains m.xid then none else h.matchCtx m.port m.dev m.ep m.dir

/-- The controller can take the message (R350); other ends and other messages always can. -/
def Hub.canTake (h : Hub) (t : Nat) (m : TMsg) : Bool :=
  if m.kind ≠ pkXreq ∨ h.get F.TUN_W2_FUNC t ≠ 2 then true
  else
    match h.xreqCtx t m with
    | none => true
    | some x =>
      let first := (h.xferOf t m).isNone
      let need := m.need first
      decide (h.ctxSize x < need) || (decide (need ≤ h.areaFree x) && (!first || decide ((h.xfersOf x).length < 8)))

/-- A transfer as its first message describes it; none where a length field is 0 or the start word is malformed (Table 13-2). -/
def newXfer (t x : Nat) (m : TMsg) : Option Xfer :=
  let q : Xfer := { tun := t, xid := m.xid, ctx := x, port := m.port, dev := m.dev, ep := m.ep, dir := m.dir, xtype := m.xtype,
                    full := m.last, zlp := m.zlp }
  let d := m.data
  let lenOk (n : Nat) : Bool := decide (1 ≤ n ∧ n ≤ 1048575)
  if m.xtype = 0 then
    if d.length < 8 then none
    else some { q with setup := d.take 8, out := d.drop 8, want := leNat (sub d 6 2), phase := 0 }
  else if m.xtype = 1 then
    let w := beNat (d.take 4)
    let st := if bitOf w 31 then none else some (w % 16384)
    if d.length < 4 ∨ w / 2 ^ 14 % 2 ^ 17 ≠ 0 then none
    else if m.dir then
      let n := beNat (d.drop 4)
      if d.length = 8 ∧ lenOk n ∧ m.last then some { q with start := st, want := n } else none
    else some { q with start := st, out := d.drop 4 }
  else if m.dir then
    let n := beNat d
    if d.length = 4 ∧ lenOk n ∧ m.last then some { q with want := n } else none
  else some { q with out := d }

/-- The checks of a new transfer, in order; none where it may be queued (R354, R355, R357, R360, Table 13-3). -/
def Hub.xreqCheck (h : Hub) (t : Nat) (m : TMsg) (x : Option Nat) : Option Nat :=
  let n := h.get F.TUN_W2_FIDX t % 32
  let s := h.usbOwner n
  let form := (newXfer t 0 m).isNone
  let u := h.upState n
  if h.get F.TUN_W0_SLICE t ≠ s then some xNOTOWNER
  else if m.port ≠ n ∨ form ∨ x.any (fun c => h.get F.ECTX0_XTYPE c ≠ m.xtype) then some xBADREQ
  else
    match x with
    | none => some xNOEP
    | some c =>
      let late := match (newXfer t c m).bind (·.start) with
        | some a => decide (8192 ≤ (a + 16384 - h.ridge / 25000 % 16384) % 16384)
        | none => false
      if h.get F.ECTX0_STATE c = eNEEDADDR then some xNEEDADDR
      else if h.resetting s then some xSQUASHED
      else if u = upSUSPENDED ∨ u = upRESUMING then some xSUSPENDED
      else if u ≠ upENABLED then some xDISCONNECT
      else if h.get F.ECTX0_STATE c = eHALTED then some xHALTED
      else if h.ctxSize c < m.need true then some xNOMEM
      else if late then some xLATE
      else none

/-- A taken XREQ at the controller (R352 to R354). -/
def Hub.takeXreq (h : Hub) (t : Nat) (m : TMsg) : Hub :=
  let y := h.sess t
  match h.xferOf t m with
  | some q =>
    let q := { q with full := m.last, zlp := m.zlp }
    if h.ctxSize q.ctx < m.need false then (h.putXfer q).endXfer q xNOMEM
    else h.putXfer { q with out := q.out ++ m.data }
  | none =>
    if y.cont.contains m.xid then
      if m.last then h.setSess t { y with cont := y.cont.filter (fun i => i != m.xid) } else h
    else
      let x := h.matchCtx m.port m.dev m.ep m.dir
      let q := (newXfer t (x.getD 0) m).getD { tun := t, xid := m.xid, ctx := x.getD 0, port := m.port, dev := m.dev, ep := m.ep,
                                               dir := m.dir, xtype := m.xtype, full := m.last, want := b2n m.dir }
      match h.xreqCheck t m x with
      | some st =>
        let h := if m.last then h else h.setSess t { h.sess t with cont := (h.sess t).cont ++ [m.xid] }
        h.post t none (q.xcpl true st (if q.dataIn then [] else beBytes 4 0))
      | none =>
        -- the start microframe may be the present one
        let q := { q with start := q.start.filter (fun a => !startPassed a (h.ridge / 25000 % 16384)) }
        (h.setXfers (h.peri.xfers ++ [q])).showQueued q.ctx

/-- A PERI descriptor's transfer has an IN data stage. -/
def Desc.dataIn (d : Desc) : Bool :=
  if d.f 4 13 2 = 0 then bitOf (d.dw 5) 7 && d.f 6 16 16 != 0 else d.f 4 15 1 == 1

/-- A taken XCPL at the ring engine (R353): IN data goes to the buffer; the last message completes the descriptor. -/
def Hub.takeXcpl (h : Hub) (t : Nat) (m : TMsg) : Hub :=
  let r := h.get F.TUN_W2_FIDX t
  match (h.ring r).descs.find? (fun d => d.slot == m.xid && d.stage == .offered && d.f 0 0 12 == t) with
  | none => h
  | some d =>
    let room := d.len kPERI - d.moved
    let h := if d.dataIn ∧ 0 < (m.data.take room).length then h.ringWrite r (d.addr + d.moved) (m.data.take room) else h
    let moved := if d.dataIn then d.moved + m.data.length else beNat m.data
    let h := h.modDesc r d.slot (fun d => { d with moved := moved })
    if m.last then
      h.finDesc r d.slot (if m.status = xOK then cOK else cUSB) (moved % 2 ^ 20) (2 ^ 16 * m.xid + m.status)
    else h

/-- A taken PORTEV at the ring engine (R357). -/
def Hub.takePortev (h : Hub) (t : Nat) (m : TMsg) : Hub :=
  let r := h.get F.TUN_W2_FIDX t
  if 1 ≤ m.status ∧ m.status ≤ 6 then
    h.rec1 (prodSlice (h.rSlice r)) 9 (m.status + 0x10) srcHost (2 ^ 19 * m.port + r)
  else h

/-- What a taken message does at the end that takes it. -/
def Hub.takeTMsg (h : Hub) (t : Nat) (m : TMsg) : Hub :=
  if h.get F.TUN_W2_FUNC t = 2 then (if m.kind = pkXreq then h.takeXreq t m else h)
  else if m.kind = pkXcpl then h.takeXcpl t m
  else if m.kind = pkPortev then h.takePortev t m
  else h

/-- A numbered message of a session (R348). -/
def Hub.numbered (h : Hub) (t seq : Nat) (m : TMsg) : Hub :=
  let x := h.sess t
  if seq = x.rx then
    if h.canTake t m then
      let n := x.taken + 1
      (h.setSess t { x with rx := (x.rx + 1) % 65536, taken := n, ackAt := some (x.ackAt.getD h.now),
                            ackNow := x.ackNow || decide (8 ≤ n) }).takeTMsg t m
    else h.bump F.PERI_CNT1_NOROOM
  else if (x.rx + 131071 - seq) % 65536 < 16 then h.setSess t { x with ackNow := true }
  else h.bump F.PERI_CNT_OOW

/-- TRANSFER_MESSAGE_RECEIVE (R348): the oldest transfer message delivered here. -/
def Hub.transferMsg (h : Hub) : Hub :=
  match h.takeMsg (fun f => f.hdr.type == 4) with
  | none => h
  | some (f, h) =>
    let t := f.hdr.dtun
    match f.tmsg with
    | none => h.disc t
    | some (m, seq, aseq) =>
      if (h.sess t).lost then h
      else
        let h := h.takeAseq t aseq
        if m.kind = pkAck then h else h.numbered t seq m

def execTransferMessageReceive (s : State) : Host.Outcome State Fault Refusal := run Hub.transferMsg s

/-- ACK_DELAY_EXPIRY (R349). -/
def Hub.ackDelay (h : Hub) (t : Nat) : Hub :=
  let x := h.sess t
  h.when (¬ x.lost ∧ h.due (x.ackAt.map (· + h.get F.PERI_CFG_ACKDLY))) (fun h => h.setSess t { x with ackNow := true })

def execAckDelayExpiry (t : TunnelId) (s : State) : Host.Outcome State Fault Refusal := run (fun h => h.ackDelay t) s

/-- RESEND_TIMER_EXPIRY (R349): resend, or the session is lost. -/
def Hub.resendTimer (h : Hub) (t : Nat) : Hub :=
  let x := h.sess t
  h.when (¬ x.lost ∧ x.unack ≠ [] ∧ h.due (x.rtoAt.map (· + 1000 * h.get F.PERI_CFG_RTO))) (fun h =>
    if h.get F.PERI_CFG_LOSTN ≤ x.expiries + 1 then h.sessionLost t
    else h.setSess t { x with expiries := x.expiries + 1, again := x.unack.map (·.seq), fetch := none, rtoAt := some h.now })

def execResendTimerExpiry (t : TunnelId) (s : State) : Host.Outcome State Fault Refusal := run (fun h => h.resendTimer t) s

/-! ## Root ports (R357 to R359) -/

/-- A path may write a root port's registers (Table 10-2). -/
def Hub.usbRight (h : Hub) (p : Path) (n : Nat) : Bool := h.pathSlice p == 0 || h.pathSlice p == h.usbOwner n

/-- A write of PERI_PCTLn on a path. -/
def Hub.pctlWrite (h : Hub) (p : Path) (n : Nat) (v : Word) : Hub := h.when (h.usbRight p n) (fun h => h.pctl n v)

/-- PEN_WRITE: the write's other bits act as well. -/
def execPenWrite (p : Path) (n : PortId) (v : Word) (s : State) : Host.Outcome State Fault Refusal :=
  runW (fun _ h => h.pctlWrite p n v) s

/-- ATTACH_SEEN (Table 13-4); like a detachment and a K it wakes PERI (R430). -/
def Hub.attachSeen (h : Hub) (n : Nat) : Hub := h.when (h.upState n = upDISCONNECTED ∧ h.blockOn rowUsb n) (fun h => ((h.toUp n upATTACHED).portEvent n 1).domainWake dPERI)

def execAttachSeen (n : PortId) (s : State) : Host.Outcome State Fault Refusal := run (fun h => h.attachSeen n) s

/-- DETACH_SEEN (Table 13-4, R359). -/
def Hub.detachSeen (h : Hub) (n : Nat) : Hub :=
  let u := h.upState n
  h.when (u = upATTACHED ∨ u = upENABLED ∨ u = upSUSPENDED ∨ u = upRESUMING ∨ u = upDISABLED) (fun h =>
    ((((h.endXfers (fun q => q.port == n) xDISCONNECT).markCtxs n).toUp n upDISCONNECTED).portEvent n 2).domainWake dPERI)

def execDetachSeen (n : PortId) (s : State) : Host.Outcome State Fault Refusal := run (fun h => h.detachSeen n) s

/-- BUS_RESET: a write of PERI_PCTLn with RESET = 1. -/
def execBusReset (p : Path) (n : PortId) (v : Word) (s : State) : Host.Outcome State Fault Refusal :=
  runW (fun _ h => h.when (v.bits 1 1 = 1) (fun h => h.pctlWrite p n v)) s

/-- RSTDUR_END (Table 13-4). -/
def Hub.rstdurEnd (h : Hub) (n sp : Nat) : Hub :=
  h.when (h.upState n = upRESETTING ∧ sp ≤ 2 ∧ h.due ((h.pport n).since.map (· + 200000 * h.get F.PERI_PCFG_RSTDUR n))) (fun h =>
    ((h.toUp n upENABLED).set F.PERI_PSTAT_SPEED sp n).portEvent n 3)

def execRstdurEnd (n : PortId) (speed : Fin 3) (s : State) : Host.Outcome State Fault Refusal := run (fun h => h.rstdurEnd n speed) s

/-- USB_SUSPEND: a write of PERI_PCTLn with SUSPEND = 1. -/
def execUsbSuspend (p : Path) (n : PortId) (v : Word) (s : State) : Host.Outcome State Fault Refusal :=
  runW (fun _ h => h.when (v.bits 2 1 = 1) (fun h => h.pctlWrite p n v)) s

/-- USB_RESUME: a write of PERI_PCTLn with RESUME = 1. -/
def execUsbResume (p : Path) (n : PortId) (v : Word) (s : State) : Host.Outcome State Fault Refusal :=
  runW (fun _ h => h.when (v.bits 3 1 = 1) (fun h => h.pctlWrite p n v)) s

/-- REMOTE_WAKE (R358): K from the device. -/
def Hub.remoteWake (h : Hub) (n : Nat) : Hub :=
  let u := h.upState n
  if u = upSUSPENDED then
    let h := ((h.set F.PERI_PSTAT_STATE upRESUMING n).set F.PERI_PSTAT_CAUSE 1 n).set F.PERI_PSTAT_COINCIDENT 0 n
    ((h.setPport n { h.pport n with since := some (h.now + 1) }).usb n .k).domainWake dPERI
  else if u = upRESUMING ∧ h.get F.PERI_PSTAT_CAUSE n = 0 then h.set F.PERI_PSTAT_COINCIDENT 1 n
  else h

def execRemoteWake (n : PortId) (s : State) : Host.Outcome State Fault Refusal := run (fun h => h.remoteWake n) s

/-- RSMDRV_END (Table 13-4). -/
def Hub.rsmdrvEnd (h : Hub) (n : Nat) : Hub :=
  h.when (h.upState n = upRESUMING ∧ h.due ((h.pport n).since.map (· + 200000 * h.get F.PERI_PCFG_RSMDRV n))) (fun h =>
    (h.toUp n upENABLED).portEvent n 5)

def execRsmdrvEnd (n : PortId) (s : State) : Host.Outcome State Fault Refusal := run (fun h => h.rsmdrvEnd n) s

/-- BABBLE (Table 13-4). -/
def Hub.babble (h : Hub) (n : Nat) : Hub :=
  h.when (h.upState n = upENABLED) (fun h =>
    (((h.endXfers (fun q => q.port == n) xBABBLE).bump F.PERI_PCNT2_BABBLE n).toUp n upDISABLED).portEvent n 6)

def execBabble (n : PortId) (s : State) : Host.Outcome State Fault Refusal := run (fun h => h.babble n) s

end Sys2Proof.Machine
end

