-- ==== Sys2Proof/Machine/Events.lean ====
section
/-! DEFINITION. The meanings of the commands on event streams, on the on-die memories and their repair, and on fatal errors and
the cairn (spec/17_events_and_faults.md, R195). -/

namespace Sys2Proof.Machine

/-! ## Filling and draining (R448 to R452) -/

/-- FLUSH_TIMEOUT (R449): FLUSHTMO × 100 ticks after the first record entered the filling bank. -/
def Hub.flushTimeout (h : Hub) (v : Nat) : Hub :=
  h.when (h.due ((h.stream v).fill.first.map (· + h.get F.EVS_THR_FLUSHTMO v * 100))) (fun h => h.closeBank v true)

def execFlushTimeout (v : StreamId) (s : State) : Host.Outcome State Fault Refusal := runLive (fun h => h.flushTimeout v) s

/-- A path may write a stream's registers: S0, or the slice that owns it (Table 10-2). -/
def Hub.strmRight (h : Hub) (p : Path) (v : Nat) : Bool := h.pathSlice p == 0 || h.pathSlice p == h.strmOwner v

/-- A write of EVS_CFGv (R449, R452). -/
def Hub.evsCfg (h : Hub) (v : Nat) (w : Word) : Hub :=
  let was := h.flag F.EVS_CFG_EN v
  let on := w.bits 31 1 == 1
  let h := h.wr (F.EVS_CFG_EN.addr v 0) w
  let h := if on && !was then h.setStream v { h.stream v with markDue := true } else h
  if w.bits 28 1 = 1 ∨ (was && !on) then h.closeBank v true else h

/-- STREAM_FLUSH (R449): a write of EVS_CFGv with FLUSH = 1. -/
def Hub.streamFlush (h : Hub) (p : Path) (v : Nat) (w : Word) : Hub :=
  h.when (w.bits 28 1 = 1 ∧ h.strmRight p v) (fun h => h.evsCfg v w)

def execStreamFlush (p : Path) (v : StreamId) (w : Word) (s : State) : Host.Outcome State Fault Refusal :=
  runW (fun _ h => h.streamFlush p v w) s

/-- STREAM_ENABLE (R452): a write of EVS_CFGv that changes EN. -/
def Hub.streamEnable (h : Hub) (p : Path) (v : Nat) (w : Word) : Hub :=
  h.when (w.bits 31 1 ≠ h.get F.EVS_CFG_EN v ∧ h.strmRight p v) (fun h => h.evsCfg v w)

def execStreamEnable (p : Path) (v : StreamId) (w : Word) (s : State) : Host.Outcome State Fault Refusal :=
  runW (fun _ h => h.streamEnable p v w) s

/-- A word of the draining bank, padded with zeros where the bank closed within it (R443, R449). -/
def evWord (l : List Slot) : Bytes := (l.flatMap (fun s => leBytes 8 s.word) ++ List.replicate 64 0#8).take 64

/-- DRAIN_WORD_WRITTEN (R449, R271): the next word of the draining bank goes into the posted buffer; a full buffer, and the last
word of a flushed bank, completes it. -/
def Hub.drainWord (h : Hub) (v : Nat) : Hub :=
  let x := h.stream v
  match h.evRing v with
  | none => h
  | some r =>
    match (h.buffers r).head? with
    | none => h
    | some d =>
      h.when (h.flag F.EVS_CFG_EN v ∧ ¬ h.flag F.EVS_CFG_DEST v ∧ x.drain.slots ≠ [] ∧ x.offered = false) (fun h =>
        let w := x.drain.slots.take 8
        let rest := x.drain.slots.drop 8
        let first := if d.moved = 0 then (w.head?.map (·.num)).getD 0 else d.dw2
        let nrec := d.dw1 + w.length
        let moved := d.moved + 64
        let h := h.ringWrite r (d.addr + d.moved) (evWord w)
        let h := h.modDesc r d.slot (fun d => { d with started := true, moved := moved, dw1 := nrec, dw2 := first })
        let full := decide (h.bufLen r d ≤ moved) || (rest.isEmpty && x.drain.flushed)
        let h := if full then h.finDesc r d.slot cOK (2 ^ 16 * nrec + nrec * 8) first else h
        ((h.setStream v { x with drain := { x.drain with slots := rest } }).drained v w).heldClose v)

def execDrainWordWritten (v : StreamId) (s : State) : Host.Outcome State Fault Refusal := runLive (fun h => h.drainWord v) s

/-- Telemetry of one port (R453). -/
def Hub.portTelemetry (h : Hub) (n : Nat) : Hub :=
  let sel := h.get F.EVS_TELCFG_SEL
  let power := h.get F.PORT_CCCTL_ROLE n != 4
  let h := if bitOf sel 0 && power then h.rec1 n 2 0x01 n (h.get F.PORT_PPPWR_P n) else h
  let h := if bitOf sel 1 then h.rec1 n 2 0x02 n (2 ^ 8 * h.get F.TRF_SHPSTAT_UTX n + h.get F.TRF_SHPSTAT_URX n) else h
  if bitOf sel 2 && power then h.rec2 n 2 0x03 n 0 ((h.pp n).energy / 1000000) else h

/-- TELEMETRY (R453): at every ridge time that is a multiple of PER × 200,000 ticks. -/
def Hub.telemetry (h : Hub) : Hub :=
  h.when (h.flag F.EVS_TELCFG_EN ∧ h.get F.EVS_TELCFG_PER ≠ 0 ∧ h.ridge % (200000 * h.get F.EVS_TELCFG_PER) = 0 ∧
      h.evs.telAt ≠ some h.now) (fun h =>
    { h with evs := { h.evs with telAt := some h.now } }.each ports (fun n g => g.portTelemetry n))

def execTelemetry (s : State) : Host.Outcome State Fault Refusal := run Hub.telemetry s

/-- Records of a producer that are undrained in its stream. -/
def Hub.undrained (h : Hub) (p : Nat) : Nat := (h.stream (h.get F.EVS_PROD_STREAM p)).undrained p

/-- The grants that count against a stream, with producer `p` left out (R448). -/
def Hub.granted (h : Hub) (v p : Nat) : Nat :=
  (List.range 162).foldl (fun a q =>
    if q ≠ p ∧ h.get F.EVS_PROD_STREAM q = v ∧ (h.flag F.EVS_PROD_EN q ∨ 0 < h.undrained q) then a + h.get F.EVS_PROD_GRANT q else a) 0

/-- A write of EVS_PRODp (R448). -/
def Hub.prodWrite (h : Hub) (p : Nat) (w : Word) : Hub :=
  let was := h.flag F.EVS_PROD_EN p
  let on := w.bits 31 1 == 1
  let und := h.undrained p
  let free := !was && und == 0
  let v := if free then w.bits 24 3 else h.get F.EVS_PROD_STREAM p
  let g := if free ∧ w.bits 0 10 ≤ 960 then w.bits 0 10 else h.get F.EVS_PROD_GRANT p
  if (on ∨ 0 < und) ∧ 960 < h.granted v p + g then (h.raise F.EVS_ERR_VALID 1).set F.EVS_ERR_PROD p
  else
    let h := ((h.set F.EVS_PROD_STREAM v p).set F.EVS_PROD_GRANT g p).set F.EVS_PROD_EN (b2n on) p
    if on && !was then h.set F.EVS_PROD_CREDIT (g - und) p else h

/-- PRODUCER_WRITE (R448): S0's alone. -/
def execProducerWrite (p : Path) (pr : Fin 162) (w : Word) (s : State) : Host.Outcome State Fault Refusal :=
  runW (fun _ h => h.when ((h.pathLimit p).isNone) (fun h => h.prodWrite pr w)) s

/-! ## Fatal errors and the cairn (R459 to R461) -/

/-- A port's link goes down and its lanes fall silent (R459). -/
def Hub.silence (h : Hub) (n : Nat) : Hub :=
  let h := if (h.lane n).turn.isSome then h.turnEnd n 3 else h
  let h := h.linkDown n causeLanes
  if h.get F.PORT_LSTAT_STATE n = 0 then h else h.toDisabled n

/-- A fatal error (R459). A later one changes nothing any more. -/
def Hub.fatal (h : Hub) (cause detail : Nat) : Hub :=
  if h.fatal? then h
  else
    let h := ((h.set F.CORE_STAT_CEIL 0).set F.GLB_FATAL_CAUSE cause).set F.GLB_FATAL_DETAIL detail
    let h := (h.set64 F.GLB_FATALT_LO_T F.GLB_FATALT_HI_T h.ridge).fault0 0x13 srcHub cause
    let h := (h.each ports (fun n g => g.silence n)).mirq irqNmi
    { h with evs := { h.evs with stopped := some h.now } }.set F.GLB_FATAL_VALID 1

/-- STAGE_STALL (R459): a handshake stage of the core has not completed for 1,000 ticks. -/
def execStageStall (stage : BitVec 16) (s : State) : Host.Outcome State Fault Refusal := run (fun h => h.fatal 5 stage.toNat) s

/-- CAIRN_DECLARE (R459, Table 17-17): the management controller's alone. -/
def Hub.cairnDeclare (h : Hub) (p : Path) (v : Word) : Hub :=
  h.when (p = .mgmt ∧ v.bits 30 1 = 1) (fun h => (h.set F.GLB_CAIRNSTAT_DECLARE 1).fatal 4 0)

def execCairnDeclare (p : Path) (v : Word) (s : State) : Host.Outcome State Fault Refusal := runW (fun _ h => h.cairnDeclare p v) s

/-- A section of the cairn (R461). -/
def cairnSection (k : Nat) (b : Bytes) : Bytes :=
  leBytes 2 k ++ leBytes 2 0 ++ leBytes 4 b.length ++ leBytes 8 0 ++ b ++ List.replicate (64 * ceilDiv b.length 64 - b.length) 0#8

/-- The cairn with the data of its sections by type (R461, Table 17-8); section 7 is left out while DBG_LOCK is blown. -/
def Hub.cairn (h : Hub) (secs : List (Nat × Bytes)) : Bytes :=
  let l := [1, 2, 3, 4, 5, 6, 7, 8, 9].filterMap (fun k => if k = 7 ∧ h.flag F.GLB_DBG_LOCKED then none else secs.find? (fun e => e.1 == k))
  let body := l.flatMap (fun e => cairnSection e.1 e.2)
  let head := leBytes 4 0x43414952 ++ leBytes 2 1 ++ leBytes 2 l.length ++ leBytes 4 (64 + body.length) ++
    leBytes 4 (h.get F.GLB_FATAL_CAUSE + 2 ^ 16 * h.get F.GLB_FATAL_DETAIL) ++
    leBytes 8 (h.get64 F.GLB_FATALT_LO_T F.GLB_FATALT_HI_T) ++ leBytes 2 (h.get F.FAB_ID_HUBID) ++ leBytes 1 (h.get F.GLB_ID_REV) ++
    leBytes 1 (h.get F.GLB_DBG_LOCKED + h.get F.TIME_STAT_STATE * 2) ++ leBytes 32 h.boot.fwid
  head ++ leBytes 4 (crc32 (head ++ leBytes 4 0 ++ body)) ++ body

/-- The cairn goes to its destination (R460); LASTLEN tells its length. -/
def Hub.writeCairn (h : Hub) (b : Bytes) : Hub :=
  let a := h.get64 F.GLB_CAIRNADDR_LO_ADDR F.GLB_CAIRNADDR_HI_ADDR
  let h := if h.flag F.GLB_CAIRNCFG_DEST then h.emit (.flash a b)
    else if h.flag F.HIF_PSTAT_LINKUP then h.hostWrite 0 a b
    else if h.flag F.GLB_CAIRNCFG_FALLBACK then h.emit (.flash (h.get F.GLB_CAIRNFLASH_FLASH) b)
    else h
  h.set F.GLB_CAIRNSTAT_LASTLEN (ceilDiv b.length 64)

/-- The reset that ends a fatal error (R460). -/
def Hub.fatalReset (h : Hub) (otp : Tab Nat) (straps : Nat) : Hub :=
  (h.set F.GLB_CAIRNSTAT_LASTCAUSE (h.get F.GLB_FATAL_CAUSE)).chipReset .cairn otp straps

/-- CAIRN_DONE (R460): firmware has written the cairn, of at most 2 MiB, and writes DONE. -/
def Hub.cairnDone (h : Hub) (otp : Tab Nat) (p : Path) (v : Word) (secs : List (Nat × Bytes)) (straps : Nat) : Hub :=
  h.when ((h.pathLimit p).isNone ∧ v.bits 31 1 = 1) (fun h =>
    let h := h.set F.GLB_CAIRNSTAT_DONE 1
    let b := h.cairn secs
    if h.fatal? ∧ b.length ≤ 2097152 then (h.writeCairn b |>.set F.GLB_CAIRNSTAT_TIMEDOUT 0).fatalReset otp straps else h)

def execCairnDone (p : Path) (v : Word) (secs : List (Nat × List (BitVec 8))) (straps : BitVec 8) (s : State) :
    Host.Outcome State Fault Refusal := runW (fun otp h => h.cairnDone otp p v secs straps.toNat) s

/-- CAIRN_TIMEOUT (R460): TMO × 10 ms after the fatal error. -/
def Hub.cairnTimeout (h : Hub) (otp : Tab Nat) (straps : Nat) : Hub :=
  h.when (h.fatal? ∧ h.due (h.evs.stopped.map (· + 2000000 * h.get F.GLB_CAIRNCFG_TMO))) (fun h =>
    (h.set F.GLB_CAIRNSTAT_TIMEDOUT 1).fatalReset otp straps)

def execCairnTimeout (straps : BitVec 8) (s : State) : Host.Outcome State Fault Refusal :=
  runO (fun otp h => h.cairnTimeout otp straps.toNat) s

/-! ## Memories (R195, R458) -/

/-- KENNEL_SCRUB (R195): every 64 ticks one cell of each bank, in order, is read and rewritten if it is allocated; `ecc` lists the
errors found, and whether they are double. -/
def Hub.kennelScrub (h : Hub) (ecc : List (Nat × Bool)) : Hub :=
  h.when ((h.core.scrub + 1) * 64 ≤ h.now) (fun h =>
    let c := h.core.scrub % 4096
    let used (k : Nat) : Bool := h.core.frames.any (fun e => match e.2 with
      | some f => f.cells.any (fun x => x.cell == k && decide (0 < x.refs))
      | none => false)
    let h' := { h with core := { h.core with scrub := h.core.scrub + 1 } }
    ecc.foldl (fun g e => if e.1 / 64 = c ∧ used e.1 then g.eccCell e.1 e.2 else g) h')

def execKennelScrub (ecc : List (Nat × Bool)) (s : State) : Host.Outcome State Fault Refusal := run (fun h => h.kennelScrub ecc) s

/-- A fault of a memory's row is repaired: a spare row of its array, or, for the kennel, where none is left, its cells retired. -/
def Hub.spare (h : Hub) (mem arr row key : Nat) : Hub :=
  let k := 2 ^ 20 * mem + arr
  let n := Tab.get 0 h.core.spares k
  let r : RowSt := Tab.get {} h.core.rows key
  if n < 4 then
    let h := { h with core := { h.core with spares := Tab.set 0 h.core.spares k (n + 1), rows := Tab.set {} h.core.rows key {} } }
    (h.bump F.CORE_ECCCNT_REPAIRED).fault0 0x04 srcHub (2 ^ 16 * mem + row)
  else
    let h := { h with core := { h.core with rows := Tab.set {} h.core.rows key { r with faulted := false, retired := true },
                                            retired := h.core.retired + if mem = 0 then 16 else 0 } }
    ((h.bump F.CORE_ECCCNT_RETIRED).fault0 0x04 srcHub (2 ^ 23 + 2 ^ 16 * mem + row)).pool

/-- Cells of a kennel row. -/
def rowCells (key : Nat) : List Nat := (List.range 16).map (fun i => (key % 256 * 16 + i) * 64 + key / 256)

/-- The row's cells return to the free list: those that were taken off it unused as well. -/
def Hub.rowBack (h : Hub) (key : Nat) : Hub :=
  let b := key / 256
  let k := Tab.get {} h.core.banks b
  let mine := (rowCells key).filter (fun c => decide (c / 64 < k.fresh))
  { h with core := { h.core with banks := Tab.set {} h.core.banks b { k with freed := mine ++ k.freed.filter (fun c => !mine.contains c) } } }

/-- ROW_REPAIR (R195, R458): a faulted row of the kennel once its cells are all free; of another memory at once. -/
def Hub.rowRepair (h : Hub) (mem arr row : Nat) : Hub :=
  let key := if mem = 0 then row else 2 ^ 20 * mem + row
  h.when ((Tab.get ({} : RowSt) h.core.rows key).faulted ∧ (mem = 0 → row < 16384 ∧ ¬ h.core.frames.any (fun e => match e.2 with
      | some f => f.cells.any (fun x => decide (0 < x.refs) && rowKey x.cell == row)
      | none => false))) (fun h =>
    if mem = 0 then ((h.spare 0 (row / 256) row key).rowBack row) else h.spare mem arr row key)

def execRowRepair (mem : Fin 13) (arr : Fin 64) (row : BitVec 16) (s : State) : Host.Outcome State Fault Refusal :=
  run (fun h => h.rowRepair mem arr row.toNat) s

/-- A record of a bank is replaced by a LOSS record of producer 0xFF (Table 17-6). -/
def Hub.bankError (h : Hub) (v num : Nat) : Hub :=
  let x := h.stream v
  let loss := recHead h 1 1 (srcStream v) (0xFF * 2 ^ 16 + 1)
  let fix (b : Bank) : Bank := { b with slots := b.slots.map (fun s => if s.num = num then { s with word := loss } else s) }
  if (x.fill.slots ++ x.drain.slots).any (fun s => s.num == num) then
    (h.setStream v { x with fill := fix x.fill, drain := fix x.drain }).bump F.EVS_CNT_MEMERR v
  else h

/-- What an uncorrectable error does where a memory is not the kennel (Table 17-6); `a` and `b` name what stood there: port and
link sequence number, pipe and layer, context, window, stream and record number, flow-cache index. -/
def Hub.memEffect (h : Hub) (mem row a b : Nat) : Hub :=
  match mem with
  | 1 => h.fatal 1 row
  | 2 => h.setLink a { h.link a with ret := (h.link a).ret.map (fun r => if r.seq = b then { r with bad := true } else r) }
  | 3 => h.fatal 2 row
  | 4 => h.fatal 2 row
  | 5 => h.fatal 2 row
  | 6 => h.fatal 2 row
  | 7 => if h.pState a ≠ pIDLE ∧ ((h.pipe a).layer b).on then h.underrun a b (h.get F.RAS_STAT_LINE a) else h
  | 8 => match h.running a with
    | some q => (((h.bump F.PERI_PCNT_XACTERR q.port).endXfer q xXACTERR)).haltCtx a
    | none => h
  | 9 => h.fatal 3 row
  | 10 => let r := h.draw
          if h.wState a = wRUN ∨ h.wState a = wBACKOFF then r.2.winError a (6 + r.1 % 2) else h
  | 11 => h.bankError a b
  | 12 => { h with core := { h.core with fc := Tab.set none h.core.fc a none } }
  | _ => h

/-- What is named there exists. -/
def memPlace (mem a b : Nat) : Bool :=
  match mem with
  | 2 => decide (a < 32)
  | 7 => decide (a < 8 ∧ b < 4)
  | 8 => decide (a < 1024)
  | 10 => decide (a < 16)
  | 11 => decide (a < 8)
  | 12 => decide (a < 2048)
  | _ => true

/-- Memories whose uncorrectable errors are fatal. -/
def memFatal (mem : Nat) : Bool := mem == 1 || mem == 3 || mem == 4 || mem == 5 || mem == 6 || mem == 9

/-- MEMORY_SCRUB (R458): a row of a memory other than the kennel is read: 0 no error, 1 a single-bit error, corrected, 2 an
uncorrectable one. -/
def Hub.memoryScrub (h : Hub) (mem row err a b : Nat) : Hub :=
  h.when (mem ≠ 0 ∧ memPlace mem a b) (fun h =>
    if err = 0 then h
    else
      let h := (h.bump (if err = 1 then F.CORE_ECCCNT_CORR else F.CORE_ECCCNT_UNCORR)).rowError (2 ^ 20 * mem + row) (err == 2)
      if err = 1 then h
      else
        let h := h.memEffect mem row a b
        if memFatal mem then h else h.fault0 0x11 srcHub (2 ^ 16 * mem + row))

def execMemoryScrub (mem : Fin 13) (row : BitVec 16) (err : Fin 3) (a b : BitVec 32) (s : State) : Host.Outcome State Fault Refusal :=
  run (fun h => h.memoryScrub mem row.toNat err a.toNat b.toNat) s

end Sys2Proof.Machine
end

