-- ==== Sys2Proof/Machine/Fabric.lean ====
section
/-! DEFINITION. The meanings of the fabric-assembly commands: HELLO and the roles it settles, prefix delegation, and the
whole-site start (spec/06_fabric_assembly.md). -/

namespace Sys2Proof.Machine

/-! ## Messages -/

/-- Bits `a` to `b` of a 32-byte message payload (Table 6-2). -/
def Frm.fld (f : Frm) (a b : Nat) : Nat := wire 256 (beNat (sub f.data 0 32)) a b

/-- The oldest message with this MOP whose version is known and whose link is still UP, with the hub without it; others
have no effect (Table 6-2, R190). -/
def Hub.fabTake (h : Hub) (m : Nat) (f : Frm → Hub → Hub) : Hub :=
  match h.takeMsg (fun x => x.isMop m) with
  | none => h
  | some (x, h) => h.when (x.fld 8 15 = 1 ∧ x.src < 32 ∧ h.linkUp x.src) (f x)

/-- A message that came on another port than the one named for it is counted (R171). -/
def Hub.misplaced (h : Hub) : Hub := h.bump F.FAB_ASMCNT_ROLEERR

/-! ## HELLO (R163 to R168, R171 to R173) -/

/-- Two ranges overlap: the shorter prefix agrees. -/
def overlaps (b1 l1 b2 l2 : Nat) : Bool := inRange b1 b2 (min l1 l2)

/-- The offer of a hub to the partner on DOWN port `n`, or the result code of its refusal (R172). A range recorded on the
port is offered again (R175). -/
def Hub.offerFor (h : Hub) (n : Nat) : (Nat × Nat × Nat) ⊕ Nat :=
  let base := h.get F.FAB_ID_HUBID
  let len := h.get F.FAB_ID_LEN
  let d := h.get F.FAB_ID_DEPTH
  let cfg := h.portCfg n
  let mode := cfg.bits 9 2
  let auto := mode == 0
  let clen := if auto then len + 6 else cfg.bits 11 5
  let off := if auto then n + 1 else cfg.bits 16 16
  if h.flag F.FAB_PORTDLG_VALID n then .inl (h.get F.FAB_PORTDLG_BASE n, h.get F.FAB_PORTDLG_LEN n, d + 1)
  else if mode = 2 then .inr 8
  else if d = 15 then .inr 11
  else if auto ∧ 10 < len then .inr 8
  else if clen ≤ len ∨ 16 < clen ∨ off = 0 ∨ 2 ^ (clen - len) ≤ off then .inr 9
  else
    let cbase := (base + off * 2 ^ (16 - clen)) % 2 ^ 16
    let cl := if h.get F.FAB_PORTSTAT_KIND n = 0 then clen else 16
    if ports.any (fun m => m != n && h.flag F.FAB_PORTDLG_VALID m &&
        overlaps cbase cl (h.get F.FAB_PORTDLG_BASE m) (h.get F.FAB_PORTDLG_LEN m)) then .inr 10
    else .inl (cbase, cl, d + 1)

/-- A DLG is sent (R173). -/
def Hub.sendDlg (h : Hub) (n : Nat) (o : Nat × Nat × Nat) : Hub :=
  let p := h.fabp n
  (h.setFabp n { p with sends := p.sends + 1, sentAt := h.now, offer := some o, await := true }).dlgMsg n o

/-- The offer of a link-up, once the partner's HELLO has come and this hub holds a range (R172). -/
def Hub.offer (h : Hub) (n : Nat) : Hub :=
  let p := h.fabp n
  if h.role n = 1 ∧ h.get F.FAB_PORTSTAT_STATE n ≠ 9 ∧ h.flag F.FAB_ID_VALID ∧ p.heard ∧ ¬ p.offered then
    let h := h.setFabp n { p with offered := true }
    match h.offerFor n with
    | .inl o => h.sendDlg n o
    | .inr c => h.dlgErr n c
  else h

/-- A port on which a signal is seen. -/
def Hub.signalOn (h : Hub) (n : Nat) : Bool :=
  (h.lane n).lock != 0 || (h.lane n).sigAt.isSome

/-- After a clash on its uplink a hub without a range repeats acquisition on another port with a signal (R167); a role that resolves
anew is announced (R171). -/
def Hub.reacquire (h : Hub) (n : Nat) : Hub :=
  let old := h.role
  let auto := (h.portCfg n).bits 0 3 == 0
  let h := if auto then h.each ports (fun m g =>
      if (g.portCfg m).bits 0 3 = 0 then g.setFabp m { g.fabp m with role := if m = n then 1 else 0 } else g) else h
  let h := match ports.find? (fun m => m != n && h.mayAcquire m && h.flag F.PORT_LCTL_EN m && h.signalOn m) with
    | some m => (if h.role m = 0 then h.resolveAuto m else h).acquire m
    | none => (h.set F.TIME_STAT_STATE tmBOOT).set F.TIME_STAT_SRCVALID 0
  h.helloRoles old

/-- A role clash on a link, from the roles both ends announce (R167). -/
def Hub.roleClash (h : Hub) (n prole : Nat) : Bool :=
  let pr := (h.lane n).prole
  let pchild := pr == 2 || prole == 2 || prole == 3
  (h.role n == 4 && h.tsRole n == 1 && pr == 1) || (h.tsRole n == 2 && pchild)

/-- A HELLO is taken on port `n`. One that comes in the tick in which the 20,000-tick repeat expires goes first: no DLG is repeated
then, and the interval runs again (R190). -/
def Hub.takeHello (h : Hub) (n : Nat) (f : Frm) : Hub :=
  let prole := f.fld 38 40
  let h := (h.set F.FAB_PORTSTAT_KIND (f.fld 32 35) n).set F.FAB_PORTSTAT_PHUB (f.fld 48 63) n
  let p := h.fabp n
  let h := h.setFabp n { p with heard := true, helloAt := some h.now,
                                sentAt := if p.await ∧ p.sentAt + 20000 = h.now then h.now else p.sentAt }
  if h.flag F.TIME_CTL_SUMMIT ∧ f.fld 37 37 = 1 then h.roleErr n
  else if h.roleClash n prole then
    let up := h.role n == 2 && !h.flag F.FAB_ID_VALID
    let h := h.roleErr n
    if up then h.reacquire n else h
  else if h.role n = 1 ∧ prole = 3 then (h.set F.FAB_PORTSTAT_STATE 9 n).readyCheck
  else
    let h := if h.get F.FAB_PORTSTAT_STATE n = 9 then h.set F.FAB_PORTSTAT_STATE (if h.fab.startAt.isSome then 2 else 0) n else h
    h.offer n

/-- HELLO_RECEIVE (R171): the oldest HELLO delivered. -/
def Hub.helloReceive (h : Hub) : Hub := h.fabTake mopHello (fun f h => h.takeHello f.src f)

def execHelloReceive (s : State) : Host.Outcome State Fault Refusal := run Hub.helloReceive s

/-! ## Delegation (R173, R174) -/

/-- DLG_REPEAT (R173): every 20,000 ticks up to 4 sends; after the fourth the port is set to DLGERR. -/
def Hub.dlgRepeat (h : Hub) (n : Nat) : Hub :=
  let p := h.fabp n
  h.when (p.await = true ∧ p.sentAt + 20000 ≤ h.now ∧ h.linkUp n) (fun h =>
    match p.offer with
    | some o => if p.sends < 4 then h.sendDlg n o else h.dlgErr n (h.get F.FAB_PORTSTAT_RESULT n)
    | none => h)

def execDlgRepeat (n : PortId) (s : State) : Host.Outcome State Fault Refusal := run (fun h => h.dlgRepeat n) s

/-- The child takes a range: its ID changes, so HELLO goes out, its own DOWN ports can be offered ranges, and it may have
joined (R171, R174, R185). -/
def Hub.takeRange (h : Hub) (base len depth : Nat) : Hub :=
  let h := (((h.set F.FAB_ID_VALID 1).set F.FAB_ID_HUBID base).set F.FAB_ID_LEN len).set F.FAB_ID_DEPTH depth
  (h.helloAll.each ports (fun n g => if g.linkUp n then g.offer n else g)).joinCheck

/-- A DLG is evaluated in the order of Table 6-4 and answered. One off the primary uplink is counted (R171) and answered
with code 1. -/
def Hub.takeDlg (h : Hub) (n : Nat) (f : Frm) : Hub :=
  let site := f.fld 16 31
  let base := f.fld 32 47
  let len := f.fld 48 52
  if h.role n ≠ 2 then h.misplaced.dlgackMsg n 1 base len
  else
    let h := if h.get F.FAB_CTL_SITEID = 0 then h.set F.FAB_CTL_SITEID site else h
    if h.get F.FAB_CTL_SITEID ≠ site then h.dlgackMsg n 2 base len
    else if 15 < f.fld 53 56 then h.dlgackMsg n 3 base len
    else if h.flag F.FAB_ID_VALID then
      h.dlgackMsg n (if h.get F.FAB_ID_HUBID = base ∧ h.get F.FAB_ID_LEN = len then 0 else 4) base len
    else (h.dlgackMsg n 0 base len).takeRange base len (f.fld 53 56)

/-- DLG_RECEIVE (R174). -/
def Hub.dlgReceive (h : Hub) : Hub := h.fabTake mopDlg (fun f h => h.takeDlg f.src f)

def execDlgReceive (s : State) : Host.Outcome State Fault Refusal := run Hub.dlgReceive s

/-- A DLGACK on a DOWN port: the range is recorded and the port reads JOINED, or DLGERR with the result (R174, R186). One
that answers no offer of this link-up changes nothing. -/
def Hub.takeDlgack (h : Hub) (n : Nat) (f : Frm) : Hub :=
  let p := h.fabp n
  let r := f.fld 32 35
  if h.role n ≠ 1 then h.misplaced
  else
    match p.offer with
    | none => h
    | some o =>
      if ¬ p.await ∨ o.1 ≠ f.fld 48 63 ∨ o.2.1 ≠ f.fld 64 68 then h
      else
        let h := h.setFabp n { p with await := false }
        let h := if 1 < p.sends then h.bump F.FAB_ASMCNT_RETRY else h
        if r = 0 then
          ((((h.set F.FAB_PORTDLG_VALID 1 n).set F.FAB_PORTDLG_LEN o.2.1 n).set F.FAB_PORTDLG_BASE o.1 n).set
            F.FAB_PORTSTAT_RESULT 0 n).set F.FAB_PORTSTAT_STATE 3 n
        else h.dlgErr n r

/-- DLGACK_RECEIVE (R174). -/
def Hub.dlgackReceive (h : Hub) : Hub := h.fabTake mopDlgack (fun f h => h.takeDlgack f.src f)

def execDlgackReceive (s : State) : Host.Outcome State Fault Refusal := run Hub.dlgackReceive s

/-! ## The start (R185 to R188) -/

/-- STAGGER_GROUP_START (R185): the next group, GRPSP ms after the one before; its DOWN ports' power enables are set. -/
def Hub.groupStart (h : Hub) : Hub :=
  let g := h.fab.groups
  h.when (g < 4 ∧ h.due (h.fab.startAt.map (· + g * 200000 * h.get F.FAB_CTL_GRPSP))) (fun h =>
    let h := { h with fab := { h.fab with groups := g + 1 } }
    h.each (h.downPorts.filter (fun n => n % 4 = g)) (fun n k => (k.setFabp n { k.fabp n with group := some k.now }).ppEnable n 1))

def execStaggerGroupStart (s : State) : Host.Outcome State Fault Refusal := run Hub.groupStart s

/-- PORTTMO_EXPIRY (R186): PORTTMO × 10 ms after the group tick, or after a later insertion, a port still waits for its partner. A
HELLO in the tick of the expiry goes first, and the port waits on (R190). -/
def Hub.portTmo (h : Hub) (n : Nat) : Hub :=
  let p := h.fabp n
  let at_ := p.group.map (· + 2000000 * h.get F.FAB_CTL_PORTTMO)
  h.when (h.role n = 1 ∧ h.get F.FAB_PORTSTAT_STATE n = 2 ∧ h.due at_ ∧ p.helloAt ≠ at_) (fun h => h.fabFailed n)

def execPorttmoExpiry (n : PortId) (s : State) : Host.Outcome State Fault Refusal := run (fun h => h.portTmo n) s

/-- READY_RECEIVE (R187): the partner's counts; the port settles READY. -/
def Hub.readyReceive (h : Hub) : Hub :=
  h.fabTake mopReady (fun f h =>
    let n := f.src
    if h.role n ≠ 1 then h.misplaced
    else (h.setFabp n { h.fabp n with nready := f.fld 32 48, nfail := f.fld 64 80 }).settle n 4)

def execReadyReceive (s : State) : Host.Outcome State Fault Refusal := run Hub.readyReceive s

/-- SITEREADY_RECEIVE (R188). -/
def Hub.siteReadyReceive (h : Hub) : Hub :=
  h.fabTake mopSiteready (fun f h =>
    if h.role f.src ≠ 2 then h.misplaced
    else (h.set F.FAB_SITE_SREADY 1).set64 F.FAB_SRTIME_LO_SRT_LO F.FAB_SRTIME_HI_SRT_HI (f.fld 128 191))

def execSitereadyReceive (s : State) : Host.Outcome State Fault Refusal := run Hub.siteReadyReceive s

end Sys2Proof.Machine
end

