-- ==== Sys2Proof/Machine/Host.lean ====
section
/-! DEFINITION. The meanings of the host-interface commands: doorbells, fetches, interrupts, ring enable and reset, and the
PCIe resets (spec/09_host_rings.md). -/

namespace Sys2Proof.Machine

/-! ## Doorbells (R252, R258, R259, R276) -/

/-- DOORBELL (R258): a write to HIF_DB in the page of slice `s`; one that does not cover the word is discarded (R252). -/
def Hub.dbWrite (h : Hub) (s : Nat) (be : BitVec 4) (v : Word) : Hub := h.when (be = 15#4) (fun h => h.doorbell (some s) v)

def execDoorbell (sl : SliceId) (be : BitVec 4) (v : Word) (s : State) : Host.Outcome State Fault Refusal :=
  runW (fun _ h => h.dbWrite sl be v) s

/-- MGMT_DOORBELL (R259): a write to HIF_MDB. -/
def Hub.mdbWrite (h : Hub) (p : Path) (be : BitVec 4) (v : Word) : Hub := h.when (be = 15#4) (fun h => h.doorbell (h.pathLimit p) v)

def execMgmtDoorbell (p : Path) (be : BitVec 4) (v : Word) (s : State) : Host.Outcome State Fault Refusal :=
  runW (fun _ h => h.mdbWrite p be v) s

/-- ARM (R276): a write to HIF_ARM in the page of slice `s`. -/
def Hub.armWrite (h : Hub) (s : Nat) (be : BitVec 4) (v : Word) : Hub := h.when (be = 15#4) (fun h => h.arm (some s) v)

def execArm (sl : SliceId) (be : BitVec 4) (v : Word) (s : State) : Host.Outcome State Fault Refusal :=
  runW (fun _ h => h.armWrite sl be v) s

/-- MGMT_ARM (R259): a write to HIF_MARM. -/
def Hub.marmWrite (h : Hub) (p : Path) (be : BitVec 4) (v : Word) : Hub := h.when (be = 15#4) (fun h => h.arm (h.pathLimit p) v)

def execMgmtArm (p : Path) (be : BitVec 4) (v : Word) (s : State) : Host.Outcome State Fault Refusal :=
  runW (fun _ h => h.marmWrite p be v) s

/-! ## Fetches (R260, R261, R273) -/

/-- Reads of `k` descriptors from slot `i` on: one, or for a remote ring one per page (R277). -/
def Hub.readDescs (h : Hub) (r i k : Nat) : Hub :=
  let a := h.get64 F.RCTX1_DBASE_LO F.RCTX2_DBASE_HI r + i * 32
  let x := h.ring r
  let b := h.wBase (h.get F.RCTX0_WIN r) + a
  let new := if h.rRemote r then (pagesOf b (k * 32)).map (fun p => ({ slot := i + (p.1 - b) / 32, n := p.2 / 32 } : DRead))
             else [{ slot := i, n := k }]
  (h.setRing r { x with reads := x.reads ++ new }).ringRead r a (k * 32) (.desc r i) (fun o => .rdesc r (i + o / 32))

/-- Cells of host staging taken by frames and by data not yet offered (R261, Table 7-3). -/
def Hub.hostStaged (h : Hub) : Nat :=
  h.hif.rings.foldl (fun a x => if h.rKind x.1 = kTX then
      x.2.descs.foldl (fun b d => if d.stage = .fetching ∨ d.stage = .ready then b + cellsOf (d.len kTX + 16) else b) a
    else a) (h.staged 32)

/-- DESCRIPTOR_FETCH_ISSUE (R260): at most BATCH descriptors, up to PIDX and the end of the array; none for a TX ring while the
host staging is full (Table 7-3). -/
def Hub.fetchIssue (h : Hub) (r : Nat) : Hub :=
  let x := h.ring r
  let n := h.rN r
  let k := min (h.get F.HIF_FETCHCFG_BATCH) (min (n - x.next) ((h.get F.RCTX6_PIDX r + n - x.next) % n))
  h.when (h.rState r = rRUN ∧ 0 < k ∧ (h.rKind r = kTX → h.hostStaged < 1024)) (fun h =>
    let new := (List.range k).map (fun i => ({ slot := x.next + i } : Desc))
    (h.setRing r { x with next := (x.next + k) % n, descs := x.descs ++ new }).readDescs r x.next k)

def execDescriptorFetchIssue (r : RingId) (s : State) : Host.Outcome State Fault Refusal := runLive (fun h => h.fetchIssue r) s

/-- DESCRIPTOR_ARRIVAL (R260): the words of the oldest descriptor read of a local ring. -/
def Hub.descArrival (h : Hub) (r : Nat) (ws : List Word) : Hub :=
  match h.oldestRead (ofDescs r) with
  | some q => h.when (4 * ws.length = h.fetchDue q.fetch) (fun h =>
      let h := h.fetchEnd q.fetch
      match q.who with
      | .desc _ slot => if q.dead then h else h.descArrive r slot (ws.map (·.toNat))
      | _ => h)
  | none => h

def execDescriptorArrival (r : RingId) (ws : List Word) (s : State) : Host.Outcome State Fault Refusal :=
  runLive (fun h => h.descArrival r ws) s

/-- A descriptor's data fetch may start: run-ahead, fence, staging, and for a block write the hold, and the start of the transfers
before it (R261, R272, R302). -/
def Hub.mayFetch (h : Hub) (r i : Nat) (d : Desc) : Bool :=
  let k := h.rKind r
  decide (i ≤ h.get F.HIF_FETCHCFG_RADEPTH) && (d.f 0 26 1 == 0 || i == 0) &&
  (if k = kTX then decide (h.hostStaged + cellsOf (d.len k + 16) ≤ 1024)
   else if k = kBLK then ((h.ring r).descs.take i).all (·.begun) && decide (h.holdUse + ceilDiv (h.fetchLen r d) 256 ≤ 4096)
   else true)

/-- A ring may read for a descriptor: it runs, or it is being reset and the descriptor has started (R274, Table 9-13). -/
def Hub.mayRead (h : Hub) (r : Nat) (d : Desc) : Bool := h.rState r == rRUN || (h.rState r == rRESETTING && d.started)

/-- Where a data fetch reads. -/
def Hub.readData (h : Hub) (r : Nat) (d : Desc) : Hub :=
  h.ringRead r (d.addr + d.asked + d.data.length) (h.fetchLen r d - d.data.length) (.data r d.slot) (fun o => .rdata r d.slot (d.asked + d.data.length + o))

/-- DATA_FETCH_ISSUE (R261): the next descriptor in slot order whose data has not been asked for. -/
def Hub.dataIssue (h : Hub) (r : Nat) : Hub :=
  match (h.ring r).descs.findIdx? (fun d => d.stage == .checked) with
  | none => h
  | some i =>
    match (h.ring r).descs[i]? with
    | none => h
    | some d =>
      h.when (h.mayRead r d) (fun h =>
        h.when (0 < d.needs (h.rKind r) ∧ h.mayFetch r i d ∧ (h.rKind r = kBLK → (h.ring r).fetching.isNone)) (fun h =>
          (h.modDesc r d.slot (fun d => { d with stage := .fetching })).readData r d))

def execDataFetchIssue (r : RingId) (s : State) : Host.Outcome State Fault Refusal := runLive (fun h => h.dataIssue r) s

/-- DATA_ARRIVAL (R261): bytes of the oldest data fetch of a local ring. -/
def Hub.dataArrival (h : Hub) (r : Nat) (bytes : Bytes) : Hub :=
  match h.oldestRead (ofData r none) with
  | some q => h.when (bytes.length ≤ h.fetchDue q.fetch) (fun h =>
      let h := h.fetchTake q.fetch bytes.length
      match q.who with
      | .data _ slot => if q.dead then h else h.dataArrive r slot bytes
      | .resend _ t k => if q.dead then h else h.resendArrive t k bytes
      | _ => h)
  | none => h

def execDataArrival (r : RingId) (bytes : List (BitVec 8)) (s : State) : Host.Outcome State Fault Refusal :=
  runLive (fun h => h.dataArrival r bytes) s

/-- HOST_READ_FAILURE (R273): of the oldest descriptor read, or of the oldest data fetch, of a local ring; the whole of it is read
again. -/
def Hub.readFailure (h : Hub) (r : Nat) (desc : Bool) : Hub :=
  match h.oldestRead (if desc then ofDescs r else ofData r none) with
  | none => h
  | some q =>
    let h := (h.fetchEnd q.fetch).emit .aer
    if q.dead then h
    else match q.who with
      | .desc _ slot => h.descReadFailed r slot
      | .data _ slot => h.dataReadFailed r slot
      | .resend _ t k => h.resendFailed t k
      | _ => h

def execHostReadFailure (r : RingId) (desc : Bool) (s : State) : Host.Outcome State Fault Refusal :=
  runLive (fun h => h.readFailure r desc) s

/-- READ_RETRY (R273): reads of a ring whose 200 ticks have passed are issued again; a ring in ERROR reads nothing (R274). -/
def Hub.readRetry (h : Hub) (r : Nat) : Hub :=
  let x := h.ring r
  let late := x.descs.filter (fun d => d.stage == .fetching && h.due d.retryAt && h.mayRead r d)
  let h := h.when (h.rState r = rRUN) (fun h =>
    let due := x.reads.filter (fun d => h.due d.retryAt)
    let h := h.setRing r { x with reads := x.reads.map (fun d => if h.due d.retryAt then { d with retryAt := none } else d) }
    due.foldl (fun g q =>
      g.ringRead r (g.get64 F.RCTX1_DBASE_LO F.RCTX2_DBASE_HI r + q.slot * 32) (q.n * 32) (.desc r q.slot)
        (fun o => .rdesc r (q.slot + o / 32))) h)
  (late.foldl (fun g d => (g.modDesc r d.slot (fun d => { d with retryAt := none })).readData r d) h).resendRetry r

def execReadRetry (r : RingId) (s : State) : Host.Outcome State Fault Refusal := runLive (fun h => h.readRetry r) s

/-- MODERATION_TIMEOUT (R275): MTMO × 200 ticks after the first pending completion. -/
def Hub.modTimeout (h : Hub) (r : Nat) : Hub :=
  let x := h.ring r
  h.when (h.mayInt r ∧ 0 < x.pend ∧ h.get F.RCTX5_MTMO r ≠ 0 ∧ h.due (x.first.map (· + h.get F.RCTX5_MTMO r * 200)))
    (fun h => h.ringVec r)

def execModerationTimeout (r : RingId) (s : State) : Host.Outcome State Fault Refusal := runLive (fun h => h.modTimeout r) s

/-! ## Enable and reset (R278, R282, R283) -/

/-- A path reaches the ring that its HIF_RSEL selects: a slice's manager slot only rings of the slice (R282). -/
def Hub.selRing (h : Hub) (p : Path) : Option Nat :=
  let r := h.get F.HIF_RSEL_RING p.sel
  if h.pathSlice p = 0 ∨ h.pathSlice p = h.rSlice r then some r else none

/-- A write of HIF_RCTX0 on a path; what a reset cleared in the tick stays (R55). -/
def Hub.rctx0Write (h : Hub) (p : Path) (v : Word) : Hub :=
  match h.selRing p with
  | some r => h.rctx0 r (h.current (F.RCTX0_EN.addr r 0) v) (h.pathSlice p == 0)
  | none => h

/-- RING_ENABLE (R283): a write of HIF_RCTX0 with EN = 1. -/
def Hub.ringEnable (h : Hub) (p : Path) (v : Word) : Hub := h.when (v.bits 31 1 = 1) (fun h => h.rctx0Write p v)

def execRingEnable (p : Path) (v : Word) (s : State) : Host.Outcome State Fault Refusal := runW (fun _ h => h.ringEnable p v) s

/-- RING_RESET (R278): a write of HIF_RCTX0 with EN = 0. -/
def Hub.ringDisable (h : Hub) (p : Path) (v : Word) : Hub := h.when (v.bits 31 1 = 0) (fun h => h.rctx0Write p v)

def execRingReset (p : Path) (v : Word) (s : State) : Host.Outcome State Fault Refusal := runW (fun _ h => h.ringDisable p v) s

/-- RING_RESET_DEADLINE (R278): 20,000 ticks after the start. Where the slice's drain has reached its deadline too, it was forced
(R290). -/
def Hub.resetDeadline (h : Hub) (r : Nat) : Hub :=
  h.when (h.rState r = rRESETTING ∧ h.due ((h.ring r).resetAt.map (· + 20000))) (fun h =>
    let n := (h.ring r).descs.length
    let h := h.squashRing r
    let s := h.rSlice r
    let forced : Bool := match Tab.get none h.hif.srst s with
      | some x => !x.squash && decide (x.start + 20000 ≤ h.now)
      | none => false
    if 0 < n ∧ forced then h.set F.SLC_RST_FORCED 1 s else h)

def execRingResetDeadline (r : RingId) (s : State) : Host.Outcome State Fault Refusal := runLive (fun h => h.resetDeadline r) s

/-- RING_RESET_END (R278). -/
def Hub.resetEnd (h : Hub) (r : Nat) : Hub := h.when (h.rState r = rRESETTING ∧ (h.ring r).descs = []) (fun h => h.ringIdle r)

def execRingResetEnd (r : RingId) (s : State) : Host.Outcome State Fault Refusal := runLive (fun h => h.resetEnd r) s

/-! ## PCIe resets (R248, R249) -/

/-- Rings whose context differs from its reset values. -/
def Hub.usedRings (h : Hub) : List Nat :=
  (h.regs.filterMap (fun x => if 0x2000000 ≤ x.1 ∧ x.1 < 0x2040000 then some ((x.1 - 0x2000000) / 0x40) else none)).eraseDups

/-- Every local ring is reset and its context goes back to its reset values; BAR4 reads and the rings' reads of host memory end with
the bus, and MSI-X is cleared (R249, Table 18-1). -/
def Hub.resetLocal (h : Hub) : Hub :=
  let h := h.each (h.usedRings.filter (fun r => !h.rRemote r)) (fun r g =>
    if g.rState r = rIDLE then g.wipeRing r else g.ringReset r true)
  { h with hif := { h.hif with bar4 := [], reads := h.hif.reads.filter (fun q => !q.dead) }, msi := {} }

/-- PERST_N_ASSERT (R249). -/
def Hub.perstAssert (h : Hub) : Hub :=
  let h := (((h.resetLocal.raise F.HIF_PCTL_CFGRDY 0).set F.HIF_PSTAT_LINKUP 0).set F.HIF_PSTAT_WIDTH 0).set F.HIF_PSTAT_SPEED 0
  { h with hif := { h.hif with bar4sz := 0 }, pwr := { h.pwr with perst := true, d3 := false } }

def execPerstNAssert (s : State) : Host.Outcome State Fault Refusal := run Hub.perstAssert s

/-- PERST_N_RELEASE (R248): the link trains, to the width and rate it negotiates, at most MAXSPD. -/
def Hub.perstRelease (h : Hub) (width speed : Nat) : Hub :=
  let h := { h with pwr := { h.pwr with perst := false } }.domainWake dHIF
  h.when (¬ h.flag F.HIF_PSTAT_LINKUP ∧ ¬ h.strap 5 ∧ (width = 1 ∨ width = 2 ∨ width = 4 ∨ width = 8) ∧ 1 ≤ speed ∧
      speed ≤ h.get F.HIF_PCTL_MAXSPD) (fun h =>
    (((h.set F.HIF_PSTAT_LINKUP 1).set F.HIF_PSTAT_WIDTH width).set F.HIF_PSTAT_SPEED speed).emit .pcieTrain)

def execPerstNRelease (width : Fin 16) (speed : Fin 8) (s : State) : Host.Outcome State Fault Refusal :=
  run (fun h => h.perstRelease width speed) s

/-- FUNCTION_LEVEL_RESET (R249). -/
def execFunctionLevelReset (s : State) : Host.Outcome State Fault Refusal := run Hub.resetLocal s

/-- CFGRDY_SET (R248): a write of HIF_PCTL.CFGRDY = 1 fixes the BAR sizes. -/
def Hub.cfgrdySet (h : Hub) : Hub :=
  h.when (¬ h.flag F.HIF_PCTL_CFGRDY ∧ ¬ h.isHot F.HIF_PCTL_CFGRDY) (fun h =>
    let h := h.set F.HIF_PCTL_CFGRDY 1
    { h with hif := { h.hif with bar4sz := h.get F.HIF_BAR4SZ_SIZE } })

def execCfgrdySet (s : State) : Host.Outcome State Fault Refusal := runW (fun _ h => h.cfgrdySet) s

/-! ## Remote and block rings (R269, R277) -/

/-- REMOTE_POLL (R277): the producer-index word is read every POLL ticks. -/
def Hub.remotePoll (h : Hub) (r : Nat) : Hub :=
  let x := h.ring r
  let a := h.get64 F.RCTX8_PADDR_LO F.RCTX9_PADDR_HI r
  h.when (h.rState r = rRUN ∧ h.rRemote r ∧ a ≠ 0 ∧ x.polling = false ∧ x.polled + h.get F.RCTX10_POLL r ≤ h.now) (fun h =>
    (h.setRing r { x with polling := true, polled := h.now }).ringRead r a 4 (.data r 0) (fun _ => .rpidx r))

def execRemotePoll (r : RingId) (s : State) : Host.Outcome State Fault Refusal := runLive (fun h => h.remotePoll r) s

/-- BLK_TRANSFER_COMPLETE (R269): a write whose last WR has committed, and whose FLUSH read has been answered; a read whose
bytes are all in local memory. -/
def Hub.transferDone (h : Hub) (r : Nat) : Hub :=
  match (h.ring r).descs.find? (fun d => d.stage != .done) with
  | some d => h.when (h.rKind r = kBLK ∧ d.stage = .offered ∧ d.moved = d.len kBLK ∧
      (d.f 0 22 1 = 0 ∧ d.f 0 23 1 = 1 → d.flushed = true)) (fun h => h.finDesc r d.slot cOK d.moved 0)
  | none => h

def execBlkTransferComplete (r : RingId) (s : State) : Host.Outcome State Fault Refusal := runLive (fun h => h.transferDone r) s

end Sys2Proof.Machine
end

