-- ==== Sys2Proof/Machine/Lanes.lean ====
section
/-! DEFINITION. The meanings of the lane commands: training, recovery, retirement, lane turns and loopback
(spec/03_lanes.md). -/

namespace Sys2Proof.Machine

/-- PORT_LSTAT.STATE codes (Table 3-12). -/
def lsDISABLED : Nat := 0
def lsDETECT : Nat := 1
def lsALIGN : Nat := 2
def lsCONFIG : Nat := 3
def lsRATE : Nat := 4
def lsEQ : Nat := 5
def lsVERIFY : Nat := 6
def lsACTIVE : Nat := 7
def lsLOOPBACK : Nat := 8
def lsFAULT : Nat := 9

def Hub.lstate (h : Hub) (n : Nat) : Nat := h.get F.PORT_LSTAT_STATE n

/-- A training state is entered (R70). -/
def Hub.enter (h : Hub) (n state : Nat) : Hub :=
  (h.setLane n { h.lane n with since := h.now, ts1 := [], ts2 := 0, ts2From := none }).set F.PORT_LSTAT_STATE state n

/-- `k` ticks in the present training state have passed. -/
def Hub.inState (h : Hub) (n k : Nat) : Bool := decide ((h.lane n).since + k ≤ h.now)

/-! ## Enabling and training -/

/-- PORT_LCTL_EN_WRITE (R70): 1 clears the retirement mask and returns the ceiling to rate 2 (R76, R81), then DETECT once
R36 permits; 0 disables the lanes and flushes the link (Table 4-9). A port whose role is OFF holds EN at 0 (Table 6-1). -/
def Hub.lctlEn (h : Hub) (n : Nat) (en : Bool) : Hub :=
  if en then
    h.when (¬ h.flag F.PORT_LCTL_EN n ∧ h.role n ≠ 5) (fun h =>
      let h := (h.set F.PORT_LCTL_EN 1 n).clearRetire n
      let h := h.setLane n { h.lane n with ceil := 2, single := none, multi := none, nrz := 0, failed := false }
      h.tryDetect n)
  else
    h.when (h.flag F.PORT_LCTL_EN n) (fun h =>
      (h.set F.PORT_LCTL_EN 0 n).leaveActive n causeLanes (fun h => (h.flush n).toDisabled n))

def execPortLctlEnWrite (n : PortId) (en : Bool) (s : State) : Host.Outcome State Fault Refusal :=
  runW (fun _ h => h.lctlEn n en) s

/-- RETRAIN (R70): any state but DISABLED goes to DETECT; the ceiling returns to rate 2 (R76). -/
def Hub.retrain (h : Hub) (n : Nat) : Hub :=
  h.when (h.lstate n ≠ lsDISABLED) (fun h =>
    let h := h.setLane n { h.lane n with ceil := 2 }
    h.dropLanes n causeLanes)

def execRetrain (n : PortId) (s : State) : Host.Outcome State Fault Refusal := runW (fun _ h => h.retrain n) s

/-- The pattern generators and checkers follow PORT_PRBS in LOOPBACK (R91): a generator starts, changes pattern or stops; a checker
that is off, or whose pattern changed, has to synchronise anew. -/
def Hub.showPrbs (h : Hub) (n : Nat) : Hub :=
  let l := h.lane n
  let gen := h.get F.PORT_PRBS_GENEN n
  let pat := h.get F.PORT_PRBS_PAT n
  h.when (h.lstate n = lsLOOPBACK) (fun h =>
    let chk := if pat = l.genPat then l.chk &&& h.get F.PORT_PRBS_CHKEN n else 0
    let h := h.setLane n { l with gen := gen, genPat := pat, chk := chk }
    h.each [0, 1, 2, 3] (fun m g =>
      if bitOf gen m ∧ (¬ bitOf l.gen m ∨ pat ≠ l.genPat) then g.emit (.pattern n m (prbsTaps pat))
      else if bitOf l.gen m ∧ ¬ bitOf gen m then g.emit (.pattern n m []) else g))

/-- The joins of a loopback (R90): near-end parallel, near-end serial with the pins in electrical idle, far-end retiming at the
partner's request. -/
def Hub.join (h : Hub) (n lbk : Nat) (retime : Bool) : Hub :=
  let h := if (h.lane n).joined then h.emit (.loop n false []) else h
  let h := h.setLane n { h.lane n with joined := retime || lbk == 1 || lbk == 2 }
  if retime then h.emit (.loop n false [(3, 0), (2, 1)])
  else if lbk = 1 then h.emit (.loop n false [(0, 3), (1, 2)])
  else if lbk = 2 then (h.emit (.idle n 15)).emit (.loop n true [(0, 3), (1, 2)])
  else h

/-- The port leaves ACTIVE for LOOPBACK: the link layer sees link down (R90). -/
def Hub.toLoopback (h : Hub) (n lbk : Nat) (retime : Bool) : Hub :=
  h.leaveActive n causeLanes (fun h =>
    let h := (h.clearLanes n).set F.PORT_LSTAT_STATE lsLOOPBACK n
    ((h.setLane n { h.lane n with retime := retime }).join n lbk retime).showPrbs n)

/-- LOOPBACK_SELECT (R90): far-end only in mode 0; 0 leaves LOOPBACK, with three LBK exit blocks when far-end. -/
def Hub.loopback (h : Hub) (n lbk : Nat) : Hub :=
  let old := h.get F.PORT_LCTL_LBK n
  if lbk = 3 ∧ h.get F.PORT_LMODE_CUR n ≠ 0 then h
  else
    let h := h.set F.PORT_LCTL_LBK lbk n
    if lbk = 0 then
      if h.lstate n = lsLOOPBACK ∧ (h.lane n).retime = false then
        (if old = 3 then h.sendL0 n 3 (lbkBlk false) else h).toDetect n
      else h
    else if h.active n then
      let h := if lbk = 3 then h.sendL0 n 3 (lbkBlk true) else h
      h.toLoopback n lbk false
    else if h.lstate n = lsLOOPBACK ∧ (h.lane n).retime = false then h.join n lbk false
    else h

def execLoopbackSelect (n : PortId) (lbk : Fin 4) (s : State) : Host.Outcome State Fault Refusal :=
  runW (fun _ h => h.loopback n lbk) s

/-- SIGNAL_DETECT (R70): on L2 or L3, after 200 ticks in DETECT; on a sleeping port it is a wake (R430). -/
def Hub.signalDetect (h : Hub) (n m : Nat) : Hub :=
  if h.level n = lvSLEEP then (h.signalAt n).domainWake n
  else (h.signalAt n).when (h.lstate n = lsDETECT ∧ (m = 2 ∨ m = 3) ∧ h.inState n 200) (fun h => h.enter n lsALIGN)

def execSignalDetect (n : PortId) (m : LaneId) (s : State) : Host.Outcome State Fault Refusal :=
  run (fun h => h.signalDetect n m) s

/-- The agreed rate: the lower of the two target rates (R73). -/
def Hub.agreedRate (h : Hub) (n : Nat) : Nat := min (h.ownTs n).tgt (h.lane n).ptgt

/-- Pairs retired at either end, by hub lane number (R73). -/
def Hub.agreedRetire (h : Hub) (n : Nat) : Nat := union (h.get F.PORT_LRETIRE_MASK n) (flipMask (h.lane n).pretire)

/-- The turning lanes of the lane set: the pairs that are neither fixed transmit nor fixed receive (R74). -/
def Hub.turningLanes (h : Hub) (n : Nat) : Nat :=
  let r := 15 - (h.lane n).set
  without (h.lane n).set (2 ^ fixedTx r + 2 ^ fixedRx r)

/-- The lanes this end transmits on while the pairs are trained: the training-default direction, the turning pairs reversed in
phase B (R74). -/
def Hub.trainTx (h : Hub) (n : Nat) : Nat :=
  let l := h.lane n
  let d := modeTx (h.defaultMode n (15 - l.set)) (15 - l.set)
  let tl := h.turningLanes n
  if l.phase = 1 then union (without d tl) (without tl d) else d

/-- The lanes this end receives on while the pairs are trained. -/
def Hub.trainRx (h : Hub) (n : Nat) : Nat := without (h.lane n).set (h.trainTx n)

/-- This end's TS2: agreeing from CONFIG on (R72). -/
def Hub.ownTs2 (h : Hub) (n phase : Nat) (ready : Bool) : TsBlk :=
  { h.ownTs n with tgt := h.agreedRate n, retire := h.agreedRetire n, ready := ready, phase := phase }

/-- This end begins to send TS2 (R70, R72, R74). -/
def Hub.beginTs2 (h : Hub) (n lanes phase : Nat) (ready : Bool) : Hub :=
  (h.setLane n { h.lane n with ts2From := some h.now }).groups n lanes (h.get F.PORT_LSTAT_RATE n) btTS2 (h.ownTs2 n phase ready)

/-- The partner asks for transmitter settings on the pair of its receive lane (R74): a request that would break a limit, or
one while FIXEDTX is set, is not applied. -/
def Hub.eqRequest (h : Hub) (n : Nat) (t : TsBlk) : Hub :=
  let m := 3 - t.eqlane
  if h.flag F.PORT_EQCFG_FIXEDTX n then h
  else
    let e := h.eqNow n m
    let e1 := match t.preset with
      | 0 => { e with pre := 0, main := 48, post := 0 }
      | 1 => { e with pre := 0, main := 44, post := 4 }
      | 2 => { e with pre := 0, main := 40, post := 8 }
      | 3 => { e with pre := 2, main := 40, post := 6 }
      | 4 => { e with pre := 4, main := 36, post := 8 }
      | 5 => { e with pre := 2, main := 34, post := 12 }
      | 6 => { e with pre := 6, main := 30, post := 12 }
      | 7 => { e with pre := 0, main := 32, post := 16 }
      | _ => e
    let step (x r : Nat) : Int := if r = 1 then x + 1 else if r = 2 then (x : Int) - 1 else x
    let p := step e1.pre t.pre
    let q := step e1.post t.post
    let mn := 48 - p - q
    if 0 ≤ p ∧ p ≤ 10 ∧ 0 ≤ q ∧ q ≤ 16 ∧ 24 ≤ mn then
      h.eqLoad n m { e1 with pre := p.toNat, main := mn.toNat, post := q.toNat }
    else if e1 = e then h else h.eqLoad n m e1

/-- The partner reports its receive lane done or failed: the pair's transmit lane here (R74). -/
def Hub.eqStatus (h : Hub) (n : Nat) (t : TsBlk) : Hub :=
  let l := h.lane n
  if t.eqstat = 1 then h.setLane n { l with done := union l.done (2 ^ (3 - t.eqlane)) } else h

/-- A training block on a receive lane shows that the partner has returned to training (Table 3-4), unless the lane is
being recovered, when training groups belong on it (R80). -/
def Hub.backToTraining (h : Hub) (n m : Nat) : Bool :=
  h.active n && bitOf (h.get F.PORT_LSTAT_RXMASK n) m && !bitOf (h.get F.PORT_LSTAT_RECOV n) m

/-- The receivers of some lanes ask for their first preset (R74, R75); with `first` off, they ask for nothing. -/
def Hub.eqStart (h : Hub) (n lanes : Nat) (first : Bool) : Hub :=
  h.each (bitList 4 0 lanes) (fun m g =>
    g.groups n (g.trainTx n) (g.get F.PORT_LSTAT_RATE n) btTS1
      { g.ownTs n with eqlane := m, preset := if first then g.get F.PORT_EQCFG_PRESET n else 15 })

/-- Lanes trained in the present phase: all of them in phase A, the turning pairs in B and C (R74). -/
def Hub.phaseLanes (h : Hub) (n : Nat) : Nat := if (h.lane n).phase = 0 then (h.lane n).set else h.turningLanes n

/-- This end names the next phase once its receivers are done, and the partner's are or the partner names it already (R74). -/
def Hub.eqAdvance (h : Hub) (n : Nat) : Hub :=
  let l := h.lane n
  let p := h.phaseLanes n
  h.when (l.ts2From.isNone ∧ l.eqIdle.isNone ∧ without (p &&& h.trainRx n) l.rxOk = 0 ∧
      (without (p &&& h.trainTx n) l.done = 0 ∨ 0 < l.ts2)) (fun h => h.beginTs2 n (h.trainTx n) (l.phase + 1) false)

/-- A receiver of this end has adapted further: its values are shown, and what it asks for goes to the far transmitter (R74). -/
def Hub.eqAsk (h : Hub) (n m : Nat) (a : EqAsk) : Hub :=
  let l := h.lane n
  h.when (bitOf (h.trainRx n) m ∧ l.eqIdle.isNone) (fun h =>
    let h := ((h.set F.PORT_EQRX_EYE a.eye.toNat n m).set F.PORT_EQRX_DFE1 a.dfe1.toNat n m).set F.PORT_EQRX_CTLE a.ctle.toNat n m
    let h := h.setLane n { l with ask := Tab.set {} l.ask m a, rxOk := if a.stat = 1 then union l.rxOk (2 ^ m) else l.rxOk }
    let h := if Tab.get {} l.ask m = a ∨ l.ts2From.isSome then h
      else h.groups n (h.trainTx n) (h.get F.PORT_LSTAT_RATE n) btTS1
        { h.ownTs n with eqlane := m, pre := a.pre.val, post := a.post.val, eqstat := a.stat.val }
    h.eqAdvance n)

/-- TS1_RECEIVE (R70, R72, R74). -/
def Hub.ts1Receive (h : Hub) (n m : Nat) (k : Blk) (ask : EqAsk) : Hub :=
  let h := h.heard n m k
  if ¬ k.isA btTS1 then (h.shErr n m 1).setLane n { h.lane n with ts1 := Tab.set 0 (h.lane n).ts1 m 0 }
  else
    let t := k.ts
    if h.backToTraining n m then h.dropLanes n causeLanes
    else if h.lstate n = lsALIGN ∧ bitOf (h.lane n).lock m then
      let l := h.lane n
      let c := Tab.get 0 l.ts1 m + 1
      let h := h.setLane n { l with ts1 := Tab.set 0 l.ts1 m c, prates := t.rates, ptgt := t.tgt, pretire := t.retire, prole := t.role }
      if c = 8 then
        let h := (h.setLane n { h.lane n with ctl := some m }).enter n lsCONFIG
        h.groups n 3 0 btTS1 (h.ownTs n)
      else h
    else if h.lstate n = lsCONFIG ∧ (h.lane n).ctl = some m then
      let l := h.lane n
      let h := h.setLane n { l with prates := t.rates, ptgt := t.tgt, pretire := t.retire, prole := t.role }
      if l.ts2From.isNone then h.beginTs2 n 3 0 false else h
    else if h.lstate n = lsEQ then ((h.eqRequest n t).eqStatus n t).eqAsk n m ask
    else h

def execTs1Receive (n : PortId) (m : LaneId) (k : AskBlk) (s : State) : Host.Outcome State Fault Refusal :=
  run (fun h => h.ts1Receive n m k.blk k.ask) s

/-- Sixteen TS2 have been sent since this end began to send them. -/
def Hub.sent16 (h : Hub) (n : Nat) : Bool :=
  match (h.lane n).ts2From with
  | some t => decide (16 ≤ ts2Sent (h.get F.PORT_LSTAT_RATE n) (h.now - t))
  | none => false

/-- CONFIG is agreed: pairs the partner retired are retired here (R81), and the lanes idle for the retune (R70); a lane set of fewer
than three pairs fails the attempt (log entry 63). -/
def Hub.configDone (h : Hub) (n : Nat) : Hub :=
  let out := h.agreedRetire n
  let rate := h.agreedRate n
  let h := h.each (bitList 4 0 (without out (h.get F.PORT_LRETIRE_MASK n))) (fun m g => g.retire n m 5)
  if 2 ≤ popCount 4 out then h.attemptFailed n 0
  else
    let h := h.setLane n { h.lane n with set := without 15 out, retuned := false, lock := 0 }
    ((h.set F.PORT_LSTAT_RATE rate n).enter n lsRATE).emit (.idle n 15)

/-- A phase of EQ ends (R74): after C every lane's setting is saved and VERIFY follows, with scrambled IDLE on all lanes (R70); before
that the turning pairs reverse, with the settings of their new direction, behind 176 ticks of idle. -/
def Hub.nextPhase (h : Hub) (n : Nat) : Hub :=
  let l := h.lane n
  let h := h.setLane n { l with phase := l.phase + 1, ts2 := 0, ts2From := none, done := 0, rxOk := 0, ask := [], phaseAt := h.now }
  if l.phase + 1 = 3 then
    let h := (h.saveSettings n l.set (h.trainTx n)).enter n lsVERIFY
    let h := h.setLane n { h.lane n with errAt := h.now, readyRx := false }
    h.emit (.idles n (h.trainTx n))
  else
    let tl := h.turningLanes n
    let h := (h.setLane n { h.lane n with eqIdle := some (h.now + 176), lock := without (h.lane n).lock tl }).emit (.idle n tl)
    h.turnSettings n tl (h.trainTx n)

/-- TS2_RECEIVE (R70, R72, R74). -/
def Hub.ts2Receive (h : Hub) (n m : Nat) (k : Blk) : Hub :=
  let h := h.heard n m k
  if ¬ k.isA btTS2 then (h.shErr n m 1).setLane n { h.lane n with ts2 := 0 }
  else
    let t := k.ts
    if h.backToTraining n m then h.dropLanes n causeLanes
    else if h.lstate n = lsCONFIG ∧ (h.lane n).ctl = some m then
      let h := if (h.lane n).ts2From.isNone then
          (h.setLane n { h.lane n with ptgt := t.tgt, pretire := t.retire, prole := t.role }).beginTs2 n 3 0 false
        else h
      let same := t.tgt == h.agreedRate n && flipMask t.retire == h.agreedRetire n
      let h := h.setLane n { h.lane n with ts2 := if same then (h.lane n).ts2 + 1 else 0 }
      if 8 ≤ (h.lane n).ts2 ∧ h.sent16 n then h.configDone n else h
    else if h.lstate n = lsEQ ∧ (h.lane n).eqIdle.isNone then
      let h := (h.eqRequest n t).eqStatus n t
      let l := h.lane n
      let h := (h.setLane n { l with ts2 := if t.phase = l.phase + 1 then l.ts2 + 1 else 0 }).eqAdvance n
      if 8 ≤ (h.lane n).ts2 ∧ h.sent16 n then h.nextPhase n else h
    else if h.lstate n = lsVERIFY ∧ t.ready then
      let l := h.lane n
      h.setLane n { l with ts2 := l.ts2 + 1, readyRx := l.readyRx || decide (8 ≤ l.ts2 + 1) }
    else h

def execTs2Receive (n : PortId) (m : LaneId) (k : Blk) (s : State) : Host.Outcome State Fault Refusal :=
  run (fun h => h.ts2Receive n m k) s

/-- Ticks a phase of EQ may last (R74). -/
def phaseLimit : Nat → Nat
  | 0 => 120000
  | 1 => 100000
  | _ => 20000

/-- TRAINING_TIMEOUT (R70): the state's timer, and the failing lanes recorded; a phase of EQ that outlasts its limit (R74) fails the
attempt too (log entry 63). -/
def Hub.trainingTimeout (h : Hub) (n bad : Nat) : Hub :=
  let l := h.lane n
  match h.lstate n with
  | 2 => h.when (h.inState n 20000) (fun h => h.attemptFailed n 0)
  | 3 => h.when (h.inState n 10000) (fun h => h.attemptFailed n 0)
  | 4 => h.when (h.inState n 10400) (fun h => h.attemptFailed n (without (h.trainRx n) l.lock))
  | 5 => h.when (h.inState n 240000 ∨ l.phaseAt + phaseLimit l.phase ≤ h.now) (fun h =>
      let p := h.phaseLanes n
      h.attemptFailed n (union bad (union (without (p &&& h.trainTx n) l.done) (without (p &&& h.trainRx n) l.rxOk))))
  | 6 => h.when (h.inState n 19000) (fun h => h.attemptFailed n bad)
  | _ => h

def execTrainingTimeout (n : PortId) (bad : BitVec 4) (s : State) : Host.Outcome State Fault Refusal :=
  run (fun h => h.trainingTimeout n bad.toNat) s

/-- RATE_RETUNE_END (R70): after 400 ticks of idle, training groups at the agreed rate. -/
def Hub.retuneEnd (h : Hub) (n : Nat) : Hub :=
  h.when (h.lstate n = lsRATE ∧ (h.lane n).retuned = false ∧ h.inState n 400) (fun h =>
    let h := h.setLane n { h.lane n with retuned := true }
    h.groups n (h.trainTx n) (h.get F.PORT_LSTAT_RATE n) btTS1 (h.ownTs n))

def execRateRetuneEnd (n : PortId) (s : State) : Host.Outcome State Fault Refusal := run (fun h => h.retuneEnd n) s

/-- EQ_PHASE_IDLE_END (R74): the turning pairs restart with the fast-exit burst, and training goes on: in phase B with the first
presets of the turning receive lanes, in C with the saved settings. -/
def Hub.eqIdleEnd (h : Hub) (n : Nat) : Hub :=
  h.when (h.lstate n = lsEQ ∧ h.due (h.lane n).eqIdle) (fun h =>
    let h := (h.setLane n { h.lane n with eqIdle := none }).burst n (h.turningLanes n &&& h.trainTx n)
    h.eqStart n (h.turningLanes n &&& h.trainRx n) ((h.lane n).phase == 1))

def execEqPhaseIdleEnd (n : PortId) (s : State) : Host.Outcome State Fault Refusal := run (fun h => h.eqIdleEnd n) s

/-- VERIFY_COMPLETE (R70, R72): 16,384 ticks without an invalid sync header, so READY is sent; once it has been exchanged, striping
starts and the port is ACTIVE in the training-default mode (R60, R82). A pair forced out meanwhile leaves at once (R81). -/
def Hub.verifyComplete (h : Hub) (n : Nat) : Hub :=
  let l := h.lane n
  h.when (h.lstate n = lsVERIFY ∧ h.inState n 16384 ∧ l.errAt + 16384 ≤ h.now) (fun h =>
    if l.ts2From.isNone then h.beginTs2 n (h.trainTx n) 3 true
    else if l.readyRx ∧ h.sent16 n then
      let r := 15 - l.set
      let h := (h.enter n lsACTIVE).setMode n (h.defaultMode n r)
      let h := if l.failed then h.bump F.PORT_TRCNT_TRANSIENT n else h
      let h := h.setLane n { h.lane n with failed := false, single := none, multi := none, nrz := 0, lock := h.get F.PORT_LSTAT_RXMASK n }
      let h := (h.firstSlot n).set F.PORT_LSTAT_ROLE (h.tsRole n) n
      h.each (bitList 4 0 (h.get F.PORT_LRETIRE_MASK n)) (fun m g => if g.active n then g.leavePair n m true else g)
    else h)

def execVerifyComplete (n : PortId) (s : State) : Host.Outcome State Fault Refusal := run (fun h => h.verifyComplete n) s

/-- FAULT_RETRY (R70): after a second in FAULT, counted in FAILED. -/
def Hub.faultRetry (h : Hub) (n : Nat) : Hub :=
  h.when (h.lstate n = lsFAULT ∧ h.inState n 200000000) (fun h => (h.bump F.PORT_TRCNT_FAILED n).toDetect n)

def execFaultRetry (n : PortId) (s : State) : Host.Outcome State Fault Refusal := run (fun h => h.faultRetry n) s

/-! ## Block lock -/

/-- The old sender of a turn has block lock on every turning lane: three DONE, and the turn is over at this end (R86). -/
def Hub.turnLocked (h : Hub) (n : Nat) : Hub :=
  match (h.lane n).turn with
  | some t =>
    if t.committed ∧ ¬ t.newSender ∧ t.stage = 2 ∧ without t.lanes (h.lane n).lock = 0 then
      let h := h.sendL0 n 3 (lmgtBlk lmDONE t.id t.target 0 (h.lmDly n) t.x)
      let h := h.set F.PORT_LSTAT_RXMASK (union (h.get F.PORT_LSTAT_RXMASK n) t.lanes) n
      (h.set F.PORT_LMODE_CUR t.target n).turnOver n 1
    else h
  | none => h

/-- BLOCK_LOCK_ACQUIRED (R67); in LOOPBACK, an enabled checker of the lane has synchronised too (R91, log entry 63). -/
def Hub.lockAcquired (h : Hub) (n m : Nat) : Hub :=
  let l := h.lane n
  h.when (bitOf l.lock m = false) (fun h =>
    let h := h.setLane n { l with lock := l.lock + 2 ^ m }
    let h := h.holdReacquire n
    match h.lstate n with
    | 4 =>
      if l.retuned ∧ without (h.trainRx n) (h.lane n).lock = 0 then
        let h := h.enter n lsEQ
        let h := h.setLane n { h.lane n with phase := 0, done := 0, eqIdle := none, rxOk := 0, ask := [], phaseAt := h.now }
        h.eqStart n (h.trainRx n) true
      else h
    | 7 =>
      let h := if h.flag F.PORT_LKSTAT_RXIDLE n ∧ without (h.get F.PORT_LSTAT_RXMASK n) (h.lane n).lock = 0 then
          (h.set F.PORT_LKSTAT_RXIDLE 0 n).setLink n { h.link n with rxAt := h.now } else h
      let h := match Tab.get none l.rec_ m with
        | some r => h.setLane n { h.lane n with rec_ := Tab.set none (h.lane n).rec_ m (some { r with good := some h.now }) }
        | none => h
      let h := if bitOf l.burst m then
          (h.setLane n { h.lane n with burst := without l.burst (2 ^ m) }).set F.PORT_LSTAT_RXMASK
            (union (h.get F.PORT_LSTAT_RXMASK n) (2 ^ m)) n
        else h
      h.turnLocked n
    | 8 =>
      let chk := if bitOf (h.get F.PORT_PRBS_CHKEN n) m then union l.chk (2 ^ m) else l.chk
      h.setLane n { h.lane n with since := h.now, chk := chk }
    | _ => h)

def execBlockLockAcquired (n : PortId) (m : LaneId) (s : State) : Host.Outcome State Fault Refusal :=
  run (fun h => h.lockAcquired n m) s

/-- A loss during a committed turn abandons it (R88): the settings and the direction of the mode held before are restored, and the
turning lanes, once the turn has touched them, are recovered in it (R80). -/
def Hub.turnLoss (h : Hub) (n : Nat) : Hub :=
  match (h.lane n).turn with
  | some t =>
    if t.committed then
      let h := h.setLane n { h.lane n with turn := none }
      let h := if t.newSender = false ∧ 2 ≤ t.stage then h.turnSettings n t.lanes 15
               else if t.newSender ∧ 3 ≤ t.stage then h.turnSettings n t.lanes 0 else h
      let h := if t.stage = 0 then h
               else h.each (bitList 4 0 t.lanes) (fun m g => if t.newSender then g.startRecovery n m else g.recoverSend n m)
      h.turnOver n 3
    else h
  | none => h

/-- A lane loses block lock (R67, R69, R80): a loss event; every receive lane out of lock takes the port to DETECT. -/
def Hub.lockLost (h : Hub) (n m : Nat) : Hub :=
  let l := h.lane n
  let h := (h.set F.PORT_LERR_LOCKLOSS (min (h.get F.PORT_LERR_LOCKLOSS n m + 1) 255) n m).tally F.PORT_LERR_LOCKLOSS n m 1
  let h := h.setLane n { l with lock := l.lock - 2 ^ m, errAt := h.now }
  match h.lstate n with
  | 7 =>
    let h := h.turnLoss n
    if without (h.get F.PORT_LSTAT_RXMASK n) (without 15 (h.lane n).lock) = 0 then h.dropLanes n causeLanes
    else if bitOf (h.get F.PORT_LSTAT_RXMASK n) m then h.startRecovery n m
    else h
  | 8 => h.setLane n { h.lane n with since := h.now }
  | _ => h

/-- Errors seen on a lane: counted in SHERR (R67), or, by a synchronised checker in LOOPBACK, in PORT_PRBSERR (R91); they restart the
clean time of VERIFY and of a recovery, which a loss of lock ends (R70, R80). -/
def Hub.lineErrors (h : Hub) (n m bad : Nat) (lost : Bool) : Hub :=
  let l := h.lane n
  if h.lstate n = lsLOOPBACK ∧ bitOf l.chk m then
    (h.set F.PORT_PRBSERR_ERR (min (h.get F.PORT_PRBSERR_ERR n m + bad) (2 ^ 32 - 1)) n m).tally F.PORT_PRBSERR_ERR n m bad
  else
    let h := if bad = 0 then h else h.shErr n m bad
    let rec_ := match Tab.get none l.rec_ m with
      | some r => if r.receiver ∧ r.good.isSome then
          Tab.set none l.rec_ m (some { r with good := if lost then none else some h.now }) else l.rec_
      | none => l.rec_
    h.setLane n { l with errAt := h.now, rec_ := rec_ }

/-- BLOCK_LOCK_LOST (R67, R69): invalid sync headers, and whether they, or the elastic buffer, cost the lane its block lock. -/
def Hub.lockErrors (h : Hub) (n m bad : Nat) (lost : Bool) : Hub :=
  let h := h.lineErrors n m bad lost
  if lost ∧ bitOf (h.lane n).lock m then h.lockLost n m else h

def execBlockLockLost (n : PortId) (m : LaneId) (x : SyncErr) (s : State) : Host.Outcome State Fault Refusal :=
  run (fun h => h.lockErrors n m x.bad.val x.lost) s

/-- A recovered lane is back: counted, its failures forgotten (R80); the sender counts as the receiver does (log entry 63). -/
def Hub.recovered (h : Hub) (n m : Nat) : Hub :=
  let h := (h.recoveryOff n m).bump F.PORT_TRCNT_RECOV n
  h.setLane n { h.lane n with recFails := Tab.set 0 (h.lane n).recFails m 0 }

/-- The copies of a row that are no good blocks of a type are counted on their lanes (R65). -/
def Hub.rowErrors (h : Hub) (n bt : Nat) (row : List Blk) : Hub :=
  let lanes := (bitList 4 0 (h.get F.PORT_LSTAT_RXMASK n)).reverse
  let h := (lanes.zip row).foldl (fun g x => g.heard n x.1 x.2) h
  h.each ((lanes.zip row).filterMap (fun x => if x.2.isA bt then none else some x.1)) (fun m g => g.shErr n m 1)

/-- STRIPE_RECEIVE (R68): the first copy with a good CRC gives the receive lanes from the next row; with none, every lane of
the set is recovered. -/
def Hub.stripeReceive (h : Hub) (n : Nat) (row : List Blk) : Hub :=
  h.when (h.active n) (fun h =>
    let lanes := (bitList 4 0 (h.get F.PORT_LSTAT_RXMASK n)).reverse
    let h := h.rowErrors n btStripe row
    match row.find? (fun k => k.isA btStripe) with
    | some k =>
      let set := without (flipMask k.stripeSet) (union (h.outPairs n) (h.get F.PORT_LSTAT_TXMASK n))
      let back := bitList 4 0 (without set (without 15 (h.get F.PORT_LSTAT_RECOV n)))
      let h := h.set F.PORT_LSTAT_RXMASK set n
      h.each back (fun m g => match Tab.get none (g.lane n).rec_ m with
        | some r => if r.receiver then g.recovered n m else g
        | none => g)
    | none => h.each lanes (fun m g => g.startRecovery n m))

def execStripeReceive (n : PortId) (row : List Blk) (s : State) : Host.Outcome State Fault Refusal :=
  run (fun h => h.stripeReceive n row) s

/-! ## Electrical idle -/

/-- EI_RECEIVE (R117): the receive direction is in idle and its heartbeat watchdog stops; a row with no good copy says nothing (R65).
The EI of a turning lane, at the start of a turn that this end sends next, is no entry of the direction (Table 3-9). -/
def Hub.eiReceive (h : Hub) (n : Nat) (row : List Blk) : Hub :=
  h.when (h.active n) (fun h =>
    let h := h.rowErrors n btEI row
    h.when (row.any (fun k => k.isA btEI) ∧ ¬ (h.lane n).turn.any (fun t => t.committed && t.newSender && t.stage == 0)) (fun h =>
      (h.set F.PORT_LKSTAT_RXIDLE 1 n).setLane n
        { h.lane n with lock := without (h.lane n).lock (h.get F.PORT_LSTAT_RXMASK n) }))

def execEiReceive (x : RowAt) (s : State) : Host.Outcome State Fault Refusal :=
  run (fun h => h.eiReceive x.port x.row) s

/-- The transmit direction leaves electrical idle, if it is in it (R78): the burst on lanes, then, from the lowest of them, what waited
to be sent. -/
def Hub.wake (h : Hub) (n lanes : Nat) : Hub :=
  h.when (h.flag F.PORT_LKSTAT_TXIDLE n) (fun h => (((h.set F.PORT_LKSTAT_TXIDLE 0 n).burst n lanes).firstSlot n).flushWait n)

/-- FAST_EXIT (R78): once something waits to be sent. -/
def Hub.fastExit (h : Hub) (n : Nat) : Hub := h.when ((h.link n).wait ≠ []) (fun h => h.wake n (h.get F.PORT_LSTAT_TXMASK n))

def execFastExit (n : PortId) (s : State) : Host.Outcome State Fault Refusal := run (fun h => h.fastExit n) s

/-- FAST_EXIT_LOCK_TIMEOUT (R79): a receive lane without lock 32 ticks after the burst is recovered; when it is the last of them, no
receive lane is in block lock and the port goes to DETECT (Table 3-4). -/
def Hub.fastExitTimeout (h : Hub) (n m : Nat) : Hub :=
  let rx := h.get F.PORT_LSTAT_RXMASK n
  h.when (h.active n ∧ bitOf rx m ∧ bitOf (h.lane n).lock m = false) (fun h =>
    if (without rx (2 ^ m)) &&& without 15 (h.get F.PORT_LSTAT_RECOV n) = 0 then h.dropLanes n causeLanes
    else
      let h := if (h.lane n).lock ≠ 0 then (h.set F.PORT_LKSTAT_RXIDLE 0 n).setLink n { h.link n with rxAt := h.now } else h
      h.startRecovery n m)

def execFastExitLockTimeout (n : PortId) (m : LaneId) (s : State) : Host.Outcome State Fault Refusal :=
  run (fun h => h.fastExitTimeout n m) s

/-! ## Recovery and retirement -/

/-- A lane-layer block of LMGT with a good CRC; else it is discarded and counted on the lane that carried it (R65). -/
def Hub.withLmgt (h : Hub) (n m : Nat) (k : Blk) (kind : Nat) (f : Hub → Hub) : Hub :=
  let h := h.heard n m k
  if k.isA btLmgt then h.when (k.lmKind = kind ∧ h.active n) f else h.shErr n m 1

/-- LREC_RECEIVE (R80): the partner's receive lanes named are transmit lanes of this end's mode, out of its set already where an
earlier recovery failed; the other copies of one LREC change nothing. -/
def Hub.lrecReceive (h : Hub) (n m : Nat) (k : Blk) : Hub :=
  h.withLmgt n m k lmLREC (fun h =>
    h.each (bitList 4 0 (flipMask k.lmLanes)) (fun m g =>
      let running : Bool := match Tab.get none (g.lane n).rec_ m with
        | some r => decide (g.now < r.start + 40000)
        | none => false
      let tx := union (modeTx (g.get F.PORT_LMODE_CUR n) (g.outPairs n)) (g.get F.PORT_LSTAT_TXMASK n)
      if bitOf tx m ∧ ¬ running then g.recoverSend n m else g))

def execLrecReceive (n : PortId) (k : LaneBlk) (s : State) : Host.Outcome State Fault Refusal :=
  run (fun h => h.lrecReceive n k.lane k.blk) s

/-- RECOVERY_COMPLETE (R80): after 4,096 clean ticks the sender adds the lane at a STRIPE row; the receiver has it back. -/
def Hub.recoveryComplete (h : Hub) (n m : Nat) : Hub :=
  match Tab.get none (h.lane n).rec_ m with
  | some r =>
    h.when (h.active n ∧ h.due (r.good.map (· + 4096))) (fun h =>
      let h := h.recovered n m
      if r.receiver then h.set F.PORT_LSTAT_RXMASK (union (h.get F.PORT_LSTAT_RXMASK n) (2 ^ m)) n
      else
        let tx := union (h.get F.PORT_LSTAT_TXMASK n) (2 ^ m)
        h.stripe n tx tx)
  | none => h

def execRecoveryComplete (n : PortId) (m : LaneId) (s : State) : Host.Outcome State Fault Refusal :=
  run (fun h => h.recoveryComplete n m) s

/-- RECOVERY_TIMEOUT (R80, R81): 40,000 ticks; the third failure in a row retires the pair, else the receiver tries again. -/
def Hub.recoveryTimeout (h : Hub) (n m : Nat) : Hub :=
  match Tab.get none (h.lane n).rec_ m with
  | some r =>
    h.when (r.start + 40000 ≤ h.now) (fun h =>
      let h := h.recoveryOff n m
      let c := Tab.get 0 (h.lane n).recFails m + 1
      let h := h.setLane n { h.lane n with recFails := Tab.set 0 (h.lane n).recFails m (if c = 3 then 0 else c) }
      if c = 3 then h.retire n m 2
      else if r.receiver then h.startRecovery n m else h)
  | none => h

def execRecoveryTimeout (n : PortId) (m : LaneId) (s : State) : Host.Outcome State Fault Refusal :=
  run (fun h => h.recoveryTimeout n m) s

/-- LRET_RECEIVE (R81): the pairs the partner announces are retired here too. -/
def Hub.lretReceive (h : Hub) (n m : Nat) (k : Blk) : Hub :=
  h.withLmgt n m k lmLRET (fun h => h.each (bitList 4 0 (flipMask k.lmLanes)) (fun m g => g.retire n m 5))

def execLretReceive (n : PortId) (k : LaneBlk) (s : State) : Host.Outcome State Fault Refusal :=
  run (fun h => h.lretReceive n k.lane k.blk) s

/-- RETIRE_FORCE (Table 3-14): ignored if a pair is already retired; of several lanes named, the lowest. -/
def Hub.retireForce (h : Hub) (n mask : Nat) : Hub :=
  h.when (h.get F.PORT_LRETIRE_MASK n = 0) (fun h =>
    match bitList 4 0 mask with
    | m :: _ => h.retire n m 4
    | [] => h)

def execRetireForce (n : PortId) (mask : BitVec 4) (s : State) : Host.Outcome State Fault Refusal :=
  runW (fun _ h => h.retireForce n mask.toNat) s

/-- RETIRE_CLEAR (R81). -/
def execRetireClear (n : PortId) (s : State) : Host.Outcome State Fault Refusal := runW (fun _ h => h.clearRetire n) s

/-! ## Lane turns -/

/-- PORT_LMODE.REQ takes a value and is evaluated; codes 5 to 7 are reserved and leave REQ as it was (R9). -/
def Hub.turnRequest (h : Hub) (n req : Nat) : Hub :=
  h.when (req ≤ 4) (fun h => (h.set F.PORT_LMODE_REQ req n).evalReq n)

/-- TURN_REQUEST (R85, R88): a write of PORT_LMODE.REQ; one in the tick of a shepherd request is suppressed (R55, R245). -/
def Hub.turnWrite (h : Hub) (n req : Nat) : Hub :=
  h.when (¬ h.isHot F.PORT_LMODE_REQ n) (fun h => h.turnRequest n req)

def execTurnRequest (n : PortId) (req : Fin 8) (s : State) : Host.Outcome State Fault Refusal :=
  runW (fun _ h => h.turnWrite n req) s

/-- A REQ of the partner that is not a copy of the last one (R85, R88): of crossing requests the parent's stands; a child whose own
was abandoned and that answers NAK evaluates it again at once. -/
def Hub.takeReq (h : Hub) (n : Nat) (k : Blk) : Hub :=
  match (h.lane n).turn with
  | none => h.answerReq n k
  | some t =>
    if t.initiator ∧ ¬ t.committed ∧ h.isChild n then
      let h := (h.setLane n { h.lane n with turn := none, waiting := true }).answerReq n k
      if (h.lane n).turn.isNone then (h.set F.PORT_LMODE_BUSY 0 n).evalReq n else h
    else if t.initiator ∧ ¬ t.committed then h
    else h.setLane n { h.lane n with heldReq := some k }

/-- LMGT_REQ_RECEIVE (R85): of the three copies of a REQ the first is taken. -/
def Hub.lmgtReq (h : Hub) (n m : Nat) (k : Blk) : Hub :=
  h.withLmgt n m k lmREQ (fun h =>
    if (h.lane n).reqSeen.any (fun x => x.1 == k && decide (h.now ≤ x.2 + 16)) then h
    else (h.setLane n { h.lane n with reqSeen := some (k, h.now) }).takeReq n k)

def execLmgtReqReceive (n : PortId) (k : LaneBlk) (s : State) : Host.Outcome State Fault Refusal :=
  run (fun h => h.lmgtReq n k.lane k.blk) s

/-- LMGT_ACK_RECEIVE (R85): in time, the initiator commits; late, the turn is abandoned. -/
def Hub.lmgtAck (h : Hub) (n m : Nat) (k : Blk) : Hub :=
  h.withLmgt n m k lmACK (fun h =>
    match (h.lane n).turn with
    | some t =>
      if t.initiator ∧ ¬ t.committed ∧ t.id = k.lmId then
        if h.ridge + h.dl n + 8 ≤ t.x then h.setTurn n { t with committed := true } else h.turnOver n 3
      else h
    | none => h)

def execLmgtAckReceive (n : PortId) (k : LaneBlk) (s : State) : Host.Outcome State Fault Refusal :=
  run (fun h => h.lmgtAck n k.lane k.blk) s

/-- LMGT_NAK_RECEIVE (R85): the turn ends REFUSED. -/
def Hub.lmgtNak (h : Hub) (n m : Nat) (k : Blk) : Hub :=
  h.withLmgt n m k lmNAK (fun h =>
    match (h.lane n).turn with
    | some t => if t.initiator ∧ ¬ t.committed ∧ t.id = k.lmId then h.turnOver n 2 else h
    | none => h)

def execLmgtNakReceive (n : PortId) (k : LaneBlk) (s : State) : Host.Outcome State Fault Refusal :=
  run (fun h => h.lmgtNak n k.lane k.blk) s

/-- TURN_ACK_DEADLINE (R85): no ACK by X - Dl - 8. -/
def Hub.turnAckDeadline (h : Hub) (n : Nat) : Hub :=
  match (h.lane n).turn with
  | some t => h.when (t.initiator ∧ ¬ t.committed ∧ t.x ≤ h.ridge + h.dl n + 8) (fun h => h.turnOver n 3)
  | none => h

def execTurnAckDeadline (n : PortId) (s : State) : Host.Outcome State Fault Refusal := run (fun h => h.turnAckDeadline n) s

/-- A row of Table 3-9 at this end: a committed turn, at the row's stage and tick (an offset from X). -/
def Hub.turnRow (h : Hub) (n : Nat) (newSender : Bool) (stage : Nat) (at_ : Int) (f : Turn → Hub → Hub) : Hub :=
  match (h.lane n).turn with
  | some t =>
    h.when (t.committed ∧ t.newSender = newSender ∧ t.stage = stage ∧ (t.x : Int) + at_ ≤ h.ridge) (fun h =>
      f t (h.setTurn n { t with stage := stage + 1 }))
  | none => h

/-- TURN_OLD_SENDER_START (Table 3-9): at X - Dl; a direction in electrical idle leaves it first (log entry 63). -/
def Hub.turnOldStart (h : Hub) (n : Nat) : Hub :=
  h.turnRow n false 0 (-(h.dl n : Int)) (fun t h =>
    let tx := h.get F.PORT_LSTAT_TXMASK n
    (((h.wake n tx).stripe n tx (without tx t.lanes)).eiRow n t.lanes))

def execTurnOldSenderStart (n : PortId) (s : State) : Host.Outcome State Fault Refusal := run (fun h => h.turnOldStart n) s

/-- TURN_OLD_SENDER_SWITCH (Table 3-9): at X - Dl + 8 the lane receives with its saved setting. -/
def Hub.turnOldSwitch (h : Hub) (n : Nat) : Hub :=
  h.turnRow n false 1 (8 - (h.dl n : Int)) (fun t h =>
    let h := h.turnSettings n t.lanes 0
    h.setLane n { h.lane n with lock := without (h.lane n).lock t.lanes })

def execTurnOldSenderSwitch (n : PortId) (s : State) : Host.Outcome State Fault Refusal := run (fun h => h.turnOldSwitch n) s

/-- TURN_LANE_REMOVE (Table 3-9): at X the lane leaves deskew. -/
def Hub.turnRemove (h : Hub) (n : Nat) : Hub :=
  h.turnRow n true 0 0 (fun t h =>
    let h := h.set F.PORT_LSTAT_RXMASK (without (h.get F.PORT_LSTAT_RXMASK n) t.lanes) n
    h.setLane n { h.lane n with lock := without (h.lane n).lock t.lanes })

def execTurnLaneRemove (n : PortId) (s : State) : Host.Outcome State Fault Refusal := run (fun h => h.turnRemove n) s

/-- TURN_PARK (Table 3-9): at X + 8 the hold idle starts. -/
def Hub.turnPark (h : Hub) (n : Nat) : Hub := h.turnRow n true 1 8 (fun t h => h.emit (.idle n t.lanes))

def execTurnPark (n : PortId) (s : State) : Host.Outcome State Fault Refusal := run (fun h => h.turnPark n) s

/-- TURN_BURST (Table 3-9): at X + 184, with the saved transmitter weights; a direction in electrical idle leaves it as a whole, with
the burst on every lane (R77, R87). -/
def Hub.turnBurst (h : Hub) (n : Nat) : Hub :=
  h.turnRow n true 2 184 (fun t h =>
    let h := h.turnSettings n t.lanes 15
    if h.flag F.PORT_LKSTAT_TXIDLE n then h.wake n (union (h.get F.PORT_LSTAT_TXMASK n) t.lanes) else h.burst n t.lanes)

def execTurnBurst (n : PortId) (s : State) : Host.Outcome State Fault Refusal := run (fun h => h.turnBurst n) s

/-- TURN_STRIPE (Table 3-9): at X + 200 the STRIPE row announces the new set. -/
def Hub.turnStripe (h : Hub) (n : Nat) : Hub :=
  h.turnRow n true 3 200 (fun t h =>
    let tx := union (h.get F.PORT_LSTAT_TXMASK n) t.lanes
    h.stripe n tx tx)

def execTurnStripe (n : PortId) (s : State) : Host.Outcome State Fault Refusal := run (fun h => h.turnStripe n) s

/-- TURN_LOCK_TIMEOUT (R86): the old sender's lane has no lock 32 ticks after the burst: three FAIL, the turn ends, and the lane is
recovered; another turning lane whose lock is still awaited is recovered when its own time is up. -/
def Hub.turnLockTimeout (h : Hub) (n m : Nat) : Hub :=
  let l := h.lane n
  h.when (bitOf l.lock m = false) (fun h =>
    match l.turn with
    | some t =>
      h.when (t.committed ∧ ¬ t.newSender ∧ t.stage = 2 ∧ bitOf t.lanes m) (fun h =>
        let h := h.sendL0 n 3 (lmgtBlk lmFAIL t.id t.target 0 (h.lmDly n) t.x)
        let locked := t.lanes &&& l.lock
        let h := h.set F.PORT_LSTAT_RXMASK (union (h.get F.PORT_LSTAT_RXMASK n) locked) n
        let h := h.setLane n { h.lane n with burst := without (without t.lanes locked) (2 ^ m) }
        ((h.set F.PORT_LMODE_CUR t.target n).turnOver n 4).startRecovery n m)
    | none =>
      h.when (bitOf l.burst m) (fun h => (h.setLane n { h.lane n with burst := without l.burst (2 ^ m) }).startRecovery n m))

def execTurnLockTimeout (n : PortId) (m : LaneId) (s : State) : Host.Outcome State Fault Refusal :=
  run (fun h => h.turnLockTimeout n m) s

/-- LMGT_DONE_RECEIVE (R86): the turn ends DONE. -/
def Hub.lmgtDone (h : Hub) (n m : Nat) (k : Blk) : Hub :=
  h.withLmgt n m k lmDONE (fun h =>
    match (h.lane n).turn with
    | some t => if t.committed ∧ t.newSender ∧ t.id = k.lmId ∧ t.stage = 4 then
        (h.set F.PORT_LMODE_CUR t.target n).turnOver n 1 else h
    | none => h)

def execLmgtDoneReceive (n : PortId) (k : LaneBlk) (s : State) : Host.Outcome State Fault Refusal :=
  run (fun h => h.lmgtDone n k.lane k.blk) s

/-- A turn of the new sender fails: status FAILED, and lanes are recovered in the new direction (R80, R89). -/
def Hub.turnFailed (h : Hub) (n : Nat) (t : Turn) (lanes : Nat) : Hub :=
  let h := (h.set F.PORT_LMODE_CUR t.target n).turnOver n 4
  h.each (bitList 4 0 lanes) (fun m g => g.recoverSend n m)

/-- LMGT_FAIL_RECEIVE (R86): the turn ends FAILED and the lane is recovered; of two turning lanes, the LREC that follows names the
one (log entry 63). -/
def Hub.lmgtFail (h : Hub) (n m : Nat) (k : Blk) : Hub :=
  h.withLmgt n m k lmFAIL (fun h =>
    match (h.lane n).turn with
    | some t => if t.committed ∧ t.newSender ∧ t.id = k.lmId then
        h.turnFailed n t (if popCount 4 t.lanes = 1 then t.lanes else 0) else h
    | none => h)

def execLmgtFailReceive (n : PortId) (k : LaneBlk) (s : State) : Host.Outcome State Fault Refusal :=
  run (fun h => h.lmgtFail n k.lane k.blk) s

/-- TURN_TIMEOUT (R89): neither DONE nor FAIL by X + 240 + 2 × Dl + 32. -/
def Hub.turnTimeout (h : Hub) (n : Nat) : Hub :=
  match (h.lane n).turn with
  | some t => h.when (t.committed ∧ t.newSender ∧ t.x + 240 + 2 * h.dl n + 32 ≤ h.ridge) (fun h => h.turnFailed n t t.lanes)
  | none => h

def execTurnTimeout (n : PortId) (s : State) : Host.Outcome State Fault Refusal := run (fun h => h.turnTimeout n) s

/-- DREP_RECEIVE (R84): PORT_TDLY.DLY holds the reported value × 64, VALID is set. -/
def Hub.drepReceive (h : Hub) (n m : Nat) (k : Blk) : Hub :=
  h.withLmgt n m k lmDREP (fun h =>
    if h.isChild n then h
    else ((h.set F.PORT_TDLY_DLY (k.lmDly * 64) n).set F.PORT_TDLY_VALID 1 n).lkTmo n)

def execDrepReceive (n : PortId) (k : LaneBlk) (s : State) : Host.Outcome State Fault Refusal :=
  run (fun h => h.drepReceive n k.lane k.blk) s

/-! ## Far-end loopback at the partner's request (R90) -/

/-- LBK_ENTER_RECEIVE: taken only with FELBK_ALLOW = 1. -/
def Hub.lbkEnter (h : Hub) (n m : Nat) (k : Blk) : Hub :=
  let h := h.heard n m k
  if k.isA btLbk then
    h.when (k.field 8 9 = 1 ∧ h.active n ∧ h.flag F.PORT_LCTL_FELBK_ALLOW n) (fun h => h.toLoopback n 3 true)
  else h.shErr n m 1

def execLbkEnterReceive (n : PortId) (k : LaneBlk) (s : State) : Host.Outcome State Fault Refusal :=
  run (fun h => h.lbkEnter n k.lane k.blk) s

/-- LBK_EXIT_RECEIVE: the port returns to DETECT. -/
def Hub.lbkExit (h : Hub) (n m : Nat) (k : Blk) : Hub :=
  let h := h.heard n m k
  if k.isA btLbk then h.when (k.field 8 9 = 0 ∧ h.lstate n = lsLOOPBACK ∧ (h.lane n).retime) (fun h => h.toDetect n)
  else h.shErr n m 1

def execLbkExitReceive (n : PortId) (k : LaneBlk) (s : State) : Host.Outcome State Fault Refusal :=
  run (fun h => h.lbkExit n k.lane k.blk) s

/-- LOOPBACK_TIMEOUT (R70): 200,000 ticks in LOOPBACK without block lock. -/
def Hub.loopbackTimeout (h : Hub) (n : Nat) : Hub :=
  h.when (h.lstate n = lsLOOPBACK ∧ (h.lane n).lock = 0 ∧ h.inState n 200000) (fun h => h.toDetect n)

def execLoopbackTimeout (n : PortId) (s : State) : Host.Outcome State Fault Refusal := run (fun h => h.loopbackTimeout n) s

end Sys2Proof.Machine
end

