-- ==== Sys2Proof/Machine/Link.lean ====
section
/-! DEFINITION. The meanings of the link-layer commands: frames, sequence numbers, credit, heartbeat, bring-up and hold
(spec/04_link_layer.md). -/

namespace Sys2Proof.Machine

/-! ## NAK-wait (R104) -/

/-- NAK-wait is entered: one NAK with ASEQ = NEXT - 1 and STAGED (R104). Only a link that is UP delivers tunnel frames. -/
def Hub.nakWait (h : Hub) (n : Nat) (staged : Bool) : Hub :=
  h.when (h.linkUp n ∧ ¬ h.flag F.PORT_LKSTAT_NAKWAIT n) (fun h =>
    let h := (h.set F.PORT_LKSTAT_NAKWAIT 1 n).setLink n { h.link n with nakStaged := staged }
    h.sendLcb n 2 (h.aseq n) staged false 8)

/-- A framing error: counted, the open frame ends failed, NAK rules (R93, R101). -/
def Hub.framingError (h : Hub) (n : Nat) : Hub :=
  let st := match (h.link n).rx with | some r => r.staged | none => false
  ((h.bump F.PORT_LKERR_FRMERR n).failOpen n true).nakWait n st

/-- An open frame fails under R101: a tunnel frame by a framing error; a link message is counted and dropped, and takes no part
in the NAK rules (R104). -/
def Hub.openError (h : Hub) (n : Nat) (r : RxOpen) : Hub :=
  if r.sof.sof.kind = 1 then (h.bump F.PORT_LKERR_FRMERR n).setLink n { h.link n with rx := none } else h.framingError n

/-- A good SOF, trailer or LCB arrived: the heartbeat is alive (R116). -/
def Hub.alive (h : Hub) (n : Nat) : Hub := h.setLink n { h.link n with rxAt := h.now }

/-- A credit field: the count's difference is added to the pool (R112); a replay that waits for credit goes on (R113). -/
def Hub.creditField (h : Hub) (n pool count : Nat) : Hub :=
  h.when (h.linkUp n) (fun h =>
    let l := h.link n
    let d := (count + 128 - Tab.get 0 l.last pool) % 128
    let h := h.setLink n { l with last := Tab.set 0 l.last pool count }
    (h.setCrd n pool (h.crd n pool + d)).replayOn n)

/-! ## Receiving a link frame -/

/-- SOF_RECEIVE (R97, R98, R101, R103). -/
def Hub.sofReceive (h : Hub) (n : Nat) (k : Blk) : Hub :=
  h.when (h.active n ∧ k.btype = btSof) (fun h =>
    -- an SOF before the trailer of an open frame ends that frame as failed
    let h := match (h.link n).rx with | some r => h.openError n r | none => h
    let s := k.sof
    let h := h.rxCount n
    if ¬ k.crcOk then
      ((h.bump F.PORT_LKERR_HDRERR n).setLink n { h.link n with skip := true, rx := none }).nakWait n false
    else
      let pool := if s.crshr then 8 else s.crcls
      let h := (h.alive n).creditField n pool s.crcnt
      if 2 ≤ s.kind ∨ ¬ s.lenOk then
        ((h.bump F.PORT_LKERR_HDRERR n).setLink n { h.link n with skip := true, rx := none }).nakWait n false
      else if s.kind = 1 then
        h.setLink n { h.link n with skip := false, rx := some { sof := k, staged := false, id := 0, start := h.now } }
      else if ¬ h.linkUp n then h
      else if s.seq = h.rxNext n then
        let h := h.set F.PORT_LKSTAT_NAKWAIT 0 n
        h.setLink n { h.link n with skip := false, rx := some { sof := k, staged := true, id := 0, start := h.now } }
      else
        let h := h.bump F.PORT_LKERR_FRMERR n
        let h := h.setLink n { h.link n with skip := false, rx := some { sof := k, staged := false, id := 0, start := h.now } }
        h.nakWait n false)

def execSofReceive (n : PortId) (k : Blk) (s : State) : Host.Outcome State Fault Refusal := run (fun h => h.sofReceive n k) s

/-- Body bytes enter staging: with the second block the tunnel header is whole and the frame stands in its class list. -/
def Hub.stageBytes (h : Hub) (n : Nat) (r : RxOpen) (b : Bytes) : Hub :=
  let s := r.sof.sof
  let data := r.data ++ b
  if r.blocks + 1 < 2 then h.setLink n { h.link n with rx := some { r with data := data, blocks := r.blocks + 1 } }
  else if r.blocks + 1 = 2 then
    let i := h.core.nextId
    let f : Frm := { hdr := tunHdr data, len := s.len, data := [], src := n, arrived := h.now, lcls := s.cls, shc := s.shc }
    let h := { h with core := { h.core with nextId := i + 1 } }
    let h := (h.setFrm i f).setStage f.key (h.stage f.key ++ [i])
    h.setLink n { h.link n with rx := some { r with data := data, blocks := 2, id := i } }
  else
    let h := h.setLink n { h.link n with rx := some { r with data := data, blocks := r.blocks + 1 } }
    match h.frm r.id with
    | some f =>
      let h := h.setFrm r.id { f with data := (f.data ++ b).take (s.len - 16) }
      match h.frm r.id with
      | some f => (if f.phase = .dropped then h.leave r.id (f.here - f.left) else h).rxOcc n
      | none => h
    | none => h

/-- The control block types of Tables 3-3 and 4-1. -/
def blockTypes : List Nat := [0xAA, 0x1E, btTS1, btTS2, btEI, btStripe, btLmgt, btLbk, btSof, btEofg, btEofb, btLcb, btTime]

/-- DATA_BLOCK_RECEIVE (R93, R95, R101): a body block, or a control block. One of no known type is a framing error; one of a known
type is what the row of that type brings, and nothing here. -/
def Hub.dataReceive (h : Hub) (n : Nat) (ctl : Bool) (k : Blk) : Hub :=
  h.when (h.active n) (fun h =>
    if ctl then h.when (¬ blockTypes.contains k.btype) (fun h => h.framingError n)
    else
      let h := h.rxCount n
      let l := h.link n
      if l.skip then h
      else match l.rx with
      | none => h
      | some r =>
        if ceilDiv r.sof.sof.len 8 ≤ r.blocks then h.openError n r
        else if r.staged then h.stageBytes n r (beBytes 8 k.toNat)
        else h.setLink n { h.link n with rx := some { r with data := r.data ++ beBytes 8 k.toNat, blocks := r.blocks + 1 } })

def execDataBlockReceive (n : PortId) (ctl : Bool) (k : Blk) (s : State) : Host.Outcome State Fault Refusal :=
  run (fun h => h.dataReceive n ctl k) s

/-- A staged frame is accepted: NEXT advances and an ACK is owed within 4 ticks, which frames accepted meanwhile share (R103, R105).
The frame has ended; one that a loss cut short upstream, though its FCRC is good, has no further cells and fails at its end
(R204, R210). -/
def Hub.acceptFrame (h : Hub) (n : Nat) (r : RxOpen) (bad whole : Bool) : Hub :=
  let h := h.set F.PORT_LKSEQ_RXNEXT ((h.rxNext n + 1) % 4096) n
  let l := h.link n
  let h := h.setLink n { l with ackAt := some (l.ackAt.getD (h.now + 4)) }
  if whole then
    match h.frm r.id with
    | some f =>
      let h := (h.setFrm r.id { f with ended := some true, endBad := bad }).rxOcc n
      if f.phase = .dropped then h.gone r.id
      else h.each ((h.startedIn r.id).map (· / 8)) (fun e g => g.pump e)
    | none => h
  else (h.setLink n { h.link n with rx := some r }).failOpen n true

/-- TRAILER_RECEIVE (R99, R103, R104). -/
def Hub.trailerReceive (h : Hub) (n : Nat) (k : Blk) : Hub :=
  h.when (h.active n ∧ (k.btype = btEofg ∨ k.btype = btEofb)) (fun h =>
    let h := if k.crcOk then h.alive n else h
    let h := h.rxCount n
    match (h.link n).rx with
    | none => h
    | some r =>
      let whole := r.blocks == ceilDiv r.sof.sof.len 8
      let good := k.crcOk && k.fcrc == crc32 (beBytes 8 r.sof.toNat ++ r.data)
      let h := h.setLink n { h.link n with rx := none }
      if r.staged then
        if good then h.acceptFrame n r (k.btype == btEofb) whole
        else
          let h := h.bump F.PORT_LKERR_CRCERR n
          let h := (h.setLink n { h.link n with rx := some r }).failOpen n (!whole)
          h.nakWait n true
      else if r.sof.sof.kind = 1 ∧ ¬ good then h.bump F.PORT_LKERR_FRMERR n
      else h)

def execTrailerReceive (n : PortId) (k : Blk) (s : State) : Host.Outcome State Fault Refusal :=
  run (fun h => h.trailerReceive n k) s

/-- OPEN_FRAME_TIMEOUT (R101): 20,000 ticks after the SOF. -/
def Hub.openTimeout (h : Hub) (n : Nat) : Hub :=
  match (h.link n).rx with
  | some r => h.when (r.start + 20000 ≤ h.now) (fun h => h.openError n r)
  | none => h

def execOpenFrameTimeout (n : PortId) (s : State) : Host.Outcome State Fault Refusal := run (fun h => h.openTimeout n) s

/-! ## ACK, NAK, poll, credit -/

/-- A NAK, or an answer treated as one, for frame ASEQ + 1: the fifth with one ASEQ is a lasting fault, else a replay
(R109, R111). -/
def Hub.takeNak (h : Hub) (n aseq : Nat) (staged : Bool) : Hub :=
  let h := h.release_ n aseq
  let l := h.link n
  let c := if l.nakSeq = some aseq then l.nakN + 1 else 1
  let h := h.setLink n { l with nakSeq := some aseq, nakN := c }
  if 5 ≤ c then (h.bump F.PORT_LKRPL_EXHAUST n).linkFault n causeReplay
  else h.replayFrom n ((aseq + 1) % 4096) staged

/-- ACK_RECEIVE (R105, R108). -/
def Hub.ackReceive (h : Hub) (n : Nat) (k : Blk) : Hub :=
  h.when (h.linkUp n ∧ k.isA btLcb ∧ k.lcAk = 1) (fun h =>
    let polled := 0 < (h.link n).polls
    let h := ((h.alive n).creditField n k.lcPool k.lcCount).release_ n k.lcAseq
    let last := (h.get F.PORT_LKSEQ_TXNEXT n + 4095) % 4096
    if polled ∧ k.lcAseq ≠ last then h.takeNak n k.lcAseq false else h)

def execAckReceive (n : PortId) (k : Blk) (s : State) : Host.Outcome State Fault Refusal := run (fun h => h.ackReceive n k) s

/-- NAK_RECEIVE (R109, R111). -/
def Hub.nakReceive (h : Hub) (n : Nat) (k : Blk) : Hub :=
  h.when (h.linkUp n ∧ k.isA btLcb ∧ k.lcAk = 2) (fun h =>
    ((h.alive n).creditField n k.lcPool k.lcCount).takeNak n k.lcAseq k.lcStaged)

def execNakReceive (n : PortId) (k : Blk) (s : State) : Host.Outcome State Fault Refusal := run (fun h => h.nakReceive n k) s

/-- POLL_RECEIVE (R107): a NAK in NAK-wait, else an ACK. -/
def Hub.pollReceive (h : Hub) (n : Nat) (k : Blk) : Hub :=
  h.when (h.linkUp n ∧ k.isA btLcb ∧ k.lcPoll) (fun h =>
    let h := (h.alive n).creditField n k.lcPool k.lcCount
    if h.flag F.PORT_LKSTAT_NAKWAIT n then h.sendLcb n 2 (h.aseq n) (h.link n).nakStaged false 8
    else h.sendLcb n 1 (h.aseq n) false false 8)

def execPollReceive (n : PortId) (k : Blk) (s : State) : Host.Outcome State Fault Refusal := run (fun h => h.pollReceive n k) s

/-- CREDIT_FIELD (R112): of an SOF or an LCB with a good CRC-8. -/
def Hub.creditBlk (h : Hub) (n : Nat) (k : Blk) : Hub :=
  if k.isA btSof then (h.alive n).creditField n (if k.sof.crshr then 8 else k.sof.crcls) k.sof.crcnt
  else if k.isA btLcb then (h.alive n).creditField n k.lcPool k.lcCount
  else h

def execCreditField (n : PortId) (k : Blk) (s : State) : Host.Outcome State Fault Refusal := run (fun h => h.creditBlk n k) s

/-- REPLAY_TIMER_EXPIRY (R108): a poll, or, after four without an answer, a lasting fault. After an ACK or NAK of the same tick no
poll is sent (R121); the timer then runs its period again (log entry 64). -/
def Hub.replayTimer (h : Hub) (n : Nat) : Hub :=
  let l := h.link n
  h.when (h.linkUp n ∧ l.ret ≠ [] ∧ h.due (l.rplAt.map (· + h.get F.PORT_LKTMO_RPLTMO n))) (fun h =>
    if l.ansAt = some h.now then h.setLink n { l with rplAt := some h.now }
    else if 4 ≤ l.polls then (h.bump F.PORT_LKRPL_EXHAUST n).linkFault n causeReplay
    else
      let h := (h.bump F.PORT_LKRPL_POLL n).setLink n { l with polls := l.polls + 1, rplAt := some h.now }
      h.sendLcb n 0 0 false true 8)

def execReplayTimerExpiry (n : PortId) (s : State) : Host.Outcome State Fault Refusal := run (fun h => h.replayTimer n) s

/-- CREDIT_REFRESH (R114): every pool's count at least once in 2,048 ticks. -/
def Hub.creditRefresh (h : Hub) (n : Nat) : Hub :=
  h.when (h.linkUp n) (fun h =>
    h.each (List.range 9) (fun p g => if Tab.get 0 (g.link n).sent p + 2048 ≤ g.now then g.sendLcb n 0 0 false false p else g))

def execCreditRefresh (n : PortId) (s : State) : Host.Outcome State Fault Refusal := run (fun h => h.creditRefresh n) s

/-! ## Heartbeat and idle -/

/-- HEARTBEAT_SEND (R116): 200 ticks without an LCB. An LCB sent for another reason than a credit count carries the shared pool's
(log entry 64). -/
def Hub.heartbeatSend (h : Hub) (n : Nat) : Hub :=
  h.when (h.linkUp n ∧ ¬ h.flag F.PORT_LKSTAT_TXIDLE n ∧ (h.link n).lcbAt + 200 ≤ h.now) (fun h => h.sendLcb n 0 0 false false 8)

def execHeartbeatSend (n : PortId) (s : State) : Host.Outcome State Fault Refusal := run (fun h => h.heartbeatSend n) s

/-- HEARTBEAT_LOSS (R116): 600 ticks without a good SOF, trailer or LCB: a lasting fault. -/
def Hub.heartbeatLoss (h : Hub) (n : Nat) : Hub :=
  h.when (h.linkUp n ∧ ¬ h.flag F.PORT_LKSTAT_RXIDLE n ∧ (h.link n).rxAt + 600 ≤ h.now) (fun h =>
    (h.bump F.PORT_LKDOWN_HBLOSS n).linkFault n causeHeartbeat)

def execHeartbeatLoss (n : PortId) (s : State) : Host.Outcome State Fault Refusal := run (fun h => h.heartbeatLoss n) s

/-- The delay after which a transmit direction may enter electrical idle: IDLEDLY with IDLEEN, 1 for a port whose domain has
been asked to leave RUN (R117, Table 16-5). -/
def Hub.idleDly (h : Hub) (n : Nat) : Option Nat :=
  if h.get F.PWR_DSTAT_TARGET n ≠ 0 ∨ h.level n ≠ lvRUN then some 1
  else if h.flag F.PORT_LKCTL_IDLEEN n then some (h.get F.PORT_LKCTL_IDLEDLY n)
  else none

/-- IDLE_DELAY_EXPIRY (R77, R117): once the conditions have held for the delay, an EI row on every active transmit lane. -/
def Hub.idleDelay (h : Hub) (n : Nat) : Hub :=
  let l := h.link n
  h.when (h.linkUp n ∧ ¬ h.flag F.PORT_LKSTAT_TXIDLE n ∧ h.quiet n ∧
      (h.idleDly n).any (fun t => decide (l.busyAt + t ≤ h.now))) (fun h =>
    (h.eiRow n (h.get F.PORT_LSTAT_TXMASK n)).set F.PORT_LKSTAT_TXIDLE 1 n)

def execIdleDelayExpiry (n : PortId) (s : State) : Host.Outcome State Fault Refusal := run (fun h => h.idleDelay n) s

/-! ## Bring-up (R118 to R120) -/

/-- The port's EPOCH, drawn at its reset and never 0 (Table 4-8; log entry 5). -/
def Hub.epoch (h : Hub) (n : Nat) : Nat × Hub :=
  match (h.link n).epoch with
  | some e => (e, h)
  | none =>
    let d := h.draw
    let e := 1 + d.1 % 0xFFFF
    (e, d.2.setLink n { d.2.link n with epoch := some e })

/-- The DED values of PORT_CRDCFG0 and 1. -/
def Hub.dedCfg (h : Hub) (n : Nat) : List Nat :=
  [F.PORT_CRDCFG0_DED0, F.PORT_CRDCFG0_DED1, F.PORT_CRDCFG0_DED2, F.PORT_CRDCFG0_DED3,
   F.PORT_CRDCFG1_DED4, F.PORT_CRDCFG1_DED5, F.PORT_CRDCFG1_DED6, F.PORT_CRDCFG1_DED7].map (fun f => h.get f n)

/-- The hold time has not passed since link down (Table 4-10). -/
def Hub.holding (h : Hub) (n : Nat) : Bool :=
  match (h.link n).downAt with
  | some t => decide (h.now < t + 40000 * h.get F.PORT_LKCTL_HOLD n)
  | none => false

/-- An LPARAM sent (Table 4-8, R118). -/
def Hub.sendLparam (h : Hub) (n : Nat) : Hub :=
  let r := h.epoch n
  let h := r.2
  let l := h.link n
  let resume := l.kept.isSome && l.kept == some l.pepoch && h.holding n
  let ded := l.ded.foldl (· + ·) 0
  let body := [1#8, 1#8] ++ beBytes 2 r.1 ++ beBytes 2 l.pepoch ++ beBytes 2 (h.rxNext n) ++ beBytes 2 384 ++
    beBytes 2 (384 - ded) ++ l.ded.map (BitVec.ofNat 8 ·) ++ beBytes 2 9232 ++ [BitVec.ofNat 8 (b2n resume)] ++ List.replicate 9 0#8
  (h.setLink n { l with lpAt := some h.now, lpResume := resume }).sendMsg n body

/-- LPARAM_SEND (Table 4-9): DOWN becomes INIT once the lanes are ACTIVE and the staging is empty; then every 64 ticks. -/
def Hub.lparamSend (h : Hub) (n : Nat) : Hub :=
  let st := h.get F.PORT_LKSTAT_STATE n
  if st = 0 then
    h.when (h.active n ∧ h.staged n = 0) (fun h =>
      let h := (h.set F.PORT_LKSTAT_STATE 1 n).setLink n { h.link n with initAt := h.now, ded := h.dedCfg n }
      h.sendLparam n)
  else if st = 1 then h.when (h.due ((h.link n).lpAt.map (· + 64))) (fun h => h.sendLparam n)
  else h

def execLparamSend (n : PortId) (s : State) : Host.Outcome State Fault Refusal := run (fun h => h.lparamSend n) s

/-- A link that has come UP takes FAB_PORTCFG (R175): a changed word clears the recorded range; HELLO is sent, and READY on
the primary uplink once this node is ready (R171, R187); a port that is DOWN no more is not awaited. -/
def Hub.linkIsUp (h : Hub) (n : Nat) : Hub :=
  let reg := h.reg (F.FAB_PORTCFG_ROLE.addr n 0)
  let p := h.fabp n
  let h := if p.cfg.isSome ∧ p.cfg ≠ some reg then h.setReg (F.FAB_PORTDLG_VALID.addr n 0) 0#32 else h
  let h := h.setFabp n { p with cfg := some reg, sends := 0, await := false, offer := none, heard := false, offered := false }
  let h := if h.isUplink n then h.set F.FAB_PORTSTAT_STATE 8 n else if h.role n = 4 then h.set F.FAB_PORTSTAT_STATE 10 n else h
  let h := h.hello n
  (if h.role n = 2 ∧ h.flag F.FAB_SITE_READY then h.sendReady else h).readyCheck

/-- The link comes UP with the partner's LPARAM (R120): by resume when both carried RESUME, else afresh; credit is loaded
from the partner's DED and SHARED. -/
def Hub.comeUp (h : Hub) (n : Nat) (body : Bytes) : Hub :=
  let w (i : Nat) : Nat := beNat (sub body i 2)
  let l := h.link n
  let resume := l.lpResume && (body.getD 22 0#8).toNat % 2 == 1
  let h := (((h.set F.PORT_LKSTAT_STATE 2 n).set F.PORT_LKSTAT_PEPOCH (w 2) n).set F.PORT_LKSTAT_NAKWAIT 0 n).set
    F.PORT_LKSTAT_RESUMED (b2n resume) n
  let h := if resume then
      let h := (h.bump F.PORT_LKDOWN_RESUME n).release_ n ((w 6 % 4096 + 4095) % 4096)
      let l := h.link n
      let h := h.setLink n { l with replay := l.ret.map (·.seq), replayed := l.ret.head?.map (·.seq) }
      if l.ret = [] then h else h.bump F.PORT_LKRPL_REPLAY n
    else (((h.flush n).set F.PORT_LKSEQ_TXNEXT 0 n).set F.PORT_LKSEQ_RXNEXT 0 n)
  let l := h.link n
  let h := h.setLink n { l with cnt := [], last := [], sent := [], rxAt := h.now, lcbAt := h.now, txAt := h.now, downAt := none,
                                kept := none, maxlen := w 20, rx := none, skip := false, nakSeq := none, nakN := 0, polls := 0, busyAt := h.now,
                                ackAt := none, ansAt := none }
  let h := h.each (List.range 8) (fun c g => g.setCrd n c (body.getD (12 + c) 0#8).toNat)
  let h := h.setCrd n 8 (w 10)
  let h := (h.rplRun n).rec1 n 4 0x02 n (b2n resume)
  (h.replayOn n).linkIsUp n

/-- LPARAM_RECEIVE (R118 to R120, Table 4-9); a message of another MTYPE or VER is not acted on. -/
def Hub.lparamReceive (h : Hub) (n : Nat) (body : Bytes) : Hub :=
  h.when (h.active n ∧ body.length = 32 ∧ body.getD 0 0#8 = 1#8 ∧ body.getD 1 0#8 = 1#8) (fun h =>
    let ep := beNat (sub body 2 2)
    let h := h.setLink n { h.link n with pepoch := ep, rxAt := h.now }
    let st := h.get F.PORT_LKSTAT_STATE n
    if st = 2 then
      if ep ≠ h.get F.PORT_LKSTAT_PEPOCH n then h.dropLanes n causeEpoch else h.sendLparam n
    else if st = 1 ∧ (h.link n).epoch = some (beNat (sub body 4 2)) then h.comeUp n body
    else h)

def execLparamReceive (n : PortId) (body : List (BitVec 8)) (s : State) : Host.Outcome State Fault Refusal :=
  run (fun h => h.lparamReceive n body) s

/-- INIT_TIMEOUT (Table 4-9): 20,000 ticks in INIT. -/
def Hub.initTimeout (h : Hub) (n : Nat) : Hub :=
  h.when (h.get F.PORT_LKSTAT_STATE n = 1 ∧ (h.link n).initAt + 20000 ≤ h.now) (fun h =>
    (h.bump F.PORT_TRCNT_FAILED n).dropLanes n causeLanes)

def execInitTimeout (n : PortId) (s : State) : Host.Outcome State Fault Refusal := run (fun h => h.initTimeout n) s

/-- HOLD_EXPIRY (Table 4-9, R120): in DOWN, what was retained is flushed. -/
def Hub.holdExpiry (h : Hub) (n : Nat) : Hub :=
  h.when (h.get F.PORT_LKSTAT_STATE n = 0 ∧ (h.link n).downAt.isSome ∧ ¬ h.holding n) (fun h =>
    let h := h.flush n
    h.setLink n { h.link n with downAt := none })

def execHoldExpiry (n : PortId) (s : State) : Host.Outcome State Fault Refusal := run (fun h => h.holdExpiry n) s

end Sys2Proof.Machine
end

