-- ==== Sys2Proof/Machine/PowerStates.lean ====
section
/-! DEFINITION. The meanings of the commands on power domains, Standby and VCORE (spec/16_power_states.md). -/

namespace Sys2Proof.Machine

/-! ## Votes and entries -/

/-- VOTE_DLY_EXPIRY (R426): an empty vector for DLY ticks. A domain whose begin condition fails stays at RUN, its timer spent. -/
def Hub.dlyEnd (h : Hub) (d : Nat) : Hub :=
  let x := h.dom d
  h.when (h.shared ∧ d ≠ dAON ∧ ¬ h.held d ∧ x.emptyAt.any (fun t => decide (t + h.get F.PWR_DCFG_DLY d ≤ h.now))) (fun h =>
    (h.setDom d { x with spent := true, emptyAt := none }).tryEntry d)

def execVoteDlyExpiry (d : DomainId) (s : State) : Host.Outcome State Fault Refusal := run (fun h => h.dlyEnd d) s

/-- Frames stand in staging or are being sent. -/
def Hub.coreBusy (h : Hub) : Bool := h.core.staging.any (fun e => !e.2.isEmpty) || h.core.tx.any (fun e => e.2.isSome)

/-- What a step waits for (Table 16-5). -/
def Hub.stepOver (h : Hub) (d : Nat) : Bool :=
  let l := h.get F.PWR_DSTAT_TARGET d
  let k := h.dstep d
  if (h.dom d).undo then false
  else if d < 32 ∧ k = 2 then
    h.get F.PORT_LKSTAT_STATE d == 0 || (h.flag F.PORT_LKSTAT_TXIDLE d && h.flag F.PORT_LKSTAT_RXIDLE d)
  else if d = dCORE ∧ l = lvOFF ∧ k = 2 then !h.coreBusy
  else if d = dCORE ∧ l = lvDOZE ∧ k = 5 then false
  else if d = dCORE ∧ k = 1 then decide ((h.dom d).stepAt < h.now)
  else if d = dCORE ∧ l = lvDOZE ∧ k = 4 then decide ((h.dom d).stepAt + h.clkTime (h.get F.PWR_VREQ_DOZELVL) ≤ h.now)
  else if d = dHIF ∧ k = 2 then h.hif.rings.all (fun e => e.2.reads.isEmpty || h.rRemote e.1) && h.hif.bar4.isEmpty &&
    h.hif.reads.all (fun r => r.dead)
  else if d = dRAS ∧ k = 2 then h.ras.pipes.all (fun e => e.2.layers.all (fun y => y.2.coming.isEmpty))
  else true

/-- What the end of steps 1 and 4 does to CORE: ceiling, and the clock of the MGMT island (R17, Table 16-8). -/
def Hub.stepDone (h : Hub) (d : Nat) : Hub :=
  if d ≠ dCORE then h
  else
    let z := h.get F.PWR_DSTAT_TARGET d = lvDOZE
    let v := h.get F.PWR_VREQ_DOZELVL
    if h.dstep d = 1 then h.setCap (if z then levelCeil v else 0)
    else if h.dstep d = 4 ∧ z then h.setClkCap (levelClk v)
    else h

/-- A step of Standby entry ends for a domain; once the group is OFF the next one starts, after the last REG_EN is deasserted
(R431, R432). -/
def Hub.stbyStep (h : Hub) (otp : Tab Nat) (ds : List Nat) : Hub :=
  match h.pwr.stby with
  | none => h
  | some (t, l) =>
    if h.pwr.stbyWake.isSome ∧ ¬ h.flag F.PWR_DCFG_WMODE dMGMT then h.stbyWithdraw
    else
      let h := h.each (l.filter (fun d => ds.contains d)) (fun d g =>
        ((g.setStep d 0).set F.PWR_DSTAT_TARGET 0 d).set F.PWR_DSTAT_LEVEL lvOFF d)
      let rest := l.filter (fun d => !ds.contains d)
      if rest ≠ [] then { h with pwr := { h.pwr with stby := some (t, rest) } }
      else
        match stbyGroups.find? (fun g => g.all (fun d => h.level d != lvOFF)) with
        | some g => h.stbyGroup g
        | none => h.goDark otp

/-- ENTRY_STEP_END (R427): an abort point is reached, or the level. -/
def Hub.entryStep (h : Hub) (otp : Tab Nat) (d : Nat) : Hub :=
  if h.pwr.stby.isSome then h.stbyStep otp [d]
  else
    let k := h.dstep d
    h.when (k ≠ 0 ∧ h.stepOver d) (fun h =>
      let h := h.stepDone d
      if k = 5 then h.commitLevel d
      else h.beginStep d (k + 1) 6)

def execEntryStepEnd (d : DomainId) (s : State) : Host.Outcome State Fault Refusal := runO (fun otp h => h.entryStep otp d) s

def execDomainWake (d : DomainId) (s : State) : Host.Outcome State Fault Refusal := run (fun h => h.domainWake d) s

/-- DOMAIN_EXIT_END (R419, R420): back at RUN; a port that was deeper than IDLE trains again. -/
def Hub.exitEnd (h : Hub) (d : Nat) : Hub :=
  let x := h.dom d
  h.when (x.exit ∧ ¬ x.waits ∧ ¬ (d = dCORE ∧ h.level d = lvDOZE)) (fun h =>
    let l := h.level d
    let h := h.backAtRun d
    if d < 32 ∧ l ≠ lvIDLE then h.tryDetect d
    else if d = dCORE then h.setCap 12
    else h)

def execDomainExitEnd (d : DomainId) (s : State) : Host.Outcome State Fault Refusal := run (fun h => h.exitEnd d) s

/-- A word of PWR_EVOTE takes a value for a domain; AON's are ignored, and bits 31:17 of PWR_EVOTE4 read as zero (Table 16-12). -/
def Hub.setEvote (h : Hub) (d w v : Nat) : Hub :=
  if d = dAON then h
  else
    let v := if w = 4 then v % 2 ^ 17 else v
    let h := h.set F.PWR_EVOTE_EVOTE v d w
    if h.held d ∧ (h.dstep d ≠ 0 ∨ h.level d ≠ lvRUN) then h.wakeDom d else h

/-- EVOTE_WRITE (R425): for the domain that PWR_DSEL of the path selects. -/
def Hub.evoteWrite (h : Hub) (p : Path) (w : Nat) (v : Word) : Hub :=
  h.when ((h.pathLimit p).isNone) (fun h => h.setEvote (h.get F.PWR_DSEL_DOMAIN p.sel) w v.toNat)

def execEvoteWrite (p : Path) (w : Fin 5) (v : Word) (s : State) : Host.Outcome State Fault Refusal :=
  runW (fun _ h => h.evoteWrite p w v) s

/-- MANAGER_VOTE_HOLD_END (R425, Table 16-4). -/
def Hub.mgrEnd (h : Hub) (m : Nat) : Hub :=
  h.when (Tab.get 0 h.pwr.mgr m ≤ h.now) (fun h => { h with pwr := { h.pwr with mgr := Tab.set 0 h.pwr.mgr m 0 } })

def execManagerVoteHoldEnd (m : Fin 16) (s : State) : Host.Outcome State Fault Refusal := run (fun h => h.mgrEnd m) s

/-- SRAM_RETENTION_RETURN (R419): 64 ticks without access. -/
def Hub.sramReturn (h : Hub) : Hub :=
  h.when (h.pwr.sramAt.any (fun t => decide (t + 64 ≤ h.now))) (fun h => { h with pwr := { h.pwr with sramAt := none } })

def execSramRetentionReturn (s : State) : Host.Outcome State Fault Refusal := runQ Hub.sramReturn s

/-- WAIT_INSTRUCTION (R423): with ARM in local mode every selected domain starts its entry, or waits for its clients. An interrupt in the
same tick comes first, and the wait ends at once (R440). -/
def Hub.waitInstr (h : Hub) : Hub :=
  if h.led.irq then h
  else
  let h := { h with pwr := { h.pwr with cpuWait := true } }.set F.MGMT_STAT_WAITING 1
  if h.shared ∨ ¬ h.flag F.PWR_PSCTL_ARM then h
  else
    let h := h.set F.PWR_PSCTL_ARM 0
    h.each (domains.filter (fun d => h.selected d)) (fun d g =>
      let g := g.setDom d { g.dom d with chosen := hasLevel d (g.get F.PWR_DCFG_DROP d) }
      if g.anyClient d then g else g.tryEntry d)

def execWaitInstruction (s : State) : Host.Outcome State Fault Refusal := run Hub.waitInstr s

/-- PCIE_POWER_STATE_CHANGE (R430): 0 the host writes D3hot, 1 D0, 2 it requests an exit from L1. -/
def Hub.pciePower (h : Hub) (k : Nat) : Hub :=
  if k = 0 then { h with pwr := { h.pwr with d3 := true } }
  else (if k = 1 then { h with pwr := { h.pwr with d3 := false } } else h).domainWake dHIF

def execPciePowerStateChange (k : Fin 3) (s : State) : Host.Outcome State Fault Refusal := run (fun h => h.pciePower k) s

/-! ## Standby -/

/-- A write of PWR_PSCTL (Table 16-9, R431): with STBY, Standby entry or its refusal, which changes nothing else. -/
def Hub.psctl (h : Hub) (v : Word) : Hub :=
  let w := h.wr (F.PWR_PSCTL_ARM.addr 0 0) v
  if v.bits 30 1 = 0 ∨ h.pwr.stby.isSome then w
  else if ports.any (fun n => h.isSource n && (h.energised n || h.ppState n == ppDELAY)) then h.set F.PWR_HSTAT_STBYERR 1
  else if ports.any (fun n => h.isSink n && (h.pp n).gate) then h.set F.PWR_HSTAT_STBYERR 2
  else w.stbyGroup ports

/-- STANDBY_ENTRY (R431): S0's and the management controller's alone. -/
def execStandbyEntry (p : Path) (v : Word) (s : State) : Host.Outcome State Fault Refusal :=
  runW (fun _ h => h.when ((h.pathLimit p).isNone) (fun h => h.psctl v)) s

/-- STANDBY_DRAIN_DEADLINE (R432): 20,000 ticks after the start of a drain step, 200 for the ports. -/
def Hub.stbyDeadline (h : Hub) (otp : Tab Nat) : Hub :=
  match h.pwr.stby with
  | none => h
  | some (t, l) => h.when (t + (if l.all (fun d => decide (d < 32)) then 200 else 20000) ≤ h.now) (fun h => h.stbyStep otp l)

def execStandbyDrainDeadline (s : State) : Host.Outcome State Fault Refusal := runO (fun otp h => h.stbyDeadline otp) s

/-- The wake comparator watches an input (R433): 1 WAKE_N, 2 PERST_N, 3 a CFG pin, 4 a seating pin. -/
def Hub.watched (h : Hub) (cause n : Nat) : Bool :=
  let role := Tab.get 0 h.pwr.roles n
  if cause = 1 then h.flag F.PWR_STBYCFG_WAKEN
  else if cause = 2 then h.flag F.PWR_STBYCFG_PERST
  else bitOf (h.get F.PWR_STBYARM_ARM) n &&
    (if cause = 3 then role == 0 || role == 2 || role == 3 else cause == 4 && role == 1)

/-- STANDBY_WAKE (R431, R433, R464): in Standby the wake is recorded and the hub boots, its straps sampled anew. During Standby
entry a wake is pending; while the rails stay down after three failed attempts WAKE_N starts them again (R468). -/
def Hub.standbyWake (h : Hub) (otp : Tab Nat) (cause n straps : Nat) : Hub :=
  if h.pwr.off then h
  else if ¬ h.pwr.asleep then
    if h.pwr.stby.isSome then { h with pwr := { h.pwr with stbyWake := some (cause, n) } }
    else if cause = 1 ∧ 3 ≤ h.boot.tries then { h with boot := { h.boot with tries := 0, retryAt := some h.now } }
    else h
  else
    h.when ((h.watched cause n ∧ ¬ h.trimBad 6 0) ∨ h.pwr.stbyWake.isSome) (fun h =>
      let w := h.pwr.stbyWake.getD (cause, n)
      let n := if 3 ≤ w.1 then w.2 else 0
      let h := ((h.raise F.PWR_WAKE_VALID 1).set F.PWR_WAKE_CAUSE w.1).set F.PWR_WAKE_PORT n
      h.chipReset .standby otp straps)

def execStandbyWake (cause : Fin 5) (n : PortId) (straps : BitVec 8) (s : State) : Host.Outcome State Fault Refusal :=
  runAny (fun otp h => h.standbyWake otp cause n straps.toNat) s

/-! ## VCORE -/

/-- CORE may enter DOZE again after a failed commit (R439). -/
def Hub.unbar (h : Hub) : Hub := h.setDom dCORE { h.dom dCORE with barred := false }

/-- A field of PWR_VREQ takes a level: kept where the level named has VOUT code 0, unless it is in force (R436). -/
def Hub.setLvl (h : Hub) (f : Fld) (l : Nat) : Hub :=
  if h.voutCode l = 0 ∧ l ≠ h.vlevel then h.set F.PWR_VREQ_STATUS 4 else if l = h.get f then h else h.set f l

/-- A write of PWR_VREQ (R435, R436); while CORE commits DOZE, a new DOZELVL is kept for the end of that change. -/
def Hub.vreq (h : Hub) (v : Word) : Hub :=
  let h := h.unbar
  let z := v.bits 4 2
  let r := v.bits 0 2
  let was := h.get F.PWR_VREQ_DOZELVL
  let h := if z ≤ 1 then h.setLvl F.PWR_VREQ_DOZELVL z else h
  let h := if 2 ≤ r then h.setLvl F.PWR_VREQ_RUNLVL r else h
  if h.dstep dCORE ≠ 5 then h.askLevel h.wantLevel
  else if h.pwr.chg.isSome ∧ h.get F.PWR_VREQ_DOZELVL ≠ was then h.setNext (some (h.get F.PWR_VREQ_DOZELVL))
  else h

/-- VREQ_WRITE (R435). -/
def execVreqWrite (p : Path) (v : Word) (s : State) : Host.Outcome State Fault Refusal :=
  runW (fun _ h => h.when ((h.pathLimit p).isNone) (fun h => h.vreq v)) s

/-- A write of PWR_PMBCFG: EN = 1 starts a held change (R436). -/
def Hub.pmbcfg (h : Hub) (v : Word) : Hub :=
  let was := h.flag F.PWR_PMBCFG_EN
  let h := (h.wr (F.PWR_PMBCFG_EN.addr 0 0) v).unbar
  if ¬ was ∧ h.flag F.PWR_PMBCFG_EN then h.askLevel h.wantLevel else h

/-- PMBCFG_EN_WRITE (R436). -/
def execPmbcfgEnWrite (p : Path) (v : Word) (s : State) : Host.Outcome State Fault Refusal :=
  runW (fun _ h => h.when ((h.pathLimit p).isNone) (fun h => h.pmbcfg v)) s

/-- A transfer that was not acknowledged: tried again twice, then PMBERR; when the old code cannot be written back the change
ends at the lower level (R439). -/
def Hub.pmbRetry (h : Hub) (c : VChange) (again : Out) : Hub :=
  if c.fails < 2 then (h.setChg (some { c with fails := c.fails + 1 })).emit again
  else if 3 ≤ c.stage then h.endChange c c.status
  else h.failChange c 2

/-- VOUT_COMMAND_DONE (R437): the write word has ended, acknowledged or not. -/
def Hub.voutDone (h : Hub) (ok : Bool) : Hub :=
  match h.pwr.chg with
  | none => h
  | some c =>
    if c.stage ≠ 0 ∧ c.stage ≠ 3 then h
    else if ok then (h.setChg (some { c with stage := c.stage + 1, sentAt := h.now, fails := 0 })).emit .pmbusStatus
    else h.pmbRetry c (.pmbusVout (h.voutCode (if c.stage = 3 then c.old else c.level)))

def execVoutCommandDone (ok : Bool) (s : State) : Host.Outcome State Fault Refusal := run (fun h => h.voutDone ok) s

/-- STATUS_WORD_READ (R437): power good once bits 11 and 15 are clear. -/
def Hub.statusRead (h : Hub) (ok : Bool) (w : Nat) : Hub :=
  match h.pwr.chg with
  | none => h
  | some c =>
    if c.stage ≠ 1 ∧ c.stage ≠ 4 then h
    else if ¬ ok then h.pmbRetry c .pmbusStatus
    else if bitOf w 11 ∨ bitOf w 15 then (h.setChg (some { c with fails := 0 })).emit .pmbusStatus
    else if c.stage = 4 then h.setChg (some { c with stage := 6, goodAt := h.now })
    else (h.setChg (some { c with stage := 2, goodAt := h.now })).set F.CORE_STAT_VLEVEL c.level

def execStatusWordRead (ok : Bool) (w : BitVec 16) (s : State) : Host.Outcome State Fault Refusal :=
  run (fun h => h.statusRead ok w.toNat) s

/-- SETTLE_END (R437): SETTLE µs after power good a decrease is complete; an increase raises clock and ceiling. -/
def Hub.settleEnd (h : Hub) : Hub :=
  match h.pwr.chg with
  | none => h
  | some c =>
    h.when (c.stage = 2 ∧ c.goodAt + h.get F.PWR_PMBCFG_SETTLE * 200 ≤ h.now) (fun h =>
      if c.old < c.level then h.setChg (some { c with stage := 6, goodAt := h.now }) else h.changeDone c)

def execSettleEnd (s : State) : Host.Outcome State Fault Refusal := run Hub.settleEnd s

/-- PGTMO_EXPIRY (R439): PGTMO × 10 µs after the write without power good. -/
def Hub.pgtmo (h : Hub) : Hub :=
  match h.pwr.chg with
  | none => h
  | some c =>
    h.when ((c.stage = 1 ∨ c.stage = 4) ∧ c.sentAt + 2000 * h.get F.PWR_PMBCFG_PGTMO ≤ h.now) (fun h =>
      if c.stage = 1 then h.failChange c 3 else h.endChange c c.status)

def execPgtmoExpiry (s : State) : Host.Outcome State Fault Refusal := run Hub.pgtmo s

/-- The hub state of Table 16-3. -/
def Hub.hubState (h : Hub) : Nat :=
  if ports.all (fun n => h.level n == lvSLEEP || h.level n == lvOFF) then 2
  else if h.level dCORE = lvDOZE then 3
  else if ports.all (fun n => h.level n != lvRUN) then 1
  else 0

end Sys2Proof.Machine
end

