-- ==== Sys2Proof/Machine/Tunnels.lean ====
section
/-! DEFINITION. The meanings of the tunnel commands: opening and closing entries, heartbeats and protected delivery
(spec/05_tunnels.md). -/

namespace Sys2Proof.Machine

/-! ## Opening and closing (R146 to R150) -/

/-- FAB_TUNCFG.PROTCNT brought up to date. -/
def Hub.protCount (h : Hub) : Hub := h.set F.FAB_TUNCFG_PROTCNT h.protTuns.length

/-- TYPE and FUNC form a permitted pair (Table 5-10). -/
def pairOk (type func : Nat) : Bool :=
  match type with
  | 0 => func == 0 || func == 5
  | 1 => func == 0
  | 2 => func == 1
  | 3 => func == 4
  | 4 => func == 0 || func == 2
  | 5 => func == 0 || func == 3
  | _ => false

/-- The conditions of R147 for opening an entry with the fields it now holds. -/
def Hub.openOk (h : Hub) (t : Nat) : Bool :=
  let ty := h.get F.TUN_W0_TYPE t
  let p := h.flag F.TUN_W0_PROT t
  let b := h.flag F.TUN_W0_BCAST t
  pairOk ty (h.get F.TUN_W2_FUNC t) && (!b || ty == 0 || ty == 1 || ty == 5) && (!p || (ty != 0 && !b)) &&
  (!p || decide (h.protTuns.length < 256))

/-- An entry opens: OPEN in the tick after the write, or STARTING with its sequence state at 0 where it is protected (R147); a
peripheral tunnel's message session starts afresh (R347). -/
def Hub.openEntry (h : Hub) (t : Nat) : Hub :=
  let h := (h.set F.TUN_W0_EN 1 t).setTun t { opening := true }
  let h := if h.get F.TUN_W0_TYPE t = 4 then h.newSession t else h
  if h.flag F.TUN_W0_PROT t then
    (((h.set F.TUN_W0_STATE tsStarting t).set F.TUN_W4_TXSEQ 0 t).set F.TUN_W5_RXNEXT 0 t).protCount
  else h

/-- The opening of an entry in this tick is overtaken by a later write. -/
def Hub.unopen (h : Hub) (t : Nat) : Hub :=
  if (h.tun t).opening then (h.set F.TUN_W0_EN 0 t).setTun t { h.tun t with opening := false } else h

/-- An entry becomes CLOSED. -/
def Hub.closeEntry (h : Hub) (t : Nat) : Hub :=
  (((h.set F.TUN_W0_STATE tsClosed t).set F.TUN_W0_EN 0 t).setTun t {}).tunWord6 t |>.protCount

/-- Held packets of an entry are discarded, and counted in DISC or not. -/
def Hub.dropHeld (h : Hub) (t : Nat) (count : Bool) : Hub :=
  let x := h.tun t
  let h := h.each (x.held.map (·.2)) (fun i g => g.dropRetained i)
  let h := if count then h.disc t x.held.length else h
  (h.setTun t { h.tun t with held := [], gapAt := none }).tunWord6 t

/-- EN = 0 at an OPEN or STARTING entry: it drains (R149). -/
def Hub.drainEntry (h : Hub) (t : Nat) : Hub :=
  let h := h.dropHeld t true
  let h := (h.set F.TUN_W0_EN 0 t).set F.TUN_W0_STATE tsDraining t
  h.setTun t { h.tun t with drainAt := some h.now }

/-- Assigned tunnel entries of two slices after an entry passes from one to the other (Table 10-6). -/
def Hub.moveTunnel (h : Hub) (a b : Nat) : Hub :=
  if a = b then h
  else (h.set F.SLC_STAT_TUNNELS (h.get F.SLC_STAT_TUNNELS a - 1) a).set F.SLC_STAT_TUNNELS (h.get F.SLC_STAT_TUNNELS b + 1) b

/-- A write of word 0 of an entry (R145, R147 to R149). `s0` says whether the writer may change SLICE (Table 10-2). -/
def Hub.tunW0 (h : Hub) (t : Nat) (v : Word) (s0 : Bool) : Hub :=
  if t = 0 then h
  else
    let st := h.get F.TUN_W0_STATE t
    let h := (h.set F.TUN_W0_ANYSRC (v.bits 14 1) t).set F.TUN_W0_CLASS (v.bits 8 3) t
    let h := if st = tsClosed then
        let h := if s0 then (h.moveTunnel (h.get F.TUN_W0_SLICE t) (v.bits 24 7)).set F.TUN_W0_SLICE (v.bits 24 7) t else h
        let h := ((h.set F.TUN_W0_AUTH (v.bits 13 1) t).set F.TUN_W0_BCAST (v.bits 12 1) t).set F.TUN_W0_PROT (v.bits 11 1) t
        if v.bits 4 4 ≤ 5 then h.set F.TUN_W0_TYPE (v.bits 4 4) t else h
      else h
    if v.bits 0 1 = 1 then (if st = tsClosed ∧ h.openOk t then h.openEntry t else if st = tsClosed then h.unopen t else h)
    else if st = tsOpen ∨ st = tsStarting then h.drainEntry t
    else h.unopen t

/-- TUNNEL_OPEN (R147): a write of word 0 with EN = 1. -/
def Hub.tunnelOpen (h : Hub) (t : Nat) (v : Word) : Hub := h.when (v.bits 0 1 = 1) (fun h => h.tunW0 t v true)

def execTunnelOpen (t : TunnelId) (v : Word) (s : State) : Host.Outcome State Fault Refusal := runW (fun _ h => h.tunnelOpen t v) s

/-- TUNNEL_CLOSE (R149): a write of word 0 with EN = 0. -/
def Hub.tunnelClose (h : Hub) (t : Nat) (v : Word) : Hub := h.when (v.bits 0 1 = 0) (fun h => h.tunW0 t v true)

def execTunnelClose (t : TunnelId) (v : Word) (s : State) : Host.Outcome State Fault Refusal :=
  runW (fun _ h => h.tunnelClose t v) s

/-- Frames of an entry that are still at this hub. -/
def Hub.framesOf (h : Hub) (t : Nat) : List (Nat × Frm) :=
  h.core.frames.filterMap (fun x => match x.2 with
    | some f => if f.tun = some t ∧ (f.phase ≠ .dropped ∨ f.retained) then some (x.1, f) else none
    | none => none)

/-- DRAIN_END (R149). -/
def Hub.drainEnd (h : Hub) (t : Nat) : Hub :=
  h.when (h.get F.TUN_W0_STATE t = tsDraining ∧ h.framesOf t = [] ∧ (h.tun t).retain = []) (fun h => h.closeEntry t)

def execDrainEnd (t : TunnelId) (s : State) : Host.Outcome State Fault Refusal := run (fun h => h.drainEnd t) s

/-- A frame of an entry is discarded with its retention, but for what has started of it: its other copies, and a resend that waits,
go too. A ring whose frame had not committed is told CLOSED (log entry 66). -/
def Hub.discardFrame (h : Hub) (i : Nat) (f : Frm) : Hub :=
  match f.phase with
  | .accepted =>
    let h := (h.unlink i).dropWaits i
    if f.retained then h.dropRetained i else h
  | _ => if f.retained then ((h.note f false cCLOSED).setFrm i { f with origin := .none }).dropRetained i else h.dropStaged i cCLOSED

/-- Everything an entry still has here is discarded, and counted but for a frame whose transmission has started (R149). -/
def Hub.discardAll (h : Hub) (t : Nat) : Hub :=
  (h.framesOf t).foldl (fun g x =>
    let started := g.startedIn x.1 != []
    let g := g.discardFrame x.1 x.2
    if started then g else g.disc t) h

/-- DRAIN_DEADLINE (R149): 200,000 ticks after the write. -/
def Hub.drainDeadline (h : Hub) (t : Nat) : Hub :=
  h.when (h.get F.TUN_W0_STATE t = tsDraining ∧ h.due ((h.tun t).drainAt.map (· + 200000))) (fun h =>
    (h.discardAll t).closeEntry t)

def execDrainDeadline (t : TunnelId) (s : State) : Host.Outcome State Fault Refusal := run (fun h => h.drainDeadline t) s

/-! ## Heartbeats (R153, R154, R158, R159) -/

/-- An 8-byte heartbeat entry (Table 5-12): endpoints, the four flags from bit 24 on, and NEXT or ASEQ. -/
def hbEntry (itun etun : Nat) (b24 b25 b26 b27 : Bool) (seq : Nat) : Nat :=
  pack [(12, itun), (12, etun), (1, b2n b24), (1, b2n b25), (1, b2n b26), (1, b2n b27), (12, 0), (24, seq)]

/-- A heartbeat list. -/
def hbList (mop : Nat) (es : List Nat) : Bytes :=
  beBytes 8 (pack [(8, mop), (8, 0), (16, es.length), (32, 0)]) ++ es.flatMap (fun e => beBytes 8 e)

/-- A list cut into pieces of at most 64. -/
def pieces : Nat → List Nat → List (List Nat)
  | 0, _ => []
  | _, [] => []
  | k + 1, l => l.take 64 :: pieces k (l.drop 64)

/-- A PACK to a peer hub (R153). -/
def Hub.sendPack (h : Hub) (peer : Nat) (es : List Nat) : Hub := h.mgmtFrame peer 31 7 false (hbList mopPack es)

/-- A PHB on the path that PATH selects for its entries (R153, R158). -/
def Hub.sendPhb (h : Hub) (peer e : Nat) (es : List Nat) : Hub :=
  let pl := hbList mopPhb es
  let hd : THdr := { dhub := peer, dtun := 0, shub := h.myId, stun := 0, type := 0, cls := 7, hops := 31, plen := pl.length }
  let r := h.newFrame hd.seal pl 33 none .none
  r.2.routed_ r.1 [e * 8 + 7]

/-- The PACK entry of an egress end (R154, R159). -/
def Hub.packEntry (h : Hub) (t : Nat) (live startack : Bool) : Nat :=
  let x := h.tun t
  hbEntry (h.get F.TUN_W1_DTUN t) t live (x.held ≠ []) startack (!x.started) ((h.get F.TUN_W5_RXNEXT t + 2 ^ 24 - 1) % 2 ^ 24)

/-- The end of a window at the ingress end of an entry: a third one without LIVE is a path failure (R158). -/
def Hub.windowCheck (h : Hub) (t : Nat) : Hub :=
  let x := h.tun t
  let missed := if x.liveIn then 0 else x.missed + 1
  let h := h.setTun t { x with missed := missed, liveIn := false }
  if 3 ≤ missed then h.failover t else h

/-- The PHB entries that are due, with their peer and egress point. -/
def Hub.phbDue (h : Hub) : List (Nat × Nat × Nat) :=
  h.protTuns.filterMap (fun t =>
    let starting := h.get F.TUN_W0_STATE t == tsStarting
    if (h.tun t).sentPkt && !starting then none
    else (h.pathEgress t).map (fun e =>
      (h.get F.TUN_W1_DHUB t, e, hbEntry t (h.get F.TUN_W1_DTUN t) starting false false false
        (if starting then (h.tun t).next else h.get F.TUN_W4_TXSEQ t))))

/-- Lists of one kind sent: entries gathered by peer and egress, 64 to a message. -/
def Hub.sendLists (h : Hub) (l : List (Nat × Nat × Nat)) (send : Hub → Nat → Nat → List Nat → Hub) : Hub :=
  let keys := (l.map (fun x => (x.1, x.2.1))).eraseDups
  keys.foldl (fun g k =>
    (pieces 64 ((l.filter (fun x => x.1 = k.1 ∧ x.2.1 = k.2)).map (·.2.2))).foldl (fun g es => send g k.1 k.2 es) g) h

/-- PROTECTED_WINDOW_END (R153): detection at the ingress ends, then PHB and PACK lists. -/
def Hub.protWindow (h : Hub) : Hub :=
  h.when (h.ridge % 200 = 0) (fun h =>
    let ts := h.protTuns
    let h := h.each ts (fun t g => g.windowCheck t)
    let h := h.sendLists h.phbDue (fun g p e es => g.sendPhb p e es)
    let packs := ts.map (fun t => (h.get F.TUN_W1_DHUB t, 0, h.packEntry t (h.tun t).seen false))
    let h := h.sendLists packs (fun g p _ es => g.sendPack p es)
    let h := h.each ts (fun t g => g.setTun t { g.tun t with sentPkt := false, seen := false })
    h.deliverAll)

def execProtectedWindowEnd (s : State) : Host.Outcome State Fault Refusal := run Hub.protWindow s

/-- Entries of a heartbeat list, if its length is right (Table 5-3): the first 4 bytes and the last 4 of each. -/
def Frm.hbEntries (f : Frm) : Option (List (Nat × Nat)) :=
  let n := f.at_ 2 2
  if 1 ≤ n ∧ n ≤ 64 ∧ f.hdr.plen = 8 + 8 * n then
    some ((List.range n).map (fun i => (f.at_ (8 + 8 * i) 4, f.at_ (12 + 8 * i) 4)))
  else none

/-- A PHB entry at an egress end (R154); an end that is not OPEN, or not protected, counts it (R153). A START is taken at a STARTING
end too: the entry of either end is STARTING until the other has answered its START (R147, R154, log entry 30). -/
def Hub.phbEntry (h : Hub) (e : Nat × Nat) : Hub :=
  let t := e.1 / 2 ^ 8 % 2 ^ 12
  let st := h.get F.TUN_W0_STATE t
  let start := bitOf e.1 7
  if ¬ h.flag F.TUN_W0_PROT t ∨ (st ≠ tsOpen ∧ ¬ (st = tsStarting ∧ start)) then h.bump F.FAB_TUNDISC1_NOEP
  else
    let h := h.setTun t { h.tun t with seen := true }
    if start then
      let h := h.dropHeld t false
      let h := (h.set F.TUN_W5_RXNEXT (e.2 % 2 ^ 24) t).setTun t { h.tun t with started := true }
      h.sendPack (h.get F.TUN_W1_DHUB t) [h.packEntry t true true]
    else h

/-- PHB_RECEIVE (R154): the oldest PHB list in the inbox; one whose length is wrong is discarded (R135). -/
def Hub.phbReceive (h : Hub) : Hub :=
  match h.takeMsg (fun f => f.isMop mopPhb) with
  | none => h
  | some (f, h) =>
    match f.hbEntries with
    | none => h.disc 0
    | some es => es.foldl (fun g e => g.phbEntry e) h

def execPhbReceive (s : State) : Host.Outcome State Fault Refusal := run Hub.phbReceive s

/-- Retained packets up to and including ASEQ are released (R155). -/
def Hub.releaseTo (h : Hub) (t aseq : Nat) : Hub :=
  let x := h.tun t
  let done := fun (p : Nat × Nat) => decide ((aseq + 2 ^ 24 - p.1) % 2 ^ 24 < 2 ^ 23)
  let h := h.each ((x.retain.filter done).map (·.2)) (fun i g => g.dropRetained i)
  (h.setTun t { h.tun t with retain := x.retain.filter (fun p => !done p) }).tunWord6 t

/-- HOLD twice in a row with one ASEQ resends what lies after it, once in 2,000 ticks (R159). -/
def Hub.holdResend (h : Hub) (t aseq : Nat) (hold : Bool) : Hub :=
  let x := h.tun t
  let again := hold && x.hold == some aseq
  let free := match x.holdAt with
    | some (a, at_) => a ≠ aseq || decide (at_ + 2000 ≤ h.now)
    | none => true
  let h := h.setTun t { x with hold := if hold then some aseq else none }
  if again && free then
    (h.setTun t { h.tun t with holdAt := some (aseq, h.now) }).resend t (some aseq)
  else h

/-- A PACK entry at an ingress end (R154, R155, R158, R159). -/
def Hub.packTaken (h : Hub) (e : Nat × Nat) : Hub :=
  let t := e.1 / 2 ^ 20 % 2 ^ 12
  let st := h.get F.TUN_W0_STATE t
  if ¬ h.flag F.TUN_W0_PROT t ∨ st = tsClosed then h
  else
    let aseq := e.2 % 2 ^ 24
    let h := if bitOf e.1 7 then h.setTun t { h.tun t with liveIn := true } else h
    if bitOf e.1 4 then
      -- NEEDSTART: the egress end has no sequence state, so its ASEQ says nothing; packets that wait in queues are held back
      if st = tsOpen then
        let x := h.tun t
        let next := (x.retain.head?.map (·.1)).getD (h.get F.TUN_W4_TXSEQ t)
        h.each (x.retain.map (·.2)) (fun i g => g.unlink i) |>.set F.TUN_W0_STATE tsStarting t |>.setTun t { x with next := next }
      else h
    else
      let h := (h.releaseTo t aseq).holdResend t aseq (bitOf e.1 6)
      if bitOf e.1 5 ∧ st = tsStarting then (h.set F.TUN_W0_STATE tsOpen t).resend t none else h

/-- PACK_RECEIVE (R155). -/
def Hub.packReceive (h : Hub) : Hub :=
  match h.takeMsg (fun f => f.isMop mopPack) with
  | none => h
  | some (f, h) =>
    match f.hbEntries with
    | none => h.disc 0
    | some es => es.foldl (fun g e => g.packTaken e) h

def execPackReceive (s : State) : Host.Outcome State Fault Refusal := run Hub.packReceive s

/-! ## Arrival of protected packets (R156, R157) -/

/-- A packet is held for reordering, within the quota; else it counts as out of window (R156). Its cells pass from staging into the
kennel as any others do, by the admission stage (R15, R215). -/
def Hub.holdPacket (h : Hub) (t i : Nat) (f : Frm) : Hub :=
  if ¬ h.quotaRoom f.n then (h.bump F.FAB_PROTCNT_OOW).dropStaged i
  else
    let h := (h.retUp f.n).setFrm i { f with phase := .accepted, retained := true, ts := h.now }
    let x := h.tun t
    ((h.setTun t { x with held := x.held ++ [(f.hdr.eseq, i)] }).tunWord6 t).gapCheck t

/-- The packet at RXNEXT goes to its queue, followed by the held ones that are next (R156); one that the queue refuses is
held, as R201 says of held packets. -/
def Hub.deliverNext (h : Hub) (t i : Nat) (f : Frm) : Hub :=
  let q := h.sinkOf t * 8 + f.hdr.cls
  if h.accepts q f.n 0 then
    let h := (h.occUp q f.n).setFrm i { f with phase := .accepted, charged := [q], ts := h.now, routs := [(q, h.outRate (q / 8))] }
    let h := (h.link_ i q).set F.TUN_W5_RXNEXT (f.hdr.eseq + 1) t
    (h.deliverRun t 4096).gapFresh t
  else h.holdPacket t i f

/-- The acceptance rule (R156), by which a packet is delivered once (R160). -/
def Hub.protPacket (h : Hub) (t i : Nat) (f : Frm) : Hub :=
  let h := h.setTun t { h.tun t with seen := true }
  let x := h.tun t
  let st := h.get F.TUN_W0_STATE t
  let rx := h.get F.TUN_W5_RXNEXT t
  let d := (f.hdr.eseq + 2 ^ 24 - rx) % 2 ^ 24
  if st ≠ tsOpen ∧ st ≠ tsStarting then ((h.bump F.FAB_TUNDISC1_NOEP).disc t).dropStaged i
  else if f.endBad then ((h.bump F.FAB_TUNDISC1_BADEND).disc t).dropStaged i
  else if ¬ x.started then (h.disc t).dropStaged i
  else if d < 4096 ∧ x.held.any (fun p => p.1 = f.hdr.eseq) then (h.bump F.FAB_PROTCNT_DUP).dropStaged i
  else if d = 0 then h.deliverNext t i f
  else if d < 4096 then h.holdPacket t i f
  else if (rx + 2 ^ 25 - 1 - f.hdr.eseq) % 2 ^ 24 < 8192 then (h.bump F.FAB_PROTCNT_DUP).dropStaged i
  else (h.bump F.FAB_PROTCNT_OOW).dropStaged i

/-- PROTECTED_PACKET_ARRIVE (R156): the oldest packet that has come whole and waits at its entry. -/
def Hub.packetArrive (h : Hub) : Hub :=
  match h.core.frames.findSome? (fun x => match x.2 with
      | some f => (match f.phase with
        | .protected_ t => if f.ended = some true ∧ ¬ f.retained then some (x.1, f, t) else none
        | _ => none)
      | none => none) with
  | some (i, f, t) => h.protPacket t i f
  | none => h

def execProtectedPacketArrive (s : State) : Host.Outcome State Fault Refusal := run Hub.packetArrive s

/-- The held packet next after RXNEXT, as its distance from it. -/
def Hub.lowestHeld (h : Hub) (t : Nat) : Option Nat :=
  let rx := h.get F.TUN_W5_RXNEXT t
  (h.tun t).held.foldl (fun a p =>
    let d := (p.1 + 2 ^ 24 - rx) % 2 ^ 24
    match a with
    | some b => some (min b d)
    | none => some d) none

/-- GAP_TIMER_EXPIRY (R157). -/
def Hub.gapExpiry (h : Hub) (t : Nat) : Hub :=
  h.when (h.due ((h.tun t).gapAt.map (· + h.get F.FAB_TUNCFG_REORDTMO * 200))) (fun h =>
    match h.lowestHeld t with
    | none => h
    | some d =>
      let h := h.set F.TUN_W5_RXNEXT (h.get F.TUN_W5_RXNEXT t + d) t
      let h := (h.bump F.TUN_W7_LOST t d).bump F.FAB_PROTCNT_LOST 0 d
      let h := h.setTun t { h.tun t with gapAt := none }
      let h := (h.deliverRun t 4096).gapCheck t
      h.rec1 (prodSlice (h.get F.TUN_W0_SLICE t)) 3 0x08 srcHub (2 ^ 12 * min d 0xFFF + t))

def execGapTimerExpiry (t : TunnelId) (s : State) : Host.Outcome State Fault Refusal := run (fun h => h.gapExpiry t) s

end Sys2Proof.Machine
end

