-- ==== Sys2Proof/Machine/Slices.lean ====
section
/-! DEFINITION. The meanings of the slice commands: binding, assignment, slice reset (spec/10_slices.md). -/

namespace Sys2Proof.Machine

/-! ## Binding (R284 to R286) -/

/-- A refusal is recorded in SLC_ERR (R285, R287). -/
def Hub.slcErr (h : Hub) (s cause res idx : Nat) : Hub :=
  ((((h.raise F.SLC_ERR_VALID 1).set F.SLC_ERR_SLICE s).set F.SLC_ERR_CAUSE cause).set F.SLC_ERR_RESOURCE res).set F.SLC_ERR_INDEX idx

/-- Something of the slice is at work (R285). -/
def Hub.slcBusy (h : Hub) (s : Nat) : Bool :=
  h.liveRings.any (fun r => h.rSlice r == s) ||
  (List.range 8).any (fun d => h.pipeOwner d == s && h.pipeOn d) ||
  windows.any (fun w => h.winOwner w == s && h.flag F.BLK_WCTL_EN w)

/-- The first condition of R285 that refuses a binding, as SLC_ERR's cause; 0 for none. -/
def Hub.bindErr (h : Hub) (s : Nat) (v : Word) : Nat :=
  if v.bits 31 1 = 1 ∧ (List.range 128).any (fun q => q != s && h.bound q && h.pasid q == v.bits 0 20) then 1
  else if h.resetting s then 3
  else if h.slcBusy s then 2
  else if s = 0 ∧ v.bits 31 1 = 0 then 4
  else 0

/-- A write of SLC_BINDs. -/
def Hub.bind (h : Hub) (s : Nat) (v : Word) : Hub :=
  let c := h.bindErr s v
  if c ≠ 0 then h.slcErr s c 0 0
  else
    let was := h.bound s
    let on := v.bits 31 1
    let h := ((h.set F.SLC_BIND_VALID on s).set F.SLC_BIND_PASID (v.bits 0 20) s).set F.SLC_STAT_STATE on s
    (if was ∧ on = 0 then h.dropVotes s else h).modeCheck

/-- SLICE_BIND_WRITE (R285): S0's alone. -/
def execSliceBindWrite (p : Path) (sl : SliceId) (v : Word) (s : State) : Host.Outcome State Fault Refusal :=
  runW (fun _ h => h.when ((h.pathLimit p).isNone) (fun h => h.bind sl v)) s

/-! ## Assignment (R287, Tables 10-1, 10-11) -/

/-- An owner array: 0 pipes, 1 streams, 2 windows, 3 root ports, 4 queues, 5 meter groups. -/
def ownArray : Nat → Fld
  | 0 => F.SLC_PIPEOWN_OWN0
  | 1 => F.SLC_STRMOWN_OWN0
  | 2 => F.SLC_WINOWN_OWN0
  | 3 => F.SLC_USBOWN_OWN0
  | 4 => F.SLC_QOWN_OWN0
  | _ => F.SLC_MTROWN_OWN0

/-- Words of an owner array. -/
def ownWords : Nat → Nat
  | 0 => 2
  | 1 => 2
  | 2 => 4
  | 3 => 8
  | 4 => 68
  | _ => 64

/-- A RUN ring of slice `s` and this kind binds a pipe or stream. -/
def Hub.bindsIt (h : Hub) (s kind b : Nat) : Bool :=
  h.liveRings.any (fun r => h.rState r == rRUN && h.rKind r == kind && h.rSlice r == s && h.get F.RCTX0_BIND r == b)

/-- A read is outstanding through a window, or a RUN ring with REMOTE = 1 names it. -/
def Hub.winUsed (h : Hub) (w : Nat) : Bool :=
  (h.win w).sent.any (fun r => !r.wr) || (h.win w).wait.any (fun r => !r.wr) ||
  h.liveRings.any (fun r => h.rState r == rRUN && h.rRemote r && h.get F.RCTX0_WIN r == w)

/-- A change of an owner is refused (Table 10-1). -/
def Hub.ownRefused (h : Hub) (arr i old : Nat) : Bool :=
  if arr = 0 then h.bindsIt old kFLIP i
  else if arr = 1 then h.bindsIt old kEVT i
  else if arr = 2 then h.winUsed i
  else false

/-- One field of an owner word. -/
def Hub.ownField (h : Hub) (arr i new : Nat) : Hub :=
  let f := ownArray arr
  let old := h.ownerOf f i
  if new = old then h
  else if h.ownRefused arr i old then h.slcErr old 5 arr i
  else
    let a := f.addr (i / 4) 0
    h.setReg a ((h.reg a).setBits (i % 4 * 8) 7 new)

/-- A write of a word of an owner array. -/
def Hub.ownWrite (h : Hub) (arr w : Nat) (v : Word) : Hub :=
  if w < ownWords arr then h.each [0, 1, 2, 3] (fun k g => g.ownField arr (4 * w + k) (v.bits (8 * k) 7)) else h

/-- OWNER_WRITE (R287): S0's alone. -/
def execOwnerWrite (p : Path) (arr : Fin 6) (w : Fin 68) (v : Word) (s : State) : Host.Outcome State Fault Refusal :=
  runW (fun _ h => h.when ((h.pathLimit p).isNone) (fun h => h.ownWrite arr w v)) s

/-! ## Slice reset (R289 to R294) -/

def Hub.srst (h : Hub) (s : Nat) : Option SlcRst := Tab.get none h.hif.srst s
def Hub.setSrst (h : Hub) (s : Nat) (x : Option SlcRst) : Hub := { h with hif := { h.hif with srst := Tab.set none h.hif.srst s x } }

/-- Rings of a slice that are not IDLE. -/
def Hub.ringsOf (h : Hub) (s : Nat) : List Nat := h.liveRings.filter (fun r => h.rSlice r == s)

/-- Started descriptors of the slice's rings complete SQUASHED (R279, R290). -/
def Hub.squashAll (h : Hub) (s : Nat) : Hub := h.each (h.ringsOf s) (fun r g => g.squashRing r)

/-- Reads outstanding through owned windows are abandoned (R291), those among them that wait to be sent again too; BAR4 reads end with
all ones, as those of Table 10-3 do. -/
def Hub.abandonReads (h : Hub) (s : Nat) : Hub :=
  h.each (windows.filter (fun w => h.winOwner w = s)) (fun w g =>
    let x := g.win w
    let bar4 := (x.sent ++ x.wait).filter (fun r => !r.wr && !r.abandoned && r.bar4)
    let off (r : BlkReq) : BlkReq := if r.wr then r else { r with abandoned := true }
    let g := g.setWin w { x with wait := (x.wait.filter (fun r => r.wr || r.tag.isSome)).map off, sent := x.sent.map off,
                                 polling := false }
    bar4.foldl (fun g r => g.rdDone w r .timeout) g)

/-- The entries of a slice that are not CLOSED, entry 0 apart (R293). -/
def Hub.entriesOf (h : Hub) (s : Nat) : List Nat :=
  h.regs.filterMap (fun e =>
    let t := (e.1 - 0x80000) / 0x20
    if 0x80020 ≤ e.1 ∧ e.1 < 0xA0000 ∧ e.1 % 0x20 = 0 ∧ h.get F.TUN_W0_STATE t ≠ tsClosed ∧ h.get F.TUN_W0_SLICE t = s then some t
    else none)

/-- CLOSE = 1: entries drain, or, in squash mode, close at once. -/
def Hub.closeAll (h : Hub) (s : Nat) (squash : Bool) : Hub :=
  h.each (h.entriesOf s) (fun t g =>
    if squash then
      let g := g.dropHeld t true
      let l := (g.tun t).retain.map (·.2)
      ((g.each l (fun i k => k.dropRetained i)).disc t l.length).closeEntry t
    else if g.tunState t = tsOpen ∨ g.tunState t = tsStarting then g.drainEntry t
    else g)

/-- Every claim of the slice is released (R31). An amount of resource 0x50 that the slice claimed by a write of MIN or QUOTA has no
owner to go back to: MIN and QUOTA keep what they hold (DESIGN CHOICE, log entry 65). -/
def Hub.dropClaims (h : Hub) (s : Nat) : Hub :=
  h.each ((h.owners.filter (fun e => e.2 = ownSlice s)).map (·.1)) (fun r g => g.release r (ownSlice s))

/-- The actions of Table 10-3 on rings, pipes and ports, and on the entries with CLOSE = 1. -/
def Hub.slcActions (h : Hub) (s : Nat) (squash close : Bool) : Hub :=
  let h := h.each (h.ringsOf s) (fun r g => g.ringReset r false)
  let h := if squash then (h.squashAll s).abandonReads s else h
  let h := (h.rasReset s squash).usbReset s squash
  if close then h.closeAll s squash else h

/-- A write of SLC_RSTs (R289, R294): a second GO only turns a drain into a squash. -/
def Hub.slcRst (h : Hub) (s : Nat) (v : Word) : Hub :=
  let h := h.wr (F.SLC_RST_GO.addr s 0) v
  let squash := v.bits 30 1 == 1
  if v.bits 31 1 = 0 then h
  else
    match h.srst s with
    | some x =>
      if squash ∧ ¬ x.squash then (h.setSrst s (some { x with squash := true })).slcActions s true (v.bits 29 1 == 1) else h
    | none =>
      let h := ((h.set F.SLC_STAT_STATE 2 s).set F.SLC_RST_FORCED 0 s).setSrst s (some { start := h.now, squash := squash })
      (h.slcActions s squash (v.bits 29 1 == 1)).dropClaims s

/-- SLICE_RESET (R289): a write of SLC_RSTs by S0 or by the slice itself. -/
def Hub.sliceReset (h : Hub) (p : Path) (s : Nat) (v : Word) : Hub :=
  h.when (h.pathSlice p = 0 ∨ h.pathSlice p = s) (fun h => h.slcRst s v)

def execSliceReset (p : Path) (sl : SliceId) (v : Word) (s : State) : Host.Outcome State Fault Refusal :=
  runW (fun _ h => h.sliceReset p sl v) s

/-- SLICE_RESET_DRAIN_DEADLINE (R290): what remains is squashed. -/
def Hub.slcDeadline (h : Hub) (s : Nat) : Hub :=
  match h.srst s with
  | none => h
  | some x =>
    h.when (¬ x.squash ∧ x.start + 20000 ≤ h.now) (fun h =>
      ((h.squashAll s).usbReset s true).set F.SLC_RST_FORCED 1 s)

def execSliceResetDrainDeadline (sl : SliceId) (s : State) : Host.Outcome State Fault Refusal := run (fun h => h.slcDeadline sl) s

/-- A completion of a remote ring of the slice still waits to leave through its window. -/
def Hub.cplWaits (h : Hub) (s : Nat) : Bool :=
  windows.any (fun w => (h.win w).wait.any (fun q => match q.use with
    | .ringWrite r => h.rSlice r == s
    | _ => false))

/-- SLICE_RESET_COMPLETE (R290, R292): drain, when every ring is IDLE and every started USB transfer has ended; squash, when
nothing remains to be completed; no completion is written after it. -/
def Hub.resetComplete (h : Hub) (s : Nat) : Hub :=
  match h.srst s with
  | none => h
  | some x =>
    h.when ((h.ringsOf s).all (fun r => x.squash && (h.ring r).descs.isEmpty) ∧ (x.squash ∨ h.usbQuiet s) ∧ ¬ h.cplWaits s) (fun h =>
      let h := h.each (h.ringsOf s) (fun r g => g.ringIdle r)
      let dur := min (h.now - x.start) 0xFFFF
      let h := ((h.set F.SLC_STAT_STATE (b2n (h.bound s)) s).raise F.SLC_RST_DONE 1 s).set F.SLC_RST_DUR dur s
      let h := ((h.bump F.SLC_RSTINFO_SQUASHED s x.squashed).setSrst s none).rec1 (prodSlice 0) 5 1 srcHub
        (2 ^ 23 * b2n x.squash + 2 ^ 16 * s + dur)
      if h.flag F.SLC_CFG_IRQEN then h.vector (h.get F.SLC_CFG_VEC) else h)

def execSliceResetComplete (sl : SliceId) (s : State) : Host.Outcome State Fault Refusal := run (fun h => h.resetComplete sl) s

end Sys2Proof.Machine
end

