-- ==== Sys2Proof/Machine/Traffic.lean ====
section
/-! DEFINITION. The meanings of the traffic-control commands: gate lists, refills and staged writes of shapers and meters,
and the shepherd's lane turns (spec/08_traffic_control.md). -/

namespace Sys2Proof.Machine

/-! ## Gate control lists (R227 to R230) -/

/-- The class of the frame that an egress point is transmitting, at a port the frame on the line, unless OVERRUN has counted it. -/
def Hub.txClass (h : Hub) (e : Nat) : Option Nat :=
  if e < 32 then
    match (h.link e).line with
    | some x => if x.tallied then none else ((h.link e).ret.find? (fun r => r.seq = x.seq)).map (·.cls)
    | none => none
  else
    match h.tx e with
    | some t => if t.tallied ∨ (t.fin ∧ t.until_ ≤ h.now) then none else some (t.q % 8)
    | none => none

/-- The frame that an egress point transmits is counted in OVERRUN, once (R229). -/
def Hub.overrun (h : Hub) (e : Nat) : Hub :=
  let h := h.bump F.TRF_CNT0_OVERRUN
  if e < 32 then h.setLink e { h.link e with line := (h.link e).line.map (fun x => { x with tallied := true }) }
  else h.setTx e ((h.tx e).map (fun t => { t with tallied := true }))

/-- TRF_GSTAT shows the present entry and gates; with GUARD = 0 a frame still transmitting when its gate closes is counted
in OVERRUN (R228, R229). -/
def Hub.gateShow (h : Hub) (e : Nat) : Hub :=
  let old := h.get F.TRF_GSTAT_GATES e
  let g := h.gatesAt e h.ridge
  let late := match h.txClass e with
    | some c => !h.flag F.TRF_GCTL_GUARD e && bitOf old c && !bitOf g.2 c
    | none => false
  let h := (h.set F.TRF_GSTAT_ENTRY g.1 e).set F.TRF_GSTAT_GATES g.2 e
  if late then h.overrun e else h

/-- GATE_ENTRY_CHANGE (R228). -/
def Hub.gateEntryChange (h : Hub) (e : Nat) : Hub :=
  h.when (h.flag F.TRF_GCTL_EN e ∧ (h.gate e).active.isSome) (fun h => h.gateShow e)

def execGateEntryChange (e : EgressId) (s : State) : Host.Outcome State Fault Refusal := run (fun h => h.gateEntryChange e) s

/-- Some entry within the length of a bank has INTERVAL 0. -/
def Hub.zeroInterval (h : Hub) (e b : Nat) : Bool :=
  (List.range (h.glen e b)).any (fun i => h.get F.GATE_INTERVAL (e * 512 + b * 256 + i) == 0)

/-- A commit is refused (R230). -/
def Hub.commitRefused (h : Hub) (e : Nat) : Bool :=
  let b := 1 - h.get F.TRF_GSTAT_ACTBANK e
  let n := h.glen e b
  h.flag F.TRF_GSTAT_PEND e || !h.flag F.TRF_GCTL_EN e || n == 0 || decide (256 < n) || h.gcyc e b == 0 || h.zeroInterval e b

/-- The switchover tick of a commit at tick `tc`, and whether it lies later than the base time written (R230). -/
def switchTick (base cycle tc : Nat) : Nat × Bool :=
  if tc + 2 ≤ base then (base, false) else (base + ceilDiv (tc + 2 - base) cycle * cycle, true)

/-- GATE_COMMIT (R230). -/
def Hub.gateCommit (h : Hub) (e : Nat) : Hub :=
  if h.commitRefused e then h.raise F.TRF_GSTAT_CERR 1 e
  else
    let b := 1 - h.get F.TRF_GSTAT_ACTBANK e
    let s := switchTick (h.get64 F.TRF_GBASE_LO_BASE_LO F.TRF_GBASE_HI_BASE_HI e) (h.gcyc e b) h.ridge
    let h := (h.setGate e { h.gate e with pending := some s.1 }).set F.TRF_GSTAT_PEND 1 e
    if s.2 then h.raise F.TRF_GSTAT_LATE 1 e else h

def execGateCommit (e : EgressId) (s : State) : Host.Outcome State Fault Refusal := runW (fun _ h => h.gateCommit e) s

/-- GATE_ABORT (R230). -/
def Hub.gateAbort (h : Hub) (e : Nat) : Hub := (h.setGate e { h.gate e with pending := none }).set F.TRF_GSTAT_PEND 0 e

def execGateAbort (e : EgressId) (s : State) : Host.Outcome State Fault Refusal := runW (fun _ h => h.gateAbort e) s

/-- GATE_SWITCHOVER (R230): the pending bank is active from S on. -/
def Hub.gateSwitchover (h : Hub) (e : Nat) : Hub :=
  match (h.gate e).pending with
  | none => h
  | some s => h.when (s ≤ h.ridge) (fun h =>
      let h := h.setGate e { active := some s, pending := none }
      let h := (h.set F.TRF_GSTAT_PEND 0 e).set F.TRF_GSTAT_ACTBANK (1 - h.get F.TRF_GSTAT_ACTBANK e) e
      (h.set64 F.TRF_GBASE_LO_BASE_LO F.TRF_GBASE_HI_BASE_HI s e).gateShow e)

def execGateSwitchover (e : EgressId) (s : State) : Host.Outcome State Fault Refusal := run (fun h => h.gateSwitchover e) s

/-- GATE_DISABLE (R227, R228, R230): EN = 0 opens every gate, ends the active list and cancels a pending one. -/
def Hub.gateDisable (h : Hub) (e : Nat) : Hub :=
  ((h.set F.TRF_GCTL_EN 0 e).setGate e {}).set F.TRF_GSTAT_PEND 0 e |>.gateShow e

def execGateDisable (e : EgressId) (s : State) : Host.Outcome State Fault Refusal := runW (fun _ h => h.gateDisable e) s

/-! ## Refills and staged values (R231, R232, R237) -/

/-- Accrual of a shaper over `n` ticks. -/
def ShaperSt.accrue (x : ShaperSt) (n : Nat) : ShaperSt :=
  if x.en then { x with tok := Sys2Proof.accrue x.burst x.rate x.tok n } else x

/-- Staged values installed in a shaper (R231). -/
def ShaperSt.install (x : ShaperSt) (en : Bool) (rate burst : Nat) : ShaperSt :=
  let full : Int := ((burst * 64 * 4096 : Nat) : Int)
  let tok := if en && !x.en then full else x.tok
  { tok := if en then min tok full else tok, en := en, rate := rate, burst := burst }

/-- Accrual of a meter over `n` ticks (R237). -/
def MeterSt.accrue (x : MeterSt) (n : Nat) : MeterSt :=
  if x.en then { x with tc := Sys2Proof.accrue x.cbs x.cir x.tc n, tp := Sys2Proof.accrue x.pbs x.pir x.tp n } else x

/-- The staged values of shaper `i` are installed at the refill: one RATE record (R231, Table 8-4). -/
def Hub.installShaper (h : Hub) (i : Nat) : Hub :=
  let t := decide (i < 4096)
  let j := if t then i else i - 4096
  let en := if t then h.flag F.TSHP_W0_EN j else h.flag F.QSHP_W0_EN j
  let rate := if t then h.get F.TSHP_W0_RATE j else h.get F.QSHP_W0_RATE j
  let burst := if t then h.get F.TSHP_W1_BURST j else h.get F.QSHP_W1_BURST j
  let h := h.setShaper i ((h.shaper i).install en rate burst)
  let h := if t then h.set F.TSHP_W0_PEND 0 j else h.set F.QSHP_W0_PEND 0 j
  h.rec1 prodShepherd 6 0x01 srcHub (2 ^ 22 * (if t then 0 else 1) + j)

/-- The staged values of a meter are installed (R237): enabling fills both buckets; a PIR below CIR counts as CIR. -/
def Hub.installMeter (h : Hub) (m : Nat) : Hub :=
  let x := h.meter m
  let en := h.flag F.MTR_W0_EN m
  let cir := h.get F.MTR_W0_CIR m
  let cbs := h.get F.MTR_W2_CBS m
  let pbs := h.get F.MTR_W2_PBS m
  let fc : Int := ((cbs * 64 * 4096 : Nat) : Int)
  let fp : Int := ((pbs * 64 * 4096 : Nat) : Int)
  let tc := if en && !x.en then fc else x.tc
  let tp := if en && !x.en then fp else x.tp
  let h := h.setMeter m { tc := if en then min tc fc else tc, tp := if en then min tp fp else tp, en := en,
                          aware := h.flag F.MTR_W0_AWARE m, ract := h.flag F.MTR_W0_RACT m, yshift := h.get F.MTR_W0_YSHIFT m,
                          cir := cir, pir := max cir (h.get F.MTR_W1_PIR m), cbs := cbs, pbs := pbs }
  (h.set F.MTR_W0_PEND 0 m).rec1 prodShepherd 6 0x01 srcHub (2 * 2 ^ 22 + m)

/-- The refill period in force. -/
def Hub.refillPeriod (h : Hub) : Nat := 64 * 2 ^ h.trf.period

/-- SHAPER_REFILL (R231, R532): accrual over the ticks that have passed, then what is staged, then the period. -/
def Hub.refill (h : Hub) : Hub :=
  h.when (h.ridge % h.refillPeriod = 0) (fun h =>
    let n := h.now - h.trf.refillAt
    let h := h.each (h.trf.shapers.map (·.1)) (fun i g => g.setShaper i ((g.shaper i).accrue n))
    let h := h.each (h.trf.meters.map (·.1)) (fun m g => g.setMeter m ((g.meter m).accrue n))
    let h := h.each h.trf.pendS (fun i g => g.installShaper i)
    let h := h.each h.trf.pendM (fun m g => g.installMeter m)
    { h with trf := { h.trf with pendS := [], pendM := [], refillAt := h.now, period := h.get F.TRF_SHREF_PERIOD } })

def execShaperRefill (s : State) : Host.Outcome State Fault Refusal := run Hub.refill s

/-- A number put into a list of pending ones, once. -/
def addOnce (l : List Nat) (i : Nat) : List Nat := if l.contains i then l else l ++ [i]

/-- SHAPER_WRITE (R232): word 0 or 1 of tunnel shaper `i`, or of queue shaper `i`, is staged. -/
def Hub.shaperWrite (h : Hub) (q : Bool) (i w : Nat) (v : Word) : Hub :=
  let k := if q then 4096 + i else i
  let h := match q, w with
    | false, 0 => (h.set F.TSHP_W0_EN (v.bits 31 1) i).set F.TSHP_W0_RATE (v.bits 0 24) i
    | false, _ => h.set F.TSHP_W1_BURST (v.bits 16 16) i
    | true, 0 => (h.set F.QSHP_W0_EN (v.bits 31 1) i).set F.QSHP_W0_RATE (v.bits 0 24) i
    | true, _ => h.set F.QSHP_W1_BURST (v.bits 16 16) i
  let h := if q then h.set F.QSHP_W0_PEND 1 i else h.set F.TSHP_W0_PEND 1 i
  { h with trf := { h.trf with pendS := addOnce h.trf.pendS k } }

def execShaperWrite (q : Bool) (i : Fin 4096) (w : Fin 2) (v : Word) (s : State) : Host.Outcome State Fault Refusal :=
  runW (fun _ h => h.when (q = false ∨ i.val < 272) (fun h => h.shaperWrite q i w v)) s

/-- METER_WRITE (R237, Table 8-18): word 0, 1 or 2 of a meter is staged. -/
def Hub.meterWrite (h : Hub) (m w : Nat) (v : Word) : Hub :=
  let h := match w with
    | 0 => ((((h.set F.MTR_W0_EN (v.bits 31 1) m).set F.MTR_W0_AWARE (v.bits 30 1) m).set F.MTR_W0_RACT (v.bits 29 1) m).set
        F.MTR_W0_YSHIFT (v.bits 26 2) m).set F.MTR_W0_CIR (v.bits 0 24) m
    | 1 => h.set F.MTR_W1_PIR (v.bits 0 24) m
    | _ => (h.set F.MTR_W2_CBS (v.bits 16 16) m).set F.MTR_W2_PBS (v.bits 0 16) m
  let h := h.set F.MTR_W0_PEND 1 m
  { h with trf := { h.trf with pendM := addOnce h.trf.pendM m } }

def execMeterWrite (m : Fin 4096) (w : Fin 3) (v : Word) (s : State) : Host.Outcome State Fault Refusal :=
  runW (fun _ h => h.meterWrite m w v) s

/-! ## The shepherd's lane turns (R240 to R242) -/

def Hub.shep (h : Hub) (n : Nat) : ShepSt := Tab.get {} h.trf.shep n
def Hub.setShep (h : Hub) (n : Nat) (x : ShepSt) : Hub := { h with trf := { h.trf with shep := Tab.set {} h.trf.shep n x } }

/-- Utilisation of R240 in 1/256: `bytes` in a window of `w` ticks at `rate` Mbit/s. -/
def utilisation (bytes rate w : Nat) : Nat := if rate = 0 then 0 else min 255 (bytes * 409600 / (rate * w))

/-- The first matching row of Table 8-5, its trigger code and its target mode. -/
def trigger (mode utx urx hi lo : Nat) (backlogged : Bool) : Option (Nat × Nat × Nat) :=
  let tx := decide (hi ≤ utx) && backlogged
  if mode = 1 ∧ hi ≤ urx then some (1, 3, 0)
  else if mode = 2 ∧ tx then some (2, 3, 0)
  else if mode = 0 ∧ tx ∧ urx ≤ lo then some (3, 1, 1)
  else if mode = 0 ∧ hi ≤ urx ∧ utx ≤ lo then some (4, 2, 2)
  else if mode = 4 ∧ tx ∧ urx ≤ lo then some (5, 1, 3)
  else if mode = 3 ∧ hi ≤ urx ∧ utx ≤ lo then some (6, 2, 4)
  else none

/-- The trigger of a window: STREAK, TRIG and, at HOLDN, the request (R241, R242). -/
def Hub.shepEvaluate (h : Hub) (n utx urx : Nat) : Hub :=
  match trigger (h.get F.PORT_LMODE_CUR n) utx urx (h.get F.TRF_SHPCFG_HI n) (h.get F.TRF_SHPCFG_LO n) (h.backlogged n) with
  | none => (h.set F.TRF_SHPSTAT_STREAK 0 n).setShep n { h.shep n with row := 0 }
  | some (row, code, target) =>
    let streak := if (h.shep n).row = row then min 15 (h.get F.TRF_SHPSTAT_STREAK n + 1) else 1
    let h := ((h.set F.TRF_SHPSTAT_STREAK streak n).set F.TRF_SHPSTAT_TRIG code n).setShep n { h.shep n with row := row }
    if h.get F.TRF_SHPCFG_HOLDN n ≤ streak ∧ h.linkUp n ∧ h.active n ∧ ¬ h.flag F.PORT_LCTL_TURNLOCK n then
      ((h.set F.TRF_SHPSTAT_STREAK 0 n).turnRequest n target).mark F.PORT_LMODE_REQ n
    else h

/-- Ridge time was loaded or stepped within the last `w` ticks (R532). -/
def Hub.jumpedIn (h : Hub) (w : Nat) : Bool := h.time.jumpAt.any (fun t => decide (h.now < t + w))

/-- SHEPHERD_WINDOW_END (R240, R241): a window that a load or step of ridge time cuts is discarded (R532). -/
def Hub.shepWindow (h : Hub) (n : Nat) : Hub :=
  let w := h.shepW n
  h.when (h.flag F.TRF_SHPCFG_EN n ∧ h.ridge % w = 0) (fun h =>
    if h.jumpedIn w then h
    else
      let i := h.ridge / w
      let utx := utilisation ((h.link n).txFlow.last w i) (h.txRate n) w
      let urx := utilisation ((h.link n).rxFlow.last w i) (h.rxRate n) w
      let h := (h.set F.TRF_SHPSTAT_UTX utx n).set F.TRF_SHPSTAT_URX urx n
      let left := h.get F.TRF_SHPSTAT_DWLEFT n
      if (h.lane n).turn.isSome then (h.set F.TRF_SHPSTAT_STREAK 0 n).setShep n { h.shep n with row := 0 }
      else if 0 < left then
        ((h.set F.TRF_SHPSTAT_DWLEFT (left - 1) n).set F.TRF_SHPSTAT_STREAK 0 n).setShep n { h.shep n with row := 0 }
      else h.shepEvaluate n utx urx)

def execShepherdWindowEnd (n : PortId) (s : State) : Host.Outcome State Fault Refusal := run (fun h => h.shepWindow n) s

end Sys2Proof.Machine
end

