-- ==== Sys2Proof/Machine/RegWrite.lean ====
section
/-! DEFINITION. Software writes and reads of any register: the rights of slices (R288), the registers whose write does more
than its access codes say, and the values that are computed when they are read (R7 to R11, R480, R481). -/

namespace Sys2Proof.Machine

/-- What a write needs from outside the hub's registers: the one-time programmable memory, and what the straps are sampled at
should the write reset the hub (R464). -/
structure Env where
  otp : Tab Nat
  straps : Nat
deriving DecidableEq, Repr

/-! ## Rights of slices (R288, Table 10-2) -/

/-- A register of the BLK, PERI, EVS or SLC block that slice `s` reaches. -/
def Hub.reachBlock (h : Hub) (s a : Nat) : Bool :=
  if 0xC100 ≤ a ∧ a < 0xC500 then h.winOwner ((a - 0xC100) / 0x40) == s
  else if 0xD040 ≤ a ∧ a ≤ 0xD050 then true
  else if 0xD100 ≤ a ∧ a < 0xD500 then h.usbOwner ((a - 0xD100) / 0x20) == s
  else if 0xF000 ≤ a ∧ a < 0xF100 then h.strmOwner ((a - 0xF000) / 0x20) == s
  else if 0x3200 ≤ a ∧ a < 0x3800 then (a - 0x3200) % 0x200 / 4 == s
  else false

/-- The registers that slice `s` other than S0 reaches. -/
def Hub.reach (h : Hub) (s a : Nat) : Bool :=
  if 0x80000 ≤ a ∧ a < 0xA0000 then let t := (a - 0x80000) / 0x20; t != 0 && h.get F.TUN_W0_SLICE t == s
  else if 0xA0000 ≤ a ∧ a < 0xA8000 then let t := (a - 0xA0000) / 8; t != 0 && h.get F.TUN_W0_SLICE t == s
  else if 0xA8000 ≤ a ∧ a < 0xA8880 then h.qOwner ((a - 0xA8000) / 8) == s
  else if 0xB0000 ≤ a ∧ a < 0xC0000 then h.mtrOwner ((a - 0xB0000) / 16) == s
  else if 0x2040 ≤ a ∧ a < 0x2070 ∨ a = 0x2080 ∨ a = 0x2084 then true
  else if 0x30000 ≤ a ∧ a < 0x38000 then h.pipeOwner ((a - 0x30000) / 0x1000) == s
  else a ≤ 0x10 || a == 0x1008 || a == 0x100C || a == 0x1004 || h.reachBlock s a

/-- A path reaches the register at an address. -/
def Hub.reaches (h : Hub) (p : Path) (a : Nat) : Bool := h.pathSlice p == 0 || h.reach (h.pathSlice p) a

/-! ## Where a register lives -/

/-- The windows of HIF_RCTX, PERI_ECTX and PWR's domain registers, and their selectors, by path (R282, R362, R441): the address
of the selected context's register; none where the path does not reach it. Other addresses stand for themselves. -/
def Hub.home (h : Hub) (p : Path) (a : Nat) : Option Nat :=
  if a = 0x2040 then some (F.HIF_RSEL_RING.addr p.sel 0)
  else if 0x2044 ≤ a ∧ a ≤ 0x206C then (h.selRing p).map (fun r => 0x2000000 + 0x40 * r + (a - 0x2044))
  else if a = 0xD040 then some (F.PERI_ESEL_CTX.addr p.sel 0)
  else if 0xD044 ≤ a ∧ a ≤ 0xD050 then (h.selCtx p).map (fun x => 0x3000000 + 0x10 * x + (a - 0xD044))
  else if a = 0xE408 then some (F.PWR_DSEL_DOMAIN.addr p.sel 0)
  else if (0xE40C ≤ a ∧ a ≤ 0xE410) ∨ (0xE420 ≤ a ∧ a < 0xE454) then
    let d := 0x4000000 + 0x100 * h.get F.PWR_DSEL_DOMAIN p.sel
    some (if a < 0xE414 then d + (a - 0xE40C) else if a < 0xE440 then d + 0x20 + (a - 0xE420) else d + 0x40 + (a - 0xE440))
  else some a

/-- Whether the OTP registers and the privileged window are shut to a path (R181, R477, R485). -/
def remotePath : Path → Bool
  | .tunnel _ => true
  | .own => true
  | _ => false

/-- An OTP register. -/
def isOtpReg (a : Nat) : Bool := a == 0x180 || a == 0x184 || (decide (0x1A0 ≤ a) && decide (a < 0x1C0))

/-- A word of the privileged register window (R485). -/
def isWindow (a : Nat) : Bool := decide (0x50000 ≤ a) && decide (a < 0x60000)

/-- The word of the management controller's memory that the window shows at an address; none while it is shut. -/
def Hub.windowWord (h : Hub) (p : Path) (a : Nat) : Option Nat :=
  if h.flag F.GLB_DBG_LOCKED ∨ remotePath p ∨ (¬ h.strap 7 ∧ h.flag F.GLB_LOCK_LOCK) then none
  else some (16384 * h.get F.MGMT_PWSEL_PAGE + (a - 0x50000) / 4)

/-! ## Writes: time -/

/-- TIME_CTL (R33, Table 2-4): the spread fields together; PULSE_IN claims SYNC_IN for TIME. -/
def Hub.timeCtl (h : Hub) (v : Word) : Hub :=
  let h := ((h.unrefuse (fkey F.TIME_CTL_PULSE_IN 0)).sscWrite (v.bits 6 2) (v.bits 2 4) (v.bits 1 1 == 1)).wr 0x1000 v [6, 2, 1, 9]
  if v.bits 9 1 = 1 then
    if h.flag F.TIME_CTL_PULSE_IN then h
    else let c := h.claimFor (fkey F.TIME_CTL_PULSE_IN 0) resSyncIn ownTime
         if c.1 then c.2.set F.TIME_CTL_PULSE_IN 1 else c.2
  else (h.set F.TIME_CTL_PULSE_IN 0).timeRelease resSyncIn

/-- TIME_CMD: LOAD, then PALIGN. -/
def Hub.timeCmd (h : Hub) (v : Word) : Hub :=
  let h := if v.bits 0 1 = 1 then h.timeLoad else h
  if v.bits 1 1 = 1 then h.palign else h

/-- A configuration of a unit of TIME takes a write that may claim a resource: `use` tells the one in use. A refused claim leaves the
field that makes it: EN, lowest bit 0, of a unit that was off; of one that was on, the fields that select the pin, whose lowest bits
are `sel`, at their values of the tick's start where that pin can be had again (R25, R30, R47, R48). -/
def Hub.timeUnit (h : Hub) (a : Nat) (v : Word) (on : Bool) (use : Hub → Option Nat) (sel : List Nat) : Hub :=
  let old := use h
  let h := (h.keepFirst a).unrefuse (32 * a)
  let g := h.wr a v
  match use g with
  | some r =>
    if old = some r then g
    else
      let c := h.claimFor (32 * a) r ownTime
      let drop (g : Hub) : Hub := old.elim g (fun q => g.timeRelease q)
      if c.1 then drop (c.2.wr a v)
      else if ¬ on then c.2.wr a v [0]
      else
        let g := c.2.wr a v sel
        let back := g.wrOnly a ((h.led.first.find? (fun e => e.1 == a)).elim (h.reg a) (·.2)) sel
        match use back with
        | some q =>
          if old = some q ∨ back.owner q ≠ 0 ∧ back.owner q ≠ ownTime then g else drop (back.setOwner q ownTime)
        | none => drop back
  | none =>
    match old with
    | some q => g.timeRelease q
    | none => g

/-- TIME_CAPCFGn (R47). -/
def Hub.capCfg (h : Hub) (u : Nat) (v : Word) : Hub :=
  h.timeUnit (F.TIME_CAPCFG_EN.addr u 0) v (h.flag F.TIME_CAPCFG_EN u)
    (fun g => if g.flag F.TIME_CAPCFG_EN u then some (g.capRes u) else none) [1, 8]

/-- TIME_CMPCFGn (R48): disabling the unit, or giving it another pin, ends its pulse at once; so does a write that leaves EN 0 after
the match of a one-shot has cleared it (DESIGN CHOICE, log entry 62). -/
def Hub.cmpCfg (h : Hub) (u : Nat) (v : Word) : Hub :=
  let pin := h.cmpPin u
  let g := h.timeUnit (F.TIME_CMPCFG_EN.addr u 0) v (h.flag F.TIME_CMPCFG_EN u)
    (fun g => if g.flag F.TIME_CMPCFG_EN u then (g.cmpPin u).map (·.2) else none) [1, 8]
  if g.flag F.TIME_CMPCFG_EN u ∧ g.cmpPin u = pin then g else g.endPulse u pin

def Hub.writeTime (h : Hub) (a : Nat) (v : Word) : Hub :=
  if a = 0x1000 then h.timeCtl v
  else if a = 0x1018 then h.timeCmd v
  else if 0x1040 ≤ a ∧ a < 0x1080 ∧ a % 16 = 0 then h.capCfg ((a - 0x1040) / 16) v
  else if 0x1080 ≤ a ∧ a < 0x10C0 ∧ a % 16 = 0 then h.cmpCfg ((a - 0x1080) / 16) v
  else if 0x1080 ≤ a ∧ a < 0x10C0 ∧ a % 16 = 8 then h.compareTarget ((a - 0x1080) / 16) v
  else h.wr a v

/-! ## Writes: GLB and MGMT -/

/-- GLB_CAIRNSTAT (R459, R460): DECLARE is the management controller's alone; DONE after a fatal error resets the hub. -/
def Hub.cairnStat (h : Hub) (e : Env) (p : Path) (v : Word) : Hub :=
  let h := h.cairnDeclare p v
  if v.bits 31 1 = 0 then h
  else
    let h := h.set F.GLB_CAIRNSTAT_DONE 1
    if h.fatal? then (h.set F.GLB_CAIRNSTAT_TIMEDOUT 0).fatalReset e.otp e.straps else h

def Hub.writeGlb (h : Hub) (e : Env) (p : Path) (a : Nat) (v : Word) : Hub :=
  if a = 0x98 then h.cairnStat e p v
  else if a = 0x10C then h.wdtWrite e.otp e.straps v
  else if isOtpReg a then
    if remotePath p then h else if a = 0x180 then h.otpCmd e.otp p v else h.wr a v
  else if a = 0x1C0 then h.loadCtl v
  else if a = 0x1C4 then h.loadData v
  else h.wr a v

def Hub.writeMgmt (h : Hub) (p : Path) (a : Nat) (v : Word) : Hub :=
  if a = 0x40010 then h.h2m p v
  else if a = 0x40014 then h.m2h p v
  else if isWindow a then
    match h.windowWord p a with
    | some i => { h with boot := { h.boot with mem := Tab.set 0#32 h.boot.mem i v } }
    | none => h
  else h.wr a v

/-! ## Writes: HIF, SLC, FAB -/

/-- HIF_RCTX1 to 10: while the ring is not IDLE only IEN, VEC, MCNT and MTMO may change (R282). -/
def Hub.writeRctx (h : Hub) (p : Path) (k : Nat) (v : Word) : Hub :=
  match h.selRing p with
  | none => h
  | some r => if k = 5 ∨ h.rState r = rIDLE then h.wr (0x2000000 + 0x40 * r + 4 * k) v else h

def Hub.writeHif (h : Hub) (p : Path) (a : Nat) (v : Word) : Hub :=
  if a = 0x2000 then
    let h := h.wr a v [7]
    if v.bits 7 1 = 1 then h.cfgrdySet else h
  else if a = 0x2040 then h.wr (F.HIF_RSEL_RING.addr p.sel 0) v
  else if a = 0x2044 then h.rctx0Write p v
  else if 0x2048 ≤ a ∧ a ≤ 0x206C then h.writeRctx p ((a - 0x2044) / 4) v
  else if a = 0x2080 then h.doorbell (h.pathLimit p) v
  else if a = 0x2084 then h.arm (h.pathLimit p) v
  else h.wr a v

def Hub.writeSlc (h : Hub) (a : Nat) (v : Word) : Hub :=
  if a < 0x3200 then h.bind ((a - 0x3000) / 4) v
  else if 0x3400 ≤ a ∧ a < 0x3600 then h.slcRst ((a - 0x3400) / 4) v
  else if 0x3810 ≤ a ∧ a < 0x3818 then h.ownWrite 0 ((a - 0x3810) / 4) v
  else if 0x3818 ≤ a ∧ a < 0x3820 then h.ownWrite 1 ((a - 0x3818) / 4) v
  else if 0x3820 ≤ a ∧ a < 0x3830 then h.ownWrite 2 ((a - 0x3820) / 4) v
  else if 0x3840 ≤ a ∧ a < 0x3860 then h.ownWrite 3 ((a - 0x3840) / 4) v
  else if 0x3900 ≤ a ∧ a < 0x3A10 then h.ownWrite 4 ((a - 0x3900) / 4) v
  else if 0x3A80 ≤ a ∧ a < 0x3B80 then h.ownWrite 5 ((a - 0x3A80) / 4) v
  else h.wr a v

/-- FAB_PORTCFGn (R164, R165, R167, Table 6-1): a second UP1 or UP2 leaves ROLE; a port in ROLEERR comes back into service; OFF
holds PORT_LCTL.EN at 0. What is written takes effect at once where the link is not UP (R175); a port that is DOWN no more is not
awaited (R187). -/
def Hub.portCfgWrite (h : Hub) (n : Nat) (v : Word) : Hub :=
  if h.locked? then h
  else
    let r := v.bits 0 3
    let second := (r = 2 ∨ r = 3) ∧ ports.any (fun m => m != n && h.get F.FAB_PORTCFG_ROLE m == r)
    let h := h.wr (F.FAB_PORTCFG_ROLE.addr n 0) v (if second then [0] else [])
    let x : FabPort := { h.fabp n with barred := false }
    let late : Bool := decide (h.get F.FAB_PORTCFG_ROLE n = 0 ∧ x.role = 0 ∧ h.tmState ≠ tmBOOT ∧ ¬ h.flag F.TIME_CTL_SUMMIT)
    let h := h.setFabp n (if late then { x with role := 1 } else x)
    if h.linkUp n then h
    else if h.role n = 5 then (h.lctlEn n false).readyCheck
    else ((h.set F.PORT_LSTAT_ROLE (if h.get F.PORT_LSTAT_STATE n = 0 then 0 else h.tsRole n) n).tryDetect n).readyCheck

/-- FAB_RMGRm: a write clears LASTCTR (Table 6-16), and the slots decide the power mode (R422). -/
def Hub.rmgrWrite (h : Hub) (m : Nat) (v : Word) : Hub :=
  if h.locked? then h
  else (((h.wr (F.FAB_RMGR_EN.addr m 0) v).set F.FAB_RMGRCTR_LO_CTR_LO 0 m).set F.FAB_RMGRCTR_HI_CTR_HI 0 m).modeCheck

def Hub.writeFab (h : Hub) (a : Nat) (v : Word) : Hub :=
  if a = 0x4004 then (h.wr a v).joinCheck
  else if 0x4100 ≤ a ∧ a < 0x4180 then h.portCfgWrite ((a - 0x4100) / 4) v
  else if 0x4300 ≤ a ∧ a < 0x4400 ∧ a % 16 = 0 then h.rmgrWrite ((a - 0x4300) / 16) v
  else h.wr a v

/-! ## Writes: CORE, TRF, and their tables -/

def Hub.writeCore (h : Hub) (p : Path) (a : Nat) (v : Word) : Hub :=
  if a = 0x8018 then h.quotaWrite p (v.bits 0 17)
  else if a = 0x8040 then (if v.bits 0 1 = 1 then h.flowFlush else h)
  else if 0x8800 ≤ a ∧ a < 0x8C40 then (h.wr a v [0]).minWrite p ((a - 0x8800) / 4) (v.bits 0 18)
  else h.wr a v

/-- A bank of a gate list is active, or pending its switchover (R227). -/
def Hub.bankBusy (h : Hub) (e b : Nat) : Bool :=
  let g := h.gate e
  let act := h.get F.TRF_GSTAT_ACTBANK e
  (g.active.isSome && b == act) || (g.pending.isSome && b != act)

/-- TRF_GCTLe: GUARD, EN, then ABORT, then COMMIT (R227, R230). -/
def Hub.gateCtl (h : Hub) (e : Nat) (v : Word) : Hub :=
  let h := h.wr (F.TRF_GCTL_EN.addr e 0) v [0]
  let h := if v.bits 0 1 = 0 then h.gateDisable e else h.set F.TRF_GCTL_EN 1 e
  let h := if v.bits 9 1 = 1 then h.gateAbort e else h
  if v.bits 8 1 = 1 then h.gateCommit e else h

/-- The registers of an egress point's gates, at offset `o` of its group. -/
def Hub.writeGates (h : Hub) (e o a : Nat) (v : Word) : Hub :=
  if o = 0 then h.gateCtl e v
  else if o = 8 then h.wr a v ((if h.bankBusy e 1 then [16] else []) ++ (if h.bankBusy e 0 then [0] else []))
  else if o = 0xC then (if h.bankBusy e 0 then h else h.wr a v)
  else if o = 0x10 then (if h.bankBusy e 1 then h else h.wr a v)
  else h.wr a v

/-- TRF_SHPCFGn: turning the shepherd off ends the streak, which counts windows in a row (R241). -/
def Hub.shpCfg (h : Hub) (n : Nat) (a : Nat) (v : Word) : Hub :=
  let h := h.wr a v
  if h.flag F.TRF_SHPCFG_EN n then h else (h.set F.TRF_SHPSTAT_STREAK 0 n).setShep n { h.shep n with row := 0 }

def Hub.writeTrf (h : Hub) (a : Nat) (v : Word) : Hub :=
  if 0xA400 ≤ a ∧ a < 0xA840 then h.writeGates ((a - 0xA400) / 0x20) ((a - 0xA400) % 0x20) a v
  else if 0xA900 ≤ a ∧ a < 0xAA00 ∧ a % 8 = 0 then h.shpCfg ((a - 0xA900) / 8) a v
  else h.wr a v

/-- Shaper and meter tables (R232, R237). -/
def Hub.writeShp (h : Hub) (a : Nat) (v : Word) : Hub :=
  if a < 0xA8000 then h.shaperWrite false ((a - 0xA0000) / 8) (a / 4 % 2) v
  else if a < 0xA8880 then h.shaperWrite true ((a - 0xA8000) / 8) (a / 4 % 2) v
  else if a < 0xB0000 then h
  else if a / 4 % 4 = 3 then h
  else h.meterWrite ((a - 0xB0000) / 16) (a / 4 % 4) v

/-- A gate list entry; one of an active or pending bank is kept (R227). -/
def Hub.writeGate (h : Hub) (a : Nat) (v : Word) : Hub :=
  if h.bankBusy ((a - 0x100000) / 0x800) ((a - 0x100000) / 0x400 % 2) then h else h.wr a v

/-- A word of a tunnel entry (R145, R148). -/
def Hub.writeTun (h : Hub) (a : Nat) (v : Word) (s0 : Bool) : Hub :=
  let t := (a - 0x80000) / 0x20
  let w := a / 4 % 8
  let open_ := h.get F.TUN_W0_STATE t ≠ tsClosed
  if t = 0 then h
  else if w = 0 then h.tunW0 t v s0
  else if w = 1 then (if open_ ∧ h.flag F.TUN_W0_PROT t then h else h.wr a v)
  else if w = 2 then h.wr a v (if open_ then [0, 4] else [])
  else h.wr a v

/-! ## Writes: BLK, RAS, PERI, EVS -/

/-- BLK: a window's range, base, aperture and tunnel change only in IDLE and for S0 (R297). -/
def Hub.writeBlk (h : Hub) (a : Nat) (v : Word) (s0 : Bool) : Hub :=
  if a < 0xC100 then h.wr a v
  else
    let w := (a - 0xC100) / 0x40
    let o := (a - 0xC100) % 0x40
    if o = 0 then h.wctl w v s0
    else if o ≤ 0x18 then (if h.wState w = wIDLE ∧ s0 then h.wr a v else h)
    else if o = 0x1C then
      let was := h.flag F.BLK_POLLCFG_PEN w
      let h := h.wr a v
      if ¬ was ∧ h.flag F.BLK_POLLCFG_PEN w then h.setWin w { h.win w with polled := false, pollAt := h.now } else h
    else h.wr a v

/-- RASp: what may change only in IDLE stays otherwise (R313); layer 0 has no position of its own (Table 12-18). -/
def Hub.writeRas (h : Hub) (a : Nat) (v : Word) : Hub :=
  let d := (a - 0x30000) / 0x1000
  let o := a % 0x1000
  let idle := h.pState d = pIDLE
  if o = 0 then h.rasCtl d v
  else if o = 0x08 ∨ o = 0x0C ∨ o = 0x20 then (if idle then h.wr a v else h)
  else if o = 0x104 ∨ o = 0x108 then h
  else if 0x100 ≤ o ∧ o < 0x180 ∧ o % 0x20 = 0 then h.wr a v (if idle then [] else [24, 0])
  else h.wr a v

def Hub.writePeri (h : Hub) (p : Path) (a : Nat) (v : Word) : Hub :=
  if a = 0xD000 then (h.wr a v).powerPorts
  else if a = 0xD040 then h.wr (F.PERI_ESEL_CTX.addr p.sel 0) v
  else if a = 0xD044 then h.ectx0Write p v
  else if 0xD048 ≤ a ∧ a ≤ 0xD050 then
    match h.selCtx p with
    | some x => if h.flag F.ECTX0_EN x then h else h.wr (0x3000000 + 0x10 * x + (a - 0xD044)) v
    | none => h
  else if 0xD100 ≤ a ∧ a < 0xD500 ∧ a % 0x20 = 0 then h.pctl ((a - 0xD100) / 0x20) v
  else h.wr a v

def Hub.writeEvs (h : Hub) (a : Nat) (v : Word) : Hub :=
  if a < 0xF100 ∧ a % 0x20 = 0 then h.evsCfg ((a - 0xF000) / 0x20) v
  else if 0xF200 ≤ a ∧ a < 0xF488 then h.prodWrite ((a - 0xF200) / 4) v
  else h.wr a v

/-! ## Writes: PWR and ports -/

/-- PWR_DCFG of a domain; a write of CORE's ends its bar from DOZE (R439). -/
def Hub.dcfgWrite (h : Hub) (d : Nat) (v : Word) : Hub :=
  let h := h.wr (F.PWR_DCFG_WMODE.addr d 0) v
  if d = dCORE then h.unbar else h

def Hub.writePwr (h : Hub) (p : Path) (a : Nat) (v : Word) : Hub :=
  let d := h.get F.PWR_DSEL_DOMAIN p.sel
  if a = 0xE000 then h.budgetWrite none v
  else if 0xE100 ≤ a ∧ a < 0xE180 then h.allotWrite ((a - 0xE100) / 4) v
  else if 0xE200 ≤ a ∧ a < 0xE400 then h.budgetWrite (some ((a - 0xE200) / 4)) v
  else if a = 0xE400 then h.psctl v
  else if a = 0xE408 then h.wr (F.PWR_DSEL_DOMAIN.addr p.sel 0) v
  else if a = 0xE40C then h.dcfgWrite d v
  else if 0xE420 ≤ a ∧ a < 0xE434 then h.setEvote d ((a - 0xE420) / 4) v.toNat
  else if a = 0xE464 then h.wr a (v &&& 0x7E#32)
  else if a = 0xE470 then h.vreq v
  else if a = 0xE474 then h.pmbcfg v
  else if a = 0xE410 ∨ (0xE440 ≤ a ∧ a < 0xE454) then h
  else h.wr a v

/-- PORT_LCTL: EN, then RETRAIN, then LBK. -/
def Hub.lctlWrite (h : Hub) (n : Nat) (v : Word) : Hub :=
  let h := (h.wr (F.PORT_LCTL_EN.addr n 0) v [4, 0]).lctlEn n (v.bits 0 1 == 1)
  let h := if v.bits 1 1 = 1 then h.retrain n else h
  if v.bits 4 3 ≤ 3 ∧ v.bits 4 3 ≠ h.get F.PORT_LCTL_LBK n then h.loopback n (v.bits 4 3) else h

/-- PORT_LRETIRE: CLEAR, then FORCE. -/
def Hub.lretireWrite (h : Hub) (n : Nat) (v : Word) : Hub :=
  let h := if v.bits 8 1 = 1 then h.clearRetire n else h
  h.retireForce n (v.bits 4 4)

/-- PORT_CCSRC: VEN bit 0 stays 1; a source in CONTRACT or NOCON makes a new Offer (R400). -/
def Hub.ccsrcWrite (h : Hub) (n a : Nat) (v : Word) : Hub :=
  let old := h.reg a
  let h := (h.wr a v).set F.PORT_CCSRC_VEN (v.bits F.PORT_CCSRC_VEN.lo F.PORT_CCSRC_VEN.w ||| 1) n
  if h.reg a ≠ old ∧ h.isSource n ∧ (h.ccState n = csCONTRACT ∨ h.ccState n = csNOCON) then h.wantOffer n else h

/-- PORT_CRDCFG0 and 1: a sum of the DED values above 384 leaves the register (Table 4-14). -/
def Hub.crdcfgWrite (h : Hub) (n a : Nat) (v : Word) : Hub :=
  let g := h.wr a v
  if (g.dedCfg n).foldl (· + ·) 0 ≤ 384 then g else h

/-- PORT_EQTX: a write takes effect only while FIXEDTX is 1 (Table 3-19), and weights that would not add up to 48 are not applied
(R74, R92; log entry 63 for a write by software). -/
def Hub.eqtxWrite (h : Hub) (n m a : Nat) (v : Word) : Hub :=
  let g := h.wr a v
  if h.flag F.PORT_EQCFG_FIXEDTX n ∧
      g.get F.PORT_EQTX_PRE n m + g.get F.PORT_EQTX_MAIN n m + g.get F.PORT_EQTX_POST n m = 48 then g else h

/-- A port's registers at offset `o` of its block. -/
def Hub.writePort (h : Hub) (a : Nat) (v : Word) : Hub :=
  let n := (a - 0x10000) / 0x1000
  let o := a % 0x1000
  if o = 0 then h.lctlWrite n v
  else if o = 0x08 then h.turnWrite n (v.bits 4 3)
  else if o = 0x0C then h.lretireWrite n v
  else if 0x40 ≤ o ∧ o < 0x60 then h.eqtxWrite n ((o - 0x40) / 8) a v
  else if o = 0x60 then (h.wr a v).showPrbs n
  else if o = 0x110 ∨ o = 0x114 then h.crdcfgWrite n a v
  else if o = 0x200 then h.ppctl n v
  else if o = 0x228 ∨ (0x240 ≤ o ∧ o < 0x254) then ((h.wr a v).swPerm).ppShow n
  else if o = 0x274 then h.ppcal n v
  else if o = 0x300 then h.ccctl n v
  else if o = 0x30C then h.ccsrcWrite n a v
  else if o = 0x330 then h.cccmd n v
  else h.wr a v

/-! ## Every register -/

/-- A register takes a write of a path that reaches it (Table 19-1). -/
def Hub.writeAt (h : Hub) (e : Env) (p : Path) (a : Nat) (v : Word) : Hub :=
  let s0 := h.pathSlice p == 0
  if a < 0x1000 then h.writeGlb e p a v
  else if a < 0x2000 then h.writeTime a v
  else if a < 0x3000 then h.writeHif p a v
  else if a < 0x4000 then h.writeSlc a v
  else if a < 0x8000 then h.writeFab a v
  else if a < 0xA000 then h.writeCore p a v
  else if a < 0xC000 then h.writeTrf a v
  else if a < 0xD000 then h.writeBlk a v s0
  else if a < 0xE000 then h.writePeri p a v
  else if a < 0xF000 then h.writePwr p a v
  else if a < 0x10000 then h.writeEvs a v
  else if a < 0x30000 then h.writePort a v
  else if a < 0x38000 then h.writeRas a v
  else if a < 0x40000 then h
  else if a < 0x80000 then h.writeMgmt p a v
  else if a < 0xA0000 then h.writeTun a v s0
  else if a < 0xC0000 then h.writeShp a v
  else if a < 0x100000 then h.wr a v
  else if a < 0x111000 then h.writeGate a v
  else h

/-- Addresses that a write reaches although Register Index lists no field there. -/
def extraAddr (a : Nat) : Bool :=
  isWindow a || (decide (0x2040 ≤ a) && decide (a ≤ 0x206C)) || a == 0x2080 || a == 0x2084 || (decide (0xD040 ≤ a) && decide (a ≤ 0xD050)) ||
  (decide (0xE408 ≤ a) && decide (a ≤ 0xE410)) || (decide (0xE420 ≤ a) && decide (a < 0xE434)) || (decide (0xE440 ≤ a) && decide (a < 0xE454))

/-- A register is listed at an address (R480). -/
def listed (a : Nat) : Bool := (findReg a).isSome || extraAddr a

/-- The identification and time registers that a slice may only read (Table 10-2). -/
def readOnlyToSlices (a : Nat) : Bool := a ≤ 0x10 || a == 0x1004

/-- A software write of a register on a path (R480, R481, R288): bits that an event set, or a reset cleared, in the same tick stay
as they are, and after a chip reset in the tick all but the kept set (R55, R465). -/
def Hub.regWrite (h : Hub) (e : Env) (p : Path) (a : Nat) (v : Word) : Hub :=
  if ¬ listed a ∨ a % 4 ≠ 0 ∨ ¬ h.reaches p a ∨ (h.pathSlice p ≠ 0 ∧ readOnlyToSlices a) ∨ (h.led.wiped ∧ ¬ keptReg a) then h
  else h.writeAt e p a (h.current ((h.home p a).getD a) v)

/-- A write that resets the hub at once: CHIPRST, or the DONE that follows a fatal error (R460, R464). -/
def Hub.resetsNow (h : Hub) (a : Nat) (v : Word) : Bool :=
  (a == 0x10C && v.bits 29 1 == 1) || (a == 0x98 && v.bits 31 1 == 1 && h.fatal?)

/-- Writes of consecutive registers in ascending order, each evaluated against the state the ones before it left (R136, R484);
tells whether the hub is still there to go on: a write that resets it is the last. -/
def Hub.writeRun (h : Hub) (e : Env) (p : Path) : Nat → List Word → Hub × Bool
  | _, [] => (h, true)
  | a, v :: vs => if h.resetsNow a v then (h.regWrite e p a v, false) else (h.regWrite e p a v).writeRun e p (a + 4) vs

/-! ## Reads -/

/-- GLB_OWNER (Table 1-10). -/
def Hub.ownerWord (h : Hub) : Word :=
  let r := h.get F.GLB_OWNSEL_RESOURCE
  if r = resCells then BitVec.ofNat 32 h.cellsReserved else BitVec.ofNat 32 (2 ^ 8 * r + h.owner r)

/-- PWR_VOTEw of a domain (R425). -/
def Hub.voteWord (h : Hub) (d w : Nat) : Word :=
  BitVec.ofNat 32 ((List.range 32).foldl (fun a i => a + b2n (h.vote d (32 * w + i)) * 2 ^ i) 0)

/-- Entry 0 of the tunnel table (R145): its fixed words; UNACK, RETOCC and the counters as they are. -/
def tunEntry0 : Nat → Option Word
  | 0 => some (BitVec.ofNat 32 (1 * 2 ^ 16 + 1 * 2 ^ 14 + 7 * 2 ^ 8 + 1))
  | 1 => some 0#32
  | 2 => some 5#32
  | 3 => some 31#32
  | _ => none

/-- The register values that follow from the state of their block when they are read; none for a register that holds its
value. -/
def Hub.computed (h : Hub) (p : Path) (a : Nat) : Option Word :=
  if a = 0x44 then some h.ownerWord
  else if a = 0x1008 then some (BitVec.ofNat 32 h.ridge)
  else if a = 0x100C then some (BitVec.ofNat 32 (Tab.get 0 h.time.shadow p.num))
  else if 0xA404 ≤ a ∧ a < 0xA840 ∧ a % 0x20 = 4 then
    let e := (a - 0xA404) / 0x20
    let g := h.gatesAt e h.ridge
    some (((h.rd a).setBits 8 8 g.1).setBits 0 8 g.2)
  else if a = 0xD004 then some (((h.rd a).setBits 11 3 (h.ridge / 25000 % 8)).setBits 0 11 (h.ridge / 200000 % 2048))
  else if a = 0xE404 then some ((h.rd a).setBits 29 3 h.hubState)
  else if 0xE440 ≤ a ∧ a < 0xE454 then some (h.voteWord (h.get F.PWR_DSEL_DOMAIN p.sel) ((a - 0xE440) / 4))
  else if 0xF008 ≤ a ∧ a < 0xF100 ∧ a % 0x20 = 8 then
    let v := (a - 0xF008) / 0x20
    some ((h.rd a).setBits F.EVS_STAT_STATE.lo F.EVS_STAT_STATE.w (h.evState v))
  else if 0x10000 ≤ a ∧ a < 0x30000 ∧ a % 0x1000 = 0x270 then some (BitVec.ofNat 32 (Tab.get 0 (h.pp ((a - 0x10000) / 0x1000)).eShadow p.num))
  -- L3 has no transmitter and L0 no receiver: PORT_EQTX3 and PORT_EQRX0 read as zero (Table 3-19)
  else if 0x10000 ≤ a ∧ a < 0x30000 ∧ (a % 0x1000 = 0x58 ∨ a % 0x1000 = 0x44) then some 0#32
  else if 0x30000 ≤ a ∧ a < 0x38000 ∧ a % 0x1000 = 0x104 then some 0#32
  else if 0x30000 ≤ a ∧ a < 0x38000 ∧ a % 0x1000 = 0x108 then
    let d := (a - 0x30000) / 0x1000
    some (BitVec.ofNat 32 (2 ^ 16 * h.vact d + h.hact d))
  else if 0x80000 ≤ a ∧ a < 0x80020 then tunEntry0 ((a - 0x80000) / 4)
  else if isWindow a then some ((h.windowWord p a).elim 0#32 (fun i => Tab.get 0#32 h.boot.mem i))
  else none

/-- The word a read of a register returns (R10, R288, R480). -/
def Hub.view (h : Hub) (p : Path) (a : Nat) : Word :=
  if a % 4 ≠ 0 ∨ ¬ h.reaches p a ∨ (remotePath p ∧ isOtpReg a) then 0#32
  else
    match h.computed p a with
    | some v => v
    | none =>
      match h.home p a with
      | some b => h.rd b
      | none => 0#32

/-- What a read does besides, `st` the hub at the start of the tick: the RC fields it returned clear, and the halves of TIME_NOW and
of a port's energy are latched for the path (R11, R41, R55, R380). Answers what is left for later reads of the tick, and the hub. -/
def Hub.readEffect (st h : Hub) (p : Path) (a : Nat) : Hub × Hub :=
  if a % 4 ≠ 0 ∨ ¬ st.reaches p a ∨ (remotePath p ∧ isOtpReg a) then (st, h)
  else if a = 0x1008 then (st, st.latchTime h p)
  else if 0x10000 ≤ a ∧ a < 0x30000 ∧ a % 0x1000 = 0x26C then (st, st.energyRead h p ((a - 0x10000) / 0x1000))
  else
    match st.home p a with
    | some b => (st.rcClear b, h.rcTake b)
    | none => (st, h)

/-! ## The two generic commands -/

/-- Whether an access of a path covers one whole register word: over PCIe by its byte enables, from the management controller
and in a management request by its alignment (R7). -/
def wholeWord (p : Path) (a : Nat) (be : BitVec 4) : Bool :=
  match p with
  | .pcie => be == 15#4
  | _ => be == 15#4 && a % 4 == 0

/-- A word of BAR2 (Table 9-3, R252): the doorbell pages read zero; the MSI-X table and pending bits as the base specification lays
them out. -/
def Hub.bar2Word (h : Hub) (a : Nat) : Word :=
  if a < 0x80000 then 0#32
  else if a < 0x88000 then
    let e := Tab.get {} h.msi.tab ((a - 0x80000) / 16)
    match a / 4 % 4 with
    | 0 => BitVec.ofNat 32 e.addr
    | 1 => BitVec.ofNat 32 (e.addr / 2 ^ 32)
    | 2 => BitVec.ofNat 32 e.data
    | _ => BitVec.ofNat 32 (b2n e.masked)
  else if a < 0x88100 then BitVec.ofNat 32 (h.msi.pending / 2 ^ (8 * (a - 0x88000)))
  else 0#32

/-- An entry of the MSI-X table with one of its words written; a message address is 4-byte aligned. -/
def MsixEnt.write (e : MsixEnt) (i : Nat) (v : Word) : MsixEnt :=
  match i with
  | 0 => { e with addr := e.addr / 2 ^ 32 * 2 ^ 32 + v.toNat / 4 * 4 }
  | 1 => { e with addr := v.toNat * 2 ^ 32 + e.addr % 2 ^ 32 }
  | 2 => { e with data := v.toNat }
  | _ => { e with masked := v.bits 0 1 == 1 }

/-- A write of a whole word of BAR2: HIF_DB and HIF_ARM of a doorbell page, or the MSI-X table (R252). -/
def Hub.bar2Write (h : Hub) (a : Nat) (v : Word) : Hub :=
  if a < 0x80000 then
    if a % 4096 = 0 then h.doorbell (some (a / 4096)) v
    else if a % 4096 = 4 then h.arm (some (a / 4096)) v
    else h
  else if a < 0x88000 then
    let i := (a - 0x80000) / 16
    let e := (Tab.get {} h.msi.tab i).write (a / 4 % 4) v
    { h with msi := { h.msi with tab := Tab.set {} h.msi.tab i e } }.msixRelease
  else h

/-- Message Control of the MSI-X capability: bit 31 enables MSI-X, bit 30 masks the whole function (PRESUMED, log entry 36). -/
def Hub.msixControl (h : Hub) (be : BitVec 4) (v : Word) : Hub :=
  if be.toNat / 8 = 1 then { h with msi := { h.msi with on := v.bits 31 1 == 1, mask := v.bits 30 1 == 1 } }.msixRelease else h

/-- A read of a configuration register: the parts of Message Control the model holds, the table of 2,048 entries among them; for the
rest, which the spec leaves to the base specification, a free value (log entry 36). -/
def Hub.cfgWord (h : Hub) (x : Place) : Word :=
  match x with
  | .config a => BitVec.ofNat 32 (Config.cfgSpace a.toNat)
  | _ => BitVec.ofNat 32 (2 ^ 31 * b2n h.msi.on + 2 ^ 30 * b2n h.msi.mask + 2 ^ 16 * 2047 + Config.cfgSpace 4096 % 2 ^ 16)

/-- A write of a register over BAR0. -/
def Hub.bar0Write (h : Hub) (e : Env) (p : Path) (a : Nat) (be : BitVec 4) (v : Word) : Hub :=
  h.when (wholeWord p a be) (fun h => h.regWrite e p (a / 4 * 4) v)

/-- REGISTER_WRITE (R9, R10, R25, R288). A write of BAR2 that does not cover its word is discarded (R252); until CFGRDY is set a
configuration request is answered with Configuration Request Retry Status (R248). -/
def Hub.write (h : Hub) (e : Env) (p : Path) (x : Place) (be : BitVec 4) (v : Word) : Hub :=
  match x with
  | .bar0 a => h.bar0Write e p a.toNat be v
  | .bar2 a => h.when (p = .pcie ∧ be = 15#4) (fun h => h.bar2Write (a.toNat / 4 * 4) v)
  | .config _ => h.when (p = .pcie ∧ ¬ h.flag F.HIF_PCTL_CFGRDY) (fun h => h.emit .cfgRetry)
  | .msixControl => h.when (p = .pcie) (fun h => if h.flag F.HIF_PCTL_CFGRDY then h.msixControl be v else h.emit .cfgRetry)

def execRegisterWrite (p : Path) (x : Place) (be : BitVec 4) (v : Word) (straps : BitVec 8) (s : State) :
    Host.Outcome State Fault Refusal :=
  runO (fun otp h => h.write { otp := otp, straps := straps.toNat } p x be v) s

/-- A read of a register (R11, R55): the word as it stood at the start of the tick goes out, less what earlier reads of the tick took, and its RC
fields clear. Over PCIe any read is of the whole word; one that is not aligned reaches no register on the other paths. -/
def Hub.bar0Read (st h : Hub) (p : Path) (a : Nat) (be : BitVec 4) : Hub × Hub :=
  let b := a / 4 * 4
  if p = .pcie ∨ wholeWord p a be then st.readEffect (h.emit (.readData p b (st.view p b))) p b
  else (st, h.emit (.readData p a 0#32))

/-- RC_READ (R11). Reads of BAR2 and of the configuration space have no effect besides their answer. -/
def Hub.read (st h : Hub) (p : Path) (x : Place) (be : BitVec 4) : Hub × Hub :=
  match x with
  | .bar0 a => st.bar0Read h p a.toNat be
  | .bar2 a => (st, h.when (p = .pcie) (fun h => h.emit (.bar2Data (a.toNat / 4 * 4) (st.bar2Word (a.toNat / 4 * 4)))))
  | _ => (st, h.when (p = .pcie) (fun h =>
      h.emit (if h.flag F.HIF_PCTL_CFGRDY then .cfgData (st.cfgWord x) else .cfgRetry)))

def execRcRead (p : Path) (x : Place) (be : BitVec 4) (s : State) : Host.Outcome State Fault Refusal :=
  runS (fun _ st h => st.read h p x be) s

end Sys2Proof.Machine
end

