-- ==== Sys2Proof/Machine/Mgmt.lean ====
section
/-! DEFINITION. The meanings of the management-request commands: the checks of Table 6-6, remote READ and WRITE, the answer to a
reserved operation, and the resends of this hub's own requests (R136 to R138, R181 to R183, R457). -/

namespace Sys2Proof.Machine

/-! ## The request (Table 5-4) -/

/-- A field of the management header. -/
def Frm.mhdr (f : Frm) (a b : Nat) : Nat := wire 128 (beNat (sub f.data 0 16)) a b

def Frm.mop (f : Frm) : Nat := f.mhdr 0 7
def Frm.keysel (f : Frm) : Nat := f.mhdr 8 8
def Frm.reqid (f : Frm) : Nat := f.mhdr 16 31
def Frm.ctr (f : Frm) : Nat := f.mhdr 32 79
def Frm.count (f : Frm) : Nat := f.mhdr 80 95
def Frm.maddr (f : Frm) : Nat := f.mhdr 96 127

/-- The length rule of Table 5-3 and the ranges of R136. -/
def Frm.reqForm (f : Frm) : Bool :=
  let n := f.count
  decide (1 ≤ n ∧ n ≤ 1024 ∧ f.maddr % 4 = 0 ∧ f.maddr + 4 * n ≤ 0x200000) &&
  f.hdr.plen == 16 + (if f.mop = 2 then 4 * n else 0) + (if f.hdr.a then 8 else 0)

/-- The data words of a WRITE request, most significant byte first. -/
def reqWords : Nat → Bytes → List Word
  | 0, _ => []
  | n + 1, b => BitVec.ofNat 32 (beNat (b.take 4)) :: reqWords n (b.drop 4)

/-! ## The checks of Table 6-6 -/

/-- The first enabled manager slot that names a hub (R181). -/
def Hub.mgrSlot (h : Hub) (hub : Nat) : Option Nat :=
  (List.range 16).find? (fun m => h.flag F.FAB_RMGR_EN m && h.get F.FAB_RMGR_HUBID m == hub)

/-- CTR is fresh at a slot (R183). -/
def Hub.fresh (h : Hub) (m ctr : Nat) : Bool :=
  let t := h.ridge / 2 ^ 32 % 2 ^ 28
  let c := ctr / 2 ^ 20
  let st := h.get F.TIME_STAT_STATE
  (st == 3 || st == 4 || st == 5) && decide (c ≤ t + 1 ∧ t ≤ c + 1) &&
  decide (h.get64 F.FAB_RMGRCTR_LO_CTR_LO F.FAB_RMGRCTR_HI_CTR_HI m < ctr)

/-- Checks 1 to 5: the path of the matching slot, with LASTCTR moved on, or the status of the answer; each failure counted. -/
def Hub.reqCheck (h : Hub) (f : Frm) : Hub × (Path ⊕ Nat) :=
  match h.mgrSlot f.hdr.shub with
  | none => (h.bump F.FAB_MGMTCNT_DENIED, .inr 2)
  | some m =>
    let ok : Path ⊕ Nat := .inl (.tunnel (Fin.ofNat 16 m))
    if ¬ f.hdr.a then
      if h.flag F.FAB_MGMTCFG_REQAUTH then (h.bump F.FAB_MGMTCNT_UNTAG, .inr 4) else (h, ok)
    else if f.hdr.plen < 24 ∨ (h.untag f).isNone then (h.bump F.FAB_MGMTCNT_TAGERR, .inr 4)
    else if ¬ h.fresh m f.ctr then (h.bump F.FAB_MGMTCNT_STALE, .inr 4)
    else (h.set64 F.FAB_RMGRCTR_LO_CTR_LO F.FAB_RMGRCTR_HI_CTR_HI f.ctr m, ok)

/-- A request of this hub's own management controller is not checked; its accesses are the management tunnel's all the same (R136,
R182). -/
def Hub.reqPath (h : Hub) (f : Frm) : Hub × (Path ⊕ Nat) := if f.src = 33 then (h, .inl .own) else h.reqCheck f

/-- Check 7: every register of the request lies within the slot's slice rights. -/
def Hub.reachAll (h : Hub) (p : Path) (f : Frm) : Bool :=
  (List.range f.count).all (fun i => h.reaches p (f.maddr + 4 * i))

/-- The slot's implicit vote after a request that passes Table 6-6 (R425). -/
def Hub.mgrHold (h : Hub) (p : Path) : Hub :=
  match p with
  | .tunnel m => { h with pwr := { h.pwr with mgr := Tab.set 0 h.pwr.mgr m.val (h.now + 1000 * h.get F.PWR_PSCTL_MGRHOLD) } }
  | _ => h

/-! ## The answer (R138) -/

/-- A response goes from the endpoint addressed to the request's SHUB and STUN in its class, with its KEYSEL, REQID and CTR, tagged where it was. -/
def Hub.respond (h : Hub) (f : Frm) (status : Nat) (data : Bytes) : Hub :=
  let body := beBytes 16 (pack [(8, f.mop ||| 0x80), (1, f.keysel), (3, 0), (4, status), (16, f.reqid), (48, f.ctr),
    (16, f.count), (32, f.maddr)]) ++ data
  let hd : THdr := { dhub := f.hdr.shub, dtun := f.hdr.stun, shub := h.myId, stun := f.hdr.dtun, type := 0, cls := f.hdr.cls, a := f.hdr.a,
                     plen := body.length + (if f.hdr.a then 8 else 0) }
  let pl := if f.hdr.a then body ++ h.tagOf f.keysel hd body else body
  (h.newFrame hd.seal pl 33 none .none).2

/-! ## READ (R136) -/

/-- Registers read in ascending order, each value and then its effect: `st` the hub at the start of the tick. Answers what is left
of it, the hub, and the bytes. -/
def Hub.readRun (st h : Hub) (p : Path) : Nat → Nat → Hub × Hub × Bytes
  | _, 0 => (st, h, [])
  | a, n + 1 =>
    let x := st.readEffect h p a
    let r := x.1.readRun x.2 p (a + 4) n
    (r.1, r.2.1, beBytes 4 (st.view p a).toNat ++ r.2.2)

/-- A READ request at this hub. -/
def Hub.serveRead (st h : Hub) (f : Frm) : Hub × Hub :=
  match h.reqPath f with
  | (h, .inr s) => (st, h.respond f s [])
  | (h, .inl p) =>
    if ¬ f.reqForm then (st, h.respond f 5 [])
    else if ¬ h.reachAll p f then (st, (h.bump F.FAB_MGMTCNT_DENIED).respond f 2 [])
    else
      let r := st.readRun (h.mgrHold p) p f.maddr f.count
      (r.1, r.2.1.respond f 0 r.2.2)

/-- MGMT_READ_REQUEST: the oldest READ request at endpoint 0x000; `st` the hub at the start of the tick. -/
def Hub.mgmtRead (st h : Hub) : Hub × Hub :=
  match h.takeMsg (fun f => f.isReq 1) with
  | none => (st, h)
  | some (f, h) => st.serveRead h f

def execMgmtReadRequest (s : State) : Host.Outcome State Fault Refusal := runS (fun _ st h => st.mgmtRead h) s

/-! ## WRITE (R136, R457, R484) -/

/-- The slot's number in the record of WRITE requests; the local management controller's is 16. -/
def mgrOf : Path → Nat
  | .tunnel m => m.val
  | _ => 16

/-- REQID and STATUS of a WRITE are kept, for the last 8 of the slot (R457). -/
def Hub.keepWrite (h : Hub) (p : Path) (id st : Nat) : Hub :=
  { h with fab := { h.fab with writes := Tab.modify [] h.fab.writes (mgrOf p) (fun l => ((id, st) :: l).take 8) } }

/-- The kept status of a repeated WRITE. -/
def Hub.keptWrite (h : Hub) (p : Path) (id : Nat) : Option Nat :=
  ((Tab.get [] h.fab.writes (mgrOf p)).find? (fun e => e.1 == id)).map (·.2)

/-- One register of a request is written: whether its claim was refused with CONFLICT (R25), which the tick's refusals, or GLB_CLAIM,
tell. -/
def Hub.writeOne (h : Hub) (e : Env) (p : Path) (a : Nat) (v : Word) : Hub × Bool :=
  if a = 0x48 then (h.regWrite e p a v, false)
  else
    let was := h.get F.GLB_CLAIM_VALID
    let g := (h.set F.GLB_CLAIM_VALID 0).regWrite e p a v
    if g.flag F.GLB_CLAIM_VALID then (g, true) else (g.set F.GLB_CLAIM_VALID was, decide (h.led.refusals < g.led.refusals))

/-- The registers of a WRITE in ascending order: whether one met a conflict, and whether the hub is still there. -/
def Hub.writeAll (h : Hub) (e : Env) (p : Path) : Nat → List Word → Hub × Bool × Bool
  | _, [] => (h, false, true)
  | a, v :: vs =>
    if h.resetsNow a v then (h.regWrite e p a v, false, false)
    else
      let r := h.writeOne e p a v
      let q := r.1.writeAll e p (a + 4) vs
      (q.1, r.2 || q.2.1, q.2.2)

/-- A WRITE request at this hub. -/
def Hub.serveWrite (h : Hub) (e : Env) (f : Frm) : Hub :=
  match h.reqPath f with
  | (h, .inr st) => h.respond f st []
  | (h, .inl p) =>
    match h.keptWrite p f.reqid with
    | some st => h.respond f st []
    | none =>
      if ¬ f.reqForm then (h.keepWrite p f.reqid 5).respond f 5 []
      else if ¬ h.reachAll p f then ((h.bump F.FAB_MGMTCNT_DENIED).keepWrite p f.reqid 2).respond f 2 []
      else
        let r := (h.mgrHold p).writeAll e p f.maddr (reqWords f.count (f.data.drop 16))
        if r.2.2 then
          let st := b2n r.2.1
          (r.1.keepWrite p f.reqid st).respond f st []
        else r.1

/-- MGMT_WRITE_REQUEST: the oldest WRITE request at endpoint 0x000. -/
def Hub.mgmtWrite (h : Hub) (e : Env) : Hub :=
  match h.takeMsg (fun f => f.isReq 2) with
  | none => h
  | some (f, h) => h.serveWrite e f

def execMgmtWriteRequest (straps : BitVec 8) (s : State) : Host.Outcome State Fault Refusal :=
  runO (fun otp h => h.mgmtWrite { otp := otp, straps := straps.toNat }) s

/-! ## Reserved operations (R138) -/

/-- MGMT_UNSUPPORTED: the oldest request with a reserved MOP, answered after checks 1 to 5. -/
def Hub.mgmtUnsupported (h : Hub) : Hub :=
  match h.takeMsg (fun f => f.hdr.type == 0 && f.mgmtReq && f.mop != 1 && f.mop != 2) with
  | none => h
  | some (f, h) =>
    match h.reqPath f with
    | (h, .inr st) => h.respond f st []
    | (h, .inl _) => h.respond f 5 []

def execMgmtUnsupported (s : State) : Host.Outcome State Fault Refusal := run Hub.mgmtUnsupported s

/-! ## This hub's own requests (R457) -/

/-- A request of the management controller, with a new CTR: `op` the COUNT of a READ, or the words of a WRITE. -/
def Hub.ownSend (h : Hub) (reqid dhub addr : Nat) (op : Nat ⊕ List Word) (key : Option Nat) : Hub :=
  let c := max (2 ^ 20 * (h.ridge / 2 ^ 32 % 2 ^ 28)) (h.fab.ownCtr + 1)
  let h := { h with fab := { h.fab with ownCtr := c } }
  let (mop, n, data) : Nat × Nat × Bytes := match op with
    | .inl n => (1, n, [])
    | .inr ws => (2, ws.length, ws.flatMap (fun w => beBytes 4 w.toNat))
  let body := beBytes 16 (pack [(8, mop), (1, key.getD 0), (7, 0), (16, reqid), (48, c), (16, n), (32, addr)]) ++ data
  let hd : THdr := { dhub := dhub, dtun := 0, shub := h.myId, stun := 0, type := 0, cls := 7, a := key.isSome,
                     plen := body.length + (if key.isSome then 8 else 0) }
  let pl := match key with
    | some k => body ++ h.tagOf k hd body
    | none => body
  (h.newFrame hd.seal pl 33 none .none).2

/-- MGMT_RESEND_TIMEOUT: no response to request `reqid` within 20,000 ticks of its last sending: it is sent again, at most
twice; the third time it has failed for good, and one record says so. -/
def Hub.ownTimeout (h : Hub) (reqid dhub addr : Nat) (op : Nat ⊕ List Word) (key : Option Nat) : Hub :=
  let e := Tab.get (0, 0) h.boot.mreqs reqid
  h.when (h.boot.rom = .running ∧ (e.1 = 0 ∨ e.2 + 20000 ≤ h.now)) (fun h =>
    if e.1 < 2 then
      { h with boot := { h.boot with mreqs := Tab.set (0, 0) h.boot.mreqs reqid (e.1 + 1, h.now) } }.ownSend reqid dhub addr op key
    else
      { h with boot := { h.boot with mreqs := Tab.set (0, 0) h.boot.mreqs reqid (0, 0) } }.fault0 0x12 srcMgmt reqid)

def execMgmtResendTimeout (reqid dhub : BitVec 16) (addr : Word) (op : Fin 1025 ⊕ List (BitVec 32)) (key : Option (Fin 2)) (s : State) :
    Host.Outcome State Fault Refusal :=
  run (fun h => h.ownTimeout reqid.toNat dhub.toNat addr.toNat
    (match op with | .inl n => .inl n.val | .inr ws => .inr (ws.take 1024)) (key.map (·.val))) s

end Sys2Proof.Machine
end

