-- ==== Sys2Proof/Machine/Sections.lean ====
section
/-! DEFINITION. The meanings of the configuration commands: the configuration image, its BOOT and JOIN sections, and the records a
section consists of (R473 to R475). -/

namespace Sys2Proof.Machine

/-! ## The image (Table 18-5) -/

/-- A section's words, little-endian. -/
def leWords : Nat → Bytes → List Nat
  | 0, _ => []
  | n + 1, b => leNat (b.take 4) :: leWords n (b.drop 4)

/-- The words of the section that a directory entry names; none where its place is not in the image or its hash fails. -/
def entryWords (img e : Bytes) : Option (List Nat) :=
  let off := le32 e 4
  let n := le32 e 8
  let b := sub img off n
  if off % 64 = 0 ∧ off + n ≤ le32 img 8 ∧ b.length = n ∧
     sha256 (b.map (·.toNat)) = beNat (sub e 16 32) then some (leWords (n / 4) b) else none

/-- The directory entries. -/
def entries (img : Bytes) : List Bytes := (List.range (le16 img 6)).map (fun i => sub img (64 + 48 * i) 48)

/-- The image is accepted: its header is well formed and its signature verifies as a boot image's does (R471, R473). -/
def Hub.cfgOk (h : Hub) (img : Bytes) : Bool :=
  let n := le16 img 6
  le32 img 0 == 0x47464352 && le16 img 4 == 1 && decide (1 ≤ n ∧ n ≤ 64 ∧ le32 img 8 ≤ 2097152 ∧ 64 + 48 * n + 128 ≤ img.length) &&
  h.sigOk (sub img (64 + 48 * n) 128) (img.take (64 + 48 * n))

/-! ## Records (R475) -/

def Hub.setCfg (h : Hub) (r : Option CfgRun) : Hub := { h with boot := { h.boot with run_ := r } }

/-- A section stops where it is. -/
def Hub.cfgStop (h : Hub) : Hub := (h.setCfg none).set F.GLB_BOOTSTAT_CFGERR 1

/-- The record at the front of a section. -/
def Hub.cfgRecord (h : Hub) (e : Env) (r : CfgRun) : Hub :=
  match r.words with
  | [] => h.setCfg none
  | w :: ws =>
    let arg := w % 2 ^ 28
    match w / 2 ^ 28, ws with
    | 1, a :: ds =>
      if ds.length < arg then h.cfgStop
      else
        let x := h.writeRun e .mgmt a ((ds.take arg).map (BitVec.ofNat 32))
        if x.2 then x.1.setCfg (some { words := ds.drop arg }) else x.1
    | 2, a :: v :: rest =>
      let x := h.writeRun e .mgmt a (List.replicate (min arg 524288) (BitVec.ofNat 32 v))
      if x.2 then x.1.setCfg (some { words := rest }) else x.1
    | 3, rest => h.setCfg (some { words := rest, waitAt := some (h.now + arg) })
    | 4, a :: m :: v :: rest => h.setCfg (some { words := rest, poll := some (a, m, v, h.now + arg) })
    | 15, _ => h.setCfg none
    | _, _ => h.cfgStop

/-- The next section that waits starts: one whose hash failed applies nothing; the first BOOT section writes SITEID. -/
def Hub.cfgNext (h : Hub) : Hub :=
  match h.boot.todo with
  | [] => h
  | (ws, site) :: l =>
    let h := { h with boot := { h.boot with todo := l } }
    match ws with
    | none => h.set F.GLB_BOOTSTAT_CFGERR 1
    | some ws =>
      let h := match site with
        | some s => if h.locked? then h else h.set F.FAB_CTL_SITEID s
        | none => h
      h.setCfg (some { words := ws })

/-- Records and sections are applied until one pauses, or all have been. -/
def Hub.cfgGo (h : Hub) (e : Env) : Nat → Hub
  | 0 => h
  | k + 1 =>
    match h.boot.run_ with
    | none => if h.boot.todo = [] then h else h.cfgNext.cfgGo e k
    | some r => if r.waitAt.isSome ∨ r.poll.isSome then h else (h.cfgRecord e r).cfgGo e k

/-- How many records and sections are still to come, at most. -/
def Hub.cfgLeft (h : Hub) : Nat :=
  (h.boot.run_.elim 0 (fun r => r.words.length + 1)) + h.boot.todo.foldl (fun n s => n + (s.1.getD []).length + 2) 1

def Hub.cfgRun (h : Hub) (e : Env) : Hub := h.cfgGo e h.cfgLeft

/-! ## The commands -/

/-- The BOOT sections of an image, the first with the SITEID of the header. -/
def bootSections (img : Bytes) : List (Option (List Nat) × Option Nat) :=
  match (entries img).filter (fun e => le16 e 0 == 1) with
  | [] => []
  | e :: l => (entryWords img e, some (le16 img 0x0C)) :: l.map (fun e => (entryWords img e, none))

/-- The JOIN sections of an image, by hub. -/
def joinSections (img : Bytes) : List (Nat × Option (List Nat)) :=
  ((entries img).filter (fun e => le16 e 0 == 2)).map (fun e => (le16 e 2, entryWords img e))

/-- The JOIN sections that name this hub take their place behind what is being applied. -/
def Hub.joinOwn (h : Hub) : Hub :=
  let me := h.get F.FAB_ID_HUBID
  let own := (h.boot.join.filter (fun j => j.1 == me)).map (fun j => (j.2, none))
  { h with boot := { h.boot with todo := h.boot.todo ++ own, join := h.boot.join.filter (fun j => j.1 != me) } }

/-- CONFIG_IMAGE_APPLY: the boot firmware reads the image, verifies it, and applies its BOOT sections in directory order; at the
summit its JOIN sections as well. -/
def Hub.cfgImage (h : Hub) (e : Env) (img : Bytes) : Hub :=
  h.when (h.boot.rom = .running ∧ h.flag F.MGMT_STAT_RUNNING ∧ ¬ h.strap 4 ∧ h.boot.cfg = false) (fun h =>
    let h := { h with boot := { h.boot with cfg := true } }
    if h.cfgOk img then
      let h := { h with boot := { h.boot with todo := bootSections img, join := joinSections img } }
      (if h.flag F.TIME_CTL_SUMMIT then h.joinOwn else h).cfgRun e
    else h)

def execConfigImageApply (img : List (BitVec 8)) (straps : BitVec 8) (s : State) : Host.Outcome State Fault Refusal :=
  runO (fun otp h => h.cfgImage { otp := otp, straps := straps.toNat } img) s

/-- JOIN_SECTION_APPLY: a hub that has joined applies the JOIN sections that name it. -/
def Hub.cfgJoin (h : Hub) (e : Env) : Hub :=
  h.when (h.flag F.FAB_SITE_JOINED ∧ h.flag F.FAB_ID_VALID ∧ h.boot.join.any (fun j => j.1 == h.get F.FAB_ID_HUBID)) (fun h => h.joinOwn.cfgRun e)

def execJoinSectionApply (straps : BitVec 8) (s : State) : Host.Outcome State Fault Refusal :=
  runO (fun otp h => h.cfgJoin { otp := otp, straps := straps.toNat }) s

/-- CONFIG_WAIT_END. -/
def Hub.cfgWaitEnd (h : Hub) (e : Env) : Hub :=
  match h.boot.run_ with
  | none => h
  | some r => h.when (h.due r.waitAt) (fun h => (h.setCfg (some { r with waitAt := none })).cfgRun e)

def execConfigWaitEnd (straps : BitVec 8) (s : State) : Host.Outcome State Fault Refusal :=
  runO (fun otp h => h.cfgWaitEnd { otp := otp, straps := straps.toNat }) s

/-- CONFIG_POLL: the management controller reads the register of the POLL, as it stood at the start of the tick; the condition is
met, or the time is up. -/
def Hub.cfgPoll (st h : Hub) (e : Env) : Hub × Hub :=
  match h.boot.run_ with
  | none => (st, h)
  | some r =>
    match r.poll with
    | none => (st, h)
    | some (a, m, v, last) =>
      let x := st.readEffect h .mgmt a
      (x.1, if (st.view .mgmt a).toNat &&& m = v then (x.2.setCfg (some { r with poll := none })).cfgRun e
            else if last ≤ h.now then x.2.cfgStop.cfgRun e
            else x.2)

def execConfigPoll (straps : BitVec 8) (s : State) : Host.Outcome State Fault Refusal :=
  runS (fun otp st h => st.cfgPoll h { otp := otp, straps := straps.toNat }) s

end Sys2Proof.Machine
end

