-- ==== Sys2Proof/Machine/Dispatch.lean ====
section
/-! DEFINITION. The dispatch: one arm per command, each one direct call of its meaning. -/

namespace Sys2Proof.Machine

def exec (i : Instr) (s : State) : Host.Outcome State Fault Refusal :=
  match i with
  | .registerWrite p x be v straps => Sys2Proof.Machine.execRegisterWrite p x be v straps s
  | .rcRead p x be => Sys2Proof.Machine.execRcRead p x be s
  | .admitCells => Sys2Proof.Machine.execAdmitCells s
  | .sscWrite freq depth en => Sys2Proof.Machine.execSscWrite freq depth en s
  | .uplinkSignalDetect n => Sys2Proof.Machine.execUplinkSignalDetect n s
  | .frequencyLock => Sys2Proof.Machine.execFrequencyLock s
  | .facqTimeout => Sys2Proof.Machine.execFacqTimeout s
  | .lockSourceLost => Sys2Proof.Machine.execLockSourceLost s
  | .tsyncSend n frac => Sys2Proof.Machine.execTsyncSend n frac s
  | .dreqSend n frac => Sys2Proof.Machine.execDreqSend n frac s
  | .dreqReceive n k res => Sys2Proof.Machine.execDreqReceive n k res s
  | .drspReceive n k frac => Sys2Proof.Machine.execDrspReceive n k frac s
  | .tepochReceive n k => Sys2Proof.Machine.execTepochReceive n k s
  | .tsyncReceive n k frac => Sys2Proof.Machine.execTsyncReceive n k frac s
  | .timeNowLoRead p => Sys2Proof.Machine.execTimeNowLoRead p s
  | .load => Sys2Proof.Machine.execLoad s
  | .palign => Sys2Proof.Machine.execPalign s
  | .palignEdge => Sys2Proof.Machine.execPalignEdge s
  | .captureEdge u => Sys2Proof.Machine.execCaptureEdge u s
  | .compareTargetWrite u hi => Sys2Proof.Machine.execCompareTargetWrite u hi s
  | .compareMatch u => Sys2Proof.Machine.execCompareMatch u s
  | .comparePulseEnd u => Sys2Proof.Machine.execComparePulseEnd u s
  | .portLctlEnWrite n en => Sys2Proof.Machine.execPortLctlEnWrite n en s
  | .retrain n => Sys2Proof.Machine.execRetrain n s
  | .loopbackSelect n lbk => Sys2Proof.Machine.execLoopbackSelect n lbk s
  | .signalDetect n m => Sys2Proof.Machine.execSignalDetect n m s
  | .ts1Receive n m k => Sys2Proof.Machine.execTs1Receive n m k s
  | .ts2Receive n m k => Sys2Proof.Machine.execTs2Receive n m k s
  | .trainingTimeout n bad => Sys2Proof.Machine.execTrainingTimeout n bad s
  | .rateRetuneEnd n => Sys2Proof.Machine.execRateRetuneEnd n s
  | .eqPhaseIdleEnd n => Sys2Proof.Machine.execEqPhaseIdleEnd n s
  | .verifyComplete n => Sys2Proof.Machine.execVerifyComplete n s
  | .faultRetry n => Sys2Proof.Machine.execFaultRetry n s
  | .blockLockAcquired n m => Sys2Proof.Machine.execBlockLockAcquired n m s
  | .blockLockLost n m x => Sys2Proof.Machine.execBlockLockLost n m x s
  | .stripeReceive n row => Sys2Proof.Machine.execStripeReceive n row s
  | .idleDelayExpiry n => Sys2Proof.Machine.execIdleDelayExpiry n s
  | .eiReceive x => Sys2Proof.Machine.execEiReceive x s
  | .fastExit n => Sys2Proof.Machine.execFastExit n s
  | .fastExitLockTimeout n m => Sys2Proof.Machine.execFastExitLockTimeout n m s
  | .lrecReceive n k => Sys2Proof.Machine.execLrecReceive n k s
  | .recoveryComplete n m => Sys2Proof.Machine.execRecoveryComplete n m s
  | .recoveryTimeout n m => Sys2Proof.Machine.execRecoveryTimeout n m s
  | .lretReceive n k => Sys2Proof.Machine.execLretReceive n k s
  | .retireForce n mask => Sys2Proof.Machine.execRetireForce n mask s
  | .retireClear n => Sys2Proof.Machine.execRetireClear n s
  | .turnRequest n req => Sys2Proof.Machine.execTurnRequest n req s
  | .lmgtReqReceive n k => Sys2Proof.Machine.execLmgtReqReceive n k s
  | .lmgtAckReceive n k => Sys2Proof.Machine.execLmgtAckReceive n k s
  | .lmgtNakReceive n k => Sys2Proof.Machine.execLmgtNakReceive n k s
  | .turnAckDeadline n => Sys2Proof.Machine.execTurnAckDeadline n s
  | .turnOldSenderStart n => Sys2Proof.Machine.execTurnOldSenderStart n s
  | .turnOldSenderSwitch n => Sys2Proof.Machine.execTurnOldSenderSwitch n s
  | .turnLaneRemove n => Sys2Proof.Machine.execTurnLaneRemove n s
  | .turnPark n => Sys2Proof.Machine.execTurnPark n s
  | .turnBurst n => Sys2Proof.Machine.execTurnBurst n s
  | .turnStripe n => Sys2Proof.Machine.execTurnStripe n s
  | .turnLockTimeout n m => Sys2Proof.Machine.execTurnLockTimeout n m s
  | .lmgtDoneReceive n k => Sys2Proof.Machine.execLmgtDoneReceive n k s
  | .lmgtFailReceive n k => Sys2Proof.Machine.execLmgtFailReceive n k s
  | .turnTimeout n => Sys2Proof.Machine.execTurnTimeout n s
  | .drepReceive n k => Sys2Proof.Machine.execDrepReceive n k s
  | .lbkEnterReceive n k => Sys2Proof.Machine.execLbkEnterReceive n k s
  | .lbkExitReceive n k => Sys2Proof.Machine.execLbkExitReceive n k s
  | .loopbackTimeout n => Sys2Proof.Machine.execLoopbackTimeout n s
  | .sofReceive n k => Sys2Proof.Machine.execSofReceive n k s
  | .trailerReceive n k => Sys2Proof.Machine.execTrailerReceive n k s
  | .openFrameTimeout n => Sys2Proof.Machine.execOpenFrameTimeout n s
  | .ackReceive n k => Sys2Proof.Machine.execAckReceive n k s
  | .nakReceive n k => Sys2Proof.Machine.execNakReceive n k s
  | .pollReceive n k => Sys2Proof.Machine.execPollReceive n k s
  | .creditField n k => Sys2Proof.Machine.execCreditField n k s
  | .replayTimerExpiry n => Sys2Proof.Machine.execReplayTimerExpiry n s
  | .creditRefresh n => Sys2Proof.Machine.execCreditRefresh n s
  | .heartbeatSend n => Sys2Proof.Machine.execHeartbeatSend n s
  | .heartbeatLoss n => Sys2Proof.Machine.execHeartbeatLoss n s
  | .lparamSend n => Sys2Proof.Machine.execLparamSend n s
  | .lparamReceive n body => Sys2Proof.Machine.execLparamReceive n body s
  | .initTimeout n => Sys2Proof.Machine.execInitTimeout n s
  | .holdExpiry n => Sys2Proof.Machine.execHoldExpiry n s
  | .egressSelect e ecc => Sys2Proof.Machine.execEgressSelect e ecc s
  | .routeStage p => Sys2Proof.Machine.execRouteStage p s
  | .tunnelOpen t v => Sys2Proof.Machine.execTunnelOpen t v s
  | .tunnelClose t v => Sys2Proof.Machine.execTunnelClose t v s
  | .drainEnd t => Sys2Proof.Machine.execDrainEnd t s
  | .drainDeadline t => Sys2Proof.Machine.execDrainDeadline t s
  | .mgmtReadRequest => Sys2Proof.Machine.execMgmtReadRequest s
  | .mgmtWriteRequest straps => Sys2Proof.Machine.execMgmtWriteRequest straps s
  | .mgmtUnsupported => Sys2Proof.Machine.execMgmtUnsupported s
  | .mgmtResendTimeout reqid dhub addr op key => Sys2Proof.Machine.execMgmtResendTimeout reqid dhub addr op key s
  | .protectedWindowEnd => Sys2Proof.Machine.execProtectedWindowEnd s
  | .phbReceive => Sys2Proof.Machine.execPhbReceive s
  | .packReceive => Sys2Proof.Machine.execPackReceive s
  | .protectedPacketArrive => Sys2Proof.Machine.execProtectedPacketArrive s
  | .gapTimerExpiry t => Sys2Proof.Machine.execGapTimerExpiry t s
  | .helloReceive => Sys2Proof.Machine.execHelloReceive s
  | .dlgRepeat n => Sys2Proof.Machine.execDlgRepeat n s
  | .dlgReceive => Sys2Proof.Machine.execDlgReceive s
  | .dlgackReceive => Sys2Proof.Machine.execDlgackReceive s
  | .staggerGroupStart => Sys2Proof.Machine.execStaggerGroupStart s
  | .porttmoExpiry n => Sys2Proof.Machine.execPorttmoExpiry n s
  | .readyReceive => Sys2Proof.Machine.execReadyReceive s
  | .sitereadyReceive => Sys2Proof.Machine.execSitereadyReceive s
  | .kennelScrub ecc => Sys2Proof.Machine.execKennelScrub ecc s
  | .rowRepair mem arr row => Sys2Proof.Machine.execRowRepair mem arr row s
  | .memoryScrub mem row err a b => Sys2Proof.Machine.execMemoryScrub mem row err a b s
  | .stageStall stage => Sys2Proof.Machine.execStageStall stage s
  | .lifetimeExpiry => Sys2Proof.Machine.execLifetimeExpiry s
  | .sweeperVisit => Sys2Proof.Machine.execSweeperVisit s
  | .flowCacheFlush => Sys2Proof.Machine.execFlowCacheFlush s
  | .minWrite p q v => Sys2Proof.Machine.execMinWrite p q v s
  | .quotaWrite p v => Sys2Proof.Machine.execQuotaWrite p v s
  | .gateEntryChange e => Sys2Proof.Machine.execGateEntryChange e s
  | .gateCommit e => Sys2Proof.Machine.execGateCommit e s
  | .gateAbort e => Sys2Proof.Machine.execGateAbort e s
  | .gateSwitchover e => Sys2Proof.Machine.execGateSwitchover e s
  | .gateDisable e => Sys2Proof.Machine.execGateDisable e s
  | .shaperRefill => Sys2Proof.Machine.execShaperRefill s
  | .shaperWrite q x w v => Sys2Proof.Machine.execShaperWrite q x w v s
  | .meterWrite m w v => Sys2Proof.Machine.execMeterWrite m w v s
  | .shepherdWindowEnd n => Sys2Proof.Machine.execShepherdWindowEnd n s
  | .allotmentWrite p n v => Sys2Proof.Machine.execAllotmentWrite p n v s
  | .raiseStart => Sys2Proof.Machine.execRaiseStart s
  | .budgetWrite p share v => Sys2Proof.Machine.execBudgetWrite p share v s
  | .doorbell sl be v => Sys2Proof.Machine.execDoorbell sl be v s
  | .mgmtDoorbell p be v => Sys2Proof.Machine.execMgmtDoorbell p be v s
  | .arm sl be v => Sys2Proof.Machine.execArm sl be v s
  | .mgmtArm p be v => Sys2Proof.Machine.execMgmtArm p be v s
  | .descriptorFetchIssue r => Sys2Proof.Machine.execDescriptorFetchIssue r s
  | .descriptorArrival r ws => Sys2Proof.Machine.execDescriptorArrival r ws s
  | .dataFetchIssue r => Sys2Proof.Machine.execDataFetchIssue r s
  | .dataArrival r bytes => Sys2Proof.Machine.execDataArrival r bytes s
  | .hostReadFailure r desc => Sys2Proof.Machine.execHostReadFailure r desc s
  | .readRetry r => Sys2Proof.Machine.execReadRetry r s
  | .moderationTimeout r => Sys2Proof.Machine.execModerationTimeout r s
  | .ringEnable p v => Sys2Proof.Machine.execRingEnable p v s
  | .ringReset p v => Sys2Proof.Machine.execRingReset p v s
  | .ringResetDeadline r => Sys2Proof.Machine.execRingResetDeadline r s
  | .ringResetEnd r => Sys2Proof.Machine.execRingResetEnd r s
  | .perstNAssert => Sys2Proof.Machine.execPerstNAssert s
  | .perstNRelease width speed => Sys2Proof.Machine.execPerstNRelease width speed s
  | .functionLevelReset => Sys2Proof.Machine.execFunctionLevelReset s
  | .cfgrdySet => Sys2Proof.Machine.execCfgrdySet s
  | .remotePoll r => Sys2Proof.Machine.execRemotePoll r s
  | .blkTransferComplete r => Sys2Proof.Machine.execBlkTransferComplete r s
  | .sliceBindWrite p sl v => Sys2Proof.Machine.execSliceBindWrite p sl v s
  | .ownerWrite p arr w v => Sys2Proof.Machine.execOwnerWrite p arr w v s
  | .sliceReset p sl v => Sys2Proof.Machine.execSliceReset p sl v s
  | .sliceResetDrainDeadline sl => Sys2Proof.Machine.execSliceResetDrainDeadline sl s
  | .sliceResetComplete sl => Sys2Proof.Machine.execSliceResetComplete sl s
  | .windowEnable p w v => Sys2Proof.Machine.execWindowEnable p w v s
  | .windowClose p w v => Sys2Proof.Machine.execWindowClose p w v s
  | .windowCloseEnd w => Sys2Proof.Machine.execWindowCloseEnd w s
  | .bar4Write a bytes => Sys2Proof.Machine.execBar4Write a bytes s
  | .bar4Read id a len => Sys2Proof.Machine.execBar4Read id a len s
  | .rdSend w => Sys2Proof.Machine.execRdSend w s
  | .blockCompletionReceive => Sys2Proof.Machine.execBlockCompletionReceive s
  | .syncRead w => Sys2Proof.Machine.execSyncRead w s
  | .inboundRequest => Sys2Proof.Machine.execInboundRequest s
  | .inboundPcieIssue w => Sys2Proof.Machine.execInboundPcieIssue w s
  | .inboundPcieCompletion w st bytes => Sys2Proof.Machine.execInboundPcieCompletion w st bytes s
  | .busyReceive => Sys2Proof.Machine.execBusyReceive s
  | .backoffExpiry w => Sys2Proof.Machine.execBackoffExpiry w s
  | .episodeQuietEnd w => Sys2Proof.Machine.execEpisodeQuietEnd w s
  | .readTimeout w => Sys2Proof.Machine.execReadTimeout w s
  | .lateTagFree => Sys2Proof.Machine.execLateTagFree s
  | .pollSend w => Sys2Proof.Machine.execPollSend w s
  | .pipeEnable p d v => Sys2Proof.Machine.execPipeEnable p d v s
  | .pipeDisable p d v => Sys2Proof.Machine.execPipeDisable p d v s
  | .frameStart d => Sys2Proof.Machine.execFrameStart d s
  | .lineRelease d => Sys2Proof.Machine.execLineRelease d s
  | .latchTick d => Sys2Proof.Machine.execLatchTick d s
  | .syncInEdge => Sys2Proof.Machine.execSyncInEdge s
  | .synclostDeadline d => Sys2Proof.Machine.execSynclostDeadline d s
  | .teArrival d => Sys2Proof.Machine.execTeArrival d s
  | .teTimeout d => Sys2Proof.Machine.execTeTimeout d s
  | .backChannelEvent => Sys2Proof.Machine.execBackChannelEvent s
  | .layerLineFetch d l => Sys2Proof.Machine.execLayerLineFetch d l s
  | .layerDataArrival d l ok bytes => Sys2Proof.Machine.execLayerDataArrival d l ok bytes s
  | .framePulseEnd d => Sys2Proof.Machine.execFramePulseEnd d s
  | .ltrSend => Sys2Proof.Machine.execLtrSend s
  | .microframeStart => Sys2Proof.Machine.execMicroframeStart s
  | .endpointEnable p v => Sys2Proof.Machine.execEndpointEnable p v s
  | .clrhalt p v => Sys2Proof.Machine.execClrhalt p v s
  | .transferMessageReceive => Sys2Proof.Machine.execTransferMessageReceive s
  | .ackDelayExpiry t => Sys2Proof.Machine.execAckDelayExpiry t s
  | .resendTimerExpiry t => Sys2Proof.Machine.execResendTimerExpiry t s
  | .transactionEnd x res data => Sys2Proof.Machine.execTransactionEnd x res data s
  | .penWrite p n v => Sys2Proof.Machine.execPenWrite p n v s
  | .attachSeen n => Sys2Proof.Machine.execAttachSeen n s
  | .detachSeen n => Sys2Proof.Machine.execDetachSeen n s
  | .busReset p n v => Sys2Proof.Machine.execBusReset p n v s
  | .rstdurEnd n speed => Sys2Proof.Machine.execRstdurEnd n speed s
  | .usbSuspend p n v => Sys2Proof.Machine.execUsbSuspend p n v s
  | .usbResume p n v => Sys2Proof.Machine.execUsbResume p n v s
  | .remoteWake n => Sys2Proof.Machine.execRemoteWake n s
  | .rsmdrvEnd n => Sys2Proof.Machine.execRsmdrvEnd n s
  | .babble n => Sys2Proof.Machine.execBabble n s
  | .seatingClosed n pin => Sys2Proof.Machine.execSeatingClosed n pin s
  | .seatingOpen n pin => Sys2Proof.Machine.execSeatingOpen n pin s
  | .insertionDelayEnd n => Sys2Proof.Machine.execInsertionDelayEnd n s
  | .powerPathEnable p n v => Sys2Proof.Machine.execPowerPathEnable p n v s
  | .rampComplete n => Sys2Proof.Machine.execRampComplete n s
  | .rampTimeout n => Sys2Proof.Machine.execRampTimeout n s
  | .hardShortTrip n => Sys2Proof.Machine.execHardShortTrip n s
  | .currentSample n raw vos vcv csup => Sys2Proof.Machine.execCurrentSample n raw vos vcv csup s
  | .busOverVoltage mv => Sys2Proof.Machine.execBusOverVoltage mv s
  | .busUnderVoltage mv => Sys2Proof.Machine.execBusUnderVoltage mv s
  | .busInRange mv => Sys2Proof.Machine.execBusInRange mv s
  | .coolDownEnd n => Sys2Proof.Machine.execCoolDownEnd n s
  | .calibrationStart p n v => Sys2Proof.Machine.execCalibrationStart p n v s
  | .calibrationEnd n fail => Sys2Proof.Machine.execCalibrationEnd n fail s
  | .powerWindowEnd => Sys2Proof.Machine.execPowerWindowEnd s
  | .energyRead p n => Sys2Proof.Machine.execEnergyRead p n s
  | .attachDetect n => Sys2Proof.Machine.execAttachDetect n s
  | .attachLoss n => Sys2Proof.Machine.execAttachLoss n s
  | .messageSendStart n col => Sys2Proof.Machine.execMessageSendStart n col s
  | .acknowledgementReceive n hdr => Sys2Proof.Machine.execAcknowledgementReceive n hdr s
  | .acknowledgementTimeout n => Sys2Proof.Machine.execAcknowledgementTimeout n s
  | .offerReceive n hdr objs => Sys2Proof.Machine.execOfferReceive n hdr objs s
  | .requestReceive n hdr objs => Sys2Proof.Machine.execRequestReceive n hdr objs s
  | .acceptReceive n hdr objs => Sys2Proof.Machine.execAcceptReceive n hdr objs s
  | .rejectReceive n hdr objs => Sys2Proof.Machine.execRejectReceive n hdr objs s
  | .ccReadyReceive n hdr objs => Sys2Proof.Machine.execCcReadyReceive n hdr objs s
  | .statusReceive n hdr objs => Sys2Proof.Machine.execStatusReceive n hdr objs s
  | .alertReceive n hdr objs => Sys2Proof.Machine.execAlertReceive n hdr objs s
  | .cableSupplySwapReceive n hdr objs => Sys2Proof.Machine.execCableSupplySwapReceive n hdr objs s
  | .hardresetReceive n hdr objs => Sys2Proof.Machine.execHardresetReceive n hdr objs s
  | .offintExpiry n => Sys2Proof.Machine.execOffintExpiry n s
  | .reqtmoExpiry n => Sys2Proof.Machine.execReqtmoExpiry n s
  | .resptmoExpiry n => Sys2Proof.Machine.execResptmoExpiry n s
  | .readytmoExpiry n => Sys2Proof.Machine.execReadytmoExpiry n s
  | .hrrecEnd n => Sys2Proof.Machine.execHrrecEnd n s
  | .swaptmoExpiry n => Sys2Proof.Machine.execSwaptmoExpiry n s
  | .swapApply n => Sys2Proof.Machine.execSwapApply n s
  | .swapReady n => Sys2Proof.Machine.execSwapReady n s
  | .swapCsupTimeout n => Sys2Proof.Machine.execSwapCsupTimeout n s
  | .ptvWrite p n v => Sys2Proof.Machine.execPtvWrite p n v s
  | .reneg p n v => Sys2Proof.Machine.execReneg p n v s
  | .cccmdStatus p n v => Sys2Proof.Machine.execCccmdStatus p n v s
  | .cccmdAlert p n v => Sys2Proof.Machine.execCccmdAlert p n v s
  | .cccmdSwap p n v => Sys2Proof.Machine.execCccmdSwap p n v s
  | .cccmdHardreset p n v => Sys2Proof.Machine.execCccmdHardreset p n v s
  | .roleWrite p n v => Sys2Proof.Machine.execRoleWrite p n v s
  | .transitionStep n => Sys2Proof.Machine.execTransitionStep n s
  | .transitionEnd n => Sys2Proof.Machine.execTransitionEnd n s
  | .transitionSettleTimeout n => Sys2Proof.Machine.execTransitionSettleTimeout n s
  | .sinkFetOn n => Sys2Proof.Machine.execSinkFetOn n s
  | .sinkFetOff n => Sys2Proof.Machine.execSinkFetOff n s
  | .cableSupplyApply n => Sys2Proof.Machine.execCableSupplyApply n s
  | .cableSupplyFault n => Sys2Proof.Machine.execCableSupplyFault n s
  | .waitInstruction => Sys2Proof.Machine.execWaitInstruction s
  | .domainWake d => Sys2Proof.Machine.execDomainWake d s
  | .voteDlyExpiry d => Sys2Proof.Machine.execVoteDlyExpiry d s
  | .entryStepEnd d => Sys2Proof.Machine.execEntryStepEnd d s
  | .evoteWrite p w v => Sys2Proof.Machine.execEvoteWrite p w v s
  | .managerVoteHoldEnd m => Sys2Proof.Machine.execManagerVoteHoldEnd m s
  | .sramRetentionReturn => Sys2Proof.Machine.execSramRetentionReturn s
  | .standbyEntry p v => Sys2Proof.Machine.execStandbyEntry p v s
  | .standbyDrainDeadline => Sys2Proof.Machine.execStandbyDrainDeadline s
  | .standbyWake cause n straps => Sys2Proof.Machine.execStandbyWake cause n straps s
  | .vreqWrite p v => Sys2Proof.Machine.execVreqWrite p v s
  | .pmbcfgEnWrite p v => Sys2Proof.Machine.execPmbcfgEnWrite p v s
  | .voutCommandDone ok => Sys2Proof.Machine.execVoutCommandDone ok s
  | .statusWordRead ok w => Sys2Proof.Machine.execStatusWordRead ok w s
  | .settleEnd => Sys2Proof.Machine.execSettleEnd s
  | .pgtmoExpiry => Sys2Proof.Machine.execPgtmoExpiry s
  | .flushTimeout v => Sys2Proof.Machine.execFlushTimeout v s
  | .streamFlush p v w => Sys2Proof.Machine.execStreamFlush p v w s
  | .streamEnable p v w => Sys2Proof.Machine.execStreamEnable p v w s
  | .drainWordWritten v => Sys2Proof.Machine.execDrainWordWritten v s
  | .telemetry => Sys2Proof.Machine.execTelemetry s
  | .producerWrite p pr w => Sys2Proof.Machine.execProducerWrite p pr w s
  | .cairnDeclare p v => Sys2Proof.Machine.execCairnDeclare p v s
  | .cairnDone p v secs straps => Sys2Proof.Machine.execCairnDone p v secs straps s
  | .cairnTimeout straps => Sys2Proof.Machine.execCairnTimeout straps s
  | .powerOnReset straps => Sys2Proof.Machine.execPowerOnReset straps s
  | .pinReset straps => Sys2Proof.Machine.execPinReset straps s
  | .watchdogExpiry straps => Sys2Proof.Machine.execWatchdogExpiry straps s
  | .watchdogKick p v => Sys2Proof.Machine.execWatchdogKick p v s
  | .chiprst p v straps => Sys2Proof.Machine.execChiprst p v straps s
  | .otpLoadComplete bad => Sys2Proof.Machine.execOtpLoadComplete bad s
  | .railInRange r => Sys2Proof.Machine.execRailInRange r s
  | .railTimeout => Sys2Proof.Machine.execRailTimeout s
  | .railRetry => Sys2Proof.Machine.execRailRetry s
  | .bootSlotVerify a b => Sys2Proof.Machine.execBootSlotVerify a b s
  | .flashRetry => Sys2Proof.Machine.execFlashRetry s
  | .hostLoadData p v => Sys2Proof.Machine.execHostLoadData p v s
  | .hostLoadGo p v => Sys2Proof.Machine.execHostLoadGo p v s
  | .configImageApply img straps => Sys2Proof.Machine.execConfigImageApply img straps s
  | .joinSectionApply straps => Sys2Proof.Machine.execJoinSectionApply straps s
  | .configWaitEnd straps => Sys2Proof.Machine.execConfigWaitEnd straps s
  | .configPoll straps => Sys2Proof.Machine.execConfigPoll straps s
  | .otpProgram p v => Sys2Proof.Machine.execOtpProgram p v s
  | .otpRead p v => Sys2Proof.Machine.execOtpRead p v s
  | .otpProgramEnd => Sys2Proof.Machine.execOtpProgramEnd s
  | .glbLockSet p => Sys2Proof.Machine.execGlbLockSet p s
  | .mgmtH2mWrite p v => Sys2Proof.Machine.execMgmtH2mWrite p v s
  | .mgmtM2hWrite p v => Sys2Proof.Machine.execMgmtM2hWrite p v s
  | .dataBlockReceive n ctl k => Sys2Proof.Machine.execDataBlockReceive n ctl k s
  | .vaonLoss => Sys2Proof.Machine.execVaonLoss s
  | .domainExitEnd d => Sys2Proof.Machine.execDomainExitEnd d s
  | .pciePowerStateChange k => Sys2Proof.Machine.execPciePowerStateChange k s
  | .ccBadFrame n hdr objs crcOk => Sys2Proof.Machine.execCcBadFrame n hdr objs crcOk s

end Sys2Proof.Machine
end

