-- ==== Sys2Proof/Laws/State.lean ====
section
/-! SUPPORT. What the plainest updates of a hub leave alone: one lemma for each part of the hub and each update. -/

namespace Sys2Proof.Machine

@[simp] theorem Hub.setReg_time (h : Hub) (a : Nat) (v : Word) : (h.setReg a v).time = h.time := rfl
@[simp] theorem Hub.setReg_tport (h : Hub) (a : Nat) (v : Word) : (h.setReg a v).tport = h.tport := rfl
@[simp] theorem Hub.setReg_evs (h : Hub) (a : Nat) (v : Word) : (h.setReg a v).evs = h.evs := rfl
@[simp] theorem Hub.setReg_owners (h : Hub) (a : Nat) (v : Word) : (h.setReg a v).owners = h.owners := rfl
@[simp] theorem Hub.setReg_draws (h : Hub) (a : Nat) (v : Word) : (h.setReg a v).draws = h.draws := rfl
@[simp] theorem Hub.setReg_out (h : Hub) (a : Nat) (v : Word) : (h.setReg a v).out = h.out := rfl
@[simp] theorem Hub.setReg_lanes (h : Hub) (a : Nat) (v : Word) : (h.setReg a v).lanes = h.lanes := rfl
@[simp] theorem Hub.setReg_links (h : Hub) (a : Nat) (v : Word) : (h.setReg a v).links = h.links := rfl
@[simp] theorem Hub.setReg_core (h : Hub) (a : Nat) (v : Word) : (h.setReg a v).core = h.core := rfl
@[simp] theorem Hub.setReg_trf (h : Hub) (a : Nat) (v : Word) : (h.setReg a v).trf = h.trf := rfl
@[simp] theorem Hub.setReg_tuns (h : Hub) (a : Nat) (v : Word) : (h.setReg a v).tuns = h.tuns := rfl
@[simp] theorem Hub.setReg_fab (h : Hub) (a : Nat) (v : Word) : (h.setReg a v).fab = h.fab := rfl
@[simp] theorem Hub.setReg_hif (h : Hub) (a : Nat) (v : Word) : (h.setReg a v).hif = h.hif := rfl
@[simp] theorem Hub.setReg_peri (h : Hub) (a : Nat) (v : Word) : (h.setReg a v).peri = h.peri := rfl
@[simp] theorem Hub.setReg_keys (h : Hub) (a : Nat) (v : Word) : (h.setReg a v).keys = h.keys := rfl
@[simp] theorem Hub.setReg_ras (h : Hub) (a : Nat) (v : Word) : (h.setReg a v).ras = h.ras := rfl
@[simp] theorem Hub.setReg_pwr (h : Hub) (a : Nat) (v : Word) : (h.setReg a v).pwr = h.pwr := rfl
@[simp] theorem Hub.setReg_boot (h : Hub) (a : Nat) (v : Word) : (h.setReg a v).boot = h.boot := rfl
@[simp] theorem Hub.setReg_msi (h : Hub) (a : Nat) (v : Word) : (h.setReg a v).msi = h.msi := rfl
@[simp] theorem Hub.setReg_led (h : Hub) (a : Nat) (v : Word) : (h.setReg a v).led = h.led := rfl

@[simp] theorem Hub.set_time (h : Hub) (f : Fld) (v i j : Nat) : (h.set f v i j).time = h.time := rfl
@[simp] theorem Hub.set_tport (h : Hub) (f : Fld) (v i j : Nat) : (h.set f v i j).tport = h.tport := rfl
@[simp] theorem Hub.set_evs (h : Hub) (f : Fld) (v i j : Nat) : (h.set f v i j).evs = h.evs := rfl
@[simp] theorem Hub.set_owners (h : Hub) (f : Fld) (v i j : Nat) : (h.set f v i j).owners = h.owners := rfl
@[simp] theorem Hub.set_draws (h : Hub) (f : Fld) (v i j : Nat) : (h.set f v i j).draws = h.draws := rfl
@[simp] theorem Hub.set_out (h : Hub) (f : Fld) (v i j : Nat) : (h.set f v i j).out = h.out := rfl
@[simp] theorem Hub.set_lanes (h : Hub) (f : Fld) (v i j : Nat) : (h.set f v i j).lanes = h.lanes := rfl
@[simp] theorem Hub.set_links (h : Hub) (f : Fld) (v i j : Nat) : (h.set f v i j).links = h.links := rfl
@[simp] theorem Hub.set_core (h : Hub) (f : Fld) (v i j : Nat) : (h.set f v i j).core = h.core := rfl
@[simp] theorem Hub.set_trf (h : Hub) (f : Fld) (v i j : Nat) : (h.set f v i j).trf = h.trf := rfl
@[simp] theorem Hub.set_tuns (h : Hub) (f : Fld) (v i j : Nat) : (h.set f v i j).tuns = h.tuns := rfl
@[simp] theorem Hub.set_fab (h : Hub) (f : Fld) (v i j : Nat) : (h.set f v i j).fab = h.fab := rfl
@[simp] theorem Hub.set_hif (h : Hub) (f : Fld) (v i j : Nat) : (h.set f v i j).hif = h.hif := rfl
@[simp] theorem Hub.set_peri (h : Hub) (f : Fld) (v i j : Nat) : (h.set f v i j).peri = h.peri := rfl
@[simp] theorem Hub.set_keys (h : Hub) (f : Fld) (v i j : Nat) : (h.set f v i j).keys = h.keys := rfl
@[simp] theorem Hub.set_ras (h : Hub) (f : Fld) (v i j : Nat) : (h.set f v i j).ras = h.ras := rfl
@[simp] theorem Hub.set_pwr (h : Hub) (f : Fld) (v i j : Nat) : (h.set f v i j).pwr = h.pwr := rfl
@[simp] theorem Hub.set_boot (h : Hub) (f : Fld) (v i j : Nat) : (h.set f v i j).boot = h.boot := rfl
@[simp] theorem Hub.set_msi (h : Hub) (f : Fld) (v i j : Nat) : (h.set f v i j).msi = h.msi := rfl
@[simp] theorem Hub.set_led (h : Hub) (f : Fld) (v i j : Nat) : (h.set f v i j).led = h.led := rfl

@[simp] theorem Hub.bump_time (h : Hub) (f : Fld) (i n : Nat) : (h.bump f i n).time = h.time := rfl
@[simp] theorem Hub.bump_tport (h : Hub) (f : Fld) (i n : Nat) : (h.bump f i n).tport = h.tport := rfl
@[simp] theorem Hub.bump_evs (h : Hub) (f : Fld) (i n : Nat) : (h.bump f i n).evs = h.evs := rfl
@[simp] theorem Hub.bump_owners (h : Hub) (f : Fld) (i n : Nat) : (h.bump f i n).owners = h.owners := rfl
@[simp] theorem Hub.bump_draws (h : Hub) (f : Fld) (i n : Nat) : (h.bump f i n).draws = h.draws := rfl
@[simp] theorem Hub.bump_out (h : Hub) (f : Fld) (i n : Nat) : (h.bump f i n).out = h.out := rfl
@[simp] theorem Hub.bump_lanes (h : Hub) (f : Fld) (i n : Nat) : (h.bump f i n).lanes = h.lanes := rfl
@[simp] theorem Hub.bump_links (h : Hub) (f : Fld) (i n : Nat) : (h.bump f i n).links = h.links := rfl
@[simp] theorem Hub.bump_core (h : Hub) (f : Fld) (i n : Nat) : (h.bump f i n).core = h.core := rfl
@[simp] theorem Hub.bump_trf (h : Hub) (f : Fld) (i n : Nat) : (h.bump f i n).trf = h.trf := rfl
@[simp] theorem Hub.bump_tuns (h : Hub) (f : Fld) (i n : Nat) : (h.bump f i n).tuns = h.tuns := rfl
@[simp] theorem Hub.bump_fab (h : Hub) (f : Fld) (i n : Nat) : (h.bump f i n).fab = h.fab := rfl
@[simp] theorem Hub.bump_hif (h : Hub) (f : Fld) (i n : Nat) : (h.bump f i n).hif = h.hif := rfl
@[simp] theorem Hub.bump_peri (h : Hub) (f : Fld) (i n : Nat) : (h.bump f i n).peri = h.peri := rfl
@[simp] theorem Hub.bump_keys (h : Hub) (f : Fld) (i n : Nat) : (h.bump f i n).keys = h.keys := rfl
@[simp] theorem Hub.bump_ras (h : Hub) (f : Fld) (i n : Nat) : (h.bump f i n).ras = h.ras := rfl
@[simp] theorem Hub.bump_pwr (h : Hub) (f : Fld) (i n : Nat) : (h.bump f i n).pwr = h.pwr := rfl
@[simp] theorem Hub.bump_boot (h : Hub) (f : Fld) (i n : Nat) : (h.bump f i n).boot = h.boot := rfl
@[simp] theorem Hub.bump_msi (h : Hub) (f : Fld) (i n : Nat) : (h.bump f i n).msi = h.msi := rfl

@[simp] theorem Hub.set64_time (h : Hub) (lo hi : Fld) (v i j : Nat) : (h.set64 lo hi v i j).time = h.time := rfl
@[simp] theorem Hub.set64_tport (h : Hub) (lo hi : Fld) (v i j : Nat) : (h.set64 lo hi v i j).tport = h.tport := rfl
@[simp] theorem Hub.set64_evs (h : Hub) (lo hi : Fld) (v i j : Nat) : (h.set64 lo hi v i j).evs = h.evs := rfl
@[simp] theorem Hub.set64_owners (h : Hub) (lo hi : Fld) (v i j : Nat) : (h.set64 lo hi v i j).owners = h.owners := rfl
@[simp] theorem Hub.set64_draws (h : Hub) (lo hi : Fld) (v i j : Nat) : (h.set64 lo hi v i j).draws = h.draws := rfl
@[simp] theorem Hub.set64_out (h : Hub) (lo hi : Fld) (v i j : Nat) : (h.set64 lo hi v i j).out = h.out := rfl
@[simp] theorem Hub.set64_lanes (h : Hub) (lo hi : Fld) (v i j : Nat) : (h.set64 lo hi v i j).lanes = h.lanes := rfl
@[simp] theorem Hub.set64_links (h : Hub) (lo hi : Fld) (v i j : Nat) : (h.set64 lo hi v i j).links = h.links := rfl
@[simp] theorem Hub.set64_core (h : Hub) (lo hi : Fld) (v i j : Nat) : (h.set64 lo hi v i j).core = h.core := rfl
@[simp] theorem Hub.set64_trf (h : Hub) (lo hi : Fld) (v i j : Nat) : (h.set64 lo hi v i j).trf = h.trf := rfl
@[simp] theorem Hub.set64_tuns (h : Hub) (lo hi : Fld) (v i j : Nat) : (h.set64 lo hi v i j).tuns = h.tuns := rfl
@[simp] theorem Hub.set64_fab (h : Hub) (lo hi : Fld) (v i j : Nat) : (h.set64 lo hi v i j).fab = h.fab := rfl
@[simp] theorem Hub.set64_hif (h : Hub) (lo hi : Fld) (v i j : Nat) : (h.set64 lo hi v i j).hif = h.hif := rfl
@[simp] theorem Hub.set64_peri (h : Hub) (lo hi : Fld) (v i j : Nat) : (h.set64 lo hi v i j).peri = h.peri := rfl
@[simp] theorem Hub.set64_keys (h : Hub) (lo hi : Fld) (v i j : Nat) : (h.set64 lo hi v i j).keys = h.keys := rfl
@[simp] theorem Hub.set64_ras (h : Hub) (lo hi : Fld) (v i j : Nat) : (h.set64 lo hi v i j).ras = h.ras := rfl
@[simp] theorem Hub.set64_pwr (h : Hub) (lo hi : Fld) (v i j : Nat) : (h.set64 lo hi v i j).pwr = h.pwr := rfl
@[simp] theorem Hub.set64_boot (h : Hub) (lo hi : Fld) (v i j : Nat) : (h.set64 lo hi v i j).boot = h.boot := rfl
@[simp] theorem Hub.set64_msi (h : Hub) (lo hi : Fld) (v i j : Nat) : (h.set64 lo hi v i j).msi = h.msi := rfl
@[simp] theorem Hub.set64_led (h : Hub) (lo hi : Fld) (v i j : Nat) : (h.set64 lo hi v i j).led = h.led := rfl

@[simp] theorem Hub.emit_regs (h : Hub) (o : Out) : (h.emit o).regs = h.regs := rfl
@[simp] theorem Hub.emit_time (h : Hub) (o : Out) : (h.emit o).time = h.time := rfl
@[simp] theorem Hub.emit_tport (h : Hub) (o : Out) : (h.emit o).tport = h.tport := rfl
@[simp] theorem Hub.emit_evs (h : Hub) (o : Out) : (h.emit o).evs = h.evs := rfl
@[simp] theorem Hub.emit_owners (h : Hub) (o : Out) : (h.emit o).owners = h.owners := rfl
@[simp] theorem Hub.emit_draws (h : Hub) (o : Out) : (h.emit o).draws = h.draws := rfl
@[simp] theorem Hub.emit_lanes (h : Hub) (o : Out) : (h.emit o).lanes = h.lanes := rfl
@[simp] theorem Hub.emit_links (h : Hub) (o : Out) : (h.emit o).links = h.links := rfl
@[simp] theorem Hub.emit_core (h : Hub) (o : Out) : (h.emit o).core = h.core := rfl
@[simp] theorem Hub.emit_trf (h : Hub) (o : Out) : (h.emit o).trf = h.trf := rfl
@[simp] theorem Hub.emit_tuns (h : Hub) (o : Out) : (h.emit o).tuns = h.tuns := rfl
@[simp] theorem Hub.emit_fab (h : Hub) (o : Out) : (h.emit o).fab = h.fab := rfl
@[simp] theorem Hub.emit_hif (h : Hub) (o : Out) : (h.emit o).hif = h.hif := rfl
@[simp] theorem Hub.emit_peri (h : Hub) (o : Out) : (h.emit o).peri = h.peri := rfl
@[simp] theorem Hub.emit_keys (h : Hub) (o : Out) : (h.emit o).keys = h.keys := rfl
@[simp] theorem Hub.emit_ras (h : Hub) (o : Out) : (h.emit o).ras = h.ras := rfl
@[simp] theorem Hub.emit_pwr (h : Hub) (o : Out) : (h.emit o).pwr = h.pwr := rfl
@[simp] theorem Hub.emit_boot (h : Hub) (o : Out) : (h.emit o).boot = h.boot := rfl
@[simp] theorem Hub.emit_msi (h : Hub) (o : Out) : (h.emit o).msi = h.msi := rfl
@[simp] theorem Hub.emit_led (h : Hub) (o : Out) : (h.emit o).led = h.led := rfl


@[simp] theorem Hub.setStream_regs (h : Hub) (v : Nat) (x : Stream) : (h.setStream v x).regs = h.regs := rfl
@[simp] theorem Hub.setStream_time (h : Hub) (v : Nat) (x : Stream) : (h.setStream v x).time = h.time := rfl
@[simp] theorem Hub.setStream_tport (h : Hub) (v : Nat) (x : Stream) : (h.setStream v x).tport = h.tport := rfl
@[simp] theorem Hub.setStream_owners (h : Hub) (v : Nat) (x : Stream) : (h.setStream v x).owners = h.owners := rfl
@[simp] theorem Hub.setStream_draws (h : Hub) (v : Nat) (x : Stream) : (h.setStream v x).draws = h.draws := rfl
@[simp] theorem Hub.setStream_out (h : Hub) (v : Nat) (x : Stream) : (h.setStream v x).out = h.out := rfl
@[simp] theorem Hub.setStream_lanes (h : Hub) (v : Nat) (x : Stream) : (h.setStream v x).lanes = h.lanes := rfl
@[simp] theorem Hub.setStream_links (h : Hub) (v : Nat) (x : Stream) : (h.setStream v x).links = h.links := rfl
@[simp] theorem Hub.setStream_core (h : Hub) (v : Nat) (x : Stream) : (h.setStream v x).core = h.core := rfl
@[simp] theorem Hub.setStream_trf (h : Hub) (v : Nat) (x : Stream) : (h.setStream v x).trf = h.trf := rfl
@[simp] theorem Hub.setStream_tuns (h : Hub) (v : Nat) (x : Stream) : (h.setStream v x).tuns = h.tuns := rfl
@[simp] theorem Hub.setStream_fab (h : Hub) (v : Nat) (x : Stream) : (h.setStream v x).fab = h.fab := rfl
@[simp] theorem Hub.setStream_hif (h : Hub) (v : Nat) (x : Stream) : (h.setStream v x).hif = h.hif := rfl
@[simp] theorem Hub.setStream_peri (h : Hub) (v : Nat) (x : Stream) : (h.setStream v x).peri = h.peri := rfl
@[simp] theorem Hub.setStream_keys (h : Hub) (v : Nat) (x : Stream) : (h.setStream v x).keys = h.keys := rfl
@[simp] theorem Hub.setStream_ras (h : Hub) (v : Nat) (x : Stream) : (h.setStream v x).ras = h.ras := rfl
@[simp] theorem Hub.setStream_pwr (h : Hub) (v : Nat) (x : Stream) : (h.setStream v x).pwr = h.pwr := rfl
@[simp] theorem Hub.setStream_boot (h : Hub) (v : Nat) (x : Stream) : (h.setStream v x).boot = h.boot := rfl
@[simp] theorem Hub.setStream_msi (h : Hub) (v : Nat) (x : Stream) : (h.setStream v x).msi = h.msi := rfl
@[simp] theorem Hub.setStream_led (h : Hub) (v : Nat) (x : Stream) : (h.setStream v x).led = h.led := rfl

@[simp] theorem Hub.setProd_regs (h : Hub) (p : Nat) (x : Producer) : (h.setProd p x).regs = h.regs := rfl
@[simp] theorem Hub.setProd_time (h : Hub) (p : Nat) (x : Producer) : (h.setProd p x).time = h.time := rfl
@[simp] theorem Hub.setProd_tport (h : Hub) (p : Nat) (x : Producer) : (h.setProd p x).tport = h.tport := rfl
@[simp] theorem Hub.setProd_owners (h : Hub) (p : Nat) (x : Producer) : (h.setProd p x).owners = h.owners := rfl
@[simp] theorem Hub.setProd_draws (h : Hub) (p : Nat) (x : Producer) : (h.setProd p x).draws = h.draws := rfl
@[simp] theorem Hub.setProd_out (h : Hub) (p : Nat) (x : Producer) : (h.setProd p x).out = h.out := rfl
@[simp] theorem Hub.setProd_lanes (h : Hub) (p : Nat) (x : Producer) : (h.setProd p x).lanes = h.lanes := rfl
@[simp] theorem Hub.setProd_links (h : Hub) (p : Nat) (x : Producer) : (h.setProd p x).links = h.links := rfl
@[simp] theorem Hub.setProd_core (h : Hub) (p : Nat) (x : Producer) : (h.setProd p x).core = h.core := rfl
@[simp] theorem Hub.setProd_trf (h : Hub) (p : Nat) (x : Producer) : (h.setProd p x).trf = h.trf := rfl
@[simp] theorem Hub.setProd_tuns (h : Hub) (p : Nat) (x : Producer) : (h.setProd p x).tuns = h.tuns := rfl
@[simp] theorem Hub.setProd_fab (h : Hub) (p : Nat) (x : Producer) : (h.setProd p x).fab = h.fab := rfl
@[simp] theorem Hub.setProd_hif (h : Hub) (p : Nat) (x : Producer) : (h.setProd p x).hif = h.hif := rfl
@[simp] theorem Hub.setProd_peri (h : Hub) (p : Nat) (x : Producer) : (h.setProd p x).peri = h.peri := rfl
@[simp] theorem Hub.setProd_keys (h : Hub) (p : Nat) (x : Producer) : (h.setProd p x).keys = h.keys := rfl
@[simp] theorem Hub.setProd_ras (h : Hub) (p : Nat) (x : Producer) : (h.setProd p x).ras = h.ras := rfl
@[simp] theorem Hub.setProd_pwr (h : Hub) (p : Nat) (x : Producer) : (h.setProd p x).pwr = h.pwr := rfl
@[simp] theorem Hub.setProd_boot (h : Hub) (p : Nat) (x : Producer) : (h.setProd p x).boot = h.boot := rfl
@[simp] theorem Hub.setProd_msi (h : Hub) (p : Nat) (x : Producer) : (h.setProd p x).msi = h.msi := rfl
@[simp] theorem Hub.setProd_led (h : Hub) (p : Nat) (x : Producer) : (h.setProd p x).led = h.led := rfl

@[simp] theorem Hub.setOwner_regs (h : Hub) (r o : Nat) : (h.setOwner r o).regs = h.regs := rfl
@[simp] theorem Hub.setOwner_time (h : Hub) (r o : Nat) : (h.setOwner r o).time = h.time := rfl
@[simp] theorem Hub.setOwner_tport (h : Hub) (r o : Nat) : (h.setOwner r o).tport = h.tport := rfl
@[simp] theorem Hub.setOwner_evs (h : Hub) (r o : Nat) : (h.setOwner r o).evs = h.evs := rfl
@[simp] theorem Hub.setOwner_draws (h : Hub) (r o : Nat) : (h.setOwner r o).draws = h.draws := rfl
@[simp] theorem Hub.setOwner_out (h : Hub) (r o : Nat) : (h.setOwner r o).out = h.out := rfl
@[simp] theorem Hub.setOwner_lanes (h : Hub) (r o : Nat) : (h.setOwner r o).lanes = h.lanes := rfl
@[simp] theorem Hub.setOwner_links (h : Hub) (r o : Nat) : (h.setOwner r o).links = h.links := rfl
@[simp] theorem Hub.setOwner_core (h : Hub) (r o : Nat) : (h.setOwner r o).core = h.core := rfl
@[simp] theorem Hub.setOwner_trf (h : Hub) (r o : Nat) : (h.setOwner r o).trf = h.trf := rfl
@[simp] theorem Hub.setOwner_tuns (h : Hub) (r o : Nat) : (h.setOwner r o).tuns = h.tuns := rfl
@[simp] theorem Hub.setOwner_fab (h : Hub) (r o : Nat) : (h.setOwner r o).fab = h.fab := rfl
@[simp] theorem Hub.setOwner_hif (h : Hub) (r o : Nat) : (h.setOwner r o).hif = h.hif := rfl
@[simp] theorem Hub.setOwner_peri (h : Hub) (r o : Nat) : (h.setOwner r o).peri = h.peri := rfl
@[simp] theorem Hub.setOwner_keys (h : Hub) (r o : Nat) : (h.setOwner r o).keys = h.keys := rfl
@[simp] theorem Hub.setOwner_ras (h : Hub) (r o : Nat) : (h.setOwner r o).ras = h.ras := rfl
@[simp] theorem Hub.setOwner_pwr (h : Hub) (r o : Nat) : (h.setOwner r o).pwr = h.pwr := rfl
@[simp] theorem Hub.setOwner_boot (h : Hub) (r o : Nat) : (h.setOwner r o).boot = h.boot := rfl
@[simp] theorem Hub.setOwner_msi (h : Hub) (r o : Nat) : (h.setOwner r o).msi = h.msi := rfl
@[simp] theorem Hub.setOwner_led (h : Hub) (r o : Nat) : (h.setOwner r o).led = h.led := rfl

/-- The parts that a vector leaves alone: it is sent, or held pending. -/
theorem Hub.vector_frame (h : Hub) (v : Nat) : ∃ msi out, h.vector v = { h with msi := msi, out := out } := by
  unfold Hub.vector
  split
  · exact ⟨_, _, rfl⟩
  · split <;> exact ⟨_, _, rfl⟩

@[simp] theorem Hub.vector_regs (h : Hub) (v : Nat) : (h.vector v).regs = h.regs := by
  obtain ⟨_, _, e⟩ := h.vector_frame v; rw [e]
@[simp] theorem Hub.vector_time (h : Hub) (v : Nat) : (h.vector v).time = h.time := by
  obtain ⟨_, _, e⟩ := h.vector_frame v; rw [e]
@[simp] theorem Hub.vector_tport (h : Hub) (v : Nat) : (h.vector v).tport = h.tport := by
  obtain ⟨_, _, e⟩ := h.vector_frame v; rw [e]
@[simp] theorem Hub.vector_evs (h : Hub) (v : Nat) : (h.vector v).evs = h.evs := by
  obtain ⟨_, _, e⟩ := h.vector_frame v; rw [e]
@[simp] theorem Hub.vector_owners (h : Hub) (v : Nat) : (h.vector v).owners = h.owners := by
  obtain ⟨_, _, e⟩ := h.vector_frame v; rw [e]
@[simp] theorem Hub.vector_draws (h : Hub) (v : Nat) : (h.vector v).draws = h.draws := by
  obtain ⟨_, _, e⟩ := h.vector_frame v; rw [e]
@[simp] theorem Hub.vector_lanes (h : Hub) (v : Nat) : (h.vector v).lanes = h.lanes := by
  obtain ⟨_, _, e⟩ := h.vector_frame v; rw [e]
@[simp] theorem Hub.vector_links (h : Hub) (v : Nat) : (h.vector v).links = h.links := by
  obtain ⟨_, _, e⟩ := h.vector_frame v; rw [e]
@[simp] theorem Hub.vector_core (h : Hub) (v : Nat) : (h.vector v).core = h.core := by
  obtain ⟨_, _, e⟩ := h.vector_frame v; rw [e]
@[simp] theorem Hub.vector_trf (h : Hub) (v : Nat) : (h.vector v).trf = h.trf := by
  obtain ⟨_, _, e⟩ := h.vector_frame v; rw [e]
@[simp] theorem Hub.vector_tuns (h : Hub) (v : Nat) : (h.vector v).tuns = h.tuns := by
  obtain ⟨_, _, e⟩ := h.vector_frame v; rw [e]
@[simp] theorem Hub.vector_fab (h : Hub) (v : Nat) : (h.vector v).fab = h.fab := by
  obtain ⟨_, _, e⟩ := h.vector_frame v; rw [e]
@[simp] theorem Hub.vector_hif (h : Hub) (v : Nat) : (h.vector v).hif = h.hif := by
  obtain ⟨_, _, e⟩ := h.vector_frame v; rw [e]
@[simp] theorem Hub.vector_peri (h : Hub) (v : Nat) : (h.vector v).peri = h.peri := by
  obtain ⟨_, _, e⟩ := h.vector_frame v; rw [e]
@[simp] theorem Hub.vector_keys (h : Hub) (v : Nat) : (h.vector v).keys = h.keys := by
  obtain ⟨_, _, e⟩ := h.vector_frame v; rw [e]
@[simp] theorem Hub.vector_ras (h : Hub) (v : Nat) : (h.vector v).ras = h.ras := by
  obtain ⟨_, _, e⟩ := h.vector_frame v; rw [e]
@[simp] theorem Hub.vector_pwr (h : Hub) (v : Nat) : (h.vector v).pwr = h.pwr := by
  obtain ⟨_, _, e⟩ := h.vector_frame v; rw [e]
@[simp] theorem Hub.vector_boot (h : Hub) (v : Nat) : (h.vector v).boot = h.boot := by
  obtain ⟨_, _, e⟩ := h.vector_frame v; rw [e]
@[simp] theorem Hub.vector_led (h : Hub) (v : Nat) : (h.vector v).led = h.led := by
  obtain ⟨_, _, e⟩ := h.vector_frame v; rw [e]
@[simp] theorem Hub.vector_reg (h : Hub) (v a : Nat) : (h.vector v).reg a = h.reg a := by
  obtain ⟨_, _, e⟩ := h.vector_frame v; rw [e]; rfl

/-- A vector of an enabled function that is not masked is sent as the table has it. -/
theorem Hub.vector_sent {h : Hub} {v : Nat} (on : h.msi.on = true) (m : h.msixMasked v = false) :
    h.vector v = h.emit (.msix v (Tab.get {} h.msi.tab v).addr (Tab.get {} h.msi.tab v).data) := by
  simp [Hub.vector, on, m, Hub.msixSend]


@[simp] theorem Hub.hot_regs (h : Hub) (a : Nat) (m : Word) : (h.hot a m).regs = h.regs := rfl
@[simp] theorem Hub.hot_time (h : Hub) (a : Nat) (m : Word) : (h.hot a m).time = h.time := rfl
@[simp] theorem Hub.hot_tport (h : Hub) (a : Nat) (m : Word) : (h.hot a m).tport = h.tport := rfl
@[simp] theorem Hub.hot_evs (h : Hub) (a : Nat) (m : Word) : (h.hot a m).evs = h.evs := rfl
@[simp] theorem Hub.hot_owners (h : Hub) (a : Nat) (m : Word) : (h.hot a m).owners = h.owners := rfl
@[simp] theorem Hub.hot_draws (h : Hub) (a : Nat) (m : Word) : (h.hot a m).draws = h.draws := rfl
@[simp] theorem Hub.hot_out (h : Hub) (a : Nat) (m : Word) : (h.hot a m).out = h.out := rfl
@[simp] theorem Hub.hot_lanes (h : Hub) (a : Nat) (m : Word) : (h.hot a m).lanes = h.lanes := rfl
@[simp] theorem Hub.hot_links (h : Hub) (a : Nat) (m : Word) : (h.hot a m).links = h.links := rfl
@[simp] theorem Hub.hot_core (h : Hub) (a : Nat) (m : Word) : (h.hot a m).core = h.core := rfl
@[simp] theorem Hub.hot_trf (h : Hub) (a : Nat) (m : Word) : (h.hot a m).trf = h.trf := rfl
@[simp] theorem Hub.hot_tuns (h : Hub) (a : Nat) (m : Word) : (h.hot a m).tuns = h.tuns := rfl
@[simp] theorem Hub.hot_fab (h : Hub) (a : Nat) (m : Word) : (h.hot a m).fab = h.fab := rfl
@[simp] theorem Hub.hot_hif (h : Hub) (a : Nat) (m : Word) : (h.hot a m).hif = h.hif := rfl
@[simp] theorem Hub.hot_peri (h : Hub) (a : Nat) (m : Word) : (h.hot a m).peri = h.peri := rfl
@[simp] theorem Hub.hot_keys (h : Hub) (a : Nat) (m : Word) : (h.hot a m).keys = h.keys := rfl
@[simp] theorem Hub.hot_ras (h : Hub) (a : Nat) (m : Word) : (h.hot a m).ras = h.ras := rfl
@[simp] theorem Hub.hot_pwr (h : Hub) (a : Nat) (m : Word) : (h.hot a m).pwr = h.pwr := rfl
@[simp] theorem Hub.hot_boot (h : Hub) (a : Nat) (m : Word) : (h.hot a m).boot = h.boot := rfl
@[simp] theorem Hub.hot_msi (h : Hub) (a : Nat) (m : Word) : (h.hot a m).msi = h.msi := rfl
@[simp] theorem Hub.hot_reg (h : Hub) (a : Nat) (m : Word) (b : Nat) : (h.hot a m).reg b = h.reg b := rfl
@[simp] theorem Hub.hot_get (h : Hub) (a : Nat) (m : Word) (g : Fld) (k l : Nat) : (h.hot a m).get g k l = h.get g k l := rfl

@[simp] theorem Hub.mark_regs (h : Hub) (f : Fld) (i j : Nat) : (h.mark f i j).regs = h.regs := rfl
@[simp] theorem Hub.mark_time (h : Hub) (f : Fld) (i j : Nat) : (h.mark f i j).time = h.time := rfl
@[simp] theorem Hub.mark_tport (h : Hub) (f : Fld) (i j : Nat) : (h.mark f i j).tport = h.tport := rfl
@[simp] theorem Hub.mark_evs (h : Hub) (f : Fld) (i j : Nat) : (h.mark f i j).evs = h.evs := rfl
@[simp] theorem Hub.mark_owners (h : Hub) (f : Fld) (i j : Nat) : (h.mark f i j).owners = h.owners := rfl
@[simp] theorem Hub.mark_draws (h : Hub) (f : Fld) (i j : Nat) : (h.mark f i j).draws = h.draws := rfl
@[simp] theorem Hub.mark_out (h : Hub) (f : Fld) (i j : Nat) : (h.mark f i j).out = h.out := rfl
@[simp] theorem Hub.mark_lanes (h : Hub) (f : Fld) (i j : Nat) : (h.mark f i j).lanes = h.lanes := rfl
@[simp] theorem Hub.mark_links (h : Hub) (f : Fld) (i j : Nat) : (h.mark f i j).links = h.links := rfl
@[simp] theorem Hub.mark_core (h : Hub) (f : Fld) (i j : Nat) : (h.mark f i j).core = h.core := rfl
@[simp] theorem Hub.mark_trf (h : Hub) (f : Fld) (i j : Nat) : (h.mark f i j).trf = h.trf := rfl
@[simp] theorem Hub.mark_tuns (h : Hub) (f : Fld) (i j : Nat) : (h.mark f i j).tuns = h.tuns := rfl
@[simp] theorem Hub.mark_fab (h : Hub) (f : Fld) (i j : Nat) : (h.mark f i j).fab = h.fab := rfl
@[simp] theorem Hub.mark_hif (h : Hub) (f : Fld) (i j : Nat) : (h.mark f i j).hif = h.hif := rfl
@[simp] theorem Hub.mark_peri (h : Hub) (f : Fld) (i j : Nat) : (h.mark f i j).peri = h.peri := rfl
@[simp] theorem Hub.mark_keys (h : Hub) (f : Fld) (i j : Nat) : (h.mark f i j).keys = h.keys := rfl
@[simp] theorem Hub.mark_ras (h : Hub) (f : Fld) (i j : Nat) : (h.mark f i j).ras = h.ras := rfl
@[simp] theorem Hub.mark_pwr (h : Hub) (f : Fld) (i j : Nat) : (h.mark f i j).pwr = h.pwr := rfl
@[simp] theorem Hub.mark_boot (h : Hub) (f : Fld) (i j : Nat) : (h.mark f i j).boot = h.boot := rfl
@[simp] theorem Hub.mark_msi (h : Hub) (f : Fld) (i j : Nat) : (h.mark f i j).msi = h.msi := rfl
@[simp] theorem Hub.mark_reg (h : Hub) (f : Fld) (i j : Nat) (a : Nat) : (h.mark f i j).reg a = h.reg a := rfl
@[simp] theorem Hub.mark_get (h : Hub) (f : Fld) (i j : Nat) (g : Fld) (k l : Nat) : (h.mark f i j).get g k l = h.get g k l := rfl

@[simp] theorem Hub.tally_regs (h : Hub) (f : Fld) (i j n : Nat) : (h.tally f i j n).regs = h.regs := rfl
@[simp] theorem Hub.tally_time (h : Hub) (f : Fld) (i j n : Nat) : (h.tally f i j n).time = h.time := rfl
@[simp] theorem Hub.tally_tport (h : Hub) (f : Fld) (i j n : Nat) : (h.tally f i j n).tport = h.tport := rfl
@[simp] theorem Hub.tally_evs (h : Hub) (f : Fld) (i j n : Nat) : (h.tally f i j n).evs = h.evs := rfl
@[simp] theorem Hub.tally_owners (h : Hub) (f : Fld) (i j n : Nat) : (h.tally f i j n).owners = h.owners := rfl
@[simp] theorem Hub.tally_draws (h : Hub) (f : Fld) (i j n : Nat) : (h.tally f i j n).draws = h.draws := rfl
@[simp] theorem Hub.tally_out (h : Hub) (f : Fld) (i j n : Nat) : (h.tally f i j n).out = h.out := rfl
@[simp] theorem Hub.tally_lanes (h : Hub) (f : Fld) (i j n : Nat) : (h.tally f i j n).lanes = h.lanes := rfl
@[simp] theorem Hub.tally_links (h : Hub) (f : Fld) (i j n : Nat) : (h.tally f i j n).links = h.links := rfl
@[simp] theorem Hub.tally_core (h : Hub) (f : Fld) (i j n : Nat) : (h.tally f i j n).core = h.core := rfl
@[simp] theorem Hub.tally_trf (h : Hub) (f : Fld) (i j n : Nat) : (h.tally f i j n).trf = h.trf := rfl
@[simp] theorem Hub.tally_tuns (h : Hub) (f : Fld) (i j n : Nat) : (h.tally f i j n).tuns = h.tuns := rfl
@[simp] theorem Hub.tally_fab (h : Hub) (f : Fld) (i j n : Nat) : (h.tally f i j n).fab = h.fab := rfl
@[simp] theorem Hub.tally_hif (h : Hub) (f : Fld) (i j n : Nat) : (h.tally f i j n).hif = h.hif := rfl
@[simp] theorem Hub.tally_peri (h : Hub) (f : Fld) (i j n : Nat) : (h.tally f i j n).peri = h.peri := rfl
@[simp] theorem Hub.tally_keys (h : Hub) (f : Fld) (i j n : Nat) : (h.tally f i j n).keys = h.keys := rfl
@[simp] theorem Hub.tally_ras (h : Hub) (f : Fld) (i j n : Nat) : (h.tally f i j n).ras = h.ras := rfl
@[simp] theorem Hub.tally_pwr (h : Hub) (f : Fld) (i j n : Nat) : (h.tally f i j n).pwr = h.pwr := rfl
@[simp] theorem Hub.tally_boot (h : Hub) (f : Fld) (i j n : Nat) : (h.tally f i j n).boot = h.boot := rfl
@[simp] theorem Hub.tally_msi (h : Hub) (f : Fld) (i j n : Nat) : (h.tally f i j n).msi = h.msi := rfl
@[simp] theorem Hub.tally_reg (h : Hub) (f : Fld) (i j n : Nat) (a : Nat) : (h.tally f i j n).reg a = h.reg a := rfl
@[simp] theorem Hub.tally_get (h : Hub) (f : Fld) (i j n : Nat) (g : Fld) (k l : Nat) : (h.tally f i j n).get g k l = h.get g k l := rfl

@[simp] theorem Hub.raise_time (h : Hub) (f : Fld) (v i j : Nat) : (h.raise f v i j).time = h.time := rfl
@[simp] theorem Hub.raise_tport (h : Hub) (f : Fld) (v i j : Nat) : (h.raise f v i j).tport = h.tport := rfl
@[simp] theorem Hub.raise_evs (h : Hub) (f : Fld) (v i j : Nat) : (h.raise f v i j).evs = h.evs := rfl
@[simp] theorem Hub.raise_owners (h : Hub) (f : Fld) (v i j : Nat) : (h.raise f v i j).owners = h.owners := rfl
@[simp] theorem Hub.raise_draws (h : Hub) (f : Fld) (v i j : Nat) : (h.raise f v i j).draws = h.draws := rfl
@[simp] theorem Hub.raise_out (h : Hub) (f : Fld) (v i j : Nat) : (h.raise f v i j).out = h.out := rfl
@[simp] theorem Hub.raise_lanes (h : Hub) (f : Fld) (v i j : Nat) : (h.raise f v i j).lanes = h.lanes := rfl
@[simp] theorem Hub.raise_links (h : Hub) (f : Fld) (v i j : Nat) : (h.raise f v i j).links = h.links := rfl
@[simp] theorem Hub.raise_core (h : Hub) (f : Fld) (v i j : Nat) : (h.raise f v i j).core = h.core := rfl
@[simp] theorem Hub.raise_trf (h : Hub) (f : Fld) (v i j : Nat) : (h.raise f v i j).trf = h.trf := rfl
@[simp] theorem Hub.raise_tuns (h : Hub) (f : Fld) (v i j : Nat) : (h.raise f v i j).tuns = h.tuns := rfl
@[simp] theorem Hub.raise_fab (h : Hub) (f : Fld) (v i j : Nat) : (h.raise f v i j).fab = h.fab := rfl
@[simp] theorem Hub.raise_hif (h : Hub) (f : Fld) (v i j : Nat) : (h.raise f v i j).hif = h.hif := rfl
@[simp] theorem Hub.raise_peri (h : Hub) (f : Fld) (v i j : Nat) : (h.raise f v i j).peri = h.peri := rfl
@[simp] theorem Hub.raise_keys (h : Hub) (f : Fld) (v i j : Nat) : (h.raise f v i j).keys = h.keys := rfl
@[simp] theorem Hub.raise_ras (h : Hub) (f : Fld) (v i j : Nat) : (h.raise f v i j).ras = h.ras := rfl
@[simp] theorem Hub.raise_pwr (h : Hub) (f : Fld) (v i j : Nat) : (h.raise f v i j).pwr = h.pwr := rfl
@[simp] theorem Hub.raise_boot (h : Hub) (f : Fld) (v i j : Nat) : (h.raise f v i j).boot = h.boot := rfl
@[simp] theorem Hub.raise_msi (h : Hub) (f : Fld) (v i j : Nat) : (h.raise f v i j).msi = h.msi := rfl
@[simp] theorem Hub.raise_reg (h : Hub) (f : Fld) (v i j : Nat) (a : Nat) : (h.raise f v i j).reg a = (h.set f v i j).reg a := rfl
@[simp] theorem Hub.raise_get (h : Hub) (f : Fld) (v i j : Nat) (g : Fld) (k l : Nat) : (h.raise f v i j).get g k l = (h.set f v i j).get g k l := rfl

@[simp] theorem Hub.emit_out (h : Hub) (o : Out) : (h.emit o).out = h.out ++ [o] := rfl
@[simp] theorem Hub.emit_reg (h : Hub) (o : Out) (a : Nat) : (h.emit o).reg a = h.reg a := rfl
@[simp] theorem Hub.setOwner_reg (h : Hub) (r o a : Nat) : (h.setOwner r o).reg a = h.reg a := rfl
@[simp] theorem Hub.setStream_reg (h : Hub) (v : Nat) (x : Stream) (a : Nat) : (h.setStream v x).reg a = h.reg a := rfl
@[simp] theorem Hub.setProd_reg (h : Hub) (p : Nat) (x : Producer) (a : Nat) : (h.setProd p x).reg a = h.reg a := rfl
@[simp] theorem Hub.with_time_reg (h : Hub) x (a : Nat) : ({ h with time := x } : Hub).reg a = h.reg a := rfl
@[simp] theorem Hub.with_tport_reg (h : Hub) x (a : Nat) : ({ h with tport := x } : Hub).reg a = h.reg a := rfl
@[simp] theorem Hub.with_evs_reg (h : Hub) x (a : Nat) : ({ h with evs := x } : Hub).reg a = h.reg a := rfl
@[simp] theorem Hub.with_owners_reg (h : Hub) x (a : Nat) : ({ h with owners := x } : Hub).reg a = h.reg a := rfl
@[simp] theorem Hub.with_draws_reg (h : Hub) x (a : Nat) : ({ h with draws := x } : Hub).reg a = h.reg a := rfl
@[simp] theorem Hub.with_out_reg (h : Hub) x (a : Nat) : ({ h with out := x } : Hub).reg a = h.reg a := rfl
@[simp] theorem Hub.with_lanes_reg (h : Hub) x (a : Nat) : ({ h with lanes := x } : Hub).reg a = h.reg a := rfl
@[simp] theorem Hub.with_links_reg (h : Hub) x (a : Nat) : ({ h with links := x } : Hub).reg a = h.reg a := rfl
@[simp] theorem Hub.with_core_reg (h : Hub) x (a : Nat) : ({ h with core := x } : Hub).reg a = h.reg a := rfl
@[simp] theorem Hub.with_trf_reg (h : Hub) x (a : Nat) : ({ h with trf := x } : Hub).reg a = h.reg a := rfl
@[simp] theorem Hub.with_tuns_reg (h : Hub) x (a : Nat) : ({ h with tuns := x } : Hub).reg a = h.reg a := rfl
@[simp] theorem Hub.with_fab_reg (h : Hub) x (a : Nat) : ({ h with fab := x } : Hub).reg a = h.reg a := rfl
@[simp] theorem Hub.with_hif_reg (h : Hub) x (a : Nat) : ({ h with hif := x } : Hub).reg a = h.reg a := rfl
@[simp] theorem Hub.with_peri_reg (h : Hub) x (a : Nat) : ({ h with peri := x } : Hub).reg a = h.reg a := rfl
@[simp] theorem Hub.with_keys_reg (h : Hub) x (a : Nat) : ({ h with keys := x } : Hub).reg a = h.reg a := rfl
@[simp] theorem Hub.with_ras_reg (h : Hub) x (a : Nat) : ({ h with ras := x } : Hub).reg a = h.reg a := rfl
@[simp] theorem Hub.with_pwr_reg (h : Hub) x (a : Nat) : ({ h with pwr := x } : Hub).reg a = h.reg a := rfl
@[simp] theorem Hub.with_boot_reg (h : Hub) x (a : Nat) : ({ h with boot := x } : Hub).reg a = h.reg a := rfl
@[simp] theorem Hub.with_msi_reg (h : Hub) x (a : Nat) : ({ h with msi := x } : Hub).reg a = h.reg a := rfl
@[simp] theorem Hub.with_led_reg (h : Hub) x (a : Nat) : ({ h with led := x } : Hub).reg a = h.reg a := rfl

/-- Setting a register that is in the parts' place changes the registers alone. -/
theorem Hub.setReg_frame (h : Hub) (a : Nat) (v : Word) : { h.setReg a v with regs := h.regs } = h := rfl

/-- An operation whose premise holds is made. -/
@[simp] theorem Hub.when_pos {h : Hub} {c : Prop} [Decidable c] {f : Hub → Hub} (hc : c) : h.when c f = f h := if_pos hc

/-- An operation whose premise fails changes nothing. -/
@[simp] theorem Hub.when_neg {h : Hub} {c : Prop} [Decidable c] {f : Hub → Hub} (hc : ¬ c) : h.when c f = h := if_neg hc

end Sys2Proof.Machine
end

