-- ==== Sys2Proof/Laws/Tab.lean ====
section
/-! SUPPORT. Sparse tables: a read after a write gives what was written, a write leaves every other key alone, and every
write keeps the canonical form. -/

namespace Sys2Proof.Machine

variable {α : Type}

/-- Erasing another key leaves a key's value alone. -/
theorem Tab.get_erase_ne (d : α) (t : Tab α) {i j : Nat} (h : j ≠ i) : Tab.get d (Tab.erase t i) j = Tab.get d t j := by
  induction t with
  | nil => rfl
  | cons p t ih =>
    obtain ⟨k, v⟩ := p
    by_cases e : k = i
    · subst e; simp [Tab.erase, Tab.get, ih, Ne.symm h]
    · simp [Tab.erase, Tab.get, ih, e]

/-- An erased key reads the default. -/
theorem Tab.get_erase_same (d : α) (t : Tab α) (i : Nat) : Tab.get d (Tab.erase t i) i = d := by
  induction t with
  | nil => rfl
  | cons p t ih =>
    obtain ⟨k, v⟩ := p
    by_cases e : k = i
    · simp [Tab.erase, ih, e]
    · simp [Tab.erase, Tab.get, ih, e]

/-- A key put in reads its value. -/
theorem Tab.get_ins_same (d : α) (t : Tab α) (i : Nat) (v : α) (h : ∀ e ∈ t, e.1 ≠ i) : Tab.get d (Tab.ins t i v) i = v := by
  induction t with
  | nil => simp [Tab.ins, Tab.get]
  | cons p t ih =>
    obtain ⟨k, w⟩ := p
    have hk : k ≠ i := h (k, w) (by simp)
    by_cases c : i < k
    · simp [Tab.ins, Tab.get, c]
    · simp [Tab.ins, Tab.get, c, hk, ih (fun e he => h e (by simp [he]))]

/-- Putting a key in leaves the others alone. -/
theorem Tab.get_ins_ne (d : α) (t : Tab α) {i j : Nat} (v : α) (h : j ≠ i) : Tab.get d (Tab.ins t i v) j = Tab.get d t j := by
  induction t with
  | nil => simp [Tab.ins, Tab.get, Ne.symm h]
  | cons p t ih =>
    obtain ⟨k, w⟩ := p
    by_cases c : i < k
    · simp [Tab.ins, Tab.get, c, Ne.symm h]
    · simp [Tab.ins, Tab.get, c, ih]

/-- No entry of an erased key is left. -/
theorem Tab.erase_ne (t : Tab α) (i : Nat) : ∀ e ∈ Tab.erase t i, e.1 ≠ i := by
  induction t with
  | nil => simp [Tab.erase]
  | cons p t ih =>
    obtain ⟨k, v⟩ := p
    by_cases e : k = i
    · simpa [Tab.erase, e] using ih
    · simp only [Tab.erase, e, if_false, List.mem_cons, forall_eq_or_imp]
      exact ⟨e, ih⟩

/-- Keys above a bound stay so under a smaller bound. -/
theorem Tab.above_mono {b c : Nat} (h : b ≤ c) : ∀ {t : Tab α}, Tab.above c t = true → Tab.above b t = true
  | [], _ => rfl
  | (k, v) :: t, a => by
    simp only [Tab.above, Bool.and_eq_true, decide_eq_true_eq] at a ⊢
    exact ⟨lt_of_le_of_lt h a.1, a.2⟩

/-- Erasing keeps a bound. -/
theorem Tab.above_erase (i : Nat) : ∀ {b : Nat} {t : Tab α}, Tab.above b t = true → Tab.above b (Tab.erase t i) = true
  | _, [], _ => rfl
  | b, (k, v) :: t, a => by
    simp only [Tab.above, Bool.and_eq_true, decide_eq_true_eq] at a
    by_cases e : k = i
    · simp only [Tab.erase, e, if_true]
      exact Tab.above_mono (Nat.le_of_lt a.1) (Tab.above_erase i a.2)
    · simp only [Tab.erase, e, if_false, Tab.above, Bool.and_eq_true, decide_eq_true_eq]
      exact ⟨a.1, Tab.above_erase i a.2⟩

/-- Putting in a key above a bound keeps the bound, when the key is not there. -/
theorem Tab.above_ins {i : Nat} {v : α} : ∀ {b : Nat} {t : Tab α}, b < i → (∀ e ∈ t, e.1 ≠ i) → Tab.above b t = true →
    Tab.above b (Tab.ins t i v) = true
  | b, [], h, _, _ => by simp [Tab.ins, Tab.above, h]
  | b, (k, w) :: t, h, hn, a => by
    simp only [Tab.above, Bool.and_eq_true, decide_eq_true_eq] at a
    have hk : k ≠ i := hn (k, w) (by simp)
    by_cases c : i < k
    · simp only [Tab.ins, c, if_true, Tab.above, Bool.and_eq_true, decide_eq_true_eq]
      exact ⟨h, trivial, a.2⟩
    · simp only [Tab.ins, c, if_false, Tab.above, Bool.and_eq_true, decide_eq_true_eq]
      exact ⟨a.1, Tab.above_ins (by omega) (fun e he => hn e (by simp [he])) a.2⟩

variable [DecidableEq α]

/-- A read after a write to the same key gives the value written. -/
@[simp] theorem Tab.get_set_same (d : α) (t : Tab α) (i : Nat) (v : α) : Tab.get d (Tab.set d t i v) i = v := by
  unfold Tab.set
  split
  · rename_i e; rw [Tab.get_erase_same, e]
  · exact Tab.get_ins_same d _ i v (Tab.erase_ne t i)

/-- A write leaves every other key alone, whatever default it reads with. -/
theorem Tab.get_set_ne (d e : α) (t : Tab α) {i j : Nat} (v : α) (h : j ≠ i) :
    Tab.get e (Tab.set d t i v) j = Tab.get e t j := by
  unfold Tab.set
  split
  · exact Tab.get_erase_ne e t h
  · rw [Tab.get_ins_ne e _ v h, Tab.get_erase_ne e t h]

/-- Erasing keeps the canonical form. -/
theorem Tab.wf_erase (d : Nat → α) (i : Nat) : ∀ {t : Tab α}, Tab.wf d t = true → Tab.wf d (Tab.erase t i) = true
  | [], _ => rfl
  | (k, v) :: t, a => by
    simp only [Tab.wf, Bool.and_eq_true, decide_eq_true_eq] at a
    by_cases e : k = i
    · simp only [Tab.erase, e, if_true]; exact Tab.wf_erase d i a.2
    · simp only [Tab.erase, e, if_false, Tab.wf, Bool.and_eq_true, decide_eq_true_eq]
      exact ⟨⟨Tab.above_erase i a.1.1, a.1.2⟩, Tab.wf_erase d i a.2⟩

/-- Putting in a key that is not there, with a value that is not its default, keeps the canonical form. -/
theorem Tab.wf_ins (d : Nat → α) {i : Nat} {v : α} (hv : v ≠ d i) : ∀ {t : Tab α}, (∀ e ∈ t, e.1 ≠ i) → Tab.wf d t = true →
    Tab.wf d (Tab.ins t i v) = true
  | [], _, _ => by simp [Tab.ins, Tab.wf, Tab.above, hv]
  | (k, w) :: t, hn, a => by
    simp only [Tab.wf, Bool.and_eq_true, decide_eq_true_eq] at a
    have hk : k ≠ i := hn (k, w) (by simp)
    have hn' : ∀ e ∈ t, e.1 ≠ i := fun e he => hn e (by simp [he])
    by_cases c : i < k
    · simp only [Tab.ins, c, if_true, Tab.wf, Tab.above, Bool.and_eq_true, decide_eq_true_eq]
      exact ⟨⟨⟨trivial, a.1.1⟩, hv⟩, ⟨a.1.1, a.1.2⟩, a.2⟩
    · simp only [Tab.ins, c, if_false, Tab.wf, Bool.and_eq_true, decide_eq_true_eq]
      exact ⟨⟨Tab.above_ins (by omega) hn' a.1.1, a.1.2⟩, Tab.wf_ins d hv hn' a.2⟩

/-- Every write keeps the canonical form. -/
theorem Tab.wf_set (d : Nat → α) {t : Tab α} (i : Nat) (v : α) (h : Tab.wf d t = true) :
    Tab.wf d (Tab.set (d i) t i v) = true := by
  unfold Tab.set
  split
  · exact Tab.wf_erase d i h
  · rename_i e; exact Tab.wf_ins d e (Tab.erase_ne t i) (Tab.wf_erase d i h)

/-- A key that is not there is erased without effect. -/
theorem Tab.erase_eq {α : Type} {t : Tab α} {i : Nat} (h : ∀ e ∈ t, e.1 ≠ i) : Tab.erase t i = t := by
  induction t with
  | nil => rfl
  | cons p t ih =>
    obtain ⟨k, v⟩ := p
    simp [Tab.erase, h (k, v) (by simp), ih (fun e he => h e (by simp [he]))]

/-- Erasing a key just put in gives back the table. -/
theorem Tab.erase_ins {α : Type} {t : Tab α} {i : Nat} (v : α) (h : ∀ e ∈ t, e.1 ≠ i) : Tab.erase (Tab.ins t i v) i = t := by
  induction t with
  | nil => simp [Tab.ins, Tab.erase]
  | cons p t ih =>
    obtain ⟨k, w⟩ := p
    have hk : k ≠ i := h (k, w) (by simp)
    have ht : ∀ e ∈ t, e.1 ≠ i := fun e he => h e (by simp [he])
    by_cases c : i < k
    · simp [Tab.ins, Tab.erase, c, hk, Tab.erase_eq ht]
    · simp [Tab.ins, Tab.erase, c, hk, ih ht]

/-- Of two writes to one key the later stands. -/
@[simp] theorem Tab.set_set (d : α) (t : Tab α) (i : Nat) (v w : α) : Tab.set d (Tab.set d t i v) i w = Tab.set d t i w := by
  have e : Tab.erase (Tab.set d t i v) i = Tab.erase t i := by
    unfold Tab.set
    split
    · exact Tab.erase_eq (Tab.erase_ne t i)
    · exact Tab.erase_ins v (Tab.erase_ne t i)
  simp only [Tab.set, e] at *
/-- Changing an entry reads as the change at its key. -/
@[simp] theorem Tab.get_modify_same (d : α) (t : Tab α) (i : Nat) (f : α → α) :
    Tab.get d (Tab.modify d t i f) i = f (Tab.get d t i) := Tab.get_set_same d t i _

/-- Changing an entry leaves the other keys alone. -/
theorem Tab.get_modify_ne (d : α) (t : Tab α) {i j : Nat} (f : α → α) (h : j ≠ i) :
    Tab.get d (Tab.modify d t i f) j = Tab.get d t j := Tab.get_set_ne d d t _ h

end Sys2Proof.Machine
end

