-- ==== Sys2Proof/Laws/Word.lean ====
section
/-! SUPPORT. Bit fields of a register word: what a field reads after it was written, and after a disjoint field was. -/

namespace Sys2Proof

/-- A field is less than two to the power of its width. -/
theorem Word.bits_lt (v : Word) (lo w : Nat) : v.bits lo w < 2 ^ w := Nat.mod_lt _ (Nat.two_pow_pos w)

/-- The number a word with one field replaced stands for. -/
theorem Word.setBits_toNat (v : Word) (lo w x : Nat) (h : lo + w ≤ 32) :
    (v.setBits lo w x).toNat =
      v.toNat / 2 ^ (lo + w) * 2 ^ (lo + w) + x % 2 ^ w * 2 ^ lo + v.toNat % 2 ^ lo := by
  have hx : x % 2 ^ w < 2 ^ w := Nat.mod_lt _ (Nat.two_pow_pos w)
  have hl : v.toNat % 2 ^ lo < 2 ^ lo := Nat.mod_lt _ (Nat.two_pow_pos lo)
  have hv : v.toNat < 2 ^ 32 := v.isLt
  have hp : 2 ^ (lo + w) = 2 ^ lo * 2 ^ w := pow_add 2 lo w
  have hq : 2 ^ 32 = 2 ^ (lo + w) * 2 ^ (32 - (lo + w)) := by rw [← pow_add]; congr 1; omega
  have hd : v.toNat / 2 ^ (lo + w) < 2 ^ (32 - (lo + w)) := by
    rw [Nat.div_lt_iff_lt_mul (Nat.two_pow_pos _), mul_comm]; omega
  have hin : x % 2 ^ w * 2 ^ lo + v.toNat % 2 ^ lo < 2 ^ (lo + w) := by
    rw [hp]
    have : (x % 2 ^ w + 1) * 2 ^ lo ≤ 2 ^ w * 2 ^ lo := Nat.mul_le_mul_right _ hx
    nlinarith
  have htot : v.toNat / 2 ^ (lo + w) * 2 ^ (lo + w) + x % 2 ^ w * 2 ^ lo + v.toNat % 2 ^ lo < 2 ^ 32 := by
    have : (v.toNat / 2 ^ (lo + w) + 1) * 2 ^ (lo + w) ≤ 2 ^ (32 - (lo + w)) * 2 ^ (lo + w) :=
      Nat.mul_le_mul_right _ hd
    rw [hq]; nlinarith
  simp only [Word.setBits, BitVec.toNat_ofNat]
  rw [Nat.mul_comm (2 ^ (lo + w)), Nat.mul_comm (2 ^ lo)]
  exact Nat.mod_eq_of_lt htot

/-- A field reads what was written to it, cut to its width. -/
theorem Word.bits_setBits_same (v : Word) (lo w x : Nat) (h : lo + w ≤ 32) : (v.setBits lo w x).bits lo w = x % 2 ^ w := by
  have hl : v.toNat % 2 ^ lo < 2 ^ lo := Nat.mod_lt _ (Nat.two_pow_pos lo)
  rw [Word.bits, Word.setBits_toNat v lo w x h, pow_add]
  have e : v.toNat / (2 ^ lo * 2 ^ w) * (2 ^ lo * 2 ^ w) + x % 2 ^ w * 2 ^ lo + v.toNat % 2 ^ lo =
      v.toNat % 2 ^ lo + 2 ^ lo * (v.toNat / (2 ^ lo * 2 ^ w) * 2 ^ w + x % 2 ^ w) := by ring
  rw [e, Nat.add_mul_div_left _ _ (Nat.two_pow_pos lo), Nat.div_eq_of_lt hl, zero_add,
    Nat.mul_add_mod_self_right, Nat.mod_mod]

/-- A field above the one written keeps its value. -/
theorem Word.bits_setBits_above (v : Word) (lo w x l n : Nat) (h : lo + w ≤ 32) (hl : lo + w ≤ l) :
    (v.setBits lo w x).bits l n = v.bits l n := by
  have hx : x % 2 ^ w < 2 ^ w := Nat.mod_lt _ (Nat.two_pow_pos w)
  have hm : v.toNat % 2 ^ lo < 2 ^ lo := Nat.mod_lt _ (Nat.two_pow_pos lo)
  have hin : x % 2 ^ w * 2 ^ lo + v.toNat % 2 ^ lo < 2 ^ (lo + w) := by
    rw [pow_add]
    have : (x % 2 ^ w + 1) * 2 ^ lo ≤ 2 ^ w * 2 ^ lo := Nat.mul_le_mul_right _ hx
    nlinarith
  have hs : 2 ^ l = 2 ^ (lo + w) * 2 ^ (l - (lo + w)) := by rw [← pow_add]; congr 1; omega
  rw [Word.bits, Word.bits, Word.setBits_toNat v lo w x h, hs, ← Nat.div_div_eq_div_mul, ← Nat.div_div_eq_div_mul,
    add_assoc, mul_comm (v.toNat / 2 ^ (lo + w)), Nat.mul_add_div (Nat.two_pow_pos _), Nat.div_eq_of_lt hin, add_zero]

/-- A field below the one written keeps its value. -/
theorem Word.bits_setBits_below (v : Word) (lo w x l n : Nat) (h : lo + w ≤ 32) (hl : l + n ≤ lo) :
    (v.setBits lo w x).bits l n = v.bits l n := by
  have hs : 2 ^ lo = 2 ^ (l + n) * 2 ^ (lo - (l + n)) := by rw [← pow_add]; congr 1; omega
  have key : ∀ a b : Nat, a % 2 ^ (l + n) = b % 2 ^ (l + n) → a / 2 ^ l % 2 ^ n = b / 2 ^ l % 2 ^ n := by
    intro a b e
    rw [pow_add] at e
    rw [← Nat.mod_mul_right_div_self, ← Nat.mod_mul_right_div_self, e]
  apply key
  rw [Word.setBits_toNat v lo w x h, pow_add, hs]
  have e : v.toNat / (2 ^ (l + n) * 2 ^ (lo - (l + n)) * 2 ^ w) * (2 ^ (l + n) * 2 ^ (lo - (l + n)) * 2 ^ w) +
      x % 2 ^ w * (2 ^ (l + n) * 2 ^ (lo - (l + n))) + v.toNat % (2 ^ (l + n) * 2 ^ (lo - (l + n))) =
      v.toNat % (2 ^ (l + n) * 2 ^ (lo - (l + n))) + 2 ^ (l + n) * (2 ^ (lo - (l + n)) *
        (v.toNat / (2 ^ (l + n) * 2 ^ (lo - (l + n)) * 2 ^ w) * 2 ^ w + x % 2 ^ w)) := by ring
  rw [e, Nat.add_mul_mod_self_left, Nat.mod_mul_right_mod]

end Sys2Proof
end

