-- ==== Sys2Proof/Laws/Reg.lean ====
section
/-! SUPPORT. The register file: a register reads what was written to it, a write leaves the others alone, and the file
keeps its canonical form. -/

namespace Sys2Proof.Machine

@[simp] theorem Hub.reg_setReg_same (h : Hub) (a : Nat) (v : Word) : (h.setReg a v).reg a = v := Tab.get_set_same _ _ _ _

theorem Hub.reg_setReg_ne (h : Hub) {a b : Nat} (v : Word) (hb : b ≠ a) : (h.setReg a v).reg b = h.reg b :=
  Tab.get_set_ne _ _ _ _ hb

theorem Hub.reg_setReg (h : Hub) (a b : Nat) (v : Word) : (h.setReg a v).reg b = if b = a then v else h.reg b := by
  split
  · rename_i e; subst e; simp
  · rename_i e; exact h.reg_setReg_ne v e

/-- A register other than the one a field stands in keeps its word. -/
theorem Hub.reg_set_ne (h : Hub) {f : Fld} {v i j a : Nat} (hb : a ≠ f.addr i j) : (h.set f v i j).reg a = h.reg a :=
  h.reg_setReg_ne _ hb

/-- A field reads what was written to it. -/
theorem Hub.get_set_same (h : Hub) (f : Fld) (v i j : Nat) (hf : f.lo + f.w ≤ 32) : (h.set f v i j).get f i j = v % 2 ^ f.w := by
  simp [Hub.set, Hub.get, Word.bits_setBits_same _ _ _ _ hf]

/-- A field of another register keeps its value. -/
theorem Hub.get_set_ne (h : Hub) {f g : Fld} {v i j k l : Nat} (hb : g.addr k l ≠ f.addr i j) :
    (h.set f v i j).get g k l = h.get g k l := by
  simp [Hub.get, h.reg_set_ne hb]

/-- A disjoint field of the same register keeps its value. -/
theorem Hub.get_set_disj (h : Hub) {f g : Fld} {v i j k l : Nat} (hf : f.lo + f.w ≤ 32)
    (hd : f.lo + f.w ≤ g.lo ∨ g.lo + g.w ≤ f.lo) : (h.set f v i j).get g k l = h.get g k l := by
  by_cases e : g.addr k l = f.addr i j
  · rw [Hub.get, Hub.get, e, Hub.set, Hub.reg_setReg_same]
    rcases hd with hd | hd
    · exact Word.bits_setBits_above _ _ _ _ _ _ hf hd
    · exact Word.bits_setBits_below _ _ _ _ _ _ hf hd
  · exact h.get_set_ne e

/-- Elements of one index in two arrays of the same strides stand at different addresses. -/
theorem Fld.addr_ne {f g : Fld} (i j : Nat) (h1 : f.s1 = g.s1) (h2 : f.s2 = g.s2) (hb : f.base ≠ g.base) :
    f.addr i j ≠ g.addr i j := by simp only [Fld.addr, h1, h2]; omega

/-- A field of another register of the same element keeps its value. -/
theorem Hub.get_set_elem (h : Hub) {f g : Fld} {v i j : Nat} (h1 : g.s1 = f.s1) (h2 : g.s2 = f.s2) (hb : g.base ≠ f.base) :
    (h.set f v i j).get g i j = h.get g i j := h.get_set_ne (Fld.addr_ne i j h1 h2 hb)

/-- A field of a register below another's array keeps its value. -/
theorem Hub.get_set_low (h : Hub) {f g : Fld} {v i j k l : Nat} (hb : g.base + k * g.s1 + l * g.s2 < f.base) :
    (h.set f v i j).get g k l = h.get g k l := h.get_set_ne (by simp only [Fld.addr]; omega)

/-- A field of a register above the written one keeps its value. -/
theorem Hub.get_set_high (h : Hub) {f g : Fld} {v i j k l : Nat} (hb : f.base + i * f.s1 + j * f.s2 < g.base) :
    (h.set f v i j).get g k l = h.get g k l := h.get_set_ne (by simp only [Fld.addr]; omega)

/-- The register file keeps its canonical form. -/
theorem Hub.setReg_wf {h : Hub} (a : Nat) (v : Word) (w : Tab.wf resetWord h.regs = true) :
    Tab.wf resetWord (h.setReg a v).regs = true := Tab.wf_set resetWord a v w

theorem Hub.set_wf {h : Hub} (f : Fld) (v i j : Nat) (w : Tab.wf resetWord h.regs = true) :
    Tab.wf resetWord (h.set f v i j).regs = true := Hub.setReg_wf _ _ w

/-- A field is less than two to the power of its width. -/
theorem Hub.get_lt (h : Hub) (f : Fld) (i j : Nat) : h.get f i j < 2 ^ f.w := Word.bits_lt _ _ _

end Sys2Proof.Machine
end

