-- ==== Sys2Proof/Safety.lean ====
section
/-! DEFINITION. The terms claims are stated in: when a hub takes commands, what a command does to it, what of a state no step may
break. -/

namespace Sys2Proof.Machine

/-- The hub is powered beyond AON, so that commands other than resets and wakes act on it (R431, R490). -/
abbrev Hub.awake (h : Hub) : Prop := h.pwr.asleep = false

/-- The hub is powered and no fatal error has stopped its engines (R459). -/
abbrev Hub.live (h : Hub) : Prop := h.pwr.asleep = false ∧ h.fatal? = false

/-- Command `c` completes on a hub `h`, whatever OTP holds and whatever waits: `exec` answers the next state in which the hub is
`g`, closed as every command is (`Hub.finish`: frames and notes that the command made ready are handed on), and OTP and the queue
are as they were. -/
def Does (c : Instr) (h g : Hub) : Prop :=
  ∀ (st : Hub) (o : Otp) (q : List Instr),
    exec c { hub := h, start := st, otp := o, pending := q } = .next { hub := g.finish, start := st, otp := o, pending := q }

/-- Command `c` completes on a hub `h` and an OTP `o`. -/
def DoesOtp (c : Instr) (h : Hub) (o : Otp) (g : Hub) : Prop :=
  ∀ (st : Hub) (q : List Instr),
    exec c { hub := h, start := st, otp := o, pending := q } = .next { hub := g.finish, start := st, otp := o, pending := q }

/-- Reading command `c` completes on a hub `h` that stood as `st` at the start of the tick: the hub is then `r.2`, closed, and later
reads of the tick see `r.1`. -/
def DoesRead (c : Instr) (st h : Hub) (o : Otp) (r : Hub × Hub) : Prop :=
  ∀ q : List Instr,
    exec c { hub := h, start := st, otp := o, pending := q } = .next { hub := r.2.finish, start := r.1, otp := o, pending := q }

/-- Every register outside the listed addresses holds the same word. -/
def Hub.sameRegs (A : List Nat) (h g : Hub) : Prop := ∀ a, a ∉ A → g.reg a = h.reg a

/-- The register file and the owner table are in canonical form: equal contents are equal data. -/
def Hub.canon (h : Hub) : Bool := Tab.wf resetWord h.regs && Tab.wf ownerReset h.owners

/-- Every bit blown in `o` is blown in `p`. -/
def otpKept (o p : Otp) : Prop := ∀ item i, bitOf (Tab.get 0 o.bits item) i = true → bitOf (Tab.get 0 p.bits item) i = true

end Sys2Proof.Machine
end

