-- ==== Sys2Proof/Laws/Run.lean ====
section
/-! SUPPORT. How a meaning runs: what the wrappers answer on a hub that takes commands, and on one that does not. -/

namespace Sys2Proof.Machine

theorem run_awake {h : Hub} (ha : h.awake) (f : Hub → Hub) (g : Hub) (o : Otp) (q : List Instr) :
    run f { hub := h, start := g, otp := o, pending := q } = .next { hub := (f h).finish, start := g, otp := o, pending := q } := by
  simp [run, act, show h.pwr.asleep = false from ha]

theorem runO_awake {h : Hub} (ha : h.awake) (f : Tab Nat → Hub → Hub) (g : Hub) (o : Otp) (q : List Instr) :
    runO f { hub := h, start := g, otp := o, pending := q } = .next { hub := (f o.bits h).finish, start := g, otp := o, pending := q } := by
  simp [runO, act, show h.pwr.asleep = false from ha]

/-- A software write whose tick saw no chip reset. -/
theorem runW_awake {h : Hub} (ha : h.awake) (hw : h.led.wiped = false) (f : Tab Nat → Hub → Hub) (g : Hub) (o : Otp) (q : List Instr) :
    runW f { hub := h, start := g, otp := o, pending := q } = .next { hub := (f o.bits h).finish, start := g, otp := o, pending := q } := by
  simp [runW, act, show h.pwr.asleep = false from ha, hw]

/-- A software write in the tick of a chip reset is discarded (R55). -/
theorem runW_wiped {s : State} (h : s.hub.led.wiped = true) (f : Tab Nat → Hub → Hub) : runW f s = .next s := by simp [runW, act, h]

theorem runS_awake {h : Hub} (ha : h.awake) (f : Tab Nat → Hub → Hub → Hub × Hub) (g : Hub) (o : Otp) (q : List Instr) :
    runS f { hub := h, start := g, otp := o, pending := q } =
      .next { hub := (f o.bits g h).2.finish, start := (f o.bits g h).1, otp := o, pending := q } := by
  simp [runS, show h.pwr.asleep = false from ha]

theorem runQ_awake {h : Hub} (ha : h.awake) (f : Hub → Hub) (g : Hub) (o : Otp) (q : List Instr) :
    runQ f { hub := h, start := g, otp := o, pending := q } = .next { hub := f h, start := g, otp := o, pending := q } := by
  simp [runQ, act, show h.pwr.asleep = false from ha]

theorem runLive_live {h : Hub} (ha : h.live) (f : Hub → Hub) (g : Hub) (o : Otp) (q : List Instr) :
    runLive f { hub := h, start := g, otp := o, pending := q } = .next { hub := (f h).finish, start := g, otp := o, pending := q } := by
  simp [runLive, act, ha.1, ha.2]

theorem runAny_next (f : Tab Nat → Hub → Hub) (s : State) : runAny f s = .next { s with hub := f s.otp.bits s.hub } := rfl

/-- On a hub that is not powered the commands that run under `run` change nothing. -/
theorem run_asleep {s : State} (h : s.hub.pwr.asleep = true) (f : Hub → Hub) : run f s = .next s := by simp [run, act, h]

theorem runO_asleep {s : State} (h : s.hub.pwr.asleep = true) (f : Tab Nat → Hub → Hub) : runO f s = .next s := by
  simp [runO, act, h]

theorem runW_asleep {s : State} (h : s.hub.pwr.asleep = true) (f : Tab Nat → Hub → Hub) : runW f s = .next s := by
  simp [runW, act, h]

theorem runS_asleep {s : State} (h : s.hub.pwr.asleep = true) (f : Tab Nat → Hub → Hub → Hub × Hub) : runS f s = .next s := by
  simp [runS, h]

theorem runQ_asleep {s : State} (h : s.hub.pwr.asleep = true) (f : Hub → Hub) : runQ f s = .next s := by simp [runQ, act, h]

theorem runLive_asleep {s : State} (h : s.hub.pwr.asleep = true) (f : Hub → Hub) : runLive f s = .next s := by
  simp [runLive, act, h]

/-- After a fatal error the engines' commands change nothing. -/
theorem runLive_fatal {s : State} (h : s.hub.fatal? = true) (f : Hub → Hub) : runLive f s = .next s := by simp [runLive, act, h]

end Sys2Proof.Machine
end

