-- ==== Sys2Proof/Laws/Exec.lean ====
section
/-! SUPPORT. What each command of the table runs: its meaning, and the condition it runs under. Proofs about a command begin
with its lemma here and one of `run_awake` and its companions, and never unfold the dispatch. -/

namespace Sys2Proof.Machine

theorem exec_registerWrite (p : Path) (x : Place) (be : BitVec 4) (v : Word) (straps : BitVec 8) (s : State) : exec (.registerWrite p x be v straps) s =
    runO (fun otp h => h.write { otp := otp, straps := straps.toNat } p x be v) s := rfl
theorem exec_rcRead (p : Path) (x : Place) (be : BitVec 4) (s : State) : exec (.rcRead p x be) s =
    runS (fun _ st h => st.read h p x be) s := rfl
theorem exec_admitCells (s : State) : exec .admitCells s =
    run (fun h => h.admitCells) s := rfl
theorem exec_sscWrite (freq : Fin 4) (depth : Fin 16) (en : Bool) (s : State) : exec (.sscWrite freq depth en) s =
    runW (fun _ h => h.sscWrite freq depth en) s := rfl
theorem exec_uplinkSignalDetect (n : PortId) (s : State) : exec (.uplinkSignalDetect n) s =
    run (fun h => h.uplinkSignal n) s := rfl
theorem exec_frequencyLock (s : State) : exec (.frequencyLock) s =
    run Hub.frequencyLock s := rfl
theorem exec_facqTimeout (s : State) : exec (.facqTimeout) s =
    run Hub.facqTimeout s := rfl
theorem exec_lockSourceLost (s : State) : exec (.lockSourceLost) s =
    run Hub.lockSourceLost s := rfl
theorem exec_tsyncSend (n : PortId) (frac : Fin 64) (s : State) : exec (.tsyncSend n frac) s =
    run (fun h => h.tsyncSend n frac) s := rfl
theorem exec_dreqSend (n : PortId) (frac : Fin 64) (s : State) : exec (.dreqSend n frac) s =
    run (fun h => h.dreqSend n frac) s := rfl
theorem exec_dreqReceive (n : PortId) (k : Blk) (res : BitVec 24) (s : State) : exec (.dreqReceive n k res) s =
    run (fun h => h.dreqReceive n k res.toNat) s := rfl
theorem exec_drspReceive (n : PortId) (k : Blk) (frac : Fin 64) (s : State) : exec (.drspReceive n k frac) s =
    run (fun h => h.drspReceive n k frac) s := rfl
theorem exec_tepochReceive (n : PortId) (k : Blk) (s : State) : exec (.tepochReceive n k) s =
    run (fun h => h.tepochReceive n k) s := rfl
theorem exec_tsyncReceive (n : PortId) (k : Blk) (frac : Fin 64) (s : State) : exec (.tsyncReceive n k frac) s =
    run (fun h => h.tsyncReceive n k frac) s := rfl
theorem exec_timeNowLoRead (p : Path) (s : State) : exec (.timeNowLoRead p) s =
    runS (fun _ st h => (st, st.timeNowLo h p)) s := rfl
theorem exec_load (s : State) : exec (.load) s =
    runW (fun _ h => h.timeLoad) s := rfl
theorem exec_palign (s : State) : exec (.palign) s =
    runW (fun _ h => h.palign) s := rfl
theorem exec_palignEdge (s : State) : exec (.palignEdge) s =
    run Hub.palignEdge s := rfl
theorem exec_captureEdge (u : Fin 4) (s : State) : exec (.captureEdge u) s =
    run (fun h => h.captureEdge u) s := rfl
theorem exec_compareTargetWrite (u : Fin 4) (hi : Word) (s : State) : exec (.compareTargetWrite u hi) s =
    runW (fun _ h => h.compareTarget u hi) s := rfl
theorem exec_compareMatch (u : Fin 4) (s : State) : exec (.compareMatch u) s =
    run (fun h => h.compareMatch u) s := rfl
theorem exec_comparePulseEnd (u : Fin 4) (s : State) : exec (.comparePulseEnd u) s =
    run (fun h => h.comparePulseEnd u) s := rfl
theorem exec_portLctlEnWrite (n : PortId) (en : Bool) (s : State) : exec (.portLctlEnWrite n en) s =
    runW (fun _ h => h.lctlEn n en) s := rfl
theorem exec_retrain (n : PortId) (s : State) : exec (.retrain n) s =
    runW (fun _ h => h.retrain n) s := rfl
theorem exec_loopbackSelect (n : PortId) (lbk : Fin 4) (s : State) : exec (.loopbackSelect n lbk) s =
    runW (fun _ h => h.loopback n lbk) s := rfl
theorem exec_signalDetect (n : PortId) (m : LaneId) (s : State) : exec (.signalDetect n m) s =
    run (fun h => h.signalDetect n m) s := rfl
theorem exec_ts1Receive (n : PortId) (m : LaneId) (k : Blk) (ask : EqAsk) (s : State) : exec (.ts1Receive n m ⟨k, ask⟩) s =
    run (fun h => h.ts1Receive n m k ask) s := rfl
theorem exec_ts2Receive (n : PortId) (m : LaneId) (k : Blk) (s : State) : exec (.ts2Receive n m k) s =
    run (fun h => h.ts2Receive n m k) s := rfl
theorem exec_trainingTimeout (n : PortId) (bad : BitVec 4) (s : State) : exec (.trainingTimeout n bad) s =
    run (fun h => h.trainingTimeout n bad.toNat) s := rfl
theorem exec_rateRetuneEnd (n : PortId) (s : State) : exec (.rateRetuneEnd n) s =
    run (fun h => h.retuneEnd n) s := rfl
theorem exec_eqPhaseIdleEnd (n : PortId) (s : State) : exec (.eqPhaseIdleEnd n) s =
    run (fun h => h.eqIdleEnd n) s := rfl
theorem exec_verifyComplete (n : PortId) (s : State) : exec (.verifyComplete n) s =
    run (fun h => h.verifyComplete n) s := rfl
theorem exec_faultRetry (n : PortId) (s : State) : exec (.faultRetry n) s =
    run (fun h => h.faultRetry n) s := rfl
theorem exec_blockLockAcquired (n : PortId) (m : LaneId) (s : State) : exec (.blockLockAcquired n m) s =
    run (fun h => h.lockAcquired n m) s := rfl
theorem exec_blockLockLost (n : PortId) (m : LaneId) (bad : Fin 65) (lost : Bool) (s : State) : exec (.blockLockLost n m ⟨bad, lost⟩) s =
    run (fun h => h.lockErrors n m bad.val lost) s := rfl
theorem exec_stripeReceive (n : PortId) (row : List Blk) (s : State) : exec (.stripeReceive n row) s =
    run (fun h => h.stripeReceive n row) s := rfl
theorem exec_idleDelayExpiry (n : PortId) (s : State) : exec (.idleDelayExpiry n) s =
    run (fun h => h.idleDelay n) s := rfl
theorem exec_eiReceive (n : PortId) (row : List Blk) (s : State) : exec (.eiReceive ⟨n, row⟩) s =
    run (fun h => h.eiReceive n row) s := rfl
theorem exec_fastExit (n : PortId) (s : State) : exec (.fastExit n) s =
    run (fun h => h.fastExit n) s := rfl
theorem exec_fastExitLockTimeout (n : PortId) (m : LaneId) (s : State) : exec (.fastExitLockTimeout n m) s =
    run (fun h => h.fastExitTimeout n m) s := rfl
theorem exec_lrecReceive (n : PortId) (m : LaneId) (k : Blk) (s : State) : exec (.lrecReceive n ⟨m, k⟩) s =
    run (fun h => h.lrecReceive n m k) s := rfl
theorem exec_recoveryComplete (n : PortId) (m : LaneId) (s : State) : exec (.recoveryComplete n m) s =
    run (fun h => h.recoveryComplete n m) s := rfl
theorem exec_recoveryTimeout (n : PortId) (m : LaneId) (s : State) : exec (.recoveryTimeout n m) s =
    run (fun h => h.recoveryTimeout n m) s := rfl
theorem exec_lretReceive (n : PortId) (m : LaneId) (k : Blk) (s : State) : exec (.lretReceive n ⟨m, k⟩) s =
    run (fun h => h.lretReceive n m k) s := rfl
theorem exec_retireForce (n : PortId) (mask : BitVec 4) (s : State) : exec (.retireForce n mask) s =
    runW (fun _ h => h.retireForce n mask.toNat) s := rfl
theorem exec_retireClear (n : PortId) (s : State) : exec (.retireClear n) s =
    runW (fun _ h => h.clearRetire n) s := rfl
theorem exec_turnRequest (n : PortId) (req : Fin 8) (s : State) : exec (.turnRequest n req) s =
    runW (fun _ h => h.turnWrite n req) s := rfl
theorem exec_lmgtReqReceive (n : PortId) (m : LaneId) (k : Blk) (s : State) : exec (.lmgtReqReceive n ⟨m, k⟩) s =
    run (fun h => h.lmgtReq n m k) s := rfl
theorem exec_lmgtAckReceive (n : PortId) (m : LaneId) (k : Blk) (s : State) : exec (.lmgtAckReceive n ⟨m, k⟩) s =
    run (fun h => h.lmgtAck n m k) s := rfl
theorem exec_lmgtNakReceive (n : PortId) (m : LaneId) (k : Blk) (s : State) : exec (.lmgtNakReceive n ⟨m, k⟩) s =
    run (fun h => h.lmgtNak n m k) s := rfl
theorem exec_turnAckDeadline (n : PortId) (s : State) : exec (.turnAckDeadline n) s =
    run (fun h => h.turnAckDeadline n) s := rfl
theorem exec_turnOldSenderStart (n : PortId) (s : State) : exec (.turnOldSenderStart n) s =
    run (fun h => h.turnOldStart n) s := rfl
theorem exec_turnOldSenderSwitch (n : PortId) (s : State) : exec (.turnOldSenderSwitch n) s =
    run (fun h => h.turnOldSwitch n) s := rfl
theorem exec_turnLaneRemove (n : PortId) (s : State) : exec (.turnLaneRemove n) s =
    run (fun h => h.turnRemove n) s := rfl
theorem exec_turnPark (n : PortId) (s : State) : exec (.turnPark n) s =
    run (fun h => h.turnPark n) s := rfl
theorem exec_turnBurst (n : PortId) (s : State) : exec (.turnBurst n) s =
    run (fun h => h.turnBurst n) s := rfl
theorem exec_turnStripe (n : PortId) (s : State) : exec (.turnStripe n) s =
    run (fun h => h.turnStripe n) s := rfl
theorem exec_turnLockTimeout (n : PortId) (m : LaneId) (s : State) : exec (.turnLockTimeout n m) s =
    run (fun h => h.turnLockTimeout n m) s := rfl
theorem exec_lmgtDoneReceive (n : PortId) (m : LaneId) (k : Blk) (s : State) : exec (.lmgtDoneReceive n ⟨m, k⟩) s =
    run (fun h => h.lmgtDone n m k) s := rfl
theorem exec_lmgtFailReceive (n : PortId) (m : LaneId) (k : Blk) (s : State) : exec (.lmgtFailReceive n ⟨m, k⟩) s =
    run (fun h => h.lmgtFail n m k) s := rfl
theorem exec_turnTimeout (n : PortId) (s : State) : exec (.turnTimeout n) s =
    run (fun h => h.turnTimeout n) s := rfl
theorem exec_drepReceive (n : PortId) (m : LaneId) (k : Blk) (s : State) : exec (.drepReceive n ⟨m, k⟩) s =
    run (fun h => h.drepReceive n m k) s := rfl
theorem exec_lbkEnterReceive (n : PortId) (m : LaneId) (k : Blk) (s : State) : exec (.lbkEnterReceive n ⟨m, k⟩) s =
    run (fun h => h.lbkEnter n m k) s := rfl
theorem exec_lbkExitReceive (n : PortId) (m : LaneId) (k : Blk) (s : State) : exec (.lbkExitReceive n ⟨m, k⟩) s =
    run (fun h => h.lbkExit n m k) s := rfl
theorem exec_loopbackTimeout (n : PortId) (s : State) : exec (.loopbackTimeout n) s =
    run (fun h => h.loopbackTimeout n) s := rfl
theorem exec_sofReceive (n : PortId) (k : Blk) (s : State) : exec (.sofReceive n k) s =
    run (fun h => h.sofReceive n k) s := rfl
theorem exec_trailerReceive (n : PortId) (k : Blk) (s : State) : exec (.trailerReceive n k) s =
    run (fun h => h.trailerReceive n k) s := rfl
theorem exec_openFrameTimeout (n : PortId) (s : State) : exec (.openFrameTimeout n) s =
    run (fun h => h.openTimeout n) s := rfl
theorem exec_ackReceive (n : PortId) (k : Blk) (s : State) : exec (.ackReceive n k) s =
    run (fun h => h.ackReceive n k) s := rfl
theorem exec_nakReceive (n : PortId) (k : Blk) (s : State) : exec (.nakReceive n k) s =
    run (fun h => h.nakReceive n k) s := rfl
theorem exec_pollReceive (n : PortId) (k : Blk) (s : State) : exec (.pollReceive n k) s =
    run (fun h => h.pollReceive n k) s := rfl
theorem exec_creditField (n : PortId) (k : Blk) (s : State) : exec (.creditField n k) s =
    run (fun h => h.creditBlk n k) s := rfl
theorem exec_replayTimerExpiry (n : PortId) (s : State) : exec (.replayTimerExpiry n) s =
    run (fun h => h.replayTimer n) s := rfl
theorem exec_creditRefresh (n : PortId) (s : State) : exec (.creditRefresh n) s =
    run (fun h => h.creditRefresh n) s := rfl
theorem exec_heartbeatSend (n : PortId) (s : State) : exec (.heartbeatSend n) s =
    run (fun h => h.heartbeatSend n) s := rfl
theorem exec_heartbeatLoss (n : PortId) (s : State) : exec (.heartbeatLoss n) s =
    run (fun h => h.heartbeatLoss n) s := rfl
theorem exec_lparamSend (n : PortId) (s : State) : exec (.lparamSend n) s =
    run (fun h => h.lparamSend n) s := rfl
theorem exec_lparamReceive (n : PortId) (body : List (BitVec 8)) (s : State) : exec (.lparamReceive n body) s =
    run (fun h => h.lparamReceive n body) s := rfl
theorem exec_initTimeout (n : PortId) (s : State) : exec (.initTimeout n) s =
    run (fun h => h.initTimeout n) s := rfl
theorem exec_holdExpiry (n : PortId) (s : State) : exec (.holdExpiry n) s =
    run (fun h => h.holdExpiry n) s := rfl
theorem exec_egressSelect (e : EgressId) (ecc : List (Nat × Bool)) (s : State) : exec (.egressSelect e ecc) s =
    run (fun h => h.egressSelect e ecc) s := rfl
theorem exec_routeStage (p : EgressId) (s : State) : exec (.routeStage p) s =
    run (fun h => h.routeStage p) s := rfl
theorem exec_tunnelOpen (t : TunnelId) (v : Word) (s : State) : exec (.tunnelOpen t v) s =
    runW (fun _ h => h.tunnelOpen t v) s := rfl
theorem exec_tunnelClose (t : TunnelId) (v : Word) (s : State) : exec (.tunnelClose t v) s =
    runW (fun _ h => h.tunnelClose t v) s := rfl
theorem exec_drainEnd (t : TunnelId) (s : State) : exec (.drainEnd t) s =
    run (fun h => h.drainEnd t) s := rfl
theorem exec_drainDeadline (t : TunnelId) (s : State) : exec (.drainDeadline t) s =
    run (fun h => h.drainDeadline t) s := rfl
theorem exec_mgmtReadRequest (s : State) : exec (.mgmtReadRequest) s =
    runS (fun _ st h => st.mgmtRead h) s := rfl
theorem exec_mgmtWriteRequest (straps : BitVec 8) (s : State) : exec (.mgmtWriteRequest straps) s =
    runO (fun otp h => h.mgmtWrite { otp := otp, straps := straps.toNat }) s := rfl
theorem exec_mgmtUnsupported (s : State) : exec (.mgmtUnsupported) s =
    run Hub.mgmtUnsupported s := rfl
theorem exec_mgmtResendTimeout (reqid dhub : BitVec 16) (addr : Word) (op : Fin 1025 ⊕ List (BitVec 32)) (key : Option (Fin 2)) (s : State) : exec (.mgmtResendTimeout reqid dhub addr op key) s =
    run (fun h => h.ownTimeout reqid.toNat dhub.toNat addr.toNat (match op with | .inl n => .inl n.val | .inr ws => .inr (ws.take 1024)) (key.map (·.val))) s := rfl
theorem exec_protectedWindowEnd (s : State) : exec (.protectedWindowEnd) s =
    run Hub.protWindow s := rfl
theorem exec_phbReceive (s : State) : exec (.phbReceive) s =
    run Hub.phbReceive s := rfl
theorem exec_packReceive (s : State) : exec (.packReceive) s =
    run Hub.packReceive s := rfl
theorem exec_protectedPacketArrive (s : State) : exec (.protectedPacketArrive) s =
    run Hub.packetArrive s := rfl
theorem exec_gapTimerExpiry (t : TunnelId) (s : State) : exec (.gapTimerExpiry t) s =
    run (fun h => h.gapExpiry t) s := rfl
theorem exec_helloReceive (s : State) : exec (.helloReceive) s =
    run Hub.helloReceive s := rfl
theorem exec_dlgRepeat (n : PortId) (s : State) : exec (.dlgRepeat n) s =
    run (fun h => h.dlgRepeat n) s := rfl
theorem exec_dlgReceive (s : State) : exec (.dlgReceive) s =
    run Hub.dlgReceive s := rfl
theorem exec_dlgackReceive (s : State) : exec (.dlgackReceive) s =
    run Hub.dlgackReceive s := rfl
theorem exec_staggerGroupStart (s : State) : exec (.staggerGroupStart) s =
    run Hub.groupStart s := rfl
theorem exec_porttmoExpiry (n : PortId) (s : State) : exec (.porttmoExpiry n) s =
    run (fun h => h.portTmo n) s := rfl
theorem exec_readyReceive (s : State) : exec (.readyReceive) s =
    run Hub.readyReceive s := rfl
theorem exec_sitereadyReceive (s : State) : exec (.sitereadyReceive) s =
    run Hub.siteReadyReceive s := rfl
theorem exec_kennelScrub (ecc : List (Nat × Bool)) (s : State) : exec (.kennelScrub ecc) s =
    run (fun h => h.kennelScrub ecc) s := rfl
theorem exec_rowRepair (mem : Fin 13) (arr : Fin 64) (row : BitVec 16) (s : State) : exec (.rowRepair mem arr row) s =
    run (fun h => h.rowRepair mem arr row.toNat) s := rfl
theorem exec_memoryScrub (mem : Fin 13) (row : BitVec 16) (err : Fin 3) (a b : BitVec 32) (s : State) : exec (.memoryScrub mem row err a b) s =
    run (fun h => h.memoryScrub mem row.toNat err a.toNat b.toNat) s := rfl
theorem exec_stageStall (stage : BitVec 16) (s : State) : exec (.stageStall stage) s =
    run (fun h => h.fatal 5 stage.toNat) s := rfl
theorem exec_lifetimeExpiry (s : State) : exec (.lifetimeExpiry) s =
    run Hub.lifetimeExpiry s := rfl
theorem exec_sweeperVisit (s : State) : exec (.sweeperVisit) s =
    run Hub.sweep s := rfl
theorem exec_flowCacheFlush (s : State) : exec (.flowCacheFlush) s =
    runW (fun _ h => h.flowFlush) s := rfl
theorem exec_minWrite (p : Path) (q : Fin 272) (v : Fin 262144) (s : State) : exec (.minWrite p q v) s =
    runW (fun _ h => h.when ((h.pathLimit p).isNone) (fun h => h.minWrite p q v)) s := rfl
theorem exec_quotaWrite (p : Path) (v : Fin 131072) (s : State) : exec (.quotaWrite p v) s =
    runW (fun _ h => h.when ((h.pathLimit p).isNone) (fun h => h.quotaWrite p v)) s := rfl
theorem exec_gateEntryChange (e : EgressId) (s : State) : exec (.gateEntryChange e) s =
    run (fun h => h.gateEntryChange e) s := rfl
theorem exec_gateCommit (e : EgressId) (s : State) : exec (.gateCommit e) s =
    runW (fun _ h => h.gateCommit e) s := rfl
theorem exec_gateAbort (e : EgressId) (s : State) : exec (.gateAbort e) s =
    runW (fun _ h => h.gateAbort e) s := rfl
theorem exec_gateSwitchover (e : EgressId) (s : State) : exec (.gateSwitchover e) s =
    run (fun h => h.gateSwitchover e) s := rfl
theorem exec_gateDisable (e : EgressId) (s : State) : exec (.gateDisable e) s =
    runW (fun _ h => h.gateDisable e) s := rfl
theorem exec_shaperRefill (s : State) : exec (.shaperRefill) s =
    run Hub.refill s := rfl
theorem exec_shaperWrite (q : Bool) (i : Fin 4096) (w : Fin 2) (v : Word) (s : State) : exec (.shaperWrite q i w v) s =
    runW (fun _ h => h.when (q = false ∨ i.val < 272) (fun h => h.shaperWrite q i w v)) s := rfl
theorem exec_meterWrite (m : Fin 4096) (w : Fin 3) (v : Word) (s : State) : exec (.meterWrite m w v) s =
    runW (fun _ h => h.meterWrite m w v) s := rfl
theorem exec_shepherdWindowEnd (n : PortId) (s : State) : exec (.shepherdWindowEnd n) s =
    run (fun h => h.shepWindow n) s := rfl
theorem exec_allotmentWrite (p : Path) (n : PortId) (v : Word) (s : State) : exec (.allotmentWrite p n v) s =
    runW (fun _ h => h.when ((h.pathLimit p).isNone) (fun h => h.allotWrite n v)) s := rfl
theorem exec_raiseStart (s : State) : exec (.raiseStart) s =
    run (fun h => h.raiseStart) s := rfl
theorem exec_budgetWrite (p : Path) (share : Option (Fin 128)) (v : Word) (s : State) : exec (.budgetWrite p share v) s =
    runW (fun _ h => h.when ((h.pathLimit p).isNone) (fun h => h.budgetWrite (share.map (·.val)) v)) s := rfl
theorem exec_doorbell (sl : SliceId) (be : BitVec 4) (v : Word) (s : State) : exec (.doorbell sl be v) s =
    runW (fun _ h => h.dbWrite sl be v) s := rfl
theorem exec_mgmtDoorbell (p : Path) (be : BitVec 4) (v : Word) (s : State) : exec (.mgmtDoorbell p be v) s =
    runW (fun _ h => h.mdbWrite p be v) s := rfl
theorem exec_arm (sl : SliceId) (be : BitVec 4) (v : Word) (s : State) : exec (.arm sl be v) s =
    runW (fun _ h => h.armWrite sl be v) s := rfl
theorem exec_mgmtArm (p : Path) (be : BitVec 4) (v : Word) (s : State) : exec (.mgmtArm p be v) s =
    runW (fun _ h => h.marmWrite p be v) s := rfl
theorem exec_descriptorFetchIssue (r : RingId) (s : State) : exec (.descriptorFetchIssue r) s =
    runLive (fun h => h.fetchIssue r) s := rfl
theorem exec_descriptorArrival (r : RingId) (ws : List Word) (s : State) : exec (.descriptorArrival r ws) s =
    runLive (fun h => h.descArrival r ws) s := rfl
theorem exec_dataFetchIssue (r : RingId) (s : State) : exec (.dataFetchIssue r) s =
    runLive (fun h => h.dataIssue r) s := rfl
theorem exec_dataArrival (r : RingId) (bytes : List (BitVec 8)) (s : State) : exec (.dataArrival r bytes) s =
    runLive (fun h => h.dataArrival r bytes) s := rfl
theorem exec_hostReadFailure (r : RingId) (desc : Bool) (s : State) : exec (.hostReadFailure r desc) s =
    runLive (fun h => h.readFailure r desc) s := rfl
theorem exec_readRetry (r : RingId) (s : State) : exec (.readRetry r) s =
    runLive (fun h => h.readRetry r) s := rfl
theorem exec_moderationTimeout (r : RingId) (s : State) : exec (.moderationTimeout r) s =
    runLive (fun h => h.modTimeout r) s := rfl
theorem exec_ringEnable (p : Path) (v : Word) (s : State) : exec (.ringEnable p v) s =
    runW (fun _ h => h.ringEnable p v) s := rfl
theorem exec_ringReset (p : Path) (v : Word) (s : State) : exec (.ringReset p v) s =
    runW (fun _ h => h.ringDisable p v) s := rfl
theorem exec_ringResetDeadline (r : RingId) (s : State) : exec (.ringResetDeadline r) s =
    runLive (fun h => h.resetDeadline r) s := rfl
theorem exec_ringResetEnd (r : RingId) (s : State) : exec (.ringResetEnd r) s =
    runLive (fun h => h.resetEnd r) s := rfl
theorem exec_perstNAssert (s : State) : exec (.perstNAssert) s =
    run Hub.perstAssert s := rfl
theorem exec_perstNRelease (width : Fin 16) (speed : Fin 8) (s : State) : exec (.perstNRelease width speed) s =
    run (fun h => h.perstRelease width speed) s := rfl
theorem exec_functionLevelReset (s : State) : exec (.functionLevelReset) s =
    run Hub.resetLocal s := rfl
theorem exec_cfgrdySet (s : State) : exec (.cfgrdySet) s =
    runW (fun _ h => h.cfgrdySet) s := rfl
theorem exec_remotePoll (r : RingId) (s : State) : exec (.remotePoll r) s =
    runLive (fun h => h.remotePoll r) s := rfl
theorem exec_blkTransferComplete (r : RingId) (s : State) : exec (.blkTransferComplete r) s =
    runLive (fun h => h.transferDone r) s := rfl
theorem exec_sliceBindWrite (p : Path) (sl : SliceId) (v : Word) (s : State) : exec (.sliceBindWrite p sl v) s =
    runW (fun _ h => h.when ((h.pathLimit p).isNone) (fun h => h.bind sl v)) s := rfl
theorem exec_ownerWrite (p : Path) (arr : Fin 6) (w : Fin 68) (v : Word) (s : State) : exec (.ownerWrite p arr w v) s =
    runW (fun _ h => h.when ((h.pathLimit p).isNone) (fun h => h.ownWrite arr w v)) s := rfl
theorem exec_sliceReset (p : Path) (sl : SliceId) (v : Word) (s : State) : exec (.sliceReset p sl v) s =
    runW (fun _ h => h.sliceReset p sl v) s := rfl
theorem exec_sliceResetDrainDeadline (sl : SliceId) (s : State) : exec (.sliceResetDrainDeadline sl) s =
    run (fun h => h.slcDeadline sl) s := rfl
theorem exec_sliceResetComplete (sl : SliceId) (s : State) : exec (.sliceResetComplete sl) s =
    run (fun h => h.resetComplete sl) s := rfl
theorem exec_windowEnable (p : Path) (w : WindowId) (v : Word) (s : State) : exec (.windowEnable p w v) s =
    runW (fun _ h => h.windowEnable p w v) s := rfl
theorem exec_windowClose (p : Path) (w : WindowId) (v : Word) (s : State) : exec (.windowClose p w v) s =
    runW (fun _ h => h.windowClose p w v) s := rfl
theorem exec_windowCloseEnd (w : WindowId) (s : State) : exec (.windowCloseEnd w) s =
    runLive (fun h => h.windowCloseEnd w) s := rfl
theorem exec_bar4Write (a : Nat) (bytes : List (BitVec 8)) (s : State) : exec (.bar4Write a bytes) s =
    runLive (fun h => h.bar4Write a bytes) s := rfl
theorem exec_bar4Read (id a : Nat) (len : Fin 4097) (s : State) : exec (.bar4Read id a len) s =
    runLive (fun h => h.bar4Read id a len) s := rfl
theorem exec_rdSend (w : WindowId) (s : State) : exec (.rdSend w) s =
    runLive (fun h => h.rdSend w) s := rfl
theorem exec_blockCompletionReceive (s : State) : exec (.blockCompletionReceive) s =
    runLive Hub.blkCompletion s := rfl
theorem exec_syncRead (w : WindowId) (s : State) : exec (.syncRead w) s =
    runLive (fun h => h.syncRead w) s := rfl
theorem exec_inboundRequest (s : State) : exec (.inboundRequest) s =
    runLive Hub.inbound s := rfl
theorem exec_inboundPcieIssue (w : WindowId) (s : State) : exec (.inboundPcieIssue w) s =
    runLive (fun h => h.inIssue w) s := rfl
theorem exec_inboundPcieCompletion (w : WindowId) (st : Fin 3) (bytes : List (BitVec 8)) (s : State) : exec (.inboundPcieCompletion w st bytes) s =
    runLive (fun h => h.inCompletion w st bytes) s := rfl
theorem exec_busyReceive (s : State) : exec (.busyReceive) s =
    runLive Hub.busyReceive s := rfl
theorem exec_backoffExpiry (w : WindowId) (s : State) : exec (.backoffExpiry w) s =
    runLive (fun h => h.backoffExpiry w) s := rfl
theorem exec_episodeQuietEnd (w : WindowId) (s : State) : exec (.episodeQuietEnd w) s =
    runLive (fun h => h.quietEnd w) s := rfl
theorem exec_readTimeout (w : WindowId) (s : State) : exec (.readTimeout w) s =
    runLive (fun h => h.readTimeout w) s := rfl
theorem exec_lateTagFree (s : State) : exec (.lateTagFree) s =
    runLive Hub.lateFree s := rfl
theorem exec_pollSend (w : WindowId) (s : State) : exec (.pollSend w) s =
    runLive (fun h => h.pollSend w) s := rfl
theorem exec_pipeEnable (p : Path) (d : PipeId) (v : Word) (s : State) : exec (.pipeEnable p d v) s =
    runW (fun _ h => h.pipeEnable p d v) s := rfl
theorem exec_pipeDisable (p : Path) (d : PipeId) (v : Word) (s : State) : exec (.pipeDisable p d v) s =
    runW (fun _ h => h.pipeDisable p d v) s := rfl
theorem exec_frameStart (d : PipeId) (s : State) : exec (.frameStart d) s =
    run (fun h => h.frameStart d) s := rfl
theorem exec_lineRelease (d : PipeId) (s : State) : exec (.lineRelease d) s =
    run (fun h => h.lineRelease d) s := rfl
theorem exec_latchTick (d : PipeId) (s : State) : exec (.latchTick d) s =
    run (fun h => h.latchTick d) s := rfl
theorem exec_syncInEdge (s : State) : exec (.syncInEdge) s =
    run Hub.syncEdge s := rfl
theorem exec_synclostDeadline (d : PipeId) (s : State) : exec (.synclostDeadline d) s =
    run (fun h => h.syncLost d) s := rfl
theorem exec_teArrival (d : PipeId) (s : State) : exec (.teArrival d) s =
    run (fun h => h.teArrival d) s := rfl
theorem exec_teTimeout (d : PipeId) (s : State) : exec (.teTimeout d) s =
    run (fun h => h.teTimeout d) s := rfl
theorem exec_backChannelEvent (s : State) : exec (.backChannelEvent) s =
    run Hub.backChannel s := rfl
theorem exec_layerLineFetch (d : PipeId) (l : Fin 4) (s : State) : exec (.layerLineFetch d l) s =
    run (fun h => h.lineFetch d l) s := rfl
theorem exec_layerDataArrival (d : PipeId) (l : Fin 4) (ok : Bool) (bytes : List (BitVec 8)) (s : State) : exec (.layerDataArrival d l ok bytes) s =
    run (fun h => h.layerData d l ok bytes) s := rfl
theorem exec_framePulseEnd (d : PipeId) (s : State) : exec (.framePulseEnd d) s =
    run (fun h => h.pulseEnd d) s := rfl
theorem exec_ltrSend (s : State) : exec (.ltrSend) s =
    run Hub.ltrSend s := rfl
theorem exec_microframeStart (s : State) : exec (.microframeStart) s =
    run Hub.microframe s := rfl
theorem exec_endpointEnable (p : Path) (v : Word) (s : State) : exec (.endpointEnable p v) s =
    runW (fun _ h => h.endpointEnable p v) s := rfl
theorem exec_clrhalt (p : Path) (v : Word) (s : State) : exec (.clrhalt p v) s =
    runW (fun _ h => h.clrHalt p v) s := rfl
theorem exec_transferMessageReceive (s : State) : exec (.transferMessageReceive) s =
    run Hub.transferMsg s := rfl
theorem exec_ackDelayExpiry (t : TunnelId) (s : State) : exec (.ackDelayExpiry t) s =
    run (fun h => h.ackDelay t) s := rfl
theorem exec_resendTimerExpiry (t : TunnelId) (s : State) : exec (.resendTimerExpiry t) s =
    run (fun h => h.resendTimer t) s := rfl
theorem exec_transactionEnd (x : CtxId) (res : Fin 4) (data : List (BitVec 8)) (s : State) : exec (.transactionEnd x res data) s =
    run (fun h => h.xactEnd x res data) s := rfl
theorem exec_penWrite (p : Path) (n : PortId) (v : Word) (s : State) : exec (.penWrite p n v) s =
    runW (fun _ h => h.pctlWrite p n v) s := rfl
theorem exec_attachSeen (n : PortId) (s : State) : exec (.attachSeen n) s =
    run (fun h => h.attachSeen n) s := rfl
theorem exec_detachSeen (n : PortId) (s : State) : exec (.detachSeen n) s =
    run (fun h => h.detachSeen n) s := rfl
theorem exec_busReset (p : Path) (n : PortId) (v : Word) (s : State) : exec (.busReset p n v) s =
    runW (fun _ h => h.when (v.bits 1 1 = 1) (fun h => h.pctlWrite p n v)) s := rfl
theorem exec_rstdurEnd (n : PortId) (speed : Fin 3) (s : State) : exec (.rstdurEnd n speed) s =
    run (fun h => h.rstdurEnd n speed) s := rfl
theorem exec_usbSuspend (p : Path) (n : PortId) (v : Word) (s : State) : exec (.usbSuspend p n v) s =
    runW (fun _ h => h.when (v.bits 2 1 = 1) (fun h => h.pctlWrite p n v)) s := rfl
theorem exec_usbResume (p : Path) (n : PortId) (v : Word) (s : State) : exec (.usbResume p n v) s =
    runW (fun _ h => h.when (v.bits 3 1 = 1) (fun h => h.pctlWrite p n v)) s := rfl
theorem exec_remoteWake (n : PortId) (s : State) : exec (.remoteWake n) s =
    run (fun h => h.remoteWake n) s := rfl
theorem exec_rsmdrvEnd (n : PortId) (s : State) : exec (.rsmdrvEnd n) s =
    run (fun h => h.rsmdrvEnd n) s := rfl
theorem exec_babble (n : PortId) (s : State) : exec (.babble n) s =
    run (fun h => h.babble n) s := rfl
theorem exec_seatingClosed (n : PortId) (pin : Fin 2) (s : State) : exec (.seatingClosed n pin) s =
    run (fun h => h.seatClosed n pin) s := rfl
theorem exec_seatingOpen (n : PortId) (pin : Fin 2) (s : State) : exec (.seatingOpen n pin) s =
    run (fun h => h.seatOpen n pin) s := rfl
theorem exec_insertionDelayEnd (n : PortId) (s : State) : exec (.insertionDelayEnd n) s =
    run (fun h => h.insDelayEnd n) s := rfl
theorem exec_powerPathEnable (p : Path) (n : PortId) (v : Word) (s : State) : exec (.powerPathEnable p n v) s =
    runW (fun _ h => h.ppEnableWrite p n v) s := rfl
theorem exec_rampComplete (n : PortId) (s : State) : exec (.rampComplete n) s =
    run (fun h => h.rampComplete n) s := rfl
theorem exec_rampTimeout (n : PortId) (s : State) : exec (.rampTimeout n) s =
    run (fun h => h.rampTimeout n) s := rfl
theorem exec_hardShortTrip (n : PortId) (s : State) : exec (.hardShortTrip n) s =
    run (fun h => h.when (h.blockOn rowPower n) (fun h => h.trip n 1 0)) s := rfl
theorem exec_currentSample (n : PortId) (raw : BitVec 16) (vos vcv csup : Option (BitVec 16)) (s : State) : exec (.currentSample n raw vos vcv csup) s =
    run (fun h => h.when (h.blockOn rowPower n) (fun h => h.sample n raw.toInt (vos.map (·.toNat)) (vcv.map (·.toNat)) (csup.map (·.toNat)))) s := rfl
theorem exec_busOverVoltage (mv : BitVec 16) (s : State) : exec (.busOverVoltage mv) s =
    run (fun h => h.busOver mv.toNat) s := rfl
theorem exec_busUnderVoltage (mv : BitVec 16) (s : State) : exec (.busUnderVoltage mv) s =
    run (fun h => h.busUnder mv.toNat) s := rfl
theorem exec_busInRange (mv : BitVec 16) (s : State) : exec (.busInRange mv) s =
    run (fun h => h.busInRange mv.toNat) s := rfl
theorem exec_coolDownEnd (n : PortId) (s : State) : exec (.coolDownEnd n) s =
    run (fun h => h.coolEnd n) s := rfl
theorem exec_calibrationStart (p : Path) (n : PortId) (v : Word) (s : State) : exec (.calibrationStart p n v) s =
    runW (fun _ h => h.calWrite p n v) s := rfl
theorem exec_calibrationEnd (n : PortId) (fail : Bool) (s : State) : exec (.calibrationEnd n fail) s =
    run (fun h => h.calEnd n fail) s := rfl
theorem exec_powerWindowEnd (s : State) : exec (.powerWindowEnd) s =
    run (fun h => h.powerWindow) s := rfl
theorem exec_energyRead (p : Path) (n : PortId) (s : State) : exec (.energyRead p n) s =
    runS (fun _ st h => (st, st.energyLo h p n)) s := rfl
theorem exec_attachDetect (n : PortId) (s : State) : exec (.attachDetect n) s =
    run (fun h => h.attach n) s := rfl
theorem exec_attachLoss (n : PortId) (s : State) : exec (.attachLoss n) s =
    run (fun h => h.attachLoss n) s := rfl
theorem exec_messageSendStart (n : PortId) (col : Bool) (s : State) : exec (.messageSendStart n col) s =
    run (fun h => h.ccSend n col) s := rfl
theorem exec_acknowledgementReceive (n : PortId) (hdr : BitVec 16) (s : State) : exec (.acknowledgementReceive n hdr) s =
    run (fun h => h.ccAckRx n hdr.toNat) s := rfl
theorem exec_acknowledgementTimeout (n : PortId) (s : State) : exec (.acknowledgementTimeout n) s =
    run (fun h => h.ccAckTmo n) s := rfl
theorem exec_offerReceive (n : PortId) (hdr : BitVec 16) (objs : List Word) (s : State) : exec (.offerReceive n hdr objs) s =
    run (fun h => h.ccRecv n kOffer hdr objs (fun _ g => g.offerRx n (ccId hdr.toNat) (objs.map (fun o => (ob o.toNat 0 2, ob o.toNat 3 6))))) s := rfl
theorem exec_requestReceive (n : PortId) (hdr : BitVec 16) (objs : List Word) (s : State) : exec (.requestReceive n hdr objs) s =
    run (fun h => h.ccRecv n kRequest hdr objs (fun _ g => g.requestRx n ((objs.getD 0 0#32).toNat))) s := rfl
theorem exec_acceptReceive (n : PortId) (hdr : BitVec 16) (objs : List Word) (s : State) : exec (.acceptReceive n hdr objs) s =
    run (fun h => h.ccRecv n kAccept hdr objs (fun a g => g.acceptRx n a (objs.map (·.toNat)))) s := rfl
theorem exec_rejectReceive (n : PortId) (hdr : BitVec 16) (objs : List Word) (s : State) : exec (.rejectReceive n hdr objs) s =
    run (fun h => h.ccRecv n kReject hdr objs (fun _ g => g.rejectRx n)) s := rfl
theorem exec_ccReadyReceive (n : PortId) (hdr : BitVec 16) (objs : List Word) (s : State) : exec (.ccReadyReceive n hdr objs) s =
    run (fun h => h.ccRecv n kReady hdr objs (fun _ g => g.readyRx n ((objs.getD 0 0#32).toNat))) s := rfl
theorem exec_statusReceive (n : PortId) (hdr : BitVec 16) (objs : List Word) (s : State) : exec (.statusReceive n hdr objs) s =
    run (fun h => h.ccRecv n kStatus hdr objs (fun _ g =>
    let o := objs.map (·.toNat)
    let y := o.getD 1 0
    (g.ccHold n hdr.toNat o).rec2 (g.powerProd n) 7 0x04 n (ob y 8 15 * 256 + ob y 0 7) (o.getD 0 0))) s := rfl
theorem exec_alertReceive (n : PortId) (hdr : BitVec 16) (objs : List Word) (s : State) : exec (.alertReceive n hdr objs) s =
    run (fun h => h.ccRecv n kAlert hdr objs (fun _ g =>
    let o := objs.map (·.toNat)
    (g.ccHold n hdr.toNat o).rec1 (g.powerProd n) 7 0x05 n (ob (o.getD 0 0) 0 3))) s := rfl
theorem exec_cableSupplySwapReceive (n : PortId) (hdr : BitVec 16) (objs : List Word) (s : State) : exec (.cableSupplySwapReceive n hdr objs) s =
    run (fun h => h.ccRecv n kSwap hdr objs (fun _ g => g.swapRx n (wire 16 hdr.toNat 11 11 == 1))) s := rfl
theorem exec_hardresetReceive (n : PortId) (hdr : BitVec 16) (objs : List Word) (s : State) : exec (.hardresetReceive n hdr objs) s =
    run (fun h => h.ccRecv n kHardReset hdr objs (fun _ g => if (g.cc n).hrAt.isSome then g else g.hrAct n g.now true)) s := rfl
theorem exec_offintExpiry (n : PortId) (s : State) : exec (.offintExpiry n) s =
    run (fun h => h.offintEnd n) s := rfl
theorem exec_reqtmoExpiry (n : PortId) (s : State) : exec (.reqtmoExpiry n) s =
    run (fun h => h.when (h.due (h.cc n).reqAt ∧ h.ccState n = csWAITREQ) (fun h => h.hrStart n)) s := rfl
theorem exec_resptmoExpiry (n : PortId) (s : State) : exec (.resptmoExpiry n) s =
    run (fun h => h.when (h.due (h.cc n).respAt ∧ h.ccState n = ckWAITACC) (fun h => h.hrStart n)) s := rfl
theorem exec_readytmoExpiry (n : PortId) (s : State) : exec (.readytmoExpiry n) s =
    run (fun h => h.when (h.due (h.cc n).readyAt ∧ h.ccState n = csTRANS) (fun h => h.hrStart n)) s := rfl
theorem exec_hrrecEnd (n : PortId) (s : State) : exec (.hrrecEnd n) s =
    run (fun h => h.hrrecEnd n) s := rfl
theorem exec_swaptmoExpiry (n : PortId) (s : State) : exec (.swaptmoExpiry n) s =
    run (fun h => h.when ((h.cc n).swap.any (fun w => w.at_.any (fun a => decide (a + 1000000 ≤ h.now)))) (fun h => h.hrStart n)) s := rfl
theorem exec_swapApply (n : PortId) (s : State) : exec (.swapApply n) s =
    run (fun h => h.when ((h.cc n).swap.any (fun w => w.gain && w.at_.any (fun a => decide (a + 20000 ≤ h.now))) ∧ (h.cc n).csLowAt.any (fun t => decide (t + 2000 ≤ h.now))) (fun h => h.setCson n true)) s := rfl
theorem exec_swapReady (n : PortId) (s : State) : exec (.swapReady n) s =
    run (fun h => h.swapReady n) s := rfl
theorem exec_swapCsupTimeout (n : PortId) (s : State) : exec (.swapCsupTimeout n) s =
    run (fun h => h.when ((h.cc n).swap.any (fun w => !w.low && w.at_.any (fun a => decide (a + 200000 ≤ h.now)))) (fun h => h.hrStart n)) s := rfl
theorem exec_ptvWrite (p : Path) (n : PortId) (v : Word) (s : State) : exec (.ptvWrite p n v) s =
    runW (fun _ h => h.when ((h.pathLimit p).isNone) (fun h => h.ccctl n v)) s := rfl
theorem exec_reneg (p : Path) (n : PortId) (v : Word) (s : State) : exec (.reneg p n v) s =
    runW (fun _ h => h.cccmdWrite p n v) s := rfl
theorem exec_cccmdStatus (p : Path) (n : PortId) (v : Word) (s : State) : exec (.cccmdStatus p n v) s =
    runW (fun _ h => h.cccmdWrite p n v) s := rfl
theorem exec_cccmdAlert (p : Path) (n : PortId) (v : Word) (s : State) : exec (.cccmdAlert p n v) s =
    runW (fun _ h => h.cccmdWrite p n v) s := rfl
theorem exec_cccmdSwap (p : Path) (n : PortId) (v : Word) (s : State) : exec (.cccmdSwap p n v) s =
    runW (fun _ h => h.cccmdWrite p n v) s := rfl
theorem exec_cccmdHardreset (p : Path) (n : PortId) (v : Word) (s : State) : exec (.cccmdHardreset p n v) s =
    runW (fun _ h => h.cccmdWrite p n v) s := rfl
theorem exec_roleWrite (p : Path) (n : PortId) (v : Word) (s : State) : exec (.roleWrite p n v) s =
    runW (fun _ h => h.when ((h.pathLimit p).isNone) (fun h => h.ccctl n v)) s := rfl
theorem exec_transitionStep (n : PortId) (s : State) : exec (.transitionStep n) s =
    run (fun h => h.transNext n) s := rfl
theorem exec_transitionEnd (n : PortId) (s : State) : exec (.transitionEnd n) s =
    run (fun h => h.transEnd n) s := rfl
theorem exec_transitionSettleTimeout (n : PortId) (s : State) : exec (.transitionSettleTimeout n) s =
    run (fun h => h.transTmo n) s := rfl
theorem exec_sinkFetOn (n : PortId) (s : State) : exec (.sinkFetOn n) s =
    run (fun h => h.fetOn n) s := rfl
theorem exec_sinkFetOff (n : PortId) (s : State) : exec (.sinkFetOff n) s =
    run (fun h => h.fetOff n) s := rfl
theorem exec_cableSupplyApply (n : PortId) (s : State) : exec (.cableSupplyApply n) s =
    run (fun h => h.csApply n) s := rfl
theorem exec_cableSupplyFault (n : PortId) (s : State) : exec (.cableSupplyFault n) s =
    run (fun h => h.csFaultEnd n) s := rfl
theorem exec_waitInstruction (s : State) : exec (.waitInstruction) s =
    run Hub.waitInstr s := rfl
theorem exec_domainWake (d : DomainId) (s : State) : exec (.domainWake d) s =
    run (fun h => h.domainWake d) s := rfl
theorem exec_voteDlyExpiry (d : DomainId) (s : State) : exec (.voteDlyExpiry d) s =
    run (fun h => h.dlyEnd d) s := rfl
theorem exec_entryStepEnd (d : DomainId) (s : State) : exec (.entryStepEnd d) s =
    runO (fun otp h => h.entryStep otp d) s := rfl
theorem exec_evoteWrite (p : Path) (w : Fin 5) (v : Word) (s : State) : exec (.evoteWrite p w v) s =
    runW (fun _ h => h.evoteWrite p w v) s := rfl
theorem exec_managerVoteHoldEnd (m : Fin 16) (s : State) : exec (.managerVoteHoldEnd m) s =
    run (fun h => h.mgrEnd m) s := rfl
theorem exec_sramRetentionReturn (s : State) : exec (.sramRetentionReturn) s =
    runQ Hub.sramReturn s := rfl
theorem exec_standbyEntry (p : Path) (v : Word) (s : State) : exec (.standbyEntry p v) s =
    runW (fun _ h => h.when ((h.pathLimit p).isNone) (fun h => h.psctl v)) s := rfl
theorem exec_standbyDrainDeadline (s : State) : exec (.standbyDrainDeadline) s =
    runO (fun otp h => h.stbyDeadline otp) s := rfl
theorem exec_standbyWake (cause : Fin 5) (n : PortId) (straps : BitVec 8) (s : State) : exec (.standbyWake cause n straps) s =
    runAny (fun otp h => h.standbyWake otp cause n straps.toNat) s := rfl
theorem exec_vreqWrite (p : Path) (v : Word) (s : State) : exec (.vreqWrite p v) s =
    runW (fun _ h => h.when ((h.pathLimit p).isNone) (fun h => h.vreq v)) s := rfl
theorem exec_pmbcfgEnWrite (p : Path) (v : Word) (s : State) : exec (.pmbcfgEnWrite p v) s =
    runW (fun _ h => h.when ((h.pathLimit p).isNone) (fun h => h.pmbcfg v)) s := rfl
theorem exec_voutCommandDone (ok : Bool) (s : State) : exec (.voutCommandDone ok) s =
    run (fun h => h.voutDone ok) s := rfl
theorem exec_statusWordRead (ok : Bool) (w : BitVec 16) (s : State) : exec (.statusWordRead ok w) s =
    run (fun h => h.statusRead ok w.toNat) s := rfl
theorem exec_settleEnd (s : State) : exec (.settleEnd) s =
    run Hub.settleEnd s := rfl
theorem exec_pgtmoExpiry (s : State) : exec (.pgtmoExpiry) s =
    run Hub.pgtmo s := rfl
theorem exec_flushTimeout (v : StreamId) (s : State) : exec (.flushTimeout v) s =
    runLive (fun h => h.flushTimeout v) s := rfl
theorem exec_streamFlush (p : Path) (v : StreamId) (w : Word) (s : State) : exec (.streamFlush p v w) s =
    runW (fun _ h => h.streamFlush p v w) s := rfl
theorem exec_streamEnable (p : Path) (v : StreamId) (w : Word) (s : State) : exec (.streamEnable p v w) s =
    runW (fun _ h => h.streamEnable p v w) s := rfl
theorem exec_drainWordWritten (v : StreamId) (s : State) : exec (.drainWordWritten v) s =
    runLive (fun h => h.drainWord v) s := rfl
theorem exec_telemetry (s : State) : exec (.telemetry) s =
    run Hub.telemetry s := rfl
theorem exec_producerWrite (p : Path) (pr : Fin 162) (w : Word) (s : State) : exec (.producerWrite p pr w) s =
    runW (fun _ h => h.when ((h.pathLimit p).isNone) (fun h => h.prodWrite pr w)) s := rfl
theorem exec_cairnDeclare (p : Path) (v : Word) (s : State) : exec (.cairnDeclare p v) s =
    runW (fun _ h => h.cairnDeclare p v) s := rfl
theorem exec_cairnDone (p : Path) (v : Word) (secs : List (Nat × List (BitVec 8))) (straps : BitVec 8) (s : State) : exec (.cairnDone p v secs straps) s =
    runW (fun otp h => h.cairnDone otp p v secs straps.toNat) s := rfl
theorem exec_cairnTimeout (straps : BitVec 8) (s : State) : exec (.cairnTimeout straps) s =
    runO (fun otp h => h.cairnTimeout otp straps.toNat) s := rfl
theorem exec_powerOnReset (straps : BitVec 8) (s : State) : exec (.powerOnReset straps) s =
    runAny (fun otp h => h.powerOn otp straps.toNat) s := rfl
theorem exec_pinReset (straps : BitVec 8) (s : State) : exec (.pinReset straps) s =
    runAny (fun otp h => h.pinReset otp straps.toNat) s := rfl
theorem exec_watchdogExpiry (straps : BitVec 8) (s : State) : exec (.watchdogExpiry straps) s =
    runO (fun otp h => h.watchdog otp straps.toNat) s := rfl
theorem exec_watchdogKick (p : Path) (v : Word) (s : State) : exec (.watchdogKick p v) s =
    runW (fun _ h => h.kick p v) s := rfl
theorem exec_chiprst (p : Path) (v : Word) (straps : BitVec 8) (s : State) : exec (.chiprst p v straps) s =
    runW (fun otp h => h.chipRst otp p v straps.toNat) s := rfl
theorem exec_otpLoadComplete (bad : List (Nat × Nat)) (s : State) : exec (.otpLoadComplete bad) s =
    run (fun h => h.otpLoaded bad) s := rfl
theorem exec_railInRange (r : Fin 4) (s : State) : exec (.railInRange r) s =
    run (fun h => h.railGood r) s := rfl
theorem exec_railTimeout (s : State) : exec (.railTimeout) s =
    run Hub.railTimeout s := rfl
theorem exec_railRetry (s : State) : exec (.railRetry) s =
    run Hub.railRetry s := rfl
theorem exec_bootSlotVerify (a b : List (BitVec 8)) (s : State) : exec (.bootSlotVerify a b) s =
    run (fun h => h.bootVerify a b) s := rfl
theorem exec_flashRetry (s : State) : exec (.flashRetry) s =
    run Hub.flashRetry s := rfl
theorem exec_hostLoadData (p : Path) (v : Word) (s : State) : exec (.hostLoadData p v) s =
    runW (fun _ h => h.when ((h.pathLimit p).isNone) (fun h => h.loadData v)) s := rfl
theorem exec_hostLoadGo (p : Path) (v : Word) (s : State) : exec (.hostLoadGo p v) s =
    runW (fun _ h => h.when ((h.pathLimit p).isNone) (fun h => h.loadCtl v)) s := rfl
theorem exec_configImageApply (img : List (BitVec 8)) (straps : BitVec 8) (s : State) : exec (.configImageApply img straps) s =
    runO (fun otp h => h.cfgImage { otp := otp, straps := straps.toNat } img) s := rfl
theorem exec_joinSectionApply (straps : BitVec 8) (s : State) : exec (.joinSectionApply straps) s =
    runO (fun otp h => h.cfgJoin { otp := otp, straps := straps.toNat }) s := rfl
theorem exec_configWaitEnd (straps : BitVec 8) (s : State) : exec (.configWaitEnd straps) s =
    runO (fun otp h => h.cfgWaitEnd { otp := otp, straps := straps.toNat }) s := rfl
theorem exec_configPoll (straps : BitVec 8) (s : State) : exec (.configPoll straps) s =
    runS (fun otp st h => st.cfgPoll h { otp := otp, straps := straps.toNat }) s := rfl
theorem exec_otpProgram (p : Path) (v : Word) (s : State) : exec (.otpProgram p v) s =
    runW (fun otp h => h.otpProgram otp p v) s := rfl
theorem exec_otpRead (p : Path) (v : Word) (s : State) : exec (.otpRead p v) s =
    runW (fun otp h => h.otpRead otp p v) s := rfl
theorem exec_otpProgramEnd (s : State) : exec (.otpProgramEnd) s =
    if s.hub.pwr.asleep then .next s
  else
    match s.hub.boot.prog with
    | none => .next s
    | some (i, x, _) =>
      let new := otpAfter i (Tab.get 0 s.otp.bits i) x
      .next { s with hub := (s.hub.progEnd i new).finish, otp := { bits := Tab.set 0 s.otp.bits i new } } := rfl
theorem exec_glbLockSet (p : Path) (s : State) : exec (.glbLockSet p) s =
    runW (fun _ h => h.when ((h.pathLimit p).isNone) (fun h => h.set F.GLB_LOCK_LOCK 1)) s := rfl
theorem exec_mgmtH2mWrite (p : Path) (v : Word) (s : State) : exec (.mgmtH2mWrite p v) s =
    runW (fun _ h => h.when ((h.pathLimit p).isNone) (fun h => h.h2m p v)) s := rfl
theorem exec_mgmtM2hWrite (p : Path) (v : Word) (s : State) : exec (.mgmtM2hWrite p v) s =
    runW (fun _ h => h.when ((h.pathLimit p).isNone) (fun h => h.m2h p v)) s := rfl
theorem exec_dataBlockReceive (n : PortId) (ctl : Bool) (k : Blk) (s : State) : exec (.dataBlockReceive n ctl k) s =
    run (fun h => h.dataReceive n ctl k) s := rfl
theorem exec_vaonLoss (s : State) : exec (.vaonLoss) s =
    runAny (fun _ h => h.vaonLoss) s := rfl
theorem exec_domainExitEnd (d : DomainId) (s : State) : exec (.domainExitEnd d) s =
    run (fun h => h.exitEnd d) s := rfl
theorem exec_pciePowerStateChange (k : Fin 3) (s : State) : exec (.pciePowerStateChange k) s =
    run (fun h => h.pciePower k) s := rfl
theorem exec_ccBadFrame (n : PortId) (hdr : BitVec 16) (objs : List Word) (crcOk : Bool) (s : State) : exec (.ccBadFrame n hdr objs crcOk) s =
    run (fun h => h.ccBad n hdr.toNat (objs.map (·.toNat)) crcOk) s := rfl

end Sys2Proof.Machine
end

