-- ==== Sys2Proof/Certificates/Slice0/Obligations.lean ====
section
/-! DEFINITION. What is claimed of the machine, one definition per statement. `Does c h g` says that the command `c` completes on a
hub `h` and leaves the hub `g`, closed as every command is (Sys2Proof/Safety.lean). -/

open Sys2Proof Sys2Proof.Machine

/-- A step runs the command at the front of the queue (R53). -/
def Obligations.StepRunsFrontCommand : Prop := ∀ (s : State) (c : Instr) (rest : List Instr),
  step { s with pending := c :: rest } = exec c { s with pending := rest }

/-- With nothing queued a step is one tick of the core clock (the model's choice, log entry 1) (R4, R5, R30, R55, R426, R451,
R531). -/
def Obligations.IdleStep : Prop := ∀ s : State, s.pending = [] →
  step s = .next { s with
    hub := s.hub.passTick
    start := s.hub.passTick } ∧
  (s.hub.pwr.asleep = true → s.hub.passTick = s.hub) ∧
  (s.hub.awake → 
    s.hub.passTick = s.hub.postClaims.tunsTick.rasTick.powerTick.domsTick.thresholds.tick.vcoreTick.linkTick)

/-- Ridge time counts ticks and wraps (R5). -/
def Obligations.RidgeTimeCounts : Prop := ∀ s s' : State, s.pending = [] → s.hub.awake → step s = .next s' →
  s'.hub.time.ridge = s.hub.time.ridge + 1#64 ∧ s'.hub.time.tick = s.hub.time.tick + 1 ∧
  (s.hub.time.ridge = 0xFFFFFFFFFFFFFFFF#64 → s'.hub.time.ridge = 0#64)

/-- Every command answers a next state, keeps the queue, and only OTP_PROGRAM_END changes OTP (R11, R55, R476, R477). -/
def Obligations.EveryCommandAnswers : Prop := ∀ (c : Instr) (s : State),
  ∃ (h st : Hub) (o : Otp), exec c s = .next { hub := h, start := st, otp := o, pending := s.pending } ∧
    (c ≠ .otpProgramEnd → o = s.otp) ∧
    ((∀ p x be, c ≠ .rcRead p x be) → c ≠ .mgmtReadRequest → (∀ straps, c ≠ .configPoll straps) → st = s.start)

/-- What an unpowered hub and a hub after a fatal error leave undone (R419, R431, R433, R459, R490). -/
def Obligations.StoppedHub : Prop :=
  (∀ (c : Instr) (s : State), s.hub.pwr.asleep = true →
  (∀ straps, c ≠ .powerOnReset straps) → (∀ straps, c ≠ .pinReset straps) → (∀ k n straps, c ≠ .standbyWake k n straps) →
  c ≠ .vaonLoss → exec c s = .next s) ∧
  (∀ s : State, s.hub.get F.GLB_FATAL_VALID = 1 → s.hub.pwr.asleep = false →
  (∀ x0, exec (.descriptorFetchIssue x0) s = .next s) ∧
  (∀ x0 x1, exec (.descriptorArrival x0 x1) s = .next s) ∧
  (∀ x0, exec (.dataFetchIssue x0) s = .next s) ∧
  (∀ x0 x1, exec (.dataArrival x0 x1) s = .next s) ∧
  (∀ x0 x1, exec (.hostReadFailure x0 x1) s = .next s) ∧
  (∀ x0, exec (.readRetry x0) s = .next s) ∧
  (∀ x0, exec (.moderationTimeout x0) s = .next s) ∧
  (∀ x0, exec (.ringResetDeadline x0) s = .next s) ∧
  (∀ x0, exec (.ringResetEnd x0) s = .next s) ∧
  (∀ x0, exec (.remotePoll x0) s = .next s) ∧
  (∀ x0, exec (.blkTransferComplete x0) s = .next s) ∧
  (∀ x0, exec (.flushTimeout x0) s = .next s) ∧
  (∀ x0, exec (.drainWordWritten x0) s = .next s) ∧
  (∀ x0, exec (.windowCloseEnd x0) s = .next s) ∧
  (∀ x0 x1, exec (.bar4Write x0 x1) s = .next s) ∧
  (∀ x0 x1 x2, exec (.bar4Read x0 x1 x2) s = .next s) ∧
  (∀ x0, exec (.rdSend x0) s = .next s) ∧
  (∀ x0, exec (.syncRead x0) s = .next s) ∧
  exec .blockCompletionReceive s = .next s ∧
  (∀ x0, exec (.readTimeout x0) s = .next s) ∧
  exec .lateTagFree s = .next s ∧
  exec .busyReceive s = .next s ∧
  (∀ x0, exec (.backoffExpiry x0) s = .next s) ∧
  (∀ x0, exec (.episodeQuietEnd x0) s = .next s) ∧
  (∀ x0, exec (.pollSend x0) s = .next s) ∧
  exec .inboundRequest s = .next s ∧
  (∀ x0, exec (.inboundPcieIssue x0) s = .next s) ∧
  (∀ x0 x1 x2, exec (.inboundPcieCompletion x0 x1 x2) s = .next s))

/-- No step un-blows an OTP bit (R462, R476, R477). -/
def Obligations.OtpBitsStayBlown : Prop := ∀ s s' : State, step s = .next s' → otpKept s.otp s'.otp

/-- The machine right after reset (R26, R464, R466, R480, R482). -/
def Obligations.ResetState : Prop :=  let h := State.reset.hub
  State.reset.pending = [] ∧ State.reset.start = h ∧ h.awake ∧ h.canon = true ∧ h.time.tick = 0 ∧
  (∀ a, a ≠ 0x104 → h.reg a = resetWord a) ∧ h.get F.GLB_RSTCAUSE_POR = 1 ∧ h.get F.GLB_LOCK_LOCK = 0 ∧
  (∀ n : PortId, h.get F.PORT_LSTAT_STATE n = 0 ∧ h.get F.PORT_LKSTAT_STATE n = 0 ∧ h.get F.PORT_PPSTAT_STATE n = 0 ∧
    h.get F.PORT_CCCTL_ROLE n = 0 ∧ h.get F.PORT_LKCTL_HOLD n = 25 ∧ h.get F.PWR_ALLOT_WATTS n = 0 ∧ h.owner (0x20 + n) = 3) ∧
  (∀ d : DomainId, h.get F.PWR_DSTAT_LEVEL d = 0) ∧ h.get F.CORE_STAT_CEIL = 10 ∧ h.get F.CORE_STAT_VLEVEL = 2 ∧
  h.get F.PWR_VREQ_RUNLVL = 2 ∧ h.get F.PWR_STBYCFG_WAKEN = 1 ∧ h.get F.FAB_ID_VALID = 0 ∧ h.get F.TIME_STAT_STATE = 0 ∧
  (∀ t : Fin 4096, t.val ≠ 0 → h.get F.TUN_W0_STATE t = 0 ∧ h.get F.TUN_W0_SLICE t = 0) ∧
  (∀ r : Fin 128, r.val < 16 → h.owner (0x10 + r) = 0)

/-- REGISTER_WRITE and RC_READ, and what a slice may not reach (R7, R9, R10, R11, R55, R248, R252, R288, R480, R481). -/
def Obligations.RegisterAccessCommands : Prop :=
  (∀ (h st : Hub) (o : Otp), h.awake → ∀ (p : Path) (a : BitVec 21) (be : BitVec 4),
  (∀ (v : Word) (straps : BitVec 8), wholeWord p a.toNat be = true →
    DoesOtp (.registerWrite p (.bar0 a) be v straps) h o (h.regWrite { otp := o.bits, straps := straps.toNat } p (a.toNat / 4 * 4) v)) ∧
  (∀ (v : Word) (straps : BitVec 8), wholeWord p a.toNat be = false → DoesOtp (.registerWrite p (.bar0 a) be v straps) h o h) ∧
  ((p = .pcie ∨ wholeWord p a.toNat be = true) → DoesRead (.rcRead p (.bar0 a) be) st h o
    (st.readEffect (h.emit (.readData p (a.toNat / 4 * 4) (st.view p (a.toNat / 4 * 4)))) p (a.toNat / 4 * 4))) ∧
  (∀ (e : Env) (b : Nat) (v : Word), listed b = false → h.regWrite e p b v = h) ∧
  (∀ (e : Env) (b : Nat) (v : Word), h.led.wiped = true → keptReg b = false → h.regWrite e p b v = h) ∧
  (∀ (e : Env) (b : Nat) (v : Word), h.pathSlice p ≠ 0 → h.reach (h.pathSlice p) b = false →
    h.regWrite e p b v = h ∧ h.view p b = 0#32 ∧ h.readEffect st p b = (h, st)) ∧
  (∀ b : Nat, b % 4 = 0 → h.reaches p b = true → b < 0x1000 → isOtpReg b = false → b ≠ 0x44 →
    h.view p b = h.rd b ∧ h.readEffect st p b = (h.rcClear b, st.rcTake b)) ∧
  (∀ (b : BitVec 20) (v : Word) (straps : BitVec 8),
    DoesOtp (.registerWrite .pcie (.bar2 b) 15#4 v straps) h o (h.bar2Write (b.toNat / 4 * 4) v) ∧
    (be ≠ 15#4 → DoesOtp (.registerWrite .pcie (.bar2 b) be v straps) h o h) ∧
    DoesRead (.rcRead .pcie (.bar2 b) be) st h o
      (st, h.emit (.bar2Data (b.toNat / 4 * 4) (st.bar2Word (b.toNat / 4 * 4))))) ∧
  (∀ (s : Fin 128) (v : Word), h.bar2Write (4096 * s) v = h.doorbell (some s) v ∧ h.bar2Write (4096 * s + 4) v = h.arm (some s) v) ∧
  (∀ (b : Nat) (v : Word), b < 0x80000 → h.bar2Word b = 0#32 ∧ (8 ≤ b % 4096 → h.bar2Write b v = h)) ∧
  (∀ (x : Place) (c : BitVec 12) (v : Word) (straps : BitVec 8), (x = .config c ∨ x = .msixControl) → h.get F.HIF_PCTL_CFGRDY = 0 →
    DoesOtp (.registerWrite .pcie x be v straps) h o (h.emit .cfgRetry) ∧ DoesRead (.rcRead .pcie x be) st h o (st, h.emit .cfgRetry)) ∧
  (∀ (x : Place) (c : BitVec 12), (x = .config c ∨ x = .msixControl) → h.get F.HIF_PCTL_CFGRDY = 1 →
    DoesRead (.rcRead .pcie x be) st h o (st, h.emit (.cfgData (st.cfgWord x))))) ∧
  (∀ h : Hub,
  (h.awake →
    (∀ (p : Path) (x : Place) (be : BitVec 4) (v : Word) (straps : BitVec 8) (o : Otp),
      DoesOtp (.registerWrite p x be v straps) h o (h.write { otp := o.bits, straps := straps.toNat } p x be v)) ∧
    (∀ (p : Path) (x : Place) (be : BitVec 4) (st : Hub) (o : Otp), DoesRead (.rcRead p x be) st h o (st.read h p x be))))

/-- Access codes of register fields (R9, R10, R483). -/
def Obligations.FieldAccessRules : Prop :=
  (∀ (locked : Bool) (v old : Word) (f : FieldD), f.lo + f.w ≤ 32 →
  let new := fieldWrite locked v old f
  (f.acc = .rw → FieldD.allows f (v.bits f.lo f.w) = true → new.bits f.lo f.w = v.bits f.lo f.w) ∧
  (f.acc = .rw → FieldD.allows f (v.bits f.lo f.w) = false → new = old) ∧
  (f.acc = .rwl → locked = true → new = old) ∧
  (f.acc = .rwl → locked = false → FieldD.allows f (v.bits f.lo f.w) = true → new.bits f.lo f.w = v.bits f.lo f.w) ∧
  ((f.acc = .ro ∨ f.acc = .wo ∨ f.acc = .rc) → new = old) ∧
  (f.acc = .w1c → ∀ i, i < f.w → bitOf (new.bits f.lo f.w) i = (bitOf (old.bits f.lo f.w) i && !bitOf (v.bits f.lo f.w) i)) ∧
  (f.acc = .w1s → ∀ i, i < f.w → bitOf (new.bits f.lo f.w) i = (bitOf (old.bits f.lo f.w) i || bitOf (v.bits f.lo f.w) i)) ∧
  (∀ lo w : Nat, lo + w ≤ 32 → (lo + w ≤ f.lo ∨ f.lo + f.w ≤ lo) → new.bits lo w = old.bits lo w)) ∧
  (∀ (h : Hub) (a i : Nat), i < 32 →
  (∀ r, findReg a = some r → ∀ f ∈ r.fields, f.acc = .wo ∨ i < f.lo ∨ f.lo + f.w ≤ i) → (h.rd a).getLsbD i = false)

/-- Claims and releases of shared resources (R25, R26, R27, R30). -/
def Obligations.ClaimRules : Prop := ∀ (h : Hub) (r c : Fin 256),
  ((h.owner r = 0 ∨ h.owner r = c) →
    (h.claim r c).1 = true ∧ (h.claim r c).2.owner r = c ∧ (h.claim r c).2.regs = h.regs ∧
    ∀ q : Nat, q ≠ r.val → (h.claim r c).2.owner q = h.owner q) ∧
  (h.owner r ≠ 0 → h.owner r ≠ c → h.owner r < 256 → ¬ (0x20 ≤ r.val ∧ r.val < 0x40 ∧ h.owner r = 3) →
    let g := (h.claim r c).2
    (h.claim r c).1 = false ∧ g.owners = h.owners ∧ g.get F.GLB_CLAIM_VALID = 1 ∧ g.get F.GLB_CLAIM_RESOURCE = r ∧
    g.get F.GLB_CLAIM_CLAIMANT = c ∧ g.get F.GLB_CLAIM_OWNER = h.owner r ∧
    g.get F.GLB_CLAIMCNT_COUNT = min (h.get F.GLB_CLAIMCNT_COUNT + 1) (2 ^ F.GLB_CLAIMCNT_COUNT.w - 1)) ∧
  (∀ k : Nat, (h.owner r = 0 ∨ h.owner r = c) → (h.claimFor k r c).1 = true ∧ (h.claimFor k r c).2 = h.setOwner r c) ∧
  (∀ k : Nat, h.owner r ≠ 0 → h.owner r ≠ c →
    let g := (h.claimFor k r c).2
    (h.claimFor k r c).1 = false ∧ g.owners = h.owners ∧ g.regs = h.regs ∧
    g.led.refused = h.led.refused ++ [⟨k, r, c, h.owner r⟩] ∧
    (∀ x ∈ (g.unrefuse k).led.refused, x.key ≠ k)) ∧
  (∀ (g : Hub) (x : Refused) (l : List Refused), h.led.refused = x :: l → g = { h with led := { h.led with refused := [] } } →
    h.postClaims = l.foldl (fun g x => g.refuseClaim x.res x.claimant x.owner) (g.refuseClaim x.res x.claimant x.owner)) ∧
  (h.owner r = c → (h.release r c).owner r = if 0x20 ≤ r.val ∧ r.val < 0x40 then 3 else 0) ∧
  (h.owner r ≠ c → h.release r c = h)

/-- Writing an event record (R444, R446, R447, R448, R451). -/
def Obligations.RecordRules : Prop := ∀ (h : Hub) (p : Fin 162) (cls code src data : Nat),
  let v := h.get F.EVS_PROD_STREAM p
  let g := h.rec1 p cls code src data
  (h.get F.EVS_PROD_EN p = 0 → g = h) ∧
  (h.get F.EVS_PROD_EN p = 1 → h.evsOpen = true → h.usable p = 0 →
    (g.prod p).lost = (h.prod p).lost + 1 ∧ g.stream v = h.stream v ∧
    g.get F.EVS_CNT_LOST v = min (h.get F.EVS_CNT_LOST v + 1) (2 ^ F.EVS_CNT_LOST.w - 1)) ∧
  (h.get F.EVS_PROD_EN p = 1 → h.evsOpen = true → 1 ≤ h.usable p → h.markNeeded v = false → (h.stream v).fill.slots.length < 1023 →
    (g.stream v).fill.slots = (h.stream v).fill.slots ++ [{ word := recHead h cls code src data
                                                            num := h.get F.EVS_NEXT_NEXT v
                                                            prod := some p.val }] ∧
    g.get F.EVS_NEXT_NEXT v = (h.get F.EVS_NEXT_NEXT v + 1) % 2 ^ 32 ∧
    g.get F.EVS_PROD_CREDIT p = h.get F.EVS_PROD_CREDIT p - 1 ∧
    g.get F.EVS_STAT_PEND v = (h.stream v).pend + 1) ∧
  (∀ a, (a < 0xF000 ∨ 0x10000 ≤ a) → g.reg a = h.reg a) ∧
  (∀ (w : StreamId) (x : Stream) (k : Hub), x = h.stream w → k = h.setStream w { x with seen := x.pend } →
    (0 < h.get F.EVS_THR_THRESH w → x.seen < h.get F.EVS_THR_THRESH w → h.get F.EVS_THR_THRESH w ≤ x.pend →
      (h.get F.EVS_CFG_IRQEN w = 1 → h.threshold w = (k.bump F.EVS_CNT_THRHIT w).vector (h.get F.EVS_CFG_VEC w)) ∧
      (h.get F.EVS_CFG_IRQEN w = 0 → h.threshold w = k.bump F.EVS_CNT_THRHIT w)) ∧
    ((h.get F.EVS_THR_THRESH w = 0 ∨ h.get F.EVS_THR_THRESH w ≤ x.seen ∨ x.pend < h.get F.EVS_THR_THRESH w) → x.seen ≠ x.pend →
      h.threshold w = k) ∧
    (x.seen = x.pend → h.threshold w = h))

/-- Ridge time: spread spectrum, reads, loads, captures and compares (R33, R41, R42, R47, R48, R49). -/
def Obligations.RidgeTimeCommands : Prop :=
  (∀ h : Hub, h.awake →
  (h.led.wiped = false → ∀ (f : Fin 4) (d : Fin 16) (en : Bool), h.get F.GLB_LOCK_LOCK = 0 → d.val ≤ 10 →
    (h.get F.TIME_CTL_SUMMIT = 0 ∨ ∀ n : PortId, h.get F.PORT_LCTL_EN n = 0) →
    Does (.sscWrite f d en) h (((h.set F.TIME_CTL_SSC_FREQ f).set F.TIME_CTL_SSC_EN (b2n en)).set F.TIME_CTL_SSC_DEPTH d)) ∧
  (∀ (p : Path) (st : Hub) (o : Otp), DoesRead (.timeNowLoRead p) st h o (st, { h with
      out := h.out ++ [.readData p 0x1008 (BitVec.ofNat 32 st.time.ridge.toNat)],
      time := { h.time with shadow := Tab.set 0 h.time.shadow p.num (st.time.ridge.toNat / 2 ^ 32) } })) ∧
  (h.led.wiped = false → h.get F.TIME_CTL_SUMMIT = 1 → (∀ n : PortId, h.get F.PORT_LCTL_EN n = 0) →
    Does .load h { h with time := { h.time with
      ridge := BitVec.ofNat 64 (2 ^ 32 * h.get F.TIME_SET_HI_SET_HI + h.get F.TIME_SET_LO_SET_LO), jumps := h.time.jumps + 1, jumpAt := some h.time.tick } }) ∧
  (h.led.wiped = false → h.get F.TIME_CTL_SUMMIT = 1 → (∀ n : PortId, h.get F.PORT_LCTL_EN n = 0) → h.owner resSyncIn = ownTime →
    Does .palign h { h with time := { h.time with alignArmed := true } }) ∧
  (h.time.alignArmed = true → (∀ n : PortId, h.get F.PORT_LCTL_EN n = 0) → h.owner resSyncIn = ownTime →
    Does .palignEdge h { h with time := { h.time with
      ridge := BitVec.ofNat 64 (2 ^ 32 * h.get F.TIME_SET_HI_SET_HI + h.get F.TIME_SET_LO_SET_LO), alignArmed := false,
      jumps := h.time.jumps + 1, jumpAt := some h.time.tick } }) ∧
  (∀ u : Fin 4, h.get F.TIME_CAPCFG_EN u = 1 → h.get F.TIME_CAPCFG_SRC u < 4 → h.owner (h.capRes u) = ownTime →
    (h.get F.TIME_CAPCFG_VALID u = 1 → Does (.captureEdge u) h (h.raise F.TIME_CAPCFG_OVR 1 u)) ∧
    (h.get F.TIME_CAPCFG_VALID u = 0 → Does (.captureEdge u) h
      (((h.set F.TIME_CAP_LO_CAP (h.time.ridge.toNat % 2 ^ 32) u).set F.TIME_CAP_HI_CAP (h.time.ridge.toNat / 2 ^ 32) u).raise
        F.TIME_CAPCFG_VALID 1 u)))) ∧
  (∀ h : Hub, h.awake → ∀ u : Fin 4,
  (h.led.wiped = false → ∀ hi : Word, 2 ^ 32 * hi.toNat + h.get F.TIME_CMP_LO_CMP u ≤ h.time.ridge.toNat →
    Does (.compareTargetWrite u hi) h (((h.set F.TIME_CMP_HI_CMP hi.toNat u).setCmp u { h.cmp u with
      target := some (2 ^ 32 * hi.toNat + h.get F.TIME_CMP_LO_CMP u)
      force := some (h.time.tick + 1) }).raise F.TIME_CMPCFG_LATE 1 u)) ∧
  (h.led.wiped = false → ∀ hi : Word, h.time.ridge.toNat < 2 ^ 32 * hi.toNat + h.get F.TIME_CMP_LO_CMP u →
    Does (.compareTargetWrite u hi) h ((h.set F.TIME_CMP_HI_CMP hi.toNat u).setCmp u { h.cmp u with
      target := some (2 ^ 32 * hi.toNat + h.get F.TIME_CMP_LO_CMP u)
      force := none })) ∧
  (∀ p r, h.get F.TIME_CMPCFG_EN u = 1 → (h.cmp u).target = some h.time.ridge.toNat → h.cmpPin u = some (p, r) →
    h.get F.TIME_CMP_PER_CMP_PER u = 0 →
    Does (.compareMatch u) h ((((h.raise F.TIME_CMPCFG_MATCHED 1 u).setCmp u
      { force := none, target := some h.time.ridge.toNat, pulseEnd := some (h.time.tick + h.get F.TIME_CMPCFG_WIDTH u) }).emit (.pin p true)).raise
      F.TIME_CMPCFG_EN 0 u)) ∧
  (∀ p r, h.get F.TIME_CMPCFG_EN u = 1 → (h.cmp u).target = some h.time.ridge.toNat → h.cmpPin u = some (p, r) →
    h.get F.TIME_CMP_PER_CMP_PER u ≠ 0 →
    Does (.compareMatch u) h ((((h.raise F.TIME_CMPCFG_MATCHED 1 u).setCmp u
      { force := none, target := some ((h.time.ridge.toNat + h.get F.TIME_CMP_PER_CMP_PER u) % 2 ^ 64),
        pulseEnd := some (h.time.tick + h.get F.TIME_CMPCFG_WIDTH u) }).emit (.pin p true)).set64
      F.TIME_CMP_LO_CMP F.TIME_CMP_HI_CMP ((h.time.ridge.toNat + h.get F.TIME_CMP_PER_CMP_PER u) % 2 ^ 64) u)) ∧
  (h.get F.TIME_CMPCFG_EN u = 1 → (h.cmp u).target = some h.time.ridge.toNat → h.get F.TIME_CMPCFG_OUT u = 0 →
    h.get F.TIME_CMP_PER_CMP_PER u = 0 →
    Does (.compareMatch u) h ((((h.raise F.TIME_CMPCFG_MATCHED 1 u).setCmp u { target := some h.time.ridge.toNat }).rec1 prodTime 10 1 srcTime u).raise
      F.TIME_CMPCFG_EN 0 u)) ∧
  (∀ t p r, (h.cmp u).pulseEnd = some t → t ≤ h.time.tick → h.cmpPin u = some (p, r) →
    Does (.comparePulseEnd u) h (((h.setCmp u { h.cmp u with pulseEnd := none }).emit (.pin p false)).timeRelease r))) ∧
  (∀ h : Hub,
  (h.awake →
    (∀ (p : Path) (st : Hub) (o : Otp), DoesRead (.timeNowLoRead p) st h o ((st, st.timeNowLo h p))) ∧
    Does .palignEdge h h.palignEdge ∧
    (∀ (u : Fin 4), Does (.captureEdge u) h (h.captureEdge u)) ∧
    (∀ (u : Fin 4), Does (.compareMatch u) h (h.compareMatch u)) ∧
    (∀ (u : Fin 4), Does (.comparePulseEnd u) h (h.comparePulseEnd u))) ∧
  (h.awake → h.led.wiped = false →
    (∀ (freq : Fin 4) (depth : Fin 16) (en : Bool), Does (.sscWrite freq depth en) h (h.sscWrite freq depth en)) ∧
    Does .load h h.timeLoad ∧
    Does .palign h h.palign ∧
    (∀ (u : Fin 4) (hi : Word), Does (.compareTargetWrite u hi) h (h.compareTarget u hi))))

/-- TIME_NOW_LO latches the high half for its path (R41). -/
def Obligations.TimeNowShadow : Prop := ∀ (h st : Hub) (o : Otp) (p : Path), h.awake →
  ∃ g : Hub, DoesRead (.timeNowLoRead p) st h o (st, g) ∧
    g.out = h.out ++ [.readData p 0x1008 (BitVec.ofNat 32 st.time.ridge.toNat)] ∧ g.regs = h.regs ∧
    (∀ (k t : Hub) (o' : Otp), k.awake → t.time.shadow = g.time.shadow →
      DoesRead (.rcRead p (.bar0 0x100C) 15) t k o'
        (t, k.emit (.readData p 0x100C (BitVec.ofNat 32 (st.time.ridge.toNat / 2 ^ 32))))) ∧
    (∀ q : Path, q.num ≠ p.num → Tab.get 0 g.time.shadow q.num = Tab.get 0 h.time.shadow q.num) ∧
    (∀ m l : Fin 16, (Path.tunnel m).num = (Path.tunnel l).num) ∧
    Path.pcie.num ≠ Path.mgmt.num ∧ (∀ m : Fin 16, (Path.tunnel m).num ≠ Path.pcie.num ∧ (Path.tunnel m).num ≠ Path.mgmt.num)

/-- Frequency lock, loss of the lock source, and what an offset does (R36, R37, R38, R39, R44, R45). -/
def Obligations.FrequencyLockCommands : Prop :=
  (∀ h : Hub, h.awake →
  (∀ n : PortId, h.get F.TIME_STAT_STATE = 0 → h.get F.TIME_CTL_SUMMIT = 0 → h.get F.PORT_LCTL_EN n = 1 →
    (h.fabp n).barred = false → h.role n = 2 →
    ∃ g, Does (.uplinkSignalDetect n) h g ∧ g.get F.TIME_STAT_STATE = 1 ∧ g.time.uplink = n ∧
      g.time.acqStart = some h.time.tick ∧ g.time.acqFails = 0 ∧ g.time.loaded = false ∧ h.sameRegs [0x1004] g) ∧
  (h.get F.TIME_STAT_STATE = 1 → Does .frequencyLock h
    (({ ((h.set F.TIME_STAT_STATE 2).set F.TIME_STAT_SRCPORT h.time.uplink).set F.TIME_STAT_SRCVALID 1 with
      time := { h.time with
        txOn := true
        acqStart := none
        acqFails := 0
        ratioHeld := false } } : Hub).each ports (fun n g => g.tryDetect n))) ∧
  (∀ t, h.get F.TIME_STAT_STATE = 1 → h.time.acqStart = some t → t + 100000 ≤ h.time.tick → h.time.acqFails < 2 →
    Does .facqTimeout h { h with time := { h.time with
      acqFails := h.time.acqFails + 1
      acqStart := some h.time.tick } }) ∧
  (∀ t, h.get F.TIME_STAT_STATE = 1 → h.time.acqStart = some t → t + 100000 ≤ h.time.tick → 2 ≤ h.time.acqFails →
    ∃ g, Does .facqTimeout h g ∧ g.get F.TIME_STAT_STATE = 1 ∧ g.time.acqFails = 0 ∧ g.time.acqStart = some h.time.tick) ∧
  ((h.get F.TIME_STAT_STATE = 2 ∨ h.get F.TIME_STAT_STATE = 3) → h.otherUplink (h.get F.TIME_STAT_SRCPORT) = none →
    Does .lockSourceLost h
      (let g := ((h.set F.TIME_STAT_STATE 4).set F.TIME_STAT_SRCVALID 0).rec1 prodTime 10 3 srcTime (h.get F.TIME_STAT_SRCPORT)
       { g with time := { g.time with ratioHeld := true } })) ∧
  (∀ m, (h.get F.TIME_STAT_STATE = 2 ∨ h.get F.TIME_STAT_STATE = 3) → h.otherUplink (h.get F.TIME_STAT_SRCPORT) = some m →
    m ≠ h.get F.TIME_STAT_SRCPORT → h.get F.PORT_LSTAT_STATE m = 7 →
    Does .lockSourceLost h
      (let g := (h.set F.TIME_STAT_SRCPORT m).rec1 prodTime 10 4 srcTime m
       { g with time := { g.time with
          uplink := m
          good := 0
          bad := 0 } }))) ∧
  (∀ (h : Hub) (n : PortId) (o : Int),
  (h.get F.TIME_STAT_STATE = 2 → -8 ≤ o → o ≤ 8 → h.time.good = 3 → (h.useOffset n o).get F.TIME_STAT_STATE = 3) ∧
  (h.get F.TIME_STAT_STATE = 2 → h.time.good ≤ 2 → (h.useOffset n o).get F.TIME_STAT_STATE = 2) ∧
  (h.get F.TIME_STAT_STATE = 2 → o < -8 ∨ 8 < o → (h.useOffset n o).time.good = 0) ∧
  (h.get F.TIME_STAT_STATE = 3 → -128 ≤ o → o ≤ 128 →
    (h.useOffset n o).time.ridge = h.time.ridge ∧ (h.useOffset n o).time.bad = 0 ∧
    (h.useOffset n o).time.phase = h.time.phase + sgn o) ∧
  (h.get F.TIME_STAT_STATE = 3 → o < -128 ∨ 128 < o → h.time.bad = 3 →
    (h.useOffset n o).get F.TIME_STAT_STATE = 2 ∧ (h.useOffset n o).get F.TIME_STAT_STEP = 1 ∧
    (h.useOffset n o).time.ridge = BitVec.ofInt 64 ((h.time.ridge.toNat : Int) + o / 64)) ∧
  ((h.useOffset n o).get F.TIME_STAT_ERR = ofSigned 8 (clampInt (-128) 127 o))) ∧
  (∀ h : Hub,
  (h.awake →
    (∀ (n : PortId), Does (.uplinkSignalDetect n) h (h.uplinkSignal n)) ∧
    Does .frequencyLock h h.frequencyLock ∧
    Does .facqTimeout h h.facqTimeout ∧
    Does .lockSourceLost h h.lockSourceLost))

/-- Time blocks sent and received (R43, R44, R84). -/
def Obligations.TimeBlockCommands : Prop :=
  (∀ h : Hub, h.awake → ∀ n : PortId, h.get F.PORT_LSTAT_STATE n = 7 →
  (∀ f : Fin 64, h.isChild n = false → (∀ t, (h.tp n).lastTsync = some t → t + 8192 ≤ h.time.tick) →
    (((h.tp n).sent + 1) % 8 ≠ 0 → Does (.tsyncSend n f) h ((h.sendL0 n 1 (timeTsync f h.time.ridge.toNat)).setTp n
      { h.tp n with
        sent := (h.tp n).sent + 1
        lastTsync := some h.time.tick })) ∧
    (((h.tp n).sent + 1) % 8 = 0 → Does (.tsyncSend n f) h (((h.sendL0 n 1 (timeTsync f h.time.ridge.toNat)).setTp n
      { h.tp n with
        sent := (h.tp n).sent + 1
        lastTsync := some h.time.tick }).sendL0 n 1 (timeTepoch h.time.ridge.toNat)))) ∧
  (∀ f : Fin 64, h.isChild n = true → h.get F.TIME_STAT_STATE = 2 → (∀ t, (h.tp n).lastDreq = some t → t + 8192 ≤ h.time.tick) →
    Does (.dreqSend n f) h ((h.sendL0 n 1 (timeDreq (h.tp n).nextId)).setTp n { h.tp n with
      lastDreq := some h.time.tick
      nextId := ((h.tp n).nextId + 1) % 64
      ex := some { id := (h.tp n).nextId, t1 := ((64 * h.time.ridge.toNat + f.val : Nat) : Int) } })) ∧
  (∀ f : Fin 64, h.isChild n = true → h.get F.TIME_STAT_STATE = 3 → (∀ t, (h.tp n).lastDreq = some t → t + 65536 ≤ h.time.tick) →
    Does (.dreqSend n f) h ((h.sendL0 n 1 (timeDreq (h.tp n).nextId)).setTp n { h.tp n with
      lastDreq := some h.time.tick
      nextId := ((h.tp n).nextId + 1) % 64
      ex := some { id := (h.tp n).nextId, t1 := ((64 * h.time.ridge.toNat + f.val : Nat) : Int) } })) ∧
  (∀ (k : Blk) (res : BitVec 24), k.btype = btTime → k.time 0 1 = 1 → h.isChild n = false →
    Does (.dreqReceive n k res) h (h.sendL0 n 1 (timeDrsp (k.time 2 7) res.toNat))) ∧
  (∀ (k : Blk) (f : Fin 64) (e : DelayEx), k.btype = btTime → k.time 0 1 = 2 → h.isChild n = true → (h.tp n).ex = some e →
    e.id = k.time 2 7 →
    ∃ g, Does (.drspReceive n k f) h g ∧ (g.tp n).mean2 = some (((64 * h.time.ridge.toNat + f.val : Nat) : Int) - e.t1 - (k.time 8 31 : Nat)) ∧
      (g.tp n).ex = none ∧ g.get F.PORT_TDLY_VALID n = 1) ∧
  (∀ k : Blk, k.btype = btTime → k.time 0 1 = 3 → h.isUplink n = true →
    Does (.tepochReceive n k) h ((h.setTp n { h.tp n with
      epoch := some (k.time 8 23, ((h.tp n).sync.map (·.1)).getD 0) }).tryLoad n)) ∧
  (∀ (k : Blk) (f : Fin 64), k.btype ≠ btTime → Does (.tsyncReceive n k f) h (h.bump F.PORT_TDLY_BADCNT n)) ∧
  (∀ (k : Blk) (f : Fin 64), k.btype = btTime → k.time 0 1 = 0 → h.isUplink n = true → h.get F.TIME_STAT_SRCVALID = 0 →
    (h.tp n).epoch = none → Does (.tsyncReceive n k f) h (h.setTp n { h.tp n with
      sync := some (k.time 8 55, k.time 2 7, ((64 * h.time.ridge.toNat + f.val : Nat) : Int)) }))) ∧
  (∀ h : Hub,
  (h.awake →
    (∀ (n : PortId) (frac : Fin 64), Does (.tsyncSend n frac) h (h.tsyncSend n frac)) ∧
    (∀ (n : PortId) (frac : Fin 64), Does (.dreqSend n frac) h (h.dreqSend n frac)) ∧
    (∀ (n : PortId) (k : Blk) (res : BitVec 24), Does (.dreqReceive n k res) h (h.dreqReceive n k res.toNat)) ∧
    (∀ (n : PortId) (k : Blk) (frac : Fin 64), Does (.drspReceive n k frac) h (h.drspReceive n k frac)) ∧
    (∀ (n : PortId) (k : Blk), Does (.tepochReceive n k) h (h.tepochReceive n k)) ∧
    (∀ (n : PortId) (k : Blk) (frac : Fin 64), Does (.tsyncReceive n k frac) h (h.tsyncReceive n k frac))))

/-- Enabling, retraining and loopbacks of a port (R70, R77, R78, R90, R91). -/
def Obligations.LaneEnableCommands : Prop :=
  (∀ h : Hub, h.awake → ∀ n : PortId,
  (h.led.wiped = false → h.get F.PORT_LCTL_EN n = 0 → h.role n ≠ 5 →
    Does (.portLctlEnWrite n true) h (((((h.set F.PORT_LCTL_EN 1 n).set F.PORT_LRETIRE_MASK 0 n).set F.PORT_LSTAT_RETIRED 0 n).setLane n
      { h.lane n with
        ceil := 2
        single := none
        multi := none
        nrz := 0
        failed := false }).tryDetect n)) ∧
  (h.led.wiped = false → h.get F.PORT_LCTL_EN n = 1 →
    Does (.portLctlEnWrite n false) h
      ((h.set F.PORT_LCTL_EN 0 n).leaveActive n causeLanes (fun g => (g.flush n).toDisabled n))) ∧
  (h.led.wiped = false → h.get F.PORT_LSTAT_STATE n ≠ 0 →
    Does (.retrain n) h ((h.setLane n { h.lane n with ceil := 2 }).dropLanes n causeLanes)) ∧
  (∀ (c : Nat) (f : Hub → Hub),
    ((h.lane n).turn = none → ((f (h.linkDown n c)).lane n).waiting = false → h.leaveActive n c f = f (h.linkDown n c)) ∧
    ((h.lane n).turn ≠ none → ((f ((h.turnEnd n 3).linkDown n c)).lane n).waiting = true →
      h.leaveActive n c f = (f ((h.turnEnd n 3).linkDown n c)).evalReq n)) ∧
  (∀ l : Fin 4, h.led.wiped = false → h.get F.PORT_LSTAT_STATE n = 7 → l = 1 ∨ l = 2 →
    Does (.loopbackSelect n l) h ((h.set F.PORT_LCTL_LBK l n).toLoopback n l false)) ∧
  (h.led.wiped = false → h.get F.PORT_LSTAT_STATE n = 7 → h.get F.PORT_LMODE_CUR n = 0 →
    Does (.loopbackSelect n 3) h (((h.set F.PORT_LCTL_LBK 3 n).sendL0 n 3 (lbkBlk true)).toLoopback n 3 false)) ∧
  (h.led.wiped = false → h.get F.PORT_LMODE_CUR n ≠ 0 → Does (.loopbackSelect n 3) h h) ∧
  (h.led.wiped = false → h.get F.PORT_LSTAT_STATE n = 8 → (h.lane n).retime = false →
    (h.get F.PORT_LCTL_LBK n ≠ 3 → Does (.loopbackSelect n 0) h ((h.set F.PORT_LCTL_LBK 0 n).toDetect n)) ∧
    (h.get F.PORT_LCTL_LBK n = 3 →
      Does (.loopbackSelect n 0) h (((h.set F.PORT_LCTL_LBK 0 n).sendL0 n 3 (lbkBlk false)).toDetect n))) ∧
  (∀ (g : Hub) (l : Nat) (r : Bool), (g.lane n).joined = false →
    g.join n l r = (let k := g.setLane n { g.lane n with joined := r || l == 1 || l == 2 }
      if r then k.emit (.loop n false [(3, 0), (2, 1)])
      else if l = 1 then k.emit (.loop n false [(0, 3), (1, 2)])
      else if l = 2 then (k.emit (.idle n 15)).emit (.loop n true [(0, 3), (1, 2)])
      else k)) ∧
  (∀ m : LaneId, h.get F.PWR_DSTAT_LEVEL n = 2 →
    Does (.signalDetect n m) h ((h.setLane n { h.lane n with sigAt := some h.time.tick }).domainWake n)) ∧
  (∀ m : LaneId, h.get F.PWR_DSTAT_LEVEL n ≠ 2 → h.get F.PORT_LSTAT_STATE n = 1 → 2 ≤ m.val → (h.lane n).since + 200 ≤ h.time.tick →
    let g := h.setLane n { h.lane n with sigAt := some h.time.tick }
    Does (.signalDetect n m) h ((g.setLane n { g.lane n with
      since := h.time.tick
      ts1 := []
      ts2 := 0
      ts2From := none }).set F.PORT_LSTAT_STATE 2 n)) ∧
  (∀ m : LaneId, h.get F.PWR_DSTAT_LEVEL n ≠ 2 → h.get F.PORT_LSTAT_STATE n ≠ 1 ∨ m.val < 2 ∨ h.time.tick < (h.lane n).since + 200 →
    Does (.signalDetect n m) h (h.setLane n { h.lane n with sigAt := some h.time.tick })) ∧
  (h.get F.PORT_LSTAT_STATE n = 9 → (h.lane n).since + 200000000 ≤ h.time.tick →
    Does (.faultRetry n) h ((h.bump F.PORT_TRCNT_FAILED n).toDetect n)) ∧
  (∀ (m : LaneId) (k : Blk), let g := h.heard n m k;
    (k.isA btLbk = true → k.field 8 9 = 1 → h.get F.PORT_LSTAT_STATE n = 7 → h.get F.PORT_LCTL_FELBK_ALLOW n = 1 →
      Does (.lbkEnterReceive n ⟨m, k⟩) h (g.toLoopback n 3 true)) ∧
    (k.isA btLbk = true → k.field 8 9 = 0 → h.get F.PORT_LSTAT_STATE n = 8 → (h.lane n).retime = true →
      Does (.lbkExitReceive n ⟨m, k⟩) h (g.toDetect n)) ∧
    (k.isA btLbk = false → Does (.lbkEnterReceive n ⟨m, k⟩) h (g.shErr n m 1) ∧ Does (.lbkExitReceive n ⟨m, k⟩) h (g.shErr n m 1))) ∧
  (h.get F.PORT_LSTAT_STATE n = 8 → (h.lane n).lock = 0 → (h.lane n).since + 200000 ≤ h.time.tick →
    Does (.loopbackTimeout n) h (h.toDetect n))) ∧
  (∀ h : Hub,
  (h.awake →
    (∀ (n : PortId) (m : LaneId), Does (.signalDetect n m) h (h.signalDetect n m)) ∧
    (∀ (n : PortId), Does (.faultRetry n) h (h.faultRetry n)) ∧
    (∀ (n : PortId) (m : LaneId) (k : Blk), Does (.lbkEnterReceive n ⟨m, k⟩) h (h.lbkEnter n m k)) ∧
    (∀ (n : PortId) (m : LaneId) (k : Blk), Does (.lbkExitReceive n ⟨m, k⟩) h (h.lbkExit n m k)) ∧
    (∀ (n : PortId), Does (.loopbackTimeout n) h (h.loopbackTimeout n))) ∧
  (h.awake → h.led.wiped = false →
    (∀ (n : PortId) (en : Bool), Does (.portLctlEnWrite n en) h (h.lctlEn n en)) ∧
    (∀ (n : PortId), Does (.retrain n) h (h.retrain n)) ∧
    (∀ (n : PortId) (lbk : Fin 4), Does (.loopbackSelect n lbk) h (h.loopback n lbk))))

/-- Training blocks, training timeouts and block lock (R66, R67, R70, R72, R73, R74, R76, R77, R79). -/
def Obligations.TrainingCommands : Prop :=
  (∀ h : Hub, h.awake → ∀ n : PortId,
  (∀ (m : LaneId) (k : Blk) (a : EqAsk), let g := h.heard n m k;
    (k.isA btTS1 = false →
      Does (.ts1Receive n m ⟨k, a⟩) h ((g.shErr n m 1).setLane n { g.lane n with ts1 := Tab.set 0 (g.lane n).ts1 m 0 })) ∧
    (k.isA btTS1 = true → h.get F.PORT_LSTAT_STATE n = 2 → bitOf (h.lane n).lock m = true →
      (Tab.get 0 (h.lane n).ts1 m = 7 →
        ∃ x, Does (.ts1Receive n m ⟨k, a⟩) h x ∧ x.get F.PORT_LSTAT_STATE n = 3 ∧ (x.lane n).ctl = some m.val ∧
          (x.lane n).since = h.time.tick ∧ (x.lane n).ptgt = k.ts.tgt ∧ (x.lane n).pretire = k.ts.retire) ∧
      (Tab.get 0 (h.lane n).ts1 m < 7 →
        Does (.ts1Receive n m ⟨k, a⟩) h (g.setLane n { g.lane n with
          ts1 := Tab.set 0 (g.lane n).ts1 m (Tab.get 0 (g.lane n).ts1 m + 1)
          prates := k.ts.rates
          ptgt := k.ts.tgt
          pretire := k.ts.retire
          prole := k.ts.role }))) ∧
    (k.isA btTS1 = true → h.get F.PORT_LSTAT_STATE n = 5 →
      Does (.ts1Receive n m ⟨k, a⟩) h (((g.eqRequest n k.ts).eqStatus n k.ts).eqAsk n m a)) ∧
    (k.isA btTS1 = true → h.get F.PORT_LSTAT_STATE n = 7 → bitOf (h.get F.PORT_LSTAT_RXMASK n) m = true →
      bitOf (h.get F.PORT_LSTAT_RECOV n) m = false → Does (.ts1Receive n m ⟨k, a⟩) h (g.dropLanes n causeLanes))) ∧
  (∀ (m : LaneId) (k : Blk), let g := h.heard n m k;
    (k.isA btTS2 = false → Does (.ts2Receive n m k) h ((g.shErr n m 1).setLane n { g.lane n with ts2 := 0 })) ∧
    (k.isA btTS2 = true → h.get F.PORT_LSTAT_STATE n = 3 → (h.lane n).ctl = some m.val →
      (h.lane n).ts2From.isSome → k.ts.tgt = h.agreedRate n → flipMask k.ts.retire = h.agreedRetire n →
      7 ≤ (h.lane n).ts2 → h.sent16 n = true → popCount 4 (h.agreedRetire n) < 2 →
      ∃ x, Does (.ts2Receive n m k) h x ∧ x.get F.PORT_LSTAT_STATE n = 4 ∧ x.get F.PORT_LSTAT_RATE n = h.agreedRate n % 8 ∧
        (x.lane n).set = without 15 (h.agreedRetire n) ∧ (x.lane n).since = h.time.tick) ∧
    (k.isA btTS2 = true → h.get F.PORT_LSTAT_STATE n = 7 → bitOf (h.get F.PORT_LSTAT_RXMASK n) m = true →
      bitOf (h.get F.PORT_LSTAT_RECOV n) m = false → Does (.ts2Receive n m k) h (g.dropLanes n causeLanes))) ∧
  (∀ b,
    (h.get F.PORT_LSTAT_STATE n = 2 → (h.lane n).since + 20000 ≤ h.time.tick → Does (.trainingTimeout n b) h (h.attemptFailed n 0)) ∧
    (h.get F.PORT_LSTAT_STATE n = 3 → (h.lane n).since + 10000 ≤ h.time.tick → Does (.trainingTimeout n b) h (h.attemptFailed n 0)) ∧
    (h.get F.PORT_LSTAT_STATE n = 4 → (h.lane n).since + 10400 ≤ h.time.tick →
      Does (.trainingTimeout n b) h (h.attemptFailed n (without (h.trainRx n) (h.lane n).lock))) ∧
    (h.get F.PORT_LSTAT_STATE n = 5 →
      (h.lane n).since + 240000 ≤ h.time.tick ∨ (h.lane n).phaseAt + phaseLimit (h.lane n).phase ≤ h.time.tick →
      Does (.trainingTimeout n b) h (h.attemptFailed n (union b.toNat (union
        (without (h.phaseLanes n &&& h.trainTx n) (h.lane n).done) (without (h.phaseLanes n &&& h.trainRx n) (h.lane n).rxOk))))) ∧
    (h.get F.PORT_LSTAT_STATE n = 6 → (h.lane n).since + 19000 ≤ h.time.tick →
      Does (.trainingTimeout n b) h (h.attemptFailed n b.toNat))) ∧
  (h.get F.PORT_LSTAT_STATE n = 4 → (h.lane n).retuned = false → (h.lane n).since + 400 ≤ h.time.tick →
    let g := h.setLane n { h.lane n with retuned := true }
    Does (.rateRetuneEnd n) h (g.groups n (g.trainTx n) (g.get F.PORT_LSTAT_RATE n) btTS1 (g.ownTs n))) ∧
  (∀ t, h.get F.PORT_LSTAT_STATE n = 5 → (h.lane n).eqIdle = some t → t ≤ h.time.tick →
    let g := (h.setLane n { h.lane n with eqIdle := none }).burst n (h.turningLanes n &&& h.trainTx n)
    Does (.eqPhaseIdleEnd n) h (g.eqStart n (g.turningLanes n &&& g.trainRx n) ((g.lane n).phase == 1))) ∧
  (h.get F.PORT_LSTAT_STATE n = 6 → (h.lane n).since + 16384 ≤ h.time.tick → (h.lane n).errAt + 16384 ≤ h.time.tick →
    ((h.lane n).ts2From = none → Does (.verifyComplete n) h (h.beginTs2 n (h.trainTx n) 3 true)) ∧
    ((h.lane n).readyRx = true → h.sent16 n = true → h.get F.PORT_LRETIRE_MASK n = 15 - (h.lane n).set →
      ∃ g, Does (.verifyComplete n) h g ∧ g.get F.PORT_LSTAT_STATE n = 7 ∧
        g.get F.PORT_LRETIRE_MASK n = h.get F.PORT_LRETIRE_MASK n ∧ (g.lane n).set = (h.lane n).set ∧
        (g.lane n).since = h.time.tick ∧ (g.lane n).lock = g.get F.PORT_LSTAT_RXMASK n))) ∧
  (∀ h : Hub, h.awake → ∀ (n : PortId) (m : LaneId),
  (bitOf (h.lane n).lock m = true → Does (.blockLockAcquired n m) h h) ∧
  (bitOf (h.lane n).lock m = false → h.get F.PORT_LSTAT_STATE n = 2 → h.get F.TIME_STAT_STATE ≠ 4 →
    Does (.blockLockAcquired n m) h (h.setLane n { h.lane n with lock := (h.lane n).lock + 2 ^ m.val })) ∧
  (bitOf (h.lane n).lock m = false → h.get F.PORT_LSTAT_STATE n = 8 → h.get F.TIME_STAT_STATE ≠ 4 →
    let g := h.setLane n { h.lane n with lock := (h.lane n).lock + 2 ^ m.val }
    Does (.blockLockAcquired n m) h (g.setLane n { g.lane n with
      since := h.time.tick
      chk := if bitOf (h.get F.PORT_PRBS_CHKEN n) m then union (h.lane n).chk (2 ^ m.val) else (h.lane n).chk })) ∧
  (∀ bad : Fin 65,
    Does (.blockLockLost n m ⟨bad, false⟩) h (h.lineErrors n m bad false) ∧
    (bitOf (h.lane n).lock m = false → Does (.blockLockLost n m ⟨bad, true⟩) h (h.lineErrors n m bad true)) ∧
    (bitOf (h.lane n).lock m = true → Does (.blockLockLost n m ⟨bad, true⟩) h ((h.lineErrors n m bad true).lockLost n m)) ∧
    (h.get F.PORT_LSTAT_STATE n = 8 → bitOf (h.lane n).chk m = true → ∀ lost,
      (h.lineErrors n m bad lost).get F.PORT_PRBSERR_ERR n m = min (h.get F.PORT_PRBSERR_ERR n m + bad) (2 ^ 32 - 1) ∧
      (h.lineErrors n m bad lost).lanes = h.lanes) ∧
    (h.get F.PORT_LSTAT_STATE n ≠ 8 ∨ bitOf (h.lane n).chk m = false → ∀ lost,
      (h.lineErrors n m bad lost).get F.PORT_LERR_SHERR n m = min (h.get F.PORT_LERR_SHERR n m + bad) (2 ^ 24 - 1) ∧
      ((h.lineErrors n m bad lost).lane n).errAt = h.time.tick)) ∧
  (let g := ((h.set F.PORT_LERR_LOCKLOSS (min (h.get F.PORT_LERR_LOCKLOSS n m + 1) 255) n m).tally F.PORT_LERR_LOCKLOSS n m 1).setLane n
      { h.lane n with
        lock := (h.lane n).lock - 2 ^ m.val
        errAt := h.time.tick };
    (h.get F.PORT_LSTAT_STATE n = 2 → h.lockLost n m = g) ∧
    (h.get F.PORT_LSTAT_STATE n = 7 → (h.lane n).turn = none →
      (without (h.get F.PORT_LSTAT_RXMASK n) (without 15 ((h.lane n).lock - 2 ^ m.val)) = 0 →
        h.lockLost n m = g.dropLanes n causeLanes) ∧
      (without (h.get F.PORT_LSTAT_RXMASK n) (without 15 ((h.lane n).lock - 2 ^ m.val)) ≠ 0 →
        bitOf (h.get F.PORT_LSTAT_RXMASK n) m = true → h.lockLost n m = g.startRecovery n m))) ∧
  (∀ row : List Blk, h.get F.PORT_LSTAT_STATE n = 7 → (h.lane n).turn = none → let g := h.rowErrors n btEI row;
    ((∃ k ∈ row, k.isA btEI = true) →
      Does (.eiReceive ⟨n, row⟩) h ((g.set F.PORT_LKSTAT_RXIDLE 1 n).setLane n
        { g.lane n with lock := without (h.lane n).lock (h.get F.PORT_LSTAT_RXMASK n) })) ∧
    ((∀ k ∈ row, k.isA btEI = false) → Does (.eiReceive ⟨n, row⟩) h g)) ∧
  (h.get F.PORT_LSTAT_STATE n = 7 → bitOf (h.get F.PORT_LSTAT_RXMASK n) m = true → (h.lane n).lock = 0 →
    ((without (h.get F.PORT_LSTAT_RXMASK n) (2 ^ m.val)) &&& without 15 (h.get F.PORT_LSTAT_RECOV n) ≠ 0 →
      Does (.fastExitLockTimeout n m) h (h.startRecovery n m)) ∧
    ((without (h.get F.PORT_LSTAT_RXMASK n) (2 ^ m.val)) &&& without 15 (h.get F.PORT_LSTAT_RECOV n) = 0 →
      Does (.fastExitLockTimeout n m) h (h.dropLanes n causeLanes)))) ∧
  (∀ h : Hub,
  (h.awake →
    (∀ (n : PortId) (m : LaneId) (k : Blk) (ask : EqAsk), Does (.ts1Receive n m ⟨k, ask⟩) h (h.ts1Receive n m k ask)) ∧
    (∀ (n : PortId) (m : LaneId) (k : Blk), Does (.ts2Receive n m k) h (h.ts2Receive n m k)) ∧
    (∀ (n : PortId) (bad : BitVec 4), Does (.trainingTimeout n bad) h (h.trainingTimeout n bad.toNat)) ∧
    (∀ (n : PortId), Does (.rateRetuneEnd n) h (h.retuneEnd n)) ∧
    (∀ (n : PortId), Does (.eqPhaseIdleEnd n) h (h.eqIdleEnd n)) ∧
    (∀ (n : PortId), Does (.verifyComplete n) h (h.verifyComplete n)) ∧
    (∀ (n : PortId) (m : LaneId), Does (.blockLockAcquired n m) h (h.lockAcquired n m)) ∧
    (∀ (n : PortId) (m : LaneId) (bad : Fin 65) (lost : Bool),
      Does (.blockLockLost n m ⟨bad, lost⟩) h (h.lockErrors n m bad.val lost)) ∧
    (∀ (n : PortId) (row : List Blk), Does (.eiReceive ⟨n, row⟩) h (h.eiReceive n row)) ∧
    (∀ (n : PortId) (m : LaneId), Does (.fastExitLockTimeout n m) h (h.fastExitTimeout n m))))

/-- STRIPE rows, idle entry and exit, single-lane recovery and retirement (R68, R69, R77, R79, R80, R81, R82). -/
def Obligations.RecoveryCommands : Prop :=
  (∀ h : Hub, h.awake → ∀ n : PortId,
  (∀ k : Blk, k.isA btStripe = true → h.get F.PORT_LSTAT_STATE n = 7 → h.get F.PORT_LSTAT_RECOV n = 0 →
    Does (.stripeReceive n [k]) h ((h.rowErrors n btStripe [k]).set F.PORT_LSTAT_RXMASK
      (without (flipMask k.stripeSet) (union (h.outPairs n) (h.get F.PORT_LSTAT_TXMASK n))) n)) ∧
  (∀ row : List Blk, (∀ k ∈ row, k.isA btStripe = false) → h.get F.PORT_LSTAT_STATE n = 7 →
    Does (.stripeReceive n row) h
      ((bitList 4 0 (h.get F.PORT_LSTAT_RXMASK n)).reverse.foldl (fun x m => x.startRecovery n m) (h.rowErrors n btStripe row))) ∧
  (h.get F.PORT_LSTAT_STATE n = 7 → h.get F.PORT_LKSTAT_STATE n = 2 → h.get F.PORT_LKSTAT_TXIDLE n = 0 → h.quiet n = true →
    h.get F.PWR_DSTAT_TARGET n = 0 → h.level n = lvRUN → h.get F.PORT_LKCTL_IDLEEN n = 1 →
    (h.link n).busyAt + h.get F.PORT_LKCTL_IDLEDLY n ≤ h.time.tick →
    Does (.idleDelayExpiry n) h ((h.eiRow n (h.get F.PORT_LSTAT_TXMASK n)).set F.PORT_LKSTAT_TXIDLE 1 n)) ∧
  (h.get F.PORT_LKSTAT_TXIDLE n = 1 → (h.link n).wait ≠ [] →
    Does (.fastExit n) h ((((h.set F.PORT_LKSTAT_TXIDLE 0 n).burst n (h.get F.PORT_LSTAT_TXMASK n)).firstSlot n).flushWait n)) ∧
  (∀ (m : LaneId) (k : Blk) (c : Nat), let g := h.heard n m k;
    (k.isA btLmgt = true → k.lmKind = lmLREC → h.get F.PORT_LSTAT_STATE n = 7 → bitList 4 0 (flipMask k.lmLanes) = [c] →
      bitOf (h.get F.PORT_LSTAT_TXMASK n) c = true →
      (Tab.get none (h.lane n).rec_ c = none → Does (.lrecReceive n ⟨m, k⟩) h (g.recoverSend n c)) ∧
      (∀ r, Tab.get none (h.lane n).rec_ c = some r → h.time.tick < r.start + 40000 → Does (.lrecReceive n ⟨m, k⟩) h g) ∧
      (∀ r, Tab.get none (h.lane n).rec_ c = some r → r.start + 40000 ≤ h.time.tick →
        Does (.lrecReceive n ⟨m, k⟩) h (g.recoverSend n c))) ∧
    (k.isA btLmgt = true → k.lmKind = lmLRET → h.get F.PORT_LSTAT_STATE n = 7 → bitList 4 0 (flipMask k.lmLanes) = [c] →
      Does (.lretReceive n ⟨m, k⟩) h (g.retire n c 5)) ∧
    (k.isA btLmgt = false → Does (.lrecReceive n ⟨m, k⟩) h (g.shErr n m 1) ∧ Does (.lretReceive n ⟨m, k⟩) h (g.shErr n m 1))) ∧
  (∀ (m : LaneId) (r : Recovery) (t : Nat), Tab.get none (h.lane n).rec_ m = some r → r.good = some t → r.receiver = true →
    t + 4096 ≤ h.time.tick → h.get F.PORT_LSTAT_STATE n = 7 →
    Does (.recoveryComplete n m) h ((h.recovered n m).set F.PORT_LSTAT_RXMASK
      (union ((h.recovered n m).get F.PORT_LSTAT_RXMASK n) (2 ^ m.val)) n)) ∧
  (∀ (m : LaneId) (r : Recovery) (t : Nat), Tab.get none (h.lane n).rec_ m = some r → r.good = some t → r.receiver = false →
    t + 4096 ≤ h.time.tick → h.get F.PORT_LSTAT_STATE n = 7 →
    Does (.recoveryComplete n m) h ((h.recovered n m).stripe n (union ((h.recovered n m).get F.PORT_LSTAT_TXMASK n) (2 ^ m.val))
      (union ((h.recovered n m).get F.PORT_LSTAT_TXMASK n) (2 ^ m.val)))) ∧
  (∀ (m : LaneId) (r : Recovery), Tab.get none (h.lane n).rec_ m = some r → r.start + 40000 ≤ h.time.tick →
    Tab.get 0 (h.lane n).recFails m = 2 →
    Does (.recoveryTimeout n m) h (((h.recoveryOff n m).setLane n { (h.recoveryOff n m).lane n with
      recFails := Tab.set 0 (h.lane n).recFails m 0 }).retire n m 2)) ∧
  (∀ (m : LaneId) (r : Recovery), Tab.get none (h.lane n).rec_ m = some r → r.start + 40000 ≤ h.time.tick →
    Tab.get 0 (h.lane n).recFails m < 2 → r.receiver = true →
    Does (.recoveryTimeout n m) h (((h.recoveryOff n m).setLane n { (h.recoveryOff n m).lane n with
      recFails := Tab.set 0 (h.lane n).recFails m (Tab.get 0 (h.lane n).recFails m + 1) }).startRecovery n m)) ∧
  (∀ (mask : BitVec 4) (m : Nat) (l : List Nat), h.led.wiped = false → h.get F.PORT_LRETIRE_MASK n = 0 →
    bitList 4 0 mask.toNat = m :: l → Does (.retireForce n mask) h (h.retire n m 4)) ∧
  (h.led.wiped = false → Does (.retireClear n) h ((h.set F.PORT_LRETIRE_MASK 0 n).set F.PORT_LSTAT_RETIRED 0 n))) ∧
  (∀ h : Hub,
  (h.awake →
    (∀ (n : PortId) (row : List Blk), Does (.stripeReceive n row) h (h.stripeReceive n row)) ∧
    (∀ (n : PortId), Does (.idleDelayExpiry n) h (h.idleDelay n)) ∧
    (∀ (n : PortId), Does (.fastExit n) h (h.fastExit n)) ∧
    (∀ (n : PortId) (m : LaneId) (k : Blk), Does (.lrecReceive n ⟨m, k⟩) h (h.lrecReceive n m k)) ∧
    (∀ (n : PortId) (m : LaneId), Does (.recoveryComplete n m) h (h.recoveryComplete n m)) ∧
    (∀ (n : PortId) (m : LaneId), Does (.recoveryTimeout n m) h (h.recoveryTimeout n m)) ∧
    (∀ (n : PortId) (m : LaneId) (k : Blk), Does (.lretReceive n ⟨m, k⟩) h (h.lretReceive n m k))) ∧
  (h.awake → h.led.wiped = false →
    (∀ (n : PortId) (mask : BitVec 4), Does (.retireForce n mask) h (h.retireForce n mask.toNat)) ∧
    (∀ (n : PortId), Does (.retireClear n) h (h.clearRetire n))))

/-- Requesting and agreeing a lane turn (R83, R84, R85, R88). -/
def Obligations.TurnExchangeCommands : Prop :=
  (∀ h : Hub, h.awake → ∀ n : PortId,
  (∀ r : Fin 8, h.led.wiped = false → 5 ≤ r.val ∨ h.isHot F.PORT_LMODE_REQ n = true → Does (.turnRequest n r) h h) ∧
  (∀ r : Fin 8, h.led.wiped = false → h.isHot F.PORT_LMODE_REQ n = false → r.val ≤ 4 → (h.lane n).turn.isSome →
    Does (.turnRequest n r) h ((h.set F.PORT_LMODE_REQ r n).setLane n { h.lane n with waiting := true })) ∧
  (∀ r : Fin 8, h.led.wiped = false → h.isHot F.PORT_LMODE_REQ n = false → r.val ≤ 4 → r.val ≠ h.get F.PORT_LMODE_CUR n →
    (h.lane n).turn = none → h.get F.PORT_LCTL_TURNLOCK n = 0 →
    modeExists r (h.outPairs n) = true → h.turnAllowed n = true →
    ∃ t, Does (.turnRequest n r) h (((((h.set F.PORT_LMODE_REQ r n).setLane n { h.lane n with
        waiting := false
        turn := some t
        turnId := ((h.lane n).turnId + 1) % 16 }).set F.PORT_LMODE_BUSY 1 n).set F.PORT_LMODE_TURNID (h.lane n).turnId n).sendL0 n 3
        (lmgtBlk lmREQ (h.lane n).turnId r 0 (h.lmDly n) t.x)) ∧
      t.id = (h.lane n).turnId ∧ t.x = (h.time.ridge.toNat + 3 * h.dl n + 64) % 2 ^ 64 ∧ t.target = r ∧ t.initiator = true ∧
      t.committed = false ∧ t.stage = 0 ∧ t.from_ = h.get F.PORT_LMODE_CUR n) ∧
  (∀ (m : LaneId) (k : Blk), k.isA btLmgt = true → h.get F.PORT_LSTAT_STATE n = 7 → let g := h.heard n m k;
    (k.lmKind = lmREQ → ((h.lane n).reqSeen = none ∨ ∃ b t, (h.lane n).reqSeen = some (b, t) ∧ (b ≠ k ∨ t + 16 < h.time.tick)) →
      Does (.lmgtReqReceive n ⟨m, k⟩) h ((g.setLane n { g.lane n with reqSeen := some (k, h.time.tick) }).takeReq n k)) ∧
    (k.lmKind = lmREQ → (∃ t, (h.lane n).reqSeen = some (k, t) ∧ h.time.tick ≤ t + 16) → Does (.lmgtReqReceive n ⟨m, k⟩) h g) ∧
    (k.lmKind = lmDREP → h.isChild n = false →
      Does (.drepReceive n ⟨m, k⟩) h (((g.set F.PORT_TDLY_DLY (k.lmDly * 64) n).set F.PORT_TDLY_VALID 1 n).lkTmo n)) ∧
    (∀ t : Turn, (h.lane n).turn = some t → t.initiator = true → t.committed = false → t.id = k.lmId →
      (k.lmKind = lmACK → h.time.ridge.toNat + h.dl n + 8 ≤ t.x →
        Does (.lmgtAckReceive n ⟨m, k⟩) h (g.setLane n { g.lane n with turn := some { t with committed := true } })) ∧
      (k.lmKind = lmACK → t.x < h.time.ridge.toNat + h.dl n + 8 → Does (.lmgtAckReceive n ⟨m, k⟩) h (g.turnOver n 3)) ∧
      (k.lmKind = lmNAK → Does (.lmgtNakReceive n ⟨m, k⟩) h (g.turnOver n 2)))) ∧
  (∀ k : Blk,
    ((h.lane n).turn = none → h.takeReq n k = h.answerReq n k) ∧
    (∀ t : Turn, (h.lane n).turn = some t →
      (t.committed = true ∨ t.initiator = false → h.takeReq n k = h.setLane n { h.lane n with heldReq := some k }) ∧
      (t.initiator = true → t.committed = false → h.isChild n = false → h.takeReq n k = h)) ∧
    (h.get F.PORT_LCTL_TURNLOCK n = 1 →
      h.answerReq n k = h.sendL0 n 3 (lmgtBlk lmNAK k.lmId (mirrorMode k.lmMode) 0 (h.lmDly n) k.lmX)) ∧
    (h.get F.PORT_LCTL_TURNLOCK n = 0 → h.turnAllowed n = true → modeExists (mirrorMode k.lmMode) (h.outPairs n) = true →
      (h.turnLanes n (mirrorMode k.lmMode)).2 = true →
      ∃ t, h.answerReq n k = (((h.sendL0 n 3 (lmgtBlk lmACK k.lmId (mirrorMode k.lmMode) 0 (h.lmDly n) k.lmX)).set
          F.PORT_LMODE_BUSY 1 n).set F.PORT_LMODE_TURNID k.lmId n).setTurn n t ∧
        t.id = k.lmId ∧ t.x = nextX h.time.ridge.toNat k.lmX ∧ t.target = mirrorMode k.lmMode ∧ t.initiator = false ∧
        t.committed = true ∧ t.newSender = true ∧ t.stage = 0)) ∧
  (∀ t : Turn, (h.lane n).turn = some t → t.initiator = true → t.committed = false → t.x ≤ h.time.ridge.toNat + h.dl n + 8 →
    Does (.turnAckDeadline n) h (h.turnOver n 3))) ∧
  (∀ h : Hub,
  (h.awake →
    (∀ (n : PortId) (m : LaneId) (k : Blk), Does (.lmgtReqReceive n ⟨m, k⟩) h (h.lmgtReq n m k)) ∧
    (∀ (n : PortId) (m : LaneId) (k : Blk), Does (.lmgtAckReceive n ⟨m, k⟩) h (h.lmgtAck n m k)) ∧
    (∀ (n : PortId) (m : LaneId) (k : Blk), Does (.lmgtNakReceive n ⟨m, k⟩) h (h.lmgtNak n m k)) ∧
    (∀ (n : PortId), Does (.turnAckDeadline n) h (h.turnAckDeadline n)) ∧
    (∀ (n : PortId) (m : LaneId) (k : Blk), Does (.drepReceive n ⟨m, k⟩) h (h.drepReceive n m k))) ∧
  (h.awake → h.led.wiped = false →
    (∀ (n : PortId) (req : Fin 8), Does (.turnRequest n req) h (h.turnWrite n req))))

/-- Executing and ending a lane turn (R86, R87, R89, R240, R242). -/
def Obligations.TurnRowCommands : Prop :=
  (∀ h : Hub, h.awake → ∀ (n : PortId) (t : Turn), (h.lane n).turn = some t →
  t.committed = true →
  (t.newSender = false → t.stage = 0 → (t.x : Int) - h.dl n ≤ h.time.ridge.toNat →
    Does (.turnOldSenderStart n) h ((((h.setTurn n { t with stage := 1 }).wake n (h.get F.PORT_LSTAT_TXMASK n)).stripe n
      (h.get F.PORT_LSTAT_TXMASK n) (without (h.get F.PORT_LSTAT_TXMASK n) t.lanes)).eiRow n t.lanes)) ∧
  (t.newSender = false → t.stage = 1 → (t.x : Int) + 8 - h.dl n ≤ h.time.ridge.toNat →
    ∃ g, Does (.turnOldSenderSwitch n) h (g.setLane n { g.lane n with lock := without (g.lane n).lock t.lanes }) ∧
      g = (h.setTurn n { t with stage := 2 }).turnSettings n t.lanes 0) ∧
  (t.newSender = true → t.stage = 0 → t.x ≤ h.time.ridge.toNat →
    Does (.turnLaneRemove n) h ((h.set F.PORT_LSTAT_RXMASK (without (h.get F.PORT_LSTAT_RXMASK n) t.lanes) n).setLane n
      { h.lane n with
        turn := some { t with stage := 1 }
        lock := without (h.lane n).lock t.lanes })) ∧
  (t.newSender = true → t.stage = 1 → t.x + 8 ≤ h.time.ridge.toNat →
    Does (.turnPark n) h ((h.setTurn n { t with stage := 2 }).emit (.idle n t.lanes))) ∧
  (t.newSender = true → t.stage = 2 → t.x + 184 ≤ h.time.ridge.toNat →
    let g := (h.setTurn n { t with stage := 3 }).turnSettings n t.lanes 15
    Does (.turnBurst n) h (if g.flag F.PORT_LKSTAT_TXIDLE n then g.wake n (union (g.get F.PORT_LSTAT_TXMASK n) t.lanes)
      else g.burst n t.lanes)) ∧
  (t.newSender = true → t.stage = 3 → t.x + 200 ≤ h.time.ridge.toNat →
    Does (.turnStripe n) h ((h.setTurn n { t with stage := 4 }).stripe n (union (h.get F.PORT_LSTAT_TXMASK n) t.lanes)
      (union (h.get F.PORT_LSTAT_TXMASK n) t.lanes))) ∧
  (∀ m : LaneId, t.newSender = false → t.stage = 2 → bitOf t.lanes m = true → bitOf (h.lane n).lock m = false →
    let g := h.sendL0 n 3 (lmgtBlk lmFAIL t.id t.target 0 (h.lmDly n) t.x)
    let locked := t.lanes &&& (h.lane n).lock
    let k := g.set F.PORT_LSTAT_RXMASK (union (g.get F.PORT_LSTAT_RXMASK n) locked) n
    let k := k.setLane n { k.lane n with burst := without (without t.lanes locked) (2 ^ m.val) }
    Does (.turnLockTimeout n m) h (((k.set F.PORT_LMODE_CUR t.target n).turnOver n 4).startRecovery n m)) ∧
  (∀ (m : LaneId) (k : Blk), k.isA btLmgt = true → h.get F.PORT_LSTAT_STATE n = 7 → t.newSender = true → t.id = k.lmId →
    let g := h.heard n m k;
    (k.lmKind = lmDONE → t.stage = 4 → Does (.lmgtDoneReceive n ⟨m, k⟩) h ((g.set F.PORT_LMODE_CUR t.target n).turnOver n 1)) ∧
    (k.lmKind = lmFAIL → Does (.lmgtFailReceive n ⟨m, k⟩) h
      (g.turnFailed n t (if popCount 4 t.lanes = 1 then t.lanes else 0)))) ∧
  (t.newSender = true → t.x + 240 + 2 * h.dl n + 32 ≤ h.time.ridge.toNat →
    Does (.turnTimeout n) h (h.turnFailed n t t.lanes)) ∧
  (∀ lanes, h.turnFailed n t lanes = (bitList 4 0 lanes).foldl (fun g m => g.recoverSend n m)
    ((h.set F.PORT_LMODE_CUR t.target n).turnOver n 4))) ∧
  (∀ (h : Hub) (n : PortId) (st : Fin 8),
  ((h.turnEnd n st).lane n).turn = none ∧ (h.turnEnd n st).get F.PORT_LMODE_BUSY n = 0 ∧
  (h.turnEnd n st).get F.PORT_LMODE_STATUS n = st ∧ (h.turnEnd n st).get F.PORT_LMODE_CUR n = h.get F.PORT_LMODE_CUR n ∧
  (st = 1 → (h.turnEnd n st).get F.PORT_TURNCNT_DONE n = min (h.get F.PORT_TURNCNT_DONE n + 1) (2 ^ F.PORT_TURNCNT_DONE.w - 1)) ∧
  (st = 3 ∨ st = 4 → (h.turnEnd n st).get F.PORT_TURNCNT_FAILED n =
    min (h.get F.PORT_TURNCNT_FAILED n + 1) (2 ^ F.PORT_TURNCNT_FAILED.w - 1)) ∧
  (st = 2 ∨ st = 5 ∨ st = 6 → (h.turnEnd n st).get F.PORT_TURNCNT_REFUSED n =
    min (h.get F.PORT_TURNCNT_REFUSED n + 1) (2 ^ F.PORT_TURNCNT_REFUSED.w - 1)) ∧
  (h.turnEnd n st).get F.TRF_SHPSTAT_STREAK n = 0 ∧
  (h.turnEnd n st).get F.TRF_SHPSTAT_DWLEFT n = h.get F.TRF_SHPCFG_DWELL n % 2 ^ F.TRF_SHPSTAT_DWLEFT.w) ∧
  (∀ h : Hub,
  (h.awake →
    (∀ (n : PortId), Does (.turnOldSenderStart n) h (h.turnOldStart n)) ∧
    (∀ (n : PortId), Does (.turnOldSenderSwitch n) h (h.turnOldSwitch n)) ∧
    (∀ (n : PortId), Does (.turnLaneRemove n) h (h.turnRemove n)) ∧
    (∀ (n : PortId), Does (.turnPark n) h (h.turnPark n)) ∧
    (∀ (n : PortId), Does (.turnBurst n) h (h.turnBurst n)) ∧
    (∀ (n : PortId), Does (.turnStripe n) h (h.turnStripe n)) ∧
    (∀ (n : PortId) (m : LaneId), Does (.turnLockTimeout n m) h (h.turnLockTimeout n m)) ∧
    (∀ (n : PortId) (m : LaneId) (k : Blk), Does (.lmgtDoneReceive n ⟨m, k⟩) h (h.lmgtDone n m k)) ∧
    (∀ (n : PortId) (m : LaneId) (k : Blk), Does (.lmgtFailReceive n ⟨m, k⟩) h (h.lmgtFail n m k)) ∧
    (∀ (n : PortId), Does (.turnTimeout n) h (h.turnTimeout n))))

/-- Receiving link frames (R97, R98, R99, R101, R102, R103, R104). -/
def Obligations.LinkReceiveCommands : Prop :=
  (∀ h : Hub, h.awake → ∀ (n : PortId) (k : Blk), h.get F.PORT_LSTAT_STATE n = 7 →
  (k.btype = btSof → k.crcOk = false → (h.link n).rx = none →
    let g := h.rxCount n
    Does (.sofReceive n k) h (((g.bump F.PORT_LKERR_HDRERR n).setLink n { g.link n with
      skip := true
      rx := none }).nakWait n false)) ∧
  (k.btype = btSof → k.crcOk = true → (h.link n).rx = none → h.get F.PORT_LKSTAT_STATE n = 2 → k.sof.kind = 0 →
    16 ≤ k.sof.len → k.sof.len ≤ 9232 → k.sof.seq = h.get F.PORT_LKSEQ_RXNEXT n →
    ∃ g, Does (.sofReceive n k) h g ∧ g.get F.PORT_LKSTAT_NAKWAIT n = 0 ∧ (g.link n).skip = false ∧
      (g.link n).rx = some { sof := k, staged := true, id := 0, start := h.time.tick }) ∧
  (k.btype = btSof → k.crcOk = true → (h.link n).rx = none → k.sof.kind = 1 → k.sof.len = 32 →
    ∃ g, Does (.sofReceive n k) h g ∧ (g.link n).skip = false ∧
      (g.link n).rx = some { sof := k, staged := false, id := 0, start := h.time.tick }) ∧
  (k.btype ∉ blockTypes → Does (.dataBlockReceive n true k) h (h.framingError n)) ∧
  (k.btype ∈ blockTypes → Does (.dataBlockReceive n true k) h h) ∧
  ((h.link n).skip = true ∨ (h.link n).rx = none → Does (.dataBlockReceive n false k) h (h.rxCount n)) ∧
  (∀ r : RxOpen, (h.link n).skip = false → (h.link n).rx = some r → r.staged = true → r.blocks = 0 → 1 ≤ r.sof.sof.len →
    Does (.dataBlockReceive n false k) h ((h.rxCount n).setLink n { (h.rxCount n).link n with
      rx := some { r with
        data := r.data ++ beBytes 8 k.toNat
        blocks := 1 } })) ∧
  (∀ r : RxOpen, (h.link n).skip = false → (h.link n).rx = some r → r.staged = true → r.blocks = 1 → 9 ≤ r.sof.sof.len →
    ∃ g f, Does (.dataBlockReceive n false k) h g ∧ g.frm h.core.nextId = some f ∧
      f.hdr = tunHdr (r.data ++ beBytes 8 k.toNat) ∧ f.len = r.sof.sof.len ∧ f.src = n ∧ f.arrived = h.time.tick ∧
      f.lcls = r.sof.sof.cls ∧ f.shc = r.sof.sof.shc) ∧
  (∀ r : RxOpen, (k.btype = btEofg ∨ k.btype = btEofb) → (h.link n).rx = some r → r.staged = true → k.crcOk = true →
    k.fcrc = crc32 (beBytes 8 r.sof.toNat ++ r.data) →
    let g := (h.setLink n { h.link n with rxAt := h.time.tick }).rxCount n
    Does (.trailerReceive n k) h ((g.setLink n { g.link n with rx := none }).acceptFrame n r (k.btype == btEofb)
      (r.blocks == ceilDiv r.sof.sof.len 8))) ∧
  (∀ r : RxOpen, (k.btype = btEofg ∨ k.btype = btEofb) → (h.link n).rx = some r → r.staged = true → k.crcOk = false →
    let g := ((h.rxCount n).setLink n { (h.rxCount n).link n with rx := none }).bump F.PORT_LKERR_CRCERR n
    Does (.trailerReceive n k) h
      (((g.setLink n { g.link n with rx := some r }).failOpen n (!(r.blocks == ceilDiv r.sof.sof.len 8))).nakWait n true)) ∧
  (∀ r : RxOpen, (h.link n).rx = some r → r.start + 20000 ≤ h.time.tick →
    (r.sof.sof.kind ≠ 1 → Does (.openFrameTimeout n) h (h.framingError n)) ∧
    (r.sof.sof.kind = 1 → Does (.openFrameTimeout n) h ((h.bump F.PORT_LKERR_FRMERR n).setLink n { h.link n with rx := none })))) ∧
  (∀ (h : Hub) (n : PortId) (r : RxOpen) (bad whole : Bool),
  h.frm r.id = none →
  (h.acceptFrame n r bad whole).get F.PORT_LKSEQ_RXNEXT n = (h.get F.PORT_LKSEQ_RXNEXT n + 1) % 4096) ∧
  (∀ h : Hub,
  (h.awake →
    (∀ (n : PortId) (k : Blk), Does (.sofReceive n k) h (h.sofReceive n k)) ∧
    (∀ (n : PortId) (k : Blk), Does (.trailerReceive n k) h (h.trailerReceive n k)) ∧
    (∀ (n : PortId), Does (.openFrameTimeout n) h (h.openTimeout n)) ∧
    (∀ (n : PortId) (ctl : Bool) (k : Blk), Does (.dataBlockReceive n ctl k) h (h.dataReceive n ctl k))))

/-- ACK, NAK, POLL, credit, heartbeats and replay (R104, R105, R106, R107, R108, R109, R111, R112, R114, R116). -/
def Obligations.LinkControlCommands : Prop :=
  (∀ h : Hub, h.awake → ∀ (n : PortId) (k : Blk), h.get F.PORT_LKSTAT_STATE n = 2 →
  (k.isA btLcb = true → k.lcAk = 1 → (h.link n).polls = 0 →
    Does (.ackReceive n k) h (((h.alive n).creditField n k.lcPool k.lcCount).release_ n k.lcAseq)) ∧
  (k.isA btLcb = true → k.lcAk = 2 →
    Does (.nakReceive n k) h (((h.alive n).creditField n k.lcPool k.lcCount).takeNak n k.lcAseq k.lcStaged)) ∧
  (k.isA btLcb = true → k.lcPoll = true →
    let g := (h.alive n).creditField n k.lcPool k.lcCount
    (g.get F.PORT_LKSTAT_NAKWAIT n = 1 → Does (.pollReceive n k) h (g.sendLcb n 2 (g.aseq n) (g.link n).nakStaged false 8)) ∧
    (g.get F.PORT_LKSTAT_NAKWAIT n = 0 → Does (.pollReceive n k) h (g.sendLcb n 1 (g.aseq n) false false 8))) ∧
  (k.isA btLcb = true → Does (.creditField n k) h ((h.alive n).creditField n k.lcPool k.lcCount)) ∧
  (k.isA btSof = true → k.sof.crshr = true → Does (.creditField n k) h ((h.alive n).creditField n 8 k.sof.crcnt)) ∧
  (∀ t, (h.link n).ret ≠ [] → (h.link n).rplAt = some t → t + h.get F.PORT_LKTMO_RPLTMO n ≤ h.time.tick →
    ((h.link n).ansAt = some h.time.tick →
      Does (.replayTimerExpiry n) h (h.setLink n { h.link n with rplAt := some h.time.tick })) ∧
    ((h.link n).ansAt ≠ some h.time.tick → (h.link n).polls < 4 → Does (.replayTimerExpiry n) h (((h.bump F.PORT_LKRPL_POLL n).setLink n { h.link n with
      polls := (h.link n).polls + 1
      rplAt := some h.time.tick }).sendLcb n 0 0 false true 8)) ∧
    ((h.link n).ansAt ≠ some h.time.tick → 4 ≤ (h.link n).polls → Does (.replayTimerExpiry n) h ((h.bump F.PORT_LKRPL_EXHAUST n).linkFault n causeReplay))) ∧
  (Does (.creditRefresh n) h ((List.range 9).foldl (fun g p =>
    if Tab.get 0 (g.link n).sent p + 2048 ≤ g.time.tick then g.sendLcb n 0 0 false false p else g) h)) ∧
  (h.get F.PORT_LKSTAT_TXIDLE n = 0 → (h.link n).lcbAt + 200 ≤ h.time.tick →
    Does (.heartbeatSend n) h (h.sendLcb n 0 0 false false 8)) ∧
  (h.get F.PORT_LKSTAT_RXIDLE n = 0 → (h.link n).rxAt + 600 ≤ h.time.tick →
    Does (.heartbeatLoss n) h ((h.bump F.PORT_LKDOWN_HBLOSS n).linkFault n causeHeartbeat)) ∧
  (∀ t, (h.link n).ackAt = some t →
    (t ≤ h.time.tick → h.ackTick n =
      (h.setLink n { h.link n with ackAt := none }).sendLcb n 1 ((h.get F.PORT_LKSEQ_RXNEXT n + 4095) % 4096) false false 8) ∧
    (h.time.tick < t → h.ackTick n = h))) ∧
  (∀ (h : Hub) (n : PortId) (p : Fin 9) (c : Fin 128),
  h.get F.PORT_LKSTAT_STATE n = 2 → (h.link n).replay = [] → (p.val < 8 → h.crd n p + 127 < 256) → (p.val = 8 → h.crd n p + 127 < 1024) →
  (h.creditField n p c).crd n p = h.crd n p + (c.val + 128 - Tab.get 0 (h.link n).last p) % 128 ∧
  Tab.get 0 ((h.creditField n p c).link n).last p = c ∧
  ∀ m : PortId, m ≠ n → ∀ p' : Fin 9, (h.creditField n p c).crd m p' = h.crd m p') ∧
  (∀ h : Hub,
  (h.awake →
    (∀ (n : PortId) (k : Blk), Does (.ackReceive n k) h (h.ackReceive n k)) ∧
    (∀ (n : PortId) (k : Blk), Does (.nakReceive n k) h (h.nakReceive n k)) ∧
    (∀ (n : PortId) (k : Blk), Does (.pollReceive n k) h (h.pollReceive n k)) ∧
    (∀ (n : PortId) (k : Blk), Does (.creditField n k) h (h.creditBlk n k)) ∧
    (∀ (n : PortId), Does (.replayTimerExpiry n) h (h.replayTimer n)) ∧
    (∀ (n : PortId), Does (.creditRefresh n) h (h.creditRefresh n)) ∧
    (∀ (n : PortId), Does (.heartbeatSend n) h (h.heartbeatSend n)) ∧
    (∀ (n : PortId), Does (.heartbeatLoss n) h (h.heartbeatLoss n))))

/-- Bringing the link up and down (R118, R119, R120). -/
def Obligations.LinkBringUpCommands : Prop :=
  (∀ h : Hub, h.awake → ∀ n : PortId,
  (h.get F.PORT_LKSTAT_STATE n = 0 → h.get F.PORT_LSTAT_STATE n = 7 → h.staged n = 0 →
    Does (.lparamSend n) h (((h.set F.PORT_LKSTAT_STATE 1 n).setLink n { h.link n with
      initAt := h.time.tick
      ded := h.dedCfg n }).sendLparam n)) ∧
  (∀ t, h.get F.PORT_LKSTAT_STATE n = 1 → (h.link n).lpAt = some t → t + 64 ≤ h.time.tick →
    Does (.lparamSend n) h (h.sendLparam n)) ∧
  (∀ body : List (BitVec 8), h.get F.PORT_LSTAT_STATE n = 7 → body.length = 32 → body.getD 0 0#8 = 1#8 → body.getD 1 0#8 = 1#8 →
    h.get F.PORT_LKSTAT_STATE n = 1 → (h.link n).epoch = some (beNat (sub body 4 2)) →
    Does (.lparamReceive n body) h ((h.setLink n { h.link n with
      pepoch := beNat (sub body 2 2)
      rxAt := h.time.tick }).comeUp n body)) ∧
  (∀ body : List (BitVec 8), h.get F.PORT_LSTAT_STATE n = 7 → body.length = 32 → body.getD 0 0#8 = 1#8 → body.getD 1 0#8 = 1#8 →
    h.get F.PORT_LKSTAT_STATE n = 2 → beNat (sub body 2 2) ≠ h.get F.PORT_LKSTAT_PEPOCH n →
    Does (.lparamReceive n body) h ((h.setLink n { h.link n with
      pepoch := beNat (sub body 2 2)
      rxAt := h.time.tick }).dropLanes n causeEpoch)) ∧
  (h.get F.PORT_LKSTAT_STATE n = 1 → (h.link n).initAt + 20000 ≤ h.time.tick →
    Does (.initTimeout n) h ((h.bump F.PORT_TRCNT_FAILED n).dropLanes n causeLanes)) ∧
  (h.get F.PORT_LKSTAT_STATE n ≠ 0 → Does (.holdExpiry n) h h) ∧
  (∀ t, h.get F.PORT_LKSTAT_STATE n = 0 → (h.link n).downAt = some t → t + 40000 * h.get F.PORT_LKCTL_HOLD n ≤ h.time.tick →
    Does (.holdExpiry n) h ((h.flush n).setLink n { (h.flush n).link n with downAt := none }))) ∧
  (∀ (h : Hub) (n : PortId) (c : Fin 5),
  (h.linkDown n c).get F.PORT_LKSTAT_STATE n = 0 ∧
  (h.get F.PORT_LKSTAT_STATE n = 0 → h.linkDown n c = h)) ∧
  (∀ h : Hub,
  (h.awake →
    (∀ (n : PortId), Does (.lparamSend n) h (h.lparamSend n)) ∧
    (∀ (n : PortId) (body : List (BitVec 8)), Does (.lparamReceive n body) h (h.lparamReceive n body)) ∧
    (∀ (n : PortId), Does (.initTimeout n) h (h.initTimeout n)) ∧
    (∀ (n : PortId), Does (.holdExpiry n) h (h.holdExpiry n))))

/-- Tunnel entries: opening, draining, closing, and protected delivery (R147, R148, R149, R153, R154, R155, R156, R157, R158).
-/
def Obligations.TunnelEntryCommands : Prop :=
  (∀ h : Hub, h.awake → h.led.wiped = false → ∀ t : TunnelId, t.val ≠ 0 → ∀ v : Word,
  (∀ g : Hub, g = (h.set F.TUN_W0_ANYSRC (v.bits 14 1) t).set F.TUN_W0_CLASS (v.bits 8 3) t →
    (v.bits 0 1 = 1 → h.get F.TUN_W0_STATE t ≠ 0 → Does (.tunnelOpen t v) h g) ∧
    (v.bits 0 1 = 0 → h.get F.TUN_W0_STATE t = 1 ∨ h.get F.TUN_W0_STATE t = 3 → Does (.tunnelClose t v) h (g.drainEntry t)) ∧
    (v.bits 0 1 = 0 → h.get F.TUN_W0_STATE t = 2 → (h.tun t).opening = false → Does (.tunnelClose t v) h g)) ∧
  (v.bits 0 1 = 1 → h.get F.TUN_W0_STATE t = 0 → v.bits 4 4 = 1 → v.bits 11 1 = 0 → h.get F.TUN_W2_FUNC t = 0 →
    v.bits 24 7 = h.get F.TUN_W0_SLICE t →
    ∃ g, Does (.tunnelOpen t v) h g ∧ g.get F.TUN_W0_STATE t = 0 ∧ (g.tunTick t).get F.TUN_W0_STATE t = 1 ∧ g.get F.TUN_W0_EN t = 1 ∧ g.get F.TUN_W0_TYPE t = 1 ∧
      g.get F.TUN_W0_CLASS t = v.bits 8 3 ∧ g.get F.TUN_W0_ANYSRC t = v.bits 14 1 ∧ g.get F.TUN_W0_AUTH t = v.bits 13 1 ∧
      g.get F.TUN_W0_BCAST t = v.bits 12 1 ∧ h.sameRegs [F.TUN_W0_EN.addr t 0] g) ∧
  (h.get F.TUN_W0_STATE t = 2 → h.core.frames = [] → (h.tun t).retain = [] → Does (.drainEnd t) h (h.closeEntry t)) ∧
  (h.get F.TUN_W0_STATE t = 2 → h.core.frames = [] → ∀ d, (h.tun t).drainAt = some d → d + 200000 ≤ h.time.tick →
    Does (.drainDeadline t) h (h.closeEntry t)) ∧
  ((h.closeEntry t).get F.TUN_W0_STATE t = 0 ∧ (h.closeEntry t).get F.TUN_W0_EN t = 0 ∧ (h.closeEntry t).tun t = {})) ∧
  (∀ h : Hub, h.awake →
  (h.time.ridge.toNat % 200 ≠ 0 → Does .protectedWindowEnd h h) ∧
  (h.time.ridge.toNat % 200 = 0 → h.protTuns = [] → h.tuns = [] → Does .protectedWindowEnd h h) ∧
  (∀ (f : Machine.Frm) (g : Hub), h.takeMsg (fun f => f.isMop mopPhb) = some (f, g) → f.hbEntries = none →
    Does .phbReceive h (g.disc 0)) ∧
  (∀ (f : Machine.Frm) (g : Hub) (e : Nat × Nat), h.takeMsg (fun f => f.isMop mopPhb) = some (f, g) → f.hbEntries = some [e] →
    ∀ t, t = e.1 / 2 ^ 8 % 2 ^ 12 →
    (g.get F.TUN_W0_PROT t = 0 → Does .phbReceive h (g.bump F.FAB_TUNDISC1_NOEP)) ∧
    (g.get F.TUN_W0_PROT t = 1 → g.get F.TUN_W0_STATE t = 1 → bitOf e.1 7 = false →
      Does .phbReceive h (g.setTun t { g.tun t with seen := true })) ∧
    (g.get F.TUN_W0_PROT t = 1 → (g.get F.TUN_W0_STATE t = 1 ∨ g.get F.TUN_W0_STATE t = 3) → bitOf e.1 7 = true → (g.tun t).held = [] →
      ∃ k, Does .phbReceive h k ∧ k.get F.TUN_W5_RXNEXT t = e.2 % 2 ^ 24 ∧ (k.tun t).started = true ∧ (k.tun t).seen = true)) ∧
  (∀ (f : Machine.Frm) (g : Hub) (e : Nat × Nat), h.takeMsg (fun f => f.isMop mopPack) = some (f, g) → f.hbEntries = some [e] →
    ∀ t, t = e.1 / 2 ^ 20 % 2 ^ 12 →
    (g.get F.TUN_W0_PROT t = 0 → Does .packReceive h g) ∧
    (g.get F.TUN_W0_PROT t = 1 → g.get F.TUN_W0_STATE t ≠ 0 → bitOf e.1 7 = false → bitOf e.1 6 = false → bitOf e.1 5 = false →
      bitOf e.1 4 = false →
      Does .packReceive h
        (let k := g.releaseTo t (e.2 % 2 ^ 24)
         k.setTun t { k.tun t with hold := none }))) ∧
  (∀ (i : Nat) (f : Machine.Frm) (t : TunnelId) (l : List (Nat × Option Machine.Frm)), h.core.frames = (i, some f) :: l →
    f.phase = Machine.Phase.protected_ t → f.ended = some true → f.retained = false → f.endBad = false →
    h.get F.TUN_W0_STATE t = 1 → (h.tun t).started = true →
    ∀ d, d = (f.hdr.eseq + 2 ^ 24 - h.get F.TUN_W5_RXNEXT t) % 2 ^ 24 →
    ∀ g, g = h.setTun t { h.tun t with seen := true } →
    (d = 0 → (∀ x ∈ (h.tun t).held, x.1 ≠ f.hdr.eseq) → Does .protectedPacketArrive h (g.deliverNext t i f)) ∧
    (0 < d → d < 4096 → (∀ x ∈ (h.tun t).held, x.1 ≠ f.hdr.eseq) → Does .protectedPacketArrive h (g.holdPacket t i f)) ∧
    (d < 4096 → (∃ x ∈ (h.tun t).held, x.1 = f.hdr.eseq) → Does .protectedPacketArrive h ((g.bump F.FAB_PROTCNT_DUP).dropStaged i)) ∧
    (4096 ≤ d → d + 8192 < 2 ^ 24 → h.get F.TUN_W5_RXNEXT t < 2 ^ 24 → f.hdr.eseq < 2 ^ 24 →
      Does .protectedPacketArrive h ((g.bump F.FAB_PROTCNT_OOW).dropStaged i)) ∧
    (2 ^ 24 ≤ d + 8192 → h.get F.TUN_W5_RXNEXT t < 2 ^ 24 → f.hdr.eseq < 2 ^ 24 →
      Does .protectedPacketArrive h ((g.bump F.FAB_PROTCNT_DUP).dropStaged i))) ∧
  (∀ (t : TunnelId) (k d : Nat), (h.tun t).gapAt = some k → k + 200 * h.get F.FAB_TUNCFG_REORDTMO ≤ h.time.tick → h.lowestHeld t = some d →
    Does (.gapTimerExpiry t) h
      (let g := h.set F.TUN_W5_RXNEXT (h.get F.TUN_W5_RXNEXT t + d) t
       let g := (g.bump F.TUN_W7_LOST t d).bump F.FAB_PROTCNT_LOST 0 d
       let g := ((g.setTun t { g.tun t with gapAt := none }).deliverRun t 4096).gapCheck t
       g.rec1 (prodSlice (g.get F.TUN_W0_SLICE t)) 3 0x08 52 (2 ^ 12 * min d 0xFFF + t)))) ∧
  (∀ h : Hub,
  (h.awake →
    (∀ (t : TunnelId), Does (.drainEnd t) h (h.drainEnd t)) ∧
    (∀ (t : TunnelId), Does (.drainDeadline t) h (h.drainDeadline t)) ∧
    Does .protectedWindowEnd h h.protWindow ∧
    Does .phbReceive h h.phbReceive ∧
    Does .packReceive h h.packReceive ∧
    Does .protectedPacketArrive h h.packetArrive ∧
    (∀ (t : TunnelId), Does (.gapTimerExpiry t) h (h.gapExpiry t))) ∧
  (h.awake → h.led.wiped = false →
    (∀ (t : TunnelId) (v : Word), Does (.tunnelOpen t v) h (h.tunnelOpen t v)) ∧
    (∀ (t : TunnelId) (v : Word), Does (.tunnelClose t v) h (h.tunnelClose t v))))

/-- The route stage, admission, minimums and the retention quota (R15, R29, R129, R130, R197, R199, R200, R201, R202). -/
def Obligations.AdmissionCommands : Prop :=
  (∀ h : Hub, h.awake → ∀ (p : EgressId) (i : Nat) (f : Machine.Frm) (l : List Nat),
  h.arriving p = i :: l → h.frm i = some f → h.get F.CORE_CFG_RAEN = 0 →
  (f.hdr.hcrc ≠ crc16 f.hdr.crcInput → Does (.routeStage p) h (h.routeDrop i F.FAB_TUNDISC0_HCRC)) ∧
  (f.hdr.hcrc = crc16 f.hdr.crcInput → f.hdr.formOk f.len f.lcls = false →
    Does (.routeStage p) h (h.routeDrop i F.FAB_TUNDISC0_HDR)) ∧
  (f.hdr.hcrc = crc16 f.hdr.crcInput → f.hdr.formOk f.len f.lcls = true → f.hdr.b = false → f.hdr.dhub ≠ 0xFFFF →
    (h.get F.FAB_ID_VALID = 1 → h.get F.FAB_ID_HUBID = f.hdr.dhub →
      (∀ c, h.endpointFail f = some c → Does (.routeStage p) h (h.endpointDrop i f.hdr.dtun c)) ∧
      (h.endpointFail f = none → f.hdr.p = false →
        Does (.routeStage p) h (h.toQueues i [h.sinkOf f.hdr.dtun * 8 + f.hdr.cls]))) ∧
    ((h.get F.FAB_ID_VALID = 0 ∨ h.get F.FAB_ID_HUBID ≠ f.hdr.dhub) →
      (f.hdr.hops = 0 → Does (.routeStage p) h (h.routeDrop i F.FAB_TUNDISC0_HOPS)) ∧
      (f.hdr.hops ≠ 0 → f.retained = false → h.chooseEgress f.hdr.dhub = none →
        Does (.routeStage p) h (h.routeDrop i F.FAB_TUNDISC0_NOROUTE)) ∧
      (∀ e, f.hdr.hops ≠ 0 → f.retained = false → h.chooseEgress f.hdr.dhub = some (e, false) →
        Does (.routeStage p) h (h.toQueues i [e * 8 + f.hdr.cls])) ∧
      (∀ e, f.hdr.hops ≠ 0 → f.retained = false → h.chooseEgress f.hdr.dhub = some (e, true) →
        Does (.routeStage p) h ((h.bump F.FAB_ROUTECNT_FALLBACK).toQueues i [e * 8 + f.hdr.cls]))))) ∧
  (∀ h : Hub,
  (∀ (i q : Nat) (f : Machine.Frm), h.frm i = some f → f.retained = false →
    (h.accepts q f.n f.yellow = true → h.get F.CORE_CLSCFG_MODE f.hdr.cls = 1 → h.check i [q] = (h.commit i [q] [], true)) ∧
    (h.accepts q f.n f.yellow = true → h.get F.CORE_CLSCFG_MODE f.hdr.cls = 0 →
      h.check i [q] = ((h.bump F.CORE_DROPCNT0_THRESH 0 0).commit i [q] [], true)) ∧
    (h.accepts q f.n f.yellow = false → h.get F.CORE_CLSCFG_MODE f.hdr.cls = 1 → h.check i [q] = (h, false)) ∧
    (h.accepts q f.n f.yellow = false → h.get F.CORE_CLSCFG_MODE f.hdr.cls = 0 →
      h.check i [q] = ((h.bump F.CORE_DROPCNT0_THRESH).dropStaged i 6, false))) ∧
  (h.awake → h.get F.GLB_FATAL_VALID = 0 →
    Does .admitCells h ((h.deliverAll.admitUpTo (h.get F.CORE_STAT_CEIL - h.written.length)).pumpAll)) ∧
  (h.awake → h.get F.GLB_FATAL_VALID = 0 → h.core.staging = [] → h.core.tx = [] → h.tuns = [] →
    Does .admitCells h h) ∧
  (h.awake → h.led.wiped = false → ∀ (p : Path) (q : Fin 272) (v : Fin 262144), h.pathLimit p = none →
    let g := (h.keepFirst (F.CORE_QCFG_MIN.addr q 0)).unrefuse (fkey F.CORE_QCFG_MIN q)
    let s := g.firstOf F.CORE_QCFG_MIN q
    (h.get F.CORE_QCFG_MIN q < v.val → 229376 < h.sumMin + h.get F.CORE_RETQ_QUOTA - h.get F.CORE_QCFG_MIN q + v →
      Does (.minWrite p q v) h ((if h.sumMin + h.get F.CORE_RETQ_QUOTA - h.get F.CORE_QCFG_MIN q + s ≤ 229376 then
        (g.set F.CORE_QCFG_MIN s q).pool else g).refuseFor (fkey F.CORE_QCFG_MIN q) 0x50 (h.writer p) 0)) ∧
    ((v.val ≤ h.get F.CORE_QCFG_MIN q ∨ h.sumMin + h.get F.CORE_RETQ_QUOTA - h.get F.CORE_QCFG_MIN q + v ≤ 229376) →
      Does (.minWrite p q v) h (g.set F.CORE_QCFG_MIN v q).pool)) ∧
  (h.awake → h.led.wiped = false → ∀ (p : Path) (v : Fin 131072), h.pathLimit p = none →
    let g := (h.keepFirst (F.CORE_RETQ_QUOTA.addr 0 0)).unrefuse (fkey F.CORE_RETQ_QUOTA 0)
    let s := g.firstOf F.CORE_RETQ_QUOTA 0
    (65536 < v.val → Does (.quotaWrite p v) h h) ∧
    (v.val ≤ 65536 → h.get F.CORE_RETQ_QUOTA < v.val → 229376 < h.sumMin + v →
      Does (.quotaWrite p v) h ((if h.sumMin + s ≤ 229376 then (g.set F.CORE_RETQ_QUOTA s).pool else g).refuseFor
        (fkey F.CORE_RETQ_QUOTA 0) 0x50 (h.writer p) 0)) ∧
    (v.val ≤ 65536 → v.val ≤ h.get F.CORE_RETQ_QUOTA ∨ h.sumMin + v ≤ 229376 →
      Does (.quotaWrite p v) h (g.set F.CORE_RETQ_QUOTA v).pool))) ∧
  (∀ h : Hub,
  (h.awake →
    Does .admitCells h h.admitCells ∧
    (∀ (p : EgressId), Does (.routeStage p) h (h.routeStage p))) ∧
  (h.awake → h.led.wiped = false →
    (∀ (p : Path) (q : Fin 272) (v : Fin 262144),
      Does (.minWrite p q v) h (h.when ((h.pathLimit p).isNone) (fun h => h.minWrite p q v))) ∧
    (∀ (p : Path) (v : Fin 131072), Does (.quotaWrite p v) h (h.when ((h.pathLimit p).isNone) (fun h => h.quotaWrite p v)))))

/-- Egress selection, ageing and the sweeper (R206, R211, R212, R213, R214, R220, R221, R222). -/
def Obligations.EgressAndAgeingCommands : Prop :=
  (∀ h : Hub, h.awake →
  (∀ (e : EgressId) (ecc : List (Nat × Bool)), h.get F.GLB_FATAL_VALID = 0 → (∀ c < 8, h.queue (e * 8 + c) = []) →
    Does (.egressSelect e ecc) h h) ∧
  (∀ (e : EgressId) (c i : Nat) (f : Machine.Frm), e.val < 32 → c < 8 → h.egressFree e = true → h.get F.GLB_FATAL_VALID = 0 →
    (∀ c' < 8, c' ≠ c → h.queue (e * 8 + c') = []) → h.head (e * 8 + c) = some (i, f) → h.aged f = false →
    f.len ≤ (h.link e).maxlen → h.eligible e c f = true → ∀ ecc : List (Nat × Bool),
    Does (.egressSelect e ecc) h
      (((h.eccRead f.cells ecc).shaperCharge (4096 + e * 8 + c) (h.chargeLen e f.hdr.plen)).startFrame e (e * 8 + c) i)) ∧
  (∀ (i : Nat) (f : Machine.Frm) (l : Nat), h.frm i = some f → f.phase = Machine.Phase.accepted → h.waits i f = true → f.expired = none →
    h.life f.hdr.cls = some l →
    ∃ g, Does .lifetimeExpiry h g ∧ g.regs = h.regs ∧
      (l < h.age f → g.frm i = some { f with expired := some h.time.tick }) ∧ (h.age f ≤ l → g.frm i = some f)) ∧
  (h.get F.CORE_CFG_SWEEPEN = 0 → Does .sweeperVisit h h) ∧
  (∀ (q i k : Nat) (f : Machine.Frm), h.head q = some (i, f) →
    (h.aged f = true → h.sweepQueue q (k + 1) = ((h.bump F.CORE_DROPCNT0_AGED).dropCopy i q).sweepQueue q k) ∧
    (h.aged f = false → q / 8 < 32 → h.get F.PORT_LKSTAT_STATE (q / 8) = 0 → h.inHold (q / 8) = false →
      h.sweepQueue q (k + 1) = ((h.bump F.CORE_DROPCNT1_EGRDOWN).dropCopy i q).sweepQueue q k)) ∧
  (h.get F.CORE_CFG_SWEEPEN = 1 → Does .sweeperVisit h
    (let g := h.each (h.core.queues.map (·.1)) (fun q g => g.sweepQueue q (g.queue q).length)
     g.each (g.core.staging.map (·.1)) (fun k g => g.sweepStage k (g.stage k).length))) ∧
  (h.led.wiped = false → Does .flowCacheFlush h { h with core := { h.core with fc := [] } })) ∧
  (∀ h : Hub,
  (h.awake →
    (∀ (e : EgressId) (ecc : List (Nat × Bool)), Does (.egressSelect e ecc) h (h.egressSelect e ecc)) ∧
    Does .lifetimeExpiry h h.lifetimeExpiry ∧
    Does .sweeperVisit h h.sweep) ∧
  (h.awake → h.led.wiped = false →
    Does .flowCacheFlush h h.flowFlush))

/-- Gates and the shepherd (R227, R228, R229, R230, R240, R241, R242). -/
def Obligations.GateCommands : Prop :=
  (∀ h : Hub, h.awake → h.led.wiped = false → ∀ e : EgressId,
  (h.get F.TRF_GCTL_EN e = 1 → (h.gate e).active.isSome →
    Does (.gateEntryChange e) h (h.gateShow e) ∧
    (h.gateShow e).get F.TRF_GSTAT_GATES e = (h.gatesAt e h.time.ridge.toNat).2 % 256 ∧
    (h.gateShow e).get F.TRF_GSTAT_ENTRY e = (h.gatesAt e h.time.ridge.toNat).1 % 256) ∧
  (h.commitRefused e = true → Does (.gateCommit e) h (h.raise F.TRF_GSTAT_CERR 1 e)) ∧
  (∀ b base : Nat, b = 1 - h.get F.TRF_GSTAT_ACTBANK e → base = h.get64 F.TRF_GBASE_LO_BASE_LO F.TRF_GBASE_HI_BASE_HI e →
    h.commitRefused e = false →
    (h.time.ridge.toNat + 2 ≤ base →
      Does (.gateCommit e) h ((h.setGate e { h.gate e with pending := some base }).set F.TRF_GSTAT_PEND 1 e)) ∧
    (base < h.time.ridge.toNat + 2 →
      ∃ s k, Does (.gateCommit e) h
          (((h.setGate e { h.gate e with pending := some s }).set F.TRF_GSTAT_PEND 1 e).raise F.TRF_GSTAT_LATE 1 e) ∧
        s = base + k * h.gcyc e b ∧ h.time.ridge.toNat + 2 ≤ s ∧ s < h.time.ridge.toNat + 2 + h.gcyc e b)) ∧
  Does (.gateAbort e) h ((h.setGate e { h.gate e with pending := none }).set F.TRF_GSTAT_PEND 0 e) ∧
  (∀ s, (h.gate e).pending = some s → s ≤ h.time.ridge.toNat →
    Does (.gateSwitchover e) h
      (let g := (h.setGate e { active := some s, pending := none }).set F.TRF_GSTAT_PEND 0 e
       ((g.set F.TRF_GSTAT_ACTBANK (1 - h.get F.TRF_GSTAT_ACTBANK e) e).set64 F.TRF_GBASE_LO_BASE_LO F.TRF_GBASE_HI_BASE_HI s e).gateShow e)) ∧
  Does (.gateDisable e) h ((((h.set F.TRF_GCTL_EN 0 e).setGate e {}).set F.TRF_GSTAT_PEND 0 e).gateShow e) ∧
  (h.get F.TRF_GCTL_EN e = 0 → ∀ t, (h.gatesAt e t).2 = 0xFF)) ∧
  (∀ h : Hub, h.awake → ∀ n : PortId, h.get F.TRF_SHPCFG_EN n = 1 →
  ∀ w, w = 1024 * 2 ^ h.get F.TRF_SHPCFG_WIN n → h.time.ridge.toNat % w = 0 →
  (∀ j, h.time.jumpAt = some j → h.time.tick < j + w → Does (.shepherdWindowEnd n) h h) ∧
  ((∀ j, h.time.jumpAt = some j → j + w ≤ h.time.tick) →
    ∀ utx urx, utx = utilisation ((h.link n).txFlow.last w (h.time.ridge.toNat / w)) (h.txRate n) w →
    urx = utilisation ((h.link n).rxFlow.last w (h.time.ridge.toNat / w)) (h.rxRate n) w →
    ∀ g : Hub, g = (h.set F.TRF_SHPSTAT_UTX utx n).set F.TRF_SHPSTAT_URX urx n →
    ((h.lane n).turn.isSome → Does (.shepherdWindowEnd n) h ((g.set F.TRF_SHPSTAT_STREAK 0 n).setShep n { g.shep n with row := 0 })) ∧
    ((h.lane n).turn = none → 0 < g.get F.TRF_SHPSTAT_DWLEFT n →
      Does (.shepherdWindowEnd n) h (((g.set F.TRF_SHPSTAT_DWLEFT (g.get F.TRF_SHPSTAT_DWLEFT n - 1) n).set F.TRF_SHPSTAT_STREAK 0 n).setShep n
        { g.shep n with row := 0 })) ∧
    ((h.lane n).turn = none → g.get F.TRF_SHPSTAT_DWLEFT n = 0 →
      trigger (g.get F.PORT_LMODE_CUR n) utx urx (g.get F.TRF_SHPCFG_HI n) (g.get F.TRF_SHPCFG_LO n) (g.backlogged n) = none →
      Does (.shepherdWindowEnd n) h ((g.set F.TRF_SHPSTAT_STREAK 0 n).setShep n { g.shep n with row := 0 })) ∧
    (∀ row code target, (h.lane n).turn = none → g.get F.TRF_SHPSTAT_DWLEFT n = 0 →
      trigger (g.get F.PORT_LMODE_CUR n) utx urx (g.get F.TRF_SHPCFG_HI n) (g.get F.TRF_SHPCFG_LO n) (g.backlogged n) =
        some (row, code, target) → (g.shep n).row ≠ row → 1 < g.get F.TRF_SHPCFG_HOLDN n →
      Does (.shepherdWindowEnd n) h
        (((g.set F.TRF_SHPSTAT_STREAK 1 n).set F.TRF_SHPSTAT_TRIG code n).setShep n { g.shep n with row := row })))) ∧
  (∀ h : Hub,
  (h.awake →
    (∀ (e : EgressId), Does (.gateEntryChange e) h (h.gateEntryChange e)) ∧
    (∀ (e : EgressId), Does (.gateSwitchover e) h (h.gateSwitchover e)) ∧
    (∀ (n : PortId), Does (.shepherdWindowEnd n) h (h.shepWindow n))) ∧
  (h.awake → h.led.wiped = false →
    (∀ (e : EgressId), Does (.gateCommit e) h (h.gateCommit e)) ∧
    (∀ (e : EgressId), Does (.gateAbort e) h (h.gateAbort e)) ∧
    (∀ (e : EgressId), Does (.gateDisable e) h (h.gateDisable e))))

/-- Shapers and meters (R231, R232, R234, R235, R236, R237). -/
def Obligations.ShaperCommands : Prop :=
  (∀ h : Hub, h.awake → h.led.wiped = false →
  (∀ (i : Fin 4096) (v : Word), Does (.shaperWrite false i 0 v) h
    (let g := ((h.set F.TSHP_W0_EN (v.bits 31 1) i).set F.TSHP_W0_RATE (v.bits 0 24) i).set F.TSHP_W0_PEND 1 i
     { g with trf := { g.trf with pendS := addOnce g.trf.pendS i } })) ∧
  (∀ (i : Fin 4096) (v : Word), Does (.shaperWrite false i 1 v) h
    (let g := (h.set F.TSHP_W1_BURST (v.bits 16 16) i).set F.TSHP_W0_PEND 1 i
     { g with trf := { g.trf with pendS := addOnce g.trf.pendS i } })) ∧
  (∀ (i : Fin 4096) (v : Word), i.val < 272 → Does (.shaperWrite true i 0 v) h
    (let g := ((h.set F.QSHP_W0_EN (v.bits 31 1) i).set F.QSHP_W0_RATE (v.bits 0 24) i).set F.QSHP_W0_PEND 1 i
     { g with trf := { g.trf with pendS := addOnce g.trf.pendS (4096 + i) } })) ∧
  (∀ (i : Fin 4096) (v : Word), i.val < 272 → Does (.shaperWrite true i 1 v) h
    (let g := (h.set F.QSHP_W1_BURST (v.bits 16 16) i).set F.QSHP_W0_PEND 1 i
     { g with trf := { g.trf with pendS := addOnce g.trf.pendS (4096 + i) } })) ∧
  (∀ (m : Fin 4096) (v : Word), Does (.meterWrite m 1 v) h
    (let g := (h.set F.MTR_W1_PIR (v.bits 0 24) m).set F.MTR_W0_PEND 1 m
     { g with trf := { g.trf with pendM := addOnce g.trf.pendM m } })) ∧
  (∀ (m : Fin 4096) (v : Word), Does (.meterWrite m 2 v) h
    (let g := ((h.set F.MTR_W2_CBS (v.bits 16 16) m).set F.MTR_W2_PBS (v.bits 0 16) m).set F.MTR_W0_PEND 1 m
     { g with trf := { g.trf with pendM := addOnce g.trf.pendM m } })) ∧
  (∀ (m : Fin 4096) (v : Word), ∃ g, Does (.meterWrite m 0 v) h g ∧ g.get F.MTR_W0_EN m = v.bits 31 1 ∧
    g.get F.MTR_W0_AWARE m = v.bits 30 1 ∧ g.get F.MTR_W0_RACT m = v.bits 29 1 ∧ g.get F.MTR_W0_YSHIFT m = v.bits 26 2 ∧
    g.get F.MTR_W0_CIR m = v.bits 0 24 ∧ g.get F.MTR_W0_PEND m = 1 ∧ h.sameRegs [F.MTR_W0_EN.addr m 0] g) ∧
  (h.time.ridge.toNat % (64 * 2 ^ h.trf.period) ≠ 0 → Does .shaperRefill h h) ∧
  (h.time.ridge.toNat % (64 * 2 ^ h.trf.period) = 0 → h.trf.pendS = [] → h.trf.pendM = [] → h.trf.meters = [] →
    ∀ (i : Nat) (x : ShaperSt), h.trf.shapers = [(i, x)] →
    Does .shaperRefill h
      (let g := h.setShaper i (x.accrue (h.time.tick - h.trf.refillAt))
       { g with trf := { g.trf with
          pendS := []
          pendM := []
          refillAt := h.time.tick
          period := h.get F.TRF_SHREF_PERIOD } }))) ∧
  ((∀ (x : ShaperSt) (n : Nat), x.en = true →
    (x.accrue n).tok = min (x.tok + ((x.rate * n : Nat) : Int)) ((64 * 4096 * x.burst : Nat) : Int)) ∧
  (∀ (h : Hub) (i l : Nat), (h.shaper i).en = true →
    ((h.shaperCharge i l).shaper i).tok = (h.shaper i).tok - ((4096 * l : Nat) : Int)) ∧
  (∀ (h : Hub) (i : Nat), (h.shaperOk i = true ↔ (h.shaper i).en = false ∨ 0 ≤ (h.shaper i).tok)) ∧
  (∀ (x : MeterSt) (pre l : Nat), x.en = true → x.aware = false →
    (x.tp < ((4096 * l : Nat) : Int) → meterColour x pre l = (2, x)) ∧
    (((4096 * l : Nat) : Int) ≤ x.tp → x.tc < ((4096 * l : Nat) : Int) →
      meterColour x pre l = (1, { x with tp := x.tp - ((4096 * l : Nat) : Int) })) ∧
    (((4096 * l : Nat) : Int) ≤ x.tp → ((4096 * l : Nat) : Int) ≤ x.tc →
      meterColour x pre l = (0, { x with
        tp := x.tp - ((4096 * l : Nat) : Int)
        tc := x.tc - ((4096 * l : Nat) : Int) })))) ∧
  (∀ h : Hub,
  (h.awake →
    Does .shaperRefill h h.refill) ∧
  (h.awake → h.led.wiped = false →
    (∀ (q : Bool) (i : Fin 4096) (w : Fin 2) (v : Word),
      Does (.shaperWrite q i w v) h (h.when (q = false ∨ i.val < 272) (fun h => h.shaperWrite q i w v))) ∧
    (∀ (m : Fin 4096) (w : Fin 3) (v : Word), Does (.meterWrite m w v) h (h.meterWrite m w v))))

/-- Fabric assembly messages and timers (R164, R167, R168, R171, R172, R173, R174, R185, R186, R187, R188). -/
def Obligations.FabricMessageCommands : Prop :=
  (∀ (h k : Hub) (f : Machine.Frm), h.awake → f.fld 8 15 = 1 → f.src < 32 →
  k.get F.PORT_LKSTAT_STATE f.src = 2 →
  (h.takeMsg (fun x => x.isMop mopHello) = some (f, k) →
    Does .helloReceive h (k.takeHello f.src f) ∧
    (k.get F.TIME_CTL_SUMMIT = 1 → f.fld 37 37 = 1 → k.takeHello f.src f =
      (((k.set F.FAB_PORTSTAT_KIND (f.fld 32 35) f.src).set F.FAB_PORTSTAT_PHUB (f.fld 48 63) f.src).setFabp f.src
        { k.fabp f.src with
          heard := true
          helloAt := some k.time.tick
          sentAt := if (k.fabp f.src).await = true ∧ (k.fabp f.src).sentAt + 20000 = k.time.tick then k.time.tick
            else (k.fabp f.src).sentAt }).roleErr f.src)) ∧
  (h.takeMsg (fun x => x.isMop mopDlg) = some (f, k) →
    (k.role f.src ≠ 2 → Does .dlgReceive h ((k.bump F.FAB_ASMCNT_ROLEERR).dlgackMsg f.src 1 (f.fld 32 47) (f.fld 48 52))) ∧
    (k.role f.src = 2 → k.get F.FAB_CTL_SITEID ≠ 0 → k.get F.FAB_CTL_SITEID ≠ f.fld 16 31 →
      Does .dlgReceive h (k.dlgackMsg f.src 2 (f.fld 32 47) (f.fld 48 52))) ∧
    (k.role f.src = 2 → k.get F.FAB_CTL_SITEID ≠ 0 → k.get F.FAB_CTL_SITEID = f.fld 16 31 →
      k.get F.FAB_ID_VALID = 1 →
      (k.get F.FAB_ID_HUBID = f.fld 32 47 ∧ k.get F.FAB_ID_LEN = f.fld 48 52 →
        Does .dlgReceive h (k.dlgackMsg f.src 0 (f.fld 32 47) (f.fld 48 52))) ∧
      (k.get F.FAB_ID_HUBID ≠ f.fld 32 47 ∨ k.get F.FAB_ID_LEN ≠ f.fld 48 52 →
        Does .dlgReceive h (k.dlgackMsg f.src 4 (f.fld 32 47) (f.fld 48 52)))) ∧
    (k.role f.src = 2 → k.get F.FAB_CTL_SITEID ≠ 0 → k.get F.FAB_CTL_SITEID = f.fld 16 31 →
      k.get F.FAB_ID_VALID = 0 →
      Does .dlgReceive h ((k.dlgackMsg f.src 0 (f.fld 32 47) (f.fld 48 52)).takeRange (f.fld 32 47) (f.fld 48 52) (f.fld 53 56))) ∧
    (k.role f.src = 2 → k.get F.FAB_CTL_SITEID = 0 → k.get F.FAB_ID_VALID = 0 →
      Does .dlgReceive h (((k.set F.FAB_CTL_SITEID (f.fld 16 31)).dlgackMsg f.src 0 (f.fld 32 47) (f.fld 48 52)).takeRange
        (f.fld 32 47) (f.fld 48 52) (f.fld 53 56)))) ∧
  (h.takeMsg (fun x => x.isMop mopDlgack) = some (f, k) →
    (k.role f.src ≠ 1 → Does .dlgackReceive h (k.bump F.FAB_ASMCNT_ROLEERR)) ∧
    (∀ len depth, k.role f.src = 1 → (k.fabp f.src).offer = some (f.fld 48 63, len, depth) → len = f.fld 64 68 →
      (k.fabp f.src).await = true → (k.fabp f.src).sends ≤ 1 →
      (f.fld 32 35 = 0 → Does .dlgackReceive h
        (((((k.setFabp f.src { k.fabp f.src with await := false }).set F.FAB_PORTDLG_VALID 1 f.src).set F.FAB_PORTDLG_LEN len f.src).set
          F.FAB_PORTDLG_BASE (f.fld 48 63) f.src).set F.FAB_PORTSTAT_RESULT 0 f.src |>.set F.FAB_PORTSTAT_STATE 3 f.src)) ∧
      (f.fld 32 35 ≠ 0 → Does .dlgackReceive h
        ((k.setFabp f.src { k.fabp f.src with await := false }).dlgErr f.src (f.fld 32 35))))) ∧
  (h.takeMsg (fun x => x.isMop mopReady) = some (f, k) →
    (k.role f.src ≠ 1 → Does .readyReceive h (k.bump F.FAB_ASMCNT_ROLEERR)) ∧
    (k.role f.src = 1 → Does .readyReceive h ((k.setFabp f.src { k.fabp f.src with
      nready := f.fld 32 48
      nfail := f.fld 64 80 }).settle f.src 4))) ∧
  (h.takeMsg (fun x => x.isMop mopSiteready) = some (f, k) →
    (k.role f.src ≠ 2 → Does .sitereadyReceive h (k.bump F.FAB_ASMCNT_ROLEERR)) ∧
    (k.role f.src = 2 → Does .sitereadyReceive h
      ((k.set F.FAB_SITE_SREADY 1).set64 F.FAB_SRTIME_LO_SRT_LO F.FAB_SRTIME_HI_SRT_HI (f.fld 128 191))))) ∧
  (∀ h : Hub, h.awake → ∀ n : PortId,
  (∀ o, (h.fabp n).await = true → (h.fabp n).sentAt + 20000 ≤ h.time.tick → h.get F.PORT_LKSTAT_STATE n = 2 →
    (h.fabp n).offer = some o →
    ((h.fabp n).sends < 4 → Does (.dlgRepeat n) h ((h.setFabp n { h.fabp n with
      sends := (h.fabp n).sends + 1
      sentAt := h.time.tick
      offer := some o
      await := true }).dlgMsg n o)) ∧
    (4 ≤ (h.fabp n).sends → Does (.dlgRepeat n) h (h.dlgErr n (h.get F.FAB_PORTSTAT_RESULT n)))) ∧
  (∀ t g : Nat, h.fab.groups = g → g < 4 → h.fab.startAt = some t → t + g * 200000 * h.get F.FAB_CTL_GRPSP ≤ h.time.tick →
    Does .staggerGroupStart h (({ h with fab := { h.fab with groups := g + 1 } }).each
      (({ h with fab := { h.fab with groups := g + 1 } } : Hub).downPorts.filter (fun m => m % 4 = g))
      (fun m k => (k.setFabp m { k.fabp m with group := some k.time.tick }).ppEnable m 1))) ∧
  (∀ t, h.role n = 1 → h.get F.FAB_PORTSTAT_STATE n = 2 → (h.fabp n).group = some t →
    t + 2000000 * h.get F.FAB_CTL_PORTTMO ≤ h.time.tick →
    ((h.fabp n).helloAt ≠ some (t + 2000000 * h.get F.FAB_CTL_PORTTMO) → Does (.porttmoExpiry n) h (h.fabFailed n)) ∧
    ((h.fabp n).helloAt = some (t + 2000000 * h.get F.FAB_CTL_PORTTMO) → Does (.porttmoExpiry n) h h))) ∧
  (∀ h : Hub,
  (h.awake →
    Does .helloReceive h h.helloReceive ∧
    (∀ (n : PortId), Does (.dlgRepeat n) h (h.dlgRepeat n)) ∧
    Does .dlgReceive h h.dlgReceive ∧
    Does .dlgackReceive h h.dlgackReceive ∧
    Does .staggerGroupStart h h.groupStart ∧
    (∀ (n : PortId), Does (.porttmoExpiry n) h (h.portTmo n)) ∧
    Does .readyReceive h h.readyReceive ∧
    Does .sitereadyReceive h h.siteReadyReceive))

/-- Management requests (R136, R137, R138, R181, R182, R183, R457). -/
def Obligations.ManagementCommands : Prop :=
  (∀ h : Hub, h.awake → ∀ (o : Otp) (f : Machine.Frm) (k : Hub),
  (h.takeMsg (fun f => f.isReq 1) = some (f, k) → ∀ st : Hub,
    (∀ g r, k.reqPath f = (g, .inr r) → DoesRead .mgmtReadRequest st h o (st, g.respond f r [])) ∧
    (∀ g p, k.reqPath f = (g, .inl p) → f.reqForm = false → DoesRead .mgmtReadRequest st h o (st, g.respond f 5 [])) ∧
    (∀ g p, k.reqPath f = (g, .inl p) → f.reqForm = true → g.reachAll p f = false →
      DoesRead .mgmtReadRequest st h o (st, (g.bump F.FAB_MGMTCNT_DENIED).respond f 2 [])) ∧
    (∀ g p, k.reqPath f = (g, .inl p) → f.reqForm = true → g.reachAll p f = true → f.count = 1 →
      DoesRead .mgmtReadRequest st h o ((st.readEffect (g.mgrHold p) p f.maddr).1,
        (st.readEffect (g.mgrHold p) p f.maddr).2.respond f 0 (beBytes 4 (st.view p f.maddr).toNat)))) ∧
  (h.takeMsg (fun f => f.isReq 2) = some (f, k) → ∀ straps : BitVec 8,
    (∀ g st, k.reqPath f = (g, .inr st) → DoesOtp (.mgmtWriteRequest straps) h o (g.respond f st [])) ∧
    (∀ g p st, k.reqPath f = (g, .inl p) → g.keptWrite p f.reqid = some st →
      DoesOtp (.mgmtWriteRequest straps) h o (g.respond f st [])) ∧
    (∀ g p, k.reqPath f = (g, .inl p) → g.keptWrite p f.reqid = none → f.reqForm = true → g.reachAll p f = false →
      DoesOtp (.mgmtWriteRequest straps) h o (((g.bump F.FAB_MGMTCNT_DENIED).keepWrite p f.reqid 2).respond f 2 [])) ∧
    (∀ g p r b, k.reqPath f = (g, .inl p) → g.keptWrite p f.reqid = none → f.reqForm = true → g.reachAll p f = true →
      (g.mgrHold p).writeAll { otp := o.bits, straps := straps.toNat } p f.maddr (reqWords f.count (f.data.drop 16)) = (r, b, true) →
      DoesOtp (.mgmtWriteRequest straps) h o ((r.keepWrite p f.reqid (b2n b)).respond f (b2n b) []))) ∧
  (h.takeMsg (fun f => f.hdr.type == 0 && f.hdr.dtun == 0 && f.mgmtReq && f.mop != 1 && f.mop != 2) = some (f, k) →
    (∀ g st, k.reqPath f = (g, .inr st) → Does .mgmtUnsupported h (g.respond f st [])) ∧
    (∀ g p, k.reqPath f = (g, .inl p) → Does .mgmtUnsupported h (g.respond f 5 []))) ∧
  (∀ (reqid dhub : BitVec 16) (addr : Word) (n : Fin 1025) (key : Option (Fin 2)) (a b : Nat), h.boot.rom = .running →
    Tab.get (0, 0) h.boot.mreqs reqid.toNat = (a, b) → (a = 0 ∨ b + 20000 ≤ h.time.tick) →
    (a < 2 → Does (.mgmtResendTimeout reqid dhub addr (.inl n) key) h
      (({ h with boot := { h.boot with mreqs := Tab.set (0, 0) h.boot.mreqs reqid.toNat (a + 1, h.time.tick) } }).ownSend reqid.toNat
        dhub.toNat addr.toNat (.inl n.val) (key.map (fun x : Fin 2 => x.val)))) ∧
    (2 ≤ a → Does (.mgmtResendTimeout reqid dhub addr (.inl n) key) h
      (({ h with boot := { h.boot with mreqs := Tab.set (0, 0) h.boot.mreqs reqid.toNat (0, 0) } }).fault0 0x12 42 reqid.toNat)))) ∧
  (∀ (h : Hub) (f : Machine.Frm),
  (f.src = 33 → h.reqPath f = (h, .inl .own)) ∧
  (f.src ≠ 33 → h.mgrSlot f.hdr.shub = none → h.reqPath f = (h.bump F.FAB_MGMTCNT_DENIED, .inr 2)) ∧
  (∀ m : Fin 16, f.src ≠ 33 → h.mgrSlot f.hdr.shub = some m.val →
    (f.hdr.a = false → h.get F.FAB_MGMTCFG_REQAUTH = 1 → h.reqPath f = (h.bump F.FAB_MGMTCNT_UNTAG, .inr 4)) ∧
    (f.hdr.a = false → h.get F.FAB_MGMTCFG_REQAUTH = 0 → h.reqPath f = (h, .inl (.tunnel m))) ∧
    (f.hdr.a = true → h.untag f = none → h.reqPath f = (h.bump F.FAB_MGMTCNT_TAGERR, .inr 4)) ∧
    (f.hdr.a = true → 24 ≤ f.hdr.plen → (h.untag f).isSome = true →
      f.ctr ≤ h.get64 F.FAB_RMGRCTR_LO_CTR_LO F.FAB_RMGRCTR_HI_CTR_HI m → h.reqPath f = (h.bump F.FAB_MGMTCNT_STALE, .inr 4)) ∧
    (f.hdr.a = true → 24 ≤ f.hdr.plen → (h.untag f).isSome = true → h.fresh m f.ctr = true →
      h.reqPath f = (h.set64 F.FAB_RMGRCTR_LO_CTR_LO F.FAB_RMGRCTR_HI_CTR_HI f.ctr m, .inl (.tunnel m))))) ∧
  (∀ h : Hub,
  (h.awake →
    (∀ (st : Hub) (o : Otp), DoesRead .mgmtReadRequest st h o (st.mgmtRead h)) ∧
    (∀ (straps : BitVec 8) (o : Otp),
      DoesOtp (.mgmtWriteRequest straps) h o (h.mgmtWrite { otp := o.bits, straps := straps.toNat })) ∧
    Does .mgmtUnsupported h h.mgmtUnsupported ∧
    (∀ (reqid dhub : BitVec 16) (addr : Word) (op : Fin 1025 ⊕ List (BitVec 32)) (key : Option (Fin 2)),
      Does (.mgmtResendTimeout reqid dhub addr op key) h (h.ownTimeout reqid.toNat dhub.toNat addr.toNat (match op with
        | .inl n => .inl n.val | .inr ws => .inr (ws.take 1024)) (key.map (·.val))))))

/-- Configuration images and their records (R473, R474, R475). -/
def Obligations.ConfigCommands : Prop :=
  (∀ h : Hub, h.awake → ∀ (o : Otp) (straps : BitVec 8),
  (∀ img, h.boot.rom = .running → h.get F.MGMT_STAT_RUNNING = 1 → h.strap 4 = false → h.boot.cfg = false →
    ({ h with boot := { h.boot with cfg := true } } : Hub).cfgOk img = false →
    DoesOtp (.configImageApply img straps) h o { h with boot := { h.boot with cfg := true } }) ∧
  (∀ img, h.boot.rom = .running → h.get F.MGMT_STAT_RUNNING = 1 → h.strap 4 = false → h.boot.cfg = false →
    ({ h with boot := { h.boot with cfg := true } } : Hub).cfgOk img = true → h.get F.TIME_CTL_SUMMIT = 0 →
    DoesOtp (.configImageApply img straps) h o (({ h with boot := { h.boot with
      cfg := true
      todo := bootSections img
      join := joinSections img } }).cfgRun { otp := o.bits, straps := straps.toNat })) ∧
  (h.get F.FAB_SITE_JOINED = 1 → h.get F.FAB_ID_VALID = 1 → h.boot.join.any (fun j => j.1 == h.get F.FAB_ID_HUBID) = true →
    DoesOtp (.joinSectionApply straps) h o (h.joinOwn.cfgRun { otp := o.bits, straps := straps.toNat })) ∧
  (∀ (r : CfgRun) (t : Nat), h.boot.run_ = some r → r.waitAt = some t → t ≤ h.time.tick →
    DoesOtp (.configWaitEnd straps) h o ((h.setCfg (some { r with waitAt := none })).cfgRun { otp := o.bits, straps := straps.toNat })) ∧
  (∀ (st : Hub) (r : CfgRun) (a m v last : Nat), h.boot.run_ = some r → r.poll = some (a, m, v, last) →
    ∀ k g : Hub, st.readEffect h .mgmt a = (k, g) →
    ((st.view .mgmt a).toNat &&& m = v → DoesRead (.configPoll straps) st h o
      (k, (g.setCfg (some { r with poll := none })).cfgRun { otp := o.bits, straps := straps.toNat })) ∧
    ((st.view .mgmt a).toNat &&& m ≠ v → last ≤ h.time.tick → DoesRead (.configPoll straps) st h o
      (k, ((g.setCfg none).set F.GLB_BOOTSTAT_CFGERR 1).cfgRun { otp := o.bits, straps := straps.toNat })) ∧
    ((st.view .mgmt a).toNat &&& m ≠ v → h.time.tick < last → DoesRead (.configPoll straps) st h o (k, g)))) ∧
  (∀ (h : Hub) (e : Env),
  (∀ (a : Nat) (ds : List Nat), ds.length < 2 ^ 28 → ∀ g : Hub, h.writeRun e .mgmt a (ds.map (BitVec.ofNat 32)) = (g, true) →
    h.cfgRecord e { words := (2 ^ 28 + ds.length) :: a :: ds } = g.setCfg (some { words := [] })) ∧
  (∀ (a n v : Nat) (rest : List Nat), n ≤ 524288 → ∀ g : Hub,
    h.writeRun e .mgmt a (List.replicate n (BitVec.ofNat 32 v)) = (g, true) →
    h.cfgRecord e { words := (2 * 2 ^ 28 + n) :: a :: v :: rest } = g.setCfg (some { words := rest })) ∧
  (∀ (n : Nat) (rest : List Nat), n < 2 ^ 28 →
    h.cfgRecord e { words := (3 * 2 ^ 28 + n) :: rest } = h.setCfg (some { words := rest, waitAt := some (h.time.tick + n) })) ∧
  (∀ rest, h.cfgRecord e { words := (15 * 2 ^ 28) :: rest } = h.setCfg none) ∧
  (∀ rest, h.cfgRecord e { words := (5 * 2 ^ 28) :: rest } = (h.setCfg none).set F.GLB_BOOTSTAT_CFGERR 1)) ∧
  (∀ h : Hub,
  (h.awake →
    (∀ (img : List (BitVec 8)) (straps : BitVec 8) (o : Otp),
      DoesOtp (.configImageApply img straps) h o (h.cfgImage { otp := o.bits, straps := straps.toNat } img)) ∧
    (∀ (straps : BitVec 8) (o : Otp),
      DoesOtp (.joinSectionApply straps) h o (h.cfgJoin { otp := o.bits, straps := straps.toNat })) ∧
    (∀ (straps : BitVec 8) (o : Otp),
      DoesOtp (.configWaitEnd straps) h o (h.cfgWaitEnd { otp := o.bits, straps := straps.toNat })) ∧
    (∀ (straps : BitVec 8) (st : Hub) (o : Otp),
      DoesRead (.configPoll straps) st h o (st.cfgPoll h { otp := o.bits, straps := straps.toNat }))))

/-- Doorbells and arming (R252, R254, R258, R259, R276). -/
def Obligations.DoorbellCommands : Prop :=
  (∀ h : Hub, h.awake → h.led.wiped = false → ∀ (s : SliceId) (p : Path) (be : BitVec 4) (v : Word) (r : Nat),
  r = v.bits 0 12 →
  (be ≠ 15#4 → Does (.doorbell s be v) h h ∧ Does (.mgmtDoorbell p be v) h h ∧ Does (.arm s be v) h h ∧ Does (.mgmtArm p be v) h h) ∧
  (h.get F.RCTX0_STATE r ≠ 1 →
    Does (.doorbell s 15#4 v) h (h.bump F.HIF_ERRCNT_DBIGNORED) ∧ Does (.mgmtDoorbell p 15#4 v) h (h.bump F.HIF_ERRCNT_DBIGNORED) ∧
    Does (.arm s 15#4 v) h (h.bump F.HIF_ERRCNT_DBIGNORED) ∧ Does (.mgmtArm p 15#4 v) h (h.bump F.HIF_ERRCNT_DBIGNORED)) ∧
  (h.get F.RCTX0_SLICE r ≠ s.val →
    Does (.doorbell s 15#4 v) h (h.bump F.HIF_ERRCNT_DBIGNORED) ∧ Does (.arm s 15#4 v) h (h.bump F.HIF_ERRCNT_DBIGNORED)) ∧
  (h.get F.RCTX0_STATE r = 1 → h.get F.RCTX0_SLICE r = s.val →
    (v.bits 16 16 < 2 ^ h.get F.RCTX0_LOG2N r → Does (.doorbell s 15#4 v) h (h.set F.RCTX6_PIDX (v.bits 16 16) r)) ∧
    (2 ^ h.get F.RCTX0_LOG2N r ≤ v.bits 16 16 →
      Does (.doorbell s 15#4 v) h ((h.set F.RCTX0_STATE 3 r).set F.RCTX7_ERRCODE 2 r)) ∧
    Does (.arm s 15#4 v) h (h.armRing r (v.bits 16 16))) ∧
  (h.get F.RCTX0_STATE r = 1 → h.pathLimit p = none →
    (v.bits 16 16 < 2 ^ h.get F.RCTX0_LOG2N r → Does (.mgmtDoorbell p 15#4 v) h (h.set F.RCTX6_PIDX (v.bits 16 16) r)) ∧
    Does (.mgmtArm p 15#4 v) h (h.armRing r (v.bits 16 16)))) ∧
  (∀ h : Hub,
  (h.awake → h.led.wiped = false →
    (∀ (sl : SliceId) (be : BitVec 4) (v : Word), Does (.doorbell sl be v) h (h.dbWrite sl be v)) ∧
    (∀ (p : Path) (be : BitVec 4) (v : Word), Does (.mgmtDoorbell p be v) h (h.mdbWrite p be v)) ∧
    (∀ (sl : SliceId) (be : BitVec 4) (v : Word), Does (.arm sl be v) h (h.armWrite sl be v)) ∧
    (∀ (p : Path) (be : BitVec 4) (v : Word), Does (.mgmtArm p be v) h (h.marmWrite p be v))))

/-- Fetching descriptors and data (R260, R261, R264, R269, R273, R275, R277). -/
def Obligations.RingFetchCommands : Prop :=
  (∀ h : Hub, h.live → ∀ r : RingId,
  (∀ n k : Nat, h.get F.RCTX0_STATE r = 1 → n = 2 ^ h.get F.RCTX0_LOG2N r →
    k = min (h.get F.HIF_FETCHCFG_BATCH) (min (n - (h.ring r).next) ((h.get F.RCTX6_PIDX r + n - (h.ring r).next) % n)) → 0 < k →
    (h.get F.RCTX0_KIND r = 0 → h.hostStaged < 1024) →
    Does (.descriptorFetchIssue r) h ((h.setRing r { h.ring r with
      next := ((h.ring r).next + k) % n
      descs := (h.ring r).descs ++ (List.range k).map (fun i => ({ slot := (h.ring r).next + i } : Desc)) }).readDescs r (h.ring r).next k)) ∧
  (h.get F.RCTX0_STATE r ≠ 1 ∨ (h.get F.RCTX0_KIND r = 0 ∧ 1024 ≤ h.hostStaged) → Does (.descriptorFetchIssue r) h h) ∧
  (∀ (x : HostRd) (slot : Nat) (ws : List Word), h.oldestRead (ofDescs r) = some x → x.who = .desc r slot →
    4 * ws.length = h.fetchDue x.fetch →
    (x.dead = false → Does (.descriptorArrival r ws) h ((h.fetchEnd x.fetch).descArrive r slot (ws.map (·.toNat)))) ∧
    (x.dead = true → Does (.descriptorArrival r ws) h (h.fetchEnd x.fetch))) ∧
  (∀ d : Desc, (h.ring r).descs = [d] → d.stage = .checked → h.get F.RCTX0_STATE r = 1 → h.get F.RCTX0_KIND r = 0 → 0 < d.needs 0 →
    h.mayFetch r 0 d = true →
    Does (.dataFetchIssue r) h ((h.modDesc r d.slot (fun d => { d with stage := .fetching })).readData r d)) ∧
  (∀ (x : HostRd) (slot : Nat) (b : List (BitVec 8)), h.oldestRead (ofData r none) = some x → x.who = .data r slot →
    b.length ≤ h.fetchDue x.fetch →
    (x.dead = false → Does (.dataArrival r b) h ((h.fetchTake x.fetch b.length).dataArrive r slot b)) ∧
    (x.dead = true → Does (.dataArrival r b) h (h.fetchTake x.fetch b.length))) ∧
  (∀ (x : HostRd) (d : DRead) (g : Hub), h.oldestRead (ofDescs r) = some x → x.who = .desc r d.slot → x.dead = false →
    g = (h.fetchEnd x.fetch).emit .aer → (g.ring r).reads = [d] →
    (d.fails < 2 → Does (.hostReadFailure r true) h (g.setRing r { g.ring r with reads := [{ d with
      fails := d.fails + 1
      retryAt := some (g.time.tick + 200) }] })) ∧
    (2 ≤ d.fails → Does (.hostReadFailure r true) h (g.descFail r))) ∧
  (∀ (x : HostRd) (d : Desc) (g : Hub), h.oldestRead (ofData r none) = some x → x.who = .data r d.slot → x.dead = false →
    g = (h.fetchEnd x.fetch).emit .aer → (g.ring r).descs = [d] → d.stage = .fetching → d.fails < 2 →
    Does (.hostReadFailure r false) h (g.modDesc r d.slot (fun d => { d with
      fails := d.fails + 1
      retryAt := some (g.time.tick + 200) }))) ∧
  (∀ (d : DRead) (t : Nat), (h.ring r).reads = [d] → (h.ring r).descs = [] → d.retryAt = some t → t ≤ h.time.tick →
    (h.get F.RCTX0_STATE r = 1 →
      Does (.readRetry r) h (((h.setRing r { h.ring r with reads := [{ d with retryAt := none }] }).ringRead r
        (h.get64 F.RCTX1_DBASE_LO F.RCTX2_DBASE_HI r + d.slot * 32) (d.n * 32) (.desc r d.slot)
        (fun o => .rdesc r (d.slot + o / 32))).resendRetry r)) ∧
    (h.get F.RCTX0_STATE r = 3 → h.peri.sess = [] → Does (.readRetry r) h h)) ∧
  (∀ t, h.mayInt r = true → 0 < (h.ring r).pend → h.get F.RCTX5_MTMO r ≠ 0 → (h.ring r).first = some t →
    t + 200 * h.get F.RCTX5_MTMO r ≤ h.time.tick → Does (.moderationTimeout r) h (h.ringVec r)) ∧
  (h.get F.RCTX0_STATE r = 1 → h.get F.RCTX0_REMOTE r = 1 → h.get64 F.RCTX8_PADDR_LO F.RCTX9_PADDR_HI r ≠ 0 →
    (h.ring r).polling = false → (h.ring r).polled + h.get F.RCTX10_POLL r ≤ h.time.tick →
    Does (.remotePoll r) h ((h.setRing r { h.ring r with
      polling := true
      polled := h.time.tick }).ringRead r (h.get64 F.RCTX8_PADDR_LO F.RCTX9_PADDR_HI r) 4 (.data r 0) (fun _ => .rpidx r))) ∧
  (∀ d : Desc, (h.ring r).descs = [d] → h.get F.RCTX0_KIND r = 3 → d.stage = .offered → d.moved = d.len 3 → d.f 0 23 1 = 0 →
    Does (.blkTransferComplete r) h (h.finDesc r d.slot 0 d.moved 0))) ∧
  (∀ h : Hub,
  (h.live →
    (∀ (r : RingId), Does (.descriptorFetchIssue r) h (h.fetchIssue r)) ∧
    (∀ (r : RingId) (ws : List Word), Does (.descriptorArrival r ws) h (h.descArrival r ws)) ∧
    (∀ (r : RingId), Does (.dataFetchIssue r) h (h.dataIssue r)) ∧
    (∀ (r : RingId) (bytes : List (BitVec 8)), Does (.dataArrival r bytes) h (h.dataArrival r bytes)) ∧
    (∀ (r : RingId) (desc : Bool), Does (.hostReadFailure r desc) h (h.readFailure r desc)) ∧
    (∀ (r : RingId), Does (.readRetry r) h (h.readRetry r)) ∧
    (∀ (r : RingId), Does (.moderationTimeout r) h (h.modTimeout r)) ∧
    (∀ (r : RingId), Does (.remotePoll r) h (h.remotePoll r)) ∧
    (∀ (r : RingId), Does (.blkTransferComplete r) h (h.transferDone r))))

/-- Enabling, resetting and completing rings; PCIe resets (R248, R249, R255, R257, R272, R274, R278, R283). -/
def Obligations.RingStateCommands : Prop :=
  (∀ h : Hub,
  (h.awake → h.led.wiped = false → ∀ (v : Word) (r : Nat), v.bits 31 1 = 1 → r = h.get F.HIF_RSEL_RING Path.pcie.sel →
    Tab.get 0#32 h.led.hot (F.RCTX0_EN.addr r 0) = 0#32 → h.get F.RCTX0_STATE r = 0 →
    (v.bits 23 5 < 4 ∨ 16 < v.bits 23 5 → ∃ g, Does (.ringEnable .pcie v) h g ∧ g.get F.RCTX0_STATE r = 0 ∧ g.get F.RCTX7_ERRCODE r = 3) ∧
    (4 ≤ v.bits 23 5 → v.bits 23 5 ≤ 16 → v.bits 20 3 = 0 → v.bits 8 7 = h.get F.RCTX0_SLICE r → v.bits 19 1 = 0 →
      h.get F.RCTX1_DBASE_LO r % 64 = 0 → h.get F.RCTX3_CBASE_LO r % 64 = 0 → h.get F.SLC_BIND_VALID (v.bits 8 7) = 1 →
      ∃ g, Does (.ringEnable .pcie v) h g ∧ g.get F.RCTX0_STATE r = 1 ∧ g.get F.RCTX0_EN r = 1 ∧ g.get F.RCTX6_PIDX r = 0 ∧
        g.get F.RCTX6_DONE r = 0 ∧ g.get F.RCTX5_ARMED r = 1 ∧ g.get F.RCTX0_LOG2N r = v.bits 23 5 ∧ g.get F.RCTX0_KIND r = 0)) ∧
  (h.awake → h.led.wiped = false → ∀ (v : Word) (r : Nat), v.bits 31 1 = 1 → r = h.get F.HIF_RSEL_RING Path.pcie.sel →
    Tab.get 0#32 h.led.hot (F.RCTX0_EN.addr r 0) = 0#32 → h.get F.RCTX0_STATE r ≠ 0 →
    Does (.ringEnable .pcie v) h h) ∧
  (h.awake → h.led.wiped = false → ∀ (v : Word) (r : Nat), v.bits 31 1 = 0 → r = h.get F.HIF_RSEL_RING Path.pcie.sel →
    Tab.get 0#32 h.led.hot (F.RCTX0_EN.addr r 0) = 0#32 →
    h.get F.RCTX0_STATE r = 1 ∨ h.get F.RCTX0_STATE r = 3 → Does (.ringReset .pcie v) h (h.ringReset r false)) ∧
  (h.live → ∀ (r : RingId) (t : Nat), h.get F.RCTX0_STATE r = 2 → (h.ring r).resetAt = some t → t + 20000 ≤ h.time.tick →
    Tab.get none (h.squashRing r).hif.srst ((h.squashRing r).rSlice r) = none →
    Does (.ringResetDeadline r) h (h.squashRing r)) ∧
  (h.live → ∀ r : RingId, h.get F.RCTX0_STATE r = 2 → (h.ring r).descs = [] → (h.ring r).wipe = false →
    Does (.ringResetEnd r) h
      (((((h.set F.RCTX0_STATE 0 r).raise F.RCTX0_EN 0 r).set F.RCTX6_PIDX 0 r).set F.RCTX6_DONE 0 r).setRing r {})) ∧
  (h.awake → Does .functionLevelReset h h.resetLocal ∧
    Does .perstNAssert h (let g := (((h.resetLocal.raise F.HIF_PCTL_CFGRDY 0).set F.HIF_PSTAT_LINKUP 0).set F.HIF_PSTAT_WIDTH 0).set F.HIF_PSTAT_SPEED 0
      { g with
        hif := { g.hif with bar4sz := 0 }
        pwr := { g.pwr with
          perst := true
          d3 := false } }) ∧
    (∀ g : Hub, g = ({ h with pwr := { h.pwr with perst := false } }).domainWake 36 →
      (g.get F.HIF_PSTAT_LINKUP = 1 → ∀ w s, Does (.perstNRelease w s) h g) ∧
      (∀ s : Fin 8, g.get F.HIF_PSTAT_LINKUP = 0 → g.strap 5 = false  → 1 ≤ s.val → s.val ≤ g.get F.HIF_PCTL_MAXSPD →
        Does (.perstNRelease 8 s) h ((((g.set F.HIF_PSTAT_LINKUP 1).set F.HIF_PSTAT_WIDTH 8).set F.HIF_PSTAT_SPEED s).emit .pcieTrain))) ∧
    (h.led.wiped = false → h.get F.HIF_PCTL_CFGRDY = 1 → Does .cfgrdySet h h) ∧
    (h.led.wiped = false → h.get F.HIF_PCTL_CFGRDY = 0 → h.isHot F.HIF_PCTL_CFGRDY = false → ∃ g, Does .cfgrdySet h g ∧ g.get F.HIF_PCTL_CFGRDY = 1 ∧ g.hif.bar4sz = h.get F.HIF_BAR4SZ_SIZE ∧
      h.sameRegs [F.HIF_PCTL_CFGRDY.addr 0 0] g))) ∧
  (∀ (h : Hub) (r k : Nat),
  ((h.ring r).descs = [] → h.drainDone r (k + 1) = h) ∧
  (∀ d l, (h.ring r).descs = d :: l → d.stage ≠ .done → h.drainDone r (k + 1) = h) ∧
  (∀ d l, (h.ring r).descs = d :: l → h.get F.RCTX0_STATE r = 3 → h.drainDone r (k + 1) = h) ∧
  (∀ d l, (h.ring r).descs = d :: l → d.stage = .done → h.get F.RCTX0_STATE r = 1 →
    h.drainDone r (k + 1) = ((h.setRing r { h.ring r with descs := l }).writeCpl r d).drainDone r k)) ∧
  (∀ h : Hub,
  (h.awake →
    Does .perstNAssert h h.perstAssert ∧
    (∀ (width : Fin 16) (speed : Fin 8), Does (.perstNRelease width speed) h (h.perstRelease width speed)) ∧
    Does .functionLevelReset h h.resetLocal) ∧
  (h.awake → h.led.wiped = false →
    (∀ (p : Path) (v : Word), Does (.ringEnable p v) h (h.ringEnable p v)) ∧
    (∀ (p : Path) (v : Word), Does (.ringReset p v) h (h.ringDisable p v)) ∧
    Does .cfgrdySet h h.cfgrdySet) ∧
  (h.live →
    (∀ (r : RingId), Does (.ringResetDeadline r) h (h.resetDeadline r)) ∧
    (∀ (r : RingId), Does (.ringResetEnd r) h (h.resetEnd r))))

/-- Slices: binding, owners and resets (R285, R286, R287, R288, R289, R290, R292). -/
def Obligations.SliceCommands : Prop :=
  (∀ h : Hub, h.awake → h.led.wiped = false →
  (∀ (p : Path) (s : SliceId) (v : Word), h.pathLimit p ≠ none → Does (.sliceBindWrite p s v) h h) ∧
  (∀ (p : Path) (s : SliceId) (v : Word), h.pathLimit p = none → h.bindErr s v ≠ 0 →
    Does (.sliceBindWrite p s v) h (h.slcErr s (h.bindErr s v) 0 0)) ∧
  (∀ (p : Path) (s : SliceId) (v : Word), h.pathLimit p = none → h.bindErr s v = 0 → v.bits 31 1 = 1 →
    Does (.sliceBindWrite p s v) h
      ((((h.set F.SLC_BIND_VALID 1 s).set F.SLC_BIND_PASID (v.bits 0 20) s).set F.SLC_STAT_STATE 1 s).modeCheck)) ∧
  (∀ (p : Path) (s : SliceId) (v : Word), h.pathLimit p = none → h.bindErr s v = 0 → v.bits 31 1 = 0 → h.get F.SLC_BIND_VALID s = 1 →
    Does (.sliceBindWrite p s v) h
      (((((h.set F.SLC_BIND_VALID 0 s).set F.SLC_BIND_PASID (v.bits 0 20) s).set F.SLC_STAT_STATE 0 s).dropVotes s).modeCheck)) ∧
  (∀ (p : Path) (arr : Fin 6) (w : Fin 68) (v : Word), h.pathLimit p ≠ none → Does (.ownerWrite p arr w v) h h) ∧
  (∀ (p : Path) (arr : Fin 6) (w : Fin 68) (v : Word), h.pathLimit p = none → w.val < ownWords arr →
    Does (.ownerWrite p arr w v) h
      ((((h.ownField arr (4 * w) (v.bits 0 7)).ownField arr (4 * w + 1) (v.bits 8 7)).ownField arr (4 * w + 2) (v.bits 16 7)).ownField
        arr (4 * w + 3) (v.bits 24 7))) ∧
  (∀ (p : Path) (s : SliceId) (v : Word), h.pathSlice p ≠ 0 → h.pathSlice p ≠ s.val → Does (.sliceReset p s v) h h) ∧
  (∀ (p : Path) (s : SliceId) (v : Word), h.pathSlice p = 0 ∨ h.pathSlice p = s.val → v.bits 31 1 = 1 → h.hif.srst = [] →
    Does (.sliceReset p s v) h
      (let g := h.wr (F.SLC_RST_GO.addr s 0) v
       let g := ((g.set F.SLC_STAT_STATE 2 s).set F.SLC_RST_FORCED 0 s).setSrst s
         (some { start := g.time.tick, squash := v.bits 30 1 == 1 })
       (g.slcActions s (v.bits 30 1 == 1) (v.bits 29 1 == 1)).dropClaims s)) ∧
  (∀ (s : SliceId) (x : SlcRst), h.srst s = some x → x.squash = false → x.start + 20000 ≤ h.time.tick →
    Does (.sliceResetDrainDeadline s) h (((h.squashAll s).usbReset s true).set F.SLC_RST_FORCED 1 s)) ∧
  (∀ (s : SliceId) (x : SlcRst), h.srst s = some x → h.liveRings = [] → h.usbQuiet s = true → h.cplWaits s = false → h.get F.SLC_CFG_IRQEN = 0 →
    Does (.sliceResetComplete s) h
      (let d := min (h.time.tick - x.start) 0xFFFF
       let g := ((h.set F.SLC_STAT_STATE (b2n (h.bound s)) s).raise F.SLC_RST_DONE 1 s).set F.SLC_RST_DUR d s
       ((g.bump F.SLC_RSTINFO_SQUASHED s x.squashed).setSrst s none).rec1 32 5 1 52 (2 ^ 23 * b2n x.squash + 2 ^ 16 * s + d)))) ∧
  (∀ (h : Hub) (arr : Fin 6) (i new : Nat), i < 4 * ownWords arr →
  ((h.ownerOf (ownArray arr) i = new → h.ownField arr i new = h) ∧
   (h.ownerOf (ownArray arr) i ≠ new → h.ownRefused arr i (h.ownerOf (ownArray arr) i) = true →
    h.ownField arr i new = h.slcErr (h.ownerOf (ownArray arr) i) 5 arr i) ∧
   (new < 128 → h.ownerOf (ownArray arr) i ≠ new → h.ownRefused arr i (h.ownerOf (ownArray arr) i) = false →
    (h.ownField arr i new).ownerOf (ownArray arr) i = new ∧
    ∀ j, j < 4 * ownWords arr → j ≠ i → (h.ownField arr i new).ownerOf (ownArray arr) j = h.ownerOf (ownArray arr) j))) ∧
  (∀ h : Hub,
  (h.awake →
    (∀ (sl : SliceId), Does (.sliceResetDrainDeadline sl) h (h.slcDeadline sl)) ∧
    (∀ (sl : SliceId), Does (.sliceResetComplete sl) h (h.resetComplete sl))) ∧
  (h.awake → h.led.wiped = false →
    (∀ (p : Path) (sl : SliceId) (v : Word),
      Does (.sliceBindWrite p sl v) h (h.when ((h.pathLimit p).isNone) (fun h => h.bind sl v))) ∧
    (∀ (p : Path) (arr : Fin 6) (w : Fin 68) (v : Word),
      Does (.ownerWrite p arr w v) h (h.when ((h.pathLimit p).isNone) (fun h => h.ownWrite arr w v))) ∧
    (∀ (p : Path) (sl : SliceId) (v : Word), Does (.sliceReset p sl v) h (h.sliceReset p sl v))))

/-- Block windows: enabling, closing and BAR4 (R296, R297, R298, R299, R300, R309). -/
def Obligations.WindowCommands : Prop :=
  (∀ h : Hub, ∀ w : WindowId,
  (h.awake → h.led.wiped = false → ∀ (p : Path) (v : Word), h.winRight p w = false → Does (.windowEnable p w v) h h ∧ Does (.windowClose p w v) h h) ∧
  (h.awake → h.led.wiped = false → ∀ (v : Word) (g : Hub), h.get F.BLK_WCTL_STATE w = 0 → v.bits 31 1 = 1 → 12 ≤ v.bits 16 6 → v.bits 16 6 ≤ 36 →
    g = ((h.set F.BLK_WCTL_INEN (v.bits 15 1) w).set F.BLK_WCTL_LOG2SZ (v.bits 16 6) w).set F.BLK_WCTL_TUN (v.bits 0 12) w →
    (g.winCheck w ≠ 0 → Does (.windowEnable .pcie w v) h (g.set F.BLK_WCTL_ERRCODE (g.winCheck w) w)) ∧
    (g.winCheck w = 0 → Does (.windowEnable .pcie w v) h (((g.set F.BLK_WCTL_EN 1 w).set F.BLK_WCTL_STATE 1 w).setWin w { h.win w with
      pollAt := h.time.tick }))) ∧
  (h.awake → h.led.wiped = false → ∀ (v : Word) (g : Hub), h.get F.BLK_WCTL_STATE w = 1 ∨ h.get F.BLK_WCTL_STATE w = 2 ∨ h.get F.BLK_WCTL_STATE w = 3 →
    v.bits 31 1 = 0 → g = h.set F.BLK_WCTL_INEN (v.bits 15 1) w →
    (g.remoteOn w = true → Does (.windowClose .pcie w v) h (g.set F.BLK_WCTL_ERRCODE 8 w)) ∧
    (g.remoteOn w = false → Does (.windowClose .pcie w v) h ((g.set F.BLK_WCTL_EN 0 w).set F.BLK_WCTL_STATE 4 w))) ∧
  (h.live → h.get F.BLK_WCTL_STATE w = 4 → (h.win w).wait = [] → (h.win w).sent = [] →
    Does (.windowCloseEnd w) h ((h.set F.BLK_WCTL_STATE 0 w).setWin w
      { next := (h.win w).next, inq := (h.win w).inq, ans := (h.win w).ans, goback := (h.win w).goback, polled := (h.win w).polled })) ∧
  (h.live → h.get F.BLK_WCTL_STATE w ≠ 4 → Does (.windowCloseEnd w) h h) ∧
  (h.live → ∀ a : Nat, h.winAt a = none →
    (∀ b, Does (.bar4Write a b) h (h.bump F.BLK_CNT_B4UNMAP)) ∧
    (∀ id n, Does (.bar4Read id a n) h ((h.bump F.BLK_CNT_B4UNMAP).emit (.bar4Ur id)))) ∧
  (h.live → ∀ a : Nat, h.winAt a = some w.val → h.bar4Dead w = none →
    (∀ b : List (BitVec 8), (h.wBase w + (a - h.wOff w)) % 4096 + b.length ≤ 4096 → 0 < b.length →
      h.holdUse + (b.length + 255) / 256 ≤ 4096 → Does (.bar4Write a b) h (h.winWrite w (a - h.wOff w) b .bar4Write)) ∧
    (∀ id (n : Fin 4097), 0 < n.val → (h.wBase w + (a - h.wOff w)) % 4096 + n ≤ 4096 →
      Does (.bar4Read id a n) h (({ h with hif := { h.hif with bar4 := h.hif.bar4 ++ [{ id := id, addr := a, len := n }] } } : Hub).enq w
        { num := 0, wr := false, addr := h.wBase w + (a - h.wOff w), len := n, use := .bar4 id 0 })))) ∧
  (∀ h : Hub,
  (h.awake → h.led.wiped = false →
    (∀ (p : Path) (w : WindowId) (v : Word), Does (.windowEnable p w v) h (h.windowEnable p w v)) ∧
    (∀ (p : Path) (w : WindowId) (v : Word), Does (.windowClose p w v) h (h.windowClose p w v))) ∧
  (h.live →
    (∀ (w : WindowId), Does (.windowCloseEnd w) h (h.windowCloseEnd w)) ∧
    (∀ (a : Nat) (bytes : List (BitVec 8)), Does (.bar4Write a bytes) h (h.bar4Write a bytes)) ∧
    (∀ (id a : Nat) (len : Fin 4097), Does (.bar4Read id a len) h (h.bar4Read id a len))))

/-- Block windows: the requester (R301, R302, R303, R306, R307, R308, R310). -/
def Obligations.RequesterCommands : Prop :=
  (∀ h : Hub, h.live → ∀ w : WindowId,
  (h.freeTag.isSome = true → Does (.rdSend w) h
    (h.setWin w { h.win w with wait := (h.win w).wait.map (fun r => { r with noTag := false }) })) ∧
  (h.freeTag = none → Does (.rdSend w) h h) ∧
  (∀ r : BlkReq, (h.win w).sent = [r] → r.wr = true → r.sentAt.isSome = true → (h.win w).wait = [] → 1024 * h.get F.BLK_CFG1_SYNCTH ≤ r.len ∨
      h.get F.BLK_WCTL_STATE w = 4 →
    Does (.syncRead w) h (h.enq w { num := 0, wr := false, addr := r.addr + r.len - 1, len := 1, use := .sync })) ∧
  (∀ (f : Machine.Frm) (k : Hub), h.takeMsg (fun f => f.isBop bopCPLD || f.isBop bopCPL) = some (f, k) → (k.win (k.blkWin f)).sent = [] →
    Does .blockCompletionReceive h { k with hif := { k.hif with late := k.hif.late.filter (fun p => p.1 ≠ f.at_ 1 1) } }) ∧
  (∀ (f : Machine.Frm) (k : Hub) (r : BlkReq), h.takeMsg (fun f => f.isBop bopCPLD || f.isBop bopCPL) = some (f, k) →
    (k.win (k.blkWin f)).sent = [r] → r.wr = false → r.tag = some (f.at_ 1 1) → (k.win (k.blkWin f)).epi = none → f.isBop bopCPLD = true →
    Does .blockCompletionReceive h ((k.setWin (k.blkWin f) { k.win (k.blkWin f) with
      sent := []
      timeouts := 0 }).rdDone (k.blkWin f) r (.data (sub f.data 16 (f.hdr.plen - 16))))) ∧
  (∀ (r : BlkReq) (t g : Nat), (h.win w).sent = [r] → (h.win w).wait = [] → r.wr = false → r.sentAt = some t → r.tag = some g →
    t + 1000 * h.get F.BLK_CFG_RDTMO ≤ h.time.tick → (h.win w).timeouts < 2 →
    Does (.readTimeout w) h
      (let k := h.setWin w { h.win w with
         sent := []
         timeouts := (h.win w).timeouts + 1 }
       (({ k with hif := { k.hif with late := k.hif.late ++ [(g, h.time.tick + 1000 * h.get F.BLK_CFG_RDTMO)] } }).bump
         F.BLK_WCNT1_TIMEOUT w).rdDone w r .timeout)) ∧
  Does .lateTagFree h { h with hif := { h.hif with late := h.hif.late.filter (fun p => decide (h.time.tick < p.2)) } } ∧
  (∀ (f : Machine.Frm) (k : Hub) (r : BlkReq), h.takeMsg (fun f => f.isBop bopBUSY) = some (f, k) →
    (k.win (k.blkWin f)).sent = [r] → r.named (f.at_ 1 1) (f.at_ 8 8) = true → (k.win (k.blkWin f)).epi = none →
    k.get F.BLK_WCTL_STATE (k.blkWin f) = 1 → 1 < k.get F.BLK_CFG_BUSYMAX →
    Does .busyReceive h ((k.setWin (k.blkWin f) { k.win (k.blkWin f) with
      epi := some r.num
      busy := 1
      backAt := some (k.time.tick + 100 * k.get F.BLK_CFG_BOFF)
      quietAt := none }).set F.BLK_WCTL_STATE 2 (k.blkWin f))) ∧
  (∀ (r : BlkReq) (t : Nat), (h.win w).backAt = some t → t ≤ h.time.tick → (h.win w).epi = some r.num → (h.win w).sent = [r] →
    h.get F.BLK_WCTL_STATE w = 2 →
    Does (.backoffExpiry w) h ((h.setWin w { h.win w with
      sent := []
      wait := { r with again := true } :: (h.win w).wait
      backAt := none
      quietAt := some (h.time.tick + 10 * h.get F.BLK_CFG_BOFF * 100 + 2000)
      mark := (h.win w).sendNo }).set F.BLK_WCTL_STATE 1 w)) ∧
  (∀ t, (h.win w).quietAt = some t → t ≤ h.time.tick → (h.win w).backAt = none →
    Does (.episodeQuietEnd w) h (h.setWin w { h.win w with
      epi := none
      busy := 0
      backAt := none
      quietAt := none })) ∧
  (h.get F.BLK_POLLCFG_PEN w = 1 → h.get F.BLK_WCTL_STATE w = 1 → (h.win w).polling = false →
    (h.win w).pollAt + h.get F.BLK_POLLCFG_PINT w ≤ h.time.tick →
    Does (.pollSend w) h ((h.setWin w { h.win w with polling := true }).enq w
      { num := 0, wr := false, addr := h.wBase w + h.get64 F.BLK_POLLOFF_LO_POLLOFF_LO F.BLK_POLLOFF_HI_POLLOFF_HI w, len := 4, use := .poll }))) ∧
  (∀ h : Hub,
  (h.live →
    (∀ (w : WindowId), Does (.rdSend w) h (h.rdSend w)) ∧
    Does .blockCompletionReceive h h.blkCompletion ∧
    (∀ (w : WindowId), Does (.syncRead w) h (h.syncRead w)) ∧
    Does .busyReceive h h.busyReceive ∧
    (∀ (w : WindowId), Does (.backoffExpiry w) h (h.backoffExpiry w)) ∧
    (∀ (w : WindowId), Does (.episodeQuietEnd w) h (h.quietEnd w)) ∧
    (∀ (w : WindowId), Does (.readTimeout w) h (h.readTimeout w)) ∧
    Does .lateTagFree h h.lateFree ∧
    (∀ (w : WindowId), Does (.pollSend w) h (h.pollSend w))))

/-- Block windows: the completer (R304, R305, R306). -/
def Obligations.CompleterCommands : Prop :=
  (∀ h : Hub, h.live →
  (∀ (f : Machine.Frm) (k : Hub) (q : InReq) (w : Nat), h.takeMsg (fun f => f.isBop bopWR || f.isBop bopRD) = some (f, k) → w = k.blkWin f →
    q = { wr := f.isBop bopWR, addr := f.at_ 8 8, len := f.at_ 4 2 / 8,
          data := if f.isBop bopWR then sub f.data 16 (f.hdr.plen - 16) else [],
          tag := f.at_ 1 1, win := f.at_ 2 1 / 16, cls := f.hdr.cls, tun := f.hdr.dtun } →
    (k.get F.BLK_WCTL_INEN w = 0 → q.wr = true → Does .inboundRequest h (k.bump F.BLK_CNT_INUNMAP)) ∧
    (k.get F.BLK_WCTL_INEN w = 0 → q.wr = false → Does .inboundRequest h (k.answer w q 3 1 [])) ∧
    (k.get F.BLK_WCTL_INEN w = 1 → k.get64 F.BLK_IBASE_LO_BASE F.BLK_IBASE_HI_BASE w ≤ q.addr →
      q.addr + q.len ≤ k.get64 F.BLK_IBASE_LO_BASE F.BLK_IBASE_HI_BASE w + 2 ^ k.get F.BLK_ISZ_ILOG2 w →
      (k.get F.SLC_STAT_STATE (k.winOwner w) = 2 → Does .inboundRequest h (k.refuseReq w q)) ∧
      (k.get F.SLC_STAT_STATE (k.winOwner w) ≠ 2 → (k.win w).goback = none → inRoom (k.win w).inq q = true →
        Does .inboundRequest h (k.setWin w { k.win w with
          goback := none
          inq := (k.win w).inq ++ [q] })) ∧
      (k.get F.SLC_STAT_STATE (k.winOwner w) ≠ 2 → (k.win w).goback = none → inRoom (k.win w).inq q = false →
        Does .inboundRequest h ((k.setWin w { k.win w with goback := none }).refuseReq w q)))) ∧
  (∀ (w : WindowId) (q : InReq) (l : List InReq), (h.win w).inq = q :: l → q.issued = false → h.get F.SLC_BIND_VALID (h.winOwner w) = 1 →
    (q.wr = true → Does (.inboundPcieIssue w) h ((h.setWin w { h.win w with inq := l }).hostWrite (h.pasid (h.winOwner w)) q.addr q.data)) ∧
    (q.wr = false → Does (.inboundPcieIssue w) h ((h.setWin w { h.win w with inq := { q with issued := true } :: l }).hostRead
      (.inb w) (h.pasid (h.winOwner w)) q.addr q.len))) ∧
  (∀ (w : WindowId) (q : InReq) (l : List InReq) (k : HostRd) (g : Hub), (h.win w).inq = q :: l → q.issued = true →
    h.oldestRead (· = .inb w) = some k → g = (h.fetchEnd k.fetch).setWin w { h.win w with inq := l } →
    (∀ b : List (BitVec 8), b.length = q.len → Does (.inboundPcieCompletion w 0 b) h (g.answer w q 2 0 b)) ∧
    (∀ b : List (BitVec 8), Does (.inboundPcieCompletion w 1 b) h ((g.emit .aer).answer w q 3 2 [])) ∧
    (∀ b : List (BitVec 8), Does (.inboundPcieCompletion w 2 b) h ((g.emit .aer).answer w q 3 3 [])))) ∧
  (∀ h : Hub,
  (h.live →
    Does .inboundRequest h h.inbound ∧
    (∀ (w : WindowId), Does (.inboundPcieIssue w) h (h.inIssue w)) ∧
    (∀ (w : WindowId) (st : Fin 3) (bytes : List (BitVec 8)),
      Does (.inboundPcieCompletion w st bytes) h (h.inCompletion w st bytes))))

/-- Raster pipes: enabling, fetching and releasing lines (R313, R318, R330, R331, R336). -/
def Obligations.PipeCommands : Prop :=
  (∀ h : Hub, h.awake → ∀ d : PipeId,
  (h.led.wiped = false → ∀ (p : Path) (v : Word), h.pipeRight p d = false → Does (.pipeEnable p d v) h h ∧ Does (.pipeDisable p d v) h h) ∧
  (h.led.wiped = false → ∀ (v : Word) (g : Hub), h.get F.RAS_CTL_STATE d = 0 → v.bits 31 1 = 1 → v.bits 0 8 ≠ 0 →
    h.get F.RAS_CTL_LOCK d = 0 → v.bits 14 2 = 0 → v.bits 22 1 = h.get F.RAS_CTL_FPULSE d → v.bits 23 1 = h.get F.RAS_CTL_PAIR d →
    v.bits 20 1 = 0 → h.get F.RAS_CTL_TESRC d = 0 → h.led.refused = [] →
    g = ((((h.keepFirst (F.RAS_CTL_EN.addr d 0)).set F.RAS_CTL_TEGATE (v.bits 21 1) d).set F.RAS_CTL_FPW (v.bits 0 8) d).set
      F.RAS_CTL_TESRC 0 d).set F.RAS_CTL_TEGPIO (v.bits 16 4) d →
    Does (.pipeEnable .pcie d v) h (g.pipeStart d)) ∧
  (h.led.wiped = false → ∀ v : Word, v.bits 31 1 = 0 → ∃ g, Does (.pipeDisable .pcie d v) h g ∧ g.get F.RAS_CTL_EN d = (if h.get F.RAS_CTL_STATE d = 0 then h.get F.RAS_CTL_EN d else 0) ∧
    (h.get F.RAS_CTL_STATE d ≠ 0 → g.get F.RAS_CTL_STATE d = 0)) ∧
  (h.timingOk d = false → h.pipeStart d = h.set F.RAS_CTL_ERRCODE 1 d) ∧
  (∀ q : Nat, h.timingOk d = true → h.owner (0x40 + d) = q → q ≠ 0 → q ≠ 0x10 + d →
    h.pipeStart d = (h.refuseFor (fkey F.RAS_CTL_EN d) (0x40 + d) (0x10 + d) q).set F.RAS_CTL_ERRCODE 2 d) ∧
  (∀ l : Fin 4, ∀ y : RLayer, y = (h.pipe d).layer l → h.get F.RAS_CTL_STATE d ≠ 0 → y.on = true → y.under = false →
    y.req < h.layerRows d l y → h.layerFill d l y + h.lineBytes d l y ≤ 4096 * h.get F.RAS_LCFG_SHARE d l → h.bound (h.pipeOwner d) = true →
    Does (.layerLineFetch d l) h ((h.setPipe d ((h.pipe d).setLayer l { y with
        req := y.req + 1
        coming := y.coming ++ [(y.req, [])] })).hostRead (.line d l) (h.pasid (h.pipeOwner d)) (y.addr + y.req * y.pitch)
      (h.lineBytes d l y))) ∧
  (∀ (l : Fin 4) (x : HostRd) (c : List (BitVec 8)), h.oldestRead (ofLine d l) = some x →
    (c.length ≤ h.fetchDue x.fetch → ∀ k : Hub, k = h.fetchTake x.fetch c.length →
      (x.dead = true → Does (.layerDataArrival d l true c) h k) ∧
      (∀ (y : RLayer) (i : Nat) (b : List (BitVec 8)) (rest : List (Nat × List (BitVec 8))), x.dead = false → y = (k.pipe d).layer l →
        y.coming = (i, b) :: rest →
        (k.lineBytes d l y ≤ b.length + c.length → Does (.layerDataArrival d l true c) h (k.setPipe d ((k.pipe d).setLayer l { y with
          coming := rest
          lines := y.lines ++ [(i, b ++ c)] }))) ∧
        (b.length + c.length < k.lineBytes d l y → Does (.layerDataArrival d l true c) h (k.setPipe d ((k.pipe d).setLayer l { y with
          coming := (i, b ++ c) :: rest }))))) ∧
    (∀ g : Hub, g = (h.fetchEnd x.fetch).emit .aer → Does (.layerDataArrival d l false c) h
      (if x.dead then g else g.underrun d l (g.composing d).2))) ∧
  (h.get F.RAS_CTL_STATE d ≠ 2 → Does (.lineRelease d) h h) ∧
  (∀ g : Hub, h.get F.RAS_CTL_STATE d = 2 → (h.pipe d).line < h.get F.RAS_VTIM_VACT d → (h.pipe d).latched = false →
    h.lineTick d (h.pipe d).line ≤ h.time.tick → g = (h.dropSegs d).lineCheck d (h.pipe d).line →
    Does (.lineRelease d) h
      (let px := g.compose d (h.pipe d).line
       let k := (g.set F.RAS_STAT_LINE (h.pipe d).line d).setPipe d { g.pipe d with
         line := (h.pipe d).line + 1
         segs := g.segments d (h.pipe d).line px.length 0 px }
       let k := (k.each (List.range 8) (fun r k => k.rectLine d r (h.pipe d).line px)).lineUsed d (h.pipe d).line
       if (h.pipe d).line + 1 < k.vact d then k.lineCheck d ((h.pipe d).line + 1) else k))) ∧
  (∀ h : Hub,
  (h.awake →
    (∀ (d : PipeId), Does (.lineRelease d) h (h.lineRelease d)) ∧
    (∀ (d : PipeId) (l : Fin 4), Does (.layerLineFetch d l) h (h.lineFetch d l)) ∧
    (∀ (d : PipeId) (l : Fin 4) (ok : Bool) (bytes : List (BitVec 8)),
      Does (.layerDataArrival d l ok bytes) h (h.layerData d l ok bytes))) ∧
  (h.awake → h.led.wiped = false →
    (∀ (p : Path) (d : PipeId) (v : Word), Does (.pipeEnable p d v) h (h.pipeEnable p d v)) ∧
    (∀ (p : Path) (d : PipeId) (v : Word), Does (.pipeDisable p d v) h (h.pipeDisable p d v))))

/-- Raster pipes: frames and composition (R315, R316, R319, R320, R322, R323, R327, R328, R329, R335). -/
def Obligations.FrameCommands : Prop :=
  (∀ h : Hub, h.awake → ∀ d : PipeId,
  (h.get F.RAS_CTL_STATE d = 0 → Does (.latchTick d) h h ∧ Does (.frameStart d) h h ∧ Does (.synclostDeadline d) h h ∧ Does (.teTimeout d) h h) ∧
  (h.get F.RAS_CTL_STATE d = 1 → (h.pipe d).latched = false → ∃ g, Does (.latchTick d) h g ∧ (g.pipe d).latched = true ∧ (g.pipe d).tol = 0) ∧
  ((h.pipe d).latched = true → Does (.latchTick d) h h) ∧
  (h.get F.RAS_CTL_STATE d ≠ 0 → (h.pipe d).latched = true → (h.pipe d).lock = 0 → h.get F.RAS_CTL_TEGATE d = 0 →
    (h.pipe d).f0 + (h.pipe d).k * (h.pipe d).fper / 65536 ≤ h.time.tick → Does (.frameStart d) h (h.beginFrame d h.time.tick false)) ∧
  (h.get F.RAS_CTL_STATE d ≠ 0 → (h.pipe d).latched = true → (h.pipe d).lock = 0 →
    h.time.tick < (h.pipe d).f0 + (h.pipe d).k * (h.pipe d).fper / 65536 → Does (.frameStart d) h h) ∧
  (h.get F.RAS_CTL_STATE d ≠ 0 → (h.pipe d).latched = true → (h.pipe d).lock = 2 →
    (h.pipe d).base + (h.pipe d).k * (h.pipe d).fper / 65536 ≤ h.time.ridge.toNat → Does (.frameStart d) h (h.beginFrame d h.time.tick false)) ∧
  (h.owner 0x00 ≠ 8 → Does .syncInEdge h h) ∧
  (h.owner 0x00 = 8 → Does .syncInEdge h (h.each (List.range 8) (fun d g => g.syncEdge1 d))) ∧
  (h.get F.RAS_CTL_STATE d = 2 → (h.pipe d).lock = 1 → (h.pipe d).latched = true → (h.pipe d).at_ = none → (h.pipe d).lost = false →
    (h.pipe d).ftick + 5 * (h.pipe d).fper / (4 * 65536) ≤ h.time.tick →
    Does (.synclostDeadline d) h
      (let g := (h.rasFlag d F.RAS_EVT_SYNCLOST 1 2).bump F.RAS_CNT1_SYNCLOST d
       (g.setPipe d { g.pipe d with lost := true }).beginFrame d ((h.pipe d).ftick + (h.pipe d).fper / 65536) false)) ∧
  (h.get F.RAS_CTL_TESRC d = 1 → h.owner (0x10 + h.get F.RAS_CTL_TEGPIO d) = 0x10 + d → Does (.teArrival d) h (h.countTe d)) ∧
  (h.get F.RAS_CTL_TEGATE d = 1 → (h.pipe d).lock = 0 → (h.pipe d).first = false → (h.pipe d).latched = true → (h.pipe d).te = none →
    h.countTe d = h.setPipe d { h.pipe d with te := some h.time.tick }) ∧
  (h.get F.RAS_CTL_STATE d = 2 → h.get F.RAS_CTL_TEGATE d = 1 → (h.pipe d).lock = 0 → (h.pipe d).first = false → (h.pipe d).latched = true →
    (h.pipe d).te = none → (h.pipe d).f0 + (h.pipe d).k * (h.pipe d).fper / 65536 + h.get F.RAS_SYNC_TETMO d * 100 ≤ h.time.tick →
    Does (.teTimeout d) h (((h.rasFlag d F.RAS_EVT_TEMISS 1 3).bump F.RAS_CNT1_TEMISS d).beginFrame d h.time.tick true)) ∧
  (∀ t, (h.pipe d).pulseEnd = some t → t ≤ h.time.tick →
    Does (.framePulseEnd d) h ((h.emit (.pin .syncOut false)).setPipe d { h.pipe d with pulseEnd := none })) ∧
  (∀ (f : Machine.Frm) (k : Hub), h.takeMsg (fun f => f.hdr.type == 2) = some (f, k) →
    (f.hdr.plen ≠ 16 → Does .backChannelEvent h (k.disc f.hdr.dtun)) ∧
    (f.at_ 0 1 / 16 = 1 → f.hdr.plen = 16 → Does .backChannelEvent h (k.backEvent (k.get F.TUN_W2_FIDX f.hdr.dtun % 8) f))) ∧
  (h.get F.HIF_PCTL_LTREN = 0 → Does .ltrSend h h) ∧
  (∀ v, h.get F.HIF_PCTL_LTREN = 1 → h.ras.ltr = none → h.ltrValue = some v →
    Does .ltrSend h (({ h with ras := { h.ras with ltr := some (some ((ltrCode v).1 * 32 ^ (ltrCode v).2), h.time.tick) } }).emit (.ltr (ltrCode v).1 (ltrCode v).2 true)))) ∧
  ((∀ v, v < 256 → (widen 8 v) = 4 * v + v / 64) ∧
  (∀ v, v < 64 → widen 6 v = 16 * v + v / 4) ∧
  (∀ v, v < 32 → widen 5 v = 32 * v + v) ∧
  (∀ v, widen 10 v = v) ∧
  (∀ s t : Pix, s.r ≤ 1023 → s.g ≤ 1023 → s.b ≤ 1023 → t.r ≤ 1023 → t.g ≤ 1023 → t.b ≤ 1023 →
    blend 1023 s t = s ∧ blend 0 s t = t) ∧
  (∀ (a : Nat) (s t : Pix), a ≤ 1023 → s.r ≤ 1023 → t.r ≤ 1023 → min s.r t.r ≤ (blend a s t).r ∧ (blend a s t).r ≤ max s.r t.r) ∧
  (∀ x, 1023 * div1023 x ≤ x + 511 ∧ x ≤ 1023 * div1023 x + 511)) ∧
  (∀ h : Hub,
  (h.awake →
    (∀ (d : PipeId), Does (.frameStart d) h (h.frameStart d)) ∧
    (∀ (d : PipeId), Does (.latchTick d) h (h.latchTick d)) ∧
    Does .syncInEdge h h.syncEdge ∧
    (∀ (d : PipeId), Does (.synclostDeadline d) h (h.syncLost d)) ∧
    (∀ (d : PipeId), Does (.teArrival d) h (h.teArrival d)) ∧
    (∀ (d : PipeId), Does (.teTimeout d) h (h.teTimeout d)) ∧
    Does .backChannelEvent h h.backChannel ∧
    (∀ (d : PipeId), Does (.framePulseEnd d) h (h.pulseEnd d)) ∧
    Does .ltrSend h h.ltrSend))

/-- USB root ports (R357, R358, R359). -/
def Obligations.RootPortCommands : Prop :=
  (∀ h : Hub, h.awake → ∀ n : PortId,
  (h.led.wiped = false → ∀ (p : Path) (v : Word), h.usbRight p n = false →
    Does (.penWrite p n v) h h ∧ Does (.busReset p n v) h h ∧ Does (.usbSuspend p n v) h h ∧ Does (.usbResume p n v) h h) ∧
  (h.led.wiped = false → ∀ (v : Word), v.bits 5 3 = h.get F.PERI_PCTL_TEST n → v.bits 1 1 = 0 → v.bits 2 1 = 0 → v.bits 3 1 = 0 →
    (v.bits 0 1 = 1 → Does (.penWrite .pcie n v) h (h.set F.PERI_PCTL_PEN 1 n).powerPorts) ∧
    (v.bits 0 1 = 0 → Does (.penWrite .pcie n v) h ((h.set F.PERI_PCTL_PEN 0 n).portOff n))) ∧
  (h.led.wiped = false → ∀ g : Hub, ∀ v : Word, v.bits 5 3 = h.get F.PERI_PCTL_TEST n → v.bits 0 1 = 1 → g = (h.set F.PERI_PCTL_PEN 1 n).powerPorts →
    (v.bits 1 1 = 1 → v.bits 2 1 = 0 → v.bits 3 1 = 0 → Does (.busReset .pcie n v) h (g.busReset n)) ∧
    (v.bits 1 1 = 0 → v.bits 2 1 = 1 → v.bits 3 1 = 0 → Does (.usbSuspend .pcie n v) h (g.portSuspend n)) ∧
    (v.bits 1 1 = 0 → v.bits 2 1 = 0 → v.bits 3 1 = 1 → Does (.usbResume .pcie n v) h (g.portResume n))) ∧
  (h.get F.PERI_PSTAT_STATE n = 4 → h.busReset n =
    (((((h.endXfers (fun q => q.port == n) 4).markCtxs n).toUp n 3).setPport n
      { since := some ((((h.endXfers (fun q => q.port == n) 4).markCtxs n).toUp n 3).time.tick) }).usb n .se0)) ∧
  (h.get F.PERI_PSTAT_STATE n = 4 → h.portSuspend n =
    ((h.abortXfers (fun q => q.port == n) 6).set F.PERI_PSTAT_STATE 5 n).portEvent n 4) ∧
  (h.get F.PERI_PSTAT_STATE n = 5 → h.portResume n =
    ((((h.set F.PERI_PSTAT_STATE 6 n).set F.PERI_PSTAT_CAUSE 0 n).set F.PERI_PSTAT_COINCIDENT 0 n).setPport n { h.pport n with
      since := some h.time.tick }).usb n .k) ∧
  (h.get F.PERI_PSTAT_STATE n = 1 → h.blockOn rowUsb n = true → Does (.attachSeen n) h (((h.toUp n 2).portEvent n 1).domainWake 38)) ∧
  (h.get F.PERI_PSTAT_STATE n ≠ 1 ∨ h.blockOn rowUsb n = false → Does (.attachSeen n) h h) ∧
  (h.get F.PERI_PSTAT_STATE n = 4 →
    Does (.detachSeen n) h (((((h.endXfers (fun q => q.port == n) 5).markCtxs n).toUp n 1).portEvent n 2).domainWake 38) ∧
    Does (.babble n) h ((((h.endXfers (fun q => q.port == n) 3).bump F.PERI_PCNT2_BABBLE n).toUp n 7).portEvent n 6)) ∧
  (∀ (s : Fin 3) (t : Nat), h.get F.PERI_PSTAT_STATE n = 3 → (h.pport n).since = some t →
    t + 200000 * h.get F.PERI_PCFG_RSTDUR n ≤ h.time.tick →
    Does (.rstdurEnd n s) h (((h.toUp n 4).set F.PERI_PSTAT_SPEED s n).portEvent n 3)) ∧
  (h.get F.PERI_PSTAT_STATE n = 5 → Does (.remoteWake n) h
    ((((((h.set F.PERI_PSTAT_STATE 6 n).set F.PERI_PSTAT_CAUSE 1 n).set F.PERI_PSTAT_COINCIDENT 0 n).setPport n { h.pport n with
      since := some (h.time.tick + 1) }).usb n .k).domainWake 38)) ∧
  (h.get F.PERI_PSTAT_STATE n = 6 → h.get F.PERI_PSTAT_CAUSE n = 0 → Does (.remoteWake n) h (h.set F.PERI_PSTAT_COINCIDENT 1 n)) ∧
  (∀ t : Nat, h.get F.PERI_PSTAT_STATE n = 6 → (h.pport n).since = some t → t + 200000 * h.get F.PERI_PCFG_RSMDRV n ≤ h.time.tick →
    Does (.rsmdrvEnd n) h ((h.toUp n 4).portEvent n 5))) ∧
  (∀ h : Hub,
  (h.awake →
    (∀ (n : PortId), Does (.attachSeen n) h (h.attachSeen n)) ∧
    (∀ (n : PortId), Does (.detachSeen n) h (h.detachSeen n)) ∧
    (∀ (n : PortId) (speed : Fin 3), Does (.rstdurEnd n speed) h (h.rstdurEnd n speed)) ∧
    (∀ (n : PortId), Does (.remoteWake n) h (h.remoteWake n)) ∧
    (∀ (n : PortId), Does (.rsmdrvEnd n) h (h.rsmdrvEnd n)) ∧
    (∀ (n : PortId), Does (.babble n) h (h.babble n))) ∧
  (h.awake → h.led.wiped = false →
    (∀ (p : Path) (n : PortId) (v : Word), Does (.penWrite p n v) h (h.pctlWrite p n v)) ∧
    (∀ (p : Path) (n : PortId) (v : Word), Does (.busReset p n v) h (h.when (v.bits 1 1 = 1) (fun h => h.pctlWrite p n v))) ∧
    (∀ (p : Path) (n : PortId) (v : Word), Does (.usbSuspend p n v) h (h.when (v.bits 2 1 = 1) (fun h => h.pctlWrite p n v))) ∧
    (∀ (p : Path) (n : PortId) (v : Word), Does (.usbResume p n v) h (h.when (v.bits 3 1 = 1) (fun h => h.pctlWrite p n v)))))

/-- USB transactions, microframes and endpoint contexts (R341, R342, R344, R345, R355, R356). -/
def Obligations.TransferCommands : Prop :=
  (∀ h : Hub, h.awake →
  (∀ (x : CtxId) (r : Fin 4) (b : List (BitVec 8)), h.xfersOf x = [] → Does (.transactionEnd x r b) h h) ∧
  (∀ (x : CtxId) (q : Xfer) (l : List Xfer) (k : Hub) (b : List (BitVec 8)), h.xfersOf x = q :: l → h.get F.PERI_CFG_EN = 1 →
    b.length ≤ max 1 (h.ctxMps x) → q.abort = none → h.get F.PERI_PSTAT_STATE q.port = 4 → h.ready x = true → h.mayServe q.port x q.xtype = true →
    k = h.usb q.port (h.busPacket q) →
    (q.fails = 0 → Does (.transactionEnd x 0 b) h ((k.stepped (q.good (max 1 (h.ctxMps x)) b)).served q.port x q.xtype
      (q.good (max 1 (h.ctxMps x)) b).2.isSome false)) ∧
    Does (.transactionEnd x 1 b) h ((k.putXfer { q with fails := 0 }).served q.port x q.xtype true false) ∧
    Does (.transactionEnd x 2 b) h ((((k.bump F.PERI_PCNT_STALL q.port).endXfer q 1).haltCtx x).served q.port x q.xtype true false) ∧
    (q.xtype ≠ 1 → q.fails < 2 →
      Does (.transactionEnd x 3 b) h ((k.putXfer { q with fails := q.fails + 1 }).served q.port x q.xtype false true)) ∧
    (q.xtype ≠ 1 → 2 ≤ q.fails →
      Does (.transactionEnd x 3 b) h ((((k.bump F.PERI_PCNT_XACTERR q.port).endXfer q 2).haltCtx x).served q.port x q.xtype true false))) ∧
  (h.get F.PERI_CFG_EN = 0 → Does .microframeStart h h) ∧
  (h.time.ridge.toNat % 25000 ≠ 0 → Does .microframeStart h h) ∧
  (∀ t, h.time.everLocked = true → h.get F.PERI_CFG_EN = 1 → h.time.ridge.toNat % 25000 = 0 → h.peri.sofAt = some t → h.time.tick < t + 12500 →
    h.peri.edgeAt ≠ some h.time.tick →
    Does .microframeStart h (({ h with peri := { h.peri with edgeAt := some h.time.tick } } : Hub).bump F.PERI_CNT1_UFSKIP)) ∧
  (h.peri.edgeAt = some h.time.tick → Does .microframeStart h h) ∧
  (h.time.everLocked = true → h.get F.PERI_CFG_EN = 1 → h.time.ridge.toNat % 25000 = 0 → h.peri.sofAt = none → h.peri.xfers = [] →
    h.peri.edgeAt ≠ some h.time.tick →
    Does .microframeStart h
      (({ h with peri := { h.peri with
        sofAt := some h.time.tick
        edgeAt := some h.time.tick } } : Hub).each (ports.filter (fun n => h.get F.PERI_PSTAT_STATE n == 4))
        (fun n g =>
          let sp := g.get F.PERI_PSTAT_SPEED n
          let f := h.time.ridge.toNat / 200000 % 2048
          let m := h.time.ridge.toNat / 25000
          let g := if sp = 0 then g.usb n (.sof f) else if m % 8 ≠ 0 then g else if sp = 1 then g.usb n (.sof f) else g.usb n .keepAlive
          g.setPport n { g.pport n with
            todo := g.periodic n m
            ctls := []
            retry := none }))) ∧
  (h.led.wiped = false → ∀ (v : Word) (x : Nat), x = h.get F.PERI_ESEL_CTX Path.pcie.sel →
    (v.bits 31 1 = 1 → Does (.endpointEnable .pcie v) h (h.ectx0 x v)) ∧
    (v.bits 30 1 = 1 → v.bits 31 1 = 1 → h.get F.ECTX0_STATE x = 2 → h.get F.ECTX0_EN x = 1 →
      Does (.clrhalt .pcie v) h (h.set F.ECTX0_STATE 1 x)) ∧
    (v.bits 31 1 = 0 → h.get F.ECTX0_STATE x = 1 → h.get F.ECTX0_EN x = 1 → h.ectx0 x v = (h.set F.ECTX0_EN 0 x).set F.ECTX0_STATE 0 x))) ∧
  (∀ h : Hub,
  (h.awake →
    Does .microframeStart h h.microframe ∧
    (∀ (x : CtxId) (res : Fin 4) (data : List (BitVec 8)), Does (.transactionEnd x res data) h (h.xactEnd x res data))) ∧
  (h.awake → h.led.wiped = false →
    (∀ (p : Path) (v : Word), Does (.endpointEnable p v) h (h.endpointEnable p v)) ∧
    (∀ (p : Path) (v : Word), Does (.clrhalt p v) h (h.clrHalt p v))))

/-- USB message sessions (R347, R348, R349, R351, R352, R354). -/
def Obligations.SessionCommands : Prop :=
  (∀ h : Hub, h.awake →
  (∀ (f : Machine.Frm) (k : Hub), h.takeMsg (fun f => f.hdr.type == 4) = some (f, k) →
    (f.tmsg = none → Does .transferMessageReceive h (k.disc f.hdr.dtun)) ∧
    (∀ m seq aseq, f.tmsg = some (m, seq, aseq) → (k.sess f.hdr.dtun).lost = true → Does .transferMessageReceive h k) ∧
    (∀ m seq aseq, f.tmsg = some (m, seq, aseq) → (k.sess f.hdr.dtun).lost = false → m.kind = 2 →
      Does .transferMessageReceive h (k.takeAseq f.hdr.dtun aseq)) ∧
    (∀ m seq aseq, f.tmsg = some (m, seq, aseq) → (k.sess f.hdr.dtun).lost = false → m.kind ≠ 2 →
      Does .transferMessageReceive h ((k.takeAseq f.hdr.dtun aseq).numbered f.hdr.dtun seq m))) ∧
  (∀ (t : TunnelId) (a : Nat), (h.sess t).lost = false → (h.sess t).ackAt = some a → a + h.get F.PERI_CFG_ACKDLY ≤ h.time.tick →
    Does (.ackDelayExpiry t) h (h.setSess t { h.sess t with ackNow := true })) ∧
  (∀ (t : TunnelId) (a : Nat) (s : SMsg) (l : List SMsg), (h.sess t).lost = false → (h.sess t).unack = s :: l → (h.sess t).rtoAt = some a →
    a + 1000 * h.get F.PERI_CFG_RTO ≤ h.time.tick →
    ((h.sess t).expiries + 1 < h.get F.PERI_CFG_LOSTN → Does (.resendTimerExpiry t) h (h.setSess t { h.sess t with
      expiries := (h.sess t).expiries + 1
      again := (s :: l).map (·.seq)
      fetch := none
      rtoAt := some h.time.tick })) ∧
    (h.get F.PERI_CFG_LOSTN ≤ (h.sess t).expiries + 1 → Does (.resendTimerExpiry t) h (h.sessionLost t))) ∧
  (∀ (t seq : Nat) (m : TMsg),
    (seq = (h.sess t).rx → h.canTake t m = false → h.numbered t seq m = h.bump F.PERI_CNT1_NOROOM) ∧
    (seq = (h.sess t).rx → h.canTake t m = true → h.numbered t seq m = (h.setSess t { h.sess t with
      rx := ((h.sess t).rx + 1) % 65536
      taken := (h.sess t).taken + 1
      ackAt := some ((h.sess t).ackAt.getD h.time.tick)
      ackNow := (h.sess t).ackNow || decide (8 ≤ (h.sess t).taken + 1) }).takeTMsg t m) ∧
    (seq < 65536 → (h.sess t).rx < 65536 → seq ≠ (h.sess t).rx → ((h.sess t).rx + 65536 - seq) % 65536 ≤ 16 →
      h.numbered t seq m = h.setSess t { h.sess t with ackNow := true }) ∧
    (seq < 65536 → (h.sess t).rx < 65536 → seq ≠ (h.sess t).rx → 16 < ((h.sess t).rx + 65536 - seq) % 65536 →
      h.numbered t seq m = h.bump F.PERI_CNT_OOW))) ∧
  (∀ h : Hub,
  (h.awake →
    Does .transferMessageReceive h h.transferMsg ∧
    (∀ (t : TunnelId), Does (.ackDelayExpiry t) h (h.ackDelay t)) ∧
    (∀ (t : TunnelId), Does (.resendTimerExpiry t) h (h.resendTimer t))))

/-- Power path and bus voltage (R366, R367, R368, R369, R370, R371, R374, R375, R377). -/
def Obligations.PowerPathCommands : Prop :=
  (∀ h : Hub, h.awake → ∀ n : PortId,
  Does (.seatingClosed n 0) h (((h.set F.PORT_PPSTAT_SEATA 1 n).ppEval n).fabSeen n) ∧
  Does (.seatingClosed n 1) h (((h.set F.PORT_PPSTAT_SEATB 1 n).ppEval n).fabSeen n) ∧
  Does (.seatingOpen n 0) h ((((h.set F.PORT_PPSTAT_SEATA 0 n).seatLanes n).ppLoss n).fabLoss n) ∧
  Does (.seatingOpen n 1) h ((((h.set F.PORT_PPSTAT_SEATB 0 n).seatLanes n).ppLoss n).fabLoss n) ∧
  (∀ t, (h.pp n).delayAt = some t → t + (h.get F.PORT_PPCTL_INSDLY n + 1) * 2000000 ≤ h.time.tick →
    Does (.insertionDelayEnd n) h ((h.setPp n { h.pp n with delayed := true }).ppEval n)) ∧
  ((h.pp n).delayAt = none → Does (.insertionDelayEnd n) h h) ∧
  (h.led.wiped = false → ∀ (p : Path) (v : Word), h.pathLimit p = none →
    Does (.powerPathEnable p n v) h (((h.wr (F.PORT_PPCTL_EN.addr n 0) v [31]).swPerm).ppEnable n (v.bits 31 1))) ∧
  (h.led.wiped = false → ∀ (p : Path) (v : Word), h.pathLimit p ≠ none → Does (.powerPathEnable p n v) h h) ∧
  (h.get F.PORT_PPSTAT_STATE n = 3 → 11400 ≤ h.get F.PORT_PPMEAS_V n →
    Does (.rampComplete n) h
      (let g := (h.emit (.gate n 2)).setPpState n 4
       (g.setPp n { g.pp n with
         rampAt := none
         owt := 0 }).wantOffer n)) ∧
  (∀ t, h.get F.PORT_PPSTAT_STATE n = 3 → h.get F.PORT_PPMEAS_V n < 11400 → (h.pp n).rampAt = some t →
    t + 2 * (24000000 / max 1 (h.get F.PORT_PPCTL_SLEW n)) + 400000 ≤ h.time.tick → Does (.rampTimeout n) h (h.trip n 4 0)) ∧
  (h.blockOn rowPower n = true → Does (.hardShortTrip n) h (h.trip n 1 0)) ∧
  (h.blockOn rowPower n = false → Does (.hardShortTrip n) h h) ∧
  (∀ t, (h.pp n).coolAt = some t → t ≤ h.time.tick → Does (.coolDownEnd n) h ((h.setPp n { h.pp n with coolAt := none }).ppEval n))) ∧
  (∀ h : Hub, h.awake → ∀ mv : BitVec 16,
  (h.get F.PWR_BUSCFG_OVTH * 250 ≤ mv.toNat → h.get F.PWR_BUSSTAT_OV = 0 →
    Does (.busOverVoltage mv) h ((((h.set F.PWR_BUSSTAT_OV 1).set F.PWR_BUSSTAT_UV 0).bump F.PWR_CNT_BUSOV).busFails mv.toNat 4)) ∧
  (mv.toNat < h.get F.PWR_BUSCFG_UVTH * 250 → h.get F.PWR_BUSSTAT_UV = 0 →
    Does (.busUnderVoltage mv) h ((((h.set F.PWR_BUSSTAT_UV 1).set F.PWR_BUSSTAT_OV 0).bump F.PWR_CNT_BUSUV).busFails mv.toNat 1)) ∧
  (2000000 ≤ h.time.tick → h.get F.PWR_BUSCFG_UVTH * 250 + 1000 ≤ mv.toNat → mv.toNat + 1000 ≤ h.get F.PWR_BUSCFG_OVTH * 250 →
    Does (.busInRange mv) h (((((h.set F.PWR_BUSSTAT_OK 1).set F.PWR_BUSSTAT_OV 0).set F.PWR_BUSSTAT_UV 0).set F.PWR_BUSSTAT_VBUS mv.toNat).each
      ports (fun n g => g.ppEval n))) ∧
  (mv.toNat + 1000 > h.get F.PWR_BUSCFG_OVTH * 250 → Does (.busInRange mv) h h)) ∧
  (∀ h : Hub,
  (h.awake →
    (∀ (n : PortId) (pin : Fin 2), Does (.seatingClosed n pin) h (h.seatClosed n pin)) ∧
    (∀ (n : PortId) (pin : Fin 2), Does (.seatingOpen n pin) h (h.seatOpen n pin)) ∧
    (∀ (n : PortId), Does (.insertionDelayEnd n) h (h.insDelayEnd n)) ∧
    (∀ (n : PortId), Does (.rampComplete n) h (h.rampComplete n)) ∧
    (∀ (n : PortId), Does (.rampTimeout n) h (h.rampTimeout n)) ∧
    (∀ (n : PortId), Does (.hardShortTrip n) h (h.when (h.blockOn rowPower n) (fun h => h.trip n 1 0))) ∧
    (∀ (mv : BitVec 16), Does (.busOverVoltage mv) h (h.busOver mv.toNat)) ∧
    (∀ (mv : BitVec 16), Does (.busUnderVoltage mv) h (h.busUnder mv.toNat)) ∧
    (∀ (mv : BitVec 16), Does (.busInRange mv) h (h.busInRange mv.toNat)) ∧
    (∀ (n : PortId), Does (.coolDownEnd n) h (h.coolEnd n))) ∧
  (h.awake → h.led.wiped = false →
    (∀ (p : Path) (n : PortId) (v : Word), Does (.powerPathEnable p n v) h (h.ppEnableWrite p n v))))

/-- Measurement, calibration, allotments and shares (R27, R372, R373, R378, R380, R381). -/
def Obligations.MeasurementCommands : Prop :=
  (∀ h : Hub, h.awake → ∀ n : PortId,
  (h.blockOn rowPower n = true → ∀ (raw : BitVec 16) (i : Nat) (g : Hub), i = (h.shuntMa n raw.toInt).natAbs →
    g = (((((((h.readings n (h.shuntMa n raw.toInt) none none).csupStep n none).soaStep n i).energyStep n i).itStep n i).windowStep n).transStep n) →
    g.breaker n = false → g.get F.PORT_PPSTAT_STATE n ≠ 6 → Does (.currentSample n raw none none none) h ((g.dschCheck n).ppEval n)) ∧
  (h.blockOn rowPower n = false → ∀ (raw : BitVec 16) (vos vcv csup : Option (BitVec 16)),
    Does (.currentSample n raw vos vcv csup) h h) ∧
  (∀ i : Nat, (h.energyStep n i).pp n = { h.pp n with
    energy := (h.pp n).energy + h.get F.PORT_PPMEAS_V n * i
    psum := (h.pp n).psum + h.get F.PORT_PPMEAS_V n * i
    pnum := (h.pp n).pnum + 1 }) ∧
  (h.led.wiped = false → ∀ (p : Path) (v : Word), h.pathLimit p = none → v.bits 31 1 = 0 → Does (.calibrationStart p n v) h (h.wr (F.PORT_PPCAL_GO.addr n 0) v)) ∧
  (h.led.wiped = false → ∀ (p : Path) (v : Word), h.pathLimit p = none → v.bits 31 1 = 1 →
    Does (.calibrationStart p n v) h ((h.wr (F.PORT_PPCAL_GO.addr n 0) v).calStart n)) ∧
  (h.get F.PORT_PPCAL_BUSY n = 0 → h.blockOn rowPower n = true → (h.pp n).gate = false → h.owner (0x20 + n) = 3 →
    h.calStart n =
      (let g := (h.setOwner (0x20 + n) 4).set F.PORT_PPCAL_BUSY 1 n
       (g.setPp n { h.pp n with calAt := some h.time.tick }).ppShow n)) ∧
  (h.get F.PORT_PPCAL_BUSY n = 0 → h.blockOn rowPower n = true → (h.pp n).gate = true →
    h.calStart n = h.refuseClaim (0x20 + n) 4 (h.owner (0x20 + n))) ∧
  (h.blockOn rowPower n = false → h.calStart n = h) ∧
  (∀ t, (h.pp n).calAt = some t → h.time.tick ≤ t + 400000 →
    Does (.calibrationEnd n false) h
      ((((((h.set F.PORT_PPCAL_BUSY 0 n).raise F.PORT_PPCAL_DONE 1 n).set F.PORT_PPCAL_FAIL 0 n).setPp n { h.pp n with
        calAt := none
        calibrated := true }).release (0x20 + n) 4).ppEval n)) ∧
  (∀ t f, (h.pp n).calAt = some t → (f = true ∨ t + 400000 < h.time.tick) →
    Does (.calibrationEnd n f) h
      (let g := ((((h.set F.PORT_PPCAL_BUSY 0 n).raise F.PORT_PPCAL_DONE 1 n).set F.PORT_PPCAL_FAIL 1 n).setPp n { h.pp n with
        calAt := none
        calibrated := true }).release (0x20 + n) 4
       (g.rec1 (g.powerProd n) 3 0x0D n 0).ppEval n)) ∧
  (h.time.ridge.toNat % 200000 ≠ 0 → Does .powerWindowEnd h h) ∧
  (h.time.ridge.toNat % 200000 = 0 → h.pwr.jumps ≠ h.time.jumps →
    Does .powerWindowEnd h (({ h with pwr := { h.pwr with jumps := h.time.jumps } }).each ports (fun n g => g.setPp n { g.pp n with
      psum := 0
      pnum := 0 }))) ∧
  (∀ (p : Path) (st : Hub) (o : Otp), h.pathLimit p = none → DoesRead (.energyRead p n) st h o
    (st, (h.emit (.readData p (F.PORT_PPE_LO_E_LO.addr n 0) (st.reg (F.PORT_PPE_LO_E_LO.addr n 0)))).setPp n { h.pp n with
      eShadow := Tab.set 0 (h.pp n).eShadow p.num ((st.pp n).energy / 1000000 / 2 ^ 32 % 2 ^ 32) }))) ∧
  (∀ h : Hub, h.awake → ∀ (p : Path) (v : Word), h.pathLimit p = none →
  (h.led.wiped = false → ∀ (n : PortId) (c i : Nat), h.allotErr n (v.bits 24 7) (v.bits 0 8) = some (c, i) → Does (.allotmentWrite p n v) h (h.pwrErr c i)) ∧
  (h.led.wiped = false → ∀ (n : PortId), h.allotErr n (v.bits 24 7) (v.bits 0 8) = none → v.bits 0 8 = h.get F.PWR_ALLOT_WATTS n →
    Does (.allotmentWrite p n v) h
      (((((h.keepWas (128 + n) (h.get F.PWR_ALLOT_SLICE n)).set F.PWR_ALLOT_SLICE (v.bits 24 7) n).set F.PWR_ALLOT_WATTS (v.bits 0 8) n).swPerm).ppShow n)) ∧
  (h.led.wiped = false → v.bits 0 13 < h.allotSum 32 0 → Does (.budgetWrite p none v) h (h.pwrErr 1 0xFF)) ∧
  (h.led.wiped = false → h.allotSum 32 0 ≤ v.bits 0 13 → 7680 < v.bits 0 13 → Does (.budgetWrite p none v) h (h.pwrErr 4 0xFF)) ∧
  (h.led.wiped = false → h.allotSum 32 0 ≤ v.bits 0 13 → v.bits 0 13 ≤ 7680 → Does (.budgetWrite p none v) h (h.set F.PWR_BUDGET_WATTS (v.bits 0 13))) ∧
  (h.led.wiped = false → ∀ s : Fin 128, v.bits 0 13 < h.sliceSum 32 0 0 s → Does (.budgetWrite p (some s) v) h (h.pwrErr 2 s)) ∧
  (h.led.wiped = false → ∀ s : Fin 128, h.sliceSum 32 0 0 s ≤ v.bits 0 13 → v.bits 0 13 ≤ 7680 →
    Does (.budgetWrite p (some s) v) h ((h.keepWas s (h.get F.PWR_SHARE_WATTS s)).set F.PWR_SHARE_WATTS (v.bits 0 13) s)) ∧
  (h.lowering = true → Does .raiseStart h h) ∧
  (h.lowering = false → (∀ m : PortId, (h.cc m).ren = none) → Does .raiseStart h h)) ∧
  (∀ h : Hub,
  (h.awake →
    Does .raiseStart h h.raiseStart ∧
    (∀ (n : PortId) (raw : BitVec 16) (vos vcv csup : Option (BitVec 16)),
      Does (.currentSample n raw vos vcv csup) h (h.when (h.blockOn rowPower n) (fun h => h.sample n raw.toInt (vos.map
        (·.toNat)) (vcv.map (·.toNat)) (csup.map (·.toNat))))) ∧
    (∀ (n : PortId) (fail : Bool), Does (.calibrationEnd n fail) h (h.calEnd n fail)) ∧
    Does .powerWindowEnd h h.powerWindow ∧
    (∀ (p : Path) (n : PortId) (st : Hub) (o : Otp), DoesRead (.energyRead p n) st h o ((st, st.energyLo h p n)))) ∧
  (h.awake → h.led.wiped = false →
    (∀ (p : Path) (n : PortId) (v : Word),
      Does (.allotmentWrite p n v) h (h.when ((h.pathLimit p).isNone) (fun h => h.allotWrite n v))) ∧
    (∀ (p : Path) (share : Option (Fin 128)) (v : Word),
      Does (.budgetWrite p share v) h (h.when ((h.pathLimit p).isNone) (fun h => h.budgetWrite (share.map (·.val)) v))) ∧
    (∀ (p : Path) (n : PortId) (v : Word), Does (.calibrationStart p n v) h (h.calWrite p n v))))

/-- Receiving messages on the configuration channel (R391, R392, R393, R394, R395). -/
def Obligations.MessageReceiveCommands : Prop :=
  (∀ h : Hub, h.awake → ∀ (n : PortId) (hdr : BitVec 16) (objs : List Word),
  h.attached n = true → h.portDark n = false → (h.isSink n = true → (h.cc n).ptvSeen = true) →
  let o := objs.map (·.toNat)
  let id := ccId hdr.toNat
  let k := ccKind hdr.toNat
  let start := h.time.tick + 534 + h.draw.1 % 5467
  let e := start + 29867
  let acked := (h.draw.2.emit (.cc n start (h.ccHdr n 0 0 id) [])).setCc n { h.cc n with lineAt := e }
  let g := (acked.set F.PORT_CCSTAT_RXID id n).setCc n { h.cc n with
    lineAt := e
    rxAny := true }
  (ccGood hdr.toNat o = true → ((h.cc n).rxAny = false ∨ h.get F.PORT_CCSTAT_RXID n ≠ id) → (h.cc n).hr = false →
    (k = 1 → Does (.offerReceive n hdr objs) h (g.offerRx n id (objs.map (fun x => (ob x.toNat 0 2, ob x.toNat 3 6))))) ∧
    (k = 2 → Does (.requestReceive n hdr objs) h (g.requestRx n (objs.getD 0 0#32).toNat)) ∧
    (k = 3 → Does (.acceptReceive n hdr objs) h (g.acceptRx n e o)) ∧
    (k = 4 → Does (.rejectReceive n hdr objs) h (g.rejectRx n)) ∧
    (k = 5 → Does (.ccReadyReceive n hdr objs) h (g.readyRx n (objs.getD 0 0#32).toNat)) ∧
    (k = 6 → Does (.statusReceive n hdr objs) h
      ((g.ccHold n hdr.toNat o).rec2 (g.powerProd n) 7 0x04 n (ob (o.getD 1 0) 8 15 * 256 + ob (o.getD 1 0) 0 7) (o.getD 0 0))) ∧
    (k = 7 → Does (.alertReceive n hdr objs) h ((g.ccHold n hdr.toNat o).rec1 (g.powerProd n) 7 0x05 n (ob (o.getD 0 0) 0 3))) ∧
    (k = 8 → Does (.cableSupplySwapReceive n hdr objs) h (g.swapRx n (wire 16 hdr.toNat 11 11 == 1)))) ∧
  (ccGood hdr.toNat o = true → ((h.cc n).rxAny = false ∨ h.get F.PORT_CCSTAT_RXID n ≠ id) → k = 9 → (h.cc n).hrAt = none →
    Does (.hardresetReceive n hdr objs) h (g.hrAct n h.time.tick true)) ∧
  (ccGood hdr.toNat o = true → (h.cc n).rxAny = true → h.get F.PORT_CCSTAT_RXID n = id → k = 2 →
    Does (.requestReceive n hdr objs) h acked) ∧
  (ccGood hdr.toNat o = false → k ≠ 0 → Does (.ccBadFrame n hdr objs true) h (acked.bump F.PORT_CCCNT1_BADMSG n)) ∧
  Does (.ccBadFrame n hdr objs false) h ((h.setCc n { h.cc n with lineAt := h.time.tick }).bump F.PORT_CCCNT1_CRCERR n)) ∧
  (∀ h : Hub,
  (h.awake →
    (∀ (n : PortId) (hdr : BitVec 16) (objs : List Word),
      Does (.offerReceive n hdr objs) h (h.ccRecv n kOffer hdr objs (fun _ g => g.offerRx n (ccId hdr.toNat) (objs.map
        (fun o => (ob o.toNat 0 2, ob o.toNat 3 6)))))) ∧
    (∀ (n : PortId) (hdr : BitVec 16) (objs : List Word),
      Does (.requestReceive n hdr objs) h (h.ccRecv n kRequest hdr objs (fun _ g => g.requestRx n ((objs.getD 0 0#32).toNat)))) ∧
    (∀ (n : PortId) (hdr : BitVec 16) (objs : List Word),
      Does (.acceptReceive n hdr objs) h (h.ccRecv n kAccept hdr objs (fun a g => g.acceptRx n a (objs.map (·.toNat))))) ∧
    (∀ (n : PortId) (hdr : BitVec 16) (objs : List Word),
      Does (.rejectReceive n hdr objs) h (h.ccRecv n kReject hdr objs (fun _ g => g.rejectRx n))) ∧
    (∀ (n : PortId) (hdr : BitVec 16) (objs : List Word),
      Does (.ccReadyReceive n hdr objs) h (h.ccRecv n kReady hdr objs (fun _ g => g.readyRx n ((objs.getD 0 0#32).toNat)))) ∧
    (∀ (n : PortId) (hdr : BitVec 16) (objs : List Word),
      Does (.statusReceive n hdr objs) h (h.ccRecv n kStatus hdr objs (fun _ g =>
        let o := objs.map (·.toNat)
        let y := o.getD 1 0
        (g.ccHold n hdr.toNat o).rec2 (g.powerProd n) 7 0x04 n (ob y 8 15 * 256 + ob y 0 7) (o.getD 0 0)))) ∧
    (∀ (n : PortId) (hdr : BitVec 16) (objs : List Word),
      Does (.alertReceive n hdr objs) h (h.ccRecv n kAlert hdr objs (fun _ g =>
        let o := objs.map (·.toNat)
        (g.ccHold n hdr.toNat o).rec1 (g.powerProd n) 7 0x05 n (ob (o.getD 0 0) 0 3)))) ∧
    (∀ (n : PortId) (hdr : BitVec 16) (objs : List Word),
      Does (.cableSupplySwapReceive n hdr objs) h (h.ccRecv n kSwap hdr objs (fun _ g => g.swapRx n
        (wire 16 hdr.toNat 11 11 == 1)))) ∧
    (∀ (n : PortId) (hdr : BitVec 16) (objs : List Word),
      Does (.hardresetReceive n hdr objs) h (h.ccRecv n kHardReset hdr objs (fun _ g => if
        (g.cc n).hrAt.isSome then g else g.hrAct n g.now true))) ∧
    (∀ (n : PortId) (hdr : BitVec 16) (objs : List Word) (crcOk : Bool),
      Does (.ccBadFrame n hdr objs crcOk) h (h.ccBad n hdr.toNat (objs.map (·.toNat)) crcOk))))

/-- Attachment, sending, acknowledgements and commands on the configuration channel (R388, R390, R394, R395, R396, R400, R413,
R415). -/
def Obligations.ConfigurationChannelCommands : Prop :=
  (∀ h : Hub, h.awake → ∀ n : PortId,
  (h.blockOn rowCc n = false → Does (.attachDetect n) h h) ∧
  (h.attached n = false → h.blockOn rowCc n = true →
    let g := ((h.set F.PORT_CCSTAT_TXID 0 n).set F.PORT_CCSTAT_RXID 0 n).setCc n { h.cc n with
      rxAny := false
      ptvSeen := h.flag F.PORT_CCCTL_PTV n
      attAt := h.time.tick
      csFault := false
      csPeer := false
      coll := false
      cmds := [] }
    (h.isSource n = true → Does (.attachDetect n) h ((((g.set F.PORT_CCSTAT_PD 1 n).set F.PORT_PPSTAT_PD 1 n).ppEval n).fabSeen n)) ∧
    (h.isSink n = true → Does (.attachDetect n) h ((g.set F.PORT_CCSTAT_SRC 1 n).ccRest n)) ∧
    (h.isSource n = false → h.isSink n = false → Does (.attachDetect n) h h)) ∧
  (h.attached n = true → ((h.pp n).gate = false ∨ h.isSink n = false) →
    Does (.attachLoss n) h (((((h.set F.PORT_CCSTAT_PD 0 n).set F.PORT_CCSTAT_SRC 0 n).set F.PORT_PPSTAT_PD 0 n).ppLoss n).fabLoss n)) ∧
  (∀ t, (h.cc n).tx = some t → t.endAt = none → h.attached n = true → h.portDark n = false → (h.cc n).lineAt + h.idleNeed n t.msg.kind ≤ h.time.tick →
    Does (.messageSendStart n false) h
      ((h.emit (.cc n h.time.tick (h.ccHdr n t.msg.kind t.msg.objs.length t.id) t.msg.objs)).setCc n { h.cc n with
        coll := false
        lineAt := h.time.tick + ccTicks t.msg.objs.length
        tx := some { t with
          sends := t.sends + 1
          endAt := some (h.time.tick + ccTicks t.msg.objs.length) } }) ∧
    Does (.messageSendStart n true) h ((h.bump F.PORT_CCCNT1_COLLIDE n).setCc n { h.cc n with
      coll := true
      lineAt := h.time.tick })) ∧
  (∀ (t : CcTx) (hdr : BitVec 16) (e : Nat), ccKind hdr.toNat = 0 → ccNobj hdr.toNat = 0 → ccRev hdr.toNat = 1 →
    h.attached n = true → (h.cc n).tx = some t → t.id = ccId hdr.toNat → t.endAt = some e → e ≤ h.time.tick → h.time.tick ≤ e + 40000 →
    t.sends ≤ 1 →
    Does (.acknowledgementReceive n hdr) h
      ((((h.set F.PORT_CCSTAT_TXID (t.id + 1) n).setCc n { h.cc n with
        lineAt := h.time.tick
        tx := none }).ccAcked n t).ccNext n)) ∧
  (∀ (t : CcTx) (e : Nat), (h.cc n).tx = some t → t.endAt = some e → e + 40000 ≤ h.time.tick →
    (t.sends < 3 → Does (.acknowledgementTimeout n) h (h.setCc n { h.cc n with tx := some { t with endAt := none } })) ∧
    (3 ≤ t.sends → t.msg.kind = 9 → Does (.acknowledgementTimeout n) h ((h.setCc n { h.cc n with tx := none }).hrAct n e false)) ∧
    (3 ≤ t.sends → t.msg.kind = 1 → h.contract n = false → Does (.acknowledgementTimeout n) h (h.setCc n { h.cc n with
      tx := none
      offAt := some (e + 400000) })) ∧
    (3 ≤ t.sends → t.msg.kind ≠ 9 → t.msg.kind ≠ 1 → Does (.acknowledgementTimeout n) h (h.hrStart n))) ∧
  (h.led.wiped = false → ∀ (p : Path) (v : Word), h.pathLimit p = none →
    (v.bits 31 1 = 0 →
      Does (.ptvWrite p n v) h ((((h.wr (F.PORT_CCCTL_PTV.addr n 0) v [31, 28]).swPerm.setRole n (v.bits 28 3))).set F.PORT_CCCTL_PTV 0 n) ∧
      Does (.roleWrite p n v) h ((((h.wr (F.PORT_CCCTL_PTV.addr n 0) v [31, 28]).swPerm.setRole n (v.bits 28 3))).set F.PORT_CCCTL_PTV 0 n)) ∧
    (v.bits 0 5 = 2 → h.isSource n = true → Does (.reneg p n v) h (h.wantOffer n)) ∧
    (v.bits 0 5 = 4 → Does (.cccmdStatus p n v) h (h.ccCmd n (6, 0))) ∧
    (v.bits 0 5 = 8 → 1 ≤ v.bits 8 4 → v.bits 8 4 ≤ 4 → Does (.cccmdAlert p n v) h (h.ccCmd n (7, v.bits 8 4))) ∧
    (v.bits 0 5 = 16 → Does (.cccmdSwap p n v) h (h.ccCmd n (8, 0))) ∧
    (v.bits 0 5 = 1 → Does (.cccmdHardreset p n v) h (h.hrStart n)))) ∧
  (∀ h : Hub,
  (h.awake →
    (∀ (n : PortId), Does (.attachDetect n) h (h.attach n)) ∧
    (∀ (n : PortId), Does (.attachLoss n) h (h.attachLoss n)) ∧
    (∀ (n : PortId) (col : Bool), Does (.messageSendStart n col) h (h.ccSend n col)) ∧
    (∀ (n : PortId) (hdr : BitVec 16), Does (.acknowledgementReceive n hdr) h (h.ccAckRx n hdr.toNat)) ∧
    (∀ (n : PortId), Does (.acknowledgementTimeout n) h (h.ccAckTmo n))) ∧
  (h.awake → h.led.wiped = false →
    (∀ (p : Path) (n : PortId) (v : Word), Does (.ptvWrite p n v) h (h.when ((h.pathLimit p).isNone) (fun h => h.ccctl n v))) ∧
    (∀ (p : Path) (n : PortId) (v : Word), Does (.reneg p n v) h (h.cccmdWrite p n v)) ∧
    (∀ (p : Path) (n : PortId) (v : Word), Does (.cccmdStatus p n v) h (h.cccmdWrite p n v)) ∧
    (∀ (p : Path) (n : PortId) (v : Word), Does (.cccmdAlert p n v) h (h.cccmdWrite p n v)) ∧
    (∀ (p : Path) (n : PortId) (v : Word), Does (.cccmdSwap p n v) h (h.cccmdWrite p n v)) ∧
    (∀ (p : Path) (n : PortId) (v : Word), Does (.cccmdHardreset p n v) h (h.cccmdWrite p n v)) ∧
    (∀ (p : Path) (n : PortId) (v : Word), Does (.roleWrite p n v) h (h.when ((h.pathLimit p).isNone) (fun h => h.ccctl n v)))))

/-- A write of PORT_CCCTL.ROLE (R387). -/
def Obligations.RoleWriteRule : Prop := ∀ h : Hub, h.awake → h.led.wiped = false → ∀ (p : Path) (n : PortId) (v : Word), h.pathLimit p = none →
  ∃ g : Hub, Does (.roleWrite p n v) h g ∧
    (h.get F.PORT_PPSTAT_STATE n = 0 → h.get F.PORT_CCCON_VALID n = 0 → v.bits 28 3 ≤ 4 → g.get F.PORT_CCCTL_ROLE n = v.bits 28 3) ∧
    ((h.get F.PORT_PPSTAT_STATE n ≠ 0 ∨ h.get F.PORT_CCCON_VALID n = 1 ∨ 4 < v.bits 28 3) → g.get F.PORT_CCCTL_ROLE n = h.get F.PORT_CCCTL_ROLE n) ∧
    g.get F.PORT_CCCTL_PTV n = v.bits 31 1 ∧ g.get F.PORT_CCCTL_CSAPPLY n = v.bits F.PORT_CCCTL_CSAPPLY.lo 1 ∧
    g.get F.PORT_CCCTL_SWAPEN n = v.bits F.PORT_CCCTL_SWAPEN.lo 1 ∧
    (10 ≤ v.bits 19 7 → v.bits 19 7 ≤ 100 → g.get F.PORT_CCCTL_SLEW n = v.bits 19 7)

/-- Policy timers, swaps, cable supply, sink switch and voltage transitions (R402, R405, R406, R408, R411, R412, R413). -/
def Obligations.ChannelTimerCommands : Prop :=
  (∀ h : Hub, h.awake → ∀ n : PortId,
  (∀ t, (h.cc n).offAt = some t → t ≤ h.time.tick →
    (h.get F.PORT_CCCTL_PTV n = 1 → Does (.offintExpiry n) h (h.sendOffer n)) ∧
    (h.get F.PORT_CCCTL_PTV n = 0 → Does (.offintExpiry n) h h)) ∧
  (∀ t, (h.cc n).reqAt = some t → t ≤ h.time.tick → h.get F.PORT_CCSTAT_STATE n = 2 → Does (.reqtmoExpiry n) h (h.hrStart n)) ∧
  (∀ t, (h.cc n).respAt = some t → t ≤ h.time.tick → h.get F.PORT_CCSTAT_STATE n = 2 → Does (.resptmoExpiry n) h (h.hrStart n)) ∧
  (∀ t, (h.cc n).readyAt = some t → t ≤ h.time.tick → h.get F.PORT_CCSTAT_STATE n = 3 → Does (.readytmoExpiry n) h (h.hrStart n)) ∧
  (∀ t, (h.cc n).hrAt = some t → t ≤ h.time.tick →
    let g := h.setCc n { h.cc n with hrAt := none }
    (h.isSource n = true → Does (.hrrecEnd n) h ((g.set F.PORT_CCSTAT_STATE 0 n).wantOffer n)) ∧
    (h.isSource n = false → (g.pp n).gate = true → g.get F.PORT_CCSTAT_SRC n = 1 →
      Does (.hrrecEnd n) h ((g.set F.PORT_CCSTAT_STATE 1 n).ccNext n)) ∧
    (h.isSource n = false → (g.pp n).gate = false → Does (.hrrecEnd n) h ((g.set F.PORT_CCSTAT_STATE 0 n).ccNext n))) ∧
  (∀ (w : Swap) (a : Nat), (h.cc n).swap = some w → w.at_ = some a →
    (a + 1000000 ≤ h.time.tick → Does (.swaptmoExpiry n) h (h.hrStart n)) ∧
    (∀ t, w.gain = true → a + 20000 ≤ h.time.tick → (h.cc n).csLowAt = some t → t + 2000 ≤ h.time.tick →
      Does (.swapApply n) h (h.setCson n true)) ∧
    (w.gain = true → h.get F.PORT_CCSTAT_CSON n = 1 → h.get F.PORT_CCSTAT_CSOK n = 1 → (h.cc n).out = [] → (h.cc n).tx = none →
      Does (.swapReady n) h (h.ccQueue n ⟨5, [2 ^ 29 * h.vcur n + 2 ^ 25 * h.icur n + 2 ^ 24]⟩)) ∧
    (w.low = false → a + 200000 ≤ h.time.tick → Does (.swapCsupTimeout n) h (h.hrStart n))) ∧
  (h.isSource n = true → h.attached n = true → (h.cc n).csFault = false → (h.cc n).csPeer = false → (h.cc n).swap = none →
    (h.cc n).hrAt = none → (h.get F.PORT_CCCTL_CSAPPLY n = 1 ∨ h.get F.PORT_PPSTAT_STATE n = 4) →
    Does (.cableSupplyApply n) h (h.setCson n true)) ∧
  (∀ t, h.get F.PORT_CCSTAT_CSON n = 1 → (h.cc n).csDipAt = some t → max t (h.cc n).csAt + 200000 ≤ h.time.tick →
    ∃ g : Hub, Does (.cableSupplyFault n) h ((g.rec1 (h.powerProd n) 3 0x0F n 0).ccNext n) ∧ g.get F.PORT_CCSTAT_CSON n = 0 ∧
      (g.cc n).csFault = true ∧ (g.cc n).cmds = (h.cc n).cmds ++ [(7, 4)] ∧ g.out = h.out ++ [Out.pin (.csen n) false] ∧
      h.sameRegs [F.PORT_CCSTAT_CSON.addr n 0] g) ∧
  (h.blockOn rowPower n = false → Does (.sinkFetOn n) h h) ∧
  (h.blockOn rowPower n = true → h.isSink n = true → (h.pp n).gate = false → h.get F.PORT_CCSTAT_SRC n = 1 → h.get F.PORT_PPTRIP_LATCH n = 0 →
    (h.cc n).attAt + 200000 ≤ h.time.tick → ∀ t, (h.pp n).hiAt = some t → t + 200000 ≤ h.time.tick →
    Does (.sinkFetOn n) h (((((h.driveGate n 1).dschShow n).set F.PORT_PPSTAT_ICON 2 n).ccRest n).ccNext n)) ∧
  (h.isSink n = true → (h.pp n).gate = true → ∀ t, (h.pp n).loAt = some t → t + 200000 ≤ h.time.tick →
    Does (.sinkFetOff n) h (h.sinkOff n 4 false))) ∧
  (∀ h : Hub, h.awake → ∀ (n : PortId) (t : Trans), (h.pp n).trans = some t →
  (t.done + 1 = t.steps → t.start + 200 * t.steps ≤ h.time.tick →
    Does (.transitionStep n) h
      (((h.setPp n { h.pp n with trans := some { t with
        done := t.steps
        reached := some h.time.tick } }).setVset n t.toC t.toV).dschShow n)) ∧
  (∀ c : Nat, t.done + 1 < t.steps → t.start + 200 * (t.done + 1) ≤ h.time.tick →
    (t.fromC : Int) * t.steps + ((t.toC : Int) - t.fromC) * (t.done + 1 : Nat) = c * t.steps →
    Does (.transitionStep n) h
      (((h.setPp n { h.pp n with trans := some { t with
        done := t.done + 1
        reached := none } }).setVset n c ((t.fromV : Int) + ((t.toV : Int) - t.fromV) * (t.done + 1 : Nat) / t.steps).toNat).dschShow n)) ∧
  (h.time.tick < t.start + 200 * (t.done + 1) → Does (.transitionStep n) h h) ∧
  (∀ r i, t.reached = some r → t.inAt = some i → r + 4000 ≤ h.time.tick → i + 4000 ≤ h.time.tick →
    let g := (h.dropTrans n).setPp n { (h.dropTrans n).pp n with
      winAt := some (h.time.tick + 200000)
      owt := 0 }
    (t.ret = false → Does (.transitionEnd n) h (((g.set F.PORT_CCCON_TRANS 0 n).dschShow n).ccQueue n ⟨5, [2 ^ 29 * (h.cc n).tv + 2 ^ 25 * (h.cc n).ti]⟩)) ∧
    (t.ret = true → Does (.transitionEnd n) h ((((g.set F.PORT_CCCON_TRANS 0 n).dschShow n).set F.PORT_CCCON_TICUR 0 n).set F.PORT_PPSTAT_ICON 2 n))) ∧
  (∀ r, t.reached = some r → t.inAt = none → r + 200000 ≤ h.time.tick → Does (.transitionSettleTimeout n) h (h.trip n 4 0))) ∧
  (∀ h : Hub,
  (h.awake →
    (∀ (n : PortId), Does (.offintExpiry n) h (h.offintEnd n)) ∧
    (∀ (n : PortId),
      Does (.reqtmoExpiry n) h (h.when (h.due (h.cc n).reqAt ∧ h.ccState n = csWAITREQ) (fun h => h.hrStart n))) ∧
    (∀ (n : PortId),
      Does (.resptmoExpiry n) h (h.when (h.due (h.cc n).respAt ∧ h.ccState n = ckWAITACC) (fun h => h.hrStart n))) ∧
    (∀ (n : PortId),
      Does (.readytmoExpiry n) h (h.when (h.due (h.cc n).readyAt ∧ h.ccState n = csTRANS) (fun h => h.hrStart n))) ∧
    (∀ (n : PortId), Does (.hrrecEnd n) h (h.hrrecEnd n)) ∧
    (∀ (n : PortId),
      Does (.swaptmoExpiry n) h (h.when ((h.cc n).swap.any (fun w => w.at_.any (fun a => decide (a + 1000000 ≤ h.now))))
        (fun h => h.hrStart n))) ∧
    (∀ (n : PortId),
      Does (.swapApply n) h (h.when ((h.cc n).swap.any (fun w => w.gain && w.at_.any (fun a => decide
        (a + 20000 ≤ h.now))) ∧ (h.cc n).csLowAt.any (fun t => decide (t + 2000 ≤ h.now))) (fun h => h.setCson n true))) ∧
    (∀ (n : PortId), Does (.swapReady n) h (h.swapReady n)) ∧
    (∀ (n : PortId),
      Does (.swapCsupTimeout n) h (h.when ((h.cc n).swap.any (fun w => !w.low && w.at_.any (fun a => decide
        (a + 200000 ≤ h.now)))) (fun h => h.hrStart n))) ∧
    (∀ (n : PortId), Does (.transitionStep n) h (h.transNext n)) ∧
    (∀ (n : PortId), Does (.transitionEnd n) h (h.transEnd n)) ∧
    (∀ (n : PortId), Does (.transitionSettleTimeout n) h (h.transTmo n)) ∧
    (∀ (n : PortId), Does (.sinkFetOn n) h (h.fetOn n)) ∧
    (∀ (n : PortId), Does (.sinkFetOff n) h (h.fetOff n)) ∧
    (∀ (n : PortId), Does (.cableSupplyApply n) h (h.csApply n)) ∧
    (∀ (n : PortId), Does (.cableSupplyFault n) h (h.csFaultEnd n))))

/-- Power domains (R420, R424, R425, R426, R427, R428, R430). -/
def Obligations.DomainCommands : Prop :=
  (∀ h : Hub, h.awake → ∀ d : DomainId,
  (∀ t, h.get F.PWR_PSCTL_SHARED = 1 → d.val ≠ 32 → h.held d = false → (h.dom d).emptyAt = some t →
    t + h.get F.PWR_DCFG_DLY d ≤ h.time.tick →
    Does (.voteDlyExpiry d) h ((h.setDom d { h.dom d with
      spent := true
      emptyAt := none }).tryEntry d)) ∧
  (h.held d = true → Does (.voteDlyExpiry d) h h) ∧
  (∀ o : Otp, h.pwr.stby = none → 1 ≤ h.get F.PWR_DSTAT_STEP d → h.get F.PWR_DSTAT_STEP d < 5 → d.val ≠ 34 → h.stepOver d = true →
    DoesOtp (.entryStepEnd d) h o (h.beginStep d (h.get F.PWR_DSTAT_STEP d + 1) 6)) ∧
  (∀ o : Otp, h.pwr.stby = none → h.get F.PWR_DSTAT_STEP d = 5 → d.val ≠ 34 → h.stepOver d = true →
    DoesOtp (.entryStepEnd d) h o (h.commitLevel d)) ∧
  (∀ o : Otp, h.pwr.stby = none → h.stepOver 34 = true →
    (1 ≤ h.get F.PWR_DSTAT_STEP 34 → h.get F.PWR_DSTAT_STEP 34 < 5 →
      DoesOtp (.entryStepEnd 34) h o ((h.stepDone 34).beginStep 34 (h.get F.PWR_DSTAT_STEP 34 + 1) 6)) ∧
    (h.get F.PWR_DSTAT_STEP 34 = 5 → DoesOtp (.entryStepEnd 34) h o ((h.stepDone 34).commitLevel 34))) ∧
  (h.pwr.stby = none → d.val ≠ 32 → d.val ≠ 33 → h.get F.PWR_PSCTL_SHARED = 1 → Does (.domainWake d) h (h.wakeDom d)) ∧
  (h.pwr.stby ≠ none → Does (.domainWake d) h { h with pwr := { h.pwr with stbyWake := some (0, 0) } }) ∧
  (h.get F.PWR_DSTAT_STEP d ≠ 0 → h.wakeDom d = h.setDom d { h.dom d with wake := true }) ∧
  (h.get F.PWR_DSTAT_STEP d = 0 → h.get F.PWR_DSTAT_LEVEL d ≠ 0 → h.wakeDom d = h.startExit d) ∧
  ((h.dom d).exit = true → (h.dom d).waits = false → h.get F.PWR_DSTAT_LEVEL d ≠ 3 →
    (d.val < 32 → h.get F.PWR_DSTAT_LEVEL d ≠ 1 → Does (.domainExitEnd d) h ((h.backAtRun d).tryDetect d)) ∧
    (d.val < 32 → h.get F.PWR_DSTAT_LEVEL d = 1 → Does (.domainExitEnd d) h (h.backAtRun d)) ∧
    (d.val = 34 → Does (.domainExitEnd d) h ((h.backAtRun d).setCap 12)) ∧
    (34 < d.val → Does (.domainExitEnd d) h (h.backAtRun d))) ∧
  (h.led.wiped = false → ∀ (p : Path) (w : Fin 5) (v : Word), h.pathLimit p = none → h.get F.PWR_DSEL_DOMAIN p.sel = d → d.val ≠ 32 →
    let g := h.set F.PWR_EVOTE_EVOTE (if w.val = 4 then v.toNat % 2 ^ 17 else v.toNat) d w
    (g.get F.PWR_DSTAT_STEP d = 0 → g.get F.PWR_DSTAT_LEVEL d = 0 → Does (.evoteWrite p w v) h g) ∧
    (g.held d = true → g.get F.PWR_DSTAT_LEVEL d ≠ 0 → Does (.evoteWrite p w v) h (g.wakeDom d))) ∧
  (∀ m : Fin 16, Tab.get 0 h.pwr.mgr m ≤ h.time.tick →
    Does (.managerVoteHoldEnd m) h { h with pwr := { h.pwr with mgr := Tab.set 0 h.pwr.mgr m 0 } }) ∧
  (∀ (t : Nat) (st : Hub) (o : Otp) (q : List Instr), h.pwr.sramAt = some t → t + 64 ≤ h.time.tick →
    exec .sramRetentionReturn { hub := h, start := st, otp := o, pending := q } =
      .next { hub := { h with pwr := { h.pwr with sramAt := none } }, start := st, otp := o, pending := q }) ∧
  (h.led.irq = true → Does .waitInstruction h h) ∧
  (h.led.irq = false → (h.get F.PWR_PSCTL_SHARED = 1 ∨ h.get F.PWR_PSCTL_ARM = 0) →
    Does .waitInstruction h (({ h with pwr := { h.pwr with cpuWait := true } } : Hub).set F.MGMT_STAT_WAITING 1)) ∧
  (Does (.pciePowerStateChange 0) h { h with pwr := { h.pwr with d3 := true } }) ∧
  (Does (.pciePowerStateChange 1) h (({ h with pwr := { h.pwr with d3 := false } } : Hub).domainWake 36)) ∧
  (Does (.pciePowerStateChange 2) h (h.domainWake 36))) ∧
  (∀ h : Hub,
  (h.awake →
    Does .waitInstruction h h.waitInstr ∧
    (∀ (d : DomainId), Does (.domainWake d) h (h.domainWake d)) ∧
    (∀ (d : DomainId), Does (.voteDlyExpiry d) h (h.dlyEnd d)) ∧
    (∀ (d : DomainId) (o : Otp), DoesOtp (.entryStepEnd d) h o (h.entryStep o.bits d)) ∧
    (∀ (m : Fin 16), Does (.managerVoteHoldEnd m) h (h.mgrEnd m)) ∧
    (∀ (st : Hub) (o : Otp) (l : List Instr),
      exec .sramRetentionReturn { hub := h, start := st, otp := o, pending := l } =
          .next { hub := h.sramReturn, start := st, otp := o, pending := l }) ∧
    (∀ (d : DomainId), Does (.domainExitEnd d) h (h.exitEnd d)) ∧
    (∀ (k : Fin 3), Does (.pciePowerStateChange k) h (h.pciePower k))) ∧
  (h.awake → h.led.wiped = false →
    (∀ (p : Path) (w : Fin 5) (v : Word), Does (.evoteWrite p w v) h (h.evoteWrite p w v))))

/-- VCORE levels (R17, R435, R436, R437, R439). -/
def Obligations.VcoreCommands : Prop :=
  (∀ h : Hub, h.awake →
  (h.led.wiped = false → ∀ (p : Path) (v : Word), h.pathLimit p = none → h.get F.PWR_VREQ_DOZELVL = v.bits 4 2 → 2 ≤ v.bits 0 2 →
    v.bits 0 2 ≠ h.get F.PWR_VREQ_RUNLVL → h.voutCode (v.bits 0 2) ≠ 0 → h.voutCode (v.bits 4 2) ≠ 0 → h.get F.PWR_DSTAT_STEP 34 ≠ 5 →
    Does (.vreqWrite p v) h
      (let g := (h.setDom 34 { h.dom 34 with barred := false }).set F.PWR_VREQ_RUNLVL (v.bits 0 2)
       g.askLevel g.wantLevel)) ∧
  (h.led.wiped = false → ∀ (p : Path) (v : Word), h.pathLimit p = none → h.get F.PWR_PMBCFG_EN = 1 →
    Does (.pmbcfgEnWrite p v) h
      (let g := h.wr (F.PWR_PMBCFG_EN.addr 0 0) v
       g.setDom 34 { g.dom 34 with barred := false })) ∧
  (∀ l : Nat, h.pwr.chg = none → l ≠ h.get F.CORE_STAT_VLEVEL → h.get F.PWR_PMBCFG_EN = 0 →
    h.askLevel l = h.set F.PWR_VREQ_STATUS 4) ∧
  (∀ l : Nat, h.pwr.chg ≠ none → h.askLevel l = h.setNext (some l)) ∧
  (∀ c : VChange, h.pwr.chg = some c →
    ((c.stage = 0 ∨ c.stage = 3) → Does (.voutCommandDone true) h ((h.setChg (some { c with
      stage := c.stage + 1
      sentAt := h.time.tick
      fails := 0 })).emit .pmbusStatus)) ∧
    ((c.stage = 0 ∨ c.stage = 3) → c.fails < 2 → Does (.voutCommandDone false) h
      ((h.setChg (some { c with fails := c.fails + 1 })).emit (.pmbusVout (h.voutCode (if c.stage = 3 then c.old else c.level))))) ∧
    (c.stage = 0 → 2 ≤ c.fails → Does (.voutCommandDone false) h (h.failChange c 2)) ∧
    (c.stage = 3 → 2 ≤ c.fails → Does (.voutCommandDone false) h (h.endChange c c.status)) ∧
    (∀ w : BitVec 16, c.stage = 1 → (bitOf w.toNat 11 = true ∨ bitOf w.toNat 15 = true) →
      Does (.statusWordRead true w) h ((h.setChg (some { c with fails := 0 })).emit .pmbusStatus)) ∧
    (∀ w : BitVec 16, c.stage = 1 → bitOf w.toNat 11 = false → bitOf w.toNat 15 = false →
      Does (.statusWordRead true w) h ((h.setChg (some { c with
        stage := 2
        goodAt := h.time.tick })).set F.CORE_STAT_VLEVEL c.level)) ∧
    (c.stage = 2 → c.goodAt + h.get F.PWR_PMBCFG_SETTLE * 200 ≤ h.time.tick → c.level ≤ c.old →
      Does .settleEnd h ((h.bump F.PWR_PSCNT_VCHG).endChange c 1)) ∧
    (c.stage = 2 → c.goodAt + h.get F.PWR_PMBCFG_SETTLE * 200 ≤ h.time.tick → c.old < c.level →
      Does .settleEnd h (h.setChg (some { c with
        stage := 6
        goodAt := h.time.tick }))) ∧
    (∀ w : BitVec 16, c.stage = 4 → bitOf w.toNat 11 = false → bitOf w.toNat 15 = false →
      Does (.statusWordRead true w) h (h.setChg (some { c with
        stage := 6
        goodAt := h.time.tick }))) ∧
    (c.stage = 6 → c.status = 1 → min c.level 2 ≠ h.pwr.clk → c.goodAt + 8 ≤ h.time.tick →
      h.seqTick = (h.setClk (min c.level 2)).setChg (some { c with goodAt := c.goodAt + 8 })) ∧
    (c.stage = 6 → c.status = 1 → min c.level 2 = h.pwr.clk → c.goodAt < h.time.tick →
      h.seqTick = ((h.setCeil c.level).bump F.PWR_PSCNT_VCHG).endChange c 1) ∧
    (c.stage = 1 → c.sentAt + 2000 * h.get F.PWR_PMBCFG_PGTMO ≤ h.time.tick → Does .pgtmoExpiry h (h.failChange c 3)) ∧
    (c.stage = 4 → c.sentAt + 2000 * h.get F.PWR_PMBCFG_PGTMO ≤ h.time.tick → Does .pgtmoExpiry h (h.endChange c c.status)))) ∧
  (∀ h : Hub,
  (h.awake →
    (∀ (ok : Bool), Does (.voutCommandDone ok) h (h.voutDone ok)) ∧
    (∀ (ok : Bool) (w : BitVec 16), Does (.statusWordRead ok w) h (h.statusRead ok w.toNat)) ∧
    Does .settleEnd h h.settleEnd ∧
    Does .pgtmoExpiry h h.pgtmo) ∧
  (h.awake → h.led.wiped = false →
    (∀ (p : Path) (v : Word), Does (.vreqWrite p v) h (h.when ((h.pathLimit p).isNone) (fun h => h.vreq v))) ∧
    (∀ (p : Path) (v : Word), Does (.pmbcfgEnWrite p v) h (h.when ((h.pathLimit p).isNone) (fun h => h.pmbcfg v)))))

/-- Standby entry and wakes (R431, R432, R433). -/
def Obligations.StandbyCommands : Prop :=
  (∀ h : Hub, h.awake →
  (h.led.wiped = false → ∀ (p : Path) (v : Word), h.pathLimit p = none → v.bits 30 1 = 0 → Does (.standbyEntry p v) h (h.wr (F.PWR_PSCTL_ARM.addr 0 0) v)) ∧
  (h.led.wiped = false → ∀ (p : Path) (v : Word) (n : PortId), h.pathLimit p = none → v.bits 30 1 = 1 → h.pwr.stby = none → h.isSource n = true →
    (h.energised n = true ∨ h.get F.PORT_PPSTAT_STATE n = 2) → Does (.standbyEntry p v) h (h.set F.PWR_HSTAT_STBYERR 1)) ∧
  (h.led.wiped = false → ∀ (p : Path) (v : Word), h.pathLimit p = none → v.bits 30 1 = 1 → h.pwr.stby = none →
    (∀ n : PortId, h.isSource n = true → h.energised n = false ∧ h.get F.PORT_PPSTAT_STATE n ≠ 2) →
    ((∃ n : PortId, h.isSink n = true ∧ (h.pp n).gate = true) → Does (.standbyEntry p v) h (h.set F.PWR_HSTAT_STBYERR 2)) ∧
    ((∀ n : PortId, h.isSink n = true → (h.pp n).gate = false) →
      Does (.standbyEntry p v) h ((h.wr (F.PWR_PSCTL_ARM.addr 0 0) v).stbyGroup ports))) ∧
  (∀ (o : Otp) (t : Nat) (l : List Nat), h.pwr.stby = some (t, l) → t + 20000 ≤ h.time.tick →
    DoesOtp .standbyDrainDeadline h o (h.stbyStep o.bits l)) ∧
  (∀ (o : Otp) (t : Nat) (l : List Nat), h.pwr.stby = some (t, l) → h.time.tick < t + 200 → DoesOtp .standbyDrainDeadline h o h) ∧
  (∀ (st : Hub) (o : Otp) (q : List Instr) (c : Fin 5) (n : PortId) (straps : BitVec 8), h.pwr.off = false → h.pwr.stby ≠ none →
    exec (.standbyWake c n straps) { hub := h, start := st, otp := o, pending := q } =
      .next { hub := { h with pwr := { h.pwr with stbyWake := some (c.val, n.val) } }, start := st, otp := o, pending := q })) ∧
  (∀ (h st : Hub) (o : Otp) (q : List Instr) (n : PortId) (straps : BitVec 8),
  h.pwr.off = false → h.pwr.asleep = true → h.trimBad 6 0 = false → h.pwr.stbyWake = none →
  (h.get F.PWR_STBYCFG_WAKEN = 1 → exec (.standbyWake 1 n straps) { hub := h, start := st, otp := o, pending := q } =
    .next { hub := (((h.raise F.PWR_WAKE_VALID 1).set F.PWR_WAKE_CAUSE 1).set F.PWR_WAKE_PORT 0).chipReset .standby o.bits straps.toNat
            start := st
            otp := o
            pending := q }) ∧
  (h.get F.PWR_STBYCFG_PERST = 1 → exec (.standbyWake 2 n straps) { hub := h, start := st, otp := o, pending := q } =
    .next { hub := (((h.raise F.PWR_WAKE_VALID 1).set F.PWR_WAKE_CAUSE 2).set F.PWR_WAKE_PORT 0).chipReset .standby o.bits straps.toNat
            start := st
            otp := o
            pending := q }) ∧
  (∀ c : Fin 5, (c.val = 3 ∧ Tab.get 0 h.pwr.roles n ≠ 1 ∧ Tab.get 0 h.pwr.roles n ≤ 3 ∨ c.val = 4 ∧ Tab.get 0 h.pwr.roles n = 1) →
    bitOf (h.get F.PWR_STBYARM_ARM) n = true → exec (.standbyWake c n straps) { hub := h, start := st, otp := o, pending := q } =
    .next { hub := (((h.raise F.PWR_WAKE_VALID 1).set F.PWR_WAKE_CAUSE c).set F.PWR_WAKE_PORT n).chipReset .standby o.bits straps.toNat
            start := st
            otp := o
            pending := q }) ∧
  (∀ c : Fin 5, 3 ≤ c.val → bitOf (h.get F.PWR_STBYARM_ARM) n = false →
    exec (.standbyWake c n straps) { hub := h, start := st, otp := o, pending := q } = .next { hub := h, start := st, otp := o, pending := q })) ∧
  (∀ h : Hub,
  (h.awake →
    (∀ (o : Otp), DoesOtp .standbyDrainDeadline h o (h.stbyDeadline o.bits))) ∧
  (h.awake → h.led.wiped = false →
    (∀ (p : Path) (v : Word), Does (.standbyEntry p v) h (h.when ((h.pathLimit p).isNone) (fun h => h.psctl v)))) ∧
  ((∀ (cause : Fin 5) (n : PortId) (straps : BitVec 8) (st : Hub) (o : Otp) (l : List Instr),
      exec (.standbyWake cause n straps) { hub := h, start := st, otp := o, pending := l } =
          .next { hub := h.standbyWake o.bits cause n straps.toNat, start := st, otp := o, pending := l })))

/-- Event streams and producers (R447, R449, R450, R452, R453). -/
def Obligations.EventStreamCommands : Prop :=
  (∀ h : Hub,
  (h.live → ∀ (v : StreamId) (t : Nat), (h.stream v).fill.first = some t → t + 100 * h.get F.EVS_THR_FLUSHTMO v ≤ h.time.tick →
    Does (.flushTimeout v) h (h.closeBank v true)) ∧
  (∀ (v : StreamId) (s : Slot) (l : List Slot), (h.stream v).fill.slots = s :: l → (h.stream v).drain.slots = [] →
    (h.stream v).markOwed = false → ∀ b,
    ((h.closeBank v b).stream v).drain.slots = s :: l ∧ ((h.closeBank v b).stream v).fill.slots = [] ∧
    ((h.closeBank v b).stream v).drain.flushed = b ∧
    (h.closeBank v b).get F.EVS_STAT_FILLBANK v = (1 - h.get F.EVS_STAT_FILLBANK v) % 2) ∧
  (h.awake → h.led.wiped = false → ∀ (p : Path) (v : StreamId) (w : Word), h.strmRight p v = true →
    (w.bits 28 1 = 1 → h.get F.EVS_CFG_EN v = 1 → w.bits 31 1 = 1 →
      Does (.streamFlush p v w) h ((h.wr (F.EVS_CFG_EN.addr v 0) w).closeBank v true)) ∧
    (w.bits 28 1 = 0 → h.get F.EVS_CFG_EN v = 0 → w.bits 31 1 = 1 →
      Does (.streamEnable p v w) h
        (let g := h.wr (F.EVS_CFG_EN.addr v 0) w
         g.setStream v { g.stream v with markDue := true })) ∧
    (h.get F.EVS_CFG_EN v = 1 → w.bits 31 1 = 0 →
      Does (.streamEnable p v w) h ((h.wr (F.EVS_CFG_EN.addr v 0) w).closeBank v true))) ∧
  (h.live → ∀ (v : StreamId) (r : Nat) (d : Desc) (l : List Desc), h.evRing v = some r → h.buffers r = d :: l →
    h.get F.EVS_CFG_EN v = 1 → h.get F.EVS_CFG_DEST v = 0 → (h.stream v).drain.slots ≠ [] → (h.stream v).offered = false →
    8 < (h.stream v).drain.slots.length → d.moved + 64 < h.bufLen r d →
    Does (.drainWordWritten v) h
      (let x := h.stream v
       let g := (h.ringWrite r (d.addr + d.moved) (evWord (x.drain.slots.take 8))).modDesc r d.slot (fun d' => { d' with
         started := true
         moved := d.moved + 64
         dw1 := d.dw1 + 8
         dw2 := if d.moved = 0 then (x.drain.slots.head?.map (·.num)).getD 0 else d.dw2 })
       ((g.setStream v { x with drain := { x.drain with slots := x.drain.slots.drop 8 } }).drained v (x.drain.slots.take 8)).heldClose v)) ∧
  (h.awake → h.get F.EVS_TELCFG_EN = 1 → h.get F.EVS_TELCFG_PER ≠ 0 → h.time.ridge.toNat % (200000 * h.get F.EVS_TELCFG_PER) = 0 →
    h.evs.telAt ≠ some h.time.tick →
    Does .telemetry h (({ h with evs := { h.evs with telAt := some h.time.tick } }).each ports (fun n g => g.portTelemetry n)))) ∧
  (∀ h : Hub, h.awake → h.led.wiped = false → ∀ (p : Path) (pr : Fin 162) (w : Word), h.pathLimit p = none →
  (w.bits 31 1 = 1 → 960 < h.granted (h.get F.EVS_PROD_STREAM pr) pr + h.get F.EVS_PROD_GRANT pr →
    h.get F.EVS_PROD_EN pr = 1 →
    Does (.producerWrite p pr w) h ((h.raise F.EVS_ERR_VALID 1).set F.EVS_ERR_PROD pr)) ∧
  (w.bits 31 1 = 1 → h.get F.EVS_PROD_EN pr = 0 → h.undrained pr = 0 → w.bits 0 10 ≤ 960 →
    h.granted (w.bits 24 3) pr + w.bits 0 10 ≤ 960 →
    ∃ g, Does (.producerWrite p pr w) h g ∧ g.get F.EVS_PROD_EN pr = 1 ∧ g.get F.EVS_PROD_STREAM pr = w.bits 24 3 ∧
      g.get F.EVS_PROD_GRANT pr = w.bits 0 10 ∧ g.get F.EVS_PROD_CREDIT pr = w.bits 0 10 ∧ h.sameRegs [F.EVS_PROD_EN.addr pr 0] g) ∧
  (w.bits 31 1 = 0 → h.undrained pr = 0 → h.get F.EVS_PROD_EN pr = 1 →
    ∃ g, Does (.producerWrite p pr w) h g ∧ g.get F.EVS_PROD_EN pr = 0 ∧
      g.get F.EVS_PROD_STREAM pr = h.get F.EVS_PROD_STREAM pr ∧ g.get F.EVS_PROD_GRANT pr = h.get F.EVS_PROD_GRANT pr)) ∧
  (∀ h : Hub,
  (h.awake →
    Does .telemetry h h.telemetry) ∧
  (h.awake → h.led.wiped = false →
    (∀ (p : Path) (v : StreamId) (w : Word), Does (.streamFlush p v w) h (h.streamFlush p v w)) ∧
    (∀ (p : Path) (v : StreamId) (w : Word), Does (.streamEnable p v w) h (h.streamEnable p v w)) ∧
    (∀ (p : Path) (pr : Fin 162) (w : Word),
      Does (.producerWrite p pr w) h (h.when ((h.pathLimit p).isNone) (fun h => h.prodWrite pr w)))) ∧
  (h.live →
    (∀ (v : StreamId), Does (.flushTimeout v) h (h.flushTimeout v)) ∧
    (∀ (v : StreamId), Does (.drainWordWritten v) h (h.drainWord v))))

/-- Fatal errors, the cairn, scrubbing and row repair (R195, R455, R458, R459, R460, R461). -/
def Obligations.FatalCommands : Prop :=
  (∀ h : Hub, h.awake →
  (∀ stage : BitVec 16, h.get F.GLB_FATAL_VALID = 1 → Does (.stageStall stage) h h) ∧
  (∀ stage : BitVec 16, h.get F.GLB_FATAL_VALID = 0 →
    Does (.stageStall stage) h
      (let g := ((h.set F.CORE_STAT_CEIL 0).set F.GLB_FATAL_CAUSE 5).set F.GLB_FATAL_DETAIL stage.toNat
       let g := (g.set64 F.GLB_FATALT_LO_T F.GLB_FATALT_HI_T g.ridge).fault0 0x13 52 5
       let g := (g.each ports (fun n g => g.silence n)).mirq irqNmi
       ({ g with evs := { g.evs with stopped := some g.time.tick } }).set F.GLB_FATAL_VALID 1)) ∧
  (h.led.wiped = false → ∀ v : Word, v.bits 30 1 = 1 → Does (.cairnDeclare .mgmt v) h ((h.set F.GLB_CAIRNSTAT_DECLARE 1).fatal 4 0)) ∧
  (h.led.wiped = false → ∀ v : Word, Does (.cairnDeclare .pcie v) h h) ∧
  (h.led.wiped = false → ∀ (o : Otp) (v : Word) (secs : List (Nat × List (BitVec 8))) (straps : BitVec 8), v.bits 31 1 = 1 → h.get F.GLB_FATAL_VALID = 0 →
    DoesOtp (.cairnDone .mgmt v secs straps) h o (h.set F.GLB_CAIRNSTAT_DONE 1)) ∧
  (h.led.wiped = false → ∀ (o : Otp) (v : Word) (secs : List (Nat × List (BitVec 8))) (straps : BitVec 8), v.bits 31 1 = 1 → h.get F.GLB_FATAL_VALID = 1 →
    ((h.set F.GLB_CAIRNSTAT_DONE 1).cairn secs).length ≤ 2097152 → DoesOtp (.cairnDone .mgmt v secs straps) h o
      ((((h.set F.GLB_CAIRNSTAT_DONE 1).writeCairn ((h.set F.GLB_CAIRNSTAT_DONE 1).cairn secs)).set F.GLB_CAIRNSTAT_TIMEDOUT 0).fatalReset
        o.bits straps.toNat)) ∧
  (∀ (o : Otp) (straps : BitVec 8) (t : Nat), h.get F.GLB_FATAL_VALID = 1 → h.evs.stopped = some t →
    t + 2000000 * h.get F.GLB_CAIRNCFG_TMO ≤ h.time.tick →
    DoesOtp (.cairnTimeout straps) h o ((h.set F.GLB_CAIRNSTAT_TIMEDOUT 1).fatalReset o.bits straps.toNat))) ∧
  (∀ h : Hub, h.awake →
  ((h.core.scrub + 1) * 64 ≤ h.time.tick →
    Does (.kennelScrub []) h { h with core := { h.core with scrub := h.core.scrub + 1 } }) ∧
  (∀ (c : Nat) (double : Bool) (i : Nat) (f : Machine.Frm) (l : List (Nat × Option Machine.Frm)) (x : CellRef),
    (h.core.scrub + 1) * 64 ≤ h.time.tick → c / 64 = h.core.scrub % 4096 → h.core.frames = (i, some f) :: l → x ∈ f.cells →
    x.cell = c → 0 < x.refs →
    Does (.kennelScrub [(c, double)]) h ({ h with core := { h.core with scrub := h.core.scrub + 1 } }.eccCell c double)) ∧
  (∀ (row : BitVec 16), row.toNat < 16384 → h.core.frames = [] → (Tab.get ({} : RowSt) h.core.rows row.toNat).faulted = true →
    Does (.rowRepair 0 0 row) h ((h.spare 0 (row.toNat / 256) row.toNat row.toNat).rowBack row.toNat)) ∧
  (∀ (mem : Fin 13) (arr : Fin 64) (row : BitVec 16), mem ≠ 0 →
    (Tab.get ({} : RowSt) h.core.rows (2 ^ 20 * mem + row.toNat)).faulted = true →
    Does (.rowRepair mem arr row) h (h.spare mem arr row.toNat (2 ^ 20 * mem + row.toNat))) ∧
  (∀ (mem : Fin 13) (row : BitVec 16) (a b : BitVec 32), Does (.memoryScrub mem row 0 a b) h h) ∧
  (∀ (mem : Fin 13) (row : BitVec 16) (a b : BitVec 32), mem ≠ 0 → memPlace mem a.toNat b.toNat = true →
    Does (.memoryScrub mem row 1 a b) h ((h.bump F.CORE_ECCCNT_CORR).rowError (2 ^ 20 * mem + row.toNat) false)) ∧
  (∀ (mem : Fin 13) (row : BitVec 16) (a b : BitVec 32), mem ≠ 0 → memFatal mem = true →
    Does (.memoryScrub mem row 2 a b) h
      (((h.bump F.CORE_ECCCNT_UNCORR).rowError (2 ^ 20 * mem + row.toNat) true).memEffect mem row.toNat a.toNat b.toNat)) ∧
  (∀ (row : BitVec 16) (i : Fin 2048) (b : BitVec 32), Does (.memoryScrub 12 row 2 (BitVec.ofNat 32 i) b) h
    (let g := (h.bump F.CORE_ECCCNT_UNCORR).rowError (2 ^ 20 * 12 + row.toNat) true
     ({ g with core := { g.core with fc := Tab.set none g.core.fc i none } }).fault0 0x11 52 (2 ^ 16 * 12 + row.toNat)))) ∧
  (∀ h : Hub,
  (h.awake →
    (∀ (ecc : List (Nat × Bool)), Does (.kennelScrub ecc) h (h.kennelScrub ecc)) ∧
    (∀ (mem : Fin 13) (arr : Fin 64) (row : BitVec 16), Does (.rowRepair mem arr row) h (h.rowRepair mem arr row.toNat)) ∧
    (∀ (mem : Fin 13) (row : BitVec 16) (err : Fin 3) (a b : BitVec 32),
      Does (.memoryScrub mem row err a b) h (h.memoryScrub mem row.toNat err a.toNat b.toNat)) ∧
    (∀ (stage : BitVec 16), Does (.stageStall stage) h (h.fatal 5 stage.toNat)) ∧
    (∀ (straps : BitVec 8) (o : Otp), DoesOtp (.cairnTimeout straps) h o (h.cairnTimeout o.bits straps.toNat))) ∧
  (h.awake → h.led.wiped = false →
    (∀ (p : Path) (v : Word), Does (.cairnDeclare p v) h (h.cairnDeclare p v)) ∧
    (∀ (p : Path) (v : Word) (secs : List (Nat × List (BitVec 8))) (straps : BitVec 8) (o : Otp),
      DoesOtp (.cairnDone p v secs straps) h o (h.cairnDone o.bits p v secs straps.toNat))))

/-- Chip resets, the watchdog, the lock and the mailbox (R55, R464, R465, R483, R485, R490). -/
def Obligations.ChipResetCommands : Prop :=
  (∀ (h st : Hub) (o : Otp) (q : List Instr) (straps : BitVec 8),
  (h.led.wiped = true → ∀ s : State, s = { hub := h, start := st, otp := o, pending := q } →
    (∀ x0 x1 x2, exec (.sscWrite x0 x1 x2) s = .next s) ∧
    exec .load s = .next s ∧
    exec .palign s = .next s ∧
    (∀ x0 x1, exec (.compareTargetWrite x0 x1) s = .next s) ∧
    (∀ x0 x1, exec (.portLctlEnWrite x0 x1) s = .next s) ∧
    (∀ x0, exec (.retrain x0) s = .next s) ∧
    (∀ x0 x1, exec (.loopbackSelect x0 x1) s = .next s) ∧
    (∀ x0 x1, exec (.retireForce x0 x1) s = .next s) ∧
    (∀ x0, exec (.retireClear x0) s = .next s) ∧
    (∀ x0 x1, exec (.turnRequest x0 x1) s = .next s) ∧
    (∀ x0 x1, exec (.tunnelOpen x0 x1) s = .next s) ∧
    (∀ x0 x1, exec (.tunnelClose x0 x1) s = .next s) ∧
    exec .flowCacheFlush s = .next s ∧
    (∀ x0 x1 x2, exec (.minWrite x0 x1 x2) s = .next s) ∧
    (∀ x0 x1, exec (.quotaWrite x0 x1) s = .next s) ∧
    (∀ x0, exec (.gateCommit x0) s = .next s) ∧
    (∀ x0, exec (.gateAbort x0) s = .next s) ∧
    (∀ x0, exec (.gateDisable x0) s = .next s) ∧
    (∀ x0 x1 x2 x3, exec (.shaperWrite x0 x1 x2 x3) s = .next s) ∧
    (∀ x0 x1 x2, exec (.meterWrite x0 x1 x2) s = .next s) ∧
    (∀ x0 x1 x2, exec (.allotmentWrite x0 x1 x2) s = .next s) ∧
    (∀ x0 x1 x2, exec (.budgetWrite x0 x1 x2) s = .next s) ∧
    (∀ x0 x1 x2, exec (.doorbell x0 x1 x2) s = .next s) ∧
    (∀ x0 x1 x2, exec (.mgmtDoorbell x0 x1 x2) s = .next s) ∧
    (∀ x0 x1 x2, exec (.arm x0 x1 x2) s = .next s) ∧
    (∀ x0 x1 x2, exec (.mgmtArm x0 x1 x2) s = .next s) ∧
    (∀ x0 x1, exec (.ringEnable x0 x1) s = .next s) ∧
    (∀ x0 x1, exec (.ringReset x0 x1) s = .next s) ∧
    exec .cfgrdySet s = .next s ∧
    (∀ x0 x1 x2, exec (.sliceBindWrite x0 x1 x2) s = .next s) ∧
    (∀ x0 x1 x2 x3, exec (.ownerWrite x0 x1 x2 x3) s = .next s) ∧
    (∀ x0 x1 x2, exec (.sliceReset x0 x1 x2) s = .next s) ∧
    (∀ x0 x1 x2, exec (.windowEnable x0 x1 x2) s = .next s) ∧
    (∀ x0 x1 x2, exec (.windowClose x0 x1 x2) s = .next s) ∧
    (∀ x0 x1 x2, exec (.pipeEnable x0 x1 x2) s = .next s) ∧
    (∀ x0 x1 x2, exec (.pipeDisable x0 x1 x2) s = .next s) ∧
    (∀ x0 x1, exec (.endpointEnable x0 x1) s = .next s) ∧
    (∀ x0 x1, exec (.clrhalt x0 x1) s = .next s) ∧
    (∀ x0 x1 x2, exec (.penWrite x0 x1 x2) s = .next s) ∧
    (∀ x0 x1 x2, exec (.busReset x0 x1 x2) s = .next s) ∧
    (∀ x0 x1 x2, exec (.usbSuspend x0 x1 x2) s = .next s) ∧
    (∀ x0 x1 x2, exec (.usbResume x0 x1 x2) s = .next s) ∧
    (∀ x0 x1 x2, exec (.powerPathEnable x0 x1 x2) s = .next s) ∧
    (∀ x0 x1 x2, exec (.calibrationStart x0 x1 x2) s = .next s) ∧
    (∀ x0 x1 x2, exec (.ptvWrite x0 x1 x2) s = .next s) ∧
    (∀ x0 x1 x2, exec (.reneg x0 x1 x2) s = .next s) ∧
    (∀ x0 x1 x2, exec (.cccmdStatus x0 x1 x2) s = .next s) ∧
    (∀ x0 x1 x2, exec (.cccmdAlert x0 x1 x2) s = .next s) ∧
    (∀ x0 x1 x2, exec (.cccmdSwap x0 x1 x2) s = .next s) ∧
    (∀ x0 x1 x2, exec (.cccmdHardreset x0 x1 x2) s = .next s) ∧
    (∀ x0 x1 x2, exec (.roleWrite x0 x1 x2) s = .next s) ∧
    (∀ x0 x1 x2, exec (.evoteWrite x0 x1 x2) s = .next s) ∧
    (∀ x0 x1, exec (.standbyEntry x0 x1) s = .next s) ∧
    (∀ x0 x1, exec (.vreqWrite x0 x1) s = .next s) ∧
    (∀ x0 x1, exec (.pmbcfgEnWrite x0 x1) s = .next s) ∧
    (∀ x0 x1 x2, exec (.streamFlush x0 x1 x2) s = .next s) ∧
    (∀ x0 x1 x2, exec (.streamEnable x0 x1 x2) s = .next s) ∧
    (∀ x0 x1 x2, exec (.producerWrite x0 x1 x2) s = .next s) ∧
    (∀ x0 x1, exec (.cairnDeclare x0 x1) s = .next s) ∧
    (∀ x0 x1 x2 x3, exec (.cairnDone x0 x1 x2 x3) s = .next s) ∧
    (∀ x0 x1, exec (.watchdogKick x0 x1) s = .next s) ∧
    (∀ x0 x1 x2, exec (.chiprst x0 x1 x2) s = .next s) ∧
    (∀ x0 x1, exec (.hostLoadData x0 x1) s = .next s) ∧
    (∀ x0 x1, exec (.hostLoadGo x0 x1) s = .next s) ∧
    (∀ x0 x1, exec (.otpProgram x0 x1) s = .next s) ∧
    (∀ x0 x1, exec (.otpRead x0 x1) s = .next s) ∧
    (∀ x0, exec (.glbLockSet x0) s = .next s) ∧
    (∀ x0 x1, exec (.mgmtH2mWrite x0 x1) s = .next s) ∧
    (∀ x0 x1, exec (.mgmtM2hWrite x0 x1) s = .next s)) ∧
  (h.pwr.off = true → exec (.powerOnReset straps) { hub := h, start := st, otp := o, pending := q } =
    .next { hub := h.chipReset .power o.bits straps.toNat, start := st, otp := o, pending := q }) ∧
  (h.pwr.off = false → exec (.pinReset straps) { hub := h, start := st, otp := o, pending := q } =
    .next { hub := h.chipReset .pin o.bits straps.toNat, start := st, otp := o, pending := q }) ∧
  (h.pwr.off = false → ∃ g : Hub, exec .vaonLoss { hub := h, start := st, otp := o, pending := q } = .next { hub := g, start := st, otp := o, pending := q } ∧
    g.pwr.off = true ∧ g.pwr.asleep = true ∧ g.regs = [] ∧ g.owners = [] ∧ g.boot = {}) ∧
  (h.awake →
    (∀ t, h.boot.wdtAt = t → h.get F.GLB_WDT_EN = 1 → t + 2000000 * h.get F.GLB_WDT_TMO ≤ h.time.tick →
      DoesOtp (.watchdogExpiry straps) h o (h.chipReset .watchdog o.bits straps.toNat)) ∧
    (h.get F.GLB_WDT_EN = 0 → DoesOtp (.watchdogExpiry straps) h o h) ∧
    (h.led.wiped = false → ∀ (p : Path) (v : Word), h.pathLimit p = none → v.bits 29 1 = 1 →
      DoesOtp (.chiprst p v straps) h o (h.chipReset .chip o.bits straps.toNat)) ∧
    (h.led.wiped = false → ∀ (p : Path) (v : Word), h.pathLimit p = none → v.bits 30 1 = 1 → v.bits 29 1 = 0 →
      Does (.watchdogKick p v) h
        (let g := h.wr (F.GLB_WDT_EN.addr 0 0) v
         { g with boot := { g.boot with wdtAt := h.time.tick } })))) ∧
  (∀ h : Hub, h.awake → ∀ p : Path,
  (h.led.wiped = false → h.pathLimit p = none → Does (.glbLockSet p) h (h.set F.GLB_LOCK_LOCK 1)) ∧
  (h.led.wiped = false → h.pathLimit p ≠ none → Does (.glbLockSet p) h h) ∧
  (h.led.wiped = false → ∀ v : Word, h.pathLimit p = none → p ≠ .mgmt → Does (.mgmtH2mWrite p v) h ((h.set F.MGMT_H2M_MSG v.toNat).mirq 0)) ∧
  (h.led.wiped = false → ∀ v : Word, Does (.mgmtH2mWrite .mgmt v) h (h.set F.MGMT_H2M_MSG v.toNat)) ∧
  (h.led.wiped = false → ∀ v : Word, h.get F.MGMT_IRQ_EN = 1 →
    Does (.mgmtM2hWrite .mgmt v) h ((h.set F.MGMT_M2H_MSG v.toNat).vector (h.get F.MGMT_IRQ_VEC))) ∧
  (h.led.wiped = false → ∀ v : Word, h.pathLimit p = none → (p ≠ .mgmt ∨ h.get F.MGMT_IRQ_EN = 0) → Does (.mgmtM2hWrite p v) h (h.set F.MGMT_M2H_MSG v.toNat)) ∧
  (h.boot.irqs.contains 0 = false → (h.mirq 0).boot.irqs = h.boot.irqs ++ [0])) ∧
  (∀ h : Hub,
  (h.awake →
    (∀ (straps : BitVec 8) (o : Otp), DoesOtp (.watchdogExpiry straps) h o (h.watchdog o.bits straps.toNat))) ∧
  (h.awake → h.led.wiped = false →
    (∀ (p : Path) (v : Word), Does (.watchdogKick p v) h (h.kick p v)) ∧
    (∀ (p : Path) (v : Word) (straps : BitVec 8) (o : Otp),
      DoesOtp (.chiprst p v straps) h o (h.chipRst o.bits p v straps.toNat)) ∧
    (∀ (p : Path), Does (.glbLockSet p) h (h.when ((h.pathLimit p).isNone) (fun h => h.set F.GLB_LOCK_LOCK 1))) ∧
    (∀ (p : Path) (v : Word), Does (.mgmtH2mWrite p v) h (h.when ((h.pathLimit p).isNone) (fun h => h.h2m p v))) ∧
    (∀ (p : Path) (v : Word), Does (.mgmtM2hWrite p v) h (h.when ((h.pathLimit p).isNone) (fun h => h.m2h p v)))) ∧
  ((∀ (straps : BitVec 8) (st : Hub) (o : Otp) (l : List Instr),
      exec (.powerOnReset straps) { hub := h, start := st, otp := o, pending := l } =
          .next { hub := h.powerOn o.bits straps.toNat, start := st, otp := o, pending := l }) ∧
    (∀ (straps : BitVec 8) (st : Hub) (o : Otp) (l : List Instr),
      exec (.pinReset straps) { hub := h, start := st, otp := o, pending := l } =
          .next { hub := h.pinReset o.bits straps.toNat, start := st, otp := o, pending := l }) ∧
    (∀ (st : Hub) (o : Otp) (l : List Instr),
      exec .vaonLoss { hub := h, start := st, otp := o, pending := l } =
          .next { hub := h.vaonLoss, start := st, otp := o, pending := l })))

/-- What a chip reset leaves (R28, R464, R465, R466, R531). -/
def Obligations.ChipResetState : Prop := ∀ (h : Hub) (k : ResetKind) (otp : Tab Nat) (straps : Fin 256),
  let g := h.chipReset k otp straps
  g.led.wiped = true ∧ g.get k.cause = 1 ∧ g.get F.GLB_STRAP_STRAP = straps ∧ g.time.tick = 0 ∧ g.links = [] ∧ g.lanes = [] ∧ g.tuns = [] ∧
  g.hif = {} ∧ g.peri = {} ∧ g.ras = {} ∧ g.core = {} ∧ g.trf = {} ∧ g.pwr.off = false ∧ g.pwr.asleep = false ∧
  (k = .pin ∨ g.boot.regEn = 0) ∧
  (k.full = true → g.pwr.ports = []) ∧
  (k.full = false → ∀ n : PortId, h.get F.PORT_PPTRIP_LATCH n = 1 →
    g.get F.PORT_PPSTAT_STATE n = 6 ∧ g.get F.PORT_PPTRIP_LATCH n = 1 ∧ g.owner (0x20 + n) = 6) ∧
  (k.full = false → Tab.wf (fun _ => ({} : PwrPort)) h.pwr.ports = true → ∀ n : PortId, (g.pp n).energy = (h.pp n).energy)

/-- Rails and boot (R467, R468, R470, R471, R472). -/
def Obligations.BootCommands : Prop :=
  (∀ h : Hub, h.awake →
  (∀ bad : List (Nat × Nat), h.boot.loaded = true → Does (.otpLoadComplete bad) h h) ∧
  (h.boot.loaded = false → Does (.otpLoadComplete []) h
    ((({ h with boot := { h.boot with
      loaded := true
      bad := [] } } : Hub).each ports (fun n g => g.calStart n)).railStart.powerPorts)) ∧
  (∀ (r : Fin 4) (t : Nat), bitOf h.boot.regEn r = true → bitOf h.boot.good r = false → h.boot.railAt = some t → t + 20000 ≤ h.time.tick →
    let g : Hub := { h with boot := { h.boot with good := setBit h.boot.good r } }
    (g.boot.good = 15 → Does (.railInRange r) h g.romStart) ∧
    (g.boot.good ≠ 15 → h.strap 6 = true → Does (.railInRange r) h g) ∧
    (g.boot.good ≠ 15 → h.strap 6 = false → Does (.railInRange r) h
      (let g' := g.emit (.pin (.regEn (r + 1)) true)
       { g' with boot := { g'.boot with
          regEn := setBit h.boot.regEn (r + 1)
          railAt := some h.time.tick } }))) ∧
  (∀ t, h.boot.railAt = some t → h.strap 6 = false → t + 2000000 ≤ h.time.tick →
    ∃ g : Hub, Does .railTimeout h g ∧ g.boot.regEn = 0 ∧ g.boot.good = 0 ∧ g.boot.railAt = none ∧ g.boot.tries = h.boot.tries + 1 ∧
      (h.boot.tries < 2 → g.boot.retryAt = some (h.time.tick + 200000000)) ∧ (2 ≤ h.boot.tries → g.boot.retryAt = none) ∧ g.regs = h.regs) ∧
  (∀ t, h.boot.retryAt = some t → t ≤ h.time.tick →
    Does .railRetry h ({ h with boot := { h.boot with retryAt := none } } : Hub).railStart)) ∧
  (∀ h : Hub, h.awake →
  (∀ a b : Bytes, h.boot.rom = .verify →
    (le32 a 0x10 < le32 b 0x10 → h.imgOk b = true → Does (.bootSlotVerify a b) h (h.startImage b 1 0)) ∧
    (le32 a 0x10 < le32 b 0x10 → h.imgOk b = false → h.imgOk a = true → Does (.bootSlotVerify a b) h (h.startImage a 0 0)) ∧
    (le32 b 0x10 ≤ le32 a 0x10 → h.imgOk a = true → Does (.bootSlotVerify a b) h (h.startImage a 0 0)) ∧
    (le32 b 0x10 ≤ le32 a 0x10 → h.imgOk a = false → h.imgOk b = true → Does (.bootSlotVerify a b) h (h.startImage b 1 0)) ∧
    (h.imgOk a = false → h.imgOk b = false → h.strap 1 = false → Does (.bootSlotVerify a b) h { h with boot := { h.boot with
      rom := .flashWait
      flashAt := some (h.time.tick + 200000000) } }) ∧
    (h.imgOk a = false → h.imgOk b = false → h.strap 1 = true → h.strap 2 = false → h.strap 5 = false →
      Does (.bootSlotVerify a b) h { h with boot := { h.boot with
        rom := .hostLoad
        load := [] } })) ∧
  (∀ b : Bytes, popCount 64 (h.otpItem 10) > le32 b 0x10 → h.imgOk b = false) ∧
  (∀ t, h.boot.rom = .flashWait → h.boot.flashAt = some t → t ≤ h.time.tick → Does .flashRetry h { h with boot := { h.boot with
    rom := .verify
    flashAt := none } }) ∧
  (h.led.wiped = false → ∀ (p : Path) (v : Word), h.pathLimit p = none → h.boot.rom = .hostLoad → h.boot.load.length ≤ 459004 →
    Does (.hostLoadData p v) h { h with boot := { h.boot with load := h.boot.load ++ leBytes 4 v.toNat } }) ∧
  (h.led.wiped = false → ∀ (p : Path) (v : Word), h.pathLimit p = none → h.boot.rom = .hostLoad → v.bits 31 1 = 1 →
    let g := h.wr (F.GLB_LOADCTL_GO.addr 0 0) v
    (g.imgOk h.boot.load = true → Does (.hostLoadGo p v) h (g.startImage h.boot.load 0 1)) ∧
    (g.imgOk h.boot.load = false →
      Does (.hostLoadGo p v) h (({ g with boot := { g.boot with load := [] } } : Hub).raise F.GLB_LOADCTL_ERR 1)))) ∧
  (∀ h : Hub,
  (h.awake →
    (∀ (bad : List (Nat × Nat)), Does (.otpLoadComplete bad) h (h.otpLoaded bad)) ∧
    (∀ (r : Fin 4), Does (.railInRange r) h (h.railGood r)) ∧
    Does .railTimeout h h.railTimeout ∧
    Does .railRetry h h.railRetry ∧
    (∀ (a b : List (BitVec 8)), Does (.bootSlotVerify a b) h (h.bootVerify a b)) ∧
    Does .flashRetry h h.flashRetry) ∧
  (h.awake → h.led.wiped = false →
    (∀ (p : Path) (v : Word), Does (.hostLoadData p v) h (h.when ((h.pathLimit p).isNone) (fun h => h.loadData v))) ∧
    (∀ (p : Path) (v : Word), Does (.hostLoadGo p v) h (h.when ((h.pathLimit p).isNone) (fun h => h.loadCtl v)))))

/-- OTP programming and reading (R476, R477, R483). -/
def Obligations.OtpCommands : Prop :=
  (∀ (h : Hub) (o : Otp), h.awake →
  (h.led.wiped = false → ∀ (p : Path) (v : Word), v.bits 30 1 = 1 → v.bits 31 1 = 1 → v.bits 8 8 = 0x5A → (∀ n, p ≠ .tunnel n) → p ≠ .own →
    let g := h.wr (F.GLB_OTPCMD_GO.addr 0 0) v
    g.get F.GLB_OTPSTAT_BUSY = 0 →
    (g.progRefused o.bits (g.get F.GLB_OTPCMD_ITEM) = true → DoesOtp (.otpProgram p v) h o (g.raise F.GLB_OTPSTAT_ERR 1)) ∧
    (g.progRefused o.bits (g.get F.GLB_OTPCMD_ITEM) = false → DoesOtp (.otpProgram p v) h o
      ((({ g with boot := { g.boot with
          prog := some (g.get F.GLB_OTPCMD_ITEM, g.otpData % 2 ^ otpWidth (g.get F.GLB_OTPCMD_ITEM), h.time.tick) } } : Hub).setOtpData 0).set
        F.GLB_OTPSTAT_BUSY 1))) ∧
  (h.led.wiped = false → ∀ (p : Path) (v : Word), v.bits 30 1 = 0 → v.bits 31 1 = 1 → v.bits 8 8 = 0x5A → (∀ n, p ≠ .tunnel n) → p ≠ .own →
    let g := h.wr (F.GLB_OTPCMD_GO.addr 0 0) v
    g.get F.GLB_OTPSTAT_BUSY = 0 →
    (5 ≤ g.get F.GLB_OTPCMD_ITEM → g.get F.GLB_OTPCMD_ITEM ≤ 8 →
      DoesOtp (.otpRead p v) h o (g.setOtpData (Tab.get 0 o.bits (g.get F.GLB_OTPCMD_ITEM)))) ∧
    ((g.get F.GLB_OTPCMD_ITEM < 5 ∨ 8 < g.get F.GLB_OTPCMD_ITEM) → DoesOtp (.otpRead p v) h o (g.raise F.GLB_OTPSTAT_ERR 1))) ∧
  (h.led.wiped = false → ∀ v : Word, DoesOtp (.otpProgram .own v) h o h ∧ DoesOtp (.otpRead .own v) h o h) ∧
  (h.led.wiped = false → ∀ (n : Fin 16) (v : Word), DoesOtp (.otpProgram (.tunnel n) v) h o h ∧ DoesOtp (.otpRead (.tunnel n) v) h o h) ∧
  (∀ (i x t new : Nat) (st : Hub) (q : List Instr), h.boot.prog = some (i, x, t) → new = otpAfter i (Tab.get 0 o.bits i) x →
    exec .otpProgramEnd { hub := h, start := st, otp := o, pending := q } = .next
      { hub := (h.progEnd i new).finish
        start := st
        otp := { bits := Tab.set 0 o.bits i new }
        pending := q }) ∧
  (∀ i x old : Nat, i ≠ 10 → otpAfter i old x = old ||| x) ∧
  (∀ x old k : Nat, x ≠ 0 → k < 64 → bitOf old k = false → (∀ l, l < k → bitOf old l = true) → otpAfter 10 old x = setBit old k) ∧
  (∀ (st : Hub) (q : List Instr), h.boot.prog = none →
    exec .otpProgramEnd { hub := h, start := st, otp := o, pending := q } = .next { hub := h, start := st, otp := o, pending := q }) ∧
  (∀ i : Nat, 5 ≤ i → i ≤ 8 → Tab.get 0 o.bits i ≠ 0 → h.progRefused o.bits i = true) ∧
  (∀ i : Nat, h.get F.GLB_LOCK_LOCK = 1 → h.progRefused o.bits i = true)) ∧
  (∀ h : Hub,
  (h.awake → h.led.wiped = false →
    (∀ (p : Path) (v : Word) (o : Otp), DoesOtp (.otpProgram p v) h o (h.otpProgram o.bits p v)) ∧
    (∀ (p : Path) (v : Word) (o : Otp), DoesOtp (.otpRead p v) h o (h.otpRead o.bits p v))))

/-- The tunnel header reads back as it was built (R126, R127). -/
def Obligations.TunnelHeaderRoundTrip : Prop := ∀ (t : THdr) (rest : Bytes),
  t.dhub < 2 ^ 16 → t.dtun < 2 ^ 12 → t.shub < 2 ^ 16 → t.stun < 2 ^ 12 → t.type < 16 → t.cls < 8 → t.hops < 32 → t.plen < 2 ^ 14 →
  t.rsv < 4 → t.eseq < 2 ^ 24 → t.hcrc < 2 ^ 16 →
  tunHdr (t.bytes ++ rest) = t ∧ t.bytes.length = 16

/-- Link and lane blocks read back as they were built (R43, R68, R72, R83, R97, R99, R106). -/
def Obligations.BlockRoundTrips : Prop :=
  ((∀ l : LinkHdr, l.kind < 4 → l.seq < 2 ^ 12 → l.cls < 8 → l.shc < 64 → l.len < 2 ^ 14 → l.crcls < 8 → l.crcnt < 128 →
    l.blk.sof = l ∧ l.blk.isA btSof = true) ∧
  (∀ (ak aseq crcls crcnt : Nat) (st po sh : Bool), ak < 4 → aseq < 2 ^ 12 → crcls < 8 → crcnt < 128 →
    let k := lcbBlk ak aseq st po crcls sh crcnt
    k.isA btLcb = true ∧ k.lcAk = ak ∧ k.lcAseq = aseq ∧ k.lcStaged = st ∧ k.lcPoll = po ∧
    k.lcPool = (if sh then 8 else crcls) ∧ k.lcCount = crcnt) ∧
  (∀ (good : Bool) (fcrc : Nat), fcrc < 2 ^ 32 →
    (trailerBlk good fcrc).fcrc = fcrc ∧ (trailerBlk good fcrc).isA (if good then btEofg else btEofb) = true)) ∧
  ((∀ (t : TsBlk) (bt : Nat), (bt = btTS1 ∨ bt = btTS2) → t.lane < 4 → t.rates < 8 → t.tgt < 8 → t.retire < 16 → t.role < 4 → t.preset < 16 →
    t.pre < 4 → t.post < 4 → t.eqlane < 4 → t.eqstat < 4 → t.phase < 4 → (t.blk bt).ts = t ∧ (t.blk bt).isA bt = true) ∧
  (∀ kind id mode lanes dly x : Nat, kind < 8 → id < 16 → mode < 8 → lanes < 16 → dly < 1024 → x < 2 ^ 24 →
    let k := lmgtBlk kind id mode lanes dly x
    k.isA btLmgt = true ∧ k.lmKind = kind ∧ k.lmId = id ∧ k.lmMode = mode ∧ k.lmLanes = lanes ∧ k.lmDly = dly ∧ k.lmX = x) ∧
  (∀ set : Nat, set < 16 → (stripeBlk set).stripeSet = set ∧ (stripeBlk set).isA btStripe = true) ∧
  (∀ frac ridge : Nat, frac < 64 → ridge < 2 ^ 48 →
    (timeTsync frac ridge).isTime 0 = true ∧ (timeTsync frac ridge).time 2 7 = frac ∧ (timeTsync frac ridge).time 8 55 = ridge) ∧
  (∀ id res : Nat, id < 64 → res < 2 ^ 24 →
    (timeDrsp id res).isTime 2 = true ∧ (timeDrsp id res).time 2 7 = id ∧ (timeDrsp id res).time 8 31 = res))
end

