-- ==== Sys2Proof/Laws/Parts.lean ====
section
/-! SUPPORT. The parts of a hub that are kept by number: each reads what was put into it, another number is left alone, of two
writes the later stands, and the registers and the other parts keep their values. -/

namespace Sys2Proof.Machine

@[simp] theorem Hub.lane_setLane (h : Hub) (n : Nat) (x : LaneSt) : (h.setLane n x).lane n = x := by simp [Hub.lane, Hub.setLane]
theorem Hub.lane_setLane_ne (h : Hub) {n m : Nat} (x : LaneSt) (e : m ≠ n) : (h.setLane n x).lane m = h.lane m := by
  simp [Hub.lane, Hub.setLane, Tab.get_set_ne _ _ _ _ e]
@[simp] theorem Hub.setLane_setLane (h : Hub) (n : Nat) (x y : LaneSt) : (h.setLane n x).setLane n y = h.setLane n y := by simp [Hub.setLane]
@[simp] theorem Hub.setLane_reg (h : Hub) (n : Nat) (x : LaneSt) (a : Nat) : (h.setLane n x).reg a = h.reg a := rfl
@[simp] theorem Hub.setLane_get (h : Hub) (n : Nat) (x : LaneSt) (f : Fld) (i j : Nat) : (h.setLane n x).get f i j = h.get f i j := rfl
@[simp] theorem Hub.setLane_flag (h : Hub) (n : Nat) (x : LaneSt) (f : Fld) (i j : Nat) : (h.setLane n x).flag f i j = h.flag f i j := rfl
@[simp] theorem Hub.set_lane (h : Hub) (f : Fld) (v i j n : Nat) : (h.set f v i j).lane n = h.lane n := rfl
@[simp] theorem Hub.setLane_regs (h : Hub) (n : Nat) (x : LaneSt) : (h.setLane n x).regs = h.regs := rfl
@[simp] theorem Hub.setLane_time (h : Hub) (n : Nat) (x : LaneSt) : (h.setLane n x).time = h.time := rfl
@[simp] theorem Hub.setLane_tport (h : Hub) (n : Nat) (x : LaneSt) : (h.setLane n x).tport = h.tport := rfl
@[simp] theorem Hub.setLane_evs (h : Hub) (n : Nat) (x : LaneSt) : (h.setLane n x).evs = h.evs := rfl
@[simp] theorem Hub.setLane_owners (h : Hub) (n : Nat) (x : LaneSt) : (h.setLane n x).owners = h.owners := rfl
@[simp] theorem Hub.setLane_draws (h : Hub) (n : Nat) (x : LaneSt) : (h.setLane n x).draws = h.draws := rfl
@[simp] theorem Hub.setLane_out (h : Hub) (n : Nat) (x : LaneSt) : (h.setLane n x).out = h.out := rfl
@[simp] theorem Hub.setLane_links (h : Hub) (n : Nat) (x : LaneSt) : (h.setLane n x).links = h.links := rfl
@[simp] theorem Hub.setLane_core (h : Hub) (n : Nat) (x : LaneSt) : (h.setLane n x).core = h.core := rfl
@[simp] theorem Hub.setLane_trf (h : Hub) (n : Nat) (x : LaneSt) : (h.setLane n x).trf = h.trf := rfl
@[simp] theorem Hub.setLane_tuns (h : Hub) (n : Nat) (x : LaneSt) : (h.setLane n x).tuns = h.tuns := rfl
@[simp] theorem Hub.setLane_fab (h : Hub) (n : Nat) (x : LaneSt) : (h.setLane n x).fab = h.fab := rfl
@[simp] theorem Hub.setLane_hif (h : Hub) (n : Nat) (x : LaneSt) : (h.setLane n x).hif = h.hif := rfl
@[simp] theorem Hub.setLane_peri (h : Hub) (n : Nat) (x : LaneSt) : (h.setLane n x).peri = h.peri := rfl
@[simp] theorem Hub.setLane_keys (h : Hub) (n : Nat) (x : LaneSt) : (h.setLane n x).keys = h.keys := rfl
@[simp] theorem Hub.setLane_ras (h : Hub) (n : Nat) (x : LaneSt) : (h.setLane n x).ras = h.ras := rfl
@[simp] theorem Hub.setLane_pwr (h : Hub) (n : Nat) (x : LaneSt) : (h.setLane n x).pwr = h.pwr := rfl
@[simp] theorem Hub.setLane_boot (h : Hub) (n : Nat) (x : LaneSt) : (h.setLane n x).boot = h.boot := rfl
@[simp] theorem Hub.setLane_msi (h : Hub) (n : Nat) (x : LaneSt) : (h.setLane n x).msi = h.msi := rfl
@[simp] theorem Hub.setLane_led (h : Hub) (n : Nat) (x : LaneSt) : (h.setLane n x).led = h.led := rfl

@[simp] theorem Hub.link_setLink (h : Hub) (n : Nat) (x : LinkSt) : (h.setLink n x).link n = x := by simp [Hub.link, Hub.setLink]
theorem Hub.link_setLink_ne (h : Hub) {n m : Nat} (x : LinkSt) (e : m ≠ n) : (h.setLink n x).link m = h.link m := by
  simp [Hub.link, Hub.setLink, Tab.get_set_ne _ _ _ _ e]
@[simp] theorem Hub.setLink_setLink (h : Hub) (n : Nat) (x y : LinkSt) : (h.setLink n x).setLink n y = h.setLink n y := by simp [Hub.setLink]
@[simp] theorem Hub.setLink_reg (h : Hub) (n : Nat) (x : LinkSt) (a : Nat) : (h.setLink n x).reg a = h.reg a := rfl
@[simp] theorem Hub.setLink_get (h : Hub) (n : Nat) (x : LinkSt) (f : Fld) (i j : Nat) : (h.setLink n x).get f i j = h.get f i j := rfl
@[simp] theorem Hub.setLink_flag (h : Hub) (n : Nat) (x : LinkSt) (f : Fld) (i j : Nat) : (h.setLink n x).flag f i j = h.flag f i j := rfl
@[simp] theorem Hub.set_link (h : Hub) (f : Fld) (v i j n : Nat) : (h.set f v i j).link n = h.link n := rfl
@[simp] theorem Hub.setLink_regs (h : Hub) (n : Nat) (x : LinkSt) : (h.setLink n x).regs = h.regs := rfl
@[simp] theorem Hub.setLink_time (h : Hub) (n : Nat) (x : LinkSt) : (h.setLink n x).time = h.time := rfl
@[simp] theorem Hub.setLink_tport (h : Hub) (n : Nat) (x : LinkSt) : (h.setLink n x).tport = h.tport := rfl
@[simp] theorem Hub.setLink_evs (h : Hub) (n : Nat) (x : LinkSt) : (h.setLink n x).evs = h.evs := rfl
@[simp] theorem Hub.setLink_owners (h : Hub) (n : Nat) (x : LinkSt) : (h.setLink n x).owners = h.owners := rfl
@[simp] theorem Hub.setLink_draws (h : Hub) (n : Nat) (x : LinkSt) : (h.setLink n x).draws = h.draws := rfl
@[simp] theorem Hub.setLink_out (h : Hub) (n : Nat) (x : LinkSt) : (h.setLink n x).out = h.out := rfl
@[simp] theorem Hub.setLink_lanes (h : Hub) (n : Nat) (x : LinkSt) : (h.setLink n x).lanes = h.lanes := rfl
@[simp] theorem Hub.setLink_core (h : Hub) (n : Nat) (x : LinkSt) : (h.setLink n x).core = h.core := rfl
@[simp] theorem Hub.setLink_trf (h : Hub) (n : Nat) (x : LinkSt) : (h.setLink n x).trf = h.trf := rfl
@[simp] theorem Hub.setLink_tuns (h : Hub) (n : Nat) (x : LinkSt) : (h.setLink n x).tuns = h.tuns := rfl
@[simp] theorem Hub.setLink_fab (h : Hub) (n : Nat) (x : LinkSt) : (h.setLink n x).fab = h.fab := rfl
@[simp] theorem Hub.setLink_hif (h : Hub) (n : Nat) (x : LinkSt) : (h.setLink n x).hif = h.hif := rfl
@[simp] theorem Hub.setLink_peri (h : Hub) (n : Nat) (x : LinkSt) : (h.setLink n x).peri = h.peri := rfl
@[simp] theorem Hub.setLink_keys (h : Hub) (n : Nat) (x : LinkSt) : (h.setLink n x).keys = h.keys := rfl
@[simp] theorem Hub.setLink_ras (h : Hub) (n : Nat) (x : LinkSt) : (h.setLink n x).ras = h.ras := rfl
@[simp] theorem Hub.setLink_pwr (h : Hub) (n : Nat) (x : LinkSt) : (h.setLink n x).pwr = h.pwr := rfl
@[simp] theorem Hub.setLink_boot (h : Hub) (n : Nat) (x : LinkSt) : (h.setLink n x).boot = h.boot := rfl
@[simp] theorem Hub.setLink_msi (h : Hub) (n : Nat) (x : LinkSt) : (h.setLink n x).msi = h.msi := rfl
@[simp] theorem Hub.setLink_led (h : Hub) (n : Nat) (x : LinkSt) : (h.setLink n x).led = h.led := rfl

@[simp] theorem Hub.tp_setTp (h : Hub) (n : Nat) (x : TimePort) : (h.setTp n x).tp n = x := by simp [Hub.tp, Hub.setTp]
theorem Hub.tp_setTp_ne (h : Hub) {n m : Nat} (x : TimePort) (e : m ≠ n) : (h.setTp n x).tp m = h.tp m := by
  simp [Hub.tp, Hub.setTp, Tab.get_set_ne _ _ _ _ e]
@[simp] theorem Hub.setTp_setTp (h : Hub) (n : Nat) (x y : TimePort) : (h.setTp n x).setTp n y = h.setTp n y := by simp [Hub.setTp]
@[simp] theorem Hub.setTp_reg (h : Hub) (n : Nat) (x : TimePort) (a : Nat) : (h.setTp n x).reg a = h.reg a := rfl
@[simp] theorem Hub.setTp_get (h : Hub) (n : Nat) (x : TimePort) (f : Fld) (i j : Nat) : (h.setTp n x).get f i j = h.get f i j := rfl
@[simp] theorem Hub.setTp_flag (h : Hub) (n : Nat) (x : TimePort) (f : Fld) (i j : Nat) : (h.setTp n x).flag f i j = h.flag f i j := rfl
@[simp] theorem Hub.set_tp (h : Hub) (f : Fld) (v i j n : Nat) : (h.set f v i j).tp n = h.tp n := rfl
@[simp] theorem Hub.setTp_regs (h : Hub) (n : Nat) (x : TimePort) : (h.setTp n x).regs = h.regs := rfl
@[simp] theorem Hub.setTp_time (h : Hub) (n : Nat) (x : TimePort) : (h.setTp n x).time = h.time := rfl
@[simp] theorem Hub.setTp_evs (h : Hub) (n : Nat) (x : TimePort) : (h.setTp n x).evs = h.evs := rfl
@[simp] theorem Hub.setTp_owners (h : Hub) (n : Nat) (x : TimePort) : (h.setTp n x).owners = h.owners := rfl
@[simp] theorem Hub.setTp_draws (h : Hub) (n : Nat) (x : TimePort) : (h.setTp n x).draws = h.draws := rfl
@[simp] theorem Hub.setTp_out (h : Hub) (n : Nat) (x : TimePort) : (h.setTp n x).out = h.out := rfl
@[simp] theorem Hub.setTp_lanes (h : Hub) (n : Nat) (x : TimePort) : (h.setTp n x).lanes = h.lanes := rfl
@[simp] theorem Hub.setTp_links (h : Hub) (n : Nat) (x : TimePort) : (h.setTp n x).links = h.links := rfl
@[simp] theorem Hub.setTp_core (h : Hub) (n : Nat) (x : TimePort) : (h.setTp n x).core = h.core := rfl
@[simp] theorem Hub.setTp_trf (h : Hub) (n : Nat) (x : TimePort) : (h.setTp n x).trf = h.trf := rfl
@[simp] theorem Hub.setTp_tuns (h : Hub) (n : Nat) (x : TimePort) : (h.setTp n x).tuns = h.tuns := rfl
@[simp] theorem Hub.setTp_fab (h : Hub) (n : Nat) (x : TimePort) : (h.setTp n x).fab = h.fab := rfl
@[simp] theorem Hub.setTp_hif (h : Hub) (n : Nat) (x : TimePort) : (h.setTp n x).hif = h.hif := rfl
@[simp] theorem Hub.setTp_peri (h : Hub) (n : Nat) (x : TimePort) : (h.setTp n x).peri = h.peri := rfl
@[simp] theorem Hub.setTp_keys (h : Hub) (n : Nat) (x : TimePort) : (h.setTp n x).keys = h.keys := rfl
@[simp] theorem Hub.setTp_ras (h : Hub) (n : Nat) (x : TimePort) : (h.setTp n x).ras = h.ras := rfl
@[simp] theorem Hub.setTp_pwr (h : Hub) (n : Nat) (x : TimePort) : (h.setTp n x).pwr = h.pwr := rfl
@[simp] theorem Hub.setTp_boot (h : Hub) (n : Nat) (x : TimePort) : (h.setTp n x).boot = h.boot := rfl
@[simp] theorem Hub.setTp_msi (h : Hub) (n : Nat) (x : TimePort) : (h.setTp n x).msi = h.msi := rfl
@[simp] theorem Hub.setTp_led (h : Hub) (n : Nat) (x : TimePort) : (h.setTp n x).led = h.led := rfl

@[simp] theorem Hub.tun_setTun (h : Hub) (n : Nat) (x : TunSt) : (h.setTun n x).tun n = x := by simp [Hub.tun, Hub.setTun]
theorem Hub.tun_setTun_ne (h : Hub) {n m : Nat} (x : TunSt) (e : m ≠ n) : (h.setTun n x).tun m = h.tun m := by
  simp [Hub.tun, Hub.setTun, Tab.get_set_ne _ _ _ _ e]
@[simp] theorem Hub.setTun_setTun (h : Hub) (n : Nat) (x y : TunSt) : (h.setTun n x).setTun n y = h.setTun n y := by simp [Hub.setTun]
@[simp] theorem Hub.setTun_reg (h : Hub) (n : Nat) (x : TunSt) (a : Nat) : (h.setTun n x).reg a = h.reg a := rfl
@[simp] theorem Hub.setTun_get (h : Hub) (n : Nat) (x : TunSt) (f : Fld) (i j : Nat) : (h.setTun n x).get f i j = h.get f i j := rfl
@[simp] theorem Hub.setTun_flag (h : Hub) (n : Nat) (x : TunSt) (f : Fld) (i j : Nat) : (h.setTun n x).flag f i j = h.flag f i j := rfl
@[simp] theorem Hub.set_tun (h : Hub) (f : Fld) (v i j n : Nat) : (h.set f v i j).tun n = h.tun n := rfl
@[simp] theorem Hub.setTun_regs (h : Hub) (n : Nat) (x : TunSt) : (h.setTun n x).regs = h.regs := rfl
@[simp] theorem Hub.setTun_time (h : Hub) (n : Nat) (x : TunSt) : (h.setTun n x).time = h.time := rfl
@[simp] theorem Hub.setTun_tport (h : Hub) (n : Nat) (x : TunSt) : (h.setTun n x).tport = h.tport := rfl
@[simp] theorem Hub.setTun_evs (h : Hub) (n : Nat) (x : TunSt) : (h.setTun n x).evs = h.evs := rfl
@[simp] theorem Hub.setTun_owners (h : Hub) (n : Nat) (x : TunSt) : (h.setTun n x).owners = h.owners := rfl
@[simp] theorem Hub.setTun_draws (h : Hub) (n : Nat) (x : TunSt) : (h.setTun n x).draws = h.draws := rfl
@[simp] theorem Hub.setTun_out (h : Hub) (n : Nat) (x : TunSt) : (h.setTun n x).out = h.out := rfl
@[simp] theorem Hub.setTun_lanes (h : Hub) (n : Nat) (x : TunSt) : (h.setTun n x).lanes = h.lanes := rfl
@[simp] theorem Hub.setTun_links (h : Hub) (n : Nat) (x : TunSt) : (h.setTun n x).links = h.links := rfl
@[simp] theorem Hub.setTun_core (h : Hub) (n : Nat) (x : TunSt) : (h.setTun n x).core = h.core := rfl
@[simp] theorem Hub.setTun_trf (h : Hub) (n : Nat) (x : TunSt) : (h.setTun n x).trf = h.trf := rfl
@[simp] theorem Hub.setTun_fab (h : Hub) (n : Nat) (x : TunSt) : (h.setTun n x).fab = h.fab := rfl
@[simp] theorem Hub.setTun_hif (h : Hub) (n : Nat) (x : TunSt) : (h.setTun n x).hif = h.hif := rfl
@[simp] theorem Hub.setTun_peri (h : Hub) (n : Nat) (x : TunSt) : (h.setTun n x).peri = h.peri := rfl
@[simp] theorem Hub.setTun_keys (h : Hub) (n : Nat) (x : TunSt) : (h.setTun n x).keys = h.keys := rfl
@[simp] theorem Hub.setTun_ras (h : Hub) (n : Nat) (x : TunSt) : (h.setTun n x).ras = h.ras := rfl
@[simp] theorem Hub.setTun_pwr (h : Hub) (n : Nat) (x : TunSt) : (h.setTun n x).pwr = h.pwr := rfl
@[simp] theorem Hub.setTun_boot (h : Hub) (n : Nat) (x : TunSt) : (h.setTun n x).boot = h.boot := rfl
@[simp] theorem Hub.setTun_msi (h : Hub) (n : Nat) (x : TunSt) : (h.setTun n x).msi = h.msi := rfl
@[simp] theorem Hub.setTun_led (h : Hub) (n : Nat) (x : TunSt) : (h.setTun n x).led = h.led := rfl

@[simp] theorem Hub.fabp_setFabp (h : Hub) (n : Nat) (x : FabPort) : (h.setFabp n x).fabp n = x := by simp [Hub.fabp, Hub.setFabp]
theorem Hub.fabp_setFabp_ne (h : Hub) {n m : Nat} (x : FabPort) (e : m ≠ n) : (h.setFabp n x).fabp m = h.fabp m := by
  simp [Hub.fabp, Hub.setFabp, Tab.get_set_ne _ _ _ _ e]
@[simp] theorem Hub.setFabp_setFabp (h : Hub) (n : Nat) (x y : FabPort) : (h.setFabp n x).setFabp n y = h.setFabp n y := by simp [Hub.setFabp]
@[simp] theorem Hub.setFabp_reg (h : Hub) (n : Nat) (x : FabPort) (a : Nat) : (h.setFabp n x).reg a = h.reg a := rfl
@[simp] theorem Hub.setFabp_get (h : Hub) (n : Nat) (x : FabPort) (f : Fld) (i j : Nat) : (h.setFabp n x).get f i j = h.get f i j := rfl
@[simp] theorem Hub.setFabp_flag (h : Hub) (n : Nat) (x : FabPort) (f : Fld) (i j : Nat) : (h.setFabp n x).flag f i j = h.flag f i j := rfl
@[simp] theorem Hub.set_fabp (h : Hub) (f : Fld) (v i j n : Nat) : (h.set f v i j).fabp n = h.fabp n := rfl
@[simp] theorem Hub.setFabp_regs (h : Hub) (n : Nat) (x : FabPort) : (h.setFabp n x).regs = h.regs := rfl
@[simp] theorem Hub.setFabp_time (h : Hub) (n : Nat) (x : FabPort) : (h.setFabp n x).time = h.time := rfl
@[simp] theorem Hub.setFabp_tport (h : Hub) (n : Nat) (x : FabPort) : (h.setFabp n x).tport = h.tport := rfl
@[simp] theorem Hub.setFabp_evs (h : Hub) (n : Nat) (x : FabPort) : (h.setFabp n x).evs = h.evs := rfl
@[simp] theorem Hub.setFabp_owners (h : Hub) (n : Nat) (x : FabPort) : (h.setFabp n x).owners = h.owners := rfl
@[simp] theorem Hub.setFabp_draws (h : Hub) (n : Nat) (x : FabPort) : (h.setFabp n x).draws = h.draws := rfl
@[simp] theorem Hub.setFabp_out (h : Hub) (n : Nat) (x : FabPort) : (h.setFabp n x).out = h.out := rfl
@[simp] theorem Hub.setFabp_lanes (h : Hub) (n : Nat) (x : FabPort) : (h.setFabp n x).lanes = h.lanes := rfl
@[simp] theorem Hub.setFabp_links (h : Hub) (n : Nat) (x : FabPort) : (h.setFabp n x).links = h.links := rfl
@[simp] theorem Hub.setFabp_core (h : Hub) (n : Nat) (x : FabPort) : (h.setFabp n x).core = h.core := rfl
@[simp] theorem Hub.setFabp_trf (h : Hub) (n : Nat) (x : FabPort) : (h.setFabp n x).trf = h.trf := rfl
@[simp] theorem Hub.setFabp_tuns (h : Hub) (n : Nat) (x : FabPort) : (h.setFabp n x).tuns = h.tuns := rfl
@[simp] theorem Hub.setFabp_hif (h : Hub) (n : Nat) (x : FabPort) : (h.setFabp n x).hif = h.hif := rfl
@[simp] theorem Hub.setFabp_peri (h : Hub) (n : Nat) (x : FabPort) : (h.setFabp n x).peri = h.peri := rfl
@[simp] theorem Hub.setFabp_keys (h : Hub) (n : Nat) (x : FabPort) : (h.setFabp n x).keys = h.keys := rfl
@[simp] theorem Hub.setFabp_ras (h : Hub) (n : Nat) (x : FabPort) : (h.setFabp n x).ras = h.ras := rfl
@[simp] theorem Hub.setFabp_pwr (h : Hub) (n : Nat) (x : FabPort) : (h.setFabp n x).pwr = h.pwr := rfl
@[simp] theorem Hub.setFabp_boot (h : Hub) (n : Nat) (x : FabPort) : (h.setFabp n x).boot = h.boot := rfl
@[simp] theorem Hub.setFabp_msi (h : Hub) (n : Nat) (x : FabPort) : (h.setFabp n x).msi = h.msi := rfl
@[simp] theorem Hub.setFabp_led (h : Hub) (n : Nat) (x : FabPort) : (h.setFabp n x).led = h.led := rfl

@[simp] theorem Hub.pport_setPport (h : Hub) (n : Nat) (x : PeriPort) : (h.setPport n x).pport n = x := by simp [Hub.pport, Hub.setPport]
theorem Hub.pport_setPport_ne (h : Hub) {n m : Nat} (x : PeriPort) (e : m ≠ n) : (h.setPport n x).pport m = h.pport m := by
  simp [Hub.pport, Hub.setPport, Tab.get_set_ne _ _ _ _ e]
@[simp] theorem Hub.setPport_setPport (h : Hub) (n : Nat) (x y : PeriPort) : (h.setPport n x).setPport n y = h.setPport n y := by simp [Hub.setPport]
@[simp] theorem Hub.setPport_reg (h : Hub) (n : Nat) (x : PeriPort) (a : Nat) : (h.setPport n x).reg a = h.reg a := rfl
@[simp] theorem Hub.setPport_get (h : Hub) (n : Nat) (x : PeriPort) (f : Fld) (i j : Nat) : (h.setPport n x).get f i j = h.get f i j := rfl
@[simp] theorem Hub.setPport_flag (h : Hub) (n : Nat) (x : PeriPort) (f : Fld) (i j : Nat) : (h.setPport n x).flag f i j = h.flag f i j := rfl
@[simp] theorem Hub.set_pport (h : Hub) (f : Fld) (v i j n : Nat) : (h.set f v i j).pport n = h.pport n := rfl
@[simp] theorem Hub.setPport_regs (h : Hub) (n : Nat) (x : PeriPort) : (h.setPport n x).regs = h.regs := rfl
@[simp] theorem Hub.setPport_time (h : Hub) (n : Nat) (x : PeriPort) : (h.setPport n x).time = h.time := rfl
@[simp] theorem Hub.setPport_tport (h : Hub) (n : Nat) (x : PeriPort) : (h.setPport n x).tport = h.tport := rfl
@[simp] theorem Hub.setPport_evs (h : Hub) (n : Nat) (x : PeriPort) : (h.setPport n x).evs = h.evs := rfl
@[simp] theorem Hub.setPport_owners (h : Hub) (n : Nat) (x : PeriPort) : (h.setPport n x).owners = h.owners := rfl
@[simp] theorem Hub.setPport_draws (h : Hub) (n : Nat) (x : PeriPort) : (h.setPport n x).draws = h.draws := rfl
@[simp] theorem Hub.setPport_out (h : Hub) (n : Nat) (x : PeriPort) : (h.setPport n x).out = h.out := rfl
@[simp] theorem Hub.setPport_lanes (h : Hub) (n : Nat) (x : PeriPort) : (h.setPport n x).lanes = h.lanes := rfl
@[simp] theorem Hub.setPport_links (h : Hub) (n : Nat) (x : PeriPort) : (h.setPport n x).links = h.links := rfl
@[simp] theorem Hub.setPport_core (h : Hub) (n : Nat) (x : PeriPort) : (h.setPport n x).core = h.core := rfl
@[simp] theorem Hub.setPport_trf (h : Hub) (n : Nat) (x : PeriPort) : (h.setPport n x).trf = h.trf := rfl
@[simp] theorem Hub.setPport_tuns (h : Hub) (n : Nat) (x : PeriPort) : (h.setPport n x).tuns = h.tuns := rfl
@[simp] theorem Hub.setPport_fab (h : Hub) (n : Nat) (x : PeriPort) : (h.setPport n x).fab = h.fab := rfl
@[simp] theorem Hub.setPport_hif (h : Hub) (n : Nat) (x : PeriPort) : (h.setPport n x).hif = h.hif := rfl
@[simp] theorem Hub.setPport_keys (h : Hub) (n : Nat) (x : PeriPort) : (h.setPport n x).keys = h.keys := rfl
@[simp] theorem Hub.setPport_ras (h : Hub) (n : Nat) (x : PeriPort) : (h.setPport n x).ras = h.ras := rfl
@[simp] theorem Hub.setPport_pwr (h : Hub) (n : Nat) (x : PeriPort) : (h.setPport n x).pwr = h.pwr := rfl
@[simp] theorem Hub.setPport_boot (h : Hub) (n : Nat) (x : PeriPort) : (h.setPport n x).boot = h.boot := rfl
@[simp] theorem Hub.setPport_msi (h : Hub) (n : Nat) (x : PeriPort) : (h.setPport n x).msi = h.msi := rfl
@[simp] theorem Hub.setPport_led (h : Hub) (n : Nat) (x : PeriPort) : (h.setPport n x).led = h.led := rfl

@[simp] theorem Hub.pp_setPp (h : Hub) (n : Nat) (x : PwrPort) : (h.setPp n x).pp n = x := by simp [Hub.pp, Hub.setPp]
theorem Hub.pp_setPp_ne (h : Hub) {n m : Nat} (x : PwrPort) (e : m ≠ n) : (h.setPp n x).pp m = h.pp m := by
  simp [Hub.pp, Hub.setPp, Tab.get_set_ne _ _ _ _ e]
@[simp] theorem Hub.setPp_setPp (h : Hub) (n : Nat) (x y : PwrPort) : (h.setPp n x).setPp n y = h.setPp n y := by simp [Hub.setPp]
@[simp] theorem Hub.setPp_reg (h : Hub) (n : Nat) (x : PwrPort) (a : Nat) : (h.setPp n x).reg a = h.reg a := rfl
@[simp] theorem Hub.setPp_get (h : Hub) (n : Nat) (x : PwrPort) (f : Fld) (i j : Nat) : (h.setPp n x).get f i j = h.get f i j := rfl
@[simp] theorem Hub.setPp_flag (h : Hub) (n : Nat) (x : PwrPort) (f : Fld) (i j : Nat) : (h.setPp n x).flag f i j = h.flag f i j := rfl
@[simp] theorem Hub.set_pp (h : Hub) (f : Fld) (v i j n : Nat) : (h.set f v i j).pp n = h.pp n := rfl
@[simp] theorem Hub.setPp_regs (h : Hub) (n : Nat) (x : PwrPort) : (h.setPp n x).regs = h.regs := rfl
@[simp] theorem Hub.setPp_time (h : Hub) (n : Nat) (x : PwrPort) : (h.setPp n x).time = h.time := rfl
@[simp] theorem Hub.setPp_tport (h : Hub) (n : Nat) (x : PwrPort) : (h.setPp n x).tport = h.tport := rfl
@[simp] theorem Hub.setPp_evs (h : Hub) (n : Nat) (x : PwrPort) : (h.setPp n x).evs = h.evs := rfl
@[simp] theorem Hub.setPp_owners (h : Hub) (n : Nat) (x : PwrPort) : (h.setPp n x).owners = h.owners := rfl
@[simp] theorem Hub.setPp_draws (h : Hub) (n : Nat) (x : PwrPort) : (h.setPp n x).draws = h.draws := rfl
@[simp] theorem Hub.setPp_out (h : Hub) (n : Nat) (x : PwrPort) : (h.setPp n x).out = h.out := rfl
@[simp] theorem Hub.setPp_lanes (h : Hub) (n : Nat) (x : PwrPort) : (h.setPp n x).lanes = h.lanes := rfl
@[simp] theorem Hub.setPp_links (h : Hub) (n : Nat) (x : PwrPort) : (h.setPp n x).links = h.links := rfl
@[simp] theorem Hub.setPp_core (h : Hub) (n : Nat) (x : PwrPort) : (h.setPp n x).core = h.core := rfl
@[simp] theorem Hub.setPp_trf (h : Hub) (n : Nat) (x : PwrPort) : (h.setPp n x).trf = h.trf := rfl
@[simp] theorem Hub.setPp_tuns (h : Hub) (n : Nat) (x : PwrPort) : (h.setPp n x).tuns = h.tuns := rfl
@[simp] theorem Hub.setPp_fab (h : Hub) (n : Nat) (x : PwrPort) : (h.setPp n x).fab = h.fab := rfl
@[simp] theorem Hub.setPp_hif (h : Hub) (n : Nat) (x : PwrPort) : (h.setPp n x).hif = h.hif := rfl
@[simp] theorem Hub.setPp_peri (h : Hub) (n : Nat) (x : PwrPort) : (h.setPp n x).peri = h.peri := rfl
@[simp] theorem Hub.setPp_keys (h : Hub) (n : Nat) (x : PwrPort) : (h.setPp n x).keys = h.keys := rfl
@[simp] theorem Hub.setPp_ras (h : Hub) (n : Nat) (x : PwrPort) : (h.setPp n x).ras = h.ras := rfl
@[simp] theorem Hub.setPp_boot (h : Hub) (n : Nat) (x : PwrPort) : (h.setPp n x).boot = h.boot := rfl
@[simp] theorem Hub.setPp_msi (h : Hub) (n : Nat) (x : PwrPort) : (h.setPp n x).msi = h.msi := rfl
@[simp] theorem Hub.setPp_led (h : Hub) (n : Nat) (x : PwrPort) : (h.setPp n x).led = h.led := rfl

@[simp] theorem Hub.dom_setDom (h : Hub) (n : Nat) (x : Dom) : (h.setDom n x).dom n = x := by simp [Hub.dom, Hub.setDom]
theorem Hub.dom_setDom_ne (h : Hub) {n m : Nat} (x : Dom) (e : m ≠ n) : (h.setDom n x).dom m = h.dom m := by
  simp [Hub.dom, Hub.setDom, Tab.get_set_ne _ _ _ _ e]
@[simp] theorem Hub.setDom_setDom (h : Hub) (n : Nat) (x y : Dom) : (h.setDom n x).setDom n y = h.setDom n y := by simp [Hub.setDom]
@[simp] theorem Hub.setDom_reg (h : Hub) (n : Nat) (x : Dom) (a : Nat) : (h.setDom n x).reg a = h.reg a := rfl
@[simp] theorem Hub.setDom_get (h : Hub) (n : Nat) (x : Dom) (f : Fld) (i j : Nat) : (h.setDom n x).get f i j = h.get f i j := rfl
@[simp] theorem Hub.setDom_flag (h : Hub) (n : Nat) (x : Dom) (f : Fld) (i j : Nat) : (h.setDom n x).flag f i j = h.flag f i j := rfl
@[simp] theorem Hub.set_dom (h : Hub) (f : Fld) (v i j n : Nat) : (h.set f v i j).dom n = h.dom n := rfl
@[simp] theorem Hub.setDom_regs (h : Hub) (n : Nat) (x : Dom) : (h.setDom n x).regs = h.regs := rfl
@[simp] theorem Hub.setDom_time (h : Hub) (n : Nat) (x : Dom) : (h.setDom n x).time = h.time := rfl
@[simp] theorem Hub.setDom_tport (h : Hub) (n : Nat) (x : Dom) : (h.setDom n x).tport = h.tport := rfl
@[simp] theorem Hub.setDom_evs (h : Hub) (n : Nat) (x : Dom) : (h.setDom n x).evs = h.evs := rfl
@[simp] theorem Hub.setDom_owners (h : Hub) (n : Nat) (x : Dom) : (h.setDom n x).owners = h.owners := rfl
@[simp] theorem Hub.setDom_draws (h : Hub) (n : Nat) (x : Dom) : (h.setDom n x).draws = h.draws := rfl
@[simp] theorem Hub.setDom_out (h : Hub) (n : Nat) (x : Dom) : (h.setDom n x).out = h.out := rfl
@[simp] theorem Hub.setDom_lanes (h : Hub) (n : Nat) (x : Dom) : (h.setDom n x).lanes = h.lanes := rfl
@[simp] theorem Hub.setDom_links (h : Hub) (n : Nat) (x : Dom) : (h.setDom n x).links = h.links := rfl
@[simp] theorem Hub.setDom_core (h : Hub) (n : Nat) (x : Dom) : (h.setDom n x).core = h.core := rfl
@[simp] theorem Hub.setDom_trf (h : Hub) (n : Nat) (x : Dom) : (h.setDom n x).trf = h.trf := rfl
@[simp] theorem Hub.setDom_tuns (h : Hub) (n : Nat) (x : Dom) : (h.setDom n x).tuns = h.tuns := rfl
@[simp] theorem Hub.setDom_fab (h : Hub) (n : Nat) (x : Dom) : (h.setDom n x).fab = h.fab := rfl
@[simp] theorem Hub.setDom_hif (h : Hub) (n : Nat) (x : Dom) : (h.setDom n x).hif = h.hif := rfl
@[simp] theorem Hub.setDom_peri (h : Hub) (n : Nat) (x : Dom) : (h.setDom n x).peri = h.peri := rfl
@[simp] theorem Hub.setDom_keys (h : Hub) (n : Nat) (x : Dom) : (h.setDom n x).keys = h.keys := rfl
@[simp] theorem Hub.setDom_ras (h : Hub) (n : Nat) (x : Dom) : (h.setDom n x).ras = h.ras := rfl
@[simp] theorem Hub.setDom_boot (h : Hub) (n : Nat) (x : Dom) : (h.setDom n x).boot = h.boot := rfl
@[simp] theorem Hub.setDom_msi (h : Hub) (n : Nat) (x : Dom) : (h.setDom n x).msi = h.msi := rfl
@[simp] theorem Hub.setDom_led (h : Hub) (n : Nat) (x : Dom) : (h.setDom n x).led = h.led := rfl

@[simp] theorem Hub.pipe_setPipe (h : Hub) (n : Nat) (x : PipeSt) : (h.setPipe n x).pipe n = x := by simp [Hub.pipe, Hub.setPipe]
theorem Hub.pipe_setPipe_ne (h : Hub) {n m : Nat} (x : PipeSt) (e : m ≠ n) : (h.setPipe n x).pipe m = h.pipe m := by
  simp [Hub.pipe, Hub.setPipe, Tab.get_set_ne _ _ _ _ e]
@[simp] theorem Hub.setPipe_setPipe (h : Hub) (n : Nat) (x y : PipeSt) : (h.setPipe n x).setPipe n y = h.setPipe n y := by simp [Hub.setPipe]
@[simp] theorem Hub.setPipe_reg (h : Hub) (n : Nat) (x : PipeSt) (a : Nat) : (h.setPipe n x).reg a = h.reg a := rfl
@[simp] theorem Hub.setPipe_get (h : Hub) (n : Nat) (x : PipeSt) (f : Fld) (i j : Nat) : (h.setPipe n x).get f i j = h.get f i j := rfl
@[simp] theorem Hub.setPipe_flag (h : Hub) (n : Nat) (x : PipeSt) (f : Fld) (i j : Nat) : (h.setPipe n x).flag f i j = h.flag f i j := rfl
@[simp] theorem Hub.set_pipe (h : Hub) (f : Fld) (v i j n : Nat) : (h.set f v i j).pipe n = h.pipe n := rfl
@[simp] theorem Hub.setPipe_regs (h : Hub) (n : Nat) (x : PipeSt) : (h.setPipe n x).regs = h.regs := rfl
@[simp] theorem Hub.setPipe_time (h : Hub) (n : Nat) (x : PipeSt) : (h.setPipe n x).time = h.time := rfl
@[simp] theorem Hub.setPipe_tport (h : Hub) (n : Nat) (x : PipeSt) : (h.setPipe n x).tport = h.tport := rfl
@[simp] theorem Hub.setPipe_evs (h : Hub) (n : Nat) (x : PipeSt) : (h.setPipe n x).evs = h.evs := rfl
@[simp] theorem Hub.setPipe_owners (h : Hub) (n : Nat) (x : PipeSt) : (h.setPipe n x).owners = h.owners := rfl
@[simp] theorem Hub.setPipe_draws (h : Hub) (n : Nat) (x : PipeSt) : (h.setPipe n x).draws = h.draws := rfl
@[simp] theorem Hub.setPipe_out (h : Hub) (n : Nat) (x : PipeSt) : (h.setPipe n x).out = h.out := rfl
@[simp] theorem Hub.setPipe_lanes (h : Hub) (n : Nat) (x : PipeSt) : (h.setPipe n x).lanes = h.lanes := rfl
@[simp] theorem Hub.setPipe_links (h : Hub) (n : Nat) (x : PipeSt) : (h.setPipe n x).links = h.links := rfl
@[simp] theorem Hub.setPipe_core (h : Hub) (n : Nat) (x : PipeSt) : (h.setPipe n x).core = h.core := rfl
@[simp] theorem Hub.setPipe_trf (h : Hub) (n : Nat) (x : PipeSt) : (h.setPipe n x).trf = h.trf := rfl
@[simp] theorem Hub.setPipe_tuns (h : Hub) (n : Nat) (x : PipeSt) : (h.setPipe n x).tuns = h.tuns := rfl
@[simp] theorem Hub.setPipe_fab (h : Hub) (n : Nat) (x : PipeSt) : (h.setPipe n x).fab = h.fab := rfl
@[simp] theorem Hub.setPipe_hif (h : Hub) (n : Nat) (x : PipeSt) : (h.setPipe n x).hif = h.hif := rfl
@[simp] theorem Hub.setPipe_peri (h : Hub) (n : Nat) (x : PipeSt) : (h.setPipe n x).peri = h.peri := rfl
@[simp] theorem Hub.setPipe_keys (h : Hub) (n : Nat) (x : PipeSt) : (h.setPipe n x).keys = h.keys := rfl
@[simp] theorem Hub.setPipe_pwr (h : Hub) (n : Nat) (x : PipeSt) : (h.setPipe n x).pwr = h.pwr := rfl
@[simp] theorem Hub.setPipe_boot (h : Hub) (n : Nat) (x : PipeSt) : (h.setPipe n x).boot = h.boot := rfl
@[simp] theorem Hub.setPipe_msi (h : Hub) (n : Nat) (x : PipeSt) : (h.setPipe n x).msi = h.msi := rfl
@[simp] theorem Hub.setPipe_led (h : Hub) (n : Nat) (x : PipeSt) : (h.setPipe n x).led = h.led := rfl

@[simp] theorem Hub.ring_setRing (h : Hub) (n : Nat) (x : RingSt) : (h.setRing n x).ring n = x := by simp [Hub.ring, Hub.setRing]
theorem Hub.ring_setRing_ne (h : Hub) {n m : Nat} (x : RingSt) (e : m ≠ n) : (h.setRing n x).ring m = h.ring m := by
  simp [Hub.ring, Hub.setRing, Tab.get_set_ne _ _ _ _ e]
@[simp] theorem Hub.setRing_setRing (h : Hub) (n : Nat) (x y : RingSt) : (h.setRing n x).setRing n y = h.setRing n y := by simp [Hub.setRing]
@[simp] theorem Hub.setRing_reg (h : Hub) (n : Nat) (x : RingSt) (a : Nat) : (h.setRing n x).reg a = h.reg a := rfl
@[simp] theorem Hub.setRing_get (h : Hub) (n : Nat) (x : RingSt) (f : Fld) (i j : Nat) : (h.setRing n x).get f i j = h.get f i j := rfl
@[simp] theorem Hub.setRing_flag (h : Hub) (n : Nat) (x : RingSt) (f : Fld) (i j : Nat) : (h.setRing n x).flag f i j = h.flag f i j := rfl
@[simp] theorem Hub.set_ring (h : Hub) (f : Fld) (v i j n : Nat) : (h.set f v i j).ring n = h.ring n := rfl
@[simp] theorem Hub.setRing_regs (h : Hub) (n : Nat) (x : RingSt) : (h.setRing n x).regs = h.regs := rfl
@[simp] theorem Hub.setRing_time (h : Hub) (n : Nat) (x : RingSt) : (h.setRing n x).time = h.time := rfl
@[simp] theorem Hub.setRing_tport (h : Hub) (n : Nat) (x : RingSt) : (h.setRing n x).tport = h.tport := rfl
@[simp] theorem Hub.setRing_evs (h : Hub) (n : Nat) (x : RingSt) : (h.setRing n x).evs = h.evs := rfl
@[simp] theorem Hub.setRing_owners (h : Hub) (n : Nat) (x : RingSt) : (h.setRing n x).owners = h.owners := rfl
@[simp] theorem Hub.setRing_draws (h : Hub) (n : Nat) (x : RingSt) : (h.setRing n x).draws = h.draws := rfl
@[simp] theorem Hub.setRing_out (h : Hub) (n : Nat) (x : RingSt) : (h.setRing n x).out = h.out := rfl
@[simp] theorem Hub.setRing_lanes (h : Hub) (n : Nat) (x : RingSt) : (h.setRing n x).lanes = h.lanes := rfl
@[simp] theorem Hub.setRing_links (h : Hub) (n : Nat) (x : RingSt) : (h.setRing n x).links = h.links := rfl
@[simp] theorem Hub.setRing_core (h : Hub) (n : Nat) (x : RingSt) : (h.setRing n x).core = h.core := rfl
@[simp] theorem Hub.setRing_trf (h : Hub) (n : Nat) (x : RingSt) : (h.setRing n x).trf = h.trf := rfl
@[simp] theorem Hub.setRing_tuns (h : Hub) (n : Nat) (x : RingSt) : (h.setRing n x).tuns = h.tuns := rfl
@[simp] theorem Hub.setRing_fab (h : Hub) (n : Nat) (x : RingSt) : (h.setRing n x).fab = h.fab := rfl
@[simp] theorem Hub.setRing_peri (h : Hub) (n : Nat) (x : RingSt) : (h.setRing n x).peri = h.peri := rfl
@[simp] theorem Hub.setRing_keys (h : Hub) (n : Nat) (x : RingSt) : (h.setRing n x).keys = h.keys := rfl
@[simp] theorem Hub.setRing_ras (h : Hub) (n : Nat) (x : RingSt) : (h.setRing n x).ras = h.ras := rfl
@[simp] theorem Hub.setRing_pwr (h : Hub) (n : Nat) (x : RingSt) : (h.setRing n x).pwr = h.pwr := rfl
@[simp] theorem Hub.setRing_boot (h : Hub) (n : Nat) (x : RingSt) : (h.setRing n x).boot = h.boot := rfl
@[simp] theorem Hub.setRing_msi (h : Hub) (n : Nat) (x : RingSt) : (h.setRing n x).msi = h.msi := rfl
@[simp] theorem Hub.setRing_led (h : Hub) (n : Nat) (x : RingSt) : (h.setRing n x).led = h.led := rfl

@[simp] theorem Hub.win_setWin (h : Hub) (n : Nat) (x : WinSt) : (h.setWin n x).win n = x := by simp [Hub.win, Hub.setWin]
theorem Hub.win_setWin_ne (h : Hub) {n m : Nat} (x : WinSt) (e : m ≠ n) : (h.setWin n x).win m = h.win m := by
  simp [Hub.win, Hub.setWin, Tab.get_set_ne _ _ _ _ e]
@[simp] theorem Hub.setWin_setWin (h : Hub) (n : Nat) (x y : WinSt) : (h.setWin n x).setWin n y = h.setWin n y := by simp [Hub.setWin]
@[simp] theorem Hub.setWin_reg (h : Hub) (n : Nat) (x : WinSt) (a : Nat) : (h.setWin n x).reg a = h.reg a := rfl
@[simp] theorem Hub.setWin_get (h : Hub) (n : Nat) (x : WinSt) (f : Fld) (i j : Nat) : (h.setWin n x).get f i j = h.get f i j := rfl
@[simp] theorem Hub.setWin_flag (h : Hub) (n : Nat) (x : WinSt) (f : Fld) (i j : Nat) : (h.setWin n x).flag f i j = h.flag f i j := rfl
@[simp] theorem Hub.set_win (h : Hub) (f : Fld) (v i j n : Nat) : (h.set f v i j).win n = h.win n := rfl
@[simp] theorem Hub.setWin_regs (h : Hub) (n : Nat) (x : WinSt) : (h.setWin n x).regs = h.regs := rfl
@[simp] theorem Hub.setWin_time (h : Hub) (n : Nat) (x : WinSt) : (h.setWin n x).time = h.time := rfl
@[simp] theorem Hub.setWin_tport (h : Hub) (n : Nat) (x : WinSt) : (h.setWin n x).tport = h.tport := rfl
@[simp] theorem Hub.setWin_evs (h : Hub) (n : Nat) (x : WinSt) : (h.setWin n x).evs = h.evs := rfl
@[simp] theorem Hub.setWin_owners (h : Hub) (n : Nat) (x : WinSt) : (h.setWin n x).owners = h.owners := rfl
@[simp] theorem Hub.setWin_draws (h : Hub) (n : Nat) (x : WinSt) : (h.setWin n x).draws = h.draws := rfl
@[simp] theorem Hub.setWin_out (h : Hub) (n : Nat) (x : WinSt) : (h.setWin n x).out = h.out := rfl
@[simp] theorem Hub.setWin_lanes (h : Hub) (n : Nat) (x : WinSt) : (h.setWin n x).lanes = h.lanes := rfl
@[simp] theorem Hub.setWin_links (h : Hub) (n : Nat) (x : WinSt) : (h.setWin n x).links = h.links := rfl
@[simp] theorem Hub.setWin_core (h : Hub) (n : Nat) (x : WinSt) : (h.setWin n x).core = h.core := rfl
@[simp] theorem Hub.setWin_trf (h : Hub) (n : Nat) (x : WinSt) : (h.setWin n x).trf = h.trf := rfl
@[simp] theorem Hub.setWin_tuns (h : Hub) (n : Nat) (x : WinSt) : (h.setWin n x).tuns = h.tuns := rfl
@[simp] theorem Hub.setWin_fab (h : Hub) (n : Nat) (x : WinSt) : (h.setWin n x).fab = h.fab := rfl
@[simp] theorem Hub.setWin_peri (h : Hub) (n : Nat) (x : WinSt) : (h.setWin n x).peri = h.peri := rfl
@[simp] theorem Hub.setWin_keys (h : Hub) (n : Nat) (x : WinSt) : (h.setWin n x).keys = h.keys := rfl
@[simp] theorem Hub.setWin_ras (h : Hub) (n : Nat) (x : WinSt) : (h.setWin n x).ras = h.ras := rfl
@[simp] theorem Hub.setWin_pwr (h : Hub) (n : Nat) (x : WinSt) : (h.setWin n x).pwr = h.pwr := rfl
@[simp] theorem Hub.setWin_boot (h : Hub) (n : Nat) (x : WinSt) : (h.setWin n x).boot = h.boot := rfl
@[simp] theorem Hub.setWin_msi (h : Hub) (n : Nat) (x : WinSt) : (h.setWin n x).msi = h.msi := rfl
@[simp] theorem Hub.setWin_led (h : Hub) (n : Nat) (x : WinSt) : (h.setWin n x).led = h.led := rfl

@[simp] theorem Hub.sess_setSess (h : Hub) (n : Nat) (x : Sess) : (h.setSess n x).sess n = x := by simp [Hub.sess, Hub.setSess]
theorem Hub.sess_setSess_ne (h : Hub) {n m : Nat} (x : Sess) (e : m ≠ n) : (h.setSess n x).sess m = h.sess m := by
  simp [Hub.sess, Hub.setSess, Tab.get_set_ne _ _ _ _ e]
@[simp] theorem Hub.setSess_setSess (h : Hub) (n : Nat) (x y : Sess) : (h.setSess n x).setSess n y = h.setSess n y := by simp [Hub.setSess]
@[simp] theorem Hub.setSess_reg (h : Hub) (n : Nat) (x : Sess) (a : Nat) : (h.setSess n x).reg a = h.reg a := rfl
@[simp] theorem Hub.setSess_get (h : Hub) (n : Nat) (x : Sess) (f : Fld) (i j : Nat) : (h.setSess n x).get f i j = h.get f i j := rfl
@[simp] theorem Hub.setSess_flag (h : Hub) (n : Nat) (x : Sess) (f : Fld) (i j : Nat) : (h.setSess n x).flag f i j = h.flag f i j := rfl
@[simp] theorem Hub.set_sess (h : Hub) (f : Fld) (v i j n : Nat) : (h.set f v i j).sess n = h.sess n := rfl
@[simp] theorem Hub.setSess_regs (h : Hub) (n : Nat) (x : Sess) : (h.setSess n x).regs = h.regs := rfl
@[simp] theorem Hub.setSess_time (h : Hub) (n : Nat) (x : Sess) : (h.setSess n x).time = h.time := rfl
@[simp] theorem Hub.setSess_tport (h : Hub) (n : Nat) (x : Sess) : (h.setSess n x).tport = h.tport := rfl
@[simp] theorem Hub.setSess_evs (h : Hub) (n : Nat) (x : Sess) : (h.setSess n x).evs = h.evs := rfl
@[simp] theorem Hub.setSess_owners (h : Hub) (n : Nat) (x : Sess) : (h.setSess n x).owners = h.owners := rfl
@[simp] theorem Hub.setSess_draws (h : Hub) (n : Nat) (x : Sess) : (h.setSess n x).draws = h.draws := rfl
@[simp] theorem Hub.setSess_out (h : Hub) (n : Nat) (x : Sess) : (h.setSess n x).out = h.out := rfl
@[simp] theorem Hub.setSess_lanes (h : Hub) (n : Nat) (x : Sess) : (h.setSess n x).lanes = h.lanes := rfl
@[simp] theorem Hub.setSess_links (h : Hub) (n : Nat) (x : Sess) : (h.setSess n x).links = h.links := rfl
@[simp] theorem Hub.setSess_core (h : Hub) (n : Nat) (x : Sess) : (h.setSess n x).core = h.core := rfl
@[simp] theorem Hub.setSess_trf (h : Hub) (n : Nat) (x : Sess) : (h.setSess n x).trf = h.trf := rfl
@[simp] theorem Hub.setSess_tuns (h : Hub) (n : Nat) (x : Sess) : (h.setSess n x).tuns = h.tuns := rfl
@[simp] theorem Hub.setSess_fab (h : Hub) (n : Nat) (x : Sess) : (h.setSess n x).fab = h.fab := rfl
@[simp] theorem Hub.setSess_hif (h : Hub) (n : Nat) (x : Sess) : (h.setSess n x).hif = h.hif := rfl
@[simp] theorem Hub.setSess_keys (h : Hub) (n : Nat) (x : Sess) : (h.setSess n x).keys = h.keys := rfl
@[simp] theorem Hub.setSess_ras (h : Hub) (n : Nat) (x : Sess) : (h.setSess n x).ras = h.ras := rfl
@[simp] theorem Hub.setSess_pwr (h : Hub) (n : Nat) (x : Sess) : (h.setSess n x).pwr = h.pwr := rfl
@[simp] theorem Hub.setSess_boot (h : Hub) (n : Nat) (x : Sess) : (h.setSess n x).boot = h.boot := rfl
@[simp] theorem Hub.setSess_msi (h : Hub) (n : Nat) (x : Sess) : (h.setSess n x).msi = h.msi := rfl
@[simp] theorem Hub.setSess_led (h : Hub) (n : Nat) (x : Sess) : (h.setSess n x).led = h.led := rfl

@[simp] theorem Hub.cmp_setCmp (h : Hub) (n : Nat) (x : CompareUnit) : (h.setCmp n x).cmp n = x := by simp [Hub.cmp, Hub.setCmp]
theorem Hub.cmp_setCmp_ne (h : Hub) {n m : Nat} (x : CompareUnit) (e : m ≠ n) : (h.setCmp n x).cmp m = h.cmp m := by
  simp [Hub.cmp, Hub.setCmp, Tab.get_set_ne _ _ _ _ e]
@[simp] theorem Hub.setCmp_setCmp (h : Hub) (n : Nat) (x y : CompareUnit) : (h.setCmp n x).setCmp n y = h.setCmp n y := by simp [Hub.setCmp]
@[simp] theorem Hub.setCmp_reg (h : Hub) (n : Nat) (x : CompareUnit) (a : Nat) : (h.setCmp n x).reg a = h.reg a := rfl
@[simp] theorem Hub.setCmp_get (h : Hub) (n : Nat) (x : CompareUnit) (f : Fld) (i j : Nat) : (h.setCmp n x).get f i j = h.get f i j := rfl
@[simp] theorem Hub.setCmp_flag (h : Hub) (n : Nat) (x : CompareUnit) (f : Fld) (i j : Nat) : (h.setCmp n x).flag f i j = h.flag f i j := rfl
@[simp] theorem Hub.set_cmp (h : Hub) (f : Fld) (v i j n : Nat) : (h.set f v i j).cmp n = h.cmp n := rfl
@[simp] theorem Hub.setCmp_regs (h : Hub) (n : Nat) (x : CompareUnit) : (h.setCmp n x).regs = h.regs := rfl
@[simp] theorem Hub.setCmp_tport (h : Hub) (n : Nat) (x : CompareUnit) : (h.setCmp n x).tport = h.tport := rfl
@[simp] theorem Hub.setCmp_evs (h : Hub) (n : Nat) (x : CompareUnit) : (h.setCmp n x).evs = h.evs := rfl
@[simp] theorem Hub.setCmp_owners (h : Hub) (n : Nat) (x : CompareUnit) : (h.setCmp n x).owners = h.owners := rfl
@[simp] theorem Hub.setCmp_draws (h : Hub) (n : Nat) (x : CompareUnit) : (h.setCmp n x).draws = h.draws := rfl
@[simp] theorem Hub.setCmp_out (h : Hub) (n : Nat) (x : CompareUnit) : (h.setCmp n x).out = h.out := rfl
@[simp] theorem Hub.setCmp_lanes (h : Hub) (n : Nat) (x : CompareUnit) : (h.setCmp n x).lanes = h.lanes := rfl
@[simp] theorem Hub.setCmp_links (h : Hub) (n : Nat) (x : CompareUnit) : (h.setCmp n x).links = h.links := rfl
@[simp] theorem Hub.setCmp_core (h : Hub) (n : Nat) (x : CompareUnit) : (h.setCmp n x).core = h.core := rfl
@[simp] theorem Hub.setCmp_trf (h : Hub) (n : Nat) (x : CompareUnit) : (h.setCmp n x).trf = h.trf := rfl
@[simp] theorem Hub.setCmp_tuns (h : Hub) (n : Nat) (x : CompareUnit) : (h.setCmp n x).tuns = h.tuns := rfl
@[simp] theorem Hub.setCmp_fab (h : Hub) (n : Nat) (x : CompareUnit) : (h.setCmp n x).fab = h.fab := rfl
@[simp] theorem Hub.setCmp_hif (h : Hub) (n : Nat) (x : CompareUnit) : (h.setCmp n x).hif = h.hif := rfl
@[simp] theorem Hub.setCmp_peri (h : Hub) (n : Nat) (x : CompareUnit) : (h.setCmp n x).peri = h.peri := rfl
@[simp] theorem Hub.setCmp_keys (h : Hub) (n : Nat) (x : CompareUnit) : (h.setCmp n x).keys = h.keys := rfl
@[simp] theorem Hub.setCmp_ras (h : Hub) (n : Nat) (x : CompareUnit) : (h.setCmp n x).ras = h.ras := rfl
@[simp] theorem Hub.setCmp_pwr (h : Hub) (n : Nat) (x : CompareUnit) : (h.setCmp n x).pwr = h.pwr := rfl
@[simp] theorem Hub.setCmp_boot (h : Hub) (n : Nat) (x : CompareUnit) : (h.setCmp n x).boot = h.boot := rfl
@[simp] theorem Hub.setCmp_msi (h : Hub) (n : Nat) (x : CompareUnit) : (h.setCmp n x).msi = h.msi := rfl
@[simp] theorem Hub.setCmp_led (h : Hub) (n : Nat) (x : CompareUnit) : (h.setCmp n x).led = h.led := rfl

@[simp] theorem Hub.gate_setGate (h : Hub) (n : Nat) (x : GateSt) : (h.setGate n x).gate n = x := by simp [Hub.gate, Hub.setGate]
theorem Hub.gate_setGate_ne (h : Hub) {n m : Nat} (x : GateSt) (e : m ≠ n) : (h.setGate n x).gate m = h.gate m := by
  simp [Hub.gate, Hub.setGate, Tab.get_set_ne _ _ _ _ e]
@[simp] theorem Hub.setGate_setGate (h : Hub) (n : Nat) (x y : GateSt) : (h.setGate n x).setGate n y = h.setGate n y := by simp [Hub.setGate]
@[simp] theorem Hub.setGate_reg (h : Hub) (n : Nat) (x : GateSt) (a : Nat) : (h.setGate n x).reg a = h.reg a := rfl
@[simp] theorem Hub.setGate_get (h : Hub) (n : Nat) (x : GateSt) (f : Fld) (i j : Nat) : (h.setGate n x).get f i j = h.get f i j := rfl
@[simp] theorem Hub.setGate_flag (h : Hub) (n : Nat) (x : GateSt) (f : Fld) (i j : Nat) : (h.setGate n x).flag f i j = h.flag f i j := rfl
@[simp] theorem Hub.set_gate (h : Hub) (f : Fld) (v i j n : Nat) : (h.set f v i j).gate n = h.gate n := rfl
@[simp] theorem Hub.setGate_regs (h : Hub) (n : Nat) (x : GateSt) : (h.setGate n x).regs = h.regs := rfl
@[simp] theorem Hub.setGate_time (h : Hub) (n : Nat) (x : GateSt) : (h.setGate n x).time = h.time := rfl
@[simp] theorem Hub.setGate_tport (h : Hub) (n : Nat) (x : GateSt) : (h.setGate n x).tport = h.tport := rfl
@[simp] theorem Hub.setGate_evs (h : Hub) (n : Nat) (x : GateSt) : (h.setGate n x).evs = h.evs := rfl
@[simp] theorem Hub.setGate_owners (h : Hub) (n : Nat) (x : GateSt) : (h.setGate n x).owners = h.owners := rfl
@[simp] theorem Hub.setGate_draws (h : Hub) (n : Nat) (x : GateSt) : (h.setGate n x).draws = h.draws := rfl
@[simp] theorem Hub.setGate_out (h : Hub) (n : Nat) (x : GateSt) : (h.setGate n x).out = h.out := rfl
@[simp] theorem Hub.setGate_lanes (h : Hub) (n : Nat) (x : GateSt) : (h.setGate n x).lanes = h.lanes := rfl
@[simp] theorem Hub.setGate_links (h : Hub) (n : Nat) (x : GateSt) : (h.setGate n x).links = h.links := rfl
@[simp] theorem Hub.setGate_core (h : Hub) (n : Nat) (x : GateSt) : (h.setGate n x).core = h.core := rfl
@[simp] theorem Hub.setGate_tuns (h : Hub) (n : Nat) (x : GateSt) : (h.setGate n x).tuns = h.tuns := rfl
@[simp] theorem Hub.setGate_fab (h : Hub) (n : Nat) (x : GateSt) : (h.setGate n x).fab = h.fab := rfl
@[simp] theorem Hub.setGate_hif (h : Hub) (n : Nat) (x : GateSt) : (h.setGate n x).hif = h.hif := rfl
@[simp] theorem Hub.setGate_peri (h : Hub) (n : Nat) (x : GateSt) : (h.setGate n x).peri = h.peri := rfl
@[simp] theorem Hub.setGate_keys (h : Hub) (n : Nat) (x : GateSt) : (h.setGate n x).keys = h.keys := rfl
@[simp] theorem Hub.setGate_ras (h : Hub) (n : Nat) (x : GateSt) : (h.setGate n x).ras = h.ras := rfl
@[simp] theorem Hub.setGate_pwr (h : Hub) (n : Nat) (x : GateSt) : (h.setGate n x).pwr = h.pwr := rfl
@[simp] theorem Hub.setGate_boot (h : Hub) (n : Nat) (x : GateSt) : (h.setGate n x).boot = h.boot := rfl
@[simp] theorem Hub.setGate_msi (h : Hub) (n : Nat) (x : GateSt) : (h.setGate n x).msi = h.msi := rfl
@[simp] theorem Hub.setGate_led (h : Hub) (n : Nat) (x : GateSt) : (h.setGate n x).led = h.led := rfl


@[simp] theorem Hub.meter_setMeter (h : Hub) (n : Nat) (x : MeterSt) : (h.setMeter n x).meter n = x := by simp [Hub.meter, Hub.setMeter]
theorem Hub.meter_setMeter_ne (h : Hub) {n m : Nat} (x : MeterSt) (e : m ≠ n) : (h.setMeter n x).meter m = h.meter m := by
  simp [Hub.meter, Hub.setMeter, Tab.get_set_ne _ _ _ _ e]
@[simp] theorem Hub.setMeter_setMeter (h : Hub) (n : Nat) (x y : MeterSt) : (h.setMeter n x).setMeter n y = h.setMeter n y := by simp [Hub.setMeter]
@[simp] theorem Hub.setMeter_reg (h : Hub) (n : Nat) (x : MeterSt) (a : Nat) : (h.setMeter n x).reg a = h.reg a := rfl
@[simp] theorem Hub.setMeter_get (h : Hub) (n : Nat) (x : MeterSt) (f : Fld) (i j : Nat) : (h.setMeter n x).get f i j = h.get f i j := rfl
@[simp] theorem Hub.setMeter_flag (h : Hub) (n : Nat) (x : MeterSt) (f : Fld) (i j : Nat) : (h.setMeter n x).flag f i j = h.flag f i j := rfl
@[simp] theorem Hub.set_meter (h : Hub) (f : Fld) (v i j n : Nat) : (h.set f v i j).meter n = h.meter n := rfl
@[simp] theorem Hub.setMeter_regs (h : Hub) (n : Nat) (x : MeterSt) : (h.setMeter n x).regs = h.regs := rfl
@[simp] theorem Hub.setMeter_time (h : Hub) (n : Nat) (x : MeterSt) : (h.setMeter n x).time = h.time := rfl
@[simp] theorem Hub.setMeter_tport (h : Hub) (n : Nat) (x : MeterSt) : (h.setMeter n x).tport = h.tport := rfl
@[simp] theorem Hub.setMeter_evs (h : Hub) (n : Nat) (x : MeterSt) : (h.setMeter n x).evs = h.evs := rfl
@[simp] theorem Hub.setMeter_owners (h : Hub) (n : Nat) (x : MeterSt) : (h.setMeter n x).owners = h.owners := rfl
@[simp] theorem Hub.setMeter_draws (h : Hub) (n : Nat) (x : MeterSt) : (h.setMeter n x).draws = h.draws := rfl
@[simp] theorem Hub.setMeter_out (h : Hub) (n : Nat) (x : MeterSt) : (h.setMeter n x).out = h.out := rfl
@[simp] theorem Hub.setMeter_lanes (h : Hub) (n : Nat) (x : MeterSt) : (h.setMeter n x).lanes = h.lanes := rfl
@[simp] theorem Hub.setMeter_links (h : Hub) (n : Nat) (x : MeterSt) : (h.setMeter n x).links = h.links := rfl
@[simp] theorem Hub.setMeter_core (h : Hub) (n : Nat) (x : MeterSt) : (h.setMeter n x).core = h.core := rfl
@[simp] theorem Hub.setMeter_tuns (h : Hub) (n : Nat) (x : MeterSt) : (h.setMeter n x).tuns = h.tuns := rfl
@[simp] theorem Hub.setMeter_fab (h : Hub) (n : Nat) (x : MeterSt) : (h.setMeter n x).fab = h.fab := rfl
@[simp] theorem Hub.setMeter_hif (h : Hub) (n : Nat) (x : MeterSt) : (h.setMeter n x).hif = h.hif := rfl
@[simp] theorem Hub.setMeter_peri (h : Hub) (n : Nat) (x : MeterSt) : (h.setMeter n x).peri = h.peri := rfl
@[simp] theorem Hub.setMeter_keys (h : Hub) (n : Nat) (x : MeterSt) : (h.setMeter n x).keys = h.keys := rfl
@[simp] theorem Hub.setMeter_ras (h : Hub) (n : Nat) (x : MeterSt) : (h.setMeter n x).ras = h.ras := rfl
@[simp] theorem Hub.setMeter_pwr (h : Hub) (n : Nat) (x : MeterSt) : (h.setMeter n x).pwr = h.pwr := rfl
@[simp] theorem Hub.setMeter_boot (h : Hub) (n : Nat) (x : MeterSt) : (h.setMeter n x).boot = h.boot := rfl
@[simp] theorem Hub.setMeter_msi (h : Hub) (n : Nat) (x : MeterSt) : (h.setMeter n x).msi = h.msi := rfl
@[simp] theorem Hub.setMeter_led (h : Hub) (n : Nat) (x : MeterSt) : (h.setMeter n x).led = h.led := rfl

@[simp] theorem Hub.queue_setQueue (h : Hub) (n : Nat) (x : List Nat) : (h.setQueue n x).queue n = x := by simp [Hub.queue, Hub.setQueue]
theorem Hub.queue_setQueue_ne (h : Hub) {n m : Nat} (x : List Nat) (e : m ≠ n) : (h.setQueue n x).queue m = h.queue m := by
  simp [Hub.queue, Hub.setQueue, Tab.get_set_ne _ _ _ _ e]
@[simp] theorem Hub.setQueue_setQueue (h : Hub) (n : Nat) (x y : List Nat) : (h.setQueue n x).setQueue n y = h.setQueue n y := by simp [Hub.setQueue]
@[simp] theorem Hub.setQueue_reg (h : Hub) (n : Nat) (x : List Nat) (a : Nat) : (h.setQueue n x).reg a = h.reg a := rfl
@[simp] theorem Hub.setQueue_get (h : Hub) (n : Nat) (x : List Nat) (f : Fld) (i j : Nat) : (h.setQueue n x).get f i j = h.get f i j := rfl
@[simp] theorem Hub.setQueue_flag (h : Hub) (n : Nat) (x : List Nat) (f : Fld) (i j : Nat) : (h.setQueue n x).flag f i j = h.flag f i j := rfl
@[simp] theorem Hub.set_queue (h : Hub) (f : Fld) (v i j n : Nat) : (h.set f v i j).queue n = h.queue n := rfl
@[simp] theorem Hub.setQueue_regs (h : Hub) (n : Nat) (x : List Nat) : (h.setQueue n x).regs = h.regs := rfl
@[simp] theorem Hub.setQueue_time (h : Hub) (n : Nat) (x : List Nat) : (h.setQueue n x).time = h.time := rfl
@[simp] theorem Hub.setQueue_tport (h : Hub) (n : Nat) (x : List Nat) : (h.setQueue n x).tport = h.tport := rfl
@[simp] theorem Hub.setQueue_evs (h : Hub) (n : Nat) (x : List Nat) : (h.setQueue n x).evs = h.evs := rfl
@[simp] theorem Hub.setQueue_owners (h : Hub) (n : Nat) (x : List Nat) : (h.setQueue n x).owners = h.owners := rfl
@[simp] theorem Hub.setQueue_draws (h : Hub) (n : Nat) (x : List Nat) : (h.setQueue n x).draws = h.draws := rfl
@[simp] theorem Hub.setQueue_out (h : Hub) (n : Nat) (x : List Nat) : (h.setQueue n x).out = h.out := rfl
@[simp] theorem Hub.setQueue_lanes (h : Hub) (n : Nat) (x : List Nat) : (h.setQueue n x).lanes = h.lanes := rfl
@[simp] theorem Hub.setQueue_links (h : Hub) (n : Nat) (x : List Nat) : (h.setQueue n x).links = h.links := rfl
@[simp] theorem Hub.setQueue_trf (h : Hub) (n : Nat) (x : List Nat) : (h.setQueue n x).trf = h.trf := rfl
@[simp] theorem Hub.setQueue_tuns (h : Hub) (n : Nat) (x : List Nat) : (h.setQueue n x).tuns = h.tuns := rfl
@[simp] theorem Hub.setQueue_fab (h : Hub) (n : Nat) (x : List Nat) : (h.setQueue n x).fab = h.fab := rfl
@[simp] theorem Hub.setQueue_hif (h : Hub) (n : Nat) (x : List Nat) : (h.setQueue n x).hif = h.hif := rfl
@[simp] theorem Hub.setQueue_peri (h : Hub) (n : Nat) (x : List Nat) : (h.setQueue n x).peri = h.peri := rfl
@[simp] theorem Hub.setQueue_keys (h : Hub) (n : Nat) (x : List Nat) : (h.setQueue n x).keys = h.keys := rfl
@[simp] theorem Hub.setQueue_ras (h : Hub) (n : Nat) (x : List Nat) : (h.setQueue n x).ras = h.ras := rfl
@[simp] theorem Hub.setQueue_pwr (h : Hub) (n : Nat) (x : List Nat) : (h.setQueue n x).pwr = h.pwr := rfl
@[simp] theorem Hub.setQueue_boot (h : Hub) (n : Nat) (x : List Nat) : (h.setQueue n x).boot = h.boot := rfl
@[simp] theorem Hub.setQueue_msi (h : Hub) (n : Nat) (x : List Nat) : (h.setQueue n x).msi = h.msi := rfl
@[simp] theorem Hub.setQueue_led (h : Hub) (n : Nat) (x : List Nat) : (h.setQueue n x).led = h.led := rfl

@[simp] theorem Hub.stage_setStage (h : Hub) (n : Nat) (x : List Nat) : (h.setStage n x).stage n = x := by simp [Hub.stage, Hub.setStage]
theorem Hub.stage_setStage_ne (h : Hub) {n m : Nat} (x : List Nat) (e : m ≠ n) : (h.setStage n x).stage m = h.stage m := by
  simp [Hub.stage, Hub.setStage, Tab.get_set_ne _ _ _ _ e]
@[simp] theorem Hub.setStage_setStage (h : Hub) (n : Nat) (x y : List Nat) : (h.setStage n x).setStage n y = h.setStage n y := by simp [Hub.setStage]
@[simp] theorem Hub.setStage_reg (h : Hub) (n : Nat) (x : List Nat) (a : Nat) : (h.setStage n x).reg a = h.reg a := rfl
@[simp] theorem Hub.setStage_get (h : Hub) (n : Nat) (x : List Nat) (f : Fld) (i j : Nat) : (h.setStage n x).get f i j = h.get f i j := rfl
@[simp] theorem Hub.setStage_flag (h : Hub) (n : Nat) (x : List Nat) (f : Fld) (i j : Nat) : (h.setStage n x).flag f i j = h.flag f i j := rfl
@[simp] theorem Hub.set_stage (h : Hub) (f : Fld) (v i j n : Nat) : (h.set f v i j).stage n = h.stage n := rfl
@[simp] theorem Hub.setStage_regs (h : Hub) (n : Nat) (x : List Nat) : (h.setStage n x).regs = h.regs := rfl
@[simp] theorem Hub.setStage_time (h : Hub) (n : Nat) (x : List Nat) : (h.setStage n x).time = h.time := rfl
@[simp] theorem Hub.setStage_tport (h : Hub) (n : Nat) (x : List Nat) : (h.setStage n x).tport = h.tport := rfl
@[simp] theorem Hub.setStage_evs (h : Hub) (n : Nat) (x : List Nat) : (h.setStage n x).evs = h.evs := rfl
@[simp] theorem Hub.setStage_owners (h : Hub) (n : Nat) (x : List Nat) : (h.setStage n x).owners = h.owners := rfl
@[simp] theorem Hub.setStage_draws (h : Hub) (n : Nat) (x : List Nat) : (h.setStage n x).draws = h.draws := rfl
@[simp] theorem Hub.setStage_out (h : Hub) (n : Nat) (x : List Nat) : (h.setStage n x).out = h.out := rfl
@[simp] theorem Hub.setStage_lanes (h : Hub) (n : Nat) (x : List Nat) : (h.setStage n x).lanes = h.lanes := rfl
@[simp] theorem Hub.setStage_links (h : Hub) (n : Nat) (x : List Nat) : (h.setStage n x).links = h.links := rfl
@[simp] theorem Hub.setStage_trf (h : Hub) (n : Nat) (x : List Nat) : (h.setStage n x).trf = h.trf := rfl
@[simp] theorem Hub.setStage_tuns (h : Hub) (n : Nat) (x : List Nat) : (h.setStage n x).tuns = h.tuns := rfl
@[simp] theorem Hub.setStage_fab (h : Hub) (n : Nat) (x : List Nat) : (h.setStage n x).fab = h.fab := rfl
@[simp] theorem Hub.setStage_hif (h : Hub) (n : Nat) (x : List Nat) : (h.setStage n x).hif = h.hif := rfl
@[simp] theorem Hub.setStage_peri (h : Hub) (n : Nat) (x : List Nat) : (h.setStage n x).peri = h.peri := rfl
@[simp] theorem Hub.setStage_keys (h : Hub) (n : Nat) (x : List Nat) : (h.setStage n x).keys = h.keys := rfl
@[simp] theorem Hub.setStage_ras (h : Hub) (n : Nat) (x : List Nat) : (h.setStage n x).ras = h.ras := rfl
@[simp] theorem Hub.setStage_pwr (h : Hub) (n : Nat) (x : List Nat) : (h.setStage n x).pwr = h.pwr := rfl
@[simp] theorem Hub.setStage_boot (h : Hub) (n : Nat) (x : List Nat) : (h.setStage n x).boot = h.boot := rfl
@[simp] theorem Hub.setStage_msi (h : Hub) (n : Nat) (x : List Nat) : (h.setStage n x).msi = h.msi := rfl
@[simp] theorem Hub.setStage_led (h : Hub) (n : Nat) (x : List Nat) : (h.setStage n x).led = h.led := rfl

@[simp] theorem Hub.tx_setTx (h : Hub) (n : Nat) (x : Option Tx) : (h.setTx n x).tx n = x := by simp [Hub.tx, Hub.setTx]
theorem Hub.tx_setTx_ne (h : Hub) {n m : Nat} (x : Option Tx) (e : m ≠ n) : (h.setTx n x).tx m = h.tx m := by
  simp [Hub.tx, Hub.setTx, Tab.get_set_ne _ _ _ _ e]
@[simp] theorem Hub.setTx_setTx (h : Hub) (n : Nat) (x y : Option Tx) : (h.setTx n x).setTx n y = h.setTx n y := by simp [Hub.setTx]
@[simp] theorem Hub.setTx_reg (h : Hub) (n : Nat) (x : Option Tx) (a : Nat) : (h.setTx n x).reg a = h.reg a := rfl
@[simp] theorem Hub.setTx_get (h : Hub) (n : Nat) (x : Option Tx) (f : Fld) (i j : Nat) : (h.setTx n x).get f i j = h.get f i j := rfl
@[simp] theorem Hub.setTx_flag (h : Hub) (n : Nat) (x : Option Tx) (f : Fld) (i j : Nat) : (h.setTx n x).flag f i j = h.flag f i j := rfl
@[simp] theorem Hub.set_tx (h : Hub) (f : Fld) (v i j n : Nat) : (h.set f v i j).tx n = h.tx n := rfl
@[simp] theorem Hub.setTx_regs (h : Hub) (n : Nat) (x : Option Tx) : (h.setTx n x).regs = h.regs := rfl
@[simp] theorem Hub.setTx_time (h : Hub) (n : Nat) (x : Option Tx) : (h.setTx n x).time = h.time := rfl
@[simp] theorem Hub.setTx_tport (h : Hub) (n : Nat) (x : Option Tx) : (h.setTx n x).tport = h.tport := rfl
@[simp] theorem Hub.setTx_evs (h : Hub) (n : Nat) (x : Option Tx) : (h.setTx n x).evs = h.evs := rfl
@[simp] theorem Hub.setTx_owners (h : Hub) (n : Nat) (x : Option Tx) : (h.setTx n x).owners = h.owners := rfl
@[simp] theorem Hub.setTx_draws (h : Hub) (n : Nat) (x : Option Tx) : (h.setTx n x).draws = h.draws := rfl
@[simp] theorem Hub.setTx_out (h : Hub) (n : Nat) (x : Option Tx) : (h.setTx n x).out = h.out := rfl
@[simp] theorem Hub.setTx_lanes (h : Hub) (n : Nat) (x : Option Tx) : (h.setTx n x).lanes = h.lanes := rfl
@[simp] theorem Hub.setTx_links (h : Hub) (n : Nat) (x : Option Tx) : (h.setTx n x).links = h.links := rfl
@[simp] theorem Hub.setTx_trf (h : Hub) (n : Nat) (x : Option Tx) : (h.setTx n x).trf = h.trf := rfl
@[simp] theorem Hub.setTx_tuns (h : Hub) (n : Nat) (x : Option Tx) : (h.setTx n x).tuns = h.tuns := rfl
@[simp] theorem Hub.setTx_fab (h : Hub) (n : Nat) (x : Option Tx) : (h.setTx n x).fab = h.fab := rfl
@[simp] theorem Hub.setTx_hif (h : Hub) (n : Nat) (x : Option Tx) : (h.setTx n x).hif = h.hif := rfl
@[simp] theorem Hub.setTx_peri (h : Hub) (n : Nat) (x : Option Tx) : (h.setTx n x).peri = h.peri := rfl
@[simp] theorem Hub.setTx_keys (h : Hub) (n : Nat) (x : Option Tx) : (h.setTx n x).keys = h.keys := rfl
@[simp] theorem Hub.setTx_ras (h : Hub) (n : Nat) (x : Option Tx) : (h.setTx n x).ras = h.ras := rfl
@[simp] theorem Hub.setTx_pwr (h : Hub) (n : Nat) (x : Option Tx) : (h.setTx n x).pwr = h.pwr := rfl
@[simp] theorem Hub.setTx_boot (h : Hub) (n : Nat) (x : Option Tx) : (h.setTx n x).boot = h.boot := rfl
@[simp] theorem Hub.setTx_msi (h : Hub) (n : Nat) (x : Option Tx) : (h.setTx n x).msi = h.msi := rfl
@[simp] theorem Hub.setTx_led (h : Hub) (n : Nat) (x : Option Tx) : (h.setTx n x).led = h.led := rfl

@[simp] theorem Hub.stream_setStream (h : Hub) (n : Nat) (x : Stream) : (h.setStream n x).stream n = x := by simp [Hub.stream, Hub.setStream]
theorem Hub.stream_setStream_ne (h : Hub) {n m : Nat} (x : Stream) (e : m ≠ n) : (h.setStream n x).stream m = h.stream m := by
  simp [Hub.stream, Hub.setStream, Tab.get_set_ne _ _ _ _ e]
@[simp] theorem Hub.setStream_setStream (h : Hub) (n : Nat) (x y : Stream) : (h.setStream n x).setStream n y = h.setStream n y := by simp [Hub.setStream]
@[simp] theorem Hub.setStream_get (h : Hub) (n : Nat) (x : Stream) (f : Fld) (i j : Nat) : (h.setStream n x).get f i j = h.get f i j := rfl
@[simp] theorem Hub.setStream_flag (h : Hub) (n : Nat) (x : Stream) (f : Fld) (i j : Nat) : (h.setStream n x).flag f i j = h.flag f i j := rfl
@[simp] theorem Hub.set_stream (h : Hub) (f : Fld) (v i j n : Nat) : (h.set f v i j).stream n = h.stream n := rfl

@[simp] theorem Hub.prod_setProd (h : Hub) (n : Nat) (x : Producer) : (h.setProd n x).prod n = x := by simp [Hub.prod, Hub.setProd]
theorem Hub.prod_setProd_ne (h : Hub) {n m : Nat} (x : Producer) (e : m ≠ n) : (h.setProd n x).prod m = h.prod m := by
  simp [Hub.prod, Hub.setProd, Tab.get_set_ne _ _ _ _ e]
@[simp] theorem Hub.setProd_setProd (h : Hub) (n : Nat) (x y : Producer) : (h.setProd n x).setProd n y = h.setProd n y := by simp [Hub.setProd]
@[simp] theorem Hub.setProd_get (h : Hub) (n : Nat) (x : Producer) (f : Fld) (i j : Nat) : (h.setProd n x).get f i j = h.get f i j := rfl
@[simp] theorem Hub.setProd_flag (h : Hub) (n : Nat) (x : Producer) (f : Fld) (i j : Nat) : (h.setProd n x).flag f i j = h.flag f i j := rfl
@[simp] theorem Hub.set_prod (h : Hub) (f : Fld) (v i j n : Nat) : (h.set f v i j).prod n = h.prod n := rfl

@[simp] theorem Hub.owner_setOwner (h : Hub) (n : Nat) (x : Nat) : (h.setOwner n x).owner n = x := by simp [Hub.owner, Hub.setOwner]
theorem Hub.owner_setOwner_ne (h : Hub) {n m : Nat} (x : Nat) (e : m ≠ n) : (h.setOwner n x).owner m = h.owner m := by
  simp [Hub.owner, Hub.setOwner, Tab.get_set_ne _ _ _ _ e]
@[simp] theorem Hub.setOwner_setOwner (h : Hub) (n : Nat) (x y : Nat) : (h.setOwner n x).setOwner n y = h.setOwner n y := by simp [Hub.setOwner]
@[simp] theorem Hub.setOwner_get (h : Hub) (n : Nat) (x : Nat) (f : Fld) (i j : Nat) : (h.setOwner n x).get f i j = h.get f i j := rfl
@[simp] theorem Hub.setOwner_flag (h : Hub) (n : Nat) (x : Nat) (f : Fld) (i j : Nat) : (h.setOwner n x).flag f i j = h.flag f i j := rfl
@[simp] theorem Hub.set_owner (h : Hub) (f : Fld) (v i j n : Nat) : (h.set f v i j).owner n = h.owner n := rfl

/-! ## Fields by value -/

/-- A one-bit field that holds 1. -/
theorem Hub.flag_one {h : Hub} {f : Fld} {i j : Nat} (e : h.get f i j = 1) : h.flag f i j = true := by simp [Hub.flag, e]

/-- A field that holds 0. -/
theorem Hub.flag_zero {h : Hub} {f : Fld} {i j : Nat} (e : h.get f i j = 0) : h.flag f i j = false := by simp [Hub.flag, e]

/-- A port in ACTIVE. -/
theorem Hub.active_of {h : Hub} {n : Nat} (e : h.get F.PORT_LSTAT_STATE n = 7) : h.active n = true := by simp [Hub.active, e]

/-- A link that is UP. -/
theorem Hub.linkUp_of {h : Hub} {n : Nat} (e : h.get F.PORT_LKSTAT_STATE n = 2) : h.linkUp n = true := by simp [Hub.linkUp, e]

@[simp] theorem Hub.set_now (h : Hub) (f : Fld) (v i j : Nat) : (h.set f v i j).now = h.now := rfl
@[simp] theorem Hub.set_ridge (h : Hub) (f : Fld) (v i j : Nat) : (h.set f v i j).ridge = h.ridge := rfl

end Sys2Proof.Machine
end

