-- ==== Sys2Proof/Laws/Ops.lean ====
section
/-! SUPPORT. What each of the operations that many commands share can do: counting, claims, and writing an event record, which
touches nothing but the event section. -/

namespace Sys2Proof.Machine

/-! ## Counting -/

theorem Hub.get_bump_same (h : Hub) (f : Fld) (i n : Nat) (hf : f.lo + f.w ≤ 32) :
    (h.bump f i n).get f i = min (h.get f i + n) (2 ^ f.w - 1) := by
  have : 0 < 2 ^ f.w := Nat.two_pow_pos _
  rw [Hub.bump, Hub.tally_get, Hub.get_set_same h f _ i 0 hf, Nat.mod_eq_of_lt (by omega)]

theorem Hub.bump_reg_ne (h : Hub) {f : Fld} {i n a : Nat} (ha : a ≠ f.addr i 0) : (h.bump f i n).reg a = h.reg a :=
  Hub.reg_set_ne h ha

/-! ## Claims and releases -/

theorem Hub.claim_cases (h : Hub) (r c : Nat) :
    h.claim r c = (true, h.setOwner r c) ∨ (h.owner r ≠ 0 ∧ h.owner r ≠ c ∧ h.claim r c = (false, h.refuseClaim r c (h.owner r))) := by
  unfold Hub.claim
  by_cases hc : h.owner r = 0 ∨ h.owner r = c ∨ (0x20 ≤ r ∧ r < 0x40 ∧ h.owner r = ownMeasure)
  · exact .inl (if_pos hc)
  · refine .inr ⟨fun e => hc (.inl e), fun e => hc (.inr (.inl e)), if_neg hc⟩


theorem Hub.release_owner (h : Hub) (r c : Nat) :
    (h.release r c).owner r = if h.owner r = c then ownerReset r else h.owner r := by
  unfold Hub.release; split
  · exact Hub.owner_setOwner _ _ _
  · rfl

/-! ## Event records -/

/-- `g` is `h` but for the event section: its registers (0xF000 to 0xFFFF), its streams and producers; and the tick's ledger. -/
def EvsOnly (h g : Hub) : Prop :=
  (∃ regs evs led, g = { h with regs := regs, evs := evs, led := led }) ∧ ∀ a, a < 0xF000 ∨ 0x10000 ≤ a → g.reg a = h.reg a

theorem EvsOnly.refl (h : Hub) : EvsOnly h h := ⟨⟨_, _, _, rfl⟩, fun _ _ => rfl⟩

theorem EvsOnly.trans {h g k : Hub} (a : EvsOnly h g) (b : EvsOnly g k) : EvsOnly h k := by
  obtain ⟨⟨r, e, o, rfl⟩, ha⟩ := a
  obtain ⟨⟨r', e', o', rfl⟩, hb⟩ := b
  exact ⟨⟨r', e', o', rfl⟩, fun x hx => (hb x hx).trans (ha x hx)⟩

theorem EvsOnly.set (h : Hub) (f : Fld) (v i : Nat) (lo : 0xF000 ≤ f.addr i 0) (hi : f.addr i 0 < 0x10000) : EvsOnly h (h.set f v i) :=
  ⟨⟨_, _, _, rfl⟩, fun _ ha => Hub.reg_set_ne h (by omega)⟩

theorem EvsOnly.bump (h : Hub) (f : Fld) (i n : Nat) (lo : 0xF000 ≤ f.addr i 0) (hi : f.addr i 0 < 0x10000) : EvsOnly h (h.bump f i n) :=
  (EvsOnly.set h f _ i lo hi).trans ⟨⟨_, _, _, rfl⟩, fun _ _ => rfl⟩

theorem EvsOnly.setStream (h : Hub) (v : Nat) (x : Stream) : EvsOnly h (h.setStream v x) := ⟨⟨_, _, _, rfl⟩, fun _ _ => rfl⟩
theorem EvsOnly.setProd (h : Hub) (p : Nat) (x : Producer) : EvsOnly h (h.setProd p x) := ⟨⟨_, _, _, rfl⟩, fun _ _ => rfl⟩

theorem EvsOnly.pushRec (h : Hub) {v : Nat} (hv : v < 8) (r : Nat) (p : Option Nat) : EvsOnly h (h.pushRec v r p) :=
  (EvsOnly.setStream h v _).trans (EvsOnly.set _ _ _ _ (by simp only [Fld.addr, F.EVS_NEXT_NEXT]; omega)
    (by simp only [Fld.addr, F.EVS_NEXT_NEXT]; omega))

theorem EvsOnly.pushRecs {v : Nat} (hv : v < 8) (p : Option Nat) :
    ∀ (rs : List Nat) (h : Hub), EvsOnly h (rs.foldl (fun g r => g.pushRec v r p) h)
  | [], h => .refl h
  | r :: rs, h => (EvsOnly.pushRec h hv r p).trans (EvsOnly.pushRecs hv p rs _)

theorem EvsOnly.pendUpdate (h : Hub) {v : Nat} (hv : v < 8) : EvsOnly h (h.pendUpdate v) :=
  EvsOnly.set _ _ _ _ (by simp only [Fld.addr, F.EVS_STAT_PEND]; omega) (by simp only [Fld.addr, F.EVS_STAT_PEND]; omega)

theorem EvsOnly.writeMark {h g : Hub} {v : Nat} (hv : v < 8) (e : h.writeMark v = some g) : EvsOnly h g := by
  unfold Hub.writeMark at e
  simp only [] at e
  split at e
  · obtain rfl := Option.some.inj e
    exact (EvsOnly.setStream h v _).trans (EvsOnly.pushRec _ hv _ _)
  · cases e

theorem EvsOnly.swapBanks (h : Hub) {v : Nat} (hv : v < 8) (fl : Bool) : EvsOnly h (h.swapBanks v fl) := by
  unfold Hub.swapBanks
  simp only []
  have s : ∀ x : Stream, EvsOnly h ((h.setStream v x).set F.EVS_STAT_FILLBANK (1 - (h.get F.EVS_STAT_FILLBANK v)) v) := fun x =>
    (EvsOnly.setStream h v x).trans (EvsOnly.set _ _ _ _ (by simp only [Fld.addr, F.EVS_STAT_FILLBANK]; omega)
      (by simp only [Fld.addr, F.EVS_STAT_FILLBANK]; omega))
  split
  · rename_i hm
    cases e : Hub.writeMark _ v with
    | none => exact s _
    | some g => exact (s _).trans (EvsOnly.writeMark hv e)
  · exact s _

theorem EvsOnly.closeFull (h : Hub) {v : Nat} (hv : v < 8) : EvsOnly h (h.closeFull v) := by
  unfold Hub.closeFull Hub.closeBank
  simp only []
  repeat' split
  · exact .refl h
  · exact EvsOnly.swapBanks h hv _
  · exact EvsOnly.setStream h v _
  · exact .refl h

theorem EvsOnly.loseRecords (h : Hub) (p n : Nat) {v : Nat} (hv : v < 8) : EvsOnly h (h.loseRecords p v n) :=
  (EvsOnly.setProd h p _).trans (EvsOnly.bump _ F.EVS_CNT_LOST _ _ (by simp only [Fld.addr, F.EVS_CNT_LOST]; omega)
    (by simp only [Fld.addr, F.EVS_CNT_LOST]; omega))

/-- A record touches nothing but the event section. -/
theorem Hub.record_evsOnly (h : Hub) {p : Nat} (hp : p < 162) (rs : List Nat) : EvsOnly h (h.record p rs) := by
  have hv : h.get F.EVS_PROD_STREAM p < 8 := Hub.get_lt h F.EVS_PROD_STREAM p 0
  unfold Hub.record
  simp only []
  split
  · exact .refl h
  · split
    · exact EvsOnly.loseRecords h p _ hv
    · split
      · exact (EvsOnly.setStream h _ _).trans (EvsOnly.loseRecords _ p _ hv)
      · rename_i h1 e
        have m : EvsOnly h h1 := by
          split at e
          · exact EvsOnly.writeMark hv e
          · obtain rfl := Option.some.inj e; exact .refl h
        refine (((m.trans (EvsOnly.pushRecs hv _ rs h1)).trans (EvsOnly.set _ F.EVS_PROD_CREDIT _ p ?_ ?_)).trans
          (EvsOnly.pendUpdate _ hv)).trans (EvsOnly.closeFull _ hv)
        · simp only [Fld.addr, F.EVS_PROD_CREDIT]; omega
        · simp only [Fld.addr, F.EVS_PROD_CREDIT]; omega

theorem Hub.record_reg (h : Hub) {p : Nat} (hp : p < 162) (rs : List Nat) {a : Nat} (ha : a < 0xF000 ∨ 0x10000 ≤ a) :
    (h.record p rs).reg a = h.reg a := (Hub.record_evsOnly h hp rs).2 a ha

theorem EvsOnly.owners {h g : Hub} (e : EvsOnly h g) : g.owners = h.owners := by obtain ⟨⟨_, _, _, rfl⟩, _⟩ := e; rfl
theorem EvsOnly.time {h g : Hub} (e : EvsOnly h g) : g.time = h.time := by obtain ⟨⟨_, _, _, rfl⟩, _⟩ := e; rfl
theorem EvsOnly.core {h g : Hub} (e : EvsOnly h g) : g.core = h.core := by obtain ⟨⟨_, _, _, rfl⟩, _⟩ := e; rfl
theorem EvsOnly.out {h g : Hub} (e : EvsOnly h g) : g.out = h.out := by obtain ⟨⟨_, _, _, rfl⟩, _⟩ := e; rfl
theorem EvsOnly.msi {h g : Hub} (e : EvsOnly h g) : g.msi = h.msi := by obtain ⟨⟨_, _, _, rfl⟩, _⟩ := e; rfl
theorem EvsOnly.pwr {h g : Hub} (e : EvsOnly h g) : g.pwr = h.pwr := by obtain ⟨⟨_, _, _, rfl⟩, _⟩ := e; rfl
theorem EvsOnly.get {h g : Hub} (e : EvsOnly h g) (f : Fld) (i j : Nat) (ha : f.addr i j < 0xF000 ∨ 0x10000 ≤ f.addr i j) :
    g.get f i j = h.get f i j := congrArg (fun w => (Word.bits w f.lo f.w)) (e.2 _ ha)

/-! ## What leaves on a port -/

/-- `g` is `h` but for its lanes, its links and what it has sent out. -/
def LineOnly (h g : Hub) : Prop := ∃ lanes links out, g = { h with lanes := lanes, links := links, out := out }

theorem LineOnly.refl (h : Hub) : LineOnly h h := ⟨_, _, _, rfl⟩
theorem LineOnly.trans {h g k : Hub} (a : LineOnly h g) (b : LineOnly g k) : LineOnly h k := by
  obtain ⟨_, _, _, rfl⟩ := a
  obtain ⟨_, _, _, rfl⟩ := b
  exact ⟨_, _, _, rfl⟩

theorem LineOnly.setLane (h : Hub) (n : Nat) (x : LaneSt) : LineOnly h (h.setLane n x) := ⟨_, _, _, rfl⟩
theorem LineOnly.setLink (h : Hub) (n : Nat) (x : LinkSt) : LineOnly h (h.setLink n x) := ⟨_, _, _, rfl⟩
theorem LineOnly.emit (h : Hub) (o : Out) : LineOnly h (h.emit o) := ⟨_, _, _, rfl⟩

theorem Hub.transmit_line (h : Hub) (n : Nat) (x : Item) : LineOnly h (h.transmit n x) := by
  cases x with
  | lane _ _ _ => exact ⟨_, _, _, rfl⟩
  | other o => exact .emit h o
  | link ctl k =>
    have c (g : Hub) : LineOnly g (((g.deal n).2.scrOn n (2 ^ (g.deal n).1) 1 k).emit
        (if ctl then .ctl n (2 ^ (g.deal n).1) 1 k else .data n (g.deal n).1 k)) :=
      ((LineOnly.setLane g n _).trans (.setLane _ n _)).trans (.emit _ _)
    by_cases q : (ctl && !frameCtl k) = true
    · simpa only [Hub.transmit, if_pos q] using c h
    · simpa only [Hub.transmit, if_neg q] using (LineOnly.setLink h n _).trans (c (h.txCount n))

/-- Sending on a port touches no register, nor anything but the port's lanes and link and what goes out. -/
theorem Hub.send_line (h : Hub) (n : Nat) (x : Item) : LineOnly h (h.send n x) := by
  unfold Hub.send
  by_cases f : h.flag F.GLB_FATAL_VALID
  · rw [if_pos f]; exact .refl h
  · rw [if_neg f]
    extract_lets l stuck
    split
    · exact .setLink h n _
    · exact (LineOnly.setLink h n _).trans (Hub.transmit_line _ n x)

theorem Hub.sendL0_line (h : Hub) (n k : Nat) (b : Blk) : LineOnly h (h.sendL0 n k b) := Hub.send_line h n _

theorem LineOnly.reg {h g : Hub} (e : LineOnly h g) (a : Nat) : g.reg a = h.reg a := by obtain ⟨_, _, _, rfl⟩ := e; rfl
theorem LineOnly.get {h g : Hub} (e : LineOnly h g) (f : Fld) (i j : Nat) : g.get f i j = h.get f i j := by
  obtain ⟨_, _, _, rfl⟩ := e; rfl
theorem LineOnly.time {h g : Hub} (e : LineOnly h g) : g.time = h.time := by obtain ⟨_, _, _, rfl⟩ := e; rfl
theorem LineOnly.tport {h g : Hub} (e : LineOnly h g) : g.tport = h.tport := by obtain ⟨_, _, _, rfl⟩ := e; rfl
theorem LineOnly.owners {h g : Hub} (e : LineOnly h g) : g.owners = h.owners := by obtain ⟨_, _, _, rfl⟩ := e; rfl
theorem LineOnly.core {h g : Hub} (e : LineOnly h g) : g.core = h.core := by obtain ⟨_, _, _, rfl⟩ := e; rfl

@[simp] theorem Hub.send_time (h : Hub) (n : Nat) (x : Item) : (h.send n x).time = h.time := (h.send_line n x).time
@[simp] theorem Hub.send_get (h : Hub) (n : Nat) (x : Item) (f : Fld) (i j : Nat) : (h.send n x).get f i j = h.get f i j :=
  (h.send_line n x).get f i j
@[simp] theorem Hub.sendL0_time (h : Hub) (n k : Nat) (b : Blk) : (h.sendL0 n k b).time = h.time := (h.sendL0_line n k b).time
@[simp] theorem Hub.sendL0_tport (h : Hub) (n k : Nat) (b : Blk) : (h.sendL0 n k b).tport = h.tport := (h.sendL0_line n k b).tport
@[simp] theorem Hub.sendL0_get (h : Hub) (n k : Nat) (b : Blk) (f : Fld) (i j : Nat) :
    (h.sendL0 n k b).get f i j = h.get f i j := (h.sendL0_line n k b).get f i j

end Sys2Proof.Machine
end

