-- ==== Sys2Proof/WellFormed.lean ====
section
/-! DEFINITION. Which commands the spec's hardware can take: the arguments of the others name no event (a word off its alignment
over PCIe, a message longer than its header says, a cell or an instance that does not exist). -/

namespace Sys2Proof

/-- The cells of the kennel (R193). -/
def kennelCells : Nat := 262144

/-- Over PCIe a register access names a word, and the byte enables its bytes (R7); an unaligned address on another path is a request
that the hub turns away, not an ill-formed command. Only PCIe reaches more than BAR0; requests of the hub's own management controller
are no accesses of a path (R182). -/
def placeOk (p : Path) (x : Place) : Bool :=
  match p, x with
  | .pcie, .bar0 a => a.toNat % 4 == 0
  | .pcie, .bar2 a => a.toNat % 4 == 0
  | .pcie, .config a => a.toNat % 4 == 0
  | .pcie, .msixControl => true
  | .mgmt, .bar0 _ => true
  | .tunnel _, .bar0 _ => true
  | _, _ => false

/-- A configuration-channel message carries the number of objects its header gives (R391). -/
def objectsFit (hdr : BitVec 16) (objs : List Word) : Bool := objs.length == hdr.toNat / 512 % 8

/-- A trim names a row of Table 1-1 whose trim comes from OTP, and an instance within the row's count. -/
def trimExists (x : Nat × Nat) : Bool :=
  match x.1 with
  | 2 | 3 | 4 => decide (x.2 < 32)
  | 5 | 6 => x.2 == 0
  | _ => false

/-- A command whose arguments name an event of this hardware. -/
def Instr.wf : Instr → Bool
  | .registerWrite p x _ _ _ => placeOk p x
  | .rcRead p x _ => placeOk p x
  | .stripeReceive _ row => decide (1 ≤ row.length) && decide (row.length ≤ 4)
  | .eiReceive ⟨_, row⟩ => decide (1 ≤ row.length) && decide (row.length ≤ 4)
  | .blockLockLost _ _ ⟨bad, lost⟩ => lost || bad != 0
  | .lparamReceive _ body => body.length == 32
  | .egressSelect _ ecc => ecc.all (fun x => decide (x.1 < kennelCells))
  | .mgmtResendTimeout _ _ _ op _ => (match op with
      | .inl n => decide (1 ≤ n.val)
      | .inr ws => decide (1 ≤ ws.length) && decide (ws.length ≤ 1024))
  | .kennelScrub ecc => ecc.all (fun x => decide (x.1 < kennelCells))
  | .shaperWrite q x _ _ => !q || decide (x.val < 272)
  | .descriptorArrival _ ws => ws.length % 8 == 0 && decide (8 ≤ ws.length) && decide (ws.length ≤ 256)
  | .dataArrival _ bytes => decide (bytes ≠ [])
  | .perstNRelease width speed => [1, 2, 4, 8].contains width.val && decide (1 ≤ speed.val) && decide (speed.val ≤ 5)
  | .bar4Write a bytes => decide (bytes ≠ []) && decide (a + bytes.length ≤ 2 ^ 40)
  | .bar4Read _ a len => decide (1 ≤ len.val) && decide (a + len.val ≤ 2 ^ 40)
  | .inboundPcieCompletion _ st bytes => decide (bytes.length ≤ 4096) && (st == 0 || bytes.isEmpty)
  | .layerDataArrival _ _ ok bytes => if ok then decide (bytes ≠ []) else bytes.isEmpty
  | .transactionEnd _ res data => decide (data.length ≤ 1024) && (res == 0 || data.isEmpty)
  | .offerReceive _ hdr objs => objectsFit hdr objs
  | .requestReceive _ hdr objs => objectsFit hdr objs
  | .acceptReceive _ hdr objs => objectsFit hdr objs
  | .rejectReceive _ hdr objs => objectsFit hdr objs
  | .ccReadyReceive _ hdr objs => objectsFit hdr objs
  | .statusReceive _ hdr objs => objectsFit hdr objs
  | .alertReceive _ hdr objs => objectsFit hdr objs
  | .cableSupplySwapReceive _ hdr objs => objectsFit hdr objs
  | .hardresetReceive _ hdr objs => objectsFit hdr objs
  | .cairnDone _ _ secs _ => secs.all (fun x => decide (x.2.length ≤ 0x200000))
  | .otpLoadComplete bad => bad.all trimExists
  | .bootSlotVerify a b => decide (a.length ≤ 0x80000) && decide (b.length ≤ 0x80000)
  | .configImageApply img _ => decide (img.length ≤ 0x200000)
  | .ccBadFrame _ _ objs _ => decide (objs.length ≤ 7)
  | .sscWrite .. | .uplinkSignalDetect .. | .frequencyLock | .facqTimeout | .lockSourceLost | .tsyncSend ..
  | .dreqSend .. | .dreqReceive .. | .drspReceive .. | .tepochReceive .. | .tsyncReceive .. | .timeNowLoRead .. | .load
  | .palign | .palignEdge | .captureEdge .. | .compareTargetWrite .. | .compareMatch .. | .comparePulseEnd ..
  | .admitCells | .portLctlEnWrite .. | .retrain .. | .loopbackSelect .. | .signalDetect .. | .ts1Receive .. | .ts2Receive ..
  | .trainingTimeout .. | .rateRetuneEnd .. | .eqPhaseIdleEnd .. | .verifyComplete .. | .faultRetry .. | .blockLockAcquired ..
  | .idleDelayExpiry .. | .fastExit .. | .fastExitLockTimeout .. | .lrecReceive ..
  | .recoveryComplete .. | .recoveryTimeout .. | .lretReceive .. | .retireForce .. | .retireClear .. | .turnRequest ..
  | .lmgtReqReceive .. | .lmgtAckReceive .. | .lmgtNakReceive .. | .turnAckDeadline .. | .turnOldSenderStart ..
  | .turnOldSenderSwitch .. | .turnLaneRemove .. | .turnPark .. | .turnBurst .. | .turnStripe .. | .turnLockTimeout ..
  | .lmgtDoneReceive .. | .lmgtFailReceive .. | .turnTimeout .. | .drepReceive .. | .lbkEnterReceive .. | .lbkExitReceive ..
  | .loopbackTimeout .. | .sofReceive .. | .trailerReceive .. | .openFrameTimeout .. | .ackReceive .. | .nakReceive ..
  | .pollReceive .. | .creditField .. | .replayTimerExpiry .. | .creditRefresh .. | .heartbeatSend .. | .heartbeatLoss ..
  | .lparamSend .. | .initTimeout .. | .holdExpiry .. | .routeStage .. | .tunnelOpen .. | .tunnelClose .. | .drainEnd ..
  | .drainDeadline .. | .mgmtReadRequest | .mgmtWriteRequest .. | .mgmtUnsupported | .protectedWindowEnd | .phbReceive
  | .packReceive | .protectedPacketArrive | .gapTimerExpiry .. | .helloReceive | .dlgRepeat .. | .dlgReceive | .dlgackReceive
  | .staggerGroupStart | .porttmoExpiry .. | .readyReceive | .sitereadyReceive | .rowRepair .. | .memoryScrub ..
  | .stageStall .. | .lifetimeExpiry | .sweeperVisit | .flowCacheFlush | .minWrite .. | .quotaWrite .. | .gateEntryChange ..
  | .gateCommit .. | .gateAbort .. | .gateSwitchover .. | .gateDisable .. | .shaperRefill | .meterWrite ..
  | .shepherdWindowEnd .. | .allotmentWrite .. | .raiseStart | .budgetWrite .. | .doorbell .. | .mgmtDoorbell .. | .arm ..
  | .mgmtArm .. | .descriptorFetchIssue .. | .dataFetchIssue .. | .hostReadFailure .. | .readRetry .. | .moderationTimeout ..
  | .ringEnable .. | .ringReset .. | .ringResetDeadline .. | .ringResetEnd .. | .perstNAssert | .functionLevelReset
  | .cfgrdySet | .remotePoll .. | .blkTransferComplete .. | .sliceBindWrite .. | .ownerWrite .. | .sliceReset ..
  | .sliceResetDrainDeadline .. | .sliceResetComplete .. | .windowEnable .. | .windowClose .. | .windowCloseEnd .. | .rdSend ..
  | .blockCompletionReceive | .syncRead .. | .inboundRequest | .inboundPcieIssue .. | .busyReceive | .backoffExpiry ..
  | .episodeQuietEnd .. | .readTimeout .. | .lateTagFree | .pollSend .. | .pipeEnable .. | .pipeDisable .. | .frameStart ..
  | .lineRelease .. | .latchTick .. | .syncInEdge | .synclostDeadline .. | .teArrival .. | .teTimeout .. | .backChannelEvent
  | .layerLineFetch .. | .framePulseEnd .. | .ltrSend | .microframeStart | .endpointEnable .. | .clrhalt ..
  | .transferMessageReceive | .ackDelayExpiry .. | .resendTimerExpiry .. | .penWrite .. | .attachSeen .. | .detachSeen ..
  | .busReset .. | .rstdurEnd .. | .usbSuspend .. | .usbResume .. | .remoteWake .. | .rsmdrvEnd .. | .babble ..
  | .seatingClosed .. | .seatingOpen .. | .insertionDelayEnd .. | .powerPathEnable .. | .rampComplete .. | .rampTimeout ..
  | .hardShortTrip .. | .currentSample .. | .busOverVoltage .. | .busUnderVoltage .. | .busInRange .. | .coolDownEnd ..
  | .calibrationStart .. | .calibrationEnd .. | .powerWindowEnd | .energyRead .. | .attachDetect .. | .attachLoss ..
  | .messageSendStart .. | .acknowledgementReceive .. | .acknowledgementTimeout .. | .offintExpiry .. | .reqtmoExpiry ..
  | .resptmoExpiry .. | .readytmoExpiry .. | .hrrecEnd .. | .swaptmoExpiry .. | .swapApply .. | .swapReady ..
  | .swapCsupTimeout .. | .ptvWrite .. | .reneg .. | .cccmdStatus .. | .cccmdAlert .. | .cccmdSwap .. | .cccmdHardreset ..
  | .roleWrite .. | .transitionStep .. | .transitionEnd .. | .transitionSettleTimeout .. | .sinkFetOn .. | .sinkFetOff ..
  | .cableSupplyApply .. | .cableSupplyFault .. | .waitInstruction | .domainWake .. | .voteDlyExpiry .. | .entryStepEnd ..
  | .evoteWrite .. | .managerVoteHoldEnd .. | .sramRetentionReturn | .standbyEntry .. | .standbyDrainDeadline | .standbyWake ..
  | .vreqWrite .. | .pmbcfgEnWrite .. | .voutCommandDone .. | .statusWordRead .. | .settleEnd | .pgtmoExpiry | .flushTimeout ..
  | .streamFlush .. | .streamEnable .. | .drainWordWritten .. | .telemetry | .producerWrite .. | .cairnDeclare ..
  | .cairnTimeout .. | .powerOnReset .. | .pinReset .. | .watchdogExpiry .. | .watchdogKick .. | .chiprst .. | .railInRange ..
  | .railTimeout | .railRetry | .flashRetry | .hostLoadData .. | .hostLoadGo .. | .joinSectionApply .. | .configWaitEnd ..
  | .configPoll .. | .otpProgram .. | .otpRead .. | .otpProgramEnd | .glbLockSet .. | .mgmtH2mWrite .. | .mgmtM2hWrite ..
  | .dataBlockReceive .. | .vaonLoss | .domainExitEnd .. | .pciePowerStateChange .. => true

end Sys2Proof
end

