-- ==== Sys2Proof/Tests/Slice0.lean ====
section
/-! SUPPORT. Small tests: for each statement of the certificate, states and operands that meet its hypotheses, one group for each of
its clauses; ill-formed commands that `Instr.wf` refuses; single steps whose outcome the spec gives. -/

namespace Sys2Proof.Tests
open Sys2Proof Sys2Proof.Machine
set_option Elab.async false

/-! ## Small hubs the tests start from -/

def Rst : Hub := State.reset.hub
def doesReadB (c : Instr) (st h : Hub) (o : Otp) (r : Hub × Hub) : Bool :=
  match exec c { hub := h, start := st, otp := o, pending := [] } with
  | .next s => s.hub == r.2.finish && s.otp == o && s.pending == [] && s.start == r.1
  | _ => false
/-- The hub right after reset; at a tick; at a ridge time. -/
def at_ (t : Nat) (h : Hub := Rst) : Hub := { h with time := { h.time with tick := t } }
def ridge_ (t : Nat) (h : Hub := Rst) : Hub := { h with time := { h.time with ridge := BitVec.ofNat 64 t } }
def lst (s n : Nat) (x : LaneSt := {}) (h : Hub := Rst) : Hub := (h.set F.PORT_LSTAT_STATE s n).setLane n x
def up (n : Nat) (x : LinkSt := {}) (h : Hub := Rst) : Hub := ((lst 7 n {} h).set F.PORT_LKSTAT_STATE 2 n).setLink n x
def summit (h : Hub := Rst) : Hub := h.set F.TIME_CTL_SUMMIT 1
def tstate (s : Nat) (x : TimeSt := {}) (h : Hub := Rst) : Hub := { h with time := x }.set F.TIME_STAT_STATE s
def turn_ : Turn := { id := 3, x := 1000, target := 1, from_ := 0, lanes := 2, initiator := true, newSender := true }
def roleOf (r n : Nat) (h : Hub := Rst) : Hub := h.set F.FAB_PORTCFG_ROLE r n
def asleep_ : Hub := { Rst with pwr := { Rst.pwr with asleep := true } }
def st (h : Hub) : State := { State.reset with hub := h }
def after (s : State) : State := { s with hub := s.hub.passTick, start := s.hub.passTick }
def hdr_ (dhub dtun type plen : Nat) (hops : Nat := 31) (cls : Nat := 0) : THdr :=
  ({ dhub := dhub, dtun := dtun, shub := 9, stun := 0, type := type, cls := cls, plen := plen, hops := hops } : THdr).seal
def frm_ (h : THdr) (data : List Nat := []) (src : Nat := 31) (phase : Phase := .arriving) : Machine.Frm :=
  { hdr := h, len := h.plen + 16, data := (data ++ List.replicate (h.plen - data.length) 0).map (BitVec.ofNat 8), src := src, arrived := 0, lcls := h.cls, phase := phase }
/-- A message waiting at the management endpoint; a frame held at the hub. -/
def inq (f : Machine.Frm) (h : Hub := Rst) : Hub := { h with core := { h.core with inbox := [f] } }
def has (f : Machine.Frm) (h : Hub := Rst) : Hub := { h with core := { h.core with frames := [(0, some f)] } }
def queued (f : Machine.Frm) (q : Nat) (h : Hub := Rst) : Hub := (has f h).setQueue q [0]
def dhub5 (h : Hub := Rst) : Hub := (h.set F.FAB_ID_VALID 1).set F.FAB_ID_HUBID 5
def route5 (a b : Nat) (h : Hub := Rst) : Hub := ((h.set F.ROUTE_VALID 1 5).set F.ROUTE_PRI a 5).set F.ROUTE_SEC b 5
/-- A path of manager slot 15 that has the rights of slice 1. -/
def slot15 (h : Hub := Rst) : Hub := h.set F.FAB_RMGR_SLICE 1 15
def ring_ (r st kind : Nat) (x : RingSt := {}) (h : Hub := Rst) : Hub :=
  ((h.set F.RCTX0_STATE st r).set F.RCTX0_KIND kind r).setRing r x
/-- A window in a state, on an entry made for it. -/
def win_ (w s : Nat) (x : WinSt := {}) (h : Hub := Rst) : Hub :=
  ((((((h.set F.BLK_WCTL_STATE s w).set F.BLK_WCTL_TUN 5 w).set F.TUN_W0_TYPE 3 5).set F.TUN_W2_FUNC 4 5).set F.TUN_W2_FIDX w 5).set
    F.TUN_W0_PROT 1 5).setWin w x
/-- A hub that awaits a read of host memory. -/
def rd_ (who : ReadFor) (n : Nat) (h : Hub := Rst) (dead : Bool := false) : Hub :=
  { h with hif := { h.hif with reads := [{ fetch := 0, who := who, pasid := 0, addr := 0, len := n, dead := dead }] } }
def timing_ (d : Nat) (h : Hub := Rst) : Hub :=
  ((((h.set F.RAS_HTIM_HACT 640 d).set F.RAS_HTIM_HTOT 800 d).set F.RAS_VTIM_VACT 480 d).set F.RAS_VTIM_VTOT 500 d).set F.RAS_FPER_INT 3300000 d
def pipe_ (d s : Nat) (x : PipeSt := {}) (h : Hub := Rst) : Hub := ((timing_ d h).set F.RAS_CTL_STATE s d).setPipe d x
/-- A hub with manager slot 15 for hub 9; the same at ASSEMBLED; a hub whose management controller runs. -/
def mgr15_ : Hub := (Rst.set F.FAB_RMGR_EN 1 15).set F.FAB_RMGR_HUBID 9 15
def mgr15run_ : Hub := tstate 4 {} mgr15_
def running_ : Hub := { Rst.set F.MGMT_STAT_RUNNING 1 with boot := { Rst.boot with rom := .running } }
def port_ (n s : Nat) (x : PeriPort := {}) (h : Hub := Rst) : Hub := (h.set F.PERI_PSTAT_STATE s n).setPport n x
def xfer_ : Xfer := { tun := 5, xid := 1, ctx := 1023, port := 31, dev := 1, ep := 1, dir := true, xtype := 2, want := 64 }
def usb_ (q : Xfer) : Hub :=
  let h := ((((((((Rst.set F.PERI_CFG_EN 1).set F.ECTX0_DEVADDR 1 1023).set F.ECTX0_EPNUM 1 1023).set F.ECTX0_EN 1 1023).set F.ECTX0_PORT 31 1023).set F.ECTX0_XTYPE 2 1023).set F.ECTX0_DIR 1 1023).set
    F.ECTX1_MPS 64 1023).set F.ECTX2_SIZE 16 1023
  (port_ 31 4 {} h).setXfers [q]
/-- A configuration-channel header; a port with a partner attached, a source or a sink. -/
def cc_ (kind nobj id : Nat) : BitVec 16 := BitVec.ofNat 16 (kind * 4096 + nobj * 512 + id * 64 + 4)
def src_ (n : Nat) (c : CcPort := {}) (h : Hub := Rst) : Hub := ((h.set F.PORT_CCCTL_ROLE 1 n).set F.PORT_CCSTAT_PD 1 n).setCc n c
def snk_ (n : Nat) (c : CcPort := {}) (h : Hub := Rst) : Hub := ((h.set F.PORT_CCCTL_ROLE 3 n).set F.PORT_CCSTAT_SRC 1 n).setCc n c
def boot_ (b : BootSt) (h : Hub := Rst) : Hub := { h with boot := b }
def pwr_ (p : PwrSt) (h : Hub := Rst) : Hub := { h with pwr := p }

/-! ## Hubs, commands and blocks of the witnesses -/

def w0 : State := st asleep_
def w2 : State := st (Rst.set F.GLB_FATAL_VALID 1)
def w3 : Hub := { Rst with led := { Rst.led with wiped := true } }
def w4 : Hub := Rst.set F.FAB_RMGR_SLICE 1 0
def w5 : Hub := Rst.set F.HIF_PCTL_CFGRDY 1
def w6 : Hub := Rst.setOwner 5 7
def w7 : Hub := { Rst.setOwner 5 7 with led := { Rst.led with refused := [⟨2, 5, 6, 7⟩] } }
def w8 : Hub := { Rst with led := { Rst.led with refused := [⟨2, 5, 6, 7⟩] } }
def w9 : Hub := Rst.setOwner 5 6
def w10 : Hub := Rst.set F.EVS_PROD_EN 0 161
def w11 : Hub := Rst.set F.EVS_PROD_CREDIT 0 161
def w12 : Hub := (Rst.set F.EVS_PROD_STREAM 7 161).setStream 7 { mark := some 0 }
def w13 : Hub := ((Rst.set F.EVS_THR_THRESH 1 7).set F.EVS_CFG_IRQEN 1 7).setStream 7 { fill := { slots := [⟨0, 0, none⟩] } }
def w14 : Hub := ((Rst.set F.EVS_THR_THRESH 1 7).set F.EVS_CFG_IRQEN 0 7).setStream 7 { fill := { slots := [⟨0, 0, none⟩] } }
def w15 : Hub := Rst.setStream 7 { fill := { slots := [⟨0, 0, none⟩] } }
def w16 : Hub := summit
def w17 : Hub := summit (Rst.setOwner resSyncIn ownTime)
def w18 : Hub := { Rst.setOwner resSyncIn ownTime with time := { alignArmed := true } }
def w19 : Hub := (((Rst.set F.TIME_CAPCFG_EN 1 3).set F.TIME_CAPCFG_SRC 3 3).set F.TIME_CAPCFG_VALID 1 3).setOwner (resGpio 0) ownTime
def w20 : Hub := ((Rst.set F.TIME_CAPCFG_EN 1 3).set F.TIME_CAPCFG_SRC 3 3).setOwner (resGpio 0) ownTime
def w21 : Hub := ((Rst.set F.TIME_CMPCFG_EN 1 3).set F.TIME_CMPCFG_OUT 1 3).setCmp 3 { target := some 0 }
def w22 : Hub := (((Rst.set F.TIME_CMPCFG_EN 1 3).set F.TIME_CMPCFG_OUT 2 3).set F.TIME_CMP_PER_CMP_PER 7 3).setCmp 3 { target := some 0 }
def w23 : Hub := (Rst.set F.TIME_CMPCFG_EN 1 3).setCmp 3 { target := some 0 }
def w24 : Hub := (Rst.set F.TIME_CMPCFG_OUT 1 3).setCmp 3 { pulseEnd := some 0 }
def w25 : Hub := roleOf 2 31 (Rst.set F.PORT_LCTL_EN 1 31)
def w26 : Hub := tstate 1
def w27 : Hub := tstate 1 { tick := 100000, acqStart := some 0, acqFails := 1 }
def w28 : Hub := tstate 1 { tick := 100000, acqStart := some 0, acqFails := 2 }
def w29 : Hub := tstate 3
def w30 : Hub := roleOf 2 0 (roleOf 3 1 ((tstate 3).set F.PORT_LSTAT_STATE 7 1))
def w31 : Hub := tstate 2 { good := 3 }
def w32 : Hub := tstate 2 { good := 2 }
def w33 : Hub := tstate 2
def w34 : Hub := tstate 3 { bad := 3 }
def w35 : Hub := lst 7 31
def w36 : Hub := (lst 7 31).setTp 31 { sent := 7 }
def w37 : Hub := roleOf 2 31 (lst 7 31 {} (tstate 2))
def w38 : Hub := roleOf 3 31 (lst 7 31 {} (tstate 3))
def w39 : Hub := (roleOf 2 31 (lst 7 31)).setTp 31 { ex := some { id := 5, t1 := 3 } }
def w40 : Hub := roleOf 2 31 (lst 7 31)
def w41 : Hub := Rst.set F.PORT_LCTL_EN 1 31
def w42 : Hub := lst 7 31 { turn := some turn_, waiting := true }
def w43 : Hub := Rst.set F.PORT_LMODE_CUR 1 31
def w44 : Hub := (lst 8 31).set F.PORT_LCTL_LBK 1 31
def w45 : Hub := (lst 8 31).set F.PORT_LCTL_LBK 3 31
def w46 : Hub := Rst.set F.PWR_DSTAT_LEVEL 2 31
def w47 : Hub := at_ 200 (lst 1 31)
def w48 : Hub := at_ 200000000 (lst 9 31)
def w49 : Hub := (lst 7 31).set F.PORT_LCTL_FELBK_ALLOW 1 31
def w50 : Hub := lst 8 31 { retime := true }
def w51 : Hub := at_ 200000 (lst 8 31)
def w52 : Hub := lst 2 31 { lock := 8, ts1 := [(3, 7)] }
def w53 : Blk := ({ Blk.ts 0 with tgt := 0 } : TsBlk).blk btTS1
def w54 : Hub := lst 2 31 { lock := 8, ts1 := [(3, 6)] }
def w55 : Hub := lst 5 31
def w56 : Hub := lst 7 31 {} (Rst.set F.PORT_LSTAT_RXMASK 8 31)
def w57 : Hub := at_ 10000 (lst 3 31 { lock := 8, ctl := some 3, ts2 := 7, ts2From := some 0 })
def w58 : Blk := ({ Blk.ts 0 with tgt := 0, retire := 0 } : TsBlk).blk btTS2
def w59 : Hub := at_ 20000 (lst 2 31)
def w60 : Hub := at_ 10000 (lst 3 31)
def w61 : Hub := at_ 10400 (lst 4 31)
def w62 : Hub := at_ 240000 (lst 5 31)
def w63 : Hub := at_ 19000 (lst 6 31)
def w64 : Hub := at_ 400 (lst 4 31)
def w65 : Hub := lst 5 31 { eqIdle := some 0 }
def w66 : Hub := at_ 16384 (lst 6 31)
def w67 : Hub := at_ 16384 (lst 6 31 { readyRx := true, ts2From := some 0 })
def w68 : Hub := lst 7 31 { lock := 8 }
def w69 : Hub := lst 2 31
def w70 : Hub := lst 8 31
def w71 : Hub := lst 8 31 { chk := 8 }
def w72 : Hub := lst 2 31 { lock := 8 }
def w73 : Hub := lst 7 31 { lock := 8 } (Rst.set F.PORT_LSTAT_RXMASK 8 31)
def w74 : Hub := lst 7 31 { lock := 12 } (Rst.set F.PORT_LSTAT_RXMASK 12 31)
def w75 : Hub := lst 7 31 {} (Rst.set F.PORT_LSTAT_RXMASK 12 31)
def w76 : Hub := at_ 100000 (up 31 {} (Rst.set F.PORT_LKCTL_IDLEEN 1 31))
def w77 : Hub := (Rst.set F.PORT_LKSTAT_TXIDLE 1 31).setLink 31 { wait := [.link false 7] }
def w78 : Hub := (lst 7 31).set F.PORT_LSTAT_TXMASK 8 31
def w79 : Hub := (lst 7 31 { rec_ := [(3, some { start := 0, receiver := false })] }).set F.PORT_LSTAT_TXMASK 8 31
def w80 : Hub := at_ 40000 ((lst 7 31 { rec_ := [(3, some { start := 0, receiver := false })] }).set F.PORT_LSTAT_TXMASK 8 31)
def w81 : Hub := at_ 4096 (lst 7 31 { rec_ := [(3, some { start := 0, receiver := true, good := some 0 })] })
def w82 : Hub := at_ 4096 (lst 7 31 { rec_ := [(3, some { start := 0, receiver := false, good := some 0 })] })
def w83 : Hub := at_ 40000 (lst 7 31 { rec_ := [(3, some { start := 0, receiver := true })], recFails := [(3, 2)] })
def w84 : Hub := at_ 40000 (lst 7 31 { rec_ := [(3, some { start := 0, receiver := true })], recFails := [(3, 1)] })
def w85 : Hub := lst 7 31 { turn := some turn_ }
def w86 : Hub := (up 31 {} (tstate 3)).set F.PORT_TDLY_VALID 1 31
def w87 : Hub := lst 7 31 { turn := some { turn_ with committed := true } }
def w88 : Turn := { turn_ with committed := true }
def w90 : Hub := ridge_ 992 (lst 7 31 { turn := some turn_ })
def w91 : Hub := ridge_ 993 (lst 7 31 { turn := some turn_ })
def w92 : Hub := (lst 7 31).set F.PORT_LCTL_TURNLOCK 1 31
def w93 : Hub := (lst 7 31 {} (tstate 3)).set F.PORT_TDLY_VALID 1 31
def w94 : Hub := ridge_ 1000 (lst 7 31 { turn := some { turn_ with committed := true, newSender := false } })
def w95 : Turn := { turn_ with committed := true, newSender := false }
def w96 : Hub := ridge_ 1008 (lst 7 31 { turn := some { turn_ with committed := true, newSender := false, stage := 1 } })
def w97 : Turn := { turn_ with committed := true, newSender := false, stage := 1 }
def w98 : Hub := ridge_ 1000 (lst 7 31 { turn := some { turn_ with committed := true } })
def w99 : Hub := ridge_ 1008 (lst 7 31 { turn := some { turn_ with committed := true, stage := 1 } })
def w100 : Turn := { turn_ with committed := true, stage := 1 }
def w101 : Hub := ridge_ 1184 (lst 7 31 { turn := some { turn_ with committed := true, stage := 2 } })
def w102 : Turn := { turn_ with committed := true, stage := 2 }
def w103 : Hub := ridge_ 1200 (lst 7 31 { turn := some { turn_ with committed := true, stage := 3 } })
def w104 : Turn := { turn_ with committed := true, stage := 3 }
def w105 : Hub := lst 7 31 { turn := some { turn_ with committed := true, newSender := false, stage := 2 } }
def w106 : Turn := { turn_ with committed := true, newSender := false, stage := 2 }
def w107 : Hub := lst 7 31 { turn := some { turn_ with committed := true, stage := 4 } }
def w108 : Turn := { turn_ with committed := true, stage := 4 }
def w109 : Hub := ridge_ 1273 (lst 7 31 { turn := some { turn_ with committed := true, stage := 4 } })
def w111 : Hub := up 31
def w112 : Blk := ({ Blk.sof 0 with kind := 0, len := 9232, seq := 0 } : LinkHdr).blk
def w113 : Blk := ({ Blk.sof 0 with kind := 1, len := 32 } : LinkHdr).blk
def w114 : Hub := (lst 7 31).setLink 31 { rx := some { sof := ({ Blk.sof 0 with kind := 0, len := 16 } : LinkHdr).blk, staged := true, id := 0, start := 0 } }
def w115 : RxOpen := { sof := ({ Blk.sof 0 with kind := 0, len := 16 } : LinkHdr).blk, staged := true, id := 0, start := 0 }
def w116 : Hub := (lst 7 31).setLink 31 { rx := some { sof := ({ Blk.sof 0 with kind := 0, len := 16 } : LinkHdr).blk, staged := true, id := 0, start := 0, blocks := 1 } }
def w117 : RxOpen := { sof := ({ Blk.sof 0 with kind := 0, len := 16 } : LinkHdr).blk, staged := true, id := 0, start := 0, blocks := 1 }
def w118 : Hub := (lst 7 31).setLink 31 { rx := some { sof := ({ Blk.sof 0 with kind := 0, len := 16 } : LinkHdr).blk, staged := true, id := 0, start := 0, blocks := 2 } }
def w119 : RxOpen := { sof := ({ Blk.sof 0 with kind := 0, len := 16 } : LinkHdr).blk, staged := true, id := 0, start := 0, blocks := 2 }
def w120 : Hub := at_ 20000 ((lst 7 31).setLink 31 { rx := some { sof := ({ Blk.sof 0 with kind := 0, len := 16 } : LinkHdr).blk, staged := true, id := 0, start := 0 } })
def w121 : Hub := at_ 20000 ((lst 7 31).setLink 31 { rx := some { sof := ({ Blk.sof 0 with kind := 1, len := 32 } : LinkHdr).blk, staged := true, id := 0, start := 0 } })
def w122 : RxOpen := { sof := ({ Blk.sof 0 with kind := 1, len := 32 } : LinkHdr).blk, staged := true, id := 0, start := 0 }
def w123 : Hub := (up 31).set F.PORT_LKSTAT_NAKWAIT 1 31
def w124 : Blk := ({ Blk.sof 0 with crshr := true } : LinkHdr).blk
def w125 : Hub := at_ 100000 (up 31 { ret := [{ seq := 0, cls := 0, len := 16, body := [], ded := 0, shc := 0, full := true, bad := false }], rplAt := some 0, ansAt := some 100000 })
def w126 : Hub := at_ 100000 (up 31 { ret := [{ seq := 0, cls := 0, len := 16, body := [], ded := 0, shc := 0, full := true, bad := false }], rplAt := some 0, polls := 3 })
def w127 : Hub := at_ 100000 (up 31 { ret := [{ seq := 0, cls := 0, len := 16, body := [], ded := 0, shc := 0, full := true, bad := false }], rplAt := some 0, polls := 4 })
def w128 : Hub := at_ 200 (up 31)
def w129 : Hub := at_ 600 (up 31)
def w130 : Hub := up 31 { ackAt := some 0 }
def w131 : Hub := up 31 { ackAt := some 4 }
def w132 : Hub := at_ 64 (((lst 7 31).set F.PORT_LKSTAT_STATE 1 31).setLink 31 { lpAt := some 0 })
def w133 : Hub := ((lst 7 31).set F.PORT_LKSTAT_STATE 1 31).setLink 31 { epoch := some 0 }
def w134 : Hub := at_ 20000 ((lst 7 31).set F.PORT_LKSTAT_STATE 1 31)
def w135 : Hub := (lst 7 31).set F.PORT_LKSTAT_STATE 1 31
def w136 : Hub := at_ 4000000 (Rst.setLink 31 { downAt := some 0 })
def w137 : Hub := Rst.set F.TUN_W0_STATE 3 4095
def w138 : Hub := Rst.set F.TUN_W0_STATE 2 4095
def w139 : Hub := at_ 200000 ((Rst.set F.TUN_W0_STATE 2 4095).setTun 4095 { drainAt := some 0 })
def w140 : Hub := ridge_ 199
def w141 : Hub := inq (frm_ (hdr_ 5 0 0 8) [mopPhb, 0, 0, 0])
def w142 : Machine.Frm := frm_ (hdr_ 5 0 0 8) [mopPhb, 0, 0, 0]
def w143 : Hub := inq (frm_ (hdr_ 5 0 0 16) [mopPhb, 0, 0, 1, 0, 0, 0, 0, 0, 15, 255, 0])
def w144 : Machine.Frm := frm_ (hdr_ 5 0 0 16) [mopPhb, 0, 0, 1, 0, 0, 0, 0, 0, 15, 255, 0]
def w145 : Hub := inq (frm_ (hdr_ 5 0 0 16) [mopPhb, 0, 0, 1, 0, 0, 0, 0, 0, 15, 255, 0]) ((Rst.set F.TUN_W0_PROT 1 4095).set F.TUN_W0_STATE 1 4095)
def w146 : Hub := (Rst.set F.TUN_W0_PROT 1 4095).set F.TUN_W0_STATE 1 4095
def w147 : Hub := inq (frm_ (hdr_ 5 0 0 16) [mopPhb, 0, 0, 1, 0, 0, 0, 0, 0, 15, 255, 128]) ((Rst.set F.TUN_W0_PROT 1 4095).set F.TUN_W0_STATE 1 4095)
def w148 : Machine.Frm := frm_ (hdr_ 5 0 0 16) [mopPhb, 0, 0, 1, 0, 0, 0, 0, 0, 15, 255, 128]
def w149 : Hub := inq (frm_ (hdr_ 5 0 0 16) [mopPack, 0, 0, 1, 0, 0, 0, 0, 255, 240, 0, 0])
def w150 : Machine.Frm := frm_ (hdr_ 5 0 0 16) [mopPack, 0, 0, 1, 0, 0, 0, 0, 255, 240, 0, 0]
def w151 : Hub := inq (frm_ (hdr_ 5 0 0 16) [mopPack, 0, 0, 1, 0, 0, 0, 0, 255, 240, 0, 0]) ((Rst.set F.TUN_W0_PROT 1 4095).set F.TUN_W0_STATE 1 4095)
def w152 : Hub := has { frm_ (hdr_ 5 5 2 0) [] 31 (.protected_ 5) with ended := some true } ((Rst.set F.TUN_W0_STATE 1 5).setTun 5 { started := true })
def w153 : Machine.Frm := { frm_ (hdr_ 5 5 2 0) [] 31 (.protected_ 5) with ended := some true }
def w154 : Hub := has { frm_ { hdr_ 5 5 2 0 with eseq := 4095 } [] 31 (.protected_ 5) with ended := some true } ((Rst.set F.TUN_W0_STATE 1 5).setTun 5 { started := true })
def w155 : Machine.Frm := { frm_ { hdr_ 5 5 2 0 with eseq := 4095 } [] 31 (.protected_ 5) with ended := some true }
def w156 : Hub := has { frm_ { hdr_ 5 5 2 0 with eseq := 4095 } [] 31 (.protected_ 5) with ended := some true } ((Rst.set F.TUN_W0_STATE 1 5).setTun 5 { started := true, held := [(4095, 0)] })
def w157 : Hub := has { frm_ { hdr_ 5 5 2 0 with eseq := 4096 } [] 31 (.protected_ 5) with ended := some true } ((Rst.set F.TUN_W0_STATE 1 5).setTun 5 { started := true })
def w158 : Machine.Frm := { frm_ { hdr_ 5 5 2 0 with eseq := 4096 } [] 31 (.protected_ 5) with ended := some true }
def w159 : Hub := has { frm_ { hdr_ 5 5 2 0 with eseq := 16769024 } [] 31 (.protected_ 5) with ended := some true } ((Rst.set F.TUN_W0_STATE 1 5).setTun 5 { started := true })
def w160 : Machine.Frm := { frm_ { hdr_ 5 5 2 0 with eseq := 16769024 } [] 31 (.protected_ 5) with ended := some true }
def w161 : Hub := at_ 100000 (Rst.setTun 5 { gapAt := some 0, held := [(7, 1)] })
def w162 : Hub := (has (frm_ { hdr_ 5 0 0 16 with hcrc := 0 })).set F.CORE_CFG_RAEN 0
def w163 : Machine.Frm := frm_ { hdr_ 5 0 0 16 with hcrc := 0 }
def w164 : Hub := (has (frm_ (hdr_ 5 0 6 16))).set F.CORE_CFG_RAEN 0
def w165 : Machine.Frm := frm_ (hdr_ 5 0 6 16)
def w166 : Hub := dhub5 ((has (frm_ (hdr_ 5 1 0 16))).set F.CORE_CFG_RAEN 0)
def w167 : Machine.Frm := frm_ (hdr_ 5 1 0 16)
def w168 : Hub := dhub5 ((has (frm_ (hdr_ 5 0 0 16))).set F.CORE_CFG_RAEN 0)
def w169 : Machine.Frm := frm_ (hdr_ 5 0 0 16)
def w170 : Hub := (has (frm_ (hdr_ 5 0 0 16 0))).set F.CORE_CFG_RAEN 0
def w171 : Machine.Frm := frm_ (hdr_ 5 0 0 16 0)
def w172 : Hub := (has (frm_ (hdr_ 5 0 0 16))).set F.CORE_CFG_RAEN 0
def w173 : Hub := route5 30 32 (up 30 {} ((has (frm_ (hdr_ 5 0 0 16))).set F.CORE_CFG_RAEN 0))
def w174 : Hub := route5 29 30 (up 30 {} ((has (frm_ (hdr_ 5 0 0 16))).set F.CORE_CFG_RAEN 0))
def w175 : Hub := (has (frm_ (hdr_ 5 0 0 16))).set F.CORE_CLSCFG_MODE 1 0
def w176 : Hub := (has (frm_ (hdr_ 5 0 0 16))).set F.CORE_CLSCFG_MODE 0 0
def w177 : Hub := ((has (frm_ (hdr_ 5 0 0 16))).set F.CORE_CLSCFG_MODE 1 0).set F.CORE_SHFREE_FREE 0
def w178 : Hub := ((has (frm_ (hdr_ 5 0 0 16))).set F.CORE_CLSCFG_MODE 0 0).set F.CORE_SHFREE_FREE 0
def w179 : Hub := ((Rst.set F.CORE_QCFG_MIN 163841 271).set F.CORE_RETQ_QUOTA 0)
def w180 : Hub := queued { frm_ (hdr_ 5 1 1 16) with phase := .accepted, cells := [⟨0, 1, false⟩], ended := some true, copies := [255] } 255 ((up 31).set F.PORT_CRDSH_CRSH 4 31)
def w181 : Machine.Frm := { frm_ (hdr_ 5 1 1 16) with phase := .accepted, cells := [⟨0, 1, false⟩], ended := some true, copies := [255] }
def w182 : Hub := (has { frm_ (hdr_ 5 1 1 16) with phase := .accepted, copies := [255] }).set F.CORE_CLSCFG_LIFE 1 0
def w183 : Machine.Frm := { frm_ (hdr_ 5 1 1 16) with phase := .accepted, copies := [255] }
def w184 : Hub := Rst.set F.CORE_CFG_SWEEPEN 0
def w185 : Hub := at_ 5 (queued { frm_ (hdr_ 5 1 1 16) with phase := .accepted, copies := [255], expired := some 4 } 255)
def w186 : Machine.Frm := { frm_ (hdr_ 5 1 1 16) with phase := .accepted, copies := [255], expired := some 4 }
def w187 : Hub := queued { frm_ (hdr_ 5 1 1 16) with phase := .accepted, copies := [255] } 255
def w188 : Hub := Rst.set F.CORE_CFG_SWEEPEN 1
def w189 : Hub := (Rst.set F.TRF_GCTL_EN 1 33).setGate 33 { active := some 0 }
def w190 : Hub := ((((Rst.set F.TRF_GCTL_EN 1 33).set F.TRF_GLEN_LEN1 1 33).set F.TRF_GCYC1_CYCLE 1000 33).set F.GATE_INTERVAL 1000 (33 * 512 + 256)).set F.TRF_GBASE_LO_BASE_LO 2 33
def w191 : Hub := (((Rst.set F.TRF_GCTL_EN 1 33).set F.TRF_GLEN_LEN1 1 33).set F.TRF_GCYC1_CYCLE 1000 33).set F.GATE_INTERVAL 1000 (33 * 512 + 256)
def w192 : Hub := Rst.setGate 33 { pending := some 0 }
def w193 : Hub := { Rst.set F.TRF_SHPCFG_EN 1 31 with time := { jumpAt := some 0 } }
def w194 : Hub := lst 7 31 { turn := some turn_ } (Rst.set F.TRF_SHPCFG_EN 1 31)
def w195 : Hub := (Rst.set F.TRF_SHPCFG_EN 1 31).set F.TRF_SHPSTAT_DWLEFT 2 31
def w196 : Hub := (Rst.set F.TRF_SHPCFG_EN 1 31).set F.TRF_SHPCFG_HI 200 31
def w197 : Hub := ((((Rst.set F.TRF_SHPCFG_EN 1 31).set F.TRF_SHPCFG_HI 0 31).set F.PORT_LMODE_CUR 1 31).set F.TRF_SHPCFG_HOLDN 2 31)
def w198 : Hub := ridge_ 255
def w199 : Hub := { Rst with trf := { Rst.trf with shapers := [(7, { en := true, rate := 5, burst := 9 })] } }
def w200 : Hub := Rst.setShaper 5 { en := true }
def w201 : Hub := inq (frm_ (hdr_ 65535 0 0 32) [mopHello, 1]) (up 31)
def w202 : Machine.Frm := frm_ (hdr_ 65535 0 0 32) [mopHello, 1]
def w203 : Hub := inq (frm_ (hdr_ 65535 0 0 32) [mopHello, 1, 0, 0, 4]) (summit (up 31))
def w204 : Hub := summit (up 31)
def w205 : Machine.Frm := frm_ (hdr_ 65535 0 0 32) [mopHello, 1, 0, 0, 4]
def w206 : Hub := inq (frm_ (hdr_ 65535 0 0 32) [mopDlg, 1]) (up 31)
def w207 : Machine.Frm := frm_ (hdr_ 65535 0 0 32) [mopDlg, 1]
def w208 : Hub := inq (frm_ (hdr_ 65535 0 0 32) [mopDlg, 1, 0, 8]) (roleOf 2 31 (up 31 {} (Rst.set F.FAB_CTL_SITEID 7)))
def w209 : Hub := roleOf 2 31 (up 31 {} (Rst.set F.FAB_CTL_SITEID 7))
def w210 : Machine.Frm := frm_ (hdr_ 65535 0 0 32) [mopDlg, 1, 0, 8]
def w211 : Hub := inq (frm_ (hdr_ 65535 0 0 32) [mopDlg, 1, 0, 7, 0, 5]) (roleOf 2 31 (up 31 {} (dhub5 (Rst.set F.FAB_CTL_SITEID 7))))
def w212 : Hub := roleOf 2 31 (up 31 {} (dhub5 (Rst.set F.FAB_CTL_SITEID 7)))
def w213 : Machine.Frm := frm_ (hdr_ 65535 0 0 32) [mopDlg, 1, 0, 7, 0, 5]
def w214 : Hub := inq (frm_ (hdr_ 65535 0 0 32) [mopDlg, 1, 0, 7, 0, 6]) (roleOf 2 31 (up 31 {} (dhub5 (Rst.set F.FAB_CTL_SITEID 7))))
def w215 : Machine.Frm := frm_ (hdr_ 65535 0 0 32) [mopDlg, 1, 0, 7, 0, 6]
def w216 : Hub := inq (frm_ (hdr_ 65535 0 0 32) [mopDlg, 1, 0, 7, 0, 6]) (roleOf 2 31 (up 31 {} (Rst.set F.FAB_CTL_SITEID 7)))
def w217 : Hub := inq (frm_ (hdr_ 65535 0 0 32) [mopDlg, 1, 0, 7, 0, 6]) (roleOf 2 31 (up 31))
def w218 : Hub := roleOf 2 31 (up 31)
def w219 : Hub := inq (frm_ (hdr_ 65535 0 0 32) [mopDlgack, 1]) (up 31)
def w220 : Machine.Frm := frm_ (hdr_ 65535 0 0 32) [mopDlgack, 1]
def w221 : Hub := inq (frm_ (hdr_ 65535 0 0 32) [mopDlgack, 1, 0, 0, 0, 0, 16, 0, 48]) ((roleOf 1 31 (up 31)).setFabp 31 { offer := some (4096, 6, 1), await := true, sends := 1 })
def w222 : Hub := (roleOf 1 31 (up 31)).setFabp 31 { offer := some (4096, 6, 1), await := true, sends := 1 }
def w223 : Machine.Frm := frm_ (hdr_ 65535 0 0 32) [mopDlgack, 1, 0, 0, 0, 0, 16, 0, 48]
def w224 : Hub := inq (frm_ (hdr_ 65535 0 0 32) [mopDlgack, 1, 0, 0, 64, 0, 16, 0, 48]) ((roleOf 1 31 (up 31)).setFabp 31 { offer := some (4096, 6, 1), await := true, sends := 1 })
def w225 : Machine.Frm := frm_ (hdr_ 65535 0 0 32) [mopDlgack, 1, 0, 0, 64, 0, 16, 0, 48]
def w226 : Hub := inq (frm_ (hdr_ 65535 0 0 32) [mopReady, 1]) (up 31)
def w227 : Machine.Frm := frm_ (hdr_ 65535 0 0 32) [mopReady, 1]
def w228 : Hub := inq (frm_ (hdr_ 65535 0 0 32) [mopReady, 1]) (roleOf 1 31 (up 31))
def w229 : Hub := roleOf 1 31 (up 31)
def w230 : Hub := inq (frm_ (hdr_ 65535 0 0 32) [mopSiteready, 1]) (up 31)
def w231 : Machine.Frm := frm_ (hdr_ 65535 0 0 32) [mopSiteready, 1]
def w232 : Hub := inq (frm_ (hdr_ 65535 0 0 32) [mopSiteready, 1]) (roleOf 2 31 (up 31))
def w233 : Hub := at_ 20000 ((up 31).setFabp 31 { offer := some (4096, 6, 1), await := true, sends := 3 })
def w234 : Hub := at_ 20000 ((up 31).setFabp 31 { offer := some (4096, 6, 1), await := true, sends := 4 })
def w235 : Hub := { Rst with fab := { Rst.fab with startAt := some 0 } }
def w236 : Hub := at_ 600000000 (((roleOf 1 31).set F.FAB_PORTSTAT_STATE 2 31).setFabp 31 { group := some 0 })
def w237 : Hub := at_ 600000000 (((roleOf 1 31).set F.FAB_PORTSTAT_STATE 2 31).setFabp 31 { group := some 0, helloAt := some (2000000 * Rst.get F.FAB_CTL_PORTTMO) })
def w238 : Hub := inq (frm_ (hdr_ 5 0 0 16) [1])
def w239 : Machine.Frm := frm_ (hdr_ 5 0 0 16) [1]
def w240 : Hub := (Rst.reqPath (frm_ (hdr_ 5 0 0 16) [1])).1
def w241 : Hub := inq (frm_ (hdr_ 5 0 0 16) [1] 33)
def w242 : Machine.Frm := frm_ (hdr_ 5 0 0 16) [1] 33
def w243 : Hub := inq (frm_ (hdr_ 5 0 0 16) [1, 0, 0, 0, 0, 0, 0, 0, 0, 0, 0, 1, 0, 0, 0, 64] 31) (slot15 ((((Rst.set F.FAB_RMGR_EN 1 15).set F.FAB_RMGR_HUBID 9 15)).set F.FAB_MGMTCFG_REQAUTH 0))
def w244 : Machine.Frm := frm_ (hdr_ 5 0 0 16) [1, 0, 0, 0, 0, 0, 0, 0, 0, 0, 0, 1, 0, 0, 0, 64] 31
def w245 : Hub := slot15 ((((Rst.set F.FAB_RMGR_EN 1 15).set F.FAB_RMGR_HUBID 9 15)).set F.FAB_MGMTCFG_REQAUTH 0)
def w246 : Hub := inq (frm_ (hdr_ 5 0 0 16) [1, 0, 0, 0, 0, 0, 0, 0, 0, 0, 0, 1] 33)
def w247 : Machine.Frm := frm_ (hdr_ 5 0 0 16) [1, 0, 0, 0, 0, 0, 0, 0, 0, 0, 0, 1] 33
def w248 : Hub := inq (frm_ (hdr_ 5 0 0 16) [2])
def w249 : Machine.Frm := frm_ (hdr_ 5 0 0 16) [2]
def w250 : Hub := (Rst.reqPath (frm_ (hdr_ 5 0 0 16) [2])).1
def w251 : Hub := inq (frm_ (hdr_ 5 0 0 20) [2, 0, 0, 7, 0, 0, 0, 0, 0, 0, 0, 1] 31) { ((Rst.set F.FAB_RMGR_EN 1 15).set F.FAB_RMGR_HUBID 9 15).set F.FAB_MGMTCFG_REQAUTH 0 with fab := { Rst.fab with writes := [(15, [(7, 0)])] } }
def w252 : Machine.Frm := frm_ (hdr_ 5 0 0 20) [2, 0, 0, 7, 0, 0, 0, 0, 0, 0, 0, 1] 31
def w253 : Hub := { ((Rst.set F.FAB_RMGR_EN 1 15).set F.FAB_RMGR_HUBID 9 15).set F.FAB_MGMTCFG_REQAUTH 0 with fab := { Rst.fab with writes := [(15, [(7, 0)])] } }
def w254 : Hub := inq (frm_ (hdr_ 5 0 0 20) [2, 0, 0, 0, 0, 0, 0, 0, 0, 0, 0, 1, 0, 0, 0, 64] 31) (slot15 ((((Rst.set F.FAB_RMGR_EN 1 15).set F.FAB_RMGR_HUBID 9 15)).set F.FAB_MGMTCFG_REQAUTH 0))
def w255 : Machine.Frm := frm_ (hdr_ 5 0 0 20) [2, 0, 0, 0, 0, 0, 0, 0, 0, 0, 0, 1, 0, 0, 0, 64] 31
def w256 : Hub := inq (frm_ (hdr_ 5 0 0 20) [2, 0, 0, 0, 0, 0, 0, 0, 0, 0, 0, 1] 33)
def w257 : Machine.Frm := frm_ (hdr_ 5 0 0 20) [2, 0, 0, 0, 0, 0, 0, 0, 0, 0, 0, 1] 33
def w258 : Hub := ((Rst.mgrHold .mgmt).writeAll ⟨[], 0⟩ .mgmt 0 [0#32]).1
def w259 : Hub := inq (frm_ (hdr_ 5 0 0 16) [5])
def w260 : Machine.Frm := frm_ (hdr_ 5 0 0 16) [5]
def w261 : Hub := (Rst.reqPath (frm_ (hdr_ 5 0 0 16) [5])).1
def w262 : Hub := inq (frm_ (hdr_ 5 0 0 16) [5] 33)
def w263 : Machine.Frm := frm_ (hdr_ 5 0 0 16) [5] 33
def w264 : Hub := at_ 20000 { Rst with boot := { Rst.boot with rom := .running, mreqs := [(7, (1, 0))] } }
def w265 : Hub := at_ 20000 { Rst with boot := { Rst.boot with rom := .running, mreqs := [(7, (2, 0))] } }
def w266 : Hub := (Rst.set F.FAB_RMGR_EN 1 15).set F.FAB_RMGR_HUBID 9 15
def w267 : Hub := ((Rst.set F.FAB_RMGR_EN 1 15).set F.FAB_RMGR_HUBID 9 15).set F.FAB_MGMTCFG_REQAUTH 0
def w268 : Hub := ((Rst.set F.FAB_RMGR_EN 1 15).set F.FAB_RMGR_HUBID 9 15).set F.FAB_MGMTCFG_KEYEN 0
def w269 : Machine.Frm := frm_ { hdr_ 5 0 0 24 with a := true } [5]
def w272 : Hub := { Rst.set F.MGMT_STAT_RUNNING 1 with boot := { Rst.boot with rom := .running } }
def w273 : Hub := { (Rst.set F.FAB_SITE_JOINED 1).set F.FAB_ID_VALID 1 with boot := { Rst.boot with join := [(0, none)] } }
def w274 : Hub := { Rst with boot := { Rst.boot with run_ := some { words := [], waitAt := some 0 } } }
def w275 : Hub := { Rst with boot := { Rst.boot with run_ := some { words := [], poll := some (0, 0, 0, 9) } } }
def w276 : Hub := { Rst with boot := { Rst.boot with run_ := some { words := [], poll := some (0, 0, 1, 0) } } }
def w277 : Hub := { Rst with boot := { Rst.boot with run_ := some { words := [], poll := some (0, 0, 1, 9) } } }
def w278 : Hub := ring_ 0 1 0 {} (Rst.set F.RCTX0_SLICE 3 0)
def w279 : Hub := ring_ 0 1 0 {} (Rst.set F.RCTX0_LOG2N 4 0)
def w280 : Hub := (ring_ 4095 1 0).set F.RCTX6_PIDX 3 4095 |> (·.set F.RCTX0_LOG2N 4 4095)
def w281 : Hub := rd_ (.desc 4095 0) 32 (ring_ 4095 1 0 { reads := [{ slot := 0, n := 1 }] })
def w282 : HostRd := { fetch := 0, who := .desc 4095 0, pasid := 0, addr := 0, len := 32 }
def w283 : Hub := rd_ (.desc 4095 0) 32 (ring_ 4095 1 0 { reads := [{ slot := 0, n := 1 }] }) true
def w284 : HostRd := { fetch := 0, who := .desc 4095 0, pasid := 0, addr := 0, len := 32, dead := true }
def w285 : Hub := ring_ 4095 1 0 { descs := [{ slot := 0, w := [0, 64], stage := .checked }] }
def w286 : Hub := rd_ (.data 4095 0) 1 (ring_ 4095 1 0 { descs := [{ slot := 0, w := [0, 1], stage := .fetching, asked := 1 }] })
def w287 : HostRd := { fetch := 0, who := .data 4095 0, pasid := 0, addr := 0, len := 1 }
def w288 : Hub := rd_ (.data 4095 0) 1 (ring_ 4095 1 0 { descs := [{ slot := 0, w := [0, 1], stage := .fetching, asked := 1 }] }) true
def w289 : HostRd := { fetch := 0, who := .data 4095 0, pasid := 0, addr := 0, len := 1, dead := true }
def w290 : Hub := rd_ (.desc 4095 0) 32 (ring_ 4095 1 0 { reads := [{ slot := 0, n := 1, fails := 1 }] })
def w291 : Hub := rd_ (.desc 4095 0) 32 (ring_ 4095 1 0 { reads := [{ slot := 0, n := 1, fails := 2 }] })
def w292 : Hub := rd_ (.data 4095 0) 1 (ring_ 4095 1 0 { descs := [{ slot := 0, w := [0, 1], stage := .fetching, asked := 1, fails := 1 }] })
def w293 : Hub := ring_ 4095 1 0 { reads := [{ slot := 0, n := 1, retryAt := some 0 }] }
def w294 : Hub := ring_ 4095 3 0 { reads := [{ slot := 0, n := 1, retryAt := some 0 }] }
def w295 : Hub := at_ 200 ((ring_ 4095 1 0 { pend := 1, first := some 0 }).set F.RCTX5_IEN 1 4095 |> (·.set F.RCTX5_ARMED 1 4095) |> (·.set F.RCTX5_MTMO 1 4095))
def w296 : Hub := at_ 1000000 ((ring_ 4095 1 0).set F.RCTX0_REMOTE 1 4095 |> (·.set F.RCTX8_PADDR_LO 4096 4095))
def w297 : Hub := ring_ 4095 1 3 { descs := [{ slot := 0, w := [0, 1], stage := .offered, moved := 1 }] }
def w298 : Hub := Rst.set F.SLC_BIND_VALID 1 0
def w299 : Hub := ring_ 0 1 0
def w300 : Hub := ring_ 0 3 0
def w301 : Hub := at_ 20000 (ring_ 4095 2 0 { resetAt := some 0 })
def w302 : Hub := ring_ 4095 2 0 { resetAt := some 0 }
def w303 : Hub := Rst.set F.HIF_PSTAT_LINKUP 1
def w304 : Hub := ring_ 4095 1 0 { descs := [{ slot := 0 }] }
def w305 : Hub := ring_ 4095 3 0 { descs := [{ slot := 0, stage := .done }] }
def w306 : Hub := ring_ 4095 1 0 { descs := [{ slot := 0, stage := .done }] }
def w307 : Hub := slot15
def w308 : Hub := (Rst.set F.SLC_BIND_VALID 1 127)
def w309 : Hub := at_ 20000 (Rst.setSrst 127 (some { start := 0, squash := false }))
def w310 : Hub := Rst.setSrst 127 (some { start := 0, squash := true })
def w311 : Hub := win_ 15 1 { sent := [{ num := 0, wr := false, addr := 0, len := 4 }] }
def w312 : Hub := { win_ 15 0 with hif := { (win_ 15 0).hif with bar4sz := 30 } }
def w313 : Hub := ((win_ 15 1 {} (ring_ 4095 1 0)).set F.RCTX0_REMOTE 1 4095).set F.RCTX0_WIN 15 4095
def w314 : Hub := win_ 15 1
def w315 : Hub := win_ 15 4
def w316 : Hub := (win_ 15 1 {} (Rst.set F.BLK_WCTL_EN 1 15)).set F.BLK_WCTL_LOG2SZ 12 15
def w317 : Hub := { Rst with hif := { Rst.hif with late := (List.range 256).map (fun t => (t, 9)) } }
def w318 : Hub := win_ 15 4 { sent := [{ num := 0, wr := true, addr := 0, len := 4, sentAt := some 0 }] }
def w319 : Hub := inq (frm_ (hdr_ 5 5 3 16) [0x30])
def w320 : Machine.Frm := frm_ (hdr_ 5 5 3 16) [0x30]
def w321 : Hub := inq (frm_ (hdr_ 5 5 3 20) [0x20, 7, 0, 0, 0, 32, 0, 0, 0, 0, 0, 0, 0, 0, 0, 0, 1, 2, 3, 4]) (win_ 15 1 { sent := [{ num := 0, wr := false, addr := 0, len := 4, tag := some 7, sentAt := some 0, use := .bar4 0 0 }] })
def w322 : Machine.Frm := frm_ (hdr_ 5 5 3 20) [0x20, 7, 0, 0, 0, 32, 0, 0, 0, 0, 0, 0, 0, 0, 0, 0, 1, 2, 3, 4]
def w323 : Hub := win_ 15 1 { sent := [{ num := 0, wr := false, addr := 0, len := 4, tag := some 7, sentAt := some 0, use := .bar4 0 0 }] }
def w324 : Hub := at_ 100000000 (win_ 15 1 { sent := [{ num := 0, wr := false, addr := 0, len := 4, tag := some 7, sentAt := some 0 }], timeouts := 1 })
def w325 : Hub := inq (frm_ (hdr_ 5 5 3 16) [0x40, 7]) (win_ 15 1 { sent := [{ num := 0, wr := false, addr := 0, len := 4, tag := some 7, sentAt := some 0 }] })
def w326 : Machine.Frm := frm_ (hdr_ 5 5 3 16) [0x40, 7]
def w327 : Hub := win_ 15 1 { sent := [{ num := 0, wr := false, addr := 0, len := 4, tag := some 7, sentAt := some 0 }] }
def w328 : Hub := win_ 15 2 { sent := [{ num := 0, wr := false, addr := 0, len := 4, tag := some 7, sentAt := some 0 }], epi := some 0, backAt := some 0 }
def w329 : Hub := win_ 15 1 { quietAt := some 0 }
def w330 : Hub := at_ 4294967296 ((win_ 15 1).set F.BLK_POLLCFG_PEN 1 15)
def w331 : Hub := inq (frm_ (hdr_ 5 5 3 20) [0, 7, 0, 0, 0, 32]) (win_ 15 1)
def w332 : Machine.Frm := frm_ (hdr_ 5 5 3 20) [0, 7, 0, 0, 0, 32]
def w333 : InReq := (let f := frm_ (hdr_ 5 5 3 20) [0, 7, 0, 0, 0, 32]; { wr := f.isBop bopWR, addr := f.at_ 8 8, len := f.at_ 4 2 / 8, data := if f.isBop bopWR = true then sub f.data 16 (f.hdr.plen - 16) else [], tag := f.at_ 1 1, win := f.at_ 2 1 / 16, cls := f.hdr.cls, tun := f.hdr.dtun })
def w334 : Hub := inq (frm_ (hdr_ 5 5 3 16) [16, 7, 0, 0, 0, 32]) (win_ 15 1)
def w335 : Machine.Frm := frm_ (hdr_ 5 5 3 16) [16, 7, 0, 0, 0, 32]
def w336 : InReq := (let f := frm_ (hdr_ 5 5 3 16) [16, 7, 0, 0, 0, 32]; { wr := f.isBop bopWR, addr := f.at_ 8 8, len := f.at_ 4 2 / 8, data := if f.isBop bopWR = true then sub f.data 16 (f.hdr.plen - 16) else [], tag := f.at_ 1 1, win := f.at_ 2 1 / 16, cls := f.hdr.cls, tun := f.hdr.dtun })
def w337 : Hub := inq (frm_ (hdr_ 5 5 3 16) [16, 7, 0, 0, 0, 32]) ((win_ 15 1 {} (Rst.set F.BLK_WCTL_INEN 1 15)).set F.SLC_STAT_STATE 2 0)
def w338 : Hub := (win_ 15 1 {} (Rst.set F.BLK_WCTL_INEN 1 15)).set F.SLC_STAT_STATE 2 0
def w339 : Hub := inq (frm_ (hdr_ 5 5 3 16) [16, 7, 0, 0, 0, 32]) (win_ 15 1 {} (Rst.set F.BLK_WCTL_INEN 1 15))
def w340 : Hub := win_ 15 1 {} (Rst.set F.BLK_WCTL_INEN 1 15)
def w341 : Hub := inq (frm_ (hdr_ 5 5 3 20) [0, 7, 0, 0, 0, 32]) (win_ 15 1 { inq := [{ wr := true, addr := 0, len := 32768, tag := 0, win := 0, cls := 0, tun := 5 }] } (Rst.set F.BLK_WCTL_INEN 1 15))
def w342 : Hub := win_ 15 1 { inq := [{ wr := true, addr := 0, len := 32768, tag := 0, win := 0, cls := 0, tun := 5 }] } (Rst.set F.BLK_WCTL_INEN 1 15)
def w343 : Hub := win_ 15 1 { inq := [{ wr := true, addr := 0, len := 1, data := [5#8], tag := 0, win := 0, cls := 0, tun := 5 }] } (Rst.set F.SLC_BIND_VALID 1 0)
def w344 : Hub := win_ 15 1 { inq := [{ wr := false, addr := 0, len := 1, tag := 0, win := 0, cls := 0, tun := 5 }] } (Rst.set F.SLC_BIND_VALID 1 0)
def w345 : Hub := rd_ (.inb 15) 1 (win_ 15 1 { inq := [{ wr := false, addr := 0, len := 1, tag := 0, win := 0, cls := 0, tun := 5, issued := true }] } (Rst.set F.SLC_BIND_VALID 1 0))
def w346 : HostRd := { fetch := 0, who := .inb 15, pasid := 0, addr := 0, len := 1 }
def w347 : Hub := (timing_ 6).setOwner 70 23
def w348 : Hub := (pipe_ 7 1 { layers := [(0, { on := true, w := 640, h := 480 })] }).set F.SLC_BIND_VALID 1 0 |> (·.set F.RAS_LCFG_SHARE 128 7 0)
def w349 : Hub := rd_ (.line 7 3) 1 (pipe_ 7 1 { layers := [(3, { coming := [(0, [])], w := 2 })] }) true
def w350 : HostRd := { fetch := 0, who := .line 7 3, pasid := 0, addr := 0, len := 1, dead := true }
def w351 : Hub := rd_ (.line 7 3) (Hub.lineBytes (pipe_ 7 1) 7 3 { coming := [(0, [])], w := 2 }) (pipe_ 7 1 { layers := [(3, { coming := [(0, [])], w := 2 })] })
def w352 : HostRd := { fetch := 0, who := .line 7 3, pasid := 0, addr := 0, len := Hub.lineBytes (pipe_ 7 1) 7 3 { coming := [(0, [])], w := 2 } }
def w353 : Hub := rd_ (.line 7 3) 1 (pipe_ 7 1 { layers := [(3, { coming := [(0, [])], w := 2 })] })
def w354 : HostRd := { fetch := 0, who := .line 7 3, pasid := 0, addr := 0, len := 1 }
def w355 : Hub := pipe_ 7 2 { fper := 216268800000 }
def w356 : Hub := pipe_ 7 1
def w357 : Hub := pipe_ 7 1 { latched := true }
def w358 : Hub := pipe_ 7 1 { latched := true, f0 := 5 }
def w359 : Hub := pipe_ 7 1 { latched := true, lock := 2 }
def w360 : Hub := Rst.setOwner 0 8
def w361 : Hub := at_ 5 (pipe_ 7 2 { latched := true, lock := 1, fper := 65536 })
def w362 : Hub := ((pipe_ 7 2).set F.RAS_CTL_TESRC 1 7).setOwner 16 23
def w363 : Hub := (pipe_ 7 2 { latched := true, first := false }).set F.RAS_CTL_TEGATE 1 7
def w364 : Hub := at_ 10000000 ((pipe_ 7 2 { latched := true, first := false }).set F.RAS_CTL_TEGATE 1 7)
def w365 : Hub := pipe_ 7 2 { pulseEnd := some 0 }
def w366 : Hub := inq (frm_ (hdr_ 5 5 2 17) [16])
def w367 : Machine.Frm := frm_ (hdr_ 5 5 2 17) [16]
def w368 : Hub := inq (frm_ (hdr_ 5 5 2 16) [16])
def w369 : Machine.Frm := frm_ (hdr_ 5 5 2 16) [16]
def w370 : Hub := Rst.set F.HIF_PCTL_LTREN 0
def w371 : Hub := (pipe_ 7 2 { layers := [(3, { on := true })] } (Rst.set F.RAS_TOL_TOL 100 7)).set F.RAS_CTL_EN 1 7
def w372 : Hub := Rst.set F.PERI_PCTL_PEN 1 31
def w373 : Hub := port_ 31 4
def w374 : Hub := port_ 31 5
def w375 : Hub := boot_ { loaded := true } (port_ 31 1)
def w376 : Hub := at_ 20000000 (port_ 31 3 { since := some 0 })
def w377 : Hub := port_ 31 6
def w378 : Hub := at_ 20000000 (port_ 31 6 { since := some 0 })
def w379 : Hub := usb_ xfer_
def w380 : Hub := usb_ { xfer_ with fails := 1 }
def w381 : Hub := usb_ { xfer_ with fails := 2 }
def w382 : Hub := ridge_ 24999
def w383 : Hub := { Rst.set F.PERI_CFG_EN 1 with time := { everLocked := true, tick := 12499, ridge := 25000#64 }, peri := { sofAt := some 0 } }
def w384 : Hub := { Rst with peri := { Rst.peri with edgeAt := some 0 } }
def w385 : Hub := { Rst.set F.PERI_CFG_EN 1 with time := { everLocked := true, ridge := 25000#64 } }
def w386 : Hub := (Rst.set F.ECTX0_STATE 2 0).set F.ECTX0_EN 1 0
def w387 : Hub := (Rst.set F.ECTX0_STATE 1 0).set F.ECTX0_EN 1 0
def w388 : Hub := inq (frm_ (hdr_ 5 5 4 16) [64])
def w389 : Machine.Frm := frm_ (hdr_ 5 5 4 16) [64]
def w390 : Hub := inq (frm_ (hdr_ 5 5 4 16) [0]) (Rst.setSess 5 { lost := true })
def w391 : Machine.Frm := frm_ (hdr_ 5 5 4 16) [0]
def w392 : Hub := Rst.setSess 5 { lost := true }
def w393 : TMsg := { kind := 0 }
def w394 : Hub := inq (frm_ (hdr_ 5 5 4 16) [32])
def w395 : Machine.Frm := frm_ (hdr_ 5 5 4 16) [32]
def w396 : TMsg := { kind := 2 }
def w397 : Hub := inq (frm_ (hdr_ 5 5 4 16) [0])
def w398 : Hub := at_ 1000000 (Rst.setSess 5 { ackAt := some 0 })
def w399 : Hub := at_ 100000000 (Rst.setSess 5 { rtoAt := some 0, unack := [⟨0, none, { kind := 1 }⟩] })
def w400 : Hub := at_ 100000000 (Rst.setSess 5 { rtoAt := some 0, unack := [⟨0, none, { kind := 1 }⟩], expiries := 255 })
def w401 : Hub := ((usb_ xfer_).setXfers (List.replicate 8 { xfer_ with full := true })).set F.TUN_W2_FUNC 2 5
def w402 : TMsg := { kind := pkXreq, port := 31, dev := 1, ep := 1, dir := true, xtype := 2, xid := 9 }
def w403 : Hub := at_ 2000000000 (Rst.setPp 31 { delayAt := some 0 })
def w404 : Hub := (Rst.set F.PORT_PPSTAT_STATE 3 31).set F.PORT_PPMEAS_V 11400 31
def w405 : Hub := at_ 1000000000 ((Rst.set F.PORT_PPSTAT_STATE 3 31).setPp 31 { rampAt := some 0 })
def w406 : Hub := boot_ { loaded := true }
def w407 : Hub := Rst.setPp 31 { coolAt := some 0 }
def w408 : Hub := Rst.set F.PWR_BUSSTAT_UV 0
def w409 : Hub := at_ 2000000
def w410 : Hub := boot_ { loaded := true } (Rst.setPp 31 { gate := true })
def w411 : Hub := at_ 400000 (Rst.setPp 31 { calAt := some 0 })
def w412 : Hub := at_ 400001 (Rst.setPp 31 { calAt := some 0 })
def w413 : Hub := ridge_ 199999
def w414 : Hub := pwr_ { jumps := 1 }
def w415 : Hub := (Rst.set F.PWR_BUDGET_WATTS 7680).set F.PWR_SHARE_WATTS 7680 0
def w416 : Hub := Rst.set F.PWR_ALLOT_WATTS 240 31
def w417 : Hub := Rst.setCc 31 { allot := some false }
def w418 : Hub := snk_ 31 { ptvSeen := true }
def w419 : Hub := src_ 31
def w420 : Hub := (src_ 31 { rxAny := true }).set F.PORT_CCSTAT_RXID 7 31
def w421 : Hub := boot_ { loaded := true } (Rst.set F.PORT_CCCTL_ROLE 1 31)
def w422 : Hub := boot_ { loaded := true } (Rst.set F.PORT_CCCTL_ROLE 3 31)
def w423 : Hub := boot_ { loaded := true } (Rst.set F.PORT_CCCTL_ROLE 0 31)
def w424 : Hub := at_ 8000 (src_ 31 { tx := some { msg := ⟨1, [0]⟩, id := 0 } })
def w425 : Hub := at_ 40000 (src_ 31 { tx := some { msg := ⟨1, [0]⟩, id := 7, sends := 1, endAt := some 0 } })
def w426 : Hub := at_ 40000 (src_ 31 { tx := some { msg := ⟨1, [0]⟩, id := 7, sends := 2, endAt := some 0 } })
def w427 : Hub := at_ 40000 (src_ 31 { tx := some { msg := ⟨9, []⟩, id := 7, sends := 3, endAt := some 0 } })
def w428 : Hub := at_ 40000 (src_ 31 { tx := some { msg := ⟨1, [0]⟩, id := 7, sends := 3, endAt := some 0 } })
def w429 : Hub := at_ 40000 (src_ 31 { tx := some { msg := ⟨3, []⟩, id := 7, sends := 3, endAt := some 0 } })
def w430 : Hub := (src_ 31 { offAt := some 0 }).set F.PORT_CCCTL_PTV 1 31
def w431 : Hub := (src_ 31 { offAt := some 0 }).set F.PORT_CCCTL_PTV 0 31
def w432 : Hub := (src_ 31 { reqAt := some 0 }).set F.PORT_CCSTAT_STATE 2 31
def w433 : Hub := (src_ 31 { respAt := some 0 }).set F.PORT_CCSTAT_STATE 2 31
def w434 : Hub := (src_ 31 { readyAt := some 0 }).set F.PORT_CCSTAT_STATE 3 31
def w435 : Hub := src_ 31 { hrAt := some 0 }
def w436 : Hub := let g := snk_ 31 { hrAt := some 0 }; g.setPp 31 { g.pp 31 with gate := true }
def w437 : Hub := snk_ 31 { hrAt := some 0 }
def w438 : Hub := at_ 1000000 (src_ 31 { swap := some { gain := true, at_ := some 0 } })
def w439 : Hub := at_ 20000 (src_ 31 { swap := some { gain := true, at_ := some 0 }, csLowAt := some 18000 })
def w440 : Hub := ((src_ 31 { swap := some { gain := true, at_ := some 0 } }).set F.PORT_CCSTAT_CSON 1 31).set F.PORT_CCSTAT_CSOK 1 31
def w441 : Hub := at_ 200000 (src_ 31 { swap := some { gain := true, at_ := some 0 } })
def w442 : Hub := (src_ 31).set F.PORT_CCCTL_CSAPPLY 1 31
def w443 : Hub := at_ 200000 ((src_ 31 { csDipAt := some 0 }).set F.PORT_CCSTAT_CSON 1 31)
def w444 : Hub := let g := snk_ 31; at_ 200000 (boot_ { loaded := true } (g.setPp 31 { g.pp 31 with hiAt := some 0 }))
def w445 : Hub := at_ 200000 ((snk_ 31).setPp 31 { gate := true, loAt := some 0 })
def w446 : Hub := at_ 400 ((src_ 31).setPp 31 { trans := some { ret := false, fromC := 0, toC := 2, fromV := 12000, toV := 12032, start := 0, steps := 2, done := 1 } })
def w447 : Trans := { ret := false, fromC := 0, toC := 2, fromV := 12000, toV := 12032, start := 0, steps := 2, done := 1 }
def w448 : Hub := at_ 200 ((src_ 31).setPp 31 { trans := some { ret := false, fromC := 0, toC := 2, fromV := 12000, toV := 12032, start := 0, steps := 2 } })
def w449 : Trans := { ret := false, fromC := 0, toC := 2, fromV := 12000, toV := 12032, start := 0, steps := 2 }
def w450 : Hub := at_ 199 ((src_ 31).setPp 31 { trans := some { ret := false, fromC := 0, toC := 2, fromV := 12000, toV := 12032, start := 0, steps := 2 } })
def w451 : Hub := at_ 4000 ((src_ 31).setPp 31 { trans := some { ret := false, fromC := 0, toC := 2, fromV := 12000, toV := 12032, start := 0, steps := 2, done := 2, reached := some 0, inAt := some 0 } })
def w452 : Trans := { ret := false, fromC := 0, toC := 2, fromV := 12000, toV := 12032, start := 0, steps := 2, done := 2, reached := some 0, inAt := some 0 }
def w453 : Hub := at_ 4000 ((src_ 31).setPp 31 { trans := some { ret := true, fromC := 0, toC := 2, fromV := 12000, toV := 12032, start := 0, steps := 2, done := 2, reached := some 0, inAt := some 0 } })
def w454 : Trans := { ret := true, fromC := 0, toC := 2, fromV := 12000, toV := 12032, start := 0, steps := 2, done := 2, reached := some 0, inAt := some 0 }
def w455 : Hub := at_ 200000 ((src_ 31).setPp 31 { trans := some { ret := false, fromC := 0, toC := 2, fromV := 12000, toV := 12032, start := 0, steps := 2, done := 2, reached := some 0 } })
def w456 : Trans := { ret := false, fromC := 0, toC := 2, fromV := 12000, toV := 12032, start := 0, steps := 2, done := 2, reached := some 0 }
def w457 : Hub := at_ 4294967295 ((Rst.set F.PWR_PSCTL_SHARED 1).setDom 36 { emptyAt := some 0 })
def w458 : Hub := (Rst.set F.PWR_PSCTL_SHARED 1).set F.PWR_EVOTE_EVOTE 1 3 0
def w459 : Hub := Rst.set F.PWR_DSTAT_STEP 4 3
def w460 : Hub := Rst.set F.PWR_DSTAT_STEP 5 3
def w461 : Hub := Rst.set F.PWR_DSTAT_STEP 4 34
def w462 : Hub := Rst.set F.PWR_DSTAT_STEP 5 34
def w463 : Hub := Rst.set F.PWR_PSCTL_SHARED 1
def w464 : Hub := pwr_ { stby := some (0, []) }
def w465 : Hub := Rst.set F.PWR_DSTAT_STEP 2 3
def w466 : Hub := Rst.set F.PWR_DSTAT_LEVEL 2 3
def w467 : Hub := (Rst.set F.PWR_DSTAT_LEVEL 2 31).setDom 31 { exit := true }
def w468 : Hub := (Rst.set F.PWR_DSTAT_LEVEL 1 31).setDom 31 { exit := true }
def w469 : Hub := (Rst.set F.PWR_DSTAT_LEVEL 1 34).setDom 34 { exit := true }
def w470 : Hub := (Rst.set F.PWR_DSTAT_LEVEL 2 35).setDom 35 { exit := true }
def w471 : Hub := ((Rst.set F.PWR_PSCTL_SHARED 1).set F.PWR_DSEL_DOMAIN 31 0).set F.PWR_DSTAT_LEVEL 2 31
def w472 : Hub := at_ 64 (pwr_ { sramAt := some 0 })
def w473 : Hub := { Rst with led := { Rst.led with irq := true } }
def w474 : Hub := (Rst.set F.PWR_VOUTCODE1_VOUT3 5).set F.PWR_VOUTCODE0_VOUT1 7
def w475 : Hub := Rst.set F.PWR_PMBCFG_EN 1
def w476 : Hub := Rst.set F.PWR_PMBCFG_EN 0
def w477 : Hub := pwr_ { chg := some { level := 3, old := 2 } }
def w478 : Hub := pwr_ { chg := some { level := 3, old := 2, stage := 3 } }
def w479 : Hub := pwr_ { chg := some { level := 3, old := 2, stage := 3, fails := 1 } }
def w480 : Hub := pwr_ { chg := some { level := 3, old := 2, stage := 0, fails := 2 } }
def w481 : Hub := pwr_ { chg := some { level := 3, old := 2, stage := 3, fails := 2 } }
def w482 : Hub := pwr_ { chg := some { level := 3, old := 2, stage := 1 } }
def w483 : Hub := at_ 1000000 (pwr_ { chg := some { level := 2, old := 2, stage := 2 } })
def w484 : Hub := at_ 1000000 (pwr_ { chg := some { level := 3, old := 2, stage := 2 } })
def w485 : Hub := pwr_ { chg := some { level := 3, old := 2, stage := 4 } }
def w486 : Hub := at_ 8 (pwr_ { chg := some { level := 1, old := 0, stage := 6 }, clk := 0 })
def w487 : Hub := at_ 1 (pwr_ { chg := some { level := 2, old := 0, stage := 6 }, clk := 2 })
def w488 : Hub := at_ 10000000 (pwr_ { chg := some { level := 3, old := 2, stage := 1 } })
def w489 : Hub := at_ 10000000 (pwr_ { chg := some { level := 3, old := 2, stage := 4 } })
def w490 : Hub := (src_ 31).set F.PORT_PPSTAT_STATE 2 31
def w491 : Hub := (snk_ 31).setPp 31 { gate := true }
def w492 : Hub := at_ 20000 (pwr_ { stby := some (0, []) })
def w493 : Hub := at_ 199 (pwr_ { stby := some (0, []) })
def w494 : Hub := asleep_.set F.PWR_STBYCFG_WAKEN 1
def w495 : Hub := asleep_.set F.PWR_STBYCFG_PERST 1
def w496 : Hub := (pwr_ { asleep := true, roles := [(31, 1)] }).set F.PWR_STBYARM_ARM 0x80000000
def w497 : Hub := asleep_
def w498 : Hub := at_ 10000000 (Rst.setStream 7 { fill := { slots := [⟨0, 0, none⟩], first := some 0 } })
def w499 : Hub := Rst.set F.EVS_CFG_EN 1 7
def w500 : Hub := ((ring_ 4095 1 5 { descs := [{ slot := 0, w := [0, 512], stage := .ready }] } (Rst.set F.EVS_CFG_EN 1 7)).set F.RCTX0_BIND 7 4095).setStream 7 { drain := { slots := List.replicate 9 ⟨0, 0, none⟩ } }
def w501 : Hub := (Rst.set F.EVS_TELCFG_EN 1).set F.EVS_TELCFG_PER 1
def w502 : Hub := (((Rst.set F.EVS_PROD_EN 1 161).set F.EVS_PROD_GRANT 961 161).set F.EVS_PROD_EN 1 161)
def w503 : Hub := (Rst.set F.EVS_PROD_EN 0 161)
def w504 : Hub := Rst.set F.EVS_PROD_EN 1 161
def w505 : Hub := Rst.set F.GLB_FATAL_VALID 1
def w506 : Hub := at_ 1000000000 { Rst.set F.GLB_FATAL_VALID 1 with evs := { stopped := some 0 } }
def w507 : Hub := at_ 64
def w508 : Hub := at_ 64 (has { frm_ (hdr_ 5 0 0 16) with cells := [⟨63, 1, false⟩] })
def w509 : Machine.Frm := { frm_ (hdr_ 5 0 0 16) with cells := [⟨63, 1, false⟩] }
def w510 : Hub := { Rst with core := { Rst.core with rows := [(16383, { faulted := true })] } }
def w511 : Hub := { Rst with core := { Rst.core with rows := [(12648447, { faulted := true })] } }
def w512 : Hub := pwr_ { asleep := true, off := true }
def w513 : Hub := at_ 4000000000 (Rst.set F.GLB_WDT_EN 1)
def w514 : Hub := Rst.set F.GLB_WDT_EN 0
def w515 : Hub := Rst.set F.MGMT_IRQ_EN 1
def w516 : Hub := Rst.set F.PORT_PPTRIP_LATCH 1 31
def w517 : Hub := at_ 20000 (boot_ { regEn := 15, good := 7, railAt := some 0 })
def w518 : Hub := at_ 20000 (boot_ { regEn := 15, good := 3, railAt := some 0 } (Rst.set F.GLB_STRAP_STRAP 64))
def w519 : Hub := at_ 20000 (boot_ { regEn := 15, good := 3, railAt := some 0 })
def w520 : Hub := at_ 2000000 (boot_ { regEn := 15, good := 3, railAt := some 0 })
def w521 : Hub := at_ 2000000 (boot_ { retryAt := some 0 })
def w522 : Hub := boot_ { rom := .verify }
def w523 : Hub := boot_ { rom := .verify } (Rst.set F.GLB_STRAP_STRAP 2)
def w524 : Hub := boot_ { otp := [(10, 1)] }
def w525 : Hub := boot_ { rom := .flashWait, flashAt := some 0 }
def w526 : Hub := boot_ { rom := .hostLoad }
def w527 : Hub := boot_ { good := 1 }
def w528 : Hub := boot_ { prog := some (5, 1, 0) }
def w529 : Hub := Rst.set F.GLB_LOCK_LOCK 1
def w530 : THdr := { dhub := 65535, dtun := 4095, shub := 65535, stun := 4095, type := 15, cls := 7, p := true, plen := 16383, rsv := 3, eseq := 16777215, hcrc := 65535 }
def w531 : LinkHdr := { kind := 3, seq := 4095, cls := 7, shc := 63, len := 16383, crcls := 7, crshr := true, crcnt := 127 }
def w532 : TsBlk := { lane := 3, rates := 7, tgt := 7, retire := 15, role := 3, preset := 15, pre := 3, post := 3, eqlane := 3, eqstat := 3, phase := 3, ready := true }

/-! ## The hypotheses of each statement can be met -/

theorem test_witness_IdleStep :
  (State.reset.pending = []) ∧
  (w0.pending = [] ∧ w0.hub.pwr.asleep = true) ∧
  (State.reset.pending = [] ∧ State.reset.hub.awake) := by decide +kernel

theorem test_witness_StoppedHub :
  (w2.hub.get F.GLB_FATAL_VALID = 1 ∧ w2.hub.pwr.asleep = false) := by decide +kernel

theorem test_witness_ResetState :
  (0 ≠ 260) ∧
  (4095 ≠ 0) ∧
  (0 < 16) := by decide +kernel

theorem test_witness_RegisterAccessCommands_1 :
  (Rst.awake ∧ wholeWord Path.pcie (BitVec.ofNat 21 64).toNat (BitVec.ofNat 4 15) = true) ∧
  (Rst.awake ∧ wholeWord Path.pcie (BitVec.ofNat 21 65).toNat (0 : BitVec 4) = false) ∧
  (Rst.awake ∧ (Path.pcie = Path.pcie ∨ wholeWord Path.pcie (BitVec.ofNat 21 64).toNat (BitVec.ofNat 4 15) = true)) ∧
  (Rst.awake ∧ listed 2 = false) ∧
  (w3.awake ∧ w3.led.wiped = true ∧ keptReg 64 = false) ∧
  (w4.awake ∧ w4.pathSlice (Path.tunnel (0 : Fin 16)) ≠ 0 ∧ w4.reach (w4.pathSlice (Path.tunnel (0 : Fin 16))) 64 = false) ∧
  (Rst.awake ∧ 64 % 4 = 0 ∧ Rst.reaches Path.pcie 64 = true ∧ 64 < 4096 ∧ isOtpReg 64 = false ∧ 64 ≠ 68) ∧
  (Rst.awake ∧ 0 % 4 = 0 ∧ Rst.reaches Path.pcie 0 = true ∧ 0 < 4096 ∧ isOtpReg 0 = false ∧ 0 ≠ 68) := by decide +kernel

theorem test_witness_RegisterAccessCommands_2 :
  (Rst.awake) ∧
  (Rst.awake ∧ (0 : BitVec 4) ≠ BitVec.ofNat 4 15) ∧
  (Rst.awake ∧ 0 < 524288) ∧
  (Rst.awake ∧ 8 < 524288 ∧ 8 ≤ 8 % 4096) ∧
  (Rst.awake ∧ (Place.config (0 : BitVec 12) = Place.config (0 : BitVec 12) ∨ Place.config (0 : BitVec 12) = Place.msixControl) ∧
    Rst.get F.HIF_PCTL_CFGRDY = 0) ∧
  (w5.awake ∧ (Place.config (0 : BitVec 12) = Place.config (0 : BitVec 12) ∨ Place.config (0 : BitVec 12) = Place.msixControl) ∧
    w5.get F.HIF_PCTL_CFGRDY = 1) := by decide +kernel

theorem test_witness_FieldAccessRules_1 :
  ({ lo := 4, w := 3, acc := Acc.rw, ok := [(0, 5)] : FieldD}.lo + { lo := 4, w := 3, acc := Acc.rw, ok := [(0, 5)] : FieldD}.w ≤
    32 ∧ { lo := 4, w := 3, acc := Acc.rw, ok := [(0, 5)] : FieldD}.acc = Acc.rw ∧ FieldD.allows
    { lo := 4, w := 3, acc := Acc.rw, ok := [(0, 5)] : FieldD} (Word.bits (0 : Word)
    { lo := 4, w := 3, acc := Acc.rw, ok := [(0, 5)] : FieldD}.lo { lo := 4, w := 3, acc := Acc.rw, ok := [(0, 5)] : FieldD}.w) =
    true) ∧
  ({ lo := 4, w := 3, acc := Acc.rw, ok := [(0, 5)] : FieldD}.lo + { lo := 4, w := 3, acc := Acc.rw, ok := [(0, 5)] : FieldD}.w ≤
    32 ∧ { lo := 4, w := 3, acc := Acc.rw, ok := [(0, 5)] : FieldD}.acc = Acc.rw ∧ FieldD.allows
    { lo := 4, w := 3, acc := Acc.rw, ok := [(0, 5)] : FieldD} (Word.bits (BitVec.ofNat 32 112)
    { lo := 4, w := 3, acc := Acc.rw, ok := [(0, 5)] : FieldD}.lo { lo := 4, w := 3, acc := Acc.rw, ok := [(0, 5)] : FieldD}.w) =
    false) ∧
  ({ lo := 4, w := 3, acc := Acc.rwl, ok := [(0, 5)] : FieldD}.lo + { lo := 4, w := 3, acc := Acc.rwl, ok := [(0, 5)] : FieldD}.w
    ≤ 32 ∧ { lo := 4, w := 3, acc := Acc.rwl, ok := [(0, 5)] : FieldD}.acc = Acc.rwl) ∧
  ({ lo := 4, w := 3, acc := Acc.rwl, ok := [(0, 5)] : FieldD}.lo + { lo := 4, w := 3, acc := Acc.rwl, ok := [(0, 5)] : FieldD}.w
    ≤ 32 ∧ { lo := 4, w := 3, acc := Acc.rwl, ok := [(0, 5)] : FieldD}.acc = Acc.rwl ∧ FieldD.allows
    { lo := 4, w := 3, acc := Acc.rwl, ok := [(0, 5)] : FieldD} (Word.bits (0 : Word)
    { lo := 4, w := 3, acc := Acc.rwl, ok := [(0, 5)] : FieldD}.lo { lo := 4, w := 3, acc := Acc.rwl, ok := [(0, 5)] : FieldD}.w)
    = true) ∧
  ({ lo := 4, w := 3, acc := Acc.ro, ok := [] : FieldD}.lo + { lo := 4, w := 3, acc := Acc.ro, ok := [] : FieldD}.w ≤ 32 ∧
    ({ lo := 4, w := 3, acc := Acc.ro, ok := [] : FieldD}.acc = Acc.ro ∨ { lo := 4, w := 3, acc := Acc.ro, ok := [] : FieldD}.acc
    = Acc.wo ∨ { lo := 4, w := 3, acc := Acc.ro, ok := [] : FieldD}.acc = Acc.rc)) ∧
  ({ lo := 4, w := 3, acc := Acc.w1c, ok := [] : FieldD}.lo + { lo := 4, w := 3, acc := Acc.w1c, ok := [] : FieldD}.w ≤ 32 ∧
    { lo := 4, w := 3, acc := Acc.w1c, ok := [] : FieldD}.acc = Acc.w1c ∧ 0 <
    { lo := 4, w := 3, acc := Acc.w1c, ok := [] : FieldD}.w) ∧
  ({ lo := 4, w := 3, acc := Acc.w1s, ok := [] : FieldD}.lo + { lo := 4, w := 3, acc := Acc.w1s, ok := [] : FieldD}.w ≤ 32 ∧
    { lo := 4, w := 3, acc := Acc.w1s, ok := [] : FieldD}.acc = Acc.w1s ∧ 0 <
    { lo := 4, w := 3, acc := Acc.w1s, ok := [] : FieldD}.w) ∧
  ({ lo := 4, w := 3, acc := Acc.rw, ok := [(0, 5)] : FieldD}.lo + { lo := 4, w := 3, acc := Acc.rw, ok := [(0, 5)] : FieldD}.w ≤
    32 ∧ 0 + 0 ≤ 32 ∧ (0 + 0 ≤ { lo := 4, w := 3, acc := Acc.rw, ok := [(0, 5)] : FieldD}.lo ∨
    { lo := 4, w := 3, acc := Acc.rw, ok := [(0, 5)] : FieldD}.lo + { lo := 4, w := 3, acc := Acc.rw, ok := [(0, 5)] : FieldD}.w ≤
    0)) := by decide +kernel

theorem test_witness_FieldAccessRules_2 :
  (0 < 32 ∧ (∀ (r : RegD), findReg 0 = some r → ∀ f ∈ r.fields, f.acc = Acc.wo ∨ 0 < f.lo ∨ f.lo + f.w ≤ 0)) := by decide +kernel

theorem test_witness_ClaimRules_1 :
  ((Rst.owner 5 = 0 ∨ Rst.owner 5 = 6)) ∧
  ((Rst.owner 5 = 0 ∨ Rst.owner 5 = 6) ∧ 6 ≠ 5) ∧
  (w6.owner 5 ≠ 0 ∧ w6.owner 5 ≠ 6 ∧ w6.owner 5 < 256 ∧ (¬(32 ≤ 5 ∧ 5 < 64 ∧ w6.owner 5 = 3))) ∧
  ((Rst.owner 0 = 0 ∨ Rst.owner 0 = 0)) ∧
  (w6.owner 5 ≠ 0 ∧ w6.owner 5 ≠ 6) ∧
  (w7.owner 5 ≠ 0 ∧ w7.owner 5 ≠ 6 ∧ { key := 2, res := 5, claimant := 6, owner := 7 : Refused} ∈ ((w7.claimFor 1 5 6).2.unrefuse
    1).led.refused) ∧
  (w8.led.refused = [{ key := 2, res := 5, claimant := 6, owner := 7 : Refused}]) ∧
  (w9.owner 5 = 6) := by decide +kernel

theorem test_witness_ClaimRules_2 :
  (w6.owner 5 ≠ 6) := by decide +kernel

theorem test_witness_RecordRules :
  (w10.get F.EVS_PROD_EN 161 = 0) ∧
  (w11.get F.EVS_PROD_EN 161 = 1 ∧ w11.evsOpen = true ∧ w11.usable 161 = 0) ∧
  (w12.get F.EVS_PROD_EN 161 = 1 ∧ w12.evsOpen = true ∧ 1 ≤ w12.usable 161 ∧ w12.markNeeded (w12.get F.EVS_PROD_STREAM 161) =
    false ∧ (w12.stream (w12.get F.EVS_PROD_STREAM 161)).fill.slots.length < 1023) ∧
  ((61439 < 61440 ∨ 65536 ≤ 61439)) ∧
  (0 < w13.get F.EVS_THR_THRESH 7 ∧ (w13.stream 7).seen < w13.get F.EVS_THR_THRESH 7 ∧ w13.get F.EVS_THR_THRESH 7 ≤ (w13.stream
    7).pend ∧ w13.get F.EVS_CFG_IRQEN 7 = 1) ∧
  (0 < w14.get F.EVS_THR_THRESH 7 ∧ (w14.stream 7).seen < w14.get F.EVS_THR_THRESH 7 ∧ w14.get F.EVS_THR_THRESH 7 ≤ (w14.stream
    7).pend ∧ w14.get F.EVS_CFG_IRQEN 7 = 0) ∧
  ((w15.get F.EVS_THR_THRESH 7 = 0 ∨ w15.get F.EVS_THR_THRESH 7 ≤ (w15.stream 7).seen ∨ (w15.stream 7).pend < w15.get
    F.EVS_THR_THRESH 7) ∧ (w15.stream 7).seen ≠ (w15.stream 7).pend) ∧
  ((Rst.stream 0).seen = (Rst.stream 0).pend) := by decide +kernel

theorem test_witness_RidgeTimeCommands_1 :
  (Rst.awake ∧ Rst.led.wiped = false ∧ Rst.get F.GLB_LOCK_LOCK = 0 ∧ 10 ≤ 10 ∧ (Rst.get F.TIME_CTL_SUMMIT = 0 ∨ ∀ (n : PortId),
    Rst.get F.PORT_LCTL_EN ↑n = 0)) ∧
  (Rst.awake) ∧
  (w16.awake ∧ w16.led.wiped = false ∧ w16.get F.TIME_CTL_SUMMIT = 1 ∧ (∀ (n : PortId), w16.get F.PORT_LCTL_EN ↑n = 0)) ∧
  (w17.awake ∧ w17.led.wiped = false ∧ w17.get F.TIME_CTL_SUMMIT = 1 ∧ (∀ (n : PortId), w17.get F.PORT_LCTL_EN ↑n = 0) ∧ w17.owner
    resSyncIn = ownTime) ∧
  (w18.awake ∧ w18.time.alignArmed = true ∧ (∀ (n : PortId), w18.get F.PORT_LCTL_EN ↑n = 0) ∧ w18.owner resSyncIn = ownTime) ∧
  (w19.awake ∧ w19.get F.TIME_CAPCFG_EN 3 = 1 ∧ w19.get F.TIME_CAPCFG_SRC 3 < 4 ∧ w19.owner (w19.capRes 3) = ownTime ∧ w19.get
    F.TIME_CAPCFG_VALID 3 = 1) := by decide +kernel

theorem test_witness_RidgeTimeCommands_2 :
  (w20.awake ∧ w20.get F.TIME_CAPCFG_EN 3 = 1 ∧ w20.get F.TIME_CAPCFG_SRC 3 < 4 ∧ w20.owner (w20.capRes 3) = ownTime ∧ w20.get
    F.TIME_CAPCFG_VALID 3 = 0) ∧
  (Rst.awake ∧ Rst.led.wiped = false ∧ 2 ^ 32 * BitVec.toNat (0 : Word) + Rst.get F.TIME_CMP_LO_CMP ≤ Rst.time.ridge.toNat) ∧
  (Rst.awake ∧ Rst.led.wiped = false ∧ Rst.time.ridge.toNat < 2 ^ 32 * (BitVec.ofNat 32 1).toNat + Rst.get F.TIME_CMP_LO_CMP) ∧
  (w21.awake ∧ w21.get F.TIME_CMPCFG_EN 3 = 1 ∧ (w21.cmp 3).target = some w21.time.ridge.toNat ∧ w21.cmpPin 3 = some
    (OutPin.syncOut, resSyncOut) ∧ w21.get F.TIME_CMP_PER_CMP_PER 3 = 0) ∧
  (w22.awake ∧ w22.get F.TIME_CMPCFG_EN 3 = 1 ∧ (w22.cmp 3).target = some w22.time.ridge.toNat ∧ w22.cmpPin 3 = some (OutPin.gpio
    0, resGpio 0) ∧ w22.get F.TIME_CMP_PER_CMP_PER 3 ≠ 0) ∧
  (w23.awake ∧ w23.get F.TIME_CMPCFG_EN 3 = 1 ∧ (w23.cmp 3).target = some w23.time.ridge.toNat ∧ w23.get F.TIME_CMPCFG_OUT 3 = 0 ∧
    w23.get F.TIME_CMP_PER_CMP_PER 3 = 0) := by decide +kernel

theorem test_witness_RidgeTimeCommands_3 :
  (w24.awake ∧ (w24.cmp 3).pulseEnd = some 0 ∧ 0 ≤ w24.time.tick ∧ w24.cmpPin 3 = some (OutPin.syncOut, resSyncOut)) ∧
  (Rst.awake ∧ Rst.led.wiped = false) := by decide +kernel

theorem test_witness_TimeNowShadow :
  (Rst.awake) := by decide +kernel

theorem test_witness_FrequencyLockCommands_1 :
  (w25.awake ∧ w25.get F.TIME_STAT_STATE = 0 ∧ w25.get F.TIME_CTL_SUMMIT = 0 ∧ w25.get F.PORT_LCTL_EN 31 = 1 ∧ (w25.fabp
    31).barred = false ∧ w25.role 31 = 2) ∧
  (w26.awake ∧ w26.get F.TIME_STAT_STATE = 1) ∧
  (w27.awake ∧ w27.get F.TIME_STAT_STATE = 1 ∧ w27.time.acqStart = some 0 ∧ 0 + 100000 ≤ w27.time.tick ∧ w27.time.acqFails < 2) ∧
  (w28.awake ∧ w28.get F.TIME_STAT_STATE = 1 ∧ w28.time.acqStart = some 0 ∧ 0 + 100000 ≤ w28.time.tick ∧ 2 ≤ w28.time.acqFails) ∧
  (w29.awake ∧ (w29.get F.TIME_STAT_STATE = 2 ∨ w29.get F.TIME_STAT_STATE = 3) ∧ w29.otherUplink (w29.get F.TIME_STAT_SRCPORT) =
    none) ∧
  (w30.awake ∧ (w30.get F.TIME_STAT_STATE = 2 ∨ w30.get F.TIME_STAT_STATE = 3) ∧ w30.otherUplink (w30.get F.TIME_STAT_SRCPORT) =
    some 1 ∧ 1 ≠ w30.get F.TIME_STAT_SRCPORT ∧ w30.get F.PORT_LSTAT_STATE 1 = 7) := by decide +kernel

theorem test_witness_FrequencyLockCommands_2 :
  (w31.get F.TIME_STAT_STATE = 2 ∧ (-8 : ℤ) ≤ (8 : ℤ) ∧ 8 ≤ 8 ∧ w31.time.good = 3) ∧
  (w32.get F.TIME_STAT_STATE = 2 ∧ w32.time.good ≤ 2) ∧
  (w33.get F.TIME_STAT_STATE = 2 ∧ ((9 : ℤ) < (-8 : ℤ) ∨ (8 : ℤ) < (9 : ℤ))) ∧
  (w29.get F.TIME_STAT_STATE = 3 ∧ (-128 : ℤ) ≤ (128 : ℤ) ∧ 128 ≤ 128) ∧
  (w29.get F.TIME_STAT_STATE = 3 ∧ (-128 : ℤ) ≤ (-128 : ℤ) ∧ (-128 : ℤ) ≤ (128 : ℤ)) ∧
  (w34.get F.TIME_STAT_STATE = 3 ∧ ((-129 : ℤ) < (-128 : ℤ) ∨ (128 : ℤ) < (-129 : ℤ)) ∧ w34.time.bad = 3) ∧
  (Rst.awake) := by decide +kernel

theorem test_witness_TimeBlockCommands_1 :
  (w35.awake ∧ w35.get F.PORT_LSTAT_STATE 31 = 7 ∧ w35.isChild 31 = false ∧ (∀ (t : ℕ), (w35.tp 31).lastTsync = some t → t + 8192
    ≤ w35.time.tick) ∧ ((w35.tp 31).sent + 1) % 8 ≠ 0) ∧
  (w36.awake ∧ w36.get F.PORT_LSTAT_STATE 31 = 7 ∧ w36.isChild 31 = false ∧ (∀ (t : ℕ), (w36.tp 31).lastTsync = some t → t + 8192
    ≤ w36.time.tick) ∧ ((w36.tp 31).sent + 1) % 8 = 0) ∧
  (w37.awake ∧ w37.get F.PORT_LSTAT_STATE 31 = 7 ∧ w37.isChild 31 = true ∧ w37.get F.TIME_STAT_STATE = 2 ∧ (∀ (t : ℕ), (w37.tp
    31).lastDreq = some t → t + 8192 ≤ w37.time.tick)) ∧
  (w38.awake ∧ w38.get F.PORT_LSTAT_STATE 31 = 7 ∧ w38.isChild 31 = true ∧ w38.get F.TIME_STAT_STATE = 3 ∧ (∀ (t : ℕ), (w38.tp
    31).lastDreq = some t → t + 65536 ≤ w38.time.tick)) ∧
  (w35.awake ∧ w35.get F.PORT_LSTAT_STATE 31 = 7 ∧ (timeDreq 5).btype = btTime ∧ (timeDreq 5).time 0 1 = 1 ∧ w35.isChild 31 =
    false) := by decide +kernel

theorem test_witness_TimeBlockCommands_2 :
  (w39.awake ∧ w39.get F.PORT_LSTAT_STATE 31 = 7 ∧ (timeDrsp 5 77).btype = btTime ∧ (timeDrsp 5 77).time 0 1 = 2 ∧ w39.isChild 31
    = true ∧ (w39.tp 31).ex = some { id := 5, t1 := 3 : DelayEx} ∧ { id := 5, t1 := 3 : DelayEx}.id = (timeDrsp 5 77).time 2 7) ∧
  (w40.awake ∧ w40.get F.PORT_LSTAT_STATE 31 = 7 ∧ (timeTepoch 1311768467463790320).btype = btTime ∧ (timeTepoch
    1311768467463790320).time 0 1 = 3 ∧ w40.isUplink 31 = true) ∧
  (w35.awake ∧ w35.get F.PORT_LSTAT_STATE 31 = 7 ∧ (lbkBlk true).btype ≠ btTime) ∧
  (w40.awake ∧ w40.get F.PORT_LSTAT_STATE 31 = 7 ∧ (timeTsync 1 5).btype = btTime ∧ (timeTsync 1 5).time 0 1 = 0 ∧ w40.isUplink 31
    = true ∧ w40.get F.TIME_STAT_SRCVALID = 0 ∧ (w40.tp 31).epoch = none) ∧
  (Rst.awake) := by decide +kernel

theorem test_witness_LaneEnableCommands_1 :
  (Rst.awake ∧ Rst.led.wiped = false ∧ Rst.get F.PORT_LCTL_EN = 0 ∧ Rst.role 0 ≠ 5) ∧
  (w41.awake ∧ w41.led.wiped = false ∧ w41.get F.PORT_LCTL_EN 31 = 1) ∧
  (w35.awake ∧ w35.led.wiped = false ∧ w35.get F.PORT_LSTAT_STATE 31 ≠ 0) ∧
  (Rst.awake ∧ (Rst.lane 0).turn = none ∧ (((fun h => h) (Rst.linkDown 0 0)).lane 0).waiting = false) ∧
  (w42.awake ∧ (w42.lane 31).turn ≠ none ∧ (((fun h => h) ((w42.turnEnd 31 3).linkDown 31 0)).lane 31).waiting = true) ∧
  (w35.awake ∧ w35.led.wiped = false ∧ w35.get F.PORT_LSTAT_STATE 31 = 7 ∧ ((2 : Fin 4) = (1 : Fin 4) ∨ (2 : Fin 4) = (2 : Fin
    4))) ∧
  (w35.awake ∧ w35.led.wiped = false ∧ w35.get F.PORT_LSTAT_STATE 31 = 7 ∧ w35.get F.PORT_LMODE_CUR 31 = 0) := by decide +kernel

theorem test_witness_LaneEnableCommands_2 :
  (w43.awake ∧ w43.led.wiped = false ∧ w43.get F.PORT_LMODE_CUR 31 ≠ 0) ∧
  (w44.awake ∧ w44.led.wiped = false ∧ w44.get F.PORT_LSTAT_STATE 31 = 8 ∧ (w44.lane 31).retime = false ∧ w44.get F.PORT_LCTL_LBK
    31 ≠ 3) ∧
  (w45.awake ∧ w45.led.wiped = false ∧ w45.get F.PORT_LSTAT_STATE 31 = 8 ∧ (w45.lane 31).retime = false ∧ w45.get F.PORT_LCTL_LBK
    31 = 3) ∧
  (Rst.awake ∧ (Rst.lane 0).joined = false) ∧
  (w46.awake ∧ w46.get F.PWR_DSTAT_LEVEL 31 = 2) ∧
  (w47.awake ∧ w47.get F.PWR_DSTAT_LEVEL 31 ≠ 2 ∧ w47.get F.PORT_LSTAT_STATE 31 = 1 ∧ 2 ≤ 3 ∧ (w47.lane 31).since + 200 ≤
    w47.time.tick) ∧
  (Rst.awake ∧ Rst.get F.PWR_DSTAT_LEVEL ≠ 2 ∧ (Rst.get F.PORT_LSTAT_STATE ≠ 1 ∨ 0 < 2 ∨ Rst.time.tick < (Rst.lane 0).since +
    200)) := by decide +kernel

theorem test_witness_LaneEnableCommands_3 :
  (w48.awake ∧ w48.get F.PORT_LSTAT_STATE 31 = 9 ∧ (w48.lane 31).since + 200000000 ≤ w48.time.tick) ∧
  (w49.awake ∧ (lbkBlk true).isA btLbk = true ∧ (lbkBlk true).field 8 9 = 1 ∧ w49.get F.PORT_LSTAT_STATE 31 = 7 ∧ w49.get
    F.PORT_LCTL_FELBK_ALLOW 31 = 1) ∧
  (w50.awake ∧ (lbkBlk false).isA btLbk = true ∧ (lbkBlk false).field 8 9 = 0 ∧ w50.get F.PORT_LSTAT_STATE 31 = 8 ∧ (w50.lane
    31).retime = true) ∧
  (Rst.awake ∧ Blk.isA (0 : Blk) btLbk = false) ∧
  (w51.awake ∧ w51.get F.PORT_LSTAT_STATE 31 = 8 ∧ (w51.lane 31).lock = 0 ∧ (w51.lane 31).since + 200000 ≤ w51.time.tick) ∧
  (Rst.awake) ∧
  (Rst.awake ∧ Rst.led.wiped = false) := by decide +kernel

theorem test_witness_TrainingCommands_1 :
  (Rst.awake ∧ Blk.isA (0 : Blk) btTS1 = false) ∧
  (w52.awake ∧ w53.isA btTS1 = true ∧ w52.get F.PORT_LSTAT_STATE 31 = 2 ∧ bitOf (w52.lane 31).lock 3 = true ∧ Tab.get 0 (w52.lane
    31).ts1 3 = 7) ∧
  (w54.awake ∧ w53.isA btTS1 = true ∧ w54.get F.PORT_LSTAT_STATE 31 = 2 ∧ bitOf (w54.lane 31).lock 3 = true ∧ Tab.get 0 (w54.lane
    31).ts1 3 < 7) ∧
  (w55.awake ∧ w53.isA btTS1 = true ∧ w55.get F.PORT_LSTAT_STATE 31 = 5) ∧
  (w56.awake ∧ w53.isA btTS1 = true ∧ w56.get F.PORT_LSTAT_STATE 31 = 7 ∧ bitOf (w56.get F.PORT_LSTAT_RXMASK 31) 3 = true ∧ bitOf
    (w56.get F.PORT_LSTAT_RECOV 31) 3 = false) ∧
  (Rst.awake ∧ Blk.isA (0 : Blk) btTS2 = false) := by decide +kernel

theorem test_witness_TrainingCommands_2 :
  (w57.awake ∧ w58.isA btTS2 = true ∧ w57.get F.PORT_LSTAT_STATE 31 = 3 ∧ (w57.lane 31).ctl = some 3 ∧ (w57.lane
    31).ts2From.isSome = true ∧ w58.ts.tgt = w57.agreedRate 31 ∧ flipMask w58.ts.retire = w57.agreedRetire 31 ∧ 7 ≤ (w57.lane
    31).ts2 ∧ w57.sent16 31 = true ∧ popCount 4 (w57.agreedRetire 31) < 2) ∧
  (w56.awake ∧ w58.isA btTS2 = true ∧ w56.get F.PORT_LSTAT_STATE 31 = 7 ∧ bitOf (w56.get F.PORT_LSTAT_RXMASK 31) 3 = true ∧ bitOf
    (w56.get F.PORT_LSTAT_RECOV 31) 3 = false) ∧
  (w59.awake ∧ w59.get F.PORT_LSTAT_STATE 31 = 2 ∧ (w59.lane 31).since + 20000 ≤ w59.time.tick) ∧
  (w60.awake ∧ w60.get F.PORT_LSTAT_STATE 31 = 3 ∧ (w60.lane 31).since + 10000 ≤ w60.time.tick) ∧
  (w61.awake ∧ w61.get F.PORT_LSTAT_STATE 31 = 4 ∧ (w61.lane 31).since + 10400 ≤ w61.time.tick) := by decide +kernel

theorem test_witness_TrainingCommands_3 :
  (w62.awake ∧ w62.get F.PORT_LSTAT_STATE 31 = 5 ∧ ((w62.lane 31).since + 240000 ≤ w62.time.tick ∨ (w62.lane 31).phaseAt +
    phaseLimit (w62.lane 31).phase ≤ w62.time.tick)) ∧
  (w63.awake ∧ w63.get F.PORT_LSTAT_STATE 31 = 6 ∧ (w63.lane 31).since + 19000 ≤ w63.time.tick) ∧
  (w64.awake ∧ w64.get F.PORT_LSTAT_STATE 31 = 4 ∧ (w64.lane 31).retuned = false ∧ (w64.lane 31).since + 400 ≤ w64.time.tick) ∧
  (w65.awake ∧ w65.get F.PORT_LSTAT_STATE 31 = 5 ∧ (w65.lane 31).eqIdle = some 0 ∧ 0 ≤ w65.time.tick) ∧
  (w66.awake ∧ w66.get F.PORT_LSTAT_STATE 31 = 6 ∧ (w66.lane 31).since + 16384 ≤ w66.time.tick ∧ (w66.lane 31).errAt + 16384 ≤
    w66.time.tick ∧ (w66.lane 31).ts2From = none) ∧
  (w67.awake ∧ w67.get F.PORT_LSTAT_STATE 31 = 6 ∧ (w67.lane 31).since + 16384 ≤ w67.time.tick ∧ (w67.lane 31).errAt + 16384 ≤
    w67.time.tick ∧ (w67.lane 31).readyRx = true ∧ w67.sent16 31 = true ∧ w67.get F.PORT_LRETIRE_MASK 31 = 15 - (w67.lane 31).set) := by decide +kernel

theorem test_witness_TrainingCommands_4 :
  (w68.awake ∧ bitOf (w68.lane 31).lock 3 = true) ∧
  (w69.awake ∧ bitOf (w69.lane 31).lock 3 = false ∧ w69.get F.PORT_LSTAT_STATE 31 = 2 ∧ w69.get F.TIME_STAT_STATE ≠ 4) ∧
  (w70.awake ∧ bitOf (w70.lane 31).lock 3 = false ∧ w70.get F.PORT_LSTAT_STATE 31 = 8 ∧ w70.get F.TIME_STAT_STATE ≠ 4) ∧
  (Rst.awake) ∧
  (Rst.awake ∧ bitOf (Rst.lane 0).lock 0 = false) ∧
  (w71.awake ∧ w71.get F.PORT_LSTAT_STATE 31 = 8 ∧ bitOf (w71.lane 31).chk 3 = true) ∧
  (Rst.awake ∧ (Rst.get F.PORT_LSTAT_STATE ≠ 8 ∨ bitOf (Rst.lane 0).chk 0 = false)) ∧
  (w72.awake ∧ w72.get F.PORT_LSTAT_STATE 31 = 2) := by decide +kernel

theorem test_witness_TrainingCommands_5 :
  (w73.awake ∧ w73.get F.PORT_LSTAT_STATE 31 = 7 ∧ (w73.lane 31).turn = none ∧ without (w73.get F.PORT_LSTAT_RXMASK 31) (without
    15 ((w73.lane 31).lock - 2 ^ 3)) = 0) ∧
  (w74.awake ∧ w74.get F.PORT_LSTAT_STATE 31 = 7 ∧ (w74.lane 31).turn = none ∧ without (w74.get F.PORT_LSTAT_RXMASK 31) (without
    15 ((w74.lane 31).lock - 2 ^ 3)) ≠ 0 ∧ bitOf (w74.get F.PORT_LSTAT_RXMASK 31) 3 = true) ∧
  (w75.awake ∧ w75.get F.PORT_LSTAT_STATE 31 = 7 ∧ bitOf (w75.get F.PORT_LSTAT_RXMASK 31) 3 = true ∧ (w75.lane 31).lock = 0 ∧
    without (w75.get F.PORT_LSTAT_RXMASK 31) (2 ^ 3) &&& without 15 (w75.get F.PORT_LSTAT_RECOV 31) ≠ 0) ∧
  (w56.awake ∧ w56.get F.PORT_LSTAT_STATE 31 = 7 ∧ bitOf (w56.get F.PORT_LSTAT_RXMASK 31) 3 = true ∧ (w56.lane 31).lock = 0 ∧
    without (w56.get F.PORT_LSTAT_RXMASK 31) (2 ^ 3) &&& without 15 (w56.get F.PORT_LSTAT_RECOV 31) = 0) := by decide +kernel

theorem test_witness_RecoveryCommands_1 :
  (w35.awake ∧ (stripeBlk 5).isA btStripe = true ∧ w35.get F.PORT_LSTAT_STATE 31 = 7 ∧ w35.get F.PORT_LSTAT_RECOV 31 = 0) ∧
  (w76.awake ∧ w76.get F.PORT_LSTAT_STATE 31 = 7 ∧ w76.get F.PORT_LKSTAT_STATE 31 = 2 ∧ w76.get F.PORT_LKSTAT_TXIDLE 31 = 0 ∧
    w76.quiet 31 = true ∧ w76.get F.PWR_DSTAT_TARGET 31 = 0 ∧ w76.level 31 = lvRUN ∧ w76.get F.PORT_LKCTL_IDLEEN 31 = 1 ∧
    (w76.link 31).busyAt + w76.get F.PORT_LKCTL_IDLEDLY 31 ≤ w76.time.tick) ∧
  (w77.awake ∧ w77.get F.PORT_LKSTAT_TXIDLE 31 = 1 ∧ (w77.link 31).wait ≠ []) ∧
  (w78.awake ∧ (lmgtBlk lmLREC 0 0 1 0 0).isA btLmgt = true ∧ (lmgtBlk lmLREC 0 0 1 0 0).lmKind = lmLREC ∧ w78.get
    F.PORT_LSTAT_STATE 31 = 7 ∧ bitList 4 0 (flipMask (lmgtBlk lmLREC 0 0 1 0 0).lmLanes) = [3] ∧ bitOf (w78.get
    F.PORT_LSTAT_TXMASK 31) 3 = true ∧ Tab.get none (w78.lane 31).rec_ 3 = none) := by decide +kernel

theorem test_witness_RecoveryCommands_2 :
  (w79.awake ∧ (lmgtBlk lmLREC 0 0 1 0 0).isA btLmgt = true ∧ (lmgtBlk lmLREC 0 0 1 0 0).lmKind = lmLREC ∧ w79.get
    F.PORT_LSTAT_STATE 31 = 7 ∧ bitList 4 0 (flipMask (lmgtBlk lmLREC 0 0 1 0 0).lmLanes) = [3] ∧ bitOf (w79.get
    F.PORT_LSTAT_TXMASK 31) 3 = true ∧ Tab.get none (w79.lane 31).rec_ 3 = some { start := 0, receiver := false : Recovery} ∧
    w79.time.tick < { start := 0, receiver := false : Recovery}.start + 40000) ∧
  (w80.awake ∧ (lmgtBlk lmLREC 0 0 1 0 0).isA btLmgt = true ∧ (lmgtBlk lmLREC 0 0 1 0 0).lmKind = lmLREC ∧ w80.get
    F.PORT_LSTAT_STATE 31 = 7 ∧ bitList 4 0 (flipMask (lmgtBlk lmLREC 0 0 1 0 0).lmLanes) = [3] ∧ bitOf (w80.get
    F.PORT_LSTAT_TXMASK 31) 3 = true ∧ Tab.get none (w80.lane 31).rec_ 3 = some { start := 0, receiver := false : Recovery} ∧
    { start := 0, receiver := false : Recovery}.start + 40000 ≤ w80.time.tick) ∧
  (w35.awake ∧ (lmgtBlk lmLRET 0 0 1 0 0).isA btLmgt = true ∧ (lmgtBlk lmLRET 0 0 1 0 0).lmKind = lmLRET ∧ w35.get
    F.PORT_LSTAT_STATE 31 = 7 ∧ bitList 4 0 (flipMask (lmgtBlk lmLRET 0 0 1 0 0).lmLanes) = [3]) ∧
  (Rst.awake ∧ Blk.isA (0 : Blk) btLmgt = false) := by decide +kernel

theorem test_witness_RecoveryCommands_3 :
  (w81.awake ∧ Tab.get none (w81.lane 31).rec_ 3 = some { start := 0, receiver := true, good := some 0 : Recovery} ∧
    { start := 0, receiver := true, good := some 0 : Recovery}.good = some 0 ∧
    { start := 0, receiver := true, good := some 0 : Recovery}.receiver = true ∧ 0 + 4096 ≤ w81.time.tick ∧ w81.get
    F.PORT_LSTAT_STATE 31 = 7) ∧
  (w82.awake ∧ Tab.get none (w82.lane 31).rec_ 3 = some { start := 0, receiver := false, good := some 0 : Recovery} ∧
    { start := 0, receiver := false, good := some 0 : Recovery}.good = some 0 ∧
    { start := 0, receiver := false, good := some 0 : Recovery}.receiver = false ∧ 0 + 4096 ≤ w82.time.tick ∧ w82.get
    F.PORT_LSTAT_STATE 31 = 7) ∧
  (w83.awake ∧ Tab.get none (w83.lane 31).rec_ 3 = some { start := 0, receiver := true : Recovery} ∧
    { start := 0, receiver := true : Recovery}.start + 40000 ≤ w83.time.tick ∧ Tab.get 0 (w83.lane 31).recFails 3 = 2) ∧
  (w84.awake ∧ Tab.get none (w84.lane 31).rec_ 3 = some { start := 0, receiver := true : Recovery} ∧
    { start := 0, receiver := true : Recovery}.start + 40000 ≤ w84.time.tick ∧ Tab.get 0 (w84.lane 31).recFails 3 < 2 ∧
    { start := 0, receiver := true : Recovery}.receiver = true) ∧
  (Rst.awake ∧ Rst.led.wiped = false ∧ Rst.get F.PORT_LRETIRE_MASK 31 = 0 ∧ bitList 4 0 (BitVec.ofNat 4 8).toNat = [3]) := by decide +kernel

theorem test_witness_RecoveryCommands_4 :
  (Rst.awake ∧ Rst.led.wiped = false) ∧
  (Rst.awake) := by decide +kernel

theorem test_witness_TurnExchangeCommands_1 :
  (Rst.awake ∧ Rst.led.wiped = false ∧ (5 ≤ 5 ∨ Rst.isHot F.PORT_LMODE_REQ = true)) ∧
  (w85.awake ∧ w85.led.wiped = false ∧ w85.isHot F.PORT_LMODE_REQ 31 = false ∧ 4 ≤ 4 ∧ (w85.lane 31).turn.isSome = true) ∧
  (w86.awake ∧ w86.led.wiped = false ∧ w86.isHot F.PORT_LMODE_REQ 31 = false ∧ 1 ≤ 4 ∧ 1 ≠ w86.get F.PORT_LMODE_CUR 31 ∧ (w86.lane
    31).turn = none ∧ w86.get F.PORT_LCTL_TURNLOCK 31 = 0 ∧ modeExists 1 (w86.outPairs 31) = true ∧ w86.turnAllowed 31 = true) ∧
  (w35.awake ∧ (lmgtBlk lmDREP 0 0 0 5 0).isA btLmgt = true ∧ w35.get F.PORT_LSTAT_STATE 31 = 7 ∧ (lmgtBlk lmDREP 0 0 0 5
    0).lmKind = lmDREP ∧ w35.isChild 31 = false) := by decide +kernel

theorem test_witness_TurnExchangeCommands_2 :
  (w90.awake ∧ (lmgtBlk lmACK 3 1 2 0 1000).isA btLmgt = true ∧ w90.get F.PORT_LSTAT_STATE 31 = 7 ∧ (w90.lane 31).turn = some
    turn_ ∧ turn_.initiator = true ∧ turn_.committed = false ∧ turn_.id = (lmgtBlk lmACK 3 1 2 0 1000).lmId ∧ (lmgtBlk lmACK 3 1 2
    0 1000).lmKind = lmACK ∧ w90.time.ridge.toNat + w90.dl 31 + 8 ≤ turn_.x) ∧
  (w91.awake ∧ (lmgtBlk lmACK 3 1 2 0 1000).isA btLmgt = true ∧ w91.get F.PORT_LSTAT_STATE 31 = 7 ∧ (w91.lane 31).turn = some
    turn_ ∧ turn_.initiator = true ∧ turn_.committed = false ∧ turn_.id = (lmgtBlk lmACK 3 1 2 0 1000).lmId ∧ (lmgtBlk lmACK 3 1 2
    0 1000).lmKind = lmACK ∧ turn_.x < w91.time.ridge.toNat + w91.dl 31 + 8) ∧
  (w85.awake ∧ (lmgtBlk lmNAK 3 1 2 0 1000).isA btLmgt = true ∧ w85.get F.PORT_LSTAT_STATE 31 = 7 ∧ (w85.lane 31).turn = some
    turn_ ∧ turn_.initiator = true ∧ turn_.committed = false ∧ turn_.id = (lmgtBlk lmNAK 3 1 2 0 1000).lmId ∧ (lmgtBlk lmNAK 3 1 2
    0 1000).lmKind = lmNAK) := by decide +kernel

theorem test_witness_TurnExchangeCommands_3 :
  (Rst.awake ∧ (Rst.lane 0).turn = none) ∧
  (w87.awake ∧ (w87.lane 31).turn = some w88 ∧ (w88.committed = true ∨ w88.initiator = false)) ∧
  (w85.awake ∧ (w85.lane 31).turn = some turn_ ∧ turn_.initiator = true ∧ turn_.committed = false ∧ w85.isChild 31 = false) ∧
  (w92.awake ∧ w92.get F.PORT_LCTL_TURNLOCK 31 = 1) ∧
  (w93.awake ∧ w93.get F.PORT_LCTL_TURNLOCK 31 = 0 ∧ w93.turnAllowed 31 = true ∧ modeExists (mirrorMode (lmgtBlk lmREQ 3 2 2 0
    5000).lmMode) (w93.outPairs 31) = true ∧ (w93.turnLanes 31 (mirrorMode (lmgtBlk lmREQ 3 2 2 0 5000).lmMode)).2 = true) ∧
  (w91.awake ∧ (w91.lane 31).turn = some turn_ ∧ turn_.initiator = true ∧ turn_.committed = false ∧ turn_.x ≤ w91.time.ridge.toNat
    + w91.dl 31 + 8) ∧
  (Rst.awake) ∧
  (Rst.awake ∧ Rst.led.wiped = false) := by decide +kernel

theorem test_witness_TurnRowCommands_1 :
  (w94.awake ∧ (w94.lane 31).turn = some w95 ∧ w95.committed = true ∧ w95.newSender = false ∧ w95.stage = 0 ∧ ↑w95.x - ↑(w94.dl
    31) ≤ ↑w94.time.ridge.toNat) ∧
  (w96.awake ∧ (w96.lane 31).turn = some w97 ∧ w97.committed = true ∧ w97.newSender = false ∧ w97.stage = 1 ∧ ↑w97.x + (8 : ℤ) -
    ↑(w96.dl 31) ≤ ↑w96.time.ridge.toNat) ∧
  (w98.awake ∧ (w98.lane 31).turn = some w88 ∧ w88.committed = true ∧ w88.newSender = true ∧ w88.stage = 0 ∧ w88.x ≤
    w98.time.ridge.toNat) ∧
  (w99.awake ∧ (w99.lane 31).turn = some w100 ∧ w100.committed = true ∧ w100.newSender = true ∧ w100.stage = 1 ∧ w100.x + 8 ≤
    w99.time.ridge.toNat) := by decide +kernel

theorem test_witness_TurnRowCommands_2 :
  (w101.awake ∧ (w101.lane 31).turn = some w102 ∧ w102.committed = true ∧ w102.newSender = true ∧ w102.stage = 2 ∧ w102.x + 184 ≤
    w101.time.ridge.toNat) ∧
  (w103.awake ∧ (w103.lane 31).turn = some w104 ∧ w104.committed = true ∧ w104.newSender = true ∧ w104.stage = 3 ∧ w104.x + 200 ≤
    w103.time.ridge.toNat) ∧
  (w105.awake ∧ (w105.lane 31).turn = some w106 ∧ w106.committed = true ∧ w106.newSender = false ∧ w106.stage = 2 ∧ bitOf
    w106.lanes 1 = true ∧ bitOf (w105.lane 31).lock 1 = false) := by decide +kernel

theorem test_witness_TurnRowCommands_3 :
  (w107.awake ∧ (w107.lane 31).turn = some w108 ∧ w108.committed = true ∧ (lmgtBlk lmDONE 3 1 2 0 0).isA btLmgt = true ∧ w107.get
    F.PORT_LSTAT_STATE 31 = 7 ∧ w108.newSender = true ∧ w108.id = (lmgtBlk lmDONE 3 1 2 0 0).lmId ∧ (lmgtBlk lmDONE 3 1 2 0
    0).lmKind = lmDONE ∧ w108.stage = 4) ∧
  (w107.awake ∧ (w107.lane 31).turn = some w108 ∧ w108.committed = true ∧ (lmgtBlk lmFAIL 3 1 2 0 0).isA btLmgt = true ∧ w107.get
    F.PORT_LSTAT_STATE 31 = 7 ∧ w108.newSender = true ∧ w108.id = (lmgtBlk lmFAIL 3 1 2 0 0).lmId ∧ (lmgtBlk lmFAIL 3 1 2 0
    0).lmKind = lmFAIL) ∧
  (w109.awake ∧ (w109.lane 31).turn = some w108 ∧ w108.committed = true ∧ w108.newSender = true ∧ w108.x + 240 + 2 * w109.dl 31 +
    32 ≤ w109.time.ridge.toNat) ∧
  (w107.awake ∧ (w107.lane 31).turn = some w108 ∧ w108.committed = true) ∧
  ((1 : Fin 8) = (1 : Fin 8)) := by decide +kernel

theorem test_witness_TurnRowCommands_4 :
  (((4 : Fin 8) = (3 : Fin 8) ∨ (4 : Fin 8) = (4 : Fin 8))) ∧
  (((6 : Fin 8) = (2 : Fin 8) ∨ (6 : Fin 8) = (5 : Fin 8) ∨ (6 : Fin 8) = (6 : Fin 8))) ∧
  (Rst.awake) := by decide +kernel

theorem test_witness_LinkReceiveCommands_1 :
  (w35.awake ∧ w35.get F.PORT_LSTAT_STATE 31 = 7 ∧ Blk.btype (BitVec.ofNat 64 (pack [(8, btSof), (56, 0)])) = btSof ∧ Blk.crcOk
    (BitVec.ofNat 64 (pack [(8, btSof), (56, 0)])) = false ∧ (w35.link 31).rx = none) ∧
  (w111.awake ∧ w111.get F.PORT_LSTAT_STATE 31 = 7 ∧ w112.btype = btSof ∧ w112.crcOk = true ∧ (w111.link 31).rx = none ∧ w111.get
    F.PORT_LKSTAT_STATE 31 = 2 ∧ w112.sof.kind = 0 ∧ 16 ≤ w112.sof.len ∧ w112.sof.len ≤ 9232 ∧ w112.sof.seq = w111.get
    F.PORT_LKSEQ_RXNEXT 31) ∧
  (w35.awake ∧ w35.get F.PORT_LSTAT_STATE 31 = 7 ∧ w113.btype = btSof ∧ w113.crcOk = true ∧ (w35.link 31).rx = none ∧
    w113.sof.kind = 1 ∧ w113.sof.len = 32) ∧
  (w35.awake ∧ w35.get F.PORT_LSTAT_STATE 31 = 7 ∧ Blk.btype (0 : Blk) ∉ blockTypes) := by decide +kernel

theorem test_witness_LinkReceiveCommands_2 :
  (w35.awake ∧ w35.get F.PORT_LSTAT_STATE 31 = 7 ∧ eiBlk.btype ∈ blockTypes) ∧
  (w35.awake ∧ w35.get F.PORT_LSTAT_STATE 31 = 7 ∧ ((w35.link 31).skip = true ∨ (w35.link 31).rx = none)) ∧
  (w114.awake ∧ w114.get F.PORT_LSTAT_STATE 31 = 7 ∧ (w114.link 31).skip = false ∧ (w114.link 31).rx = some w115 ∧ w115.staged =
    true ∧ w115.blocks = 0 ∧ 1 ≤ w115.sof.sof.len) ∧
  (w116.awake ∧ w116.get F.PORT_LSTAT_STATE 31 = 7 ∧ (w116.link 31).skip = false ∧ (w116.link 31).rx = some w117 ∧ w117.staged =
    true ∧ w117.blocks = 1 ∧ 9 ≤ w117.sof.sof.len) := by decide +kernel

theorem test_witness_LinkReceiveCommands_3 :
  (w118.awake ∧ w118.get F.PORT_LSTAT_STATE 31 = 7 ∧ ((trailerBlk true (crc32 (beBytes 8 (BitVec.toNat
    ({ Blk.sof (0 : Blk) with kind := 0, len := 16 }).blk)))).btype = btEofg ∨ (trailerBlk true (crc32 (beBytes 8 (BitVec.toNat
    ({ Blk.sof (0 : Blk) with kind := 0, len := 16 }).blk)))).btype = btEofb) ∧ (w118.link 31).rx = some w119 ∧ w119.staged = true
    ∧ (trailerBlk true (crc32 (beBytes 8 (BitVec.toNat ({ Blk.sof (0 : Blk) with kind := 0, len := 16 }).blk)))).crcOk = true ∧
    (trailerBlk true (crc32 (beBytes 8 (BitVec.toNat ({ Blk.sof (0 : Blk) with kind := 0, len := 16 }).blk)))).fcrc = crc32
    (beBytes 8 (BitVec.toNat w119.sof) ++ w119.data)) ∧
  (w114.awake ∧ w114.get F.PORT_LSTAT_STATE 31 = 7 ∧ (Blk.btype (BitVec.ofNat 64 (pack [(8, btEofg), (56, 0)])) = btEofg ∨
    Blk.btype (BitVec.ofNat 64 (pack [(8, btEofg), (56, 0)])) = btEofb) ∧ (w114.link 31).rx = some w115 ∧ w115.staged = true ∧
    Blk.crcOk (BitVec.ofNat 64 (pack [(8, btEofg), (56, 0)])) = false) ∧
  (w120.awake ∧ w120.get F.PORT_LSTAT_STATE 31 = 7 ∧ (w120.link 31).rx = some w115 ∧ w115.start + 20000 ≤ w120.time.tick ∧
    w115.sof.sof.kind ≠ 1) ∧
  (w121.awake ∧ w121.get F.PORT_LSTAT_STATE 31 = 7 ∧ (w121.link 31).rx = some w122 ∧ w122.start + 20000 ≤ w121.time.tick ∧
    w122.sof.sof.kind = 1) ∧
  (Rst.frm { sof := (0 : Blk), staged := true, id := 0, start := 0 : RxOpen}.id = none) ∧
  (Rst.awake) := by decide +kernel

theorem test_witness_LinkControlCommands_1 :
  (w111.awake ∧ w111.get F.PORT_LKSTAT_STATE 31 = 2 ∧ (lcbBlk 1 0 false false 0 false 0).isA btLcb = true ∧ (lcbBlk 1 0 false
    false 0 false 0).lcAk = 1 ∧ (w111.link 31).polls = 0) ∧
  (w111.awake ∧ w111.get F.PORT_LKSTAT_STATE 31 = 2 ∧ (lcbBlk 2 0 true false 0 false 0).isA btLcb = true ∧ (lcbBlk 2 0 true false
    0 false 0).lcAk = 2) ∧
  (w123.awake ∧ w123.get F.PORT_LKSTAT_STATE 31 = 2 ∧ (lcbBlk 0 0 false true 0 false 0).isA btLcb = true ∧ (lcbBlk 0 0 false true
    0 false 0).lcPoll = true ∧ ((w123.alive 31).creditField 31 (lcbBlk 0 0 false true 0 false 0).lcPool (lcbBlk 0 0 false true 0
    false 0).lcCount).get F.PORT_LKSTAT_NAKWAIT 31 = 1) ∧
  (w111.awake ∧ w111.get F.PORT_LKSTAT_STATE 31 = 2 ∧ (lcbBlk 0 0 false true 0 false 0).isA btLcb = true ∧ (lcbBlk 0 0 false true
    0 false 0).lcPoll = true ∧ ((w111.alive 31).creditField 31 (lcbBlk 0 0 false true 0 false 0).lcPool (lcbBlk 0 0 false true 0
    false 0).lcCount).get F.PORT_LKSTAT_NAKWAIT 31 = 0) ∧
  (w111.awake ∧ w111.get F.PORT_LKSTAT_STATE 31 = 2 ∧ (lcbBlk 0 0 false false 7 false 127).isA btLcb = true) ∧
  (w111.awake ∧ w111.get F.PORT_LKSTAT_STATE 31 = 2 ∧ w124.isA btSof = true ∧ w124.sof.crshr = true) := by decide +kernel

theorem test_witness_LinkControlCommands_2 :
  (w125.awake ∧ w125.get F.PORT_LKSTAT_STATE 31 = 2 ∧ (w125.link 31).ret ≠ [] ∧ (w125.link 31).rplAt = some 0 ∧ 0 + w125.get
    F.PORT_LKTMO_RPLTMO 31 ≤ w125.time.tick ∧ (w125.link 31).ansAt = some w125.time.tick) ∧
  (w126.awake ∧ w126.get F.PORT_LKSTAT_STATE 31 = 2 ∧ (w126.link 31).ret ≠ [] ∧ (w126.link 31).rplAt = some 0 ∧ 0 + w126.get
    F.PORT_LKTMO_RPLTMO 31 ≤ w126.time.tick ∧ (w126.link 31).ansAt ≠ some w126.time.tick ∧ (w126.link 31).polls < 4) ∧
  (w127.awake ∧ w127.get F.PORT_LKSTAT_STATE 31 = 2 ∧ (w127.link 31).ret ≠ [] ∧ (w127.link 31).rplAt = some 0 ∧ 0 + w127.get
    F.PORT_LKTMO_RPLTMO 31 ≤ w127.time.tick ∧ (w127.link 31).ansAt ≠ some w127.time.tick ∧ 4 ≤ (w127.link 31).polls) ∧
  (w111.awake ∧ w111.get F.PORT_LKSTAT_STATE 31 = 2) ∧
  (w128.awake ∧ w128.get F.PORT_LKSTAT_STATE 31 = 2 ∧ w128.get F.PORT_LKSTAT_TXIDLE 31 = 0 ∧ (w128.link 31).lcbAt + 200 ≤
    w128.time.tick) := by decide +kernel

theorem test_witness_LinkControlCommands_3 :
  (w129.awake ∧ w129.get F.PORT_LKSTAT_STATE 31 = 2 ∧ w129.get F.PORT_LKSTAT_RXIDLE 31 = 0 ∧ (w129.link 31).rxAt + 600 ≤
    w129.time.tick) ∧
  (w130.awake ∧ w130.get F.PORT_LKSTAT_STATE 31 = 2 ∧ (w130.link 31).ackAt = some 0 ∧ 0 ≤ w130.time.tick) ∧
  (w131.awake ∧ w131.get F.PORT_LKSTAT_STATE 31 = 2 ∧ (w131.link 31).ackAt = some 4 ∧ w131.time.tick < 4) ∧
  (w111.get F.PORT_LKSTAT_STATE 31 = 2 ∧ (w111.link 31).replay = [] ∧ (8 < 8 → w111.crd 31 8 + 127 < 256) ∧ (8 = 8 → w111.crd 31 8
    + 127 < 1024)) ∧
  (w111.get F.PORT_LKSTAT_STATE 31 = 2 ∧ (w111.link 31).replay = [] ∧ (8 < 8 → w111.crd 31 8 + 127 < 256) ∧ (8 = 8 → w111.crd 31 8
    + 127 < 1024) ∧ (30 : PortId) ≠ (31 : PortId)) ∧
  (Rst.awake) := by decide +kernel

theorem test_witness_LinkBringUpCommands_1 :
  (w35.awake ∧ w35.get F.PORT_LKSTAT_STATE 31 = 0 ∧ w35.get F.PORT_LSTAT_STATE 31 = 7 ∧ w35.staged 31 = 0) ∧
  (w132.awake ∧ w132.get F.PORT_LKSTAT_STATE 31 = 1 ∧ (w132.link 31).lpAt = some 0 ∧ 0 + 64 ≤ w132.time.tick) ∧
  (w133.awake ∧ w133.get F.PORT_LSTAT_STATE 31 = 7 ∧ (BitVec.ofNat 8 1 :: BitVec.ofNat 8 1 :: List.replicate 30 (BitVec.ofNat 8
    0)).length = 32 ∧ (BitVec.ofNat 8 1 :: BitVec.ofNat 8 1 :: List.replicate 30 (BitVec.ofNat 8 0)).getD 0 (BitVec.ofNat 8 0) =
    BitVec.ofNat 8 1 ∧ (BitVec.ofNat 8 1 :: BitVec.ofNat 8 1 :: List.replicate 30 (BitVec.ofNat 8 0)).getD 1 (BitVec.ofNat 8 0) =
    BitVec.ofNat 8 1 ∧ w133.get F.PORT_LKSTAT_STATE 31 = 1 ∧ (w133.link 31).epoch = some (beNat (sub (BitVec.ofNat 8 1 ::
    BitVec.ofNat 8 1 :: List.replicate 30 (BitVec.ofNat 8 0)) 4 2))) ∧
  (w111.awake ∧ w111.get F.PORT_LSTAT_STATE 31 = 7 ∧ (BitVec.ofNat 8 1 :: BitVec.ofNat 8 1 :: BitVec.ofNat 8 1 :: List.replicate
    29 (BitVec.ofNat 8 0)).length = 32 ∧ (BitVec.ofNat 8 1 :: BitVec.ofNat 8 1 :: BitVec.ofNat 8 1 :: List.replicate 29
    (BitVec.ofNat 8 0)).getD 0 (BitVec.ofNat 8 0) = BitVec.ofNat 8 1 ∧ (BitVec.ofNat 8 1 :: BitVec.ofNat 8 1 :: BitVec.ofNat 8 1
    :: List.replicate 29 (BitVec.ofNat 8 0)).getD 1 (BitVec.ofNat 8 0) = BitVec.ofNat 8 1 ∧ w111.get F.PORT_LKSTAT_STATE 31 = 2 ∧
    beNat (sub (BitVec.ofNat 8 1 :: BitVec.ofNat 8 1 :: BitVec.ofNat 8 1 :: List.replicate 29 (BitVec.ofNat 8 0)) 2 2) ≠ w111.get
    F.PORT_LKSTAT_PEPOCH 31) ∧
  (w134.awake ∧ w134.get F.PORT_LKSTAT_STATE 31 = 1 ∧ (w134.link 31).initAt + 20000 ≤ w134.time.tick) := by decide +kernel

theorem test_witness_LinkBringUpCommands_2 :
  (w135.awake ∧ w135.get F.PORT_LKSTAT_STATE 31 ≠ 0) ∧
  (w136.awake ∧ w136.get F.PORT_LKSTAT_STATE 31 = 0 ∧ (w136.link 31).downAt = some 0 ∧ 0 + 40000 * w136.get F.PORT_LKCTL_HOLD 31 ≤
    w136.time.tick) ∧
  (Rst.get F.PORT_LKSTAT_STATE 31 = 0) ∧
  (Rst.awake) := by decide +kernel

theorem test_witness_TunnelEntryCommands_1 :
  (w137.awake ∧ w137.led.wiped = false ∧ 4095 ≠ 0 ∧ Word.bits (1 : Word) 0 1 = 1 ∧ w137.get F.TUN_W0_STATE 4095 ≠ 0) ∧
  (w137.awake ∧ w137.led.wiped = false ∧ 4095 ≠ 0 ∧ Word.bits (0 : Word) 0 1 = 0 ∧ (w137.get F.TUN_W0_STATE 4095 = 1 ∨ w137.get
    F.TUN_W0_STATE 4095 = 3)) ∧
  (w138.awake ∧ w138.led.wiped = false ∧ 4095 ≠ 0 ∧ Word.bits (0 : Word) 0 1 = 0 ∧ w138.get F.TUN_W0_STATE 4095 = 2 ∧ (w138.tun
    4095).opening = false) ∧
  (Rst.awake ∧ Rst.led.wiped = false ∧ 4095 ≠ 0 ∧ Word.bits (17 : Word) 0 1 = 1 ∧ Rst.get F.TUN_W0_STATE 4095 = 0 ∧ Word.bits (17
    : Word) 4 4 = 1 ∧ Word.bits (17 : Word) 11 1 = 0 ∧ Rst.get F.TUN_W2_FUNC 4095 = 0 ∧ Word.bits (17 : Word) 24 7 = Rst.get
    F.TUN_W0_SLICE 4095) := by decide +kernel

theorem test_witness_TunnelEntryCommands_2 :
  (w138.awake ∧ w138.led.wiped = false ∧ 4095 ≠ 0 ∧ w138.get F.TUN_W0_STATE 4095 = 2 ∧ w138.core.frames = [] ∧ (w138.tun
    4095).retain = []) ∧
  (w139.awake ∧ w139.led.wiped = false ∧ 4095 ≠ 0 ∧ w139.get F.TUN_W0_STATE 4095 = 2 ∧ w139.core.frames = [] ∧ (w139.tun
    4095).drainAt = some 0 ∧ 0 + 200000 ≤ w139.time.tick) ∧
  (Rst.awake ∧ Rst.led.wiped = false ∧ 4095 ≠ 0) ∧
  (w140.awake ∧ w140.time.ridge.toNat % 200 ≠ 0) ∧
  (Rst.awake ∧ Rst.time.ridge.toNat % 200 = 0 ∧ Rst.protTuns = [] ∧ Rst.tuns = []) ∧
  (w141.awake ∧ (w141.takeMsg fun f => f.isMop mopPhb) = some (w142, Rst) ∧ w142.hbEntries = none) := by decide +kernel

theorem test_witness_TunnelEntryCommands_3 :
  (w143.awake ∧ (w143.takeMsg fun f => f.isMop mopPhb) = some (w144, Rst) ∧ w144.hbEntries = some [(1048320, 0)] ∧ Rst.get
    F.TUN_W0_PROT ((1048320, 0).1 / 2 ^ 8 % 2 ^ 12) = 0) ∧
  (w145.awake ∧ (w145.takeMsg fun f => f.isMop mopPhb) = some (w144, w146) ∧ w144.hbEntries = some [(1048320, 0)] ∧ w146.get
    F.TUN_W0_PROT ((1048320, 0).1 / 2 ^ 8 % 2 ^ 12) = 1 ∧ w146.get F.TUN_W0_STATE ((1048320, 0).1 / 2 ^ 8 % 2 ^ 12) = 1 ∧ bitOf
    (1048320, 0).1 7 = false) ∧
  (w147.awake ∧ (w147.takeMsg fun f => f.isMop mopPhb) = some (w148, w146) ∧ w148.hbEntries = some [(1048448, 0)] ∧ w146.get
    F.TUN_W0_PROT ((1048448, 0).1 / 2 ^ 8 % 2 ^ 12) = 1 ∧ (w146.get F.TUN_W0_STATE ((1048448, 0).1 / 2 ^ 8 % 2 ^ 12) = 1 ∨
    w146.get F.TUN_W0_STATE ((1048448, 0).1 / 2 ^ 8 % 2 ^ 12) = 3) ∧ bitOf (1048448, 0).1 7 = true ∧ (w146.tun ((1048448, 0).1 / 2
    ^ 8 % 2 ^ 12)).held = []) ∧
  (w149.awake ∧ (w149.takeMsg fun f => f.isMop mopPack) = some (w150, Rst) ∧ w150.hbEntries = some [(4293918720, 0)] ∧ Rst.get
    F.TUN_W0_PROT ((4293918720, 0).1 / 2 ^ 20 % 2 ^ 12) = 0) := by decide +kernel

theorem test_witness_TunnelEntryCommands_4 :
  (w151.awake ∧ (w151.takeMsg fun f => f.isMop mopPack) = some (w150, w146) ∧ w150.hbEntries = some [(4293918720, 0)] ∧ w146.get
    F.TUN_W0_PROT ((4293918720, 0).1 / 2 ^ 20 % 2 ^ 12) = 1 ∧ w146.get F.TUN_W0_STATE ((4293918720, 0).1 / 2 ^ 20 % 2 ^ 12) ≠ 0 ∧
    bitOf (4293918720, 0).1 7 = false ∧ bitOf (4293918720, 0).1 6 = false ∧ bitOf (4293918720, 0).1 5 = false ∧ bitOf (4293918720,
    0).1 4 = false) ∧
  (w152.awake ∧ w152.core.frames = [(0, some w153)] ∧ w153.phase = Phase.protected_ 5 ∧ w153.ended = some true ∧ w153.retained =
    false ∧ w153.endBad = false ∧ w152.get F.TUN_W0_STATE 5 = 1 ∧ (w152.tun 5).started = true ∧ (w153.hdr.eseq + 2 ^ 24 - w152.get
    F.TUN_W5_RXNEXT 5) % 2 ^ 24 = 0 ∧ (∀ x ∈ (w152.tun 5).held, x.1 ≠ w153.hdr.eseq)) := by decide +kernel

theorem test_witness_TunnelEntryCommands_5 :
  (w154.awake ∧ w154.core.frames = [(0, some w155)] ∧ w155.phase = Phase.protected_ 5 ∧ w155.ended = some true ∧ w155.retained =
    false ∧ w155.endBad = false ∧ w154.get F.TUN_W0_STATE 5 = 1 ∧ (w154.tun 5).started = true ∧ 0 < (w155.hdr.eseq + 2 ^ 24 -
    w154.get F.TUN_W5_RXNEXT 5) % 2 ^ 24 ∧ (w155.hdr.eseq + 2 ^ 24 - w154.get F.TUN_W5_RXNEXT 5) % 2 ^ 24 < 4096 ∧ (∀ x ∈
    (w154.tun 5).held, x.1 ≠ w155.hdr.eseq)) ∧
  (w156.awake ∧ w156.core.frames = [(0, some w155)] ∧ w155.phase = Phase.protected_ 5 ∧ w155.ended = some true ∧ w155.retained =
    false ∧ w155.endBad = false ∧ w156.get F.TUN_W0_STATE 5 = 1 ∧ (w156.tun 5).started = true ∧ (w155.hdr.eseq + 2 ^ 24 - w156.get
    F.TUN_W5_RXNEXT 5) % 2 ^ 24 < 4096 ∧ (∃ x ∈ (w156.tun 5).held, x.1 = w155.hdr.eseq)) := by decide +kernel

theorem test_witness_TunnelEntryCommands_6 :
  (w157.awake ∧ w157.core.frames = [(0, some w158)] ∧ w158.phase = Phase.protected_ 5 ∧ w158.ended = some true ∧ w158.retained =
    false ∧ w158.endBad = false ∧ w157.get F.TUN_W0_STATE 5 = 1 ∧ (w157.tun 5).started = true ∧ 4096 ≤ (w158.hdr.eseq + 2 ^ 24 -
    w157.get F.TUN_W5_RXNEXT 5) % 2 ^ 24 ∧ (w158.hdr.eseq + 2 ^ 24 - w157.get F.TUN_W5_RXNEXT 5) % 2 ^ 24 + 8192 < 2 ^ 24 ∧
    w157.get F.TUN_W5_RXNEXT 5 < 2 ^ 24 ∧ w158.hdr.eseq < 2 ^ 24) ∧
  (w159.awake ∧ w159.core.frames = [(0, some w160)] ∧ w160.phase = Phase.protected_ 5 ∧ w160.ended = some true ∧ w160.retained =
    false ∧ w160.endBad = false ∧ w159.get F.TUN_W0_STATE 5 = 1 ∧ (w159.tun 5).started = true ∧ 2 ^ 24 ≤ (w160.hdr.eseq + 2 ^ 24 -
    w159.get F.TUN_W5_RXNEXT 5) % 2 ^ 24 + 8192 ∧ w159.get F.TUN_W5_RXNEXT 5 < 2 ^ 24 ∧ w160.hdr.eseq < 2 ^ 24) := by decide +kernel

theorem test_witness_TunnelEntryCommands_7 :
  (w161.awake ∧ (w161.tun 5).gapAt = some 0 ∧ 0 + 200 * w161.get F.FAB_TUNCFG_REORDTMO ≤ w161.time.tick ∧ w161.lowestHeld 5 = some
    7) ∧
  (Rst.awake) ∧
  (Rst.awake ∧ Rst.led.wiped = false) := by decide +kernel

theorem test_witness_AdmissionCommands_1 :
  (w162.awake ∧ w162.arriving 31 = [0] ∧ w162.frm 0 = some w163 ∧ w162.get F.CORE_CFG_RAEN = 0 ∧ w163.hdr.hcrc ≠ crc16
    w163.hdr.crcInput) ∧
  (w164.awake ∧ w164.arriving 31 = [0] ∧ w164.frm 0 = some w165 ∧ w164.get F.CORE_CFG_RAEN = 0 ∧ w165.hdr.hcrc = crc16
    w165.hdr.crcInput ∧ w165.hdr.formOk w165.len w165.lcls = false) ∧
  (w166.awake ∧ w166.arriving 31 = [0] ∧ w166.frm 0 = some w167 ∧ w166.get F.CORE_CFG_RAEN = 0 ∧ w167.hdr.hcrc = crc16
    w167.hdr.crcInput ∧ w167.hdr.formOk w167.len w167.lcls = true ∧ w167.hdr.b = false ∧ w167.hdr.dhub ≠ 65535 ∧ w166.get
    F.FAB_ID_VALID = 1 ∧ w166.get F.FAB_ID_HUBID = w167.hdr.dhub ∧ w166.endpointFail w167 = some F.FAB_TUNDISC1_NOEP) := by decide +kernel

theorem test_witness_AdmissionCommands_2 :
  (w168.awake ∧ w168.arriving 31 = [0] ∧ w168.frm 0 = some w169 ∧ w168.get F.CORE_CFG_RAEN = 0 ∧ w169.hdr.hcrc = crc16
    w169.hdr.crcInput ∧ w169.hdr.formOk w169.len w169.lcls = true ∧ w169.hdr.b = false ∧ w169.hdr.dhub ≠ 65535 ∧ w168.get
    F.FAB_ID_VALID = 1 ∧ w168.get F.FAB_ID_HUBID = w169.hdr.dhub ∧ w168.endpointFail w169 = none ∧ w169.hdr.p = false) ∧
  (w170.awake ∧ w170.arriving 31 = [0] ∧ w170.frm 0 = some w171 ∧ w170.get F.CORE_CFG_RAEN = 0 ∧ w171.hdr.hcrc = crc16
    w171.hdr.crcInput ∧ w171.hdr.formOk w171.len w171.lcls = true ∧ w171.hdr.b = false ∧ w171.hdr.dhub ≠ 65535 ∧ (w170.get
    F.FAB_ID_VALID = 0 ∨ w170.get F.FAB_ID_HUBID ≠ w171.hdr.dhub) ∧ w171.hdr.hops = 0) := by decide +kernel

theorem test_witness_AdmissionCommands_3 :
  (w172.awake ∧ w172.arriving 31 = [0] ∧ w172.frm 0 = some w169 ∧ w172.get F.CORE_CFG_RAEN = 0 ∧ w169.hdr.hcrc = crc16
    w169.hdr.crcInput ∧ w169.hdr.formOk w169.len w169.lcls = true ∧ w169.hdr.b = false ∧ w169.hdr.dhub ≠ 65535 ∧ (w172.get
    F.FAB_ID_VALID = 0 ∨ w172.get F.FAB_ID_HUBID ≠ w169.hdr.dhub) ∧ w169.hdr.hops ≠ 0 ∧ w169.retained = false ∧ w172.chooseEgress
    w169.hdr.dhub = none) ∧
  (w173.awake ∧ w173.arriving 31 = [0] ∧ w173.frm 0 = some w169 ∧ w173.get F.CORE_CFG_RAEN = 0 ∧ w169.hdr.hcrc = crc16
    w169.hdr.crcInput ∧ w169.hdr.formOk w169.len w169.lcls = true ∧ w169.hdr.b = false ∧ w169.hdr.dhub ≠ 65535 ∧ (w173.get
    F.FAB_ID_VALID = 0 ∨ w173.get F.FAB_ID_HUBID ≠ w169.hdr.dhub) ∧ w169.hdr.hops ≠ 0 ∧ w169.retained = false ∧ w173.chooseEgress
    w169.hdr.dhub = some (30, false)) := by decide +kernel

theorem test_witness_AdmissionCommands_4 :
  (w174.awake ∧ w174.arriving 31 = [0] ∧ w174.frm 0 = some w169 ∧ w174.get F.CORE_CFG_RAEN = 0 ∧ w169.hdr.hcrc = crc16
    w169.hdr.crcInput ∧ w169.hdr.formOk w169.len w169.lcls = true ∧ w169.hdr.b = false ∧ w169.hdr.dhub ≠ 65535 ∧ (w174.get
    F.FAB_ID_VALID = 0 ∨ w174.get F.FAB_ID_HUBID ≠ w169.hdr.dhub) ∧ w169.hdr.hops ≠ 0 ∧ w169.retained = false ∧ w174.chooseEgress
    w169.hdr.dhub = some (30, true)) ∧
  (w175.frm 0 = some w169 ∧ w169.retained = false ∧ w175.accepts 271 w169.n w169.yellow = true ∧ w175.get F.CORE_CLSCFG_MODE
    w169.hdr.cls = 1) ∧
  (w176.frm 0 = some w169 ∧ w169.retained = false ∧ w176.accepts 271 w169.n w169.yellow = true ∧ w176.get F.CORE_CLSCFG_MODE
    w169.hdr.cls = 0) ∧
  (w177.frm 0 = some w169 ∧ w169.retained = false ∧ w177.accepts 271 w169.n w169.yellow = false ∧ w177.get F.CORE_CLSCFG_MODE
    w169.hdr.cls = 1) := by decide +kernel

theorem test_witness_AdmissionCommands_5 :
  (w178.frm 0 = some w169 ∧ w169.retained = false ∧ w178.accepts 271 w169.n w169.yellow = false ∧ w178.get F.CORE_CLSCFG_MODE
    w169.hdr.cls = 0) ∧
  (Rst.awake ∧ Rst.get F.GLB_FATAL_VALID = 0) ∧
  (Rst.awake ∧ Rst.get F.GLB_FATAL_VALID = 0 ∧ Rst.core.staging = [] ∧ Rst.core.tx = [] ∧ Rst.tuns = []) ∧
  (Rst.awake ∧ Rst.led.wiped = false ∧ Rst.pathLimit Path.pcie = none ∧ Rst.get F.CORE_QCFG_MIN 271 < 262143 ∧ 229376 < Rst.sumMin
    + Rst.get F.CORE_RETQ_QUOTA - Rst.get F.CORE_QCFG_MIN 271 + 262143) ∧
  (Rst.awake ∧ Rst.led.wiped = false ∧ Rst.pathLimit Path.pcie = none ∧ (128 ≤ Rst.get F.CORE_QCFG_MIN 271 ∨ Rst.sumMin + Rst.get
    F.CORE_RETQ_QUOTA - Rst.get F.CORE_QCFG_MIN 271 + 128 ≤ 229376)) ∧
  (Rst.awake ∧ Rst.led.wiped = false ∧ Rst.pathLimit Path.pcie = none ∧ 65536 < 65537) := by decide +kernel

theorem test_witness_AdmissionCommands_6 :
  (w179.awake ∧ w179.led.wiped = false ∧ w179.pathLimit Path.pcie = none ∧ 65536 ≤ 65536 ∧ w179.get F.CORE_RETQ_QUOTA < 65536 ∧
    229376 < w179.sumMin + 65536) ∧
  (Rst.awake ∧ Rst.led.wiped = false ∧ Rst.pathLimit Path.pcie = none ∧ 65536 ≤ 65536 ∧ (65536 ≤ Rst.get F.CORE_RETQ_QUOTA ∨
    Rst.sumMin + 65536 ≤ 229376)) ∧
  (Rst.awake) ∧
  (Rst.awake ∧ Rst.led.wiped = false) := by decide +kernel

theorem test_witness_EgressAndAgeingCommands_1 :
  (Rst.awake ∧ Rst.get F.GLB_FATAL_VALID = 0 ∧ (∀ c < 8, Rst.queue (0 * 8 + c) = [])) ∧
  (w180.awake ∧ 31 < 32 ∧ 7 < 8 ∧ w180.egressFree 31 = true ∧ w180.get F.GLB_FATAL_VALID = 0 ∧ (∀ c' < 8, c' ≠ 7 → w180.queue (31
    * 8 + c') = []) ∧ w180.head (31 * 8 + 7) = some (0, w181) ∧ w180.aged w181 = false ∧ w181.len ≤ (w180.link 31).maxlen ∧
    w180.eligible 31 7 w181 = true) ∧
  (w182.awake ∧ w182.frm 0 = some w183 ∧ w183.phase = Phase.accepted ∧ w182.waits 0 w183 = true ∧ w183.expired = none ∧ w182.life
    w183.hdr.cls = some 1000) ∧
  (w184.awake ∧ w184.get F.CORE_CFG_SWEEPEN = 0) ∧
  (w185.awake ∧ w185.head 255 = some (0, w186) ∧ w185.aged w186 = true) := by decide +kernel

theorem test_witness_EgressAndAgeingCommands_2 :
  (w187.awake ∧ w187.head 255 = some (0, w183) ∧ w187.aged w183 = false ∧ (255 / 8 : ℕ) < 32 ∧ w187.get F.PORT_LKSTAT_STATE (255 /
    8 : ℕ) = 0 ∧ w187.inHold (255 / 8 : ℕ) = false) ∧
  (w188.awake ∧ w188.get F.CORE_CFG_SWEEPEN = 1) ∧
  (Rst.awake ∧ Rst.led.wiped = false) ∧
  (Rst.awake) := by decide +kernel

theorem test_witness_GateCommands_1 :
  (w189.awake ∧ w189.led.wiped = false ∧ w189.get F.TRF_GCTL_EN 33 = 1 ∧ (w189.gate 33).active.isSome = true) ∧
  (Rst.awake ∧ Rst.led.wiped = false ∧ Rst.commitRefused 33 = true) ∧
  (w190.awake ∧ w190.led.wiped = false ∧ w190.commitRefused 33 = false ∧ w190.time.ridge.toNat + 2 ≤ w190.get64
    F.TRF_GBASE_LO_BASE_LO F.TRF_GBASE_HI_BASE_HI 33) ∧
  (w191.awake ∧ w191.led.wiped = false ∧ w191.commitRefused 33 = false ∧ w191.get64 F.TRF_GBASE_LO_BASE_LO F.TRF_GBASE_HI_BASE_HI
    33 < w191.time.ridge.toNat + 2) ∧
  (Rst.awake ∧ Rst.led.wiped = false) ∧
  (w192.awake ∧ w192.led.wiped = false ∧ (w192.gate 33).pending = some 0 ∧ 0 ≤ w192.time.ridge.toNat) ∧
  (Rst.awake ∧ Rst.led.wiped = false ∧ Rst.get F.TRF_GCTL_EN 33 = 0) := by decide +kernel

theorem test_witness_GateCommands_2 :
  (w193.awake ∧ w193.get F.TRF_SHPCFG_EN 31 = 1 ∧ w193.time.ridge.toNat % (1024 * 2 ^ w193.get F.TRF_SHPCFG_WIN 31) = 0 ∧
    w193.time.jumpAt = some 0 ∧ w193.time.tick < 0 + 1024 * 2 ^ w193.get F.TRF_SHPCFG_WIN 31) ∧
  (w194.awake ∧ w194.get F.TRF_SHPCFG_EN 31 = 1 ∧ w194.time.ridge.toNat % (1024 * 2 ^ w194.get F.TRF_SHPCFG_WIN 31) = 0 ∧ (∀ (j :
    ℕ), w194.time.jumpAt = some j → j + 1024 * 2 ^ w194.get F.TRF_SHPCFG_WIN 31 ≤ w194.time.tick) ∧ (w194.lane 31).turn.isSome =
    true) ∧
  (w195.awake ∧ w195.get F.TRF_SHPCFG_EN 31 = 1 ∧ w195.time.ridge.toNat % (1024 * 2 ^ w195.get F.TRF_SHPCFG_WIN 31) = 0 ∧ (∀ (j :
    ℕ), w195.time.jumpAt = some j → j + 1024 * 2 ^ w195.get F.TRF_SHPCFG_WIN 31 ≤ w195.time.tick) ∧ (w195.lane 31).turn = none ∧ 0
    < ((w195.set F.TRF_SHPSTAT_UTX (utilisation ((w195.link 31).txFlow.last (1024 * 2 ^ w195.get F.TRF_SHPCFG_WIN 31)
    (w195.time.ridge.toNat / (1024 * 2 ^ w195.get F.TRF_SHPCFG_WIN 31))) (w195.txRate 31) (1024 * 2 ^ w195.get F.TRF_SHPCFG_WIN
    31)) 31).set F.TRF_SHPSTAT_URX (utilisation ((w195.link 31).rxFlow.last (1024 * 2 ^ w195.get F.TRF_SHPCFG_WIN 31)
    (w195.time.ridge.toNat / (1024 * 2 ^ w195.get F.TRF_SHPCFG_WIN 31))) (w195.rxRate 31) (1024 * 2 ^ w195.get F.TRF_SHPCFG_WIN
    31)) 31).get F.TRF_SHPSTAT_DWLEFT 31) ∧
  (w196.awake ∧ w196.get F.TRF_SHPCFG_EN 31 = 1 ∧ w196.time.ridge.toNat % (1024 * 2 ^ w196.get F.TRF_SHPCFG_WIN 31) = 0 ∧ (∀ (j :
    ℕ), w196.time.jumpAt = some j → j + 1024 * 2 ^ w196.get F.TRF_SHPCFG_WIN 31 ≤ w196.time.tick) ∧ (w196.lane 31).turn = none ∧
    ((w196.set F.TRF_SHPSTAT_UTX (utilisation ((w196.link 31).txFlow.last (1024 * 2 ^ w196.get F.TRF_SHPCFG_WIN 31)
    (w196.time.ridge.toNat / (1024 * 2 ^ w196.get F.TRF_SHPCFG_WIN 31))) (w196.txRate 31) (1024 * 2 ^ w196.get F.TRF_SHPCFG_WIN
    31)) 31).set F.TRF_SHPSTAT_URX (utilisation ((w196.link 31).rxFlow.last (1024 * 2 ^ w196.get F.TRF_SHPCFG_WIN 31)
    (w196.time.ridge.toNat / (1024 * 2 ^ w196.get F.TRF_SHPCFG_WIN 31))) (w196.rxRate 31) (1024 * 2 ^ w196.get F.TRF_SHPCFG_WIN
    31)) 31).get F.TRF_SHPSTAT_DWLEFT 31 = 0 ∧ trigger (((w196.set F.TRF_SHPSTAT_UTX (utilisation ((w196.link 31).txFlow.last
    (1024 * 2 ^ w196.get F.TRF_SHPCFG_WIN 31) (w196.time.ridge.toNat / (1024 * 2 ^ w196.get F.TRF_SHPCFG_WIN 31))) (w196.txRate
    31) (1024 * 2 ^ w196.get F.TRF_SHPCFG_WIN 31)) 31).set F.TRF_SHPSTAT_URX (utilisation ((w196.link 31).rxFlow.last (1024 * 2 ^
    w196.get F.TRF_SHPCFG_WIN 31) (w196.time.ridge.toNat / (1024 * 2 ^ w196.get F.TRF_SHPCFG_WIN 31))) (w196.rxRate 31) (1024 * 2
    ^ w196.get F.TRF_SHPCFG_WIN 31)) 31).get F.PORT_LMODE_CUR 31) (utilisation ((w196.link 31).txFlow.last (1024 * 2 ^ w196.get
    F.TRF_SHPCFG_WIN 31) (w196.time.ridge.toNat / (1024 * 2 ^ w196.get F.TRF_SHPCFG_WIN 31))) (w196.txRate 31) (1024 * 2 ^
    w196.get F.TRF_SHPCFG_WIN 31)) (utilisation ((w196.link 31).rxFlow.last (1024 * 2 ^ w196.get F.TRF_SHPCFG_WIN 31)
    (w196.time.ridge.toNat / (1024 * 2 ^ w196.get F.TRF_SHPCFG_WIN 31))) (w196.rxRate 31) (1024 * 2 ^ w196.get F.TRF_SHPCFG_WIN
    31)) (((w196.set F.TRF_SHPSTAT_UTX (utilisation ((w196.link 31).txFlow.last (1024 * 2 ^ w196.get F.TRF_SHPCFG_WIN 31)
    (w196.time.ridge.toNat / (1024 * 2 ^ w196.get F.TRF_SHPCFG_WIN 31))) (w196.txRate 31) (1024 * 2 ^ w196.get F.TRF_SHPCFG_WIN
    31)) 31).set F.TRF_SHPSTAT_URX (utilisation ((w196.link 31).rxFlow.last (1024 * 2 ^ w196.get F.TRF_SHPCFG_WIN 31)
    (w196.time.ridge.toNat / (1024 * 2 ^ w196.get F.TRF_SHPCFG_WIN 31))) (w196.rxRate 31) (1024 * 2 ^ w196.get F.TRF_SHPCFG_WIN
    31)) 31).get F.TRF_SHPCFG_HI 31) (((w196.set F.TRF_SHPSTAT_UTX (utilisation ((w196.link 31).txFlow.last (1024 * 2 ^ w196.get
    F.TRF_SHPCFG_WIN 31) (w196.time.ridge.toNat / (1024 * 2 ^ w196.get F.TRF_SHPCFG_WIN 31))) (w196.txRate 31) (1024 * 2 ^
    w196.get F.TRF_SHPCFG_WIN 31)) 31).set F.TRF_SHPSTAT_URX (utilisation ((w196.link 31).rxFlow.last (1024 * 2 ^ w196.get
    F.TRF_SHPCFG_WIN 31) (w196.time.ridge.toNat / (1024 * 2 ^ w196.get F.TRF_SHPCFG_WIN 31))) (w196.rxRate 31) (1024 * 2 ^
    w196.get F.TRF_SHPCFG_WIN 31)) 31).get F.TRF_SHPCFG_LO 31) (((w196.set F.TRF_SHPSTAT_UTX (utilisation ((w196.link
    31).txFlow.last (1024 * 2 ^ w196.get F.TRF_SHPCFG_WIN 31) (w196.time.ridge.toNat / (1024 * 2 ^ w196.get F.TRF_SHPCFG_WIN 31)))
    (w196.txRate 31) (1024 * 2 ^ w196.get F.TRF_SHPCFG_WIN 31)) 31).set F.TRF_SHPSTAT_URX (utilisation ((w196.link 31).rxFlow.last
    (1024 * 2 ^ w196.get F.TRF_SHPCFG_WIN 31) (w196.time.ridge.toNat / (1024 * 2 ^ w196.get F.TRF_SHPCFG_WIN 31))) (w196.rxRate
    31) (1024 * 2 ^ w196.get F.TRF_SHPCFG_WIN 31)) 31).backlogged 31) = none) := by decide +kernel

theorem test_witness_GateCommands_3 :
  (w197.awake ∧ w197.get F.TRF_SHPCFG_EN 31 = 1 ∧ w197.time.ridge.toNat % (1024 * 2 ^ w197.get F.TRF_SHPCFG_WIN 31) = 0 ∧ (∀ (j :
    ℕ), w197.time.jumpAt = some j → j + 1024 * 2 ^ w197.get F.TRF_SHPCFG_WIN 31 ≤ w197.time.tick) ∧ (w197.lane 31).turn = none ∧
    ((w197.set F.TRF_SHPSTAT_UTX (utilisation ((w197.link 31).txFlow.last (1024 * 2 ^ w197.get F.TRF_SHPCFG_WIN 31)
    (w197.time.ridge.toNat / (1024 * 2 ^ w197.get F.TRF_SHPCFG_WIN 31))) (w197.txRate 31) (1024 * 2 ^ w197.get F.TRF_SHPCFG_WIN
    31)) 31).set F.TRF_SHPSTAT_URX (utilisation ((w197.link 31).rxFlow.last (1024 * 2 ^ w197.get F.TRF_SHPCFG_WIN 31)
    (w197.time.ridge.toNat / (1024 * 2 ^ w197.get F.TRF_SHPCFG_WIN 31))) (w197.rxRate 31) (1024 * 2 ^ w197.get F.TRF_SHPCFG_WIN
    31)) 31).get F.TRF_SHPSTAT_DWLEFT 31 = 0 ∧ trigger (((w197.set F.TRF_SHPSTAT_UTX (utilisation ((w197.link 31).txFlow.last
    (1024 * 2 ^ w197.get F.TRF_SHPCFG_WIN 31) (w197.time.ridge.toNat / (1024 * 2 ^ w197.get F.TRF_SHPCFG_WIN 31))) (w197.txRate
    31) (1024 * 2 ^ w197.get F.TRF_SHPCFG_WIN 31)) 31).set F.TRF_SHPSTAT_URX (utilisation ((w197.link 31).rxFlow.last (1024 * 2 ^
    w197.get F.TRF_SHPCFG_WIN 31) (w197.time.ridge.toNat / (1024 * 2 ^ w197.get F.TRF_SHPCFG_WIN 31))) (w197.rxRate 31) (1024 * 2
    ^ w197.get F.TRF_SHPCFG_WIN 31)) 31).get F.PORT_LMODE_CUR 31) (utilisation ((w197.link 31).txFlow.last (1024 * 2 ^ w197.get
    F.TRF_SHPCFG_WIN 31) (w197.time.ridge.toNat / (1024 * 2 ^ w197.get F.TRF_SHPCFG_WIN 31))) (w197.txRate 31) (1024 * 2 ^
    w197.get F.TRF_SHPCFG_WIN 31)) (utilisation ((w197.link 31).rxFlow.last (1024 * 2 ^ w197.get F.TRF_SHPCFG_WIN 31)
    (w197.time.ridge.toNat / (1024 * 2 ^ w197.get F.TRF_SHPCFG_WIN 31))) (w197.rxRate 31) (1024 * 2 ^ w197.get F.TRF_SHPCFG_WIN
    31)) (((w197.set F.TRF_SHPSTAT_UTX (utilisation ((w197.link 31).txFlow.last (1024 * 2 ^ w197.get F.TRF_SHPCFG_WIN 31)
    (w197.time.ridge.toNat / (1024 * 2 ^ w197.get F.TRF_SHPCFG_WIN 31))) (w197.txRate 31) (1024 * 2 ^ w197.get F.TRF_SHPCFG_WIN
    31)) 31).set F.TRF_SHPSTAT_URX (utilisation ((w197.link 31).rxFlow.last (1024 * 2 ^ w197.get F.TRF_SHPCFG_WIN 31)
    (w197.time.ridge.toNat / (1024 * 2 ^ w197.get F.TRF_SHPCFG_WIN 31))) (w197.rxRate 31) (1024 * 2 ^ w197.get F.TRF_SHPCFG_WIN
    31)) 31).get F.TRF_SHPCFG_HI 31) (((w197.set F.TRF_SHPSTAT_UTX (utilisation ((w197.link 31).txFlow.last (1024 * 2 ^ w197.get
    F.TRF_SHPCFG_WIN 31) (w197.time.ridge.toNat / (1024 * 2 ^ w197.get F.TRF_SHPCFG_WIN 31))) (w197.txRate 31) (1024 * 2 ^
    w197.get F.TRF_SHPCFG_WIN 31)) 31).set F.TRF_SHPSTAT_URX (utilisation ((w197.link 31).rxFlow.last (1024 * 2 ^ w197.get
    F.TRF_SHPCFG_WIN 31) (w197.time.ridge.toNat / (1024 * 2 ^ w197.get F.TRF_SHPCFG_WIN 31))) (w197.rxRate 31) (1024 * 2 ^
    w197.get F.TRF_SHPCFG_WIN 31)) 31).get F.TRF_SHPCFG_LO 31) (((w197.set F.TRF_SHPSTAT_UTX (utilisation ((w197.link
    31).txFlow.last (1024 * 2 ^ w197.get F.TRF_SHPCFG_WIN 31) (w197.time.ridge.toNat / (1024 * 2 ^ w197.get F.TRF_SHPCFG_WIN 31)))
    (w197.txRate 31) (1024 * 2 ^ w197.get F.TRF_SHPCFG_WIN 31)) 31).set F.TRF_SHPSTAT_URX (utilisation ((w197.link 31).rxFlow.last
    (1024 * 2 ^ w197.get F.TRF_SHPCFG_WIN 31) (w197.time.ridge.toNat / (1024 * 2 ^ w197.get F.TRF_SHPCFG_WIN 31))) (w197.rxRate
    31) (1024 * 2 ^ w197.get F.TRF_SHPCFG_WIN 31)) 31).backlogged 31) = some (1, 3, 0) ∧ (((w197.set F.TRF_SHPSTAT_UTX
    (utilisation ((w197.link 31).txFlow.last (1024 * 2 ^ w197.get F.TRF_SHPCFG_WIN 31) (w197.time.ridge.toNat / (1024 * 2 ^
    w197.get F.TRF_SHPCFG_WIN 31))) (w197.txRate 31) (1024 * 2 ^ w197.get F.TRF_SHPCFG_WIN 31)) 31).set F.TRF_SHPSTAT_URX
    (utilisation ((w197.link 31).rxFlow.last (1024 * 2 ^ w197.get F.TRF_SHPCFG_WIN 31) (w197.time.ridge.toNat / (1024 * 2 ^
    w197.get F.TRF_SHPCFG_WIN 31))) (w197.rxRate 31) (1024 * 2 ^ w197.get F.TRF_SHPCFG_WIN 31)) 31).shep 31).row ≠ 1 ∧ 1 <
    ((w197.set F.TRF_SHPSTAT_UTX (utilisation ((w197.link 31).txFlow.last (1024 * 2 ^ w197.get F.TRF_SHPCFG_WIN 31)
    (w197.time.ridge.toNat / (1024 * 2 ^ w197.get F.TRF_SHPCFG_WIN 31))) (w197.txRate 31) (1024 * 2 ^ w197.get F.TRF_SHPCFG_WIN
    31)) 31).set F.TRF_SHPSTAT_URX (utilisation ((w197.link 31).rxFlow.last (1024 * 2 ^ w197.get F.TRF_SHPCFG_WIN 31)
    (w197.time.ridge.toNat / (1024 * 2 ^ w197.get F.TRF_SHPCFG_WIN 31))) (w197.rxRate 31) (1024 * 2 ^ w197.get F.TRF_SHPCFG_WIN
    31)) 31).get F.TRF_SHPCFG_HOLDN 31) ∧
  (Rst.awake) := by decide +kernel

theorem test_witness_ShaperCommands_1 :
  (Rst.awake ∧ Rst.led.wiped = false) ∧
  (Rst.awake ∧ Rst.led.wiped = false ∧ 271 < 272) ∧
  (w198.awake ∧ w198.led.wiped = false ∧ w198.time.ridge.toNat % (64 * 2 ^ w198.trf.period) ≠ 0) ∧
  (w199.awake ∧ w199.led.wiped = false ∧ w199.time.ridge.toNat % (64 * 2 ^ w199.trf.period) = 0 ∧ w199.trf.pendS = [] ∧
    w199.trf.pendM = [] ∧ w199.trf.meters = [] ∧ w199.trf.shapers = [(7, { en := true, rate := 5, burst := 9 : ShaperSt})]) ∧
  ({ en := true : ShaperSt}.en = true) ∧
  ((w200.shaper 5).en = true) ∧
  ({ en := true : MeterSt}.en = true ∧ { en := true : MeterSt}.aware = false ∧ { en := true : MeterSt}.tp < ↑(4096 * 1)) ∧
  ({ tp := 4096, en := true : MeterSt}.en = true ∧ { tp := 4096, en := true : MeterSt}.aware = false ∧ ↑(4096 * 1) ≤
    { tp := 4096, en := true : MeterSt}.tp ∧ { tp := 4096, en := true : MeterSt}.tc < ↑(4096 * 1)) := by decide +kernel

theorem test_witness_ShaperCommands_2 :
  ({ tc := 4096, tp := 4096, en := true : MeterSt}.en = true ∧ { tc := 4096, tp := 4096, en := true : MeterSt}.aware = false ∧
    ↑(4096 * 1) ≤ { tc := 4096, tp := 4096, en := true : MeterSt}.tp ∧ ↑(4096 * 1) ≤
    { tc := 4096, tp := 4096, en := true : MeterSt}.tc) ∧
  (Rst.awake) := by decide +kernel

theorem test_witness_FabricMessageCommands_1 :
  (w201.awake ∧ w202.fld 8 15 = 1 ∧ w202.src < 32 ∧ w111.get F.PORT_LKSTAT_STATE w202.src = 2 ∧ (w201.takeMsg fun x => x.isMop
    mopHello) = some (w202, w111)) ∧
  (w203.awake ∧ w205.fld 8 15 = 1 ∧ w205.src < 32 ∧ w204.get F.PORT_LKSTAT_STATE w205.src = 2 ∧ (w203.takeMsg fun x => x.isMop
    mopHello) = some (w205, w204) ∧ w204.get F.TIME_CTL_SUMMIT = 1 ∧ w205.fld 37 37 = 1) ∧
  (w206.awake ∧ w207.fld 8 15 = 1 ∧ w207.src < 32 ∧ w111.get F.PORT_LKSTAT_STATE w207.src = 2 ∧ (w206.takeMsg fun x => x.isMop
    mopDlg) = some (w207, w111) ∧ w111.role w207.src ≠ 2) ∧
  (w208.awake ∧ w210.fld 8 15 = 1 ∧ w210.src < 32 ∧ w209.get F.PORT_LKSTAT_STATE w210.src = 2 ∧ (w208.takeMsg fun x => x.isMop
    mopDlg) = some (w210, w209) ∧ w209.role w210.src = 2 ∧ w209.get F.FAB_CTL_SITEID ≠ 0 ∧ w209.get F.FAB_CTL_SITEID ≠ w210.fld 16
    31) := by decide +kernel

theorem test_witness_FabricMessageCommands_2 :
  (w211.awake ∧ w213.fld 8 15 = 1 ∧ w213.src < 32 ∧ w212.get F.PORT_LKSTAT_STATE w213.src = 2 ∧ (w211.takeMsg fun x => x.isMop
    mopDlg) = some (w213, w212) ∧ w212.role w213.src = 2 ∧ w212.get F.FAB_CTL_SITEID ≠ 0 ∧ w212.get F.FAB_CTL_SITEID = w213.fld 16
    31 ∧ w212.get F.FAB_ID_VALID = 1 ∧ (w212.get F.FAB_ID_HUBID = w213.fld 32 47 ∧ w212.get F.FAB_ID_LEN = w213.fld 48 52)) ∧
  (w214.awake ∧ w215.fld 8 15 = 1 ∧ w215.src < 32 ∧ w212.get F.PORT_LKSTAT_STATE w215.src = 2 ∧ (w214.takeMsg fun x => x.isMop
    mopDlg) = some (w215, w212) ∧ w212.role w215.src = 2 ∧ w212.get F.FAB_CTL_SITEID ≠ 0 ∧ w212.get F.FAB_CTL_SITEID = w215.fld 16
    31 ∧ w212.get F.FAB_ID_VALID = 1 ∧ (w212.get F.FAB_ID_HUBID ≠ w215.fld 32 47 ∨ w212.get F.FAB_ID_LEN ≠ w215.fld 48 52)) := by decide +kernel

theorem test_witness_FabricMessageCommands_3 :
  (w216.awake ∧ w215.fld 8 15 = 1 ∧ w215.src < 32 ∧ w209.get F.PORT_LKSTAT_STATE w215.src = 2 ∧ (w216.takeMsg fun x => x.isMop
    mopDlg) = some (w215, w209) ∧ w209.role w215.src = 2 ∧ w209.get F.FAB_CTL_SITEID ≠ 0 ∧ w209.get F.FAB_CTL_SITEID = w215.fld 16
    31 ∧ w209.get F.FAB_ID_VALID = 0) ∧
  (w217.awake ∧ w215.fld 8 15 = 1 ∧ w215.src < 32 ∧ w218.get F.PORT_LKSTAT_STATE w215.src = 2 ∧ (w217.takeMsg fun x => x.isMop
    mopDlg) = some (w215, w218) ∧ w218.role w215.src = 2 ∧ w218.get F.FAB_CTL_SITEID = 0 ∧ w218.get F.FAB_ID_VALID = 0) ∧
  (w219.awake ∧ w220.fld 8 15 = 1 ∧ w220.src < 32 ∧ w111.get F.PORT_LKSTAT_STATE w220.src = 2 ∧ (w219.takeMsg fun x => x.isMop
    mopDlgack) = some (w220, w111) ∧ w111.role w220.src ≠ 1) := by decide +kernel

theorem test_witness_FabricMessageCommands_4 :
  (w221.awake ∧ w223.fld 8 15 = 1 ∧ w223.src < 32 ∧ w222.get F.PORT_LKSTAT_STATE w223.src = 2 ∧ (w221.takeMsg fun x => x.isMop
    mopDlgack) = some (w223, w222) ∧ w222.role w223.src = 1 ∧ (w222.fabp w223.src).offer = some (w223.fld 48 63, 6, 1) ∧ 6 =
    w223.fld 64 68 ∧ (w222.fabp w223.src).await = true ∧ (w222.fabp w223.src).sends ≤ 1 ∧ w223.fld 32 35 = 0) ∧
  (w224.awake ∧ w225.fld 8 15 = 1 ∧ w225.src < 32 ∧ w222.get F.PORT_LKSTAT_STATE w225.src = 2 ∧ (w224.takeMsg fun x => x.isMop
    mopDlgack) = some (w225, w222) ∧ w222.role w225.src = 1 ∧ (w222.fabp w225.src).offer = some (w225.fld 48 63, 6, 1) ∧ 6 =
    w225.fld 64 68 ∧ (w222.fabp w225.src).await = true ∧ (w222.fabp w225.src).sends ≤ 1 ∧ w225.fld 32 35 ≠ 0) := by decide +kernel

theorem test_witness_FabricMessageCommands_5 :
  (w226.awake ∧ w227.fld 8 15 = 1 ∧ w227.src < 32 ∧ w111.get F.PORT_LKSTAT_STATE w227.src = 2 ∧ (w226.takeMsg fun x => x.isMop
    mopReady) = some (w227, w111) ∧ w111.role w227.src ≠ 1) ∧
  (w228.awake ∧ w227.fld 8 15 = 1 ∧ w227.src < 32 ∧ w229.get F.PORT_LKSTAT_STATE w227.src = 2 ∧ (w228.takeMsg fun x => x.isMop
    mopReady) = some (w227, w229) ∧ w229.role w227.src = 1) ∧
  (w230.awake ∧ w231.fld 8 15 = 1 ∧ w231.src < 32 ∧ w111.get F.PORT_LKSTAT_STATE w231.src = 2 ∧ (w230.takeMsg fun x => x.isMop
    mopSiteready) = some (w231, w111) ∧ w111.role w231.src ≠ 2) ∧
  (w232.awake ∧ w231.fld 8 15 = 1 ∧ w231.src < 32 ∧ w218.get F.PORT_LKSTAT_STATE w231.src = 2 ∧ (w232.takeMsg fun x => x.isMop
    mopSiteready) = some (w231, w218) ∧ w218.role w231.src = 2) := by decide +kernel

theorem test_witness_FabricMessageCommands_6 :
  (w233.awake ∧ (w233.fabp 31).await = true ∧ (w233.fabp 31).sentAt + 20000 ≤ w233.time.tick ∧ w233.get F.PORT_LKSTAT_STATE 31 = 2
    ∧ (w233.fabp 31).offer = some (4096, 6, 1) ∧ (w233.fabp 31).sends < 4) ∧
  (w234.awake ∧ (w234.fabp 31).await = true ∧ (w234.fabp 31).sentAt + 20000 ≤ w234.time.tick ∧ w234.get F.PORT_LKSTAT_STATE 31 = 2
    ∧ (w234.fabp 31).offer = some (4096, 6, 1) ∧ 4 ≤ (w234.fabp 31).sends) ∧
  (w235.awake ∧ w235.fab.groups = 0 ∧ 0 < 4 ∧ w235.fab.startAt = some 0 ∧ 0 + 0 * 200000 * w235.get F.FAB_CTL_GRPSP ≤
    w235.time.tick) ∧
  (w236.awake ∧ w236.role 31 = 1 ∧ w236.get F.FAB_PORTSTAT_STATE 31 = 2 ∧ (w236.fabp 31).group = some 0 ∧ 0 + 2000000 * w236.get
    F.FAB_CTL_PORTTMO ≤ w236.time.tick ∧ (w236.fabp 31).helloAt ≠ some (0 + 2000000 * w236.get F.FAB_CTL_PORTTMO)) := by decide +kernel

theorem test_witness_FabricMessageCommands_7 :
  (w237.awake ∧ w237.role 31 = 1 ∧ w237.get F.FAB_PORTSTAT_STATE 31 = 2 ∧ (w237.fabp 31).group = some 0 ∧ 0 + 2000000 * w237.get
    F.FAB_CTL_PORTTMO ≤ w237.time.tick ∧ (w237.fabp 31).helloAt = some (0 + 2000000 * w237.get F.FAB_CTL_PORTTMO)) ∧
  (Rst.awake) := by decide +kernel

theorem test_witness_ManagementCommands_1 :
  (w238.awake ∧ (w238.takeMsg fun f => f.isReq 1) = some (w239, Rst) ∧ Rst.reqPath w239 = (w240, Sum.inr 2)) ∧
  (w241.awake ∧ (w241.takeMsg fun f => f.isReq 1) = some (w242, Rst) ∧ Rst.reqPath w242 = (Rst, Sum.inl Path.own) ∧ w242.reqForm =
    false) ∧
  (w243.awake ∧ (w243.takeMsg fun f => f.isReq 1) = some (w244, w245) ∧ w245.reqPath w244 = (w245, Sum.inl (Path.tunnel (15 : Fin
    16))) ∧ w244.reqForm = true ∧ w245.reachAll (Path.tunnel (15 : Fin 16)) w244 = false) ∧
  (w246.awake ∧ (w246.takeMsg fun f => f.isReq 1) = some (w247, Rst) ∧ Rst.reqPath w247 = (Rst, Sum.inl Path.own) ∧ w247.reqForm =
    true ∧ Rst.reachAll Path.own w247 = true ∧ w247.count = 1) ∧
  (w248.awake ∧ (w248.takeMsg fun f => f.isReq 2) = some (w249, Rst) ∧ Rst.reqPath w249 = (w250, Sum.inr 2)) ∧
  (w251.awake ∧ (w251.takeMsg fun f => f.isReq 2) = some (w252, w253) ∧ w253.reqPath w252 = (w253, Sum.inl (Path.tunnel (15 : Fin
    16))) ∧ w253.keptWrite (Path.tunnel (15 : Fin 16)) w252.reqid = some 0) := by decide +kernel

theorem test_witness_ManagementCommands_2 :
  (w254.awake ∧ (w254.takeMsg fun f => f.isReq 2) = some (w255, w245) ∧ w245.reqPath w255 = (w245, Sum.inl (Path.tunnel (15 : Fin
    16))) ∧ w245.keptWrite (Path.tunnel (15 : Fin 16)) w255.reqid = none ∧ w255.reqForm = true ∧ w245.reachAll (Path.tunnel (15 :
    Fin 16)) w255 = false) ∧
  (w256.awake ∧ (w256.takeMsg fun f => f.isReq 2) = some (w257, Rst) ∧ Rst.reqPath w257 = (Rst, Sum.inl Path.own) ∧ Rst.keptWrite
    Path.own w257.reqid = none ∧ w257.reqForm = true ∧ Rst.reachAll Path.own w257 = true ∧ (Rst.mgrHold Path.own).writeAll
    { otp := { : Otp}.bits, straps := BitVec.toNat (0 : BitVec 8) : Env} Path.own w257.maddr (reqWords w257.count (List.drop 16
    w257.data)) = (w258, false, true)) ∧
  (w259.awake ∧ (w259.takeMsg fun f => f.hdr.type == 0 && f.hdr.dtun == 0 && f.mgmtReq && f.mop != 1 && f.mop != 2) = some (w260,
    Rst) ∧ Rst.reqPath w260 = (w261, Sum.inr 2)) ∧
  (w262.awake ∧ (w262.takeMsg fun f => f.hdr.type == 0 && f.hdr.dtun == 0 && f.mgmtReq && f.mop != 1 && f.mop != 2) = some (w263,
    Rst) ∧ Rst.reqPath w263 = (Rst, Sum.inl Path.own)) ∧
  (w264.awake ∧ w264.boot.rom = Rom.running ∧ Tab.get (0, 0) w264.boot.mreqs (BitVec.toNat (7 : BitVec 16)) = (1, 0) ∧ (1 = 0 ∨ 0
    + 20000 ≤ w264.time.tick) ∧ 1 < 2) := by decide +kernel

theorem test_witness_ManagementCommands_3 :
  (w265.awake ∧ w265.boot.rom = Rom.running ∧ Tab.get (0, 0) w265.boot.mreqs (BitVec.toNat (7 : BitVec 16)) = (2, 0) ∧ (2 = 0 ∨ 0
    + 20000 ≤ w265.time.tick) ∧ 2 ≤ 2) ∧
  (w263.src = 33) ∧
  (w260.src ≠ 33 ∧ Rst.mgrSlot w260.hdr.shub = none) ∧
  (w260.src ≠ 33 ∧ w266.mgrSlot w260.hdr.shub = some 15 ∧ w260.hdr.a = false ∧ w266.get F.FAB_MGMTCFG_REQAUTH = 1) ∧
  (w260.src ≠ 33 ∧ w267.mgrSlot w260.hdr.shub = some 15 ∧ w260.hdr.a = false ∧ w267.get F.FAB_MGMTCFG_REQAUTH = 0) ∧
  (w269.src ≠ 33 ∧ w268.mgrSlot w269.hdr.shub = some 15 ∧ w269.hdr.a = true ∧ w268.untag w269 = none) ∧
  (Rst.awake) := by decide +kernel

theorem test_witness_ConfigCommands_1 :
  (w272.awake ∧ w272.boot.rom = Rom.running ∧ w272.get F.MGMT_STAT_RUNNING = 1 ∧ w272.strap 4 = false ∧ w272.boot.cfg = false ∧
    { w272 with boot := { w272.boot with cfg := true } }.cfgOk [] = false) ∧
  (w273.awake ∧ w273.get F.FAB_SITE_JOINED = 1 ∧ w273.get F.FAB_ID_VALID = 1 ∧ (w273.boot.join.any fun j => j.1 == w273.get
    F.FAB_ID_HUBID) = true) ∧
  (w274.awake ∧ w274.boot.run_ = some { words := [], waitAt := some 0 : CfgRun} ∧ { words := [], waitAt := some 0 : CfgRun}.waitAt
    = some 0 ∧ 0 ≤ w274.time.tick) ∧
  (w275.awake ∧ w275.boot.run_ = some { words := [], poll := some (0, 0, 0, 9) : CfgRun} ∧
    { words := [], poll := some (0, 0, 0, 9) : CfgRun}.poll = some (0, 0, 0, 9) ∧ Rst.readEffect w275 Path.mgmt 0 = (Rst, w275) ∧
    BitVec.toNat (Rst.view Path.mgmt 0) &&& 0 = 0) ∧
  (w276.awake ∧ w276.boot.run_ = some { words := [], poll := some (0, 0, 1, 0) : CfgRun} ∧
    { words := [], poll := some (0, 0, 1, 0) : CfgRun}.poll = some (0, 0, 1, 0) ∧ Rst.readEffect w276 Path.mgmt 0 = (Rst, w276) ∧
    BitVec.toNat (Rst.view Path.mgmt 0) &&& 0 ≠ 1 ∧ 0 ≤ w276.time.tick) := by decide +kernel

theorem test_witness_ConfigCommands_2 :
  (w277.awake ∧ w277.boot.run_ = some { words := [], poll := some (0, 0, 1, 9) : CfgRun} ∧
    { words := [], poll := some (0, 0, 1, 9) : CfgRun}.poll = some (0, 0, 1, 9) ∧ Rst.readEffect w277 Path.mgmt 0 = (Rst, w277) ∧
    BitVec.toNat (Rst.view Path.mgmt 0) &&& 0 ≠ 1 ∧ w277.time.tick < 9) ∧
  (([] : List Nat).length < 2 ^ 28 ∧ Rst.writeRun { otp := [], straps := 0 : Env} Path.mgmt 0 (List.map (BitVec.ofNat 32) []) =
    (Rst, true)) ∧
  (0 ≤ 524288 ∧ Rst.writeRun { otp := [], straps := 0 : Env} Path.mgmt 0 (List.replicate 0 (BitVec.ofNat 32 0)) = (Rst, true)) ∧
  (0 < 2 ^ 28) ∧
  (Rst.awake) := by decide +kernel

theorem test_witness_DoorbellCommands_1 :
  (Rst.awake ∧ Rst.led.wiped = false ∧ (0 : BitVec 4) ≠ BitVec.ofNat 4 15) ∧
  (Rst.awake ∧ Rst.led.wiped = false ∧ Rst.get F.RCTX0_STATE (Word.bits (0 : Word) 0 12) ≠ 1) ∧
  (w278.awake ∧ w278.led.wiped = false ∧ w278.get F.RCTX0_SLICE (Word.bits (0 : Word) 0 12) ≠ 127) ∧
  (w279.awake ∧ w279.led.wiped = false ∧ w279.get F.RCTX0_STATE (Word.bits (983040 : Word) 0 12) = 1 ∧ w279.get F.RCTX0_SLICE
    (Word.bits (983040 : Word) 0 12) = 0 ∧ Word.bits (983040 : Word) 16 16 < 2 ^ w279.get F.RCTX0_LOG2N (Word.bits (983040 : Word)
    0 12)) ∧
  (w279.awake ∧ w279.led.wiped = false ∧ w279.get F.RCTX0_STATE (Word.bits (1048576 : Word) 0 12) = 1 ∧ w279.get F.RCTX0_SLICE
    (Word.bits (1048576 : Word) 0 12) = 0 ∧ 2 ^ w279.get F.RCTX0_LOG2N (Word.bits (1048576 : Word) 0 12) ≤ Word.bits (1048576 :
    Word) 16 16) ∧
  (w279.awake ∧ w279.led.wiped = false ∧ w279.get F.RCTX0_STATE (Word.bits (0 : Word) 0 12) = 1 ∧ w279.get F.RCTX0_SLICE
    (Word.bits (0 : Word) 0 12) = 0) := by decide +kernel

theorem test_witness_DoorbellCommands_2 :
  (w279.awake ∧ w279.led.wiped = false ∧ w279.get F.RCTX0_STATE (Word.bits (0 : Word) 0 12) = 1 ∧ w279.pathLimit Path.pcie = none
    ∧ Word.bits (0 : Word) 16 16 < 2 ^ w279.get F.RCTX0_LOG2N (Word.bits (0 : Word) 0 12)) ∧
  (w279.awake ∧ w279.led.wiped = false ∧ w279.get F.RCTX0_STATE (Word.bits (0 : Word) 0 12) = 1 ∧ w279.pathLimit Path.pcie = none) ∧
  (Rst.awake ∧ Rst.led.wiped = false) := by decide +kernel

theorem test_witness_RingFetchCommands_1 :
  (w280.live ∧ w280.get F.RCTX0_STATE 4095 = 1 ∧ 0 < min (w280.get F.HIF_FETCHCFG_BATCH) (min (2 ^ w280.get F.RCTX0_LOG2N 4095 -
    (w280.ring 4095).next) ((w280.get F.RCTX6_PIDX 4095 + 2 ^ w280.get F.RCTX0_LOG2N 4095 - (w280.ring 4095).next) % 2 ^ w280.get
    F.RCTX0_LOG2N 4095)) ∧ (w280.get F.RCTX0_KIND 4095 = 0 → w280.hostStaged < 1024)) ∧
  (Rst.live ∧ (Rst.get F.RCTX0_STATE 4095 ≠ 1 ∨ Rst.get F.RCTX0_KIND 4095 = 0 ∧ 1024 ≤ Rst.hostStaged)) ∧
  (w281.live ∧ w281.oldestRead (ofDescs 4095) = some w282 ∧ w282.who = ReadFor.desc 4095 0 ∧ 4 * [BitVec.ofNat 32 0, BitVec.ofNat
    32 0, BitVec.ofNat 32 0, BitVec.ofNat 32 0, BitVec.ofNat 32 0, BitVec.ofNat 32 0, BitVec.ofNat 32 0, BitVec.ofNat 32 0].length
    = w281.fetchDue w282.fetch ∧ w282.dead = false) ∧
  (w283.live ∧ w283.oldestRead (ofDescs 4095) = some w284 ∧ w284.who = ReadFor.desc 4095 0 ∧ 4 * [BitVec.ofNat 32 0, BitVec.ofNat
    32 0, BitVec.ofNat 32 0, BitVec.ofNat 32 0, BitVec.ofNat 32 0, BitVec.ofNat 32 0, BitVec.ofNat 32 0, BitVec.ofNat 32 0].length
    = w283.fetchDue w284.fetch ∧ w284.dead = true) ∧
  (w285.live ∧ (w285.ring 4095).descs = [{ slot := 0, w := [0, 64], stage := DStage.checked : Desc}] ∧
    { slot := 0, w := [0, 64], stage := DStage.checked : Desc}.stage = DStage.checked ∧ w285.get F.RCTX0_STATE 4095 = 1 ∧ w285.get
    F.RCTX0_KIND 4095 = 0 ∧ 0 < { slot := 0, w := [0, 64], stage := DStage.checked : Desc}.needs 0 ∧ w285.mayFetch 4095 0
    { slot := 0, w := [0, 64], stage := DStage.checked : Desc} = true) := by decide +kernel

theorem test_witness_RingFetchCommands_2 :
  (w286.live ∧ w286.oldestRead (ofData 4095 none) = some w287 ∧ w287.who = ReadFor.data 4095 0 ∧ [BitVec.ofNat 8 7].length ≤
    w286.fetchDue w287.fetch ∧ w287.dead = false) ∧
  (w288.live ∧ w288.oldestRead (ofData 4095 none) = some w289 ∧ w289.who = ReadFor.data 4095 0 ∧ [BitVec.ofNat 8 7].length ≤
    w288.fetchDue w289.fetch ∧ w289.dead = true) ∧
  (w290.live ∧ w290.oldestRead (ofDescs 4095) = some w282 ∧ w282.who = ReadFor.desc 4095
    { slot := 0, n := 1, fails := 1 : DRead}.slot ∧ w282.dead = false ∧ (((w290.fetchEnd w282.fetch).emit Out.aer).ring
    4095).reads = [{ slot := 0, n := 1, fails := 1 : DRead}] ∧ { slot := 0, n := 1, fails := 1 : DRead}.fails < 2) ∧
  (w291.live ∧ w291.oldestRead (ofDescs 4095) = some w282 ∧ w282.who = ReadFor.desc 4095
    { slot := 0, n := 1, fails := 2 : DRead}.slot ∧ w282.dead = false ∧ (((w291.fetchEnd w282.fetch).emit Out.aer).ring
    4095).reads = [{ slot := 0, n := 1, fails := 2 : DRead}] ∧ 2 ≤ { slot := 0, n := 1, fails := 2 : DRead}.fails) := by decide +kernel

theorem test_witness_RingFetchCommands_3 :
  (w292.live ∧ w292.oldestRead (ofData 4095 none) = some w287 ∧ w287.who = ReadFor.data 4095
    { slot := 0, w := [0, 1], stage := DStage.fetching, asked := 1, fails := 1 : Desc}.slot ∧ w287.dead = false ∧ (((w292.fetchEnd
    w287.fetch).emit Out.aer).ring 4095).descs =
    [{ slot := 0, w := [0, 1], stage := DStage.fetching, asked := 1, fails := 1 : Desc}] ∧
    { slot := 0, w := [0, 1], stage := DStage.fetching, asked := 1, fails := 1 : Desc}.stage = DStage.fetching ∧
    { slot := 0, w := [0, 1], stage := DStage.fetching, asked := 1, fails := 1 : Desc}.fails < 2) ∧
  (w293.live ∧ (w293.ring 4095).reads = [{ slot := 0, n := 1, retryAt := some 0 : DRead}] ∧ (w293.ring 4095).descs = [] ∧
    { slot := 0, n := 1, retryAt := some 0 : DRead}.retryAt = some 0 ∧ 0 ≤ w293.time.tick ∧ w293.get F.RCTX0_STATE 4095 = 1) ∧
  (w294.live ∧ (w294.ring 4095).reads = [{ slot := 0, n := 1, retryAt := some 0 : DRead}] ∧ (w294.ring 4095).descs = [] ∧
    { slot := 0, n := 1, retryAt := some 0 : DRead}.retryAt = some 0 ∧ 0 ≤ w294.time.tick ∧ w294.get F.RCTX0_STATE 4095 = 3 ∧
    w294.peri.sess = []) ∧
  (w295.live ∧ w295.mayInt 4095 = true ∧ 0 < (w295.ring 4095).pend ∧ w295.get F.RCTX5_MTMO 4095 ≠ 0 ∧ (w295.ring 4095).first =
    some 0 ∧ 0 + 200 * w295.get F.RCTX5_MTMO 4095 ≤ w295.time.tick) := by decide +kernel

theorem test_witness_RingFetchCommands_4 :
  (w296.live ∧ w296.get F.RCTX0_STATE 4095 = 1 ∧ w296.get F.RCTX0_REMOTE 4095 = 1 ∧ w296.get64 F.RCTX8_PADDR_LO F.RCTX9_PADDR_HI
    4095 ≠ 0 ∧ (w296.ring 4095).polling = false ∧ (w296.ring 4095).polled + w296.get F.RCTX10_POLL 4095 ≤ w296.time.tick) ∧
  (w297.live ∧ (w297.ring 4095).descs = [{ slot := 0, w := [0, 1], stage := DStage.offered, moved := 1 : Desc}] ∧ w297.get
    F.RCTX0_KIND 4095 = 3 ∧ { slot := 0, w := [0, 1], stage := DStage.offered, moved := 1 : Desc}.stage = DStage.offered ∧
    { slot := 0, w := [0, 1], stage := DStage.offered, moved := 1 : Desc}.moved =
    { slot := 0, w := [0, 1], stage := DStage.offered, moved := 1 : Desc}.len 3 ∧
    { slot := 0, w := [0, 1], stage := DStage.offered, moved := 1 : Desc}.f 0 23 1 = 0) ∧
  (Rst.live) := by decide +kernel

theorem test_witness_RingStateCommands_1 :
  (Rst.awake ∧ Rst.led.wiped = false ∧ Word.bits (2147483648 : Word) 31 1 = 1 ∧ Tab.get (BitVec.ofNat 32 0) Rst.led.hot
    (F.RCTX0_EN.addr (Rst.get F.HIF_RSEL_RING Path.pcie.sel) 0) = BitVec.ofNat 32 0 ∧ Rst.get F.RCTX0_STATE (Rst.get
    F.HIF_RSEL_RING Path.pcie.sel) = 0 ∧ (Word.bits (2147483648 : Word) 23 5 < 4 ∨ 16 < Word.bits (2147483648 : Word) 23 5)) ∧
  (w298.awake ∧ w298.led.wiped = false ∧ Word.bits (2181038080 : Word) 31 1 = 1 ∧ Tab.get (BitVec.ofNat 32 0) w298.led.hot
    (F.RCTX0_EN.addr (w298.get F.HIF_RSEL_RING Path.pcie.sel) 0) = BitVec.ofNat 32 0 ∧ w298.get F.RCTX0_STATE (w298.get
    F.HIF_RSEL_RING Path.pcie.sel) = 0 ∧ 4 ≤ Word.bits (2181038080 : Word) 23 5 ∧ Word.bits (2181038080 : Word) 23 5 ≤ 16 ∧
    Word.bits (2181038080 : Word) 20 3 = 0 ∧ Word.bits (2181038080 : Word) 8 7 = w298.get F.RCTX0_SLICE (w298.get F.HIF_RSEL_RING
    Path.pcie.sel) ∧ Word.bits (2181038080 : Word) 19 1 = 0 ∧ w298.get F.RCTX1_DBASE_LO (w298.get F.HIF_RSEL_RING Path.pcie.sel) %
    64 = 0 ∧ w298.get F.RCTX3_CBASE_LO (w298.get F.HIF_RSEL_RING Path.pcie.sel) % 64 = 0 ∧ w298.get F.SLC_BIND_VALID (Word.bits
    (2181038080 : Word) 8 7) = 1) ∧
  (w299.awake ∧ w299.led.wiped = false ∧ Word.bits (2147483648 : Word) 31 1 = 1 ∧ Tab.get (BitVec.ofNat 32 0) w299.led.hot
    (F.RCTX0_EN.addr (w299.get F.HIF_RSEL_RING Path.pcie.sel) 0) = BitVec.ofNat 32 0 ∧ w299.get F.RCTX0_STATE (w299.get
    F.HIF_RSEL_RING Path.pcie.sel) ≠ 0) := by decide +kernel

theorem test_witness_RingStateCommands_2 :
  (w300.awake ∧ w300.led.wiped = false ∧ Word.bits (0 : Word) 31 1 = 0 ∧ Tab.get (BitVec.ofNat 32 0) w300.led.hot (F.RCTX0_EN.addr
    (w300.get F.HIF_RSEL_RING Path.pcie.sel) 0) = BitVec.ofNat 32 0 ∧ (w300.get F.RCTX0_STATE (w300.get F.HIF_RSEL_RING
    Path.pcie.sel) = 1 ∨ w300.get F.RCTX0_STATE (w300.get F.HIF_RSEL_RING Path.pcie.sel) = 3)) ∧
  (w301.live ∧ w301.get F.RCTX0_STATE 4095 = 2 ∧ (w301.ring 4095).resetAt = some 0 ∧ 0 + 20000 ≤ w301.time.tick ∧ Tab.get none
    (w301.squashRing 4095).hif.srst ((w301.squashRing 4095).rSlice 4095) = none) ∧
  (w302.live ∧ w302.get F.RCTX0_STATE 4095 = 2 ∧ (w302.ring 4095).descs = [] ∧ (w302.ring 4095).wipe = false) ∧
  (Rst.awake) ∧
  (w303.awake ∧ ({ w303 with pwr := { w303.pwr with perst := false } }.domainWake 36).get F.HIF_PSTAT_LINKUP = 1) ∧
  (Rst.awake ∧ ({ Rst with pwr := { Rst.pwr with perst := false } }.domainWake 36).get F.HIF_PSTAT_LINKUP = 0 ∧
    ({ Rst with pwr := { Rst.pwr with perst := false } }.domainWake 36).strap 5 = false ∧ 1 ≤ 5 ∧ 5 ≤
    ({ Rst with pwr := { Rst.pwr with perst := false } }.domainWake 36).get F.HIF_PCTL_MAXSPD) ∧
  (w5.awake ∧ w5.led.wiped = false ∧ w5.get F.HIF_PCTL_CFGRDY = 1) := by decide +kernel

theorem test_witness_RingStateCommands_3 :
  (Rst.awake ∧ Rst.led.wiped = false ∧ Rst.get F.HIF_PCTL_CFGRDY = 0 ∧ Rst.isHot F.HIF_PCTL_CFGRDY = false) ∧
  ((Rst.ring 0).descs = []) ∧
  ((w304.ring 4095).descs = [{ slot := 0 : Desc}] ∧ { slot := 0 : Desc}.stage ≠ DStage.done) ∧
  ((w305.ring 4095).descs = [{ slot := 0, stage := DStage.done : Desc}] ∧ w305.get F.RCTX0_STATE 4095 = 3) ∧
  ((w306.ring 4095).descs = [{ slot := 0, stage := DStage.done : Desc}] ∧ { slot := 0, stage := DStage.done : Desc}.stage =
    DStage.done ∧ w306.get F.RCTX0_STATE 4095 = 1) ∧
  (Rst.awake ∧ Rst.led.wiped = false) ∧
  (Rst.live) := by decide +kernel

theorem test_witness_SliceCommands_1 :
  (w307.awake ∧ w307.led.wiped = false ∧ w307.pathLimit (Path.tunnel (15 : Fin 16)) ≠ none) ∧
  (w298.awake ∧ w298.led.wiped = false ∧ w298.pathLimit Path.pcie = none ∧ w298.bindErr 127 (2147483648 : Word) ≠ 0) ∧
  (Rst.awake ∧ Rst.led.wiped = false ∧ Rst.pathLimit Path.pcie = none ∧ Rst.bindErr 127 (2147483649 : Word) = 0 ∧ Word.bits
    (2147483649 : Word) 31 1 = 1) ∧
  (w308.awake ∧ w308.led.wiped = false ∧ w308.pathLimit Path.pcie = none ∧ w308.bindErr 127 (0 : Word) = 0 ∧ Word.bits (0 : Word)
    31 1 = 0 ∧ w308.get F.SLC_BIND_VALID 127 = 1) ∧
  (Rst.awake ∧ Rst.led.wiped = false ∧ Rst.pathLimit Path.pcie = none ∧ 67 < ownWords 4) ∧
  (w307.awake ∧ w307.led.wiped = false ∧ w307.pathSlice (Path.tunnel (15 : Fin 16)) ≠ 0 ∧ w307.pathSlice (Path.tunnel (15 : Fin
    16)) ≠ 127) := by decide +kernel

theorem test_witness_SliceCommands_2 :
  (Rst.awake ∧ Rst.led.wiped = false ∧ (Rst.pathSlice Path.pcie = 0 ∨ Rst.pathSlice Path.pcie = 127) ∧ Word.bits (2147483648 :
    Word) 31 1 = 1 ∧ Rst.hif.srst = []) ∧
  (w309.awake ∧ w309.led.wiped = false ∧ w309.srst 127 = some { start := 0, squash := false : SlcRst} ∧
    { start := 0, squash := false : SlcRst}.squash = false ∧ { start := 0, squash := false : SlcRst}.start + 20000 ≤
    w309.time.tick) ∧
  (w310.awake ∧ w310.led.wiped = false ∧ w310.srst 127 = some { start := 0, squash := true : SlcRst} ∧ w310.liveRings = [] ∧
    w310.usbQuiet 127 = true ∧ w310.cplWaits 127 = false ∧ w310.get F.SLC_CFG_IRQEN = 0) ∧
  (271 < 4 * ownWords 4 ∧ Rst.ownerOf (ownArray 4) 271 = 0) ∧
  (15 < 4 * ownWords 2 ∧ w311.ownerOf (ownArray 2) 15 ≠ 1 ∧ w311.ownRefused 2 15 (w311.ownerOf (ownArray 2) 15) = true) ∧
  (271 < 4 * ownWords 4 ∧ 127 < 128 ∧ Rst.ownerOf (ownArray 4) 271 ≠ 127 ∧ Rst.ownRefused 4 271 (Rst.ownerOf (ownArray 4) 271) =
    false) := by decide +kernel

theorem test_witness_SliceCommands_3 :
  (271 < 4 * ownWords 4 ∧ 127 < 128 ∧ Rst.ownerOf (ownArray 4) 271 ≠ 127 ∧ Rst.ownRefused 4 271 (Rst.ownerOf (ownArray 4) 271) =
    false ∧ 270 < 4 * ownWords 4 ∧ 270 ≠ 271) ∧
  (Rst.awake) ∧
  (Rst.awake ∧ Rst.led.wiped = false) := by decide +kernel

theorem test_witness_WindowCommands_1 :
  (w307.awake ∧ w307.led.wiped = false ∧ w307.winRight (Path.tunnel (15 : Fin 16)) 15 = false) ∧
  (Rst.awake ∧ Rst.led.wiped = false ∧ Rst.get F.BLK_WCTL_STATE 15 = 0 ∧ Word.bits (2148270080 : Word) 31 1 = 1 ∧ 12 ≤ Word.bits
    (2148270080 : Word) 16 6 ∧ Word.bits (2148270080 : Word) 16 6 ≤ 36 ∧ (((Rst.set F.BLK_WCTL_INEN (Word.bits (2148270080 : Word)
    15 1) 15).set F.BLK_WCTL_LOG2SZ (Word.bits (2148270080 : Word) 16 6) 15).set F.BLK_WCTL_TUN (Word.bits (2148270080 : Word) 0
    12) 15).winCheck 15 ≠ 0) ∧
  (w312.awake ∧ w312.led.wiped = false ∧ w312.get F.BLK_WCTL_STATE 15 = 0 ∧ Word.bits (2148270085 : Word) 31 1 = 1 ∧ 12 ≤
    Word.bits (2148270085 : Word) 16 6 ∧ Word.bits (2148270085 : Word) 16 6 ≤ 36 ∧ (((w312.set F.BLK_WCTL_INEN (Word.bits
    (2148270085 : Word) 15 1) 15).set F.BLK_WCTL_LOG2SZ (Word.bits (2148270085 : Word) 16 6) 15).set F.BLK_WCTL_TUN (Word.bits
    (2148270085 : Word) 0 12) 15).winCheck 15 = 0) ∧
  (w313.awake ∧ w313.led.wiped = false ∧ (w313.get F.BLK_WCTL_STATE 15 = 1 ∨ w313.get F.BLK_WCTL_STATE 15 = 2 ∨ w313.get
    F.BLK_WCTL_STATE 15 = 3) ∧ Word.bits (0 : Word) 31 1 = 0 ∧ (w313.set F.BLK_WCTL_INEN (Word.bits (0 : Word) 15 1) 15).remoteOn
    15 = true) := by decide +kernel

theorem test_witness_WindowCommands_2 :
  (w314.awake ∧ w314.led.wiped = false ∧ (w314.get F.BLK_WCTL_STATE 15 = 1 ∨ w314.get F.BLK_WCTL_STATE 15 = 2 ∨ w314.get
    F.BLK_WCTL_STATE 15 = 3) ∧ Word.bits (0 : Word) 31 1 = 0 ∧ (w314.set F.BLK_WCTL_INEN (Word.bits (0 : Word) 15 1) 15).remoteOn
    15 = false) ∧
  (w315.live ∧ w315.get F.BLK_WCTL_STATE 15 = 4 ∧ (w315.win 15).wait = [] ∧ (w315.win 15).sent = []) ∧
  (w314.live ∧ w314.get F.BLK_WCTL_STATE 15 ≠ 4) ∧
  (Rst.live ∧ Rst.winAt 0 = none) ∧
  (w316.live ∧ w316.winAt 0 = some 15 ∧ w316.bar4Dead 15 = none ∧ (w316.wBase 15 + (0 - w316.wOff 15)) % 4096 + [BitVec.ofNat 8
    7].length ≤ 4096 ∧ 0 < [BitVec.ofNat 8 7].length ∧ w316.holdUse + ([BitVec.ofNat 8 7].length + 255) / 256 ≤ 4096) ∧
  (w316.live ∧ w316.winAt 0 = some 15 ∧ w316.bar4Dead 15 = none ∧ 0 < 4096 ∧ (w316.wBase 15 + (0 - w316.wOff 15)) % 4096 + 4096 ≤
    4096) ∧
  (Rst.awake ∧ Rst.led.wiped = false) := by decide +kernel

theorem test_witness_WindowCommands_3 :
  (Rst.live) := by decide +kernel

theorem test_witness_RequesterCommands_1 :
  (Rst.live ∧ Rst.freeTag.isSome = true) ∧
  (w317.live ∧ w317.freeTag = none) ∧
  (w318.live ∧ (w318.win 15).sent = [{ num := 0, wr := true, addr := 0, len := 4, sentAt := some 0 : BlkReq}] ∧
    { num := 0, wr := true, addr := 0, len := 4, sentAt := some 0 : BlkReq}.wr = true ∧
    { num := 0, wr := true, addr := 0, len := 4, sentAt := some 0 : BlkReq}.sentAt.isSome = true ∧ (w318.win 15).wait = [] ∧ (1024
    * w318.get F.BLK_CFG1_SYNCTH ≤ { num := 0, wr := true, addr := 0, len := 4, sentAt := some 0 : BlkReq}.len ∨ w318.get
    F.BLK_WCTL_STATE 15 = 4)) ∧
  (w319.live ∧ (w319.takeMsg fun f => f.isBop bopCPLD || f.isBop bopCPL) = some (w320, Rst) ∧ (Rst.win (Rst.blkWin w320)).sent =
    []) ∧
  (w321.live ∧ (w321.takeMsg fun f => f.isBop bopCPLD || f.isBop bopCPL) = some (w322, w323) ∧ (w323.win (w323.blkWin w322)).sent
    = [{ num := 0, wr := false, addr := 0, len := 4, tag := some 7, use := RdUse.bar4 0 0, sentAt := some 0 : BlkReq}] ∧
    { num := 0, wr := false, addr := 0, len := 4, tag := some 7, use := RdUse.bar4 0 0, sentAt := some 0 : BlkReq}.wr = false ∧
    { num := 0, wr := false, addr := 0, len := 4, tag := some 7, use := RdUse.bar4 0 0, sentAt := some 0 : BlkReq}.tag = some
    (w322.at_ 1 1) ∧ (w323.win (w323.blkWin w322)).epi = none ∧ w322.isBop bopCPLD = true) := by decide +kernel

theorem test_witness_RequesterCommands_2 :
  (w324.live ∧ (w324.win 15).sent = [{ num := 0, wr := false, addr := 0, len := 4, tag := some 7, sentAt := some 0 : BlkReq}] ∧
    (w324.win 15).wait = [] ∧ { num := 0, wr := false, addr := 0, len := 4, tag := some 7, sentAt := some 0 : BlkReq}.wr = false ∧
    { num := 0, wr := false, addr := 0, len := 4, tag := some 7, sentAt := some 0 : BlkReq}.sentAt = some 0 ∧
    { num := 0, wr := false, addr := 0, len := 4, tag := some 7, sentAt := some 0 : BlkReq}.tag = some 7 ∧ 0 + 1000 * w324.get
    F.BLK_CFG_RDTMO ≤ w324.time.tick ∧ (w324.win 15).timeouts < 2) ∧
  (Rst.live) ∧
  (w325.live ∧ (w325.takeMsg fun f => f.isBop bopBUSY) = some (w326, w327) ∧ (w327.win (w327.blkWin w326)).sent =
    [{ num := 0, wr := false, addr := 0, len := 4, tag := some 7, sentAt := some 0 : BlkReq}] ∧
    { num := 0, wr := false, addr := 0, len := 4, tag := some 7, sentAt := some 0 : BlkReq}.named (w326.at_ 1 1) (w326.at_ 8 8) =
    true ∧ (w327.win (w327.blkWin w326)).epi = none ∧ w327.get F.BLK_WCTL_STATE (w327.blkWin w326) = 1 ∧ 1 < w327.get
    F.BLK_CFG_BUSYMAX) ∧
  (w328.live ∧ (w328.win 15).backAt = some 0 ∧ 0 ≤ w328.time.tick ∧ (w328.win 15).epi = some
    { num := 0, wr := false, addr := 0, len := 4, tag := some 7, sentAt := some 0 : BlkReq}.num ∧ (w328.win 15).sent =
    [{ num := 0, wr := false, addr := 0, len := 4, tag := some 7, sentAt := some 0 : BlkReq}] ∧ w328.get F.BLK_WCTL_STATE 15 = 2) ∧
  (w329.live ∧ (w329.win 15).quietAt = some 0 ∧ 0 ≤ w329.time.tick ∧ (w329.win 15).backAt = none) := by decide +kernel

theorem test_witness_RequesterCommands_3 :
  (w330.live ∧ w330.get F.BLK_POLLCFG_PEN 15 = 1 ∧ w330.get F.BLK_WCTL_STATE 15 = 1 ∧ (w330.win 15).polling = false ∧ (w330.win
    15).pollAt + w330.get F.BLK_POLLCFG_PINT 15 ≤ w330.time.tick) := by decide +kernel

theorem test_witness_CompleterCommands_1 :
  (w331.live ∧ (w331.takeMsg fun f => f.isBop bopWR || f.isBop bopRD) = some (w332, w314) ∧ w333 =
    { wr := w332.isBop bopWR, addr := w332.at_ 8 8, len := w332.at_ 4 2 / 8, data := if w332.isBop bopWR = true then sub w332.data 16 (w332.hdr.plen - 16) else [], tag := w332.at_ 1 1, win := w332.at_ 2 1 / 16, cls := w332.hdr.cls, tun := w332.hdr.dtun : InReq}
    ∧ w314.get F.BLK_WCTL_INEN (w314.blkWin w332) = 0 ∧ w333.wr = true) ∧
  (w334.live ∧ (w334.takeMsg fun f => f.isBop bopWR || f.isBop bopRD) = some (w335, w314) ∧ w336 =
    { wr := w335.isBop bopWR, addr := w335.at_ 8 8, len := w335.at_ 4 2 / 8, data := if w335.isBop bopWR = true then sub w335.data 16 (w335.hdr.plen - 16) else [], tag := w335.at_ 1 1, win := w335.at_ 2 1 / 16, cls := w335.hdr.cls, tun := w335.hdr.dtun : InReq}
    ∧ w314.get F.BLK_WCTL_INEN (w314.blkWin w335) = 0 ∧ w336.wr = false) ∧
  (w337.live ∧ (w337.takeMsg fun f => f.isBop bopWR || f.isBop bopRD) = some (w335, w338) ∧ w336 =
    { wr := w335.isBop bopWR, addr := w335.at_ 8 8, len := w335.at_ 4 2 / 8, data := if w335.isBop bopWR = true then sub w335.data 16 (w335.hdr.plen - 16) else [], tag := w335.at_ 1 1, win := w335.at_ 2 1 / 16, cls := w335.hdr.cls, tun := w335.hdr.dtun : InReq}
    ∧ w338.get F.BLK_WCTL_INEN (w338.blkWin w335) = 1 ∧ w338.get64 F.BLK_IBASE_LO_BASE F.BLK_IBASE_HI_BASE (w338.blkWin w335) ≤
    w336.addr ∧ w336.addr + w336.len ≤ w338.get64 F.BLK_IBASE_LO_BASE F.BLK_IBASE_HI_BASE (w338.blkWin w335) + 2 ^ w338.get
    F.BLK_ISZ_ILOG2 (w338.blkWin w335) ∧ w338.get F.SLC_STAT_STATE (w338.winOwner (w338.blkWin w335)) = 2) ∧
  (w339.live ∧ (w339.takeMsg fun f => f.isBop bopWR || f.isBop bopRD) = some (w335, w340) ∧ w336 =
    { wr := w335.isBop bopWR, addr := w335.at_ 8 8, len := w335.at_ 4 2 / 8, data := if w335.isBop bopWR = true then sub w335.data 16 (w335.hdr.plen - 16) else [], tag := w335.at_ 1 1, win := w335.at_ 2 1 / 16, cls := w335.hdr.cls, tun := w335.hdr.dtun : InReq}
    ∧ w340.get F.BLK_WCTL_INEN (w340.blkWin w335) = 1 ∧ w340.get64 F.BLK_IBASE_LO_BASE F.BLK_IBASE_HI_BASE (w340.blkWin w335) ≤
    w336.addr ∧ w336.addr + w336.len ≤ w340.get64 F.BLK_IBASE_LO_BASE F.BLK_IBASE_HI_BASE (w340.blkWin w335) + 2 ^ w340.get
    F.BLK_ISZ_ILOG2 (w340.blkWin w335) ∧ w340.get F.SLC_STAT_STATE (w340.winOwner (w340.blkWin w335)) ≠ 2 ∧ (w340.win (w340.blkWin
    w335)).goback = none ∧ inRoom (w340.win (w340.blkWin w335)).inq w336 = true) := by decide +kernel

theorem test_witness_CompleterCommands_2 :
  (w341.live ∧ (w341.takeMsg fun f => f.isBop bopWR || f.isBop bopRD) = some (w332, w342) ∧ w333 =
    { wr := w332.isBop bopWR, addr := w332.at_ 8 8, len := w332.at_ 4 2 / 8, data := if w332.isBop bopWR = true then sub w332.data 16 (w332.hdr.plen - 16) else [], tag := w332.at_ 1 1, win := w332.at_ 2 1 / 16, cls := w332.hdr.cls, tun := w332.hdr.dtun : InReq}
    ∧ w342.get F.BLK_WCTL_INEN (w342.blkWin w332) = 1 ∧ w342.get64 F.BLK_IBASE_LO_BASE F.BLK_IBASE_HI_BASE (w342.blkWin w332) ≤
    w333.addr ∧ w333.addr + w333.len ≤ w342.get64 F.BLK_IBASE_LO_BASE F.BLK_IBASE_HI_BASE (w342.blkWin w332) + 2 ^ w342.get
    F.BLK_ISZ_ILOG2 (w342.blkWin w332) ∧ w342.get F.SLC_STAT_STATE (w342.winOwner (w342.blkWin w332)) ≠ 2 ∧ (w342.win (w342.blkWin
    w332)).goback = none ∧ inRoom (w342.win (w342.blkWin w332)).inq w333 = false) ∧
  (w343.live ∧ (w343.win 15).inq =
    [{ wr := true, addr := 0, len := 1, data := [BitVec.ofNat 8 5], tag := 0, win := 0, cls := 0, tun := 5 : InReq}] ∧
    { wr := true, addr := 0, len := 1, data := [BitVec.ofNat 8 5], tag := 0, win := 0, cls := 0, tun := 5 : InReq}.issued = false
    ∧ w343.get F.SLC_BIND_VALID (w343.winOwner 15) = 1 ∧
    { wr := true, addr := 0, len := 1, data := [BitVec.ofNat 8 5], tag := 0, win := 0, cls := 0, tun := 5 : InReq}.wr = true) ∧
  (w344.live ∧ (w344.win 15).inq = [{ wr := false, addr := 0, len := 1, tag := 0, win := 0, cls := 0, tun := 5 : InReq}] ∧
    { wr := false, addr := 0, len := 1, tag := 0, win := 0, cls := 0, tun := 5 : InReq}.issued = false ∧ w344.get F.SLC_BIND_VALID
    (w344.winOwner 15) = 1 ∧ { wr := false, addr := 0, len := 1, tag := 0, win := 0, cls := 0, tun := 5 : InReq}.wr = false) ∧
  (w345.live ∧ (w345.win 15).inq =
    [{ wr := false, addr := 0, len := 1, tag := 0, win := 0, cls := 0, tun := 5, issued := true : InReq}] ∧
    { wr := false, addr := 0, len := 1, tag := 0, win := 0, cls := 0, tun := 5, issued := true : InReq}.issued = true ∧
    (w345.oldestRead fun x => decide (x = ReadFor.inb 15)) = some w346 ∧ [BitVec.ofNat 8 7].length =
    { wr := false, addr := 0, len := 1, tag := 0, win := 0, cls := 0, tun := 5, issued := true : InReq}.len) := by decide +kernel

theorem test_witness_CompleterCommands_3 :
  (w345.live ∧ (w345.win 15).inq =
    [{ wr := false, addr := 0, len := 1, tag := 0, win := 0, cls := 0, tun := 5, issued := true : InReq}] ∧
    { wr := false, addr := 0, len := 1, tag := 0, win := 0, cls := 0, tun := 5, issued := true : InReq}.issued = true ∧
    (w345.oldestRead fun x => decide (x = ReadFor.inb 15)) = some w346) ∧
  (Rst.live) := by decide +kernel

theorem test_witness_PipeCommands_1 :
  (w307.awake ∧ w307.led.wiped = false ∧ w307.pipeRight (Path.tunnel (15 : Fin 16)) 7 = false) ∧
  (Rst.awake ∧ Rst.led.wiped = false ∧ Rst.get F.RAS_CTL_STATE 7 = 0 ∧ Word.bits (2147483649 : Word) 31 1 = 1 ∧ Word.bits
    (2147483649 : Word) 0 8 ≠ 0 ∧ Rst.get F.RAS_CTL_LOCK 7 = 0 ∧ Word.bits (2147483649 : Word) 14 2 = 0 ∧ Word.bits (2147483649 :
    Word) 22 1 = Rst.get F.RAS_CTL_FPULSE 7 ∧ Word.bits (2147483649 : Word) 23 1 = Rst.get F.RAS_CTL_PAIR 7 ∧ Word.bits
    (2147483649 : Word) 20 1 = 0 ∧ Rst.get F.RAS_CTL_TESRC 7 = 0 ∧ Rst.led.refused = []) ∧
  (Rst.awake ∧ Rst.led.wiped = false ∧ Word.bits (0 : Word) 31 1 = 0) ∧
  (Rst.awake ∧ Rst.timingOk 7 = false) ∧
  (w347.awake ∧ w347.timingOk 6 = true ∧ w347.owner (64 + 6) = 23 ∧ 23 ≠ 0 ∧ 23 ≠ 16 + 6) := by decide +kernel

theorem test_witness_PipeCommands_2 :
  (w348.awake ∧ { on := true, w := 640, h := 480 : RLayer} = (w348.pipe 7).layer 0 ∧ w348.get F.RAS_CTL_STATE 7 ≠ 0 ∧
    { on := true, w := 640, h := 480 : RLayer}.on = true ∧ { on := true, w := 640, h := 480 : RLayer}.under = false ∧
    { on := true, w := 640, h := 480 : RLayer}.req < w348.layerRows 7 0 { on := true, w := 640, h := 480 : RLayer} ∧
    w348.layerFill 7 0 { on := true, w := 640, h := 480 : RLayer} + w348.lineBytes 7 0 { on := true, w := 640, h := 480 : RLayer}
    ≤ 4096 * w348.get F.RAS_LCFG_SHARE 7 ∧ w348.bound (w348.pipeOwner 7) = true) ∧
  (w349.awake ∧ w349.oldestRead (ofLine 7 3) = some w350 ∧ [BitVec.ofNat 8 5].length ≤ w349.fetchDue w350.fetch ∧ w350.dead =
    true) ∧
  (w351.awake ∧ w351.oldestRead (ofLine 7 3) = some w352 ∧ (List.replicate ((pipe_ 7 1).lineBytes 7 3
    { w := 2, coming := [(0, [])] : RLayer}) (BitVec.ofNat 8 0)).length ≤ w351.fetchDue w352.fetch ∧ w352.dead = false ∧
    { w := 2, coming := [(0, [])] : RLayer} = ((w351.fetchTake w352.fetch (List.replicate ((pipe_ 7 1).lineBytes 7 3
    { w := 2, coming := [(0, [])] : RLayer}) (BitVec.ofNat 8 0)).length).pipe 7).layer 3 ∧
    { w := 2, coming := [(0, [])] : RLayer}.coming = [(0, [])] ∧ (w351.fetchTake w352.fetch (List.replicate ((pipe_ 7 1).lineBytes
    7 3 { w := 2, coming := [(0, [])] : RLayer}) (BitVec.ofNat 8 0)).length).lineBytes 7 3 { w := 2, coming := [(0, [])] : RLayer}
    ≤ ([] : List (BitVec 8)).length + (List.replicate ((pipe_ 7 1).lineBytes 7 3 { w := 2, coming := [(0, [])] : RLayer})
    (BitVec.ofNat 8 0)).length) ∧
  (w353.awake ∧ w353.oldestRead (ofLine 7 3) = some w354 ∧ [BitVec.ofNat 8 5].length ≤ w353.fetchDue w354.fetch ∧ w354.dead =
    false ∧ { w := 2, coming := [(0, [])] : RLayer} = ((w353.fetchTake w354.fetch [BitVec.ofNat 8 5].length).pipe 7).layer 3 ∧
    { w := 2, coming := [(0, [])] : RLayer}.coming = [(0, [])] ∧ ([] : List (BitVec 8)).length + [BitVec.ofNat 8 5].length <
    (w353.fetchTake w354.fetch [BitVec.ofNat 8 5].length).lineBytes 7 3 { w := 2, coming := [(0, [])] : RLayer}) := by decide +kernel

theorem test_witness_PipeCommands_3 :
  (w353.awake ∧ w353.oldestRead (ofLine 7 3) = some w354) ∧
  (Rst.awake ∧ Rst.get F.RAS_CTL_STATE 7 ≠ 2) ∧
  (w355.awake ∧ w355.get F.RAS_CTL_STATE 7 = 2 ∧ (w355.pipe 7).line < w355.get F.RAS_VTIM_VACT 7 ∧ (w355.pipe 7).latched = false ∧
    w355.lineTick 7 (w355.pipe 7).line ≤ w355.time.tick) ∧
  (Rst.awake) ∧
  (Rst.awake ∧ Rst.led.wiped = false) := by decide +kernel

theorem test_witness_FrameCommands_1 :
  (Rst.awake ∧ Rst.get F.RAS_CTL_STATE 7 = 0) ∧
  (w356.awake ∧ w356.get F.RAS_CTL_STATE 7 = 1 ∧ (w356.pipe 7).latched = false) ∧
  (w357.awake ∧ (w357.pipe 7).latched = true) ∧
  (w357.awake ∧ w357.get F.RAS_CTL_STATE 7 ≠ 0 ∧ (w357.pipe 7).latched = true ∧ (w357.pipe 7).lock = 0 ∧ w357.get F.RAS_CTL_TEGATE
    7 = 0 ∧ (w357.pipe 7).f0 + (w357.pipe 7).k * (w357.pipe 7).fper / 65536 ≤ w357.time.tick) ∧
  (w358.awake ∧ w358.get F.RAS_CTL_STATE 7 ≠ 0 ∧ (w358.pipe 7).latched = true ∧ (w358.pipe 7).lock = 0 ∧ w358.time.tick <
    (w358.pipe 7).f0 + (w358.pipe 7).k * (w358.pipe 7).fper / 65536) ∧
  (w359.awake ∧ w359.get F.RAS_CTL_STATE 7 ≠ 0 ∧ (w359.pipe 7).latched = true ∧ (w359.pipe 7).lock = 2 ∧ (w359.pipe 7).base +
    (w359.pipe 7).k * (w359.pipe 7).fper / 65536 ≤ w359.time.ridge.toNat) ∧
  (Rst.awake ∧ Rst.owner 0 ≠ 8) := by decide +kernel

theorem test_witness_FrameCommands_2 :
  (w360.awake ∧ w360.owner 0 = 8) ∧
  (w361.awake ∧ w361.get F.RAS_CTL_STATE 7 = 2 ∧ (w361.pipe 7).lock = 1 ∧ (w361.pipe 7).latched = true ∧ (w361.pipe 7).at_ = none
    ∧ (w361.pipe 7).lost = false ∧ (w361.pipe 7).ftick + 5 * (w361.pipe 7).fper / (4 * 65536) ≤ w361.time.tick) ∧
  (w362.awake ∧ w362.get F.RAS_CTL_TESRC 7 = 1 ∧ w362.owner (16 + w362.get F.RAS_CTL_TEGPIO 7) = 16 + 7) ∧
  (w363.awake ∧ w363.get F.RAS_CTL_TEGATE 7 = 1 ∧ (w363.pipe 7).lock = 0 ∧ (w363.pipe 7).first = false ∧ (w363.pipe 7).latched =
    true ∧ (w363.pipe 7).te = none) ∧
  (w364.awake ∧ w364.get F.RAS_CTL_STATE 7 = 2 ∧ w364.get F.RAS_CTL_TEGATE 7 = 1 ∧ (w364.pipe 7).lock = 0 ∧ (w364.pipe 7).first =
    false ∧ (w364.pipe 7).latched = true ∧ (w364.pipe 7).te = none ∧ (w364.pipe 7).f0 + (w364.pipe 7).k * (w364.pipe 7).fper /
    65536 + w364.get F.RAS_SYNC_TETMO 7 * 100 ≤ w364.time.tick) := by decide +kernel

theorem test_witness_FrameCommands_3 :
  (w365.awake ∧ (w365.pipe 7).pulseEnd = some 0 ∧ 0 ≤ w365.time.tick) ∧
  (w366.awake ∧ (w366.takeMsg fun f => f.hdr.type == 2) = some (w367, Rst) ∧ w367.hdr.plen ≠ 16) ∧
  (w368.awake ∧ (w368.takeMsg fun f => f.hdr.type == 2) = some (w369, Rst) ∧ w369.at_ 0 1 / 16 = 1 ∧ w369.hdr.plen = 16) ∧
  (w370.awake ∧ w370.get F.HIF_PCTL_LTREN = 0) ∧
  (w371.awake ∧ w371.get F.HIF_PCTL_LTREN = 1 ∧ w371.ras.ltr = none ∧ w371.ltrValue = some 500) ∧
  (255 < 256) ∧
  (63 < 64) ∧
  (31 < 32) := by decide +kernel

theorem test_witness_FrameCommands_4 :
  ({ r := 1023, g := 1023, b := 1023 : Pix}.r ≤ 1023 ∧ { r := 1023, g := 1023, b := 1023 : Pix}.g ≤ 1023 ∧
    { r := 1023, g := 1023, b := 1023 : Pix}.b ≤ 1023 ∧ { r := 0, g := 1023, b := 5 : Pix}.r ≤ 1023 ∧
    { r := 0, g := 1023, b := 5 : Pix}.g ≤ 1023 ∧ { r := 0, g := 1023, b := 5 : Pix}.b ≤ 1023) ∧
  (1023 ≤ 1023 ∧ { r := 1023, g := 1023, b := 1023 : Pix}.r ≤ 1023 ∧ { r := 0, g := 1023, b := 5 : Pix}.r ≤ 1023) ∧
  (Rst.awake) := by decide +kernel

theorem test_witness_RootPortCommands_1 :
  (w307.awake ∧ w307.led.wiped = false ∧ w307.usbRight (Path.tunnel (15 : Fin 16)) 31 = false) ∧
  (Rst.awake ∧ Rst.led.wiped = false ∧ Word.bits (1 : Word) 5 3 = Rst.get F.PERI_PCTL_TEST 31 ∧ Word.bits (1 : Word) 1 1 = 0 ∧
    Word.bits (1 : Word) 2 1 = 0 ∧ Word.bits (1 : Word) 3 1 = 0 ∧ Word.bits (1 : Word) 0 1 = 1) ∧
  (w372.awake ∧ w372.led.wiped = false ∧ Word.bits (0 : Word) 5 3 = w372.get F.PERI_PCTL_TEST 31 ∧ Word.bits (0 : Word) 1 1 = 0 ∧
    Word.bits (0 : Word) 2 1 = 0 ∧ Word.bits (0 : Word) 3 1 = 0 ∧ Word.bits (0 : Word) 0 1 = 0) ∧
  (Rst.awake ∧ Rst.led.wiped = false ∧ Word.bits (3 : Word) 5 3 = Rst.get F.PERI_PCTL_TEST 31 ∧ Word.bits (3 : Word) 0 1 = 1 ∧
    Word.bits (3 : Word) 1 1 = 1 ∧ Word.bits (3 : Word) 2 1 = 0 ∧ Word.bits (3 : Word) 3 1 = 0) := by decide +kernel

theorem test_witness_RootPortCommands_2 :
  (Rst.awake ∧ Rst.led.wiped = false ∧ Word.bits (5 : Word) 5 3 = Rst.get F.PERI_PCTL_TEST 31 ∧ Word.bits (5 : Word) 0 1 = 1 ∧
    Word.bits (5 : Word) 1 1 = 0 ∧ Word.bits (5 : Word) 2 1 = 1 ∧ Word.bits (5 : Word) 3 1 = 0) ∧
  (Rst.awake ∧ Rst.led.wiped = false ∧ Word.bits (9 : Word) 5 3 = Rst.get F.PERI_PCTL_TEST 31 ∧ Word.bits (9 : Word) 0 1 = 1 ∧
    Word.bits (9 : Word) 1 1 = 0 ∧ Word.bits (9 : Word) 2 1 = 0 ∧ Word.bits (9 : Word) 3 1 = 1) ∧
  (w373.awake ∧ w373.get F.PERI_PSTAT_STATE 31 = 4) ∧
  (w374.awake ∧ w374.get F.PERI_PSTAT_STATE 31 = 5) ∧
  (w375.awake ∧ w375.get F.PERI_PSTAT_STATE 31 = 1 ∧ w375.blockOn rowUsb 31 = true) ∧
  (Rst.awake ∧ (Rst.get F.PERI_PSTAT_STATE 31 ≠ 1 ∨ Rst.blockOn rowUsb 31 = false)) := by decide +kernel

theorem test_witness_RootPortCommands_3 :
  (w376.awake ∧ w376.get F.PERI_PSTAT_STATE 31 = 3 ∧ (w376.pport 31).since = some 0 ∧ 0 + 200000 * w376.get F.PERI_PCFG_RSTDUR 31
    ≤ w376.time.tick) ∧
  (w377.awake ∧ w377.get F.PERI_PSTAT_STATE 31 = 6 ∧ w377.get F.PERI_PSTAT_CAUSE 31 = 0) ∧
  (w378.awake ∧ w378.get F.PERI_PSTAT_STATE 31 = 6 ∧ (w378.pport 31).since = some 0 ∧ 0 + 200000 * w378.get F.PERI_PCFG_RSMDRV 31
    ≤ w378.time.tick) ∧
  (Rst.awake) ∧
  (Rst.awake ∧ Rst.led.wiped = false) := by decide +kernel

theorem test_witness_TransferCommands_1 :
  (Rst.awake ∧ Rst.xfersOf 1023 = []) ∧
  (w379.awake ∧ w379.xfersOf 1023 = [xfer_] ∧ w379.get F.PERI_CFG_EN = 1 ∧ (List.replicate 64 (BitVec.ofNat 8 7)).length ≤ max 1
    (w379.ctxMps 1023) ∧ xfer_.abort = none ∧ w379.get F.PERI_PSTAT_STATE xfer_.port = 4 ∧ w379.ready 1023 = true ∧ w379.mayServe
    xfer_.port 1023 xfer_.xtype = true ∧ xfer_.fails = 0) ∧
  (w379.awake ∧ w379.xfersOf 1023 = [xfer_] ∧ w379.get F.PERI_CFG_EN = 1 ∧ ([] : List (BitVec 8)).length ≤ max 1 (w379.ctxMps
    1023) ∧ xfer_.abort = none ∧ w379.get F.PERI_PSTAT_STATE xfer_.port = 4 ∧ w379.ready 1023 = true ∧ w379.mayServe xfer_.port
    1023 xfer_.xtype = true) := by decide +kernel

theorem test_witness_TransferCommands_2 :
  (w380.awake ∧ w380.xfersOf 1023 = [{ xfer_ with fails := 1 }] ∧ w380.get F.PERI_CFG_EN = 1 ∧ ([] : List (BitVec 8)).length ≤ max
    1 (w380.ctxMps 1023) ∧ ({ xfer_ with fails := 1 }).abort = none ∧ w380.get F.PERI_PSTAT_STATE ({ xfer_ with fails := 1 }).port
    = 4 ∧ w380.ready 1023 = true ∧ w380.mayServe ({ xfer_ with fails := 1 }).port 1023 ({ xfer_ with fails := 1 }).xtype = true ∧
    ({ xfer_ with fails := 1 }).xtype ≠ 1 ∧ ({ xfer_ with fails := 1 }).fails < 2) ∧
  (w381.awake ∧ w381.xfersOf 1023 = [{ xfer_ with fails := 2 }] ∧ w381.get F.PERI_CFG_EN = 1 ∧ ([] : List (BitVec 8)).length ≤ max
    1 (w381.ctxMps 1023) ∧ ({ xfer_ with fails := 2 }).abort = none ∧ w381.get F.PERI_PSTAT_STATE ({ xfer_ with fails := 2 }).port
    = 4 ∧ w381.ready 1023 = true ∧ w381.mayServe ({ xfer_ with fails := 2 }).port 1023 ({ xfer_ with fails := 2 }).xtype = true ∧
    ({ xfer_ with fails := 2 }).xtype ≠ 1 ∧ 2 ≤ ({ xfer_ with fails := 2 }).fails) ∧
  (Rst.awake ∧ Rst.get F.PERI_CFG_EN = 0) ∧
  (w382.awake ∧ w382.time.ridge.toNat % 25000 ≠ 0) := by decide +kernel

theorem test_witness_TransferCommands_3 :
  (w383.awake ∧ w383.time.everLocked = true ∧ w383.get F.PERI_CFG_EN = 1 ∧ w383.time.ridge.toNat % 25000 = 0 ∧ w383.peri.sofAt =
    some 0 ∧ w383.time.tick < 0 + 12500 ∧ w383.peri.edgeAt ≠ some w383.time.tick) ∧
  (w384.awake ∧ w384.peri.edgeAt = some w384.time.tick) ∧
  (w385.awake ∧ w385.time.everLocked = true ∧ w385.get F.PERI_CFG_EN = 1 ∧ w385.time.ridge.toNat % 25000 = 0 ∧ w385.peri.sofAt =
    none ∧ w385.peri.xfers = [] ∧ w385.peri.edgeAt ≠ some w385.time.tick) ∧
  (Rst.awake ∧ Rst.led.wiped = false ∧ Word.bits (2147483648 : Word) 31 1 = 1) ∧
  (w386.awake ∧ w386.led.wiped = false ∧ Word.bits (3221225472 : Word) 30 1 = 1 ∧ Word.bits (3221225472 : Word) 31 1 = 1 ∧
    w386.get F.ECTX0_STATE (w386.get F.PERI_ESEL_CTX Path.pcie.sel) = 2 ∧ w386.get F.ECTX0_EN (w386.get F.PERI_ESEL_CTX
    Path.pcie.sel) = 1) := by decide +kernel

theorem test_witness_TransferCommands_4 :
  (w387.awake ∧ w387.led.wiped = false ∧ Word.bits (0 : Word) 31 1 = 0 ∧ w387.get F.ECTX0_STATE (w387.get F.PERI_ESEL_CTX
    Path.pcie.sel) = 1 ∧ w387.get F.ECTX0_EN (w387.get F.PERI_ESEL_CTX Path.pcie.sel) = 1) ∧
  (Rst.awake) ∧
  (Rst.awake ∧ Rst.led.wiped = false) := by decide +kernel

theorem test_witness_SessionCommands_1 :
  (w388.awake ∧ (w388.takeMsg fun f => f.hdr.type == 4) = some (w389, Rst) ∧ w389.tmsg = none) ∧
  (w390.awake ∧ (w390.takeMsg fun f => f.hdr.type == 4) = some (w391, w392) ∧ w391.tmsg = some (w393, 0, 0) ∧ (w392.sess
    w391.hdr.dtun).lost = true) ∧
  (w394.awake ∧ (w394.takeMsg fun f => f.hdr.type == 4) = some (w395, Rst) ∧ w395.tmsg = some (w396, 0, 0) ∧ (Rst.sess
    w395.hdr.dtun).lost = false ∧ w396.kind = 2) ∧
  (w397.awake ∧ (w397.takeMsg fun f => f.hdr.type == 4) = some (w391, Rst) ∧ w391.tmsg = some (w393, 0, 0) ∧ (Rst.sess
    w391.hdr.dtun).lost = false ∧ w393.kind ≠ 2) ∧
  (w398.awake ∧ (w398.sess 5).lost = false ∧ (w398.sess 5).ackAt = some 0 ∧ 0 + w398.get F.PERI_CFG_ACKDLY ≤ w398.time.tick) := by decide +kernel

theorem test_witness_SessionCommands_2 :
  (w399.awake ∧ (w399.sess 5).lost = false ∧ (w399.sess 5).unack = [{ seq := 0, ctx := none, msg := { kind := 1 : TMsg} : SMsg}] ∧
    (w399.sess 5).rtoAt = some 0 ∧ 0 + 1000 * w399.get F.PERI_CFG_RTO ≤ w399.time.tick ∧ (w399.sess 5).expiries + 1 < w399.get
    F.PERI_CFG_LOSTN) ∧
  (w400.awake ∧ (w400.sess 5).lost = false ∧ (w400.sess 5).unack = [{ seq := 0, ctx := none, msg := { kind := 1 : TMsg} : SMsg}] ∧
    (w400.sess 5).rtoAt = some 0 ∧ 0 + 1000 * w400.get F.PERI_CFG_RTO ≤ w400.time.tick ∧ w400.get F.PERI_CFG_LOSTN ≤ (w400.sess
    5).expiries + 1) ∧
  (w401.awake ∧ w401.canTake 5 w402 = false) ∧
  (Rst.awake ∧ Rst.canTake 5 w393 = true) ∧
  (Rst.awake ∧ 65520 < 65536 ∧ (Rst.sess 5).rx < 65536 ∧ 65520 ≠ (Rst.sess 5).rx ∧ ((Rst.sess 5).rx + 65536 - 65520) % 65536 ≤ 16) ∧
  (Rst.awake ∧ 65519 < 65536 ∧ (Rst.sess 5).rx < 65536 ∧ 65519 ≠ (Rst.sess 5).rx ∧ 16 < ((Rst.sess 5).rx + 65536 - 65519) % 65536) := by decide +kernel

theorem test_witness_SessionCommands_3 :
  (Rst.awake) := by decide +kernel

theorem test_witness_PowerPathCommands_1 :
  (Rst.awake) ∧
  (w403.awake ∧ (w403.pp 31).delayAt = some 0 ∧ 0 + (w403.get F.PORT_PPCTL_INSDLY 31 + 1) * 2000000 ≤ w403.time.tick) ∧
  (Rst.awake ∧ (Rst.pp 31).delayAt = none) ∧
  (Rst.awake ∧ Rst.led.wiped = false ∧ Rst.pathLimit Path.pcie = none) ∧
  (w307.awake ∧ w307.led.wiped = false ∧ w307.pathLimit (Path.tunnel (15 : Fin 16)) ≠ none) ∧
  (w404.awake ∧ w404.get F.PORT_PPSTAT_STATE 31 = 3 ∧ 11400 ≤ w404.get F.PORT_PPMEAS_V 31) ∧
  (w405.awake ∧ w405.get F.PORT_PPSTAT_STATE 31 = 3 ∧ w405.get F.PORT_PPMEAS_V 31 < 11400 ∧ (w405.pp 31).rampAt = some 0 ∧ 0 + 2 *
    (24000000 / max 1 (w405.get F.PORT_PPCTL_SLEW 31)) + 400000 ≤ w405.time.tick) ∧
  (w406.awake ∧ w406.blockOn rowPower 31 = true) := by decide +kernel

theorem test_witness_PowerPathCommands_2 :
  (Rst.awake ∧ Rst.blockOn rowPower 0 = false) ∧
  (w407.awake ∧ (w407.pp 31).coolAt = some 0 ∧ 0 ≤ w407.time.tick) ∧
  (Rst.awake ∧ Rst.get F.PWR_BUSCFG_OVTH * 250 ≤ BitVec.toNat (65535 : BitVec 16) ∧ Rst.get F.PWR_BUSSTAT_OV = 0) ∧
  (w408.awake ∧ BitVec.toNat (0 : BitVec 16) < w408.get F.PWR_BUSCFG_UVTH * 250 ∧ w408.get F.PWR_BUSSTAT_UV = 0) ∧
  (w409.awake ∧ 2000000 ≤ w409.time.tick ∧ w409.get F.PWR_BUSCFG_UVTH * 250 + 1000 ≤ BitVec.toNat (54000 : BitVec 16) ∧
    BitVec.toNat (54000 : BitVec 16) + 1000 ≤ w409.get F.PWR_BUSCFG_OVTH * 250) ∧
  (Rst.awake ∧ BitVec.toNat (65535 : BitVec 16) + 1000 > Rst.get F.PWR_BUSCFG_OVTH * 250) ∧
  (Rst.awake ∧ Rst.led.wiped = false) := by decide +kernel

theorem test_witness_MeasurementCommands_1 :
  (w406.awake ∧ w406.blockOn rowPower 31 = true ∧ (((((((w406.readings 31 (w406.shuntMa 31 (BitVec.toInt (0 : BitVec 16))) none
    none).csupStep 31 none).soaStep 31 (w406.shuntMa 31 (BitVec.toInt (0 : BitVec 16))).natAbs).energyStep 31 (w406.shuntMa 31
    (BitVec.toInt (0 : BitVec 16))).natAbs).itStep 31 (w406.shuntMa 31 (BitVec.toInt (0 : BitVec 16))).natAbs).windowStep
    31).transStep 31).breaker 31 = false ∧ (((((((w406.readings 31 (w406.shuntMa 31 (BitVec.toInt (0 : BitVec 16))) none
    none).csupStep 31 none).soaStep 31 (w406.shuntMa 31 (BitVec.toInt (0 : BitVec 16))).natAbs).energyStep 31 (w406.shuntMa 31
    (BitVec.toInt (0 : BitVec 16))).natAbs).itStep 31 (w406.shuntMa 31 (BitVec.toInt (0 : BitVec 16))).natAbs).windowStep
    31).transStep 31).get F.PORT_PPSTAT_STATE 31 ≠ 6) ∧
  (Rst.awake ∧ Rst.blockOn rowPower 0 = false) ∧
  (Rst.awake) ∧
  (Rst.awake ∧ Rst.led.wiped = false ∧ Rst.pathLimit Path.pcie = none ∧ Word.bits (0 : Word) 31 1 = 0) ∧
  (Rst.awake ∧ Rst.led.wiped = false ∧ Rst.pathLimit Path.pcie = none ∧ Word.bits (2147483648 : Word) 31 1 = 1) ∧
  (w406.awake ∧ w406.get F.PORT_PPCAL_BUSY 31 = 0 ∧ w406.blockOn rowPower 31 = true ∧ (w406.pp 31).gate = false ∧ w406.owner (32 +
    31) = 3) ∧
  (w410.awake ∧ w410.get F.PORT_PPCAL_BUSY 31 = 0 ∧ w410.blockOn rowPower 31 = true ∧ (w410.pp 31).gate = true) := by decide +kernel

theorem test_witness_MeasurementCommands_2 :
  (w411.awake ∧ (w411.pp 31).calAt = some 0 ∧ w411.time.tick ≤ 0 + 400000) ∧
  (w412.awake ∧ (w412.pp 31).calAt = some 0 ∧ (false = true ∨ 0 + 400000 < w412.time.tick)) ∧
  (w413.awake ∧ w413.time.ridge.toNat % 200000 ≠ 0) ∧
  (w414.awake ∧ w414.time.ridge.toNat % 200000 = 0 ∧ w414.pwr.jumps ≠ w414.time.jumps) ∧
  (Rst.awake ∧ Rst.pathLimit Path.pcie = none) ∧
  (w415.awake ∧ w415.pathLimit Path.pcie = none ∧ w415.led.wiped = false ∧ w415.allotErr 31 (Word.bits (241 : Word) 24 7)
    (Word.bits (241 : Word) 0 8) = some (4, 31)) ∧
  (Rst.awake ∧ Rst.pathLimit Path.pcie = none ∧ Rst.led.wiped = false ∧ Rst.allotErr 31 (Word.bits (0 : Word) 24 7) (Word.bits (0
    : Word) 0 8) = none ∧ Word.bits (0 : Word) 0 8 = Rst.get F.PWR_ALLOT_WATTS 31) ∧
  (w416.awake ∧ w416.pathLimit Path.pcie = none ∧ w416.led.wiped = false ∧ Word.bits (239 : Word) 0 13 < w416.allotSum 32 0) := by decide +kernel

theorem test_witness_MeasurementCommands_3 :
  (Rst.awake ∧ Rst.pathLimit Path.pcie = none ∧ Rst.led.wiped = false ∧ Rst.allotSum 32 0 ≤ Word.bits (7681 : Word) 0 13 ∧ 7680 <
    Word.bits (7681 : Word) 0 13) ∧
  (Rst.awake ∧ Rst.pathLimit Path.pcie = none ∧ Rst.led.wiped = false ∧ Rst.allotSum 32 0 ≤ Word.bits (7680 : Word) 0 13 ∧
    Word.bits (7680 : Word) 0 13 ≤ 7680) ∧
  (w416.awake ∧ w416.pathLimit Path.pcie = none ∧ w416.led.wiped = false ∧ Word.bits (239 : Word) 0 13 < w416.sliceSum 32 0 0 0) ∧
  (Rst.awake ∧ Rst.pathLimit Path.pcie = none ∧ Rst.led.wiped = false ∧ Rst.sliceSum 32 0 0 0 ≤ Word.bits (7680 : Word) 0 13 ∧
    Word.bits (7680 : Word) 0 13 ≤ 7680) ∧
  (w417.awake ∧ w417.pathLimit Path.pcie = none ∧ w417.lowering = true) ∧
  (Rst.awake ∧ Rst.pathLimit Path.pcie = none ∧ Rst.lowering = false ∧ (∀ (m : PortId), (Rst.cc ↑m).ren = none)) := by decide +kernel

theorem test_witness_MeasurementCommands_4 :
  (Rst.awake ∧ Rst.led.wiped = false) := by decide +kernel

theorem test_witness_MessageReceiveCommands_1 :
  (w418.awake ∧ w418.attached 31 = true ∧ w418.portDark 31 = false ∧ (w418.isSink 31 = true → (w418.cc 31).ptvSeen = true) ∧
    ccGood (cc_ 1 1 0).toNat (List.map (fun x => BitVec.toNat x) [(100663296 : Word)]) = true ∧ ((w418.cc 31).rxAny = false ∨
    w418.get F.PORT_CCSTAT_RXID 31 ≠ ccId (cc_ 1 1 0).toNat) ∧ (w418.cc 31).hr = false ∧ ccKind (cc_ 1 1 0).toNat = 1) ∧
  (w419.awake ∧ w419.attached 31 = true ∧ w419.portDark 31 = false ∧ (w419.isSink 31 = true → (w419.cc 31).ptvSeen = true) ∧
    ccGood (cc_ 2 1 0).toNat (List.map (fun x => BitVec.toNat x) [(33554432 : Word)]) = true ∧ ((w419.cc 31).rxAny = false ∨
    w419.get F.PORT_CCSTAT_RXID 31 ≠ ccId (cc_ 2 1 0).toNat) ∧ (w419.cc 31).hr = false ∧ ccKind (cc_ 2 1 0).toNat = 2) ∧
  (w418.awake ∧ w418.attached 31 = true ∧ w418.portDark 31 = false ∧ (w418.isSink 31 = true → (w418.cc 31).ptvSeen = true) ∧
    ccGood (cc_ 3 0 0).toNat (List.map (fun (x : Word) => BitVec.toNat x) []) = true ∧ ((w418.cc 31).rxAny = false ∨ w418.get
    F.PORT_CCSTAT_RXID 31 ≠ ccId (cc_ 3 0 0).toNat) ∧ (w418.cc 31).hr = false ∧ ccKind (cc_ 3 0 0).toNat = 3) := by decide +kernel

theorem test_witness_MessageReceiveCommands_2 :
  (w418.awake ∧ w418.attached 31 = true ∧ w418.portDark 31 = false ∧ (w418.isSink 31 = true → (w418.cc 31).ptvSeen = true) ∧
    ccGood (cc_ 4 1 0).toNat (List.map (fun x => BitVec.toNat x) [(1610612736 : Word)]) = true ∧ ((w418.cc 31).rxAny = false ∨
    w418.get F.PORT_CCSTAT_RXID 31 ≠ ccId (cc_ 4 1 0).toNat) ∧ (w418.cc 31).hr = false ∧ ccKind (cc_ 4 1 0).toNat = 4) ∧
  (w418.awake ∧ w418.attached 31 = true ∧ w418.portDark 31 = false ∧ (w418.isSink 31 = true → (w418.cc 31).ptvSeen = true) ∧
    ccGood (cc_ 5 1 0).toNat (List.map (fun x => BitVec.toNat x) [(2181038080 : Word)]) = true ∧ ((w418.cc 31).rxAny = false ∨
    w418.get F.PORT_CCSTAT_RXID 31 ≠ ccId (cc_ 5 1 0).toNat) ∧ (w418.cc 31).hr = false ∧ ccKind (cc_ 5 1 0).toNat = 5) ∧
  (w419.awake ∧ w419.attached 31 = true ∧ w419.portDark 31 = false ∧ (w419.isSink 31 = true → (w419.cc 31).ptvSeen = true) ∧
    ccGood (cc_ 6 2 0).toNat (List.map (fun x => BitVec.toNat x) [(0 : Word), (4026531840 : Word)]) = true ∧ ((w419.cc 31).rxAny =
    false ∨ w419.get F.PORT_CCSTAT_RXID 31 ≠ ccId (cc_ 6 2 0).toNat) ∧ (w419.cc 31).hr = false ∧ ccKind (cc_ 6 2 0).toNat = 6) := by decide +kernel

theorem test_witness_MessageReceiveCommands_3 :
  (w419.awake ∧ w419.attached 31 = true ∧ w419.portDark 31 = false ∧ (w419.isSink 31 = true → (w419.cc 31).ptvSeen = true) ∧
    ccGood (cc_ 7 1 0).toNat (List.map (fun x => BitVec.toNat x) [(1073741824 : Word)]) = true ∧ ((w419.cc 31).rxAny = false ∨
    w419.get F.PORT_CCSTAT_RXID 31 ≠ ccId (cc_ 7 1 0).toNat) ∧ (w419.cc 31).hr = false ∧ ccKind (cc_ 7 1 0).toNat = 7) ∧
  (w419.awake ∧ w419.attached 31 = true ∧ w419.portDark 31 = false ∧ (w419.isSink 31 = true → (w419.cc 31).ptvSeen = true) ∧
    ccGood (cc_ 8 0 0).toNat (List.map (fun (x : Word) => BitVec.toNat x) []) = true ∧ ((w419.cc 31).rxAny = false ∨ w419.get
    F.PORT_CCSTAT_RXID 31 ≠ ccId (cc_ 8 0 0).toNat) ∧ (w419.cc 31).hr = false ∧ ccKind (cc_ 8 0 0).toNat = 8) ∧
  (w419.awake ∧ w419.attached 31 = true ∧ w419.portDark 31 = false ∧ (w419.isSink 31 = true → (w419.cc 31).ptvSeen = true) ∧
    ccGood (cc_ 9 0 7).toNat (List.map (fun (x : Word) => BitVec.toNat x) []) = true ∧ ((w419.cc 31).rxAny = false ∨ w419.get
    F.PORT_CCSTAT_RXID 31 ≠ ccId (cc_ 9 0 7).toNat) ∧ ccKind (cc_ 9 0 7).toNat = 9 ∧ (w419.cc 31).hrAt = none) := by decide +kernel

theorem test_witness_MessageReceiveCommands_4 :
  (w420.awake ∧ w420.attached 31 = true ∧ w420.portDark 31 = false ∧ (w420.isSink 31 = true → (w420.cc 31).ptvSeen = true) ∧
    ccGood (cc_ 2 1 7).toNat (List.map (fun x => BitVec.toNat x) [(33554432 : Word)]) = true ∧ (w420.cc 31).rxAny = true ∧
    w420.get F.PORT_CCSTAT_RXID 31 = ccId (cc_ 2 1 7).toNat ∧ ccKind (cc_ 2 1 7).toNat = 2) ∧
  (w419.awake ∧ w419.attached 31 = true ∧ w419.portDark 31 = false ∧ (w419.isSink 31 = true → (w419.cc 31).ptvSeen = true) ∧
    ccGood (cc_ 8 1 0).toNat (List.map (fun (x : Word) => BitVec.toNat x) []) = false ∧ ccKind (cc_ 8 1 0).toNat ≠ 0) ∧
  (w419.awake ∧ w419.attached 31 = true ∧ w419.portDark 31 = false ∧ (w419.isSink 31 = true → (w419.cc 31).ptvSeen = true)) ∧
  (Rst.awake) := by decide +kernel

theorem test_witness_ConfigurationChannelCommands_1 :
  (Rst.awake ∧ Rst.blockOn rowCc 0 = false) ∧
  (w421.awake ∧ w421.attached 31 = false ∧ w421.blockOn rowCc 31 = true ∧ w421.isSource 31 = true) ∧
  (w422.awake ∧ w422.attached 31 = false ∧ w422.blockOn rowCc 31 = true ∧ w422.isSink 31 = true) ∧
  (w423.awake ∧ w423.attached 31 = false ∧ w423.blockOn rowCc 31 = true ∧ w423.isSource 31 = false ∧ w423.isSink 31 = false) ∧
  (w419.awake ∧ w419.attached 31 = true ∧ ((w419.pp 31).gate = false ∨ w419.isSink 31 = false)) ∧
  (w424.awake ∧ (w424.cc 31).tx = some { msg := { kind := 1, objs := [0] : CcMsg}, id := 0 : CcTx} ∧
    { msg := { kind := 1, objs := [0] : CcMsg}, id := 0 : CcTx}.endAt = none ∧ w424.attached 31 = true ∧ w424.portDark 31 = false
    ∧ (w424.cc 31).lineAt + w424.idleNeed 31 { msg := { kind := 1, objs := [0] : CcMsg}, id := 0 : CcTx}.msg.kind ≤
    w424.time.tick) := by decide +kernel

theorem test_witness_ConfigurationChannelCommands_2 :
  (w425.awake ∧ ccKind (cc_ 0 0 7).toNat = 0 ∧ ccNobj (cc_ 0 0 7).toNat = 0 ∧ ccRev (cc_ 0 0 7).toNat = 1 ∧ w425.attached 31 =
    true ∧ (w425.cc 31).tx = some { msg := { kind := 1, objs := [0] : CcMsg}, id := 7, sends := 1, endAt := some 0 : CcTx} ∧
    { msg := { kind := 1, objs := [0] : CcMsg}, id := 7, sends := 1, endAt := some 0 : CcTx}.id = ccId (cc_ 0 0 7).toNat ∧
    { msg := { kind := 1, objs := [0] : CcMsg}, id := 7, sends := 1, endAt := some 0 : CcTx}.endAt = some 0 ∧ 0 ≤ w425.time.tick ∧
    w425.time.tick ≤ 0 + 40000 ∧ { msg := { kind := 1, objs := [0] : CcMsg}, id := 7, sends := 1, endAt := some 0 : CcTx}.sends ≤
    1) ∧
  (w426.awake ∧ (w426.cc 31).tx = some { msg := { kind := 1, objs := [0] : CcMsg}, id := 7, sends := 2, endAt := some 0 : CcTx} ∧
    { msg := { kind := 1, objs := [0] : CcMsg}, id := 7, sends := 2, endAt := some 0 : CcTx}.endAt = some 0 ∧ 0 + 40000 ≤
    w426.time.tick ∧ { msg := { kind := 1, objs := [0] : CcMsg}, id := 7, sends := 2, endAt := some 0 : CcTx}.sends < 3) ∧
  (w427.awake ∧ (w427.cc 31).tx = some { msg := { kind := 9, objs := [] : CcMsg}, id := 7, sends := 3, endAt := some 0 : CcTx} ∧
    { msg := { kind := 9, objs := [] : CcMsg}, id := 7, sends := 3, endAt := some 0 : CcTx}.endAt = some 0 ∧ 0 + 40000 ≤
    w427.time.tick ∧ 3 ≤ { msg := { kind := 9, objs := [] : CcMsg}, id := 7, sends := 3, endAt := some 0 : CcTx}.sends ∧
    { msg := { kind := 9, objs := [] : CcMsg}, id := 7, sends := 3, endAt := some 0 : CcTx}.msg.kind = 9) := by decide +kernel

theorem test_witness_ConfigurationChannelCommands_3 :
  (w428.awake ∧ (w428.cc 31).tx = some { msg := { kind := 1, objs := [0] : CcMsg}, id := 7, sends := 3, endAt := some 0 : CcTx} ∧
    { msg := { kind := 1, objs := [0] : CcMsg}, id := 7, sends := 3, endAt := some 0 : CcTx}.endAt = some 0 ∧ 0 + 40000 ≤
    w428.time.tick ∧ 3 ≤ { msg := { kind := 1, objs := [0] : CcMsg}, id := 7, sends := 3, endAt := some 0 : CcTx}.sends ∧
    { msg := { kind := 1, objs := [0] : CcMsg}, id := 7, sends := 3, endAt := some 0 : CcTx}.msg.kind = 1 ∧ w428.contract 31 =
    false) ∧
  (w429.awake ∧ (w429.cc 31).tx = some { msg := { kind := 3, objs := [] : CcMsg}, id := 7, sends := 3, endAt := some 0 : CcTx} ∧
    { msg := { kind := 3, objs := [] : CcMsg}, id := 7, sends := 3, endAt := some 0 : CcTx}.endAt = some 0 ∧ 0 + 40000 ≤
    w429.time.tick ∧ 3 ≤ { msg := { kind := 3, objs := [] : CcMsg}, id := 7, sends := 3, endAt := some 0 : CcTx}.sends ∧
    { msg := { kind := 3, objs := [] : CcMsg}, id := 7, sends := 3, endAt := some 0 : CcTx}.msg.kind ≠ 9 ∧
    { msg := { kind := 3, objs := [] : CcMsg}, id := 7, sends := 3, endAt := some 0 : CcTx}.msg.kind ≠ 1) ∧
  (Rst.awake ∧ Rst.led.wiped = false ∧ Rst.pathLimit Path.pcie = none ∧ Word.bits (0 : Word) 31 1 = 0) ∧
  (w419.awake ∧ w419.led.wiped = false ∧ w419.pathLimit Path.pcie = none ∧ Word.bits (2 : Word) 0 5 = 2 ∧ w419.isSource 31 = true) := by decide +kernel

theorem test_witness_ConfigurationChannelCommands_4 :
  (Rst.awake ∧ Rst.led.wiped = false ∧ Rst.pathLimit Path.pcie = none ∧ Word.bits (4 : Word) 0 5 = 4) ∧
  (Rst.awake ∧ Rst.led.wiped = false ∧ Rst.pathLimit Path.pcie = none ∧ Word.bits (1032 : Word) 0 5 = 8 ∧ 1 ≤ Word.bits (1032 :
    Word) 8 4 ∧ Word.bits (1032 : Word) 8 4 ≤ 4) ∧
  (Rst.awake ∧ Rst.led.wiped = false ∧ Rst.pathLimit Path.pcie = none ∧ Word.bits (16 : Word) 0 5 = 16) ∧
  (Rst.awake ∧ Rst.led.wiped = false ∧ Rst.pathLimit Path.pcie = none ∧ Word.bits (1 : Word) 0 5 = 1) ∧
  (Rst.awake) ∧
  (Rst.awake ∧ Rst.led.wiped = false) := by decide +kernel

theorem test_witness_RoleWriteRule :
  (Rst.awake ∧ Rst.led.wiped = false ∧ Rst.pathLimit Path.pcie = none) := by decide +kernel

theorem test_witness_ChannelTimerCommands_1 :
  (w430.awake ∧ (w430.cc 31).offAt = some 0 ∧ 0 ≤ w430.time.tick ∧ w430.get F.PORT_CCCTL_PTV 31 = 1) ∧
  (w431.awake ∧ (w431.cc 31).offAt = some 0 ∧ 0 ≤ w431.time.tick ∧ w431.get F.PORT_CCCTL_PTV 31 = 0) ∧
  (w432.awake ∧ (w432.cc 31).reqAt = some 0 ∧ 0 ≤ w432.time.tick ∧ w432.get F.PORT_CCSTAT_STATE 31 = 2) ∧
  (w433.awake ∧ (w433.cc 31).respAt = some 0 ∧ 0 ≤ w433.time.tick ∧ w433.get F.PORT_CCSTAT_STATE 31 = 2) ∧
  (w434.awake ∧ (w434.cc 31).readyAt = some 0 ∧ 0 ≤ w434.time.tick ∧ w434.get F.PORT_CCSTAT_STATE 31 = 3) ∧
  (w435.awake ∧ (w435.cc 31).hrAt = some 0 ∧ 0 ≤ w435.time.tick ∧ w435.isSource 31 = true) := by decide +kernel

theorem test_witness_ChannelTimerCommands_2 :
  (w436.awake ∧ (w436.cc 31).hrAt = some 0 ∧ 0 ≤ w436.time.tick ∧ w436.isSource 31 = false ∧ ((w436.setCc 31
    ({ w436.cc 31 with hrAt := none })).pp 31).gate = true ∧ (w436.setCc 31 ({ w436.cc 31 with hrAt := none })).get
    F.PORT_CCSTAT_SRC 31 = 1) ∧
  (w437.awake ∧ (w437.cc 31).hrAt = some 0 ∧ 0 ≤ w437.time.tick ∧ w437.isSource 31 = false ∧ ((w437.setCc 31
    ({ w437.cc 31 with hrAt := none })).pp 31).gate = false) ∧
  (w438.awake ∧ (w438.cc 31).swap = some { gain := true, at_ := some 0 : Swap} ∧ { gain := true, at_ := some 0 : Swap}.at_ = some
    0 ∧ 0 + 1000000 ≤ w438.time.tick) ∧
  (w439.awake ∧ (w439.cc 31).swap = some { gain := true, at_ := some 0 : Swap} ∧ { gain := true, at_ := some 0 : Swap}.at_ = some
    0 ∧ { gain := true, at_ := some 0 : Swap}.gain = true ∧ 0 + 20000 ≤ w439.time.tick ∧ (w439.cc 31).csLowAt = some 18000 ∧ 18000
    + 2000 ≤ w439.time.tick) := by decide +kernel

theorem test_witness_ChannelTimerCommands_3 :
  (w440.awake ∧ (w440.cc 31).swap = some { gain := true, at_ := some 0 : Swap} ∧ { gain := true, at_ := some 0 : Swap}.at_ = some
    0 ∧ { gain := true, at_ := some 0 : Swap}.gain = true ∧ w440.get F.PORT_CCSTAT_CSON 31 = 1 ∧ w440.get F.PORT_CCSTAT_CSOK 31 =
    1 ∧ (w440.cc 31).out = [] ∧ (w440.cc 31).tx = none) ∧
  (w441.awake ∧ (w441.cc 31).swap = some { gain := true, at_ := some 0 : Swap} ∧ { gain := true, at_ := some 0 : Swap}.at_ = some
    0 ∧ { gain := true, at_ := some 0 : Swap}.low = false ∧ 0 + 200000 ≤ w441.time.tick) ∧
  (w442.awake ∧ w442.isSource 31 = true ∧ w442.attached 31 = true ∧ (w442.cc 31).csFault = false ∧ (w442.cc 31).csPeer = false ∧
    (w442.cc 31).swap = none ∧ (w442.cc 31).hrAt = none ∧ (w442.get F.PORT_CCCTL_CSAPPLY 31 = 1 ∨ w442.get F.PORT_PPSTAT_STATE 31
    = 4)) ∧
  (w443.awake ∧ w443.get F.PORT_CCSTAT_CSON 31 = 1 ∧ (w443.cc 31).csDipAt = some 0 ∧ max 0 (w443.cc 31).csAt + 200000 ≤
    w443.time.tick) := by decide +kernel

theorem test_witness_ChannelTimerCommands_4 :
  (Rst.awake ∧ Rst.blockOn rowPower 0 = false) ∧
  (w444.awake ∧ w444.blockOn rowPower 31 = true ∧ w444.isSink 31 = true ∧ (w444.pp 31).gate = false ∧ w444.get F.PORT_CCSTAT_SRC
    31 = 1 ∧ w444.get F.PORT_PPTRIP_LATCH 31 = 0 ∧ (w444.cc 31).attAt + 200000 ≤ w444.time.tick ∧ (w444.pp 31).hiAt = some 0 ∧ 0 +
    200000 ≤ w444.time.tick) ∧
  (w445.awake ∧ w445.isSink 31 = true ∧ (w445.pp 31).gate = true ∧ (w445.pp 31).loAt = some 0 ∧ 0 + 200000 ≤ w445.time.tick) ∧
  (w446.awake ∧ (w446.pp 31).trans = some w447 ∧ w447.done + 1 = w447.steps ∧ w447.start + 200 * w447.steps ≤ w446.time.tick) ∧
  (w448.awake ∧ (w448.pp 31).trans = some w449 ∧ w449.done + 1 < w449.steps ∧ w449.start + 200 * (w449.done + 1) ≤ w448.time.tick
    ∧ ↑w449.fromC * ↑w449.steps + (↑w449.toC - ↑w449.fromC) * ↑(w449.done + 1) = ↑1 * ↑w449.steps) := by decide +kernel

theorem test_witness_ChannelTimerCommands_5 :
  (w450.awake ∧ (w450.pp 31).trans = some w449 ∧ w450.time.tick < w449.start + 200 * (w449.done + 1)) ∧
  (w451.awake ∧ (w451.pp 31).trans = some w452 ∧ w452.reached = some 0 ∧ w452.inAt = some 0 ∧ 0 + 4000 ≤ w451.time.tick ∧ w452.ret
    = false) ∧
  (w453.awake ∧ (w453.pp 31).trans = some w454 ∧ w454.reached = some 0 ∧ w454.inAt = some 0 ∧ 0 + 4000 ≤ w453.time.tick ∧ w454.ret
    = true) ∧
  (w455.awake ∧ (w455.pp 31).trans = some w456 ∧ w456.reached = some 0 ∧ w456.inAt = none ∧ 0 + 200000 ≤ w455.time.tick) ∧
  (Rst.awake) := by decide +kernel

theorem test_witness_DomainCommands_1 :
  (w457.awake ∧ w457.get F.PWR_PSCTL_SHARED = 1 ∧ 36 ≠ 32 ∧ w457.held 36 = false ∧ (w457.dom 36).emptyAt = some 0 ∧ 0 + w457.get
    F.PWR_DCFG_DLY 36 ≤ w457.time.tick) ∧
  (w458.awake ∧ w458.held 3 = true) ∧
  (w459.awake ∧ w459.pwr.stby = none ∧ 1 ≤ w459.get F.PWR_DSTAT_STEP 3 ∧ w459.get F.PWR_DSTAT_STEP 3 < 5 ∧ 3 ≠ 34 ∧ w459.stepOver
    3 = true) ∧
  (w460.awake ∧ w460.pwr.stby = none ∧ w460.get F.PWR_DSTAT_STEP 3 = 5 ∧ 3 ≠ 34 ∧ w460.stepOver 3 = true) ∧
  (w461.awake ∧ w461.pwr.stby = none ∧ w461.stepOver 34 = true ∧ 1 ≤ w461.get F.PWR_DSTAT_STEP 34 ∧ w461.get F.PWR_DSTAT_STEP 34 <
    5) := by decide +kernel

theorem test_witness_DomainCommands_2 :
  (w462.awake ∧ w462.pwr.stby = none ∧ w462.stepOver 34 = true ∧ w462.get F.PWR_DSTAT_STEP 34 = 5) ∧
  (w463.awake ∧ w463.pwr.stby = none ∧ 3 ≠ 32 ∧ 3 ≠ 33 ∧ w463.get F.PWR_PSCTL_SHARED = 1) ∧
  (w464.awake ∧ w464.pwr.stby ≠ none) ∧
  (w465.awake ∧ w465.get F.PWR_DSTAT_STEP 3 ≠ 0) ∧
  (w466.awake ∧ w466.get F.PWR_DSTAT_STEP 3 = 0 ∧ w466.get F.PWR_DSTAT_LEVEL 3 ≠ 0) ∧
  (w467.awake ∧ (w467.dom 31).exit = true ∧ (w467.dom 31).waits = false ∧ w467.get F.PWR_DSTAT_LEVEL 31 ≠ 3 ∧ 31 < 32 ∧ w467.get
    F.PWR_DSTAT_LEVEL 31 ≠ 1) := by decide +kernel

theorem test_witness_DomainCommands_3 :
  (w468.awake ∧ (w468.dom 31).exit = true ∧ (w468.dom 31).waits = false ∧ w468.get F.PWR_DSTAT_LEVEL 31 ≠ 3 ∧ 31 < 32 ∧ w468.get
    F.PWR_DSTAT_LEVEL 31 = 1) ∧
  (w469.awake ∧ (w469.dom 34).exit = true ∧ (w469.dom 34).waits = false ∧ w469.get F.PWR_DSTAT_LEVEL 34 ≠ 3) ∧
  (w470.awake ∧ (w470.dom 35).exit = true ∧ (w470.dom 35).waits = false ∧ w470.get F.PWR_DSTAT_LEVEL 35 ≠ 3 ∧ 34 < 35) ∧
  (Rst.awake ∧ Rst.led.wiped = false ∧ Rst.pathLimit Path.pcie = none ∧ Rst.get F.PWR_DSEL_DOMAIN Path.pcie.sel = 0 ∧ 0 ≠ 32 ∧
    (Rst.set F.PWR_EVOTE_EVOTE (if 4 = 4 then BitVec.toNat (0 : Word) % 2 ^ 17 else BitVec.toNat (0 : Word)) 0 4).get
    F.PWR_DSTAT_STEP = 0 ∧ (Rst.set F.PWR_EVOTE_EVOTE (if 4 = 4 then BitVec.toNat (0 : Word) % 2 ^ 17 else BitVec.toNat (0 :
    Word)) 0 4).get F.PWR_DSTAT_LEVEL = 0) := by decide +kernel

theorem test_witness_DomainCommands_4 :
  (w471.awake ∧ w471.led.wiped = false ∧ w471.pathLimit Path.pcie = none ∧ w471.get F.PWR_DSEL_DOMAIN Path.pcie.sel = 31 ∧ 31 ≠ 32
    ∧ (w471.set F.PWR_EVOTE_EVOTE (if 0 = 4 then BitVec.toNat (1 : Word) % 2 ^ 17 else BitVec.toNat (1 : Word)) 31).held 31 = true
    ∧ (w471.set F.PWR_EVOTE_EVOTE (if 0 = 4 then BitVec.toNat (1 : Word) % 2 ^ 17 else BitVec.toNat (1 : Word)) 31).get
    F.PWR_DSTAT_LEVEL 31 ≠ 0) ∧
  (Rst.awake ∧ Tab.get 0 Rst.pwr.mgr 15 ≤ Rst.time.tick) ∧
  (w472.awake ∧ w472.pwr.sramAt = some 0 ∧ 0 + 64 ≤ w472.time.tick) ∧
  (w473.awake ∧ w473.led.irq = true) ∧
  (Rst.awake ∧ Rst.led.irq = false ∧ (Rst.get F.PWR_PSCTL_SHARED = 1 ∨ Rst.get F.PWR_PSCTL_ARM = 0)) ∧
  (Rst.awake) ∧
  (Rst.awake ∧ Rst.led.wiped = false) := by decide +kernel

theorem test_witness_VcoreCommands_1 :
  (w474.awake ∧ w474.led.wiped = false ∧ w474.pathLimit Path.pcie = none ∧ w474.get F.PWR_VREQ_DOZELVL = Word.bits (19 : Word) 4 2
    ∧ 2 ≤ Word.bits (19 : Word) 0 2 ∧ Word.bits (19 : Word) 0 2 ≠ w474.get F.PWR_VREQ_RUNLVL ∧ w474.voutCode (Word.bits (19 :
    Word) 0 2) ≠ 0 ∧ w474.voutCode (Word.bits (19 : Word) 4 2) ≠ 0 ∧ w474.get F.PWR_DSTAT_STEP 34 ≠ 5) ∧
  (w475.awake ∧ w475.led.wiped = false ∧ w475.pathLimit Path.pcie = none ∧ w475.get F.PWR_PMBCFG_EN = 1) ∧
  (w476.awake ∧ w476.pwr.chg = none ∧ 3 ≠ w476.get F.CORE_STAT_VLEVEL ∧ w476.get F.PWR_PMBCFG_EN = 0) ∧
  (w477.awake ∧ w477.pwr.chg ≠ none) ∧
  (w478.awake ∧ w478.pwr.chg = some { level := 3, old := 2, stage := 3 : VChange} ∧
    ({ level := 3, old := 2, stage := 3 : VChange}.stage = 0 ∨ { level := 3, old := 2, stage := 3 : VChange}.stage = 3)) ∧
  (w479.awake ∧ w479.pwr.chg = some { level := 3, old := 2, stage := 3, fails := 1 : VChange} ∧
    ({ level := 3, old := 2, stage := 3, fails := 1 : VChange}.stage = 0 ∨
    { level := 3, old := 2, stage := 3, fails := 1 : VChange}.stage = 3) ∧
    { level := 3, old := 2, stage := 3, fails := 1 : VChange}.fails < 2) := by decide +kernel

theorem test_witness_VcoreCommands_2 :
  (w480.awake ∧ w480.pwr.chg = some { level := 3, old := 2, fails := 2 : VChange} ∧
    { level := 3, old := 2, fails := 2 : VChange}.stage = 0 ∧ 2 ≤ { level := 3, old := 2, fails := 2 : VChange}.fails) ∧
  (w481.awake ∧ w481.pwr.chg = some { level := 3, old := 2, stage := 3, fails := 2 : VChange} ∧
    { level := 3, old := 2, stage := 3, fails := 2 : VChange}.stage = 3 ∧ 2 ≤
    { level := 3, old := 2, stage := 3, fails := 2 : VChange}.fails) ∧
  (w482.awake ∧ w482.pwr.chg = some { level := 3, old := 2, stage := 1 : VChange} ∧
    { level := 3, old := 2, stage := 1 : VChange}.stage = 1 ∧ (bitOf (BitVec.toNat (32768 : BitVec 16)) 11 = true ∨ bitOf
    (BitVec.toNat (32768 : BitVec 16)) 15 = true)) ∧
  (w482.awake ∧ w482.pwr.chg = some { level := 3, old := 2, stage := 1 : VChange} ∧
    { level := 3, old := 2, stage := 1 : VChange}.stage = 1 ∧ bitOf (BitVec.toNat (30719 : BitVec 16)) 11 = false ∧ bitOf
    (BitVec.toNat (30719 : BitVec 16)) 15 = false) ∧
  (w483.awake ∧ w483.pwr.chg = some { level := 2, old := 2, stage := 2 : VChange} ∧
    { level := 2, old := 2, stage := 2 : VChange}.stage = 2 ∧ { level := 2, old := 2, stage := 2 : VChange}.goodAt + w483.get
    F.PWR_PMBCFG_SETTLE * 200 ≤ w483.time.tick ∧ { level := 2, old := 2, stage := 2 : VChange}.level ≤
    { level := 2, old := 2, stage := 2 : VChange}.old) := by decide +kernel

theorem test_witness_VcoreCommands_3 :
  (w484.awake ∧ w484.pwr.chg = some { level := 3, old := 2, stage := 2 : VChange} ∧
    { level := 3, old := 2, stage := 2 : VChange}.stage = 2 ∧ { level := 3, old := 2, stage := 2 : VChange}.goodAt + w484.get
    F.PWR_PMBCFG_SETTLE * 200 ≤ w484.time.tick ∧ { level := 3, old := 2, stage := 2 : VChange}.old <
    { level := 3, old := 2, stage := 2 : VChange}.level) ∧
  (w485.awake ∧ w485.pwr.chg = some { level := 3, old := 2, stage := 4 : VChange} ∧
    { level := 3, old := 2, stage := 4 : VChange}.stage = 4 ∧ bitOf (BitVec.toNat (30719 : BitVec 16)) 11 = false ∧ bitOf
    (BitVec.toNat (30719 : BitVec 16)) 15 = false) ∧
  (w486.awake ∧ w486.pwr.chg = some { level := 1, old := 0, stage := 6 : VChange} ∧
    { level := 1, old := 0, stage := 6 : VChange}.stage = 6 ∧ { level := 1, old := 0, stage := 6 : VChange}.status = 1 ∧ min
    { level := 1, old := 0, stage := 6 : VChange}.level 2 ≠ w486.pwr.clk ∧ { level := 1, old := 0, stage := 6 : VChange}.goodAt +
    8 ≤ w486.time.tick) ∧
  (w487.awake ∧ w487.pwr.chg = some { level := 2, old := 0, stage := 6 : VChange} ∧
    { level := 2, old := 0, stage := 6 : VChange}.stage = 6 ∧ { level := 2, old := 0, stage := 6 : VChange}.status = 1 ∧ min
    { level := 2, old := 0, stage := 6 : VChange}.level 2 = w487.pwr.clk ∧ { level := 2, old := 0, stage := 6 : VChange}.goodAt <
    w487.time.tick) ∧
  (w488.awake ∧ w488.pwr.chg = some { level := 3, old := 2, stage := 1 : VChange} ∧
    { level := 3, old := 2, stage := 1 : VChange}.stage = 1 ∧ { level := 3, old := 2, stage := 1 : VChange}.sentAt + 2000 *
    w488.get F.PWR_PMBCFG_PGTMO ≤ w488.time.tick) := by decide +kernel

theorem test_witness_VcoreCommands_4 :
  (w489.awake ∧ w489.pwr.chg = some { level := 3, old := 2, stage := 4 : VChange} ∧
    { level := 3, old := 2, stage := 4 : VChange}.stage = 4 ∧ { level := 3, old := 2, stage := 4 : VChange}.sentAt + 2000 *
    w489.get F.PWR_PMBCFG_PGTMO ≤ w489.time.tick) ∧
  (Rst.awake) ∧
  (Rst.awake ∧ Rst.led.wiped = false) := by decide +kernel

theorem test_witness_StandbyCommands_1 :
  (Rst.awake ∧ Rst.led.wiped = false ∧ Rst.pathLimit Path.pcie = none ∧ Word.bits (0 : Word) 30 1 = 0) ∧
  (w490.awake ∧ w490.led.wiped = false ∧ w490.pathLimit Path.pcie = none ∧ Word.bits (1073741824 : Word) 30 1 = 1 ∧ w490.pwr.stby
    = none ∧ w490.isSource 31 = true ∧ (w490.energised 31 = true ∨ w490.get F.PORT_PPSTAT_STATE 31 = 2)) ∧
  (w491.awake ∧ w491.led.wiped = false ∧ w491.pathLimit Path.pcie = none ∧ Word.bits (1073741824 : Word) 30 1 = 1 ∧ w491.pwr.stby
    = none ∧ (∀ (n : PortId), w491.isSource ↑n = true → w491.energised ↑n = false ∧ w491.get F.PORT_PPSTAT_STATE ↑n ≠ 2) ∧ (∃ n :
    PortId, w491.isSink ↑n = true ∧ (w491.pp ↑n).gate = true)) ∧
  (Rst.awake ∧ Rst.led.wiped = false ∧ Rst.pathLimit Path.pcie = none ∧ Word.bits (1073741824 : Word) 30 1 = 1 ∧ Rst.pwr.stby =
    none ∧ (∀ (n : PortId), Rst.isSource ↑n = true → Rst.energised ↑n = false ∧ Rst.get F.PORT_PPSTAT_STATE ↑n ≠ 2) ∧ (∀ (n :
    PortId), Rst.isSink ↑n = true → (Rst.pp ↑n).gate = false)) := by decide +kernel

theorem test_witness_StandbyCommands_2 :
  (w492.awake ∧ w492.pwr.stby = some (0, []) ∧ 0 + 20000 ≤ w492.time.tick) ∧
  (w493.awake ∧ w493.pwr.stby = some (0, []) ∧ w493.time.tick < 0 + 200) ∧
  (w464.awake ∧ w464.pwr.off = false ∧ w464.pwr.stby ≠ none) ∧
  (w494.pwr.off = false ∧ w494.pwr.asleep = true ∧ w494.trimBad 6 0 = false ∧ w494.pwr.stbyWake = none ∧ w494.get
    F.PWR_STBYCFG_WAKEN = 1) ∧
  (w495.pwr.off = false ∧ w495.pwr.asleep = true ∧ w495.trimBad 6 0 = false ∧ w495.pwr.stbyWake = none ∧ w495.get
    F.PWR_STBYCFG_PERST = 1) ∧
  (w496.pwr.off = false ∧ w496.pwr.asleep = true ∧ w496.trimBad 6 0 = false ∧ w496.pwr.stbyWake = none ∧ (4 = 3 ∧ Tab.get 0
    w496.pwr.roles 31 ≠ 1 ∧ Tab.get 0 w496.pwr.roles 31 ≤ 3 ∨ 4 = 4 ∧ Tab.get 0 w496.pwr.roles 31 = 1) ∧ bitOf (w496.get
    F.PWR_STBYARM_ARM) 31 = true) := by decide +kernel

theorem test_witness_StandbyCommands_3 :
  (w497.pwr.off = false ∧ w497.pwr.asleep = true ∧ w497.trimBad 6 0 = false ∧ w497.pwr.stbyWake = none ∧ 3 ≤ 3 ∧ bitOf (w497.get
    F.PWR_STBYARM_ARM) 31 = false) ∧
  (Rst.awake) ∧
  (Rst.awake ∧ Rst.led.wiped = false) := by decide +kernel

theorem test_witness_EventStreamCommands_1 :
  (w498.live ∧ (w498.stream 7).fill.first = some 0 ∧ 0 + 100 * w498.get F.EVS_THR_FLUSHTMO 7 ≤ w498.time.tick) ∧
  ((w15.stream 7).fill.slots = [{ word := 0, num := 0, prod := none : Slot}] ∧ (w15.stream 7).drain.slots = [] ∧ (w15.stream
    7).markOwed = false) ∧
  (w499.awake ∧ w499.led.wiped = false ∧ w499.strmRight Path.pcie 7 = true ∧ Word.bits (2415919104 : Word) 28 1 = 1 ∧ w499.get
    F.EVS_CFG_EN 7 = 1 ∧ Word.bits (2415919104 : Word) 31 1 = 1) ∧
  (Rst.awake ∧ Rst.led.wiped = false ∧ Rst.strmRight Path.pcie 7 = true ∧ Word.bits (2147483648 : Word) 28 1 = 0 ∧ Rst.get
    F.EVS_CFG_EN 7 = 0 ∧ Word.bits (2147483648 : Word) 31 1 = 1) ∧
  (w499.awake ∧ w499.led.wiped = false ∧ w499.strmRight Path.pcie 7 = true ∧ w499.get F.EVS_CFG_EN 7 = 1 ∧ Word.bits (0 : Word) 31
    1 = 0) := by decide +kernel

theorem test_witness_EventStreamCommands_2 :
  (w500.live ∧ w500.evRing 7 = some 4095 ∧ w500.buffers 4095 = [{ slot := 0, w := [0, 512], stage := DStage.ready : Desc}] ∧
    w500.get F.EVS_CFG_EN 7 = 1 ∧ w500.get F.EVS_CFG_DEST 7 = 0 ∧ (w500.stream 7).drain.slots ≠ [] ∧ (w500.stream 7).offered =
    false ∧ 8 < (w500.stream 7).drain.slots.length ∧ { slot := 0, w := [0, 512], stage := DStage.ready : Desc}.moved + 64 <
    w500.bufLen 4095 { slot := 0, w := [0, 512], stage := DStage.ready : Desc}) ∧
  (w501.awake ∧ w501.get F.EVS_TELCFG_EN = 1 ∧ w501.get F.EVS_TELCFG_PER ≠ 0 ∧ w501.time.ridge.toNat % (200000 * w501.get
    F.EVS_TELCFG_PER) = 0 ∧ w501.evs.telAt ≠ some w501.time.tick) ∧
  (w502.awake ∧ w502.led.wiped = false ∧ w502.pathLimit Path.pcie = none ∧ Word.bits (2147483648 : Word) 31 1 = 1 ∧ 960 <
    w502.granted (w502.get F.EVS_PROD_STREAM 161) 161 + w502.get F.EVS_PROD_GRANT 161 ∧ w502.get F.EVS_PROD_EN 161 = 1) := by decide +kernel

theorem test_witness_EventStreamCommands_3 :
  (w503.awake ∧ w503.led.wiped = false ∧ w503.pathLimit Path.pcie = none ∧ Word.bits (2147483649 : Word) 31 1 = 1 ∧ w503.get
    F.EVS_PROD_EN 161 = 0 ∧ w503.undrained 161 = 0 ∧ Word.bits (2147483649 : Word) 0 10 ≤ 960 ∧ w503.granted (Word.bits
    (2147483649 : Word) 24 3) 161 + Word.bits (2147483649 : Word) 0 10 ≤ 960) ∧
  (w504.awake ∧ w504.led.wiped = false ∧ w504.pathLimit Path.pcie = none ∧ Word.bits (0 : Word) 31 1 = 0 ∧ w504.undrained 161 = 0
    ∧ w504.get F.EVS_PROD_EN 161 = 1) ∧
  (Rst.awake) ∧
  (Rst.awake ∧ Rst.led.wiped = false) ∧
  (Rst.live) := by decide +kernel

theorem test_witness_FatalCommands_1 :
  (w505.awake ∧ w505.get F.GLB_FATAL_VALID = 1) ∧
  (Rst.awake ∧ Rst.get F.GLB_FATAL_VALID = 0) ∧
  (Rst.awake ∧ Rst.led.wiped = false ∧ Word.bits (1073741824 : Word) 30 1 = 1) ∧
  (Rst.awake ∧ Rst.led.wiped = false) ∧
  (Rst.awake ∧ Rst.led.wiped = false ∧ Word.bits (2147483648 : Word) 31 1 = 1 ∧ Rst.get F.GLB_FATAL_VALID = 0) ∧
  (w505.awake ∧ w505.led.wiped = false ∧ Word.bits (2147483648 : Word) 31 1 = 1 ∧ w505.get F.GLB_FATAL_VALID = 1 ∧ List.length
    ((w505.set F.GLB_CAIRNSTAT_DONE 1).cairn []) ≤ 2097152) ∧
  (w506.awake ∧ w506.get F.GLB_FATAL_VALID = 1 ∧ w506.evs.stopped = some 0 ∧ 0 + 2000000 * w506.get F.GLB_CAIRNCFG_TMO ≤
    w506.time.tick) ∧
  (w507.awake ∧ (w507.core.scrub + 1) * 64 ≤ w507.time.tick) := by decide +kernel

theorem test_witness_FatalCommands_2 :
  (w508.awake ∧ (w508.core.scrub + 1) * 64 ≤ w508.time.tick ∧ (63 / 64 : ℕ) = w508.core.scrub % 4096 ∧ w508.core.frames = [(0,
    some w509)] ∧ { cell := 63, refs := 1 : CellRef} ∈ w509.cells ∧ { cell := 63, refs := 1 : CellRef}.cell = 63 ∧ 0 <
    { cell := 63, refs := 1 : CellRef}.refs) ∧
  (w510.awake ∧ BitVec.toNat (16383 : BitVec 16) < 16384 ∧ w510.core.frames = [] ∧ (Tab.get { : RowSt} w510.core.rows
    (BitVec.toNat (16383 : BitVec 16))).faulted = true) ∧
  (w511.awake ∧ (12 : Fin 13) ≠ (0 : Fin 13) ∧ (Tab.get { : RowSt} w511.core.rows (2 ^ 20 * 12 + BitVec.toNat (65535 : BitVec
    16))).faulted = true) ∧
  (Rst.awake) ∧
  (Rst.awake ∧ (12 : Fin 13) ≠ (0 : Fin 13) ∧ memPlace 12 (BitVec.toNat (2047 : BitVec 32)) (BitVec.toNat (0 : BitVec 32)) = true) ∧
  (Rst.awake ∧ (9 : Fin 13) ≠ (0 : Fin 13) ∧ memFatal 9 = true) := by decide +kernel

theorem test_witness_ChipResetCommands_1 :
  (w3.led.wiped = true) ∧
  (w512.pwr.off = true) ∧
  (Rst.pwr.off = false) ∧
  (w513.awake ∧ w513.boot.wdtAt = 0 ∧ w513.get F.GLB_WDT_EN = 1 ∧ 0 + 2000000 * w513.get F.GLB_WDT_TMO ≤ w513.time.tick) ∧
  (w514.awake ∧ w514.get F.GLB_WDT_EN = 0) ∧
  (Rst.awake ∧ Rst.led.wiped = false ∧ Rst.pathLimit Path.pcie = none ∧ Word.bits (536870912 : Word) 29 1 = 1) ∧
  (Rst.awake ∧ Rst.led.wiped = false ∧ Rst.pathLimit Path.pcie = none ∧ Word.bits (1073741824 : Word) 30 1 = 1 ∧ Word.bits
    (1073741824 : Word) 29 1 = 0) ∧
  (Rst.awake ∧ Rst.led.wiped = false ∧ Rst.pathLimit Path.pcie = none) := by decide +kernel

theorem test_witness_ChipResetCommands_2 :
  (w307.awake ∧ w307.led.wiped = false ∧ w307.pathLimit (Path.tunnel (15 : Fin 16)) ≠ none) ∧
  (Rst.awake ∧ Rst.led.wiped = false ∧ Rst.pathLimit Path.pcie = none ∧ Path.pcie ≠ Path.mgmt) ∧
  (Rst.awake ∧ Rst.led.wiped = false) ∧
  (w515.awake ∧ w515.led.wiped = false ∧ w515.get F.MGMT_IRQ_EN = 1) ∧
  (Rst.awake ∧ Rst.led.wiped = false ∧ Rst.pathLimit Path.pcie = none ∧ (Path.pcie ≠ Path.mgmt ∨ Rst.get F.MGMT_IRQ_EN = 0)) ∧
  (Rst.awake ∧ Rst.boot.irqs.contains 0 = false) ∧
  (Rst.awake) := by decide +kernel

theorem test_witness_ChipResetState :
  (ResetKind.pin.full = true) ∧
  (ResetKind.watchdog.full = false ∧ w516.get F.PORT_PPTRIP_LATCH 31 = 1) ∧
  (ResetKind.watchdog.full = false ∧ Tab.wf (fun _ => ({} : PwrPort)) Rst.pwr.ports = true) := by decide +kernel

theorem test_witness_BootCommands_1 :
  (w406.awake ∧ w406.boot.loaded = true) ∧
  (Rst.awake ∧ Rst.boot.loaded = false) ∧
  (w517.awake ∧ bitOf w517.boot.regEn 3 = true ∧ bitOf w517.boot.good 3 = false ∧ w517.boot.railAt = some 0 ∧ 0 + 20000 ≤
    w517.time.tick ∧ { w517 with boot := { w517.boot with good := setBit w517.boot.good 3 } }.boot.good = 15) ∧
  (w518.awake ∧ bitOf w518.boot.regEn 3 = true ∧ bitOf w518.boot.good 3 = false ∧ w518.boot.railAt = some 0 ∧ 0 + 20000 ≤
    w518.time.tick ∧ { w518 with boot := { w518.boot with good := setBit w518.boot.good 3 } }.boot.good ≠ 15 ∧ w518.strap 6 =
    true) ∧
  (w519.awake ∧ bitOf w519.boot.regEn 3 = true ∧ bitOf w519.boot.good 3 = false ∧ w519.boot.railAt = some 0 ∧ 0 + 20000 ≤
    w519.time.tick ∧ { w519 with boot := { w519.boot with good := setBit w519.boot.good 3 } }.boot.good ≠ 15 ∧ w519.strap 6 =
    false) := by decide +kernel

theorem test_witness_BootCommands_2 :
  (w520.awake ∧ w520.boot.railAt = some 0 ∧ w520.strap 6 = false ∧ 0 + 2000000 ≤ w520.time.tick) ∧
  (w521.awake ∧ w521.boot.retryAt = some 0 ∧ 0 ≤ w521.time.tick) ∧
  (w522.awake ∧ w522.boot.rom = Rom.verify ∧ w522.imgOk [] = false ∧ w522.strap 1 = false) ∧
  (w523.awake ∧ w523.boot.rom = Rom.verify ∧ w523.imgOk [] = false ∧ w523.strap 1 = true ∧ w523.strap 2 = false ∧ w523.strap 5 =
    false) ∧
  (w524.awake ∧ popCount 64 (w524.otpItem 10) > le32 [] 16) ∧
  (w525.awake ∧ w525.boot.rom = Rom.flashWait ∧ w525.boot.flashAt = some 0 ∧ 0 ≤ w525.time.tick) := by decide +kernel

theorem test_witness_BootCommands_3 :
  (w526.awake ∧ w526.led.wiped = false ∧ w526.pathLimit Path.pcie = none ∧ w526.boot.rom = Rom.hostLoad ∧ List.length
    w526.boot.load ≤ 459004) ∧
  (w526.awake ∧ w526.led.wiped = false ∧ w526.pathLimit Path.pcie = none ∧ w526.boot.rom = Rom.hostLoad ∧ Word.bits (2147483648 :
    Word) 31 1 = 1 ∧ (w526.wr (F.GLB_LOADCTL_GO.addr 0 0) (2147483648 : Word)).imgOk w526.boot.load = false) ∧
  (Rst.awake) ∧
  (Rst.awake ∧ Rst.led.wiped = false) := by decide +kernel

theorem test_witness_OtpCommands_1 :
  (w527.awake ∧ w527.led.wiped = false ∧ Word.bits (3221248517 : Word) 30 1 = 1 ∧ Word.bits (3221248517 : Word) 31 1 = 1 ∧
    Word.bits (3221248517 : Word) 8 8 = 90 ∧ (∀ (n : Fin 16), Path.pcie ≠ Path.tunnel n) ∧ Path.pcie ≠ Path.own ∧ (w527.wr
    (F.GLB_OTPCMD_GO.addr 0 0) (3221248517 : Word)).get F.GLB_OTPSTAT_BUSY = 0 ∧ (w527.wr (F.GLB_OTPCMD_GO.addr 0 0) (3221248517 :
    Word)).progRefused { bits := [(5, 1)] : Otp}.bits ((w527.wr (F.GLB_OTPCMD_GO.addr 0 0) (3221248517 : Word)).get
    F.GLB_OTPCMD_ITEM) = true) ∧
  (w527.awake ∧ w527.led.wiped = false ∧ Word.bits (3221248517 : Word) 30 1 = 1 ∧ Word.bits (3221248517 : Word) 31 1 = 1 ∧
    Word.bits (3221248517 : Word) 8 8 = 90 ∧ (∀ (n : Fin 16), Path.pcie ≠ Path.tunnel n) ∧ Path.pcie ≠ Path.own ∧ (w527.wr
    (F.GLB_OTPCMD_GO.addr 0 0) (3221248517 : Word)).get F.GLB_OTPSTAT_BUSY = 0 ∧ (w527.wr (F.GLB_OTPCMD_GO.addr 0 0) (3221248517 :
    Word)).progRefused { : Otp}.bits ((w527.wr (F.GLB_OTPCMD_GO.addr 0 0) (3221248517 : Word)).get F.GLB_OTPCMD_ITEM) = false) := by decide +kernel

theorem test_witness_OtpCommands_2 :
  (Rst.awake ∧ Rst.led.wiped = false ∧ Word.bits (2147506696 : Word) 30 1 = 0 ∧ Word.bits (2147506696 : Word) 31 1 = 1 ∧ Word.bits
    (2147506696 : Word) 8 8 = 90 ∧ (∀ (n : Fin 16), Path.pcie ≠ Path.tunnel n) ∧ Path.pcie ≠ Path.own ∧ (Rst.wr
    (F.GLB_OTPCMD_GO.addr 0 0) (2147506696 : Word)).get F.GLB_OTPSTAT_BUSY = 0 ∧ 5 ≤ (Rst.wr (F.GLB_OTPCMD_GO.addr 0 0)
    (2147506696 : Word)).get F.GLB_OTPCMD_ITEM ∧ (Rst.wr (F.GLB_OTPCMD_GO.addr 0 0) (2147506696 : Word)).get F.GLB_OTPCMD_ITEM ≤
    8) ∧
  (Rst.awake ∧ Rst.led.wiped = false ∧ Word.bits (2147506697 : Word) 30 1 = 0 ∧ Word.bits (2147506697 : Word) 31 1 = 1 ∧ Word.bits
    (2147506697 : Word) 8 8 = 90 ∧ (∀ (n : Fin 16), Path.pcie ≠ Path.tunnel n) ∧ Path.pcie ≠ Path.own ∧ (Rst.wr
    (F.GLB_OTPCMD_GO.addr 0 0) (2147506697 : Word)).get F.GLB_OTPSTAT_BUSY = 0 ∧ ((Rst.wr (F.GLB_OTPCMD_GO.addr 0 0) (2147506697 :
    Word)).get F.GLB_OTPCMD_ITEM < 5 ∨ 8 < (Rst.wr (F.GLB_OTPCMD_GO.addr 0 0) (2147506697 : Word)).get F.GLB_OTPCMD_ITEM)) ∧
  (Rst.awake ∧ Rst.led.wiped = false) ∧
  (w528.awake ∧ w528.boot.prog = some (5, 1, 0)) ∧
  (Rst.awake ∧ 0 ≠ 10) := by decide +kernel

theorem test_witness_OtpCommands_3 :
  (Rst.awake ∧ 1 ≠ 0 ∧ 0 < 64 ∧ bitOf 0 0 = false ∧ (∀ l < 0, bitOf 0 l = true)) ∧
  (Rst.awake ∧ Rst.boot.prog = none) ∧
  (Rst.awake ∧ 5 ≤ 8 ∧ 8 ≤ 8 ∧ Tab.get 0 { bits := [(8, 1)] : Otp}.bits 8 ≠ 0) ∧
  (w529.awake ∧ w529.get F.GLB_LOCK_LOCK = 1) := by decide +kernel

theorem test_witness_TunnelHeaderRoundTrip :
  (w530.dhub < 2 ^ 16 ∧ w530.dtun < 2 ^ 12 ∧ w530.shub < 2 ^ 16 ∧ w530.stun < 2 ^ 12 ∧ w530.type < 16 ∧ w530.cls < 8 ∧ w530.hops <
    32 ∧ w530.plen < 2 ^ 14 ∧ w530.rsv < 4 ∧ w530.eseq < 2 ^ 24 ∧ w530.hcrc < 2 ^ 16) := by decide +kernel

theorem test_witness_BlockRoundTrips_1 :
  (w531.kind < 4 ∧ w531.seq < 2 ^ 12 ∧ w531.cls < 8 ∧ w531.shc < 64 ∧ w531.len < 2 ^ 14 ∧ w531.crcls < 8 ∧ w531.crcnt < 128) ∧
  (3 < 4 ∧ 4095 < 2 ^ 12 ∧ 7 < 8 ∧ 127 < 128) ∧
  (4294967295 < 2 ^ 32) ∧
  ((btTS2 = btTS1 ∨ btTS2 = btTS2) ∧ w532.lane < 4 ∧ w532.rates < 8 ∧ w532.tgt < 8 ∧ w532.retire < 16 ∧ w532.role < 4 ∧
    w532.preset < 16 ∧ w532.pre < 4 ∧ w532.post < 4 ∧ w532.eqlane < 4 ∧ w532.eqstat < 4 ∧ w532.phase < 4) := by decide +kernel

theorem test_witness_BlockRoundTrips_2 :
  (7 < 8 ∧ 15 < 16 ∧ 1023 < 1024 ∧ 16777215 < 2 ^ 24) ∧
  (15 < 16) ∧
  (63 < 64 ∧ 281474976710655 < 2 ^ 48) ∧
  (63 < 64 ∧ 16777215 < 2 ^ 24) := by decide +kernel

/-! ## Hypotheses that range over a type or rest on a free value -/

def last_ : State := st (ridge_ 18446744073709551615)

theorem test_witness_RidgeTimeCounts :
    (State.reset.pending = [] ∧ State.reset.hub.awake ∧ step State.reset = .next (after State.reset)) ∧
    (last_.pending = [] ∧ last_.hub.awake ∧ step last_ = .next (after last_) ∧ last_.hub.time.ridge = 18446744073709551615#64) :=
  ⟨⟨rfl, rfl, rfl⟩, ⟨rfl, rfl, rfl, rfl⟩⟩

theorem test_witness_OtpBitsStayBlown : step State.reset = .next (after State.reset) := rfl

theorem test_witness_StoppedHub_commands :
    (st asleep_).hub.pwr.asleep = true ∧ (∀ straps, Instr.egressSelect 0 [] ≠ .powerOnReset straps) ∧
    (∀ straps, Instr.egressSelect 0 [] ≠ .pinReset straps) ∧ (∀ k n straps, Instr.egressSelect 0 [] ≠ .standbyWake k n straps) ∧
    Instr.egressSelect 0 [] ≠ .vaonLoss := by
  refine ⟨rfl, ?_, ?_, ?_, ?_⟩ <;> intros <;> nofun

theorem test_witness_RecoveryCommands_noStripe :
    (lst 7 31).awake ∧ (∀ k ∈ [eiBlk], k.isA btStripe = false) ∧ (lst 7 31).get F.PORT_LSTAT_STATE 31 = 7 := by
  refine ⟨rfl, ?_, by decide +kernel⟩
  intro k hk
  obtain rfl : k = eiBlk := by simpa using hk
  decide +kernel

theorem test_witness_TrainingCommands_idleRow :
    (lst 7 31).awake ∧ (lst 7 31).get F.PORT_LSTAT_STATE 31 = 7 ∧ ((lst 7 31).lane 31).turn = none ∧
    (∃ k ∈ [eiBlk], k.isA btEI = true) ∧ ∀ k ∈ [(0 : Blk)], k.isA btEI = false :=
  ⟨rfl, by decide +kernel, by decide +kernel, ⟨eiBlk, List.mem_singleton.2 rfl, by decide +kernel⟩,
    fun k hk => by rw [List.mem_singleton.1 hk]; decide +kernel⟩

/-- A port that has seen a REQ. -/
def asked_ : Hub := lst 7 31 { reqSeen := some (lmgtBlk lmREQ 3 1 2 0 5000, 0) }

theorem test_witness_TurnExchangeCommands_req :
    (asked_.awake ∧ (lmgtBlk lmREQ 3 1 2 0 5000).isA btLmgt = true ∧ asked_.get F.PORT_LSTAT_STATE 31 = 7 ∧
      (lmgtBlk lmREQ 3 1 2 0 5000).lmKind = lmREQ ∧
      ∃ t, (asked_.lane 31).reqSeen = some (lmgtBlk lmREQ 3 1 2 0 5000, t) ∧ asked_.time.tick ≤ t + 16) ∧
    (lst 7 31).awake ∧ (lst 7 31).get F.PORT_LSTAT_STATE 31 = 7 ∧ ((lst 7 31).lane 31).reqSeen = none :=
  ⟨⟨rfl, by decide +kernel, by decide +kernel, by decide +kernel, 0, by decide +kernel, by decide +kernel⟩, rfl, by decide +kernel,
    by decide +kernel⟩

/-- A request whose tag is the one the hub computes for it under key 0. -/
def tagged_ (h : Hub) (ctr : Byte) : Machine.Frm :=
  let hd : THdr := { hdr_ 5 0 0 24 with a := true }
  let body : Bytes := [5, 0, 0, 0, 0, 0, 0, 0, 0, ctr, 0, 1, 0, 0, 0, 0]
  { frm_ hd with data := body ++ h.tagOf 0 hd body }
def tag0_ : Machine.Frm := tagged_ mgr15_ 0
def tag1_ : Machine.Frm := tagged_ mgr15run_ 1

theorem test_witness_ManagementCommands_tag :
    (tag0_.src ≠ 33 ∧ mgr15_.mgrSlot tag0_.hdr.shub = some 15 ∧ tag0_.hdr.a = true ∧ 24 ≤ tag0_.hdr.plen ∧
      (mgr15_.untag tag0_).isSome = true ∧ tag0_.ctr ≤ mgr15_.get64 F.FAB_RMGRCTR_LO_CTR_LO F.FAB_RMGRCTR_HI_CTR_HI 15) ∧
    (tag1_.src ≠ 33 ∧ mgr15run_.mgrSlot tag1_.hdr.shub = some 15 ∧ tag1_.hdr.a = true ∧ 24 ≤ tag1_.hdr.plen ∧
      (mgr15run_.untag tag1_).isSome = true ∧ mgr15run_.fresh 15 tag1_.ctr = true) := by decide +kernel

/-- A key made for the tests with openssl, and what it signed: images of one word of code with security versions 0 and 1 (Table
18-4), and a configuration image of one empty section (Table 18-5). -/
def key_ : Nat := 0xbdbe7b60d0cd12afb1442b0f908144544977abc9486f567b1cf1dbe680a93e6bfc11e150ab84a4d304208b487164b71ed221d45275ee1b904c36140229a95f49
def sign0_ : Nat := 0x91bd61be144309b7cda5ae816d348a6002cb04549da8c563c9910b858d389e2b2af45a13afa09dde4312350f392906ad38aa9435e0a199707e970dbe165caf3f
def sign1_ : Nat := 0xfbf43a27ba2be8626621b95fd27c7ec341badbdd6af50e84bb39491bc5b82c5a1e774c31ce21e87893d6371a5d3b2dece0257bf691ac68f9a9670b50d3419bbc
def signC_ : Nat := 0x2f7820294aca4bf3a6b340e116aa9aa2b38d63a34d65c82b6bf09086eb31a31c3c72871c6efbcc30fce97ee480b0e7c3f517a0640a3b08012043f4216c083b4e
def bytes_ (n x : Nat) : Bytes := (toBytes n x).map (BitVec.ofNat 8)
def image_ (magic svn sig : Nat) : Bytes :=
  leBytes 4 magic ++ leBytes 4 1 ++ leBytes 4 4 ++ leBytes 4 0 ++ leBytes 4 svn ++ List.replicate 36 0 ++ bytes_ 64 key_ ++ bytes_ 64 sig ++
    List.replicate 76 0
def img0_ : Bytes := image_ 0x544C4233 0 sign0_
def img1_ : Bytes := image_ 0x544C4233 1 sign1_
def cfgImage_ : Bytes :=
  leBytes 4 0x47464352 ++ leBytes 2 1 ++ leBytes 2 1 ++ leBytes 4 240 ++ List.replicate 100 0 ++ bytes_ 64 key_ ++ bytes_ 64 signC_
def verify_ : Hub := boot_ { rom := .verify }
def hostLoad_ : Hub := boot_ { rom := .hostLoad, load := img1_ }

theorem test_witness_BootCommands_slotB :
    verify_.awake ∧ verify_.boot.rom = .verify ∧ le32 img0_ 0x10 < le32 img1_ 0x10 ∧ verify_.imgOk img1_ = true := by decide +kernel

theorem test_witness_BootCommands_slotA_afterB :
    verify_.awake ∧ verify_.boot.rom = .verify ∧ le32 img1_ 0x10 < le32 (image_ 0x544C4233 2 0) 0x10 ∧
    verify_.imgOk (image_ 0x544C4233 2 0) = false ∧ verify_.imgOk img1_ = true := by decide +kernel

theorem test_witness_BootCommands_slotA :
    verify_.awake ∧ verify_.boot.rom = .verify ∧ le32 img1_ 0x10 ≤ le32 img1_ 0x10 ∧ verify_.imgOk img1_ = true := by decide +kernel

theorem test_witness_BootCommands_slotB_afterA :
    verify_.awake ∧ verify_.boot.rom = .verify ∧ le32 img0_ 0x10 ≤ le32 (image_ 0x544C4233 1 sign0_) 0x10 ∧
    verify_.imgOk (image_ 0x544C4233 1 sign0_) = false ∧ verify_.imgOk img0_ = true := by decide +kernel

theorem test_witness_BootCommands_hostLoad :
    hostLoad_.awake ∧ hostLoad_.pathLimit .pcie = none ∧ hostLoad_.boot.rom = .hostLoad ∧ Word.bits 0x80000000 31 1 = 1 ∧
    (hostLoad_.wr (F.GLB_LOADCTL_GO.addr 0 0) 0x80000000).imgOk hostLoad_.boot.load = true := by decide +kernel

theorem test_witness_ConfigCommands_image :
    running_.awake ∧ running_.boot.rom = .running ∧ running_.get F.MGMT_STAT_RUNNING = 1 ∧ running_.strap 4 = false ∧ running_.boot.cfg = false ∧
    ({ running_ with boot := { running_.boot with cfg := true } } : Hub).cfgOk cfgImage_ = true ∧ running_.get F.TIME_CTL_SUMMIT = 0 := by decide +kernel

/-- The published vectors: SHA-256 of the empty string, the AES-128 block of FIPS 197 appendix B, CMAC of the empty string of SP
800-38B. -/
theorem test_standard_vectors :
    sha256 [] = 0xe3b0c44298fc1c149afbf4c8996fb92427ae41e4649b934ca495991b7852b855 ∧
    ofBytes (aes 0x2b7e151628aed2a6abf7158809cf4f3c (toBytes 16 0x3243f6a8885a308d313198a2e0370734)) =
      0x3925841d02dc09fbdc118597196a0b32 ∧
    cmacTag 0x2b7e151628aed2a6abf7158809cf4f3c [] = 0xbb1d6929e9593728 := by decide +kernel

/-- A step after which a blown bit reads 0 would break OtpBitsStayBlown. -/
theorem test_unblown_bit_is_not_kept : ¬ otpKept { bits := [(5, 1)] } {} := fun h => absurd (h 5 0 (by decide)) (by decide)

/-! ## Figures that the spec gives -/

/-- R127 and R99: the nine bytes "123456789". -/
theorem test_check_values :
    crc16 [0x31, 0x32, 0x33, 0x34, 0x35, 0x36, 0x37, 0x38, 0x39] = 0x29B1 ∧
    crc32 [0x31, 0x32, 0x33, 0x34, 0x35, 0x36, 0x37, 0x38, 0x39] = 0xFC891918 := by decide +kernel

/-- The worked example of R128. -/
theorem test_tunnel_header_example :
    ({ dhub := 3, dtun := 0x41, shub := 0x410, stun := 0x40, type := 1, cls := 5, p := true, hops := 30, plen := 4080,
       eseq := 0x3000 } : THdr).bytes.take 14 =
      [0x00, 0x03, 0x04, 0x10, 0x41, 0x00, 0x40, 0x1B, 0x1E, 0x3F, 0xC0, 0x00, 0x30, 0x00] := by decide +kernel

/-- The addresses of the worked examples of chapters 8 and 19. -/
theorem test_addresses : F.PORT_LKERR_CRCERR.addr 20 0 = 0x24130 ∧ F.GATE_GATES.addr (20 * 512 + 256) 0 = 0x10A400 := by
  decide +kernel

/-- The hub after a command on a hub, alone. -/
def does_ (c : Instr) (h : Hub) : Hub :=
  Host.Outcome.casesOn (exec c { hub := h, start := h, otp := {}, pending := [] }) (fun s => s.hub) (fun _ => h) (fun _ => h)

/-- Table 3-10: the turn of P6 from 2:2 to 3:1 requested at 5,000,000 with DLY 12 (768 of 1/64 tick) executes at 5,000,100. -/
theorem test_turn_request_example :
    (((does_ (.turnRequest 6 1) (ridge_ 5000000 (((up 6).set F.PORT_TDLY_DLY 768 6).set F.PORT_TDLY_VALID 1 6))).lane 6).turn.map (·.x)) =
      some 5000100 := by decide +kernel

/-- Chapter 13: at ridge time 1,000,000,000 the frame number is 904. -/
theorem test_frame_number_example :
    (does_ .microframeStart (port_ 7 4 {} ((ridge_ 1000000000 { Rst with time := { Rst.time with everLocked := true } }).set
      F.PERI_CFG_EN 1))).out.contains (.usb 7 (.sof 904)) = true := by decide +kernel

/-- R490: what is left in Off comes back as the reset hub, its pins' events and what it notes of the present tick apart. -/
theorem test_power_on_reset :
    { does_ (.powerOnReset 0) (does_ .vaonLoss Rst) with out := [], led := {} } = { Rst with out := [], led := {} } := by decide +kernel

/-- The worked example of Table 1-10's section: TIME owns SYNC_IN, and pipe D2 is refused it at the
end of the tick. -/
theorem test_claim_example :
    let h := does_ (.registerWrite .mgmt (.bar0 (BitVec.ofNat 21 (F.RAS_CTL_LOCK.addr 2 0))) 0xF 0x4000 0) (Rst.setOwner 0 2) |>.postClaims
    h.reg (F.GLB_CLAIM_VALID.addr 0 0) = 0x80000802 ∧ h.get F.RAS_CTL_LOCK 2 = 0 := by decide +kernel

/-! ## Ill-formed commands are refused, well-formed ones are not -/

theorem test_ill_formed_1 :
    Instr.wf (.registerWrite .pcie (.bar0 2) 0xF 0 0) = false ∧
    Instr.wf (.rcRead .pcie (.bar2 1) 0xF) = false ∧
    Instr.wf (.rcRead .pcie (.config 1) 0xF) = false ∧
    Instr.wf (.rcRead .mgmt (.bar2 0) 0xF) = false ∧
    Instr.wf (.registerWrite .own (.bar0 0) 0xF 0 0) = false ∧
    Instr.wf (.registerWrite (.tunnel 3) .msixControl 0xF 0 0) = false ∧
    Instr.wf (.eiReceive ⟨3, []⟩) = false ∧
    Instr.wf (.blockLockLost 3 0 ⟨0, false⟩) = false ∧
    Instr.wf (.stripeReceive 3 []) = false ∧
    Instr.wf (.stripeReceive 3 (List.replicate 5 0)) = false ∧
    Instr.wf (.lparamReceive 3 (List.replicate 31 0)) = false ∧
    Instr.wf (.egressSelect 3 [(262144, true)]) = false ∧
    Instr.wf (.kennelScrub [(262144, false)]) = false ∧
    Instr.wf (.mgmtResendTimeout 1 2 0 (.inl 0) none) = false ∧
    Instr.wf (.mgmtResendTimeout 1 2 0 (.inr []) none) = false ∧
    Instr.wf (.mgmtResendTimeout 1 2 0 (.inr (List.replicate 1025 0)) none) = false ∧
    Instr.wf (.shaperWrite true 272 0 0) = false ∧
    Instr.wf (.descriptorArrival 5 (List.replicate 7 0)) = false ∧
    Instr.wf (.descriptorArrival 5 []) = false ∧
    Instr.wf (.descriptorArrival 5 (List.replicate 264 0)) = false ∧
    Instr.wf (.perstNRelease 3 1) = false := by decide +kernel

theorem test_ill_formed_2 :
    Instr.wf (.perstNRelease 8 0) = false ∧
    Instr.wf (.perstNRelease 8 6) = false ∧
    Instr.wf (.dataArrival 5 []) = false ∧
    Instr.wf (.bar4Write 0 []) = false ∧
    Instr.wf (.bar4Write (2 ^ 40) [0]) = false ∧
    Instr.wf (.bar4Read 0 0 0) = false ∧
    Instr.wf (.bar4Read 0 (2 ^ 40 - 1) 2) = false ∧
    Instr.wf (.inboundPcieCompletion 3 0 (List.replicate 4097 0)) = false ∧
    Instr.wf (.inboundPcieCompletion 3 1 [0]) = false ∧
    Instr.wf (.layerDataArrival 3 0 true []) = false ∧
    Instr.wf (.layerDataArrival 3 0 false [0]) = false ∧
    Instr.wf (.transactionEnd 5 0 (List.replicate 1025 0)) = false ∧
    Instr.wf (.transactionEnd 5 1 [0]) = false ∧
    Instr.wf (.otpLoadComplete [(7, 0)]) = false ∧
    Instr.wf (.otpLoadComplete [(0, 0)]) = false := by decide +kernel

theorem test_ill_formed_3 :
    Instr.wf (.otpLoadComplete [(1, 1)]) = false ∧
    Instr.wf (.otpLoadComplete [(2, 32)]) = false ∧
    Instr.wf (.otpLoadComplete [(6, 1)]) = false ∧
    Instr.wf (.offerReceive 3 (cc_ 1 2 0) []) = false ∧
    Instr.wf (.requestReceive 3 (cc_ 1 0 0) [0]) = false ∧
    Instr.wf (.acceptReceive 3 (cc_ 1 0 0) [0]) = false ∧
    Instr.wf (.rejectReceive 3 (cc_ 1 0 0) [0]) = false ∧
    Instr.wf (.ccReadyReceive 3 (cc_ 1 0 0) [0]) = false ∧
    Instr.wf (.statusReceive 3 (cc_ 1 0 0) [0]) = false ∧
    Instr.wf (.alertReceive 3 (cc_ 1 0 0) [0]) = false ∧
    Instr.wf (.cableSupplySwapReceive 3 (cc_ 1 0 0) [0]) = false ∧
    Instr.wf (.hardresetReceive 3 (cc_ 1 0 0) [0]) = false ∧
    Instr.wf (.ccBadFrame 3 0 (List.replicate 8 0) true) = false := by decide +kernel

theorem test_ill_formed_images :
    Instr.wf (.bootSlotVerify (List.replicate 0x80001 0) []) = false ∧ Instr.wf (.bootSlotVerify [] (List.replicate 0x80001 0)) = false ∧
    Instr.wf (.configImageApply (List.replicate 0x200001 0) 0) = false ∧
    Instr.wf (.cairnDone .mgmt 0 [(1, List.replicate 0x200001 0)] 0) = false := by
  simp only [Instr.wf, List.length_replicate, List.all_cons, List.all_nil]; decide

theorem test_well_formed :
    Instr.wf (.registerWrite .mgmt (.bar0 2) 0xF 0 0) = true ∧ Instr.wf (.lparamReceive 3 (List.replicate 32 0)) = true ∧
    Instr.wf (.offerReceive 3 (cc_ 1 2 0) [0, 0]) = true ∧ Instr.wf (.otpLoadComplete [(2, 31), (6, 0)]) = true ∧
    Instr.wf (.bar4Write (2 ^ 40 - 1) [0]) = true ∧ Instr.wf (.admitCells) = true := by decide +kernel

end Sys2Proof.Tests
end

section
/-! SUPPORT. What the end of a tick leaves of the time state. Everything that `Hub.passTick` does besides `Hub.tick` keeps `Hub.time`:
one lemma for each operation it reaches, in the order of the model's files, and so the tick itself is all that moves the tick count
and ridge time (R5, R531). -/

namespace Sys2Proof.Machine

/-- A fold whose every step keeps the time state keeps it. -/
theorem Hub.foldl_time {α : Type} (f : Hub → α → Hub) (hf : ∀ g x, (f g x).time = g.time) (h : Hub) (l : List α) :
    (l.foldl f h).time = h.time := by
  induction l generalizing h with
  | nil => rfl
  | cons x l ih => rw [List.foldl_cons, ih, hf]

theorem Hub.each_time (h : Hub) (l : List Nat) (f : Nat → Hub → Hub) (hf : ∀ i g, (f i g).time = g.time) :
    (h.each l f).time = h.time := Hub.foldl_time _ (fun g i => hf i g) h l

/-! ## Event records and claims -/

@[simp] theorem Hub.loseRecords_time (h : Hub) (p v n : Nat) : (h.loseRecords p v n).time = h.time := by
  rw [Hub.loseRecords, Hub.bump_time, Hub.setProd_time]

@[simp] theorem Hub.pushRec_time (h : Hub) (v r : Nat) (prod : Option Nat) : (h.pushRec v r prod).time = h.time := by
  rw [Hub.pushRec, Hub.set_time, Hub.setStream_time]

theorem Hub.writeMark_time {h g : Hub} {v : Nat} (e : h.writeMark v = some g) : g.time = h.time := by
  simp only [Hub.writeMark] at e
  split at e
  · obtain rfl := Option.some.inj e
    rw [Hub.pushRec_time, Hub.setStream_time]
  · cases e

/-- The hub that a record goes to: with the MARK that is due, or as it was. -/
theorem Hub.marked_time {h g : Hub} {v : Nat} (e : (if h.markNeeded v then h.writeMark v else some h) = some g) : g.time = h.time := by
  split at e
  · exact Hub.writeMark_time e
  · rw [Option.some.inj e]

@[simp] theorem Hub.swapBanks_time (h : Hub) (v : Nat) (flushed : Bool) : (h.swapBanks v flushed).time = h.time := by
  have mark (g : Hub) : ((g.writeMark v).getD g).time = g.time := by
    cases e : g.writeMark v with
    | none => rfl
    | some k => exact Hub.writeMark_time e
  simp only [Hub.swapBanks, apply_ite Hub.time, mark, Hub.set_time, Hub.setStream_time, ite_self]

@[simp] theorem Hub.closeBank_time (h : Hub) (v : Nat) (flushed : Bool) : (h.closeBank v flushed).time = h.time := by
  simp only [Hub.closeBank, apply_ite Hub.time, Hub.swapBanks_time, Hub.setStream_time, ite_self]

@[simp] theorem Hub.closeFull_time (h : Hub) (v : Nat) : (h.closeFull v).time = h.time := by
  simp only [Hub.closeFull, apply_ite Hub.time, Hub.closeBank_time, ite_self]

@[simp] theorem Hub.pendUpdate_time (h : Hub) (v : Nat) : (h.pendUpdate v).time = h.time := by
  rw [Hub.pendUpdate, Hub.set_time]

@[simp] theorem Hub.record_time (h : Hub) (p : Nat) (rs : List Nat) : (h.record p rs).time = h.time := by
  simp only [Hub.record]
  split
  · rfl
  split
  · rw [Hub.loseRecords_time]
  split
  · rw [Hub.loseRecords_time, Hub.setStream_time]
  next h1 marked =>
    rw [Hub.closeFull_time, Hub.pendUpdate_time, Hub.set_time, Hub.foldl_time _ (fun g r => g.pushRec_time _ r _),
      Hub.marked_time marked]

@[simp] theorem Hub.rec1_time (h : Hub) (p cls code src data : Nat) : (h.rec1 p cls code src data).time = h.time := by
  rw [Hub.rec1, Hub.record_time]

@[simp] theorem Hub.fault0_time (h : Hub) (code src data : Nat) : (h.fault0 code src data).time = h.time := by
  rw [Hub.fault0, Hub.rec1_time]

@[simp] theorem Hub.threshold_time (h : Hub) (v : Nat) : (h.threshold v).time = h.time := by
  simp only [Hub.threshold, apply_ite Hub.time, Hub.vector_time, Hub.bump_time, Hub.setStream_time, ite_self]

@[simp] theorem Hub.thresholds_time (h : Hub) : h.thresholds.time = h.time := by
  rw [Hub.thresholds, Hub.foldl_time _ Hub.threshold_time]

@[simp] theorem Hub.lossRecord_time (h : Hub) (p : Nat) : (h.lossRecord p).time = h.time := by
  simp only [Hub.lossRecord]
  split
  · rfl
  split
  · rfl
  split
  · rfl
  next h1 marked =>
    split
    · rfl
    · rw [Hub.closeFull_time, Hub.pendUpdate_time, Hub.setProd_time, Hub.pushRec_time, Hub.setStream_time, Hub.marked_time marked]

@[simp] theorem Hub.lossSweep_time (h : Hub) : h.lossSweep.time = h.time := by
  rw [Hub.lossSweep, Hub.foldl_time _ Hub.lossRecord_time]

@[simp] theorem Hub.refuseClaim_time (h : Hub) (r claimant owner : Nat) : (h.refuseClaim r claimant owner).time = h.time := by
  rw [Hub.refuseClaim, Hub.fault0_time, Hub.bump_time, Hub.set_time, Hub.set_time, Hub.set_time, Hub.raise_time]

theorem Hub.refuseClaims_time (h : Hub) (l : List Refused) :
    (l.foldl (fun g x => g.refuseClaim x.res x.claimant x.owner) h).time = h.time := by
  induction l generalizing h with
  | nil => rfl
  | cons x l ih => rw [List.foldl_cons, ih, Hub.refuseClaim_time]

@[simp] theorem Hub.postClaims_time (h : Hub) : h.postClaims.time = h.time := by rw [Hub.postClaims, Hub.refuseClaims_time]

@[simp] theorem Hub.release_time (h : Hub) (r claimant : Nat) : (h.release r claimant).time = h.time := by
  simp only [Hub.release, apply_ite Hub.time, Hub.setOwner_time, ite_self]

/-! ## Frames, cells and queues -/

@[simp] theorem Hub.putFrm_time (h : Hub) (i : Nat) (f : Option Frm) : (h.putFrm i f).time = h.time := rfl

@[simp] theorem Hub.setFrm_time (h : Hub) (i : Nat) (f : Frm) : (h.setFrm i f).time = h.time := rfl

@[simp] theorem Hub.freeCell_time (h : Hub) (c : Nat) : (h.freeCell c).time = h.time := rfl

@[simp] theorem Hub.pool_time (h : Hub) : h.pool.time = h.time := by rw [Hub.pool, Hub.set_time, Hub.set_time]

@[simp] theorem Hub.occDown_time (h : Hub) (q n : Nat) : (h.occDown q n).time = h.time := by
  rw [Hub.occDown, Hub.pool_time, Hub.set_time]

@[simp] theorem Hub.dropRefs_time (h : Hub) (i a b : Nat) : (h.dropRefs i a b).time = h.time := by
  unfold Hub.dropRefs
  split
  · rfl
  · simp only []
    rw [Hub.foldl_time _ (fun g q => g.occDown_time q _), Hub.foldl_time _ (fun g (c : CellRef) => g.freeCell_time c.cell), Hub.setFrm_time]

@[simp] theorem Hub.rxOcc_time (h : Hub) (p : Nat) : (h.rxOcc p).time = h.time := by
  simp only [Hub.rxOcc, apply_ite Hub.time, Hub.set_time, ite_self]

@[simp] theorem Hub.sendCtl_time (h : Hub) (n : Nat) (b : Blk) : (h.sendCtl n b).time = h.time := by
  rw [Hub.sendCtl, Hub.send_time]

@[simp] theorem Hub.sendLcb_time (h : Hub) (n ak aseq : Nat) (staged poll : Bool) (pool : Nat) :
    (h.sendLcb n ak aseq staged poll pool).time = h.time := by
  rw [Hub.sendLcb, Hub.sendCtl_time, Hub.setLink_time]

@[simp] theorem Hub.creditBack_time (h : Hub) (n pool k : Nat) : (h.creditBack n pool k).time = h.time := by
  simp only [Hub.creditBack, apply_ite Hub.time, Hub.sendLcb_time, Hub.setLink_time, ite_self]

@[simp] theorem Hub.leave_time (h : Hub) (i k : Nat) : (h.leave i k).time = h.time := by
  unfold Hub.leave
  split
  · rfl
  · simp only [apply_ite Hub.time, Hub.rxOcc_time, Hub.creditBack_time, Hub.setFrm_time, ite_self]

@[simp] theorem Hub.gone_time (h : Hub) (i : Nat) : (h.gone i).time = h.time := by
  unfold Hub.gone
  split
  · rfl
  next f _ =>
    have uncharge (g : Hub) : (f.charged.foldl (fun g q => g.occDown q (f.n - f.credited)) g).time = g.time :=
      Hub.foldl_time _ (fun g q => g.occDown_time q _) g _
    simp only [apply_ite Hub.time, Hub.rxOcc_time, Hub.putFrm_time, Hub.setStage_time, Hub.leave_time, Hub.setFrm_time, uncharge, ite_self]

@[simp] theorem Hub.dropCopy_time (h : Hub) (i q : Nat) : (h.dropCopy i q).time = h.time := by
  unfold Hub.dropCopy
  split
  · rfl
  · rw [Hub.gone_time, Hub.dropRefs_time, Hub.setFrm_time, Hub.setQueue_time]

@[simp] theorem Hub.note_time (h : Hub) (f : Frm) (committed : Bool) (status : Nat) : (h.note f committed status).time = h.time := by
  simp only [Hub.note, apply_ite Hub.time, ite_self]

@[simp] theorem Hub.dropStaged_time (h : Hub) (i status : Nat) : (h.dropStaged i status).time = h.time := by
  unfold Hub.dropStaged
  split
  · rfl
  · rw [Hub.gone_time, Hub.setFrm_time, Hub.note_time]

@[simp] theorem Hub.readEnd_time (h : Hub) (e : Nat) (t : Tx) (f : Frm) (good : Bool) : (h.readEnd e t f good).time = h.time := by
  simp only [Hub.readEnd, apply_ite Hub.time, Hub.setLink_time, ite_self]

@[simp] theorem Hub.pump_time (h : Hub) (e : Nat) : (h.pump e).time = h.time := by
  unfold Hub.pump
  split
  · rfl
  split
  · rfl
  split
  · rfl
  simp only []
  split
  · split
    all_goals simp only [apply_ite Hub.time, Hub.gone_time, Hub.setFrm_time, Hub.readEnd_time, Hub.setTx_time, Hub.dropRefs_time,
      Hub.setLink_time, Hub.bump_time, ite_self]
  · simp only [apply_ite Hub.time, Hub.setTx_time, Hub.dropRefs_time, Hub.setLink_time, Hub.setFrm_time, Hub.bump_time, ite_self]

@[simp] theorem Hub.failFrame_time (h : Hub) (i : Nat) (cut : Bool) : (h.failFrame i cut).time = h.time := by
  unfold Hub.failFrame
  split
  · rfl
  simp only []
  split
  · rw [Hub.gone_time, Hub.setFrm_time]
  · have unqueue (l : List Nat) (g : Hub) : (g.each l (fun q g => g.setQueue q ((g.queue q).erase i))).time = g.time :=
      Hub.each_time g l _ (fun q g => g.setQueue_time q _)
    have unref (l : List Nat) (n : Nat) (g : Hub) : (g.each l (fun _ g => g.dropRefs i 0 n)).time = g.time :=
      Hub.each_time g l _ (fun _ g => g.dropRefs_time i 0 n)
    have pumped (l : List Nat) (g : Hub) : (g.each l (fun e g => g.pump e)).time = g.time :=
      Hub.each_time g l _ (fun e g => g.pump_time e)
    simp only [apply_ite Hub.time, Hub.gone_time, Hub.bump_time, pumped, unref, unqueue, Hub.setStage_time, Hub.leave_time,
      Hub.setFrm_time, ite_self]
  · rw [Hub.dropStaged_time, Hub.bump_time, Hub.setFrm_time]

/-! ## Tunnel entries -/

@[simp] theorem Hub.unlink_time (h : Hub) (i : Nat) : (h.unlink i).time = h.time := by
  unfold Hub.unlink
  split
  · rfl
  · rw [Hub.foldl_time _ (fun g q => g.dropCopy_time i q)]

@[simp] theorem Hub.relink_time (h : Hub) (i q : Nat) : (h.relink i q).time = h.time := by
  unfold Hub.relink
  split
  · rfl
  split
  · rw [Hub.setQueue_time, Hub.setFrm_time]
  · rw [Hub.setFrm_time]
  · rfl

@[simp] theorem Hub.resend_time (h : Hub) (t : Nat) (after : Option Nat) : (h.resend t after).time = h.time := by
  unfold Hub.resend
  split
  · rfl
  · simp only []
    rw [Hub.each_time, Hub.each_time _ _ _ (fun i g => g.unlink_time i)]
    intro i g
    split
    · rw [Hub.relink_time]
    · rfl

@[simp] theorem Hub.tunTick_time (h : Hub) (t : Nat) : (h.tunTick t).time = h.time := by
  simp only [Hub.tunTick, apply_ite Hub.time, Hub.resend_time, Hub.set_time, Hub.setTun_time, ite_self]

@[simp] theorem Hub.tunsTick_time (h : Hub) : h.tunsTick.time = h.time := by
  rw [Hub.tunsTick, Hub.each_time _ _ _ (fun t g => g.tunTick_time t)]

@[simp] theorem Hub.failover_time (h : Hub) (t : Nat) : (h.failover t).time = h.time := by
  rw [Hub.failover, Hub.setTun_time, Hub.rec1_time, Hub.bump_time, Hub.bump_time, Hub.set_time]

@[simp] theorem Hub.portFailover_time (h : Hub) (n : Nat) : (h.portFailover n).time = h.time := by
  rw [Hub.portFailover, Hub.each_time _ _ _ (fun t g => g.failover_time t)]

/-! ## Raster layers -/

@[simp] theorem Hub.dropReads_time (h : Hub) (p : ReadFor → Bool) : (h.dropReads p).time = h.time := rfl

@[simp] theorem Hub.unflip_time (h : Hub) (d l : Nat) : (h.unflip d l).time = h.time := by
  unfold Hub.unflip
  simp only []
  split
  · rfl
  · rw [Hub.setPipe_time, Hub.dropReads_time]

@[simp] theorem Hub.rasTick_time (h : Hub) : h.rasTick.time = h.time := by
  rw [Hub.rasTick, Hub.each_time]
  intro d g
  rw [Hub.setPipe_time, Hub.each_time _ _ _ (fun l k => k.unflip_time d l)]

/-! ## Power paths -/

@[simp] theorem Hub.ppShow_time (h : Hub) (n : Nat) : (h.ppShow n).time = h.time := by
  simp only [Hub.ppShow, Hub.set_time]

@[simp] theorem Hub.setDsch_time (h : Hub) (n : Nat) (on : Bool) : (h.setDsch n on).time = h.time := by
  simp only [Hub.setDsch, apply_ite Hub.time, Hub.emit_time, Hub.setPp_time, ite_self]

@[simp] theorem Hub.dschShow_time (h : Hub) (n : Nat) : (h.dschShow n).time = h.time := by
  simp only [Hub.dschShow, apply_ite Hub.time, Hub.setDsch_time, ite_self]

@[simp] theorem Hub.setPpState_time (h : Hub) (n s : Nat) : (h.setPpState n s).time = h.time := rfl

@[simp] theorem Hub.driveGate_time (h : Hub) (n mode : Nat) : (h.driveGate n mode).time = h.time := rfl

@[simp] theorem Hub.setVset_time (h : Hub) (n code mv : Nat) : (h.setVset n code mv).time = h.time := by
  simp only [Hub.setVset, apply_ite Hub.time, Hub.emit_time, Hub.setPp_time, ite_self]

@[simp] theorem Hub.safeVset_time (h : Hub) (n : Nat) : (h.safeVset n).time = h.time := by
  rw [Hub.safeVset, Hub.setVset_time]

@[simp] theorem Hub.setIcon_time (h : Hub) (n i : Nat) : (h.setIcon n i).time = h.time := rfl

@[simp] theorem Hub.energise_time (h : Hub) (n : Nat) : (h.energise n).time = h.time := by
  rw [Hub.energise, Hub.setIcon_time, Hub.dschShow_time, Hub.setPp_time, Hub.bump_time, Hub.setPpState_time, Hub.driveGate_time,
    Hub.safeVset_time]

@[simp] theorem Hub.clearContract_time (h : Hub) (n cause : Nat) : (h.clearContract n cause).time = h.time := by
  simp only [Hub.clearContract, apply_ite Hub.time, Hub.rec1_time, Hub.setReg_time, ite_self]

@[simp] theorem Hub.dropTrans_time (h : Hub) (n : Nat) : (h.dropTrans n).time = h.time := by
  rw [Hub.dropTrans, Hub.release_time, Hub.setPp_time]

@[simp] theorem Hub.setCc_time (h : Hub) (n : Nat) (c : CcPort) : (h.setCc n c).time = h.time := rfl

@[simp] theorem Hub.endExchange_time (h : Hub) (n : Nat) : (h.endExchange n).time = h.time := by
  rw [Hub.endExchange, Hub.set_time, Hub.setCc_time]

@[simp] theorem Hub.renEnd_time (h : Hub) (n result : Nat) : (h.renEnd n result).time = h.time := by
  unfold Hub.renEnd
  split
  · rfl
  · rw [Hub.rec1_time, Hub.setCc_time]

@[simp] theorem Hub.loseContract_time (h : Hub) (n cause : Nat) (cable : Bool) : (h.loseContract n cause cable).time = h.time := by
  simp only [Hub.loseContract, apply_ite Hub.time, Hub.renEnd_time, Hub.setCc_time, Hub.dropTrans_time, Hub.endExchange_time,
    Hub.rec1_time, Hub.bump_time, Hub.setReg_time, Hub.clearContract_time, ite_self]

@[simp] theorem Hub.drainOn_time (h : Hub) (n : Nat) : (h.drainOn n).time = h.time := by
  rw [Hub.drainOn, Hub.setDsch_time, Hub.setPp_time]

@[simp] theorem Hub.setCcState_time (h : Hub) (n s : Nat) : (h.setCcState n s).time = h.time := rfl

@[simp] theorem Hub.turnOff_time (h : Hub) (n cause : Nat) (cable : Bool) : (h.turnOff n cause cable).time = h.time := by
  rw [Hub.turnOff, Hub.setCcState_time, Hub.setPp_time, Hub.setIcon_time, Hub.safeVset_time, Hub.drainOn_time, Hub.driveGate_time,
    Hub.loseContract_time]

@[simp] theorem Hub.ppEval_time (h : Hub) (n : Nat) (cable : Bool) (cause : Nat) : (h.ppEval n cable cause).time = h.time := by
  simp only [Hub.ppEval]
  split
  · split
    · rw [Hub.dschShow_time, Hub.setPpState_time, Hub.setPp_time, Hub.ppShow_time]
    · rw [Hub.dschShow_time, Hub.ppShow_time]
  split
  · split
    · rw [Hub.dschShow_time, Hub.setPpState_time, Hub.setPp_time, Hub.ppShow_time]
    split
    · rw [Hub.energise_time, Hub.ppShow_time]
    · rw [Hub.ppShow_time]
  split
  · rw [Hub.setPpState_time, Hub.bump_time, Hub.turnOff_time, Hub.ppShow_time]
  · rw [Hub.ppShow_time]

@[simp] theorem Hub.setCson_time (h : Hub) (n : Nat) (on : Bool) : (h.setCson n on).time = h.time := by
  simp only [Hub.setCson, apply_ite Hub.time, Hub.emit_time, Hub.setCc_time, Hub.set_time, ite_self]

@[simp] theorem Hub.powerTick_time (h : Hub) : h.powerTick.time = h.time := by
  rw [Hub.powerTick, Hub.each_time]
  intro n g
  simp only []
  split
  · simp only [apply_ite Hub.time, Hub.setCc_time, Hub.setCson_time, Hub.ppEval_time, ite_self]
  · simp only [apply_ite Hub.time, Hub.ppEval_time, ite_self]

/-! ## Links -/

@[simp] theorem Hub.ackTick_time (h : Hub) (n : Nat) : (h.ackTick n).time = h.time := by
  simp only [Hub.ackTick, apply_ite Hub.time, Hub.sendLcb_time, Hub.setLink_time, ite_self]

@[simp] theorem Hub.sendBody_time (h : Hub) (n : Nat) (b : Bytes) : (h.sendBody n b).time = h.time := by
  rw [Hub.sendBody, Hub.foldl_time _ (fun g k => g.send_time n _)]

@[simp] theorem Hub.setCrd_time (h : Hub) (n p v : Nat) : (h.setCrd n p v).time = h.time := by
  simp only [Hub.setCrd, apply_ite Hub.time, Hub.set_time, ite_self]

@[simp] theorem Hub.replayOn_time (h : Hub) (n : Nat) : (h.replayOn n).time = h.time := by
  unfold Hub.replayOn
  simp only []
  split
  · rw [Hub.setLink_time]
  · simp only [apply_ite Hub.time, Hub.sendCtl_time, Hub.setLink_time, Hub.setCrd_time, ite_self]

@[simp] theorem Hub.putMsg_time (h : Hub) (n : Nat) (body : Bytes) : (h.putMsg n body).time = h.time := by
  rw [Hub.putMsg, Hub.sendCtl_time, Hub.sendBody_time, Hub.sendCtl_time]

@[simp] theorem Hub.sendMsgs_time (h : Hub) (n : Nat) : (h.sendMsgs n).time = h.time := by
  rw [Hub.sendMsgs, Hub.foldl_time _ (fun g b => g.putMsg_time n b), Hub.setLink_time]

@[simp] theorem Hub.frameTick_time (h : Hub) (n : Nat) : (h.frameTick n).time = h.time := by
  unfold Hub.frameTick
  simp only []
  split
  · rfl
  split
  · rfl
  split
  · rw [Hub.setLink_time]
  · simp only [apply_ite Hub.time, Hub.replayOn_time, Hub.sendMsgs_time, Hub.setLink_time, Hub.sendCtl_time, Hub.sendBody_time, ite_self]

@[simp] theorem Hub.linkTick_time (h : Hub) : h.linkTick.time = h.time := by
  rw [Hub.linkTick, Hub.each_time]
  intro n g
  simp only [apply_ite Hub.time, Hub.setLink_time, Hub.ackTick_time, Hub.frameTick_time, ite_self]

@[simp] theorem Hub.failOpen_time (h : Hub) (n : Nat) (cut : Bool) : (h.failOpen n cut).time = h.time := by
  unfold Hub.failOpen
  simp only []
  split
  · rfl
  · simp only [apply_ite Hub.time, Hub.failFrame_time, Hub.bump_time, Hub.creditBack_time, Hub.setLink_time, ite_self]

@[simp] theorem Hub.linkDown_time (h : Hub) (n cause : Nat) : (h.linkDown n cause).time = h.time := by
  simp only [Hub.linkDown, apply_ite Hub.time, Hub.portFailover_time, Hub.rec1_time, Hub.bump_time, Hub.setLink_time, Hub.failOpen_time,
    Hub.set_time, ite_self]

/-! ## Lanes -/

@[simp] theorem Hub.loopEnd_time (h : Hub) (n : Nat) : (h.loopEnd n).time = h.time := by
  have patterns (l : List Nat) (g : Hub) : (l.foldl (fun g m => g.emit (.pattern n m [])) g).time = g.time :=
    Hub.foldl_time _ (fun g m => g.emit_time _) g l
  simp only [Hub.loopEnd, apply_ite Hub.time, Hub.emit_time, patterns, Hub.setLane_time, ite_self]

@[simp] theorem Hub.clearLanes_time (h : Hub) (n : Nat) : (h.clearLanes n).time = h.time := by
  simp only [Hub.clearLanes, Hub.set_time, Hub.setLane_time, Hub.loopEnd_time]

@[simp] theorem Hub.toDisabled_time (h : Hub) (n : Nat) : (h.toDisabled n).time = h.time := by
  rw [Hub.toDisabled, Hub.emit_time, Hub.set_time, Hub.clearLanes_time]

/-! ## VCORE and the power domains -/

@[simp] theorem Hub.showCeil_time (h : Hub) : h.showCeil.time = h.time := by
  simp only [Hub.showCeil, apply_ite Hub.time, Hub.set_time, ite_self]

@[simp] theorem Hub.setCeil_time (h : Hub) (l : Nat) : (h.setCeil l).time = h.time := by rw [Hub.setCeil, Hub.showCeil_time]

@[simp] theorem Hub.setCap_time (h : Hub) (c : Nat) : (h.setCap c).time = h.time := by rw [Hub.setCap, Hub.showCeil_time]

@[simp] theorem Hub.setClk_time (h : Hub) (c : Nat) : (h.setClk c).time = h.time := rfl

@[simp] theorem Hub.setClkCap_time (h : Hub) (c : Nat) : (h.setClkCap c).time = h.time := rfl

@[simp] theorem Hub.setChg_time (h : Hub) (c : Option VChange) : (h.setChg c).time = h.time := rfl

@[simp] theorem Hub.setNext_time (h : Hub) (c : Option Nat) : (h.setNext c).time = h.time := rfl

@[simp] theorem Hub.writeVout_time (h : Hub) (c : VChange) : (h.writeVout c).time = h.time := rfl

@[simp] theorem Hub.startChange_time (h : Hub) (l : Nat) : (h.startChange l).time = h.time := by
  simp only [Hub.startChange]
  split
  · rw [Hub.writeVout_time, Hub.set_time]
  split
  · rw [Hub.writeVout_time, Hub.setClk_time, Hub.setCeil_time, Hub.set_time]
  · rw [Hub.setChg_time, Hub.set_time]

@[simp] theorem Hub.askLevel_time (h : Hub) (l : Nat) : (h.askLevel l).time = h.time := by
  unfold Hub.askLevel
  split
  · rw [Hub.setNext_time]
  split
  · rfl
  split
  · rw [Hub.set_time]
  · rw [Hub.startChange_time]

@[simp] theorem Hub.setStep_time (h : Hub) (d k : Nat) : (h.setStep d k).time = h.time := by
  rw [Hub.setStep, Hub.setDom_time, Hub.set_time]

@[simp] theorem Hub.exitFrom_time (h : Hub) (d fuel : Nat) : (h.exitFrom d fuel).time = h.time := by
  induction fuel generalizing h d with
  | zero => rfl
  | succ k ih =>
    simp only [Hub.exitFrom]
    split
    · rfl
    split
    · rw [Hub.askLevel_time, Hub.setDom_time]
    split
    · rw [Hub.setDom_time]
    · simp only [apply_ite Hub.time, Hub.setDom_time, ih, ite_self]

@[simp] theorem Hub.startExit_time (h : Hub) (d : Nat) : (h.startExit d).time = h.time := by rw [Hub.startExit, Hub.exitFrom_time]

@[simp] theorem Hub.portSleep_time (h : Hub) (n : Nat) : (h.portSleep n).time = h.time := by
  rw [Hub.portSleep, Hub.toDisabled_time, Hub.linkDown_time]

@[simp] theorem Hub.commitLevel_time (h : Hub) (d : Nat) : (h.commitLevel d).time = h.time := by
  simp only [Hub.commitLevel, apply_ite Hub.time, Hub.startExit_time, Hub.bump_time, Hub.portSleep_time, Hub.setClkCap_time,
    Hub.setCap_time, Hub.setDom_time, Hub.set_time, Hub.setStep_time, ite_self]

@[simp] theorem Hub.entryGone_time (h : Hub) (d : Nat) : (h.entryGone d).time = h.time := by
  rw [Hub.entryGone, Hub.setDom_time, Hub.bump_time, Hub.set_time, Hub.setStep_time]

@[simp] theorem Hub.backAtRun_time (h : Hub) (d : Nat) : (h.backAtRun d).time = h.time := by
  rw [Hub.backAtRun, Hub.each_time, Hub.setDom_time, Hub.set_time]
  intro e g
  simp only [apply_ite Hub.time, Hub.setDom_time, ite_self]

@[simp] theorem Hub.endChange_time (h : Hub) (c : VChange) (status : Nat) : (h.endChange c status).time = h.time := by
  unfold Hub.endChange
  simp only []
  split
  all_goals simp only [apply_ite Hub.time, Hub.askLevel_time, Hub.setNext_time, Hub.setDom_time, Hub.setClkCap_time, Hub.setCap_time,
    Hub.entryGone_time, Hub.commitLevel_time, Hub.backAtRun_time, Hub.setChg_time, Hub.set_time, ite_self]

@[simp] theorem Hub.changeDone_time (h : Hub) (c : VChange) : (h.changeDone c).time = h.time := by
  rw [Hub.changeDone, Hub.endChange_time, Hub.bump_time]

@[simp] theorem Hub.seqTick_time (h : Hub) : h.seqTick.time = h.time := by
  unfold Hub.seqTick
  split
  · rfl
  · simp only [apply_ite Hub.time, Hub.writeVout_time, Hub.setClk_time, Hub.setChg_time, Hub.changeDone_time, Hub.endChange_time,
      Hub.setCeil_time, ite_self]

@[simp] theorem Hub.undoTick_time (h : Hub) : h.undoTick.time = h.time := by
  simp only [Hub.undoTick, apply_ite Hub.time, Hub.setStep_time, Hub.setClkCap_time, Hub.entryGone_time, Hub.setCap_time, ite_self]

@[simp] theorem Hub.vcoreTick_time (h : Hub) : h.vcoreTick.time = h.time := by
  rw [Hub.vcoreTick, Hub.seqTick_time, Hub.undoTick_time]

@[simp] theorem Hub.wakeDom_time (h : Hub) (d : Nat) : (h.wakeDom d).time = h.time := by
  simp only [Hub.wakeDom, apply_ite Hub.time, Hub.setDom_time, Hub.startExit_time, ite_self]

@[simp] theorem Hub.endWait_time (h : Hub) : h.endWait.time = h.time := by
  rw [Hub.endWait, Hub.wakeDom_time, Hub.each_time _ _ _ (fun d g => g.wakeDom_time d), Hub.set_time]

@[simp] theorem Hub.mirq_time (h : Hub) (k : Nat) : (h.mirq k).time = h.time := rfl

@[simp] theorem Hub.withdrawEntry_time (h : Hub) (d : Nat) : (h.withdrawEntry d).time = h.time := by
  simp only [Hub.withdrawEntry, apply_ite Hub.time, Hub.entryGone_time, Hub.setDom_time, Hub.setStep_time, ite_self]

@[simp] theorem Hub.beginStep_time (h : Hub) (d k fuel : Nat) : (h.beginStep d k fuel).time = h.time := by
  induction fuel generalizing h k with
  | zero => rfl
  | succ f ih =>
    simp only [Hub.beginStep, apply_ite Hub.time, Hub.withdrawEntry_time, ih, Hub.askLevel_time, Hub.setStep_time, ite_self]

@[simp] theorem Hub.startEntry_time (h : Hub) (d l : Nat) : (h.startEntry d l).time = h.time := by
  rw [Hub.startEntry, Hub.beginStep_time, Hub.setDom_time, Hub.set_time]

@[simp] theorem Hub.tryEntry_time (h : Hub) (d : Nat) : (h.tryEntry d).time = h.time := by
  simp only [Hub.tryEntry, apply_ite Hub.time, Hub.startEntry_time, ite_self]

@[simp] theorem Hub.domTick_time (h : Hub) (d : Nat) : (h.domTick d).time = h.time := by
  simp only [Hub.domTick, apply_ite Hub.time, Hub.endWait_time, Hub.mirq_time, Hub.wakeDom_time, Hub.tryEntry_time, Hub.setDom_time,
    ite_self]

@[simp] theorem Hub.domsTick_time (h : Hub) : h.domsTick.time = h.time := by
  simp only [Hub.domsTick, apply_ite Hub.time, Hub.each_time _ _ _ (fun d g => Hub.domTick_time g d), ite_self]

/-! ## The tick -/

/-- The tick count and ridge time go on by one; ridge time is a 64-bit number and so wraps (R5, R531). -/
theorem Hub.tick_time (h : Hub) : h.tick.time = { h.time with tick := h.time.tick + 1, ridge := h.time.ridge + 1#64 } := by
  rw [Hub.tick, Hub.lossSweep_time]

/-- While only AON is powered, or nothing is, no tick passes (R431). -/
theorem Hub.passTick_asleep {h : Hub} (asleep : h.pwr.asleep = true) : h.passTick = h := if_pos asleep

theorem Hub.passTick_awake {h : Hub} (ha : h.awake) :
    h.passTick = h.postClaims.tunsTick.rasTick.powerTick.domsTick.thresholds.tick.vcoreTick.linkTick := if_neg (Bool.eq_false_iff.mp ha)

/-- The end of a tick moves the time state as `Hub.tick` does, and nothing else of it touches time. -/
theorem Hub.passTick_time {h : Hub} (ha : h.awake) :
    h.passTick.time = { h.time with tick := h.time.tick + 1, ridge := h.time.ridge + 1#64 } := by
  rw [Hub.passTick_awake ha, Hub.linkTick_time, Hub.vcoreTick_time, Hub.tick_time, Hub.thresholds_time, Hub.domsTick_time,
    Hub.powerTick_time, Hub.rasTick_time, Hub.tunsTick_time, Hub.postClaims_time]

/-- With no command waiting a step is the end of a tick (log entry 1). -/
theorem step_idle {s : State} (hp : s.pending = []) : step s = .next { s with hub := s.hub.passTick, start := s.hub.passTick } := by
  simp only [step, hp]

end Sys2Proof.Machine
end

section
/-! Ridge time and the idle step. -/

namespace Sys2Proof.Machine

/-- Settles O3: of all that an idle step does, only the tick itself moves the time state, and it adds one to both counts. -/
theorem ridgeTimeCounts : Obligations.RidgeTimeCounts := by
  intro s s' hp ha hs
  have time : s'.hub.time = { s.hub.time with tick := s.hub.time.tick + 1, ridge := s.hub.time.ridge + 1#64 } := by
    rw [step_idle hp] at hs
    obtain rfl := Host.Outcome.next.inj hs
    exact Hub.passTick_time ha
  rw [time]
  refine ⟨rfl, rfl, fun full => ?_⟩
  show s.hub.time.ridge + 1#64 = 0#64
  rw [full]
  decide

/-- Settles O2: the idle step is `Hub.passTick`, by the definition of a step. -/
theorem idleStep : Obligations.IdleStep :=
  fun _ hp => ⟨step_idle hp, Hub.passTick_asleep, Hub.passTick_awake⟩

end Sys2Proof.Machine
end

section
/-! What a software access reaches: REGISTER_WRITE and RC_READ over BAR0, BAR2 and the configuration space (R7, R11, R248, R252, R288). -/

namespace Sys2Proof.Machine

/-! ## The two commands on a powered hub -/

theorem doesOtp_registerWrite {h : Hub} (ha : h.awake) (p : Path) (x : Place) (be : BitVec 4) (v : Word) (straps : BitVec 8) (o : Otp) :
    DoesOtp (.registerWrite p x be v straps) h o (h.write { otp := o.bits, straps := straps.toNat } p x be v) := by
  intro st q
  rw [exec_registerWrite, runO_awake ha]

theorem doesRead_rcRead {h : Hub} (ha : h.awake) (p : Path) (x : Place) (be : BitVec 4) (st : Hub) (o : Otp) :
    DoesRead (.rcRead p x be) st h o (st.read h p x be) := by
  intro q
  rw [exec_rcRead, runS_awake ha]

/-! ## Writes by place -/

theorem Hub.write_bar0_whole (h : Hub) (e : Env) {p : Path} {a : BitVec 21} {be : BitVec 4} (v : Word) (whole : wholeWord p a.toNat be = true) :
    h.write e p (.bar0 a) be v = h.regWrite e p (a.toNat / 4 * 4) v := if_pos whole

theorem Hub.write_bar0_partial (h : Hub) (e : Env) {p : Path} {a : BitVec 21} {be : BitVec 4} (v : Word) (part : wholeWord p a.toNat be = false) :
    h.write e p (.bar0 a) be v = h := if_neg (Bool.eq_false_iff.mp part)

theorem Hub.write_bar2_whole (h : Hub) (e : Env) (a : BitVec 20) (v : Word) :
    h.write e .pcie (.bar2 a) 15#4 v = h.bar2Write (a.toNat / 4 * 4) v := by
  simp only [Hub.write, Hub.when, and_self, if_true]

theorem Hub.write_bar2_partial (h : Hub) (e : Env) (a : BitVec 20) {be : BitVec 4} (v : Word) (part : be ≠ 15#4) :
    h.write e .pcie (.bar2 a) be v = h := if_neg fun whole => part whole.2

/-- Until CFGRDY a configuration write is answered with a retry status (R248). -/
theorem Hub.write_config_retry {h : Hub} (e : Env) {x : Place} {c : BitVec 12} (be : BitVec 4) (v : Word) (hx : x = .config c ∨ x = .msixControl)
    (notReady : h.flag F.HIF_PCTL_CFGRDY = false) : h.write e .pcie x be v = h.emit .cfgRetry := by
  rcases hx with rfl | rfl
  · simp only [Hub.write, Hub.when, notReady, Bool.false_eq_true, not_false_eq_true, and_self, if_true]
  · simp only [Hub.write, Hub.when, notReady, Bool.false_eq_true, if_false, if_true]

/-! ## Reads by place -/

theorem Hub.read_bar0 (st h : Hub) {p : Path} {a : BitVec 21} {be : BitVec 4} (whole : p = .pcie ∨ wholeWord p a.toNat be = true) :
    st.read h p (.bar0 a) be =
      st.readEffect (h.emit (.readData p (a.toNat / 4 * 4) (st.view p (a.toNat / 4 * 4)))) p (a.toNat / 4 * 4) := if_pos whole

theorem Hub.read_bar2 (st h : Hub) (a : BitVec 20) (be : BitVec 4) :
    st.read h .pcie (.bar2 a) be = (st, h.emit (.bar2Data (a.toNat / 4 * 4) (st.bar2Word (a.toNat / 4 * 4)))) := by
  simp only [Hub.read, Hub.when, if_true]

/-- A configuration read is answered by CFGRDY (R248). -/
theorem Hub.read_config (st h : Hub) {x : Place} {c : BitVec 12} (be : BitVec 4) (hx : x = .config c ∨ x = .msixControl) :
    st.read h .pcie x be = (st, h.emit (if h.flag F.HIF_PCTL_CFGRDY then .cfgData (st.cfgWord x) else .cfgRetry)) := by
  rcases hx with rfl | rfl
  · simp only [Hub.read, Hub.when, if_true]
  · simp only [Hub.read, Hub.when, if_true]

/-! ## Registers that a write or a read does not reach -/

theorem Hub.regWrite_unlisted (h : Hub) (e : Env) (p : Path) {a : Nat} (v : Word) (unlisted : listed a = false) : h.regWrite e p a v = h :=
  if_pos (.inl (Bool.eq_false_iff.mp unlisted))

/-- After a chip reset in the tick only the kept set takes a write (R55, R465). -/
theorem Hub.regWrite_wiped {h : Hub} (e : Env) (p : Path) {a : Nat} (v : Word) (wiped : h.led.wiped = true) (lost : keptReg a = false) :
    h.regWrite e p a v = h := if_pos (.inr (.inr (.inr (.inr ⟨wiped, Bool.eq_false_iff.mp lost⟩))))

/-- A path that carries a slice's rights reaches what the slice reaches (R181, R288). -/
theorem Hub.reaches_eq_reach {h : Hub} {p : Path} (a : Nat) (slice : h.pathSlice p ≠ 0) : h.reaches p a = h.reach (h.pathSlice p) a := by
  rw [Hub.reaches, beq_false_of_ne slice, Bool.false_or]

theorem Hub.regWrite_unreached {h : Hub} (e : Env) {p : Path} {a : Nat} (v : Word) (unreached : h.reaches p a = false) :
    h.regWrite e p a v = h := if_pos (.inr (.inr (.inl (Bool.eq_false_iff.mp unreached))))

theorem Hub.view_unreached {h : Hub} {p : Path} {a : Nat} (unreached : h.reaches p a = false) : h.view p a = 0#32 :=
  if_pos (.inr (.inl (Bool.eq_false_iff.mp unreached)))

theorem Hub.readEffect_unreached {st : Hub} (h : Hub) {p : Path} {a : Nat} (unreached : st.reaches p a = false) :
    st.readEffect h p a = (st, h) := if_pos (.inr (.inl (Bool.eq_false_iff.mp unreached)))

/-! ## Common registers of GLB -/

/-- Below TIME every register but GLB_OWNER holds its value. -/
theorem Hub.computed_glb (h : Hub) (p : Path) {a : Nat} (glb : a < 0x1000) (notOwner : a ≠ 0x44) : h.computed p a = none := by
  have window : isWindow a = false := by simp only [isWindow, Bool.and_eq_false_iff, decide_eq_false_iff_not]; omega
  unfold Hub.computed
  rw [if_neg notOwner, window]
  repeat rw [if_neg (by omega)]
  rfl

/-- Registers below HIF stand for themselves on every path. -/
theorem Hub.home_low (h : Hub) (p : Path) {a : Nat} (low : a < 0x2000) : h.home p a = some a := by
  unfold Hub.home
  repeat rw [if_neg (by omega)]

theorem Hub.view_glb {h : Hub} {p : Path} {a : Nat} (aligned : a % 4 = 0) (reached : h.reaches p a = true) (glb : a < 0x1000)
    (notOtp : isOtpReg a = false) (notOwner : a ≠ 0x44) : h.view p a = h.rd a := by
  have open_ : ¬ (a % 4 ≠ 0 ∨ ¬ h.reaches p a ∨ (remotePath p ∧ isOtpReg a)) := by simp [aligned, reached, notOtp]
  rw [Hub.view, if_neg open_, Hub.computed_glb h p glb notOwner, Hub.home_low h p (by omega)]

theorem Hub.readEffect_glb {st : Hub} (h : Hub) {p : Path} {a : Nat} (aligned : a % 4 = 0) (reached : st.reaches p a = true) (glb : a < 0x1000)
    (notOtp : isOtpReg a = false) : st.readEffect h p a = (st.rcClear a, h.rcTake a) := by
  have open_ : ¬ (a % 4 ≠ 0 ∨ ¬ st.reaches p a ∨ (remotePath p ∧ isOtpReg a)) := by simp [aligned, reached, notOtp]
  rw [Hub.readEffect, if_neg open_, if_neg (by omega), if_neg (by omega), Hub.home_low st p (by omega)]

/-! ## The doorbell pages of BAR2 -/

theorem Hub.bar2Write_db (h : Hub) (s : Fin 128) (v : Word) : h.bar2Write (4096 * s) v = h.doorbell (some s) v := by
  rw [Hub.bar2Write, if_pos (by omega), if_pos (by omega), Nat.mul_div_cancel_left _ (by omega)]

theorem Hub.bar2Write_arm (h : Hub) (s : Fin 128) (v : Word) : h.bar2Write (4096 * s + 4) v = h.arm (some s) v := by
  rw [Hub.bar2Write, if_pos (by omega), if_neg (by omega), if_pos (by omega), show (4096 * s.val + 4) / 4096 = s.val by omega]

theorem Hub.bar2Word_page (h : Hub) {b : Nat} (page : b < 0x80000) : h.bar2Word b = 0#32 := if_pos page

theorem Hub.bar2Write_page_rest (h : Hub) {b : Nat} (v : Word) (page : b < 0x80000) (rest : 8 ≤ b % 4096) : h.bar2Write b v = h := by
  rw [Hub.bar2Write, if_pos page, if_neg (by omega), if_neg (by omega)]

/-- Settles O8: each clause by the lemma about the place it names. -/
theorem registerAccessCommands : Obligations.RegisterAccessCommands := by
  refine ⟨fun h st o ha p a be => ⟨?_, ?_, ?_, ?_, ?_, ?_, ?_, ?_, ?_, ?_, ?_, ?_⟩, fun h ha => ⟨?_, ?_⟩⟩
  · intro v straps whole
    rw [← h.write_bar0_whole _ v whole]
    exact doesOtp_registerWrite ha p (.bar0 a) be v straps o
  · intro v straps part
    simpa only [h.write_bar0_partial _ v part] using doesOtp_registerWrite ha p (.bar0 a) be v straps o
  · intro whole
    rw [← st.read_bar0 h whole]
    exact doesRead_rcRead ha p (.bar0 a) be st o
  · exact fun e b v unlisted => h.regWrite_unlisted e p v unlisted
  · exact fun e b v wiped lost => Hub.regWrite_wiped e p v wiped lost
  · intro e b v slice unreached
    rw [← Hub.reaches_eq_reach b slice] at unreached
    exact ⟨Hub.regWrite_unreached e v unreached, Hub.view_unreached unreached, Hub.readEffect_unreached st unreached⟩
  · exact fun b aligned reached glb notOtp notOwner =>
      ⟨Hub.view_glb aligned reached glb notOtp notOwner, Hub.readEffect_glb st aligned reached glb notOtp⟩
  · intro b v straps
    refine ⟨?_, fun part => ?_, ?_⟩
    · simpa only [Hub.write_bar2_whole] using doesOtp_registerWrite ha .pcie (.bar2 b) 15#4 v straps o
    · simpa only [h.write_bar2_partial _ b v part] using doesOtp_registerWrite ha .pcie (.bar2 b) be v straps o
    · rw [← Hub.read_bar2 st h b be]
      exact doesRead_rcRead ha .pcie (.bar2 b) be st o
  · exact fun s v => ⟨h.bar2Write_db s v, h.bar2Write_arm s v⟩
  · exact fun b v page => ⟨h.bar2Word_page page, h.bar2Write_page_rest v page⟩
  · intro x c v straps hx notReady
    have flag := Hub.flag_zero notReady
    constructor
    · simpa only [Hub.write_config_retry _ be v hx flag] using doesOtp_registerWrite ha .pcie x be v straps o
    · simpa only [Hub.read_config st h be hx, flag, Bool.false_eq_true, if_false] using doesRead_rcRead ha .pcie x be st o
  · intro x c hx ready
    simpa only [Hub.read_config st h be hx, Hub.flag_one ready, if_true] using doesRead_rcRead ha .pcie x be st o
  · exact fun p x be v straps o => doesOtp_registerWrite ha p x be v straps o
  · exact fun p x be st o => doesRead_rcRead ha p x be st o

end Sys2Proof.Machine
end

section
/-! How a field takes a write by its access code (R9, R10, R483), and which bits of a register read zero. -/

namespace Sys2Proof

theorem bitOf_eq_testBit (x i : Nat) : bitOf x i = x.testBit i := by
  rw [bitOf, Nat.testBit_eq_decide_div_mod_eq, beq_eq_decide]

/-- A bit outside the field that is replaced stays, also where the field reaches beyond the word. -/
theorem Word.getLsbD_setBits_out (v : Word) (lo w x : Nat) {i : Nat} (hi : i < 32) (out : i < lo ∨ lo + w ≤ i) :
    (v.setBits lo w x).getLsbD i = v.getLsbD i := by
  have low : v.toNat % 2 ^ lo < 2 ^ lo := Nat.mod_lt _ (Nat.two_pow_pos lo)
  rw [Word.setBits, BitVec.getLsbD_ofNat, decide_eq_true hi, Bool.true_and, ← BitVec.testBit_toNat]
  rcases out with below | above
  · have e : 2 ^ (lo + w) * (v.toNat / 2 ^ (lo + w)) + 2 ^ lo * (x % 2 ^ w) + v.toNat % 2 ^ lo =
        2 ^ lo * (2 ^ w * (v.toNat / 2 ^ (lo + w)) + x % 2 ^ w) + v.toNat % 2 ^ lo := by ring
    rw [e, Nat.testBit_two_pow_mul_add _ low, if_pos below, Nat.testBit_mod_two_pow, decide_eq_true below, Bool.true_and]
  · have field : x % 2 ^ w < 2 ^ w := Nat.mod_lt _ (Nat.two_pow_pos w)
    have rest : 2 ^ lo * (x % 2 ^ w) + v.toNat % 2 ^ lo < 2 ^ (lo + w) := by
      have room : 2 ^ lo * (x % 2 ^ w + 1) ≤ 2 ^ lo * 2 ^ w := Nat.mul_le_mul_left _ field
      rw [Nat.mul_succ] at room
      rw [pow_add]
      omega
    rw [add_assoc, Nat.testBit_two_pow_mul_add _ rest, if_neg (by omega), Nat.testBit_div_two_pow, Nat.sub_add_cancel above]

end Sys2Proof

namespace Sys2Proof.Machine

/-- A write leaves a register as it is, or replaces the bits of the field. -/
theorem fieldWrite_cases (locked : Bool) (v old : Word) (f : FieldD) :
    fieldWrite locked v old f = old ∨ ∃ x, fieldWrite locked v old f = old.setBits f.lo f.w x := by
  unfold fieldWrite
  cases f.acc with
  | rw =>
    simp only []
    split
    · exact .inr ⟨_, rfl⟩
    · exact .inl rfl
  | rwl =>
    simp only []
    split
    · exact .inr ⟨_, rfl⟩
    · exact .inl rfl
  | w1c => exact .inr ⟨_, rfl⟩
  | w1s => exact .inr ⟨_, rfl⟩
  | ro => exact .inl rfl
  | wo => exact .inl rfl
  | rc => exact .inl rfl

section

variable {locked : Bool} {v old : Word} {f : FieldD}

theorem fieldWrite_rw (acc : f.acc = .rw) :
    fieldWrite locked v old f = if FieldD.allows f (v.bits f.lo f.w) then old.setBits f.lo f.w (v.bits f.lo f.w) else old := by
  simp only [fieldWrite, acc]

theorem fieldWrite_rwl (acc : f.acc = .rwl) : fieldWrite locked v old f =
    if FieldD.allows f (v.bits f.lo f.w) && !locked then old.setBits f.lo f.w (v.bits f.lo f.w) else old := by
  simp only [fieldWrite, acc]

theorem fieldWrite_readOnly (acc : f.acc = .ro ∨ f.acc = .wo ∨ f.acc = .rc) : fieldWrite locked v old f = old := by
  rcases acc with acc | acc | acc <;> simp only [fieldWrite, acc]

/-- A field that takes the written value reads as it. -/
theorem Word.bits_setBits_bits (v old : Word) {lo w : Nat} (fits : lo + w ≤ 32) : (old.setBits lo w (v.bits lo w)).bits lo w = v.bits lo w := by
  rw [Word.bits_setBits_same _ _ _ _ fits, Nat.mod_eq_of_lt (Word.bits_lt _ _ _)]

theorem bitOf_fieldWrite_w1c (fits : f.lo + f.w ≤ 32) (acc : f.acc = .w1c) {i : Nat} (hi : i < f.w) :
    bitOf ((fieldWrite locked v old f).bits f.lo f.w) i = (bitOf (old.bits f.lo f.w) i && !bitOf (v.bits f.lo f.w) i) := by
  have h32 : i < 32 := by omega
  simp only [fieldWrite, acc, Word.bits_setBits_same _ _ _ _ fits, bitOf_eq_testBit, Nat.testBit_mod_two_pow, BitVec.testBit_toNat,
    BitVec.getLsbD_and, BitVec.getLsbD_not, BitVec.getLsbD_ofNat, hi, h32, decide_true, Bool.true_and]

theorem bitOf_fieldWrite_w1s (fits : f.lo + f.w ≤ 32) (acc : f.acc = .w1s) {i : Nat} (hi : i < f.w) :
    bitOf ((fieldWrite locked v old f).bits f.lo f.w) i = (bitOf (old.bits f.lo f.w) i || bitOf (v.bits f.lo f.w) i) := by
  have h32 : i < 32 := by omega
  simp only [fieldWrite, acc, Word.bits_setBits_same _ _ _ _ fits, bitOf_eq_testBit, Nat.testBit_mod_two_pow, BitVec.testBit_toNat,
    BitVec.getLsbD_or, BitVec.getLsbD_ofNat, hi, h32, decide_true, Bool.true_and]

/-- Bits outside the field stay. -/
theorem fieldWrite_bits_disj (fits : f.lo + f.w ≤ 32) {lo w : Nat} (disj : lo + w ≤ f.lo ∨ f.lo + f.w ≤ lo) :
    (fieldWrite locked v old f).bits lo w = old.bits lo w := by
  rcases fieldWrite_cases locked v old f with e | ⟨x, e⟩
  · rw [e]
  · rw [e]
    rcases disj with below | above
    · exact Word.bits_setBits_below _ _ _ _ _ _ fits below
    · exact Word.bits_setBits_above _ _ _ _ _ _ fits above

end

/-- A bit that no field of a list shows stays clear while the fields are put together into the word that a read returns. -/
theorem readFields_bit_clear (reg : Word) {i : Nat} (hi : i < 32) (l : List FieldD) (w : Word) (clear : w.getLsbD i = false)
    (hidden : ∀ f ∈ l, f.acc = .wo ∨ i < f.lo ∨ f.lo + f.w ≤ i) :
    (l.foldl (fun w f => if f.acc = .wo then w else w.setBits f.lo f.w (reg.bits f.lo f.w)) w).getLsbD i = false := by
  induction l generalizing w with
  | nil => exact clear
  | cons f l ih =>
    rw [List.foldl_cons]
    refine ih _ ?_ (fun g hg => hidden g (List.mem_cons_of_mem f hg))
    split
    · exact clear
    next shown =>
      rcases hidden f List.mem_cons_self with wo | out
      · exact absurd wo shown
      · rw [Word.getLsbD_setBits_out _ _ _ _ hi out, clear]

/-- A bit that belongs to no readable field reads zero (R9, R10). -/
theorem Hub.rd_bit_clear (h : Hub) (a : Nat) {i : Nat} (hi : i < 32)
    (hidden : ∀ r, findReg a = some r → ∀ f ∈ r.fields, f.acc = .wo ∨ i < f.lo ∨ f.lo + f.w ≤ i) : (h.rd a).getLsbD i = false := by
  unfold Hub.rd
  split
  · exact BitVec.getLsbD_zero
  next r found => exact readFields_bit_clear (h.reg a) hi r.fields 0#32 BitVec.getLsbD_zero (hidden r found)

/-- Settles O9: each access code by its own lemma. -/
theorem fieldAccessRules : Obligations.FieldAccessRules := by
  refine ⟨fun locked v old f fits => ⟨?_, ?_, ?_, ?_, ?_, ?_, ?_, ?_⟩, fun h a i hi hidden => h.rd_bit_clear a hi hidden⟩
  · intro acc allowed
    rw [fieldWrite_rw acc, if_pos allowed, Word.bits_setBits_bits v old fits]
  · intro acc reserved
    rw [fieldWrite_rw acc, if_neg (Bool.eq_false_iff.mp reserved)]
  · intro acc isLocked
    rw [fieldWrite_rwl acc, isLocked, Bool.not_true, Bool.and_false, if_neg Bool.false_ne_true]
  · intro acc unlocked allowed
    rw [fieldWrite_rwl acc, allowed, unlocked, Bool.not_false, Bool.and_true, if_pos rfl, Word.bits_setBits_bits v old fits]
  · exact fieldWrite_readOnly
  · exact fun acc i hi => bitOf_fieldWrite_w1c fits acc hi
  · exact fun acc i hi => bitOf_fieldWrite_w1s fits acc hi
  · exact fun lo w _ disj => fieldWrite_bits_disj fits disj

end Sys2Proof.Machine
end

section
/-! What a command answers: the next state, with the queue as it was, OTP as it was but for the end of a programming, and the start
of the tick as it was but for what a read takes. -/

namespace Sys2Proof.Machine

/-- A reading meaning answers a next state that may differ in the hub and in what later reads of the tick see. -/
theorem runS_answers (f : Tab Nat → Hub → Hub → Hub × Hub) (s : State) :
    ∃ h st, runS f s = .next { s with hub := h, start := st } := by
  unfold runS
  split
  · exact ⟨s.hub, s.start, rfl⟩
  · exact ⟨_, _, rfl⟩

/-- A reading meaning that takes nothing from what it reads leaves the start of the tick. -/
theorem runS_keeps_start (f : Hub → Hub → Hub) (s : State) :
    ∃ h, runS (fun _ st h => (st, f st h)) s = .next { s with hub := h } := by
  unfold runS
  split
  · exact ⟨s.hub, rfl⟩
  · exact ⟨_, rfl⟩

/-- The end of a programming may blow OTP bits; the queue and the start of the tick stay (R476). -/
theorem exec_otpProgramEnd_answers (s : State) : ∃ h o, exec .otpProgramEnd s = .next { s with hub := h, otp := o } := by
  rw [exec_otpProgramEnd]
  split
  · exact ⟨s.hub, s.otp, rfl⟩
  split
  · exact ⟨s.hub, s.otp, rfl⟩
  · exact ⟨_, _, rfl⟩

/-- Every command but the three that take what they read, and the end of an OTP programming, changes the hub alone: its meaning runs
under `act`, or reads without taking. -/
theorem exec_hub_only {c : Instr} (s : State) (notRead : ∀ p x be, c ≠ .rcRead p x be) (notMgmt : c ≠ .mgmtReadRequest)
    (notPoll : ∀ straps, c ≠ .configPoll straps) (notEnd : c ≠ .otpProgramEnd) : ∃ h, exec c s = .next { s with hub := h } := by
  cases c with
  | rcRead p x be => exact absurd rfl (notRead p x be)
  | mgmtReadRequest => exact absurd rfl notMgmt
  | configPoll straps => exact absurd rfl (notPoll straps)
  | otpProgramEnd => exact absurd rfl notEnd
  | timeNowLoRead p => exact runS_keeps_start (fun st h => st.timeNowLo h p) s
  | energyRead p n => exact runS_keeps_start (fun st h => st.energyLo h p n) s
  | _ => exact ⟨_, rfl⟩

/-- The commands that take what they read answer too, and keep OTP and the queue. -/
theorem exec_reading {c : Instr} (s : State) (reads : (∃ p x be, c = .rcRead p x be) ∨ c = .mgmtReadRequest ∨ ∃ straps, c = .configPoll straps) :
    ∃ h st, exec c s = .next { s with hub := h, start := st } := by
  obtain ⟨p, x, be, rfl⟩ | rfl | ⟨straps, rfl⟩ := reads
  · rw [exec_rcRead]
    exact runS_answers _ s
  · rw [exec_mgmtReadRequest]
    exact runS_answers _ s
  · rw [exec_configPoll]
    exact runS_answers _ s

/-- Settles O4: by the kind of the command. -/
theorem everyCommandAnswers : Obligations.EveryCommandAnswers := by
  intro c s
  by_cases reads : (∃ p x be, c = .rcRead p x be) ∨ c = .mgmtReadRequest ∨ ∃ straps, c = .configPoll straps
  · obtain ⟨h, st, e⟩ := exec_reading s reads
    refine ⟨h, st, s.otp, e, fun _ => rfl, fun notRead notMgmt notPoll => ?_⟩
    obtain ⟨p, x, be, rfl⟩ | rfl | ⟨straps, rfl⟩ := reads
    · exact absurd rfl (notRead p x be)
    · exact absurd rfl notMgmt
    · exact absurd rfl (notPoll straps)
  by_cases ends : c = .otpProgramEnd
  · subst ends
    obtain ⟨h, o, e⟩ := exec_otpProgramEnd_answers s
    exact ⟨h, s.start, o, e, fun no => absurd rfl no, fun _ _ _ => rfl⟩
  · push Not at reads
    obtain ⟨notRead, notMgmt, notPoll⟩ := reads
    obtain ⟨h, e⟩ := exec_hub_only s notRead notMgmt notPoll ends
    exact ⟨h, s.start, s.otp, e, fun _ => rfl, fun _ _ _ => rfl⟩

end Sys2Proof.Machine
end

section
/-! VCORE (R17, R435 to R439): what the writes of PWR_VREQ and PWR_PMBCFG do, and how a change goes through its stages. -/

namespace Sys2Proof.Machine

theorem Hub.when_noLimit {h : Hub} {p : Path} (free : h.pathLimit p = none) (f : Hub → Hub) :
    h.when ((h.pathLimit p).isNone) f = f h := Hub.when_pos (by rw [free]; rfl)

/-- What a command does, said in another way. -/
theorem Does.of_eq {c : Instr} {h g k : Hub} (does : Does c h g) (e : g = k) : Does c h k := e ▸ does

/-! ## The commands on a powered hub -/

theorem does_vreqWrite {h : Hub} (ha : h.awake) (hw : h.led.wiped = false) (p : Path) (v : Word) :
    Does (.vreqWrite p v) h (h.when ((h.pathLimit p).isNone) (fun h => h.vreq v)) := by
  intro st o q
  rw [exec_vreqWrite, runW_awake ha hw]

theorem does_pmbcfgEnWrite {h : Hub} (ha : h.awake) (hw : h.led.wiped = false) (p : Path) (v : Word) :
    Does (.pmbcfgEnWrite p v) h (h.when ((h.pathLimit p).isNone) (fun h => h.pmbcfg v)) := by
  intro st o q
  rw [exec_pmbcfgEnWrite, runW_awake ha hw]

theorem does_voutCommandDone {h : Hub} (ha : h.awake) (ok : Bool) : Does (.voutCommandDone ok) h (h.voutDone ok) := by
  intro st o q
  rw [exec_voutCommandDone, run_awake ha]

theorem does_statusWordRead {h : Hub} (ha : h.awake) (ok : Bool) (w : BitVec 16) :
    Does (.statusWordRead ok w) h (h.statusRead ok w.toNat) := by
  intro st o q
  rw [exec_statusWordRead, run_awake ha]

theorem does_settleEnd {h : Hub} (ha : h.awake) : Does .settleEnd h h.settleEnd := by
  intro st o q
  rw [exec_settleEnd, run_awake ha]

theorem does_pgtmoExpiry {h : Hub} (ha : h.awake) : Does .pgtmoExpiry h h.pgtmo := by
  intro st o q
  rw [exec_pgtmoExpiry, run_awake ha]

/-! ## Asking for a level -/

/-- While a change is under way the level asked for is kept (R435). -/
theorem Hub.askLevel_busy {h : Hub} (busy : h.pwr.chg ≠ none) (l : Nat) : h.askLevel l = h.setNext (some l) :=
  if_pos (Option.isSome_iff_ne_none.mpr busy)

/-- While PMBus is off a new level is held and shown as such (R436). -/
theorem Hub.askLevel_off {h : Hub} (idle : h.pwr.chg = none) {l : Nat} (new : l ≠ h.get F.CORE_STAT_VLEVEL)
    (off : h.get F.PWR_PMBCFG_EN = 0) : h.askLevel l = h.set F.PWR_VREQ_STATUS 4 := by
  have noChange : ¬ h.pwr.chg.isSome := by rw [idle]; exact Bool.false_ne_true
  have disabled : ¬ h.flag F.PWR_PMBCFG_EN := by rw [Hub.flag_zero off]; exact Bool.false_ne_true
  rw [Hub.askLevel, if_neg noChange, if_neg (show l ≠ h.vlevel from new), if_pos disabled]

/-! ## The writes -/

@[simp] theorem Hub.setDom_voutCode (h : Hub) (d : Nat) (x : Dom) (l : Nat) : (h.setDom d x).voutCode l = h.voutCode l := rfl

/-- A field of PWR_VREQ takes a new level that has a VOUT code (R436). -/
theorem Hub.setLvl_new {h : Hub} {f : Fld} {l : Nat} (code : h.voutCode l ≠ 0) (new : l ≠ h.get f) : h.setLvl f l = h.set f l := by
  rw [Hub.setLvl, if_neg (fun refused => code refused.1), if_neg new]

/-- A field of PWR_VREQ that is written with the level it holds stays. -/
theorem Hub.setLvl_same {h : Hub} {f : Fld} {l : Nat} (code : h.voutCode l ≠ 0) (same : l = h.get f) : h.setLvl f l = h := by
  rw [Hub.setLvl, if_neg (fun refused => code refused.1), if_pos same]

/-- A write of PWR_VREQ that changes RUNLVL alone installs it and asks for the level that follows (R435, R436). -/
theorem Hub.vreq_runlvl {h : Hub} {v : Word} (doze : h.get F.PWR_VREQ_DOZELVL = v.bits 4 2) (run : 2 ≤ v.bits 0 2)
    (new : v.bits 0 2 ≠ h.get F.PWR_VREQ_RUNLVL) (runCode : h.voutCode (v.bits 0 2) ≠ 0) (dozeCode : h.voutCode (v.bits 4 2) ≠ 0)
    (resting : h.get F.PWR_DSTAT_STEP dCORE ≠ 5) :
    h.vreq v = (h.unbar.set F.PWR_VREQ_RUNLVL (v.bits 0 2)).askLevel (h.unbar.set F.PWR_VREQ_RUNLVL (v.bits 0 2)).wantLevel := by
  have keepsDoze : (if v.bits 4 2 ≤ 1 then h.unbar.setLvl F.PWR_VREQ_DOZELVL (v.bits 4 2) else h.unbar) = h.unbar := by
    rw [Hub.setLvl_same (h := h.unbar) dozeCode doze.symm, ite_self]
  have setsRun : h.unbar.setLvl F.PWR_VREQ_RUNLVL (v.bits 0 2) = h.unbar.set F.PWR_VREQ_RUNLVL (v.bits 0 2) :=
    Hub.setLvl_new (h := h.unbar) runCode new
  have notCommitting : (h.unbar.set F.PWR_VREQ_RUNLVL (v.bits 0 2)).dstep dCORE ≠ 5 := by
    rw [Hub.dstep, Hub.get_set_high _ (by decide)]
    exact resting
  simp only [Hub.vreq, keepsDoze, if_pos run, setsRun, if_pos notCommitting]

/-- A write of PWR_PMBCFG with PMBus on already starts nothing (R436). -/
theorem Hub.pmbcfg_on {h : Hub} (on : h.get F.PWR_PMBCFG_EN = 1) (v : Word) :
    h.pmbcfg v = (h.wr (F.PWR_PMBCFG_EN.addr 0 0) v).unbar :=
  if_neg (fun starts => starts.1 (Hub.flag_one on))

/-! ## The stages of a change -/

section

variable {h : Hub} {c : VChange} (hc : h.pwr.chg = some c)

include hc

/-- VOUT_COMMAND was acknowledged: its status is read next (R437). -/
theorem Hub.voutDone_ack (stage : c.stage = 0 ∨ c.stage = 3) :
    h.voutDone true = (h.setChg (some { c with stage := c.stage + 1, sentAt := h.time.tick, fails := 0 })).emit .pmbusStatus := by
  simp only [Hub.voutDone, hc, if_neg (show ¬ (c.stage ≠ 0 ∧ c.stage ≠ 3) by omega), if_true]
  rfl

theorem Hub.voutDone_nack (stage : c.stage = 0 ∨ c.stage = 3) :
    h.voutDone false = h.pmbRetry c (.pmbusVout (h.voutCode (if c.stage = 3 then c.old else c.level))) := by
  simp only [Hub.voutDone, hc, if_neg (show ¬ (c.stage ≠ 0 ∧ c.stage ≠ 3) by omega), Bool.false_eq_true, if_false]

/-- A fault that STATUS_WORD shows has it read again (R437). -/
theorem Hub.statusRead_notGood (stage : c.stage = 1) {w : Nat} (fault : bitOf w 11 = true ∨ bitOf w 15 = true) :
    h.statusRead true w = (h.setChg (some { c with fails := 0 })).emit .pmbusStatus := by
  simp only [Hub.statusRead, hc, if_neg (show ¬ (c.stage ≠ 1 ∧ c.stage ≠ 4) by omega), not_true_eq_false, if_false, if_pos fault]

/-- Power good is taken once bits 11 and 15 are clear (R437). -/
theorem Hub.statusRead_good (stage : c.stage = 1 ∨ c.stage = 4) {w : Nat} (vout : bitOf w 11 = false) (pg : bitOf w 15 = false) :
    h.statusRead true w =
      if c.stage = 4 then h.setChg (some { c with stage := 6, goodAt := h.time.tick })
      else (h.setChg (some { c with stage := 2, goodAt := h.time.tick })).set F.CORE_STAT_VLEVEL c.level := by
  simp only [Hub.statusRead, hc, if_neg (show ¬ (c.stage ≠ 1 ∧ c.stage ≠ 4) by omega), not_true_eq_false, if_false, vout, pg,
    Bool.false_eq_true, or_self]
  rfl

/-- SETTLE after power good a decrease is complete; an increase raises clock and ceiling (R437). -/
theorem Hub.settleEnd_due (stage : c.stage = 2) (due : c.goodAt + h.get F.PWR_PMBCFG_SETTLE * 200 ≤ h.time.tick) :
    h.settleEnd =
      if c.old < c.level then h.setChg (some { c with stage := 6, goodAt := h.time.tick }) else h.changeDone c := by
  simp only [Hub.settleEnd, hc]
  exact Hub.when_pos ⟨stage, due⟩

/-- PGTMO without power good (R439). -/
theorem Hub.pgtmo_due (stage : c.stage = 1 ∨ c.stage = 4) (due : c.sentAt + 2000 * h.get F.PWR_PMBCFG_PGTMO ≤ h.time.tick) :
    h.pgtmo = if c.stage = 1 then h.failChange c 3 else h.endChange c c.status := by
  simp only [Hub.pgtmo, hc]
  exact Hub.when_pos ⟨stage, due⟩

/-- After a change that succeeds the clock is raised in 8 ticks (R17, R437). -/
theorem Hub.seqTick_clock (stage : c.stage = 6) (ok : c.status = 1) (slow : levelClk c.level ≠ h.pwr.clk)
    (due : c.goodAt + 8 ≤ h.time.tick) :
    h.seqTick = (h.setClk (levelClk c.level)).setChg (some { c with goodAt := c.goodAt + 8 }) := by
  simp only [Hub.seqTick, hc, if_neg (show c.stage ≠ 5 by omega), if_pos stage, if_pos ok, if_pos slow]
  exact if_pos due

/-- With the clock raised the ceiling follows at the next tick boundary, and the change is complete (R17, R437). -/
theorem Hub.seqTick_ceiling (stage : c.stage = 6) (ok : c.status = 1) (raised : levelClk c.level = h.pwr.clk)
    (due : c.goodAt < h.time.tick) : h.seqTick = (h.setCeil c.level).changeDone c := by
  simp only [Hub.seqTick, hc, if_neg (show c.stage ≠ 5 by omega), if_pos stage, if_pos ok, if_neg (not_not.mpr raised)]
  exact if_pos due

end

/-! ## A transfer that was not acknowledged (R439) -/

theorem Hub.pmbRetry_again (h : Hub) {c : VChange} (fails : c.fails < 2) (again : Out) :
    h.pmbRetry c again = (h.setChg (some { c with fails := c.fails + 1 })).emit again := if_pos fails

theorem Hub.pmbRetry_fails (h : Hub) {c : VChange} (fails : 2 ≤ c.fails) (stage : c.stage < 3) (again : Out) :
    h.pmbRetry c again = h.failChange c 2 := by
  rw [Hub.pmbRetry, if_neg (by omega), if_neg (by omega)]

/-- The old code could not be written back either: the change ends at the lower level. -/
theorem Hub.pmbRetry_ends (h : Hub) {c : VChange} (fails : 2 ≤ c.fails) (stage : 3 ≤ c.stage) (again : Out) :
    h.pmbRetry c again = h.endChange c c.status := by
  rw [Hub.pmbRetry, if_neg (by omega), if_pos stage]

/-- Settles O51: each clause by the lemma about the stage, or the write, that it names. -/
theorem vcoreCommands : Obligations.VcoreCommands := by
  refine ⟨fun h ha => ⟨?_, ?_, ?_, ?_, fun c hc => ⟨?_, ?_, ?_, ?_, ?_, ?_, ?_, ?_, ?_, ?_, ?_, ?_, ?_⟩⟩,
    fun h => ⟨fun ha => ⟨does_voutCommandDone ha, does_statusWordRead ha, does_settleEnd ha, does_pgtmoExpiry ha⟩,
      fun ha hw => ⟨does_vreqWrite ha hw, does_pmbcfgEnWrite ha hw⟩⟩⟩
  · exact fun hw p v free doze run new runCode dozeCode resting => (does_vreqWrite ha hw p v).of_eq
      ((Hub.when_noLimit free _).trans (Hub.vreq_runlvl doze run new runCode dozeCode resting))
  · exact fun hw p v free on => (does_pmbcfgEnWrite ha hw p v).of_eq ((Hub.when_noLimit free _).trans (Hub.pmbcfg_on on v))
  · exact fun l idle new off => Hub.askLevel_off idle new off
  · exact fun l busy => Hub.askLevel_busy busy l
  · exact fun stage => (does_voutCommandDone ha true).of_eq (Hub.voutDone_ack hc stage)
  · exact fun stage fails => (does_voutCommandDone ha false).of_eq ((Hub.voutDone_nack hc stage).trans (h.pmbRetry_again fails _))
  · exact fun stage fails => (does_voutCommandDone ha false).of_eq
      ((Hub.voutDone_nack hc (.inl stage)).trans (h.pmbRetry_fails fails (by omega) _))
  · exact fun stage fails => (does_voutCommandDone ha false).of_eq
      ((Hub.voutDone_nack hc (.inr stage)).trans (h.pmbRetry_ends fails (by omega) _))
  · exact fun w stage fault => (does_statusWordRead ha true w).of_eq (Hub.statusRead_notGood hc stage fault)
  · exact fun w stage vout pg => (does_statusWordRead ha true w).of_eq
      ((Hub.statusRead_good hc (.inl stage) vout pg).trans (if_neg (by omega)))
  · exact fun stage due lower => (does_settleEnd ha).of_eq ((Hub.settleEnd_due hc stage due).trans (if_neg (by omega)))
  · exact fun stage due higher => (does_settleEnd ha).of_eq ((Hub.settleEnd_due hc stage due).trans (if_pos higher))
  · exact fun w stage vout pg => (does_statusWordRead ha true w).of_eq
      ((Hub.statusRead_good hc (.inr stage) vout pg).trans (if_pos stage))
  · exact fun stage ok slow due => Hub.seqTick_clock hc stage ok slow due
  · exact fun stage ok raised due => Hub.seqTick_ceiling hc stage ok raised due
  · exact fun stage due => (does_pgtmoExpiry ha).of_eq ((Hub.pgtmo_due hc (.inl stage) due).trans (if_pos stage))
  · exact fun stage due => (does_pgtmoExpiry ha).of_eq ((Hub.pgtmo_due hc (.inr stage) due).trans (if_neg (by omega)))

end Sys2Proof.Machine
end

section
/-! The machine right after reset: registers at the reset words of their tables, resources with their owners after reset (R26, R464, R466,
R480, R482). -/

namespace Sys2Proof.Machine

/-- A register without a reset word of its own element holds the one of the array it stands in. -/
theorem resetWord_of_find {a : Nat} {r : RegD} (plain : specialReset a = none) (found : findReg a = some r) :
    resetWord a = BitVec.ofNat 32 r.reset := by
  simp only [resetWord, plain, found]

/-- Word 0 of every tunnel entry resets to zero (Table 5-9). -/
theorem resetWord_tunnelEntry (t : TunnelId) : resetWord (0x80000 + t * 0x20) = 0#32 := by
  have plain : specialReset (0x80000 + t * 0x20) = none := by
    unfold specialReset
    repeat rw [if_neg (by omega)]
  have block : regBlock (0x80000 + t * 0x20) = regsTunnel := by
    unfold regBlock
    repeat rw [if_neg (by omega)]
    rw [if_pos (by omega)]
  have inArray : regHas R.TUN_W0 (0x80000 + t * 0x20) = true := by
    simp [regHas, R.TUN_W0]
  exact resetWord_of_find plain (by rw [findReg, block]; exact List.find?_cons_of_pos inArray)

/-- Every register but the one that tells the cause of the reset holds its reset word (R480). -/
theorem Hub.reset_reg {a : Nat} (notCause : a ≠ 0x104) : Hub.reset.reg a = resetWord a := if_neg (Ne.symm notCause)

/-- A resource's owner right after reset (R26, Table 1-8). -/
theorem Hub.reset_owner (r : Nat) : Hub.reset.owner r = ownerReset r := rfl

/-- A field of a tunnel entry's word 0 reads zero right after reset. -/
theorem Hub.reset_get_tunnelEntry {f : Fld} (base : f.base = 0x80000) (stride : f.s1 = 0x20) (stride2 : f.s2 = 0) (t : TunnelId) :
    Hub.reset.get f t = 0 := by
  have addr : f.addr t 0 = 0x80000 + t * 0x20 := by rw [Fld.addr, base, stride, stride2]; omega
  rw [Hub.get, addr, Hub.reset_reg (by omega), resetWord_tunnelEntry]
  simp [Word.bits]

/-- Settles O7: registers by their reset words, which are evaluated for ports and domains, owners by Table 1-8. The values that straps,
fuse and OTP give are those of a blank part with straps 0, and POR = 1 (log entry 3). -/
theorem resetState : Obligations.ResetState := by
  have onPorts : ∀ n : PortId, Hub.reset.get F.PORT_LSTAT_STATE n = 0 ∧ Hub.reset.get F.PORT_LKSTAT_STATE n = 0 ∧
      Hub.reset.get F.PORT_PPSTAT_STATE n = 0 ∧ Hub.reset.get F.PORT_CCCTL_ROLE n = 0 ∧ Hub.reset.get F.PORT_LKCTL_HOLD n = 25 ∧
      Hub.reset.get F.PWR_ALLOT_WATTS n = 0 ∧ Hub.reset.owner (0x20 + n) = 3 := by decide +kernel
  have onDomains : ∀ d : DomainId, Hub.reset.get F.PWR_DSTAT_LEVEL d = 0 := by decide +kernel
  have gpiosFree : ∀ r : Fin 128, r.val < 16 → Hub.reset.owner (0x10 + r) = 0 := fun r hr => by
    rw [Hub.reset_owner, ownerReset, if_neg (by omega)]
  refine ⟨rfl, rfl, rfl, by decide, rfl, fun a notCause => Hub.reset_reg notCause, by decide, by decide, onPorts, onDomains,
    by decide, by decide, by decide, by decide, by decide, by decide,
    fun t _ => ⟨Hub.reset_get_tunnelEntry rfl rfl rfl t, Hub.reset_get_tunnelEntry rfl rfl rfl t⟩, gpiosFree⟩

end Sys2Proof.Machine
end

section
/-! What a chip reset leaves (R28, R464, R465, R466, R531): the state it starts from, and what the registers show after it. -/

namespace Sys2Proof.Machine

/-! ## Tables with entries left out or mapped -/

/-- A key that stays when entries are left out by key keeps its value. -/
theorem Tab.get_filter {α : Type} (d : α) (t : Tab α) (p : Nat → Bool) {i : Nat} (stays : p i = true) :
    Tab.get d (t.filter (fun e => p e.1)) i = Tab.get d t i := by
  induction t with
  | nil => rfl
  | cons e t ih =>
    obtain ⟨k, v⟩ := e
    by_cases same : k = i
    · subst same
      simp only [List.filter_cons, stays, if_true, Tab.get]
    · cases kept : p k with
      | true => simp only [List.filter_cons, kept, if_true, Tab.get, if_neg same, ih]
      | false => simp only [List.filter_cons, kept, Bool.false_eq_true, if_false, Tab.get, if_neg same, ih]

/-- A key below all the keys of a table is not in it. -/
theorem Tab.get_above {α : Type} (d : α) {t : Tab α} {i : Nat} (above : Tab.above i t = true) : Tab.get d t i = d := by
  induction t with
  | nil => rfl
  | cons e t ih =>
    obtain ⟨k, v⟩ := e
    simp only [Tab.above, Bool.and_eq_true, decide_eq_true_eq] at above
    obtain ⟨below, rest⟩ := above
    rw [Tab.get, if_neg (by omega), ih (Tab.above_mono (by omega) rest)]

/-- A canonical table mapped entry by entry, entries that become the default left out, reads as the mapped value. -/
theorem Tab.get_filterMap {α : Type} [DecidableEq α] {d : α} {f : α → α} (default : f d = d) {t : Tab α}
    (wf : Tab.wf (fun _ => d) t = true) (i : Nat) :
    Tab.get d (t.filterMap (fun e => if f e.2 = d then none else some (e.1, f e.2))) i = f (Tab.get d t i) := by
  induction t with
  | nil => exact default.symm
  | cons e t ih =>
    obtain ⟨k, v⟩ := e
    simp only [Tab.wf, Bool.and_eq_true] at wf
    obtain ⟨⟨above, -⟩, wfRest⟩ := wf
    by_cases gone : f v = d
    · simp only [List.filterMap_cons, if_pos gone, ih wfRest, Tab.get]
      split
      next same => rw [← same, Tab.get_above d above, default, gone]
      next => rfl
    · simp only [List.filterMap_cons, if_neg gone, ih wfRest, Tab.get, apply_ite f]

/-! ## A change made for every number of a list -/

/-- What holds once the change has been made for a number, and what every change keeps, holds at the end. -/
theorem Hub.each_reaches {P Q : Hub → Prop} {f : Nat → Hub → Hub} {i : Nat} (reach : ∀ g, P g → Q (f i g))
    (keepP : ∀ j g, P g → P (f j g)) (keepQ : ∀ j g, Q g → Q (f j g)) {l : List Nat} (mem : i ∈ l) {h : Hub} (start : P h) :
    Q (h.each l f) := by
  have keep (l : List Nat) (g : Hub) (hg : Q g) : Q (g.each l f) := by
    induction l generalizing g with
    | nil => exact hg
    | cons j l ih => exact ih _ (keepQ j g hg)
  induction l generalizing h with
  | nil => cases mem
  | cons j l ih =>
    rcases List.mem_cons.mp mem with rfl | later
    · exact keep l _ (reach h start)
    · exact ih later (keepP j h start)

theorem Hub.each_reg {f : Nat → Hub → Hub} {a : Nat} (step : ∀ j g, (f j g).reg a = g.reg a) (l : List Nat) (h : Hub) :
    (h.each l f).reg a = h.reg a := by
  induction l generalizing h with
  | nil => rfl
  | cons j l ih => exact (ih _).trans (step j h)

/-! ## What a reset shows -/

/-- `g` is `h` but for registers, owners, and what the time state and the ledger hold beside the tick count and the mark of a
reset. -/
def ShowsOnly (h g : Hub) : Prop :=
  ∃ regs owners time led, TimeSt.tick time = h.time.tick ∧ Ledger.wiped led = h.led.wiped ∧
    g = { h with regs := regs, owners := owners, time := time, led := led }

theorem ShowsOnly.refl (h : Hub) : ShowsOnly h h := ⟨_, _, _, _, rfl, rfl, rfl⟩

theorem ShowsOnly.trans {h g k : Hub} (a : ShowsOnly h g) (b : ShowsOnly g k) : ShowsOnly h k := by
  obtain ⟨_, _, _, _, tick, wiped, rfl⟩ := a
  obtain ⟨_, _, _, _, tick', wiped', rfl⟩ := b
  exact ⟨_, _, _, _, tick'.trans tick, wiped'.trans wiped, rfl⟩

theorem ShowsOnly.set (h : Hub) (f : Fld) (v i j : Nat) : ShowsOnly h (h.set f v i j) := ⟨_, _, _, _, rfl, rfl, rfl⟩
theorem ShowsOnly.raise (h : Hub) (f : Fld) (v i j : Nat) : ShowsOnly h (h.raise f v i j) :=
  ⟨_, _, _, (h.raise f v i j).led, rfl, rfl, rfl⟩
theorem ShowsOnly.setOwner (h : Hub) (r o : Nat) : ShowsOnly h (h.setOwner r o) := ⟨_, _, _, _, rfl, rfl, rfl⟩

theorem ShowsOnly.each {f : Nat → Hub → Hub} (step : ∀ j g, ShowsOnly g (f j g)) (l : List Nat) (h : Hub) : ShowsOnly h (h.each l f) := by
  induction l generalizing h with
  | nil => exact .refl h
  | cons j l ih => exact (step j h).trans (ih _)

/-! ### Latched ports -/

/-- What `Hub.relatch` does for one port. -/
def Hub.relatchPort (n : Nat) (g : Hub) : Hub :=
  if g.flag F.PORT_PPTRIP_LATCH n then (g.setPpState n ppLATCHED).setOwner (resAnalog n) ownFuse else g

theorem Hub.relatch_eq (h : Hub) : h.relatch = h.each ports Hub.relatchPort := rfl

/-- A port is relatched, or left as it is. -/
theorem Hub.relatchPort_cases (n : Nat) (g : Hub) :
    Hub.relatchPort n g = (g.set F.PORT_PPSTAT_STATE ppLATCHED n).setOwner (resAnalog n) ownFuse ∨ Hub.relatchPort n g = g := by
  unfold Hub.relatchPort
  split
  · exact .inl rfl
  · exact .inr rfl

theorem ShowsOnly.relatchPort (n : Nat) (g : Hub) : ShowsOnly g (Hub.relatchPort n g) := by
  rcases Hub.relatchPort_cases n g with e | e
  · rw [e]
    exact (ShowsOnly.set g _ _ _ _).trans (.setOwner _ _ _)
  · rw [e]
    exact .refl g

theorem ShowsOnly.relatch (h : Hub) : ShowsOnly h h.relatch := ShowsOnly.each ShowsOnly.relatchPort ports h

theorem Hub.relatchPort_reg {a n : Nat} (other : a ≠ F.PORT_PPSTAT_STATE.addr n 0) (g : Hub) :
    (Hub.relatchPort n g).reg a = g.reg a := by
  rcases Hub.relatchPort_cases n g with e | e
  · rw [e, Hub.setOwner_reg, Hub.reg_set_ne g other]
  · rw [e]

theorem Hub.relatch_reg {a : Nat} (other : ∀ n, a ≠ F.PORT_PPSTAT_STATE.addr n 0) (h : Hub) : h.relatch.reg a = h.reg a :=
  Hub.each_reg (fun n g => Hub.relatchPort_reg (other n) g) ports h

/-- The trip register of one port is no state register of any. -/
theorem pptrip_ne_ppstat (n m : Nat) : F.PORT_PPTRIP_LATCH.addr n 0 ≠ F.PORT_PPSTAT_STATE.addr m 0 := by
  simp only [Fld.addr, F.PORT_PPTRIP_LATCH, F.PORT_PPSTAT_STATE]
  omega

theorem Hub.relatchPort_latched {n : Nat} {g : Hub} (latched : g.get F.PORT_PPTRIP_LATCH n = 1) :
    Hub.relatchPort n g = (g.set F.PORT_PPSTAT_STATE ppLATCHED n).setOwner (resAnalog n) ownFuse := if_pos (Hub.flag_one latched)

/-- A port shows LATCHED, the fuse owning its analog set. -/
def Hub.showsLatched (n : Nat) (g : Hub) : Prop := g.get F.PORT_PPSTAT_STATE n = 6 ∧ g.owner (0x20 + n) = 6

/-- Latching a port shows it LATCHED, and leaves others so. -/
theorem Hub.showsLatched_latch {n m : Nat} {g : Hub} (shown : m = n ∨ Hub.showsLatched n g) :
    Hub.showsLatched n ((g.set F.PORT_PPSTAT_STATE ppLATCHED m).setOwner (resAnalog m) ownFuse) := by
  by_cases same : m = n
  · subst same
    exact ⟨(Hub.setOwner_get _ _ _ _ _ _).trans (Hub.get_set_same g _ _ _ _ (by decide)), Hub.owner_setOwner _ _ _⟩
  · obtain ⟨state, owner⟩ := shown.resolve_left same
    have otherReg : F.PORT_PPSTAT_STATE.addr n 0 ≠ F.PORT_PPSTAT_STATE.addr m 0 := by
      simp only [Fld.addr, F.PORT_PPSTAT_STATE]
      omega
    have otherRes : 0x20 + n ≠ resAnalog m := by
      simp only [resAnalog]
      omega
    constructor
    · rw [Hub.setOwner_get, Hub.get_set_ne g otherReg, state]
    · rw [Hub.owner_setOwner_ne _ _ otherRes, Hub.set_owner, owner]

/-- A port whose trip is latched shows LATCHED after a reset (R28, R465). -/
theorem Hub.relatch_latched {h : Hub} (n : PortId) (latched : h.get F.PORT_PPTRIP_LATCH n = 1) : Hub.showsLatched n h.relatch := by
  rw [Hub.relatch_eq]
  refine Hub.each_reaches (P := fun g => g.get F.PORT_PPTRIP_LATCH n = 1) ?_ ?_ ?_ (List.mem_range.mpr n.isLt) latched
  · intro g latched
    rw [Hub.relatchPort_latched latched]
    exact Hub.showsLatched_latch (.inl rfl)
  · intro m g latched
    rw [Hub.get, Hub.relatchPort_reg (pptrip_ne_ppstat n m)]
    exact latched
  · intro m g shown
    rcases Hub.relatchPort_cases m g with e | e
    · rw [e]
      exact Hub.showsLatched_latch (.inr shown)
    · rw [e]
      exact shown

/-! ### Straps and OTP -/

theorem ShowsOnly.showOtp (h : Hub) (otp : Tab Nat) : ShowsOnly h (h.showOtp otp) :=
  ((((((ShowsOnly.set h _ _ _ _).trans (.set _ _ _ _ _)).trans (.set _ _ _ _ _)).trans (.set _ _ _ _ _)).trans (.set _ _ _ _ _)).trans
    (.set _ _ _ _ _)).trans (.set _ _ _ _ _)

theorem Hub.showOtp_reg {a : Nat} (other : a ∉ [0x8, 0xC, 0xA0, 0x108, 0x184]) (h : Hub) (otp : Tab Nat) :
    (h.showOtp otp).reg a = h.reg a := by
  simp only [List.mem_cons, List.not_mem_nil, not_or] at other
  simp only [Hub.showOtp]
  rw [Hub.reg_set_ne, Hub.reg_set_ne, Hub.reg_set_ne, Hub.reg_set_ne, Hub.reg_set_ne, Hub.reg_set_ne, Hub.reg_set_ne]
  all_goals
    simp only [Fld.addr, F.GLB_DIEID_LO_DIEID, F.GLB_DIEID_HI_DIEID, F.GLB_DBG_LOCKED, F.GLB_BOOTSTAT_ROLLBACK, F.GLB_OTPSTAT_SECBOOT,
      F.GLB_OTPSTAT_REVOKE, F.GLB_OTPSTAT_PROG]
    omega

theorem Hub.showOtp_owner (h : Hub) (otp : Tab Nat) (r : Nat) : (h.showOtp otp).owner r = h.owner r := by
  simp only [Hub.showOtp, Hub.set_owner]

theorem ShowsOnly.time (h : Hub) (x : TimeSt) (tick : x.tick = h.time.tick) : ShowsOnly h { h with time := x } :=
  ⟨_, _, x, _, tick, rfl, rfl⟩

theorem ShowsOnly.summitStart (h : Hub) : ShowsOnly h h.summitStart := by
  unfold Hub.summitStart
  split
  · exact ((((ShowsOnly.set h _ _ _ _).trans (.set _ _ _ _ _)).trans (.set _ _ _ _ _)).trans (.set _ _ _ _ _)).trans (.time _ _ rfl)
  · exact .refl h

/-- At a hub that is no summit nothing starts; at the summit four fields are set, and the time state changes (R36, R163). -/
theorem Hub.summitStart_cases (h : Hub) : h.summitStart = h ∨ ∃ x, h.summitStart =
    { ((((h.set F.TIME_CTL_SUMMIT 1).set F.TIME_STAT_STATE 5).set F.FAB_ID_VALID 1).set F.FAB_ID_SUMMIT 1 : Hub) with time := x } := by
  unfold Hub.summitStart
  split
  · exact .inr ⟨_, rfl⟩
  · exact .inl rfl

theorem Hub.summitStart_reg {a : Nat} (other : a ∉ [0x1000, 0x1004, 0x4000]) (h : Hub) : h.summitStart.reg a = h.reg a := by
  simp only [List.mem_cons, List.not_mem_nil, not_or] at other
  rcases h.summitStart_cases with e | ⟨x, e⟩
  · rw [e]
  · rw [e, Hub.with_time_reg, Hub.reg_set_ne, Hub.reg_set_ne, Hub.reg_set_ne, Hub.reg_set_ne]
    all_goals
      simp only [Fld.addr, F.TIME_CTL_SUMMIT, F.TIME_STAT_STATE, F.FAB_ID_VALID, F.FAB_ID_SUMMIT]
      omega

theorem Hub.with_time_owner (h : Hub) (x : TimeSt) (r : Nat) : ({ h with time := x } : Hub).owner r = h.owner r := rfl

theorem Hub.summitStart_owner (h : Hub) (r : Nat) : h.summitStart.owner r = h.owner r := by
  rcases h.summitStart_cases with e | ⟨x, e⟩
  · rw [e]
  · rw [e, Hub.with_time_owner, Hub.set_owner, Hub.set_owner, Hub.set_owner, Hub.set_owner]

/-! ## The reset in stages -/

/-- The hub that a reset starts from: all at its default but what is kept (Table 18-1, R465). -/
def Hub.resetBase (h : Hub) (k : ResetKind) (otp : Tab Nat) : Hub :=
  { out := h.out ++ h.outputsOff, draws := h.draws, regs := if k.full then [] else h.regs.filter (fun e => keptReg e.1),
    pwr := { ports := if k.full then [] else h.keptPower }, boot := { otp := otp }, led := { wiped := true } }

/-- What GLB_CAIRNSTAT keeps over a reset that is not full. -/
def Hub.keepCairn (h : Hub) (k : ResetKind) (g : Hub) : Hub :=
  if k.full then g
  else ((g.set F.GLB_CAIRNSTAT_LASTCAUSE (h.get F.GLB_CAIRNSTAT_LASTCAUSE)).set F.GLB_CAIRNSTAT_LASTLEN
    (h.get F.GLB_CAIRNSTAT_LASTLEN)).set F.GLB_CAIRNSTAT_TIMEDOUT (h.get F.GLB_CAIRNSTAT_TIMEDOUT)

/-- STRAP_PCIEOFF leaves the HIF domain OFF (Table 18-2). -/
def Hub.strapHif (g : Hub) (straps : Nat) : Hub := if bitOf straps 5 then g.set F.PWR_DSTAT_LEVEL 4 36 else g

/-- Straps sampled, and the cause set. -/
def Hub.resetSampled (h : Hub) (k : ResetKind) (otp : Tab Nat) (straps : Nat) : Hub :=
  (((h.keepCairn k (h.resetBase k otp)).set F.GLB_STRAP_STRAP straps).raise k.cause 1).strapHif straps

/-- The hub with all that a reset shows. -/
def Hub.resetShown (h : Hub) (k : ResetKind) (otp : Tab Nat) (straps : Nat) : Hub :=
  ((h.resetSampled k otp straps).relatch.showOtp otp).summitStart

/-- A chip reset shows its registers and owners, and then takes the keys and drives the pins; only a pin reset leaves the rails as they
are. -/
theorem Hub.chipReset_eq (h : Hub) (k : ResetKind) (otp : Tab Nat) (straps : Nat) :
    ∃ keys out boot, (k = .pin ∨ boot = (h.resetShown k otp straps).boot) ∧
      h.chipReset k otp straps = { h.resetShown k otp straps with keys := keys, out := out, boot := boot } := by
  unfold Hub.chipReset Hub.showLines Hub.resetAll
  by_cases pin : k = .pin
  · simp only [if_pos pin]
    exact ⟨_, _, _, .inl pin, rfl⟩
  · simp only [if_neg pin]
    exact ⟨_, _, _, .inr rfl, rfl⟩

/-! ### The parts that a reset empties -/

theorem ShowsOnly.keepCairn (h : Hub) (k : ResetKind) (g : Hub) : ShowsOnly g (h.keepCairn k g) := by
  unfold Hub.keepCairn
  split
  · exact .refl g
  · exact ((ShowsOnly.set g _ _ _ _).trans (.set _ _ _ _ _)).trans (.set _ _ _ _ _)

theorem ShowsOnly.strapHif (g : Hub) (straps : Nat) : ShowsOnly g (g.strapHif straps) := by
  unfold Hub.strapHif
  split
  · exact .set g _ _ _ _
  · exact .refl g

theorem ShowsOnly.resetShown (h : Hub) (k : ResetKind) (otp : Tab Nat) (straps : Nat) :
    ShowsOnly (h.resetBase k otp) (h.resetShown k otp straps) :=
  ((((((ShowsOnly.keepCairn h k _).trans (.set _ _ _ _ _)).trans (.raise _ _ _ _ _)).trans (.strapHif _ _)).trans (.relatch _)).trans
    (.showOtp _ _)).trans (.summitStart _)

/-- After a chip reset every part but registers, owners, what goes out and what straps and OTP give is at its default, or what power
paths keep (R464, R465). -/
theorem Hub.chipReset_parts (h : Hub) (k : ResetKind) (otp : Tab Nat) (straps : Nat) :
    ∃ regs owners time out keys led boot, TimeSt.tick time = 0 ∧ Ledger.wiped led = true ∧ (k = .pin ∨ BootSt.regEn boot = 0) ∧
      h.chipReset k otp straps =
        { regs := regs, owners := owners, time := time, out := out, keys := keys, led := led, boot := boot, draws := h.draws,
          pwr := { ports := if k.full then [] else h.keptPower } } := by
  obtain ⟨keys, out, boot, rails, e⟩ := h.chipReset_eq k otp straps
  obtain ⟨regs, owners, time, led, tick, wiped, shown⟩ := ShowsOnly.resetShown h k otp straps
  rw [shown] at e rails
  refine ⟨regs, owners, time, out, keys, led, boot, tick, wiped, rails.imp_right ?_, e⟩
  rintro rfl
  rfl

/-! ### The registers that a reset shows -/

theorem Hub.reg_congr {g h : Hub} (e : g.regs = h.regs) (a : Nat) : g.reg a = h.reg a := by rw [Hub.reg, Hub.reg, e]

theorem Hub.owner_congr {g h : Hub} (e : g.owners = h.owners) (r : Nat) : g.owner r = h.owner r := by rw [Hub.owner, Hub.owner, e]

section

variable (h : Hub) (k : ResetKind) (otp : Tab Nat) (straps : Nat)

theorem Hub.chipReset_reg (a : Nat) : (h.chipReset k otp straps).reg a = (h.resetShown k otp straps).reg a := by
  obtain ⟨keys, out, boot, -, e⟩ := h.chipReset_eq k otp straps
  exact Hub.reg_congr (by rw [e]) a

theorem Hub.chipReset_owner (r : Nat) : (h.chipReset k otp straps).owner r = (h.resetSampled k otp straps).relatch.owner r := by
  obtain ⟨keys, out, boot, -, e⟩ := h.chipReset_eq k otp straps
  rw [Hub.owner_congr (h := h.resetShown k otp straps) (by rw [e]), Hub.resetShown, Hub.summitStart_owner, Hub.showOtp_owner]

/-- A register that OTP and the summit do not show is as the relatching of the ports leaves it. -/
theorem Hub.chipReset_reg_relatch {a : Nat} (notOtp : a ∉ [0x8, 0xC, 0xA0, 0x108, 0x184]) (notSummit : a ∉ [0x1000, 0x1004, 0x4000]) :
    (h.chipReset k otp straps).reg a = (h.resetSampled k otp straps).relatch.reg a := by
  rw [Hub.chipReset_reg, Hub.resetShown, Hub.summitStart_reg notSummit, Hub.showOtp_reg notOtp]

theorem Hub.strapHif_reg {a : Nat} (other : a ≠ 0x4002404) (g : Hub) : (g.strapHif straps).reg a = g.reg a := by
  unfold Hub.strapHif
  split
  · exact Hub.reg_set_ne g other
  · rfl

theorem Hub.keepCairn_reg {a : Nat} (other : a ≠ 0x98) (g : Hub) : (h.keepCairn k g).reg a = g.reg a := by
  unfold Hub.keepCairn
  split
  · rfl
  · rw [Hub.reg_set_ne _ (f := F.GLB_CAIRNSTAT_TIMEDOUT) other, Hub.reg_set_ne _ (f := F.GLB_CAIRNSTAT_LASTLEN) other,
      Hub.reg_set_ne _ (f := F.GLB_CAIRNSTAT_LASTCAUSE) other]

/-- GLB_RSTCAUSE and GLB_STRAP hold what the reset put there. -/
theorem Hub.chipReset_reg_sampled {a : Nat} (sampled : a = 0x100 ∨ a = 0x104) : (h.chipReset k otp straps).reg a =
    (((h.keepCairn k (h.resetBase k otp)).set F.GLB_STRAP_STRAP straps).raise k.cause 1).reg a := by
  have notState (n : Nat) : a ≠ F.PORT_PPSTAT_STATE.addr n 0 := by
    simp only [Fld.addr, F.PORT_PPSTAT_STATE]
    omega
  rw [Hub.chipReset_reg_relatch, Hub.relatch_reg notState, Hub.resetSampled, Hub.strapHif_reg _ (by omega)]
  · rcases sampled with rfl | rfl <;> decide
  · rcases sampled with rfl | rfl <;> decide

theorem ResetKind.cause_addr : k.cause.addr 0 0 = 0x104 := by cases k <;> rfl

theorem ResetKind.cause_bit : k.cause.lo + k.cause.w ≤ 32 ∧ k.cause.w = 1 := by cases k <;> decide

/-- A reset sets the bit of GLB_RSTCAUSE that names it (R464). -/
theorem Hub.chipReset_cause : (h.chipReset k otp straps).get k.cause = 1 := by
  obtain ⟨fits, one⟩ := k.cause_bit
  rw [Hub.get, Hub.chipReset_reg_sampled _ _ _ _ (.inr k.cause_addr), Hub.raise_reg, ← Hub.get, Hub.get_set_same _ _ _ _ _ fits, one,
    Nat.mod_eq_of_lt (by decide)]

/-- A reset samples the straps (R466). -/
theorem Hub.chipReset_strap : (h.chipReset k otp straps).get F.GLB_STRAP_STRAP = straps % 2 ^ 8 := by
  have notCause : F.GLB_STRAP_STRAP.addr 0 0 ≠ k.cause.addr 0 0 := by
    rw [k.cause_addr]
    decide
  have strapAddr : F.GLB_STRAP_STRAP.addr 0 0 = 0x100 := rfl
  rw [Hub.get, Hub.chipReset_reg_sampled _ _ _ _ (.inl strapAddr), Hub.raise_reg, Hub.reg_set_ne _ notCause]
  exact Hub.get_set_same _ F.GLB_STRAP_STRAP _ _ _ (by decide)

/-! ### What a reset that is not full keeps -/

variable {k}

/-- A latched trip is in the registers that are kept whole (R465). -/
theorem Hub.resetSampled_latch (notFull : k.full = false) (n : PortId) :
    (h.resetSampled k otp straps).get F.PORT_PPTRIP_LATCH n = h.get F.PORT_PPTRIP_LATCH n := by
  have addr : F.PORT_PPTRIP_LATCH.addr n 0 = 0x10208 + n * 0x1000 := by
    simp only [Fld.addr, F.PORT_PPTRIP_LATCH]
    omega
  have kept : keptReg (0x10208 + n * 0x1000) = true := by
    revert n
    decide
  have base : (h.resetBase k otp).reg (0x10208 + n * 0x1000) = h.reg (0x10208 + n * 0x1000) := by
    rw [Hub.reg, Hub.reg, Hub.resetBase, if_neg (by rw [notFull]; exact Bool.false_ne_true)]
    exact Tab.get_filter _ _ _ kept
  have notStrap : 0x10208 + n.val * 0x1000 ≠ F.GLB_STRAP_STRAP.addr 0 0 := by
    simp only [Fld.addr, F.GLB_STRAP_STRAP]
    omega
  have notCause : 0x10208 + n.val * 0x1000 ≠ k.cause.addr 0 0 := by
    rw [k.cause_addr]
    omega
  rw [Hub.get, Hub.get, addr, Hub.resetSampled, Hub.strapHif_reg _ (by omega), Hub.raise_reg, Hub.reg_set_ne _ notCause,
    Hub.reg_set_ne _ notStrap, Hub.keepCairn_reg _ _ (by omega), base]

/-- A latched port shows LATCHED, with its trip, and the fuse owns its analog set (R28, R465). -/
theorem Hub.chipReset_latched (notFull : k.full = false) (n : PortId) (latched : h.get F.PORT_PPTRIP_LATCH n = 1) :
    (h.chipReset k otp straps).get F.PORT_PPSTAT_STATE n = 6 ∧ (h.chipReset k otp straps).get F.PORT_PPTRIP_LATCH n = 1 ∧
      (h.chipReset k otp straps).owner (0x20 + n) = 6 := by
  have still : (h.resetSampled k otp straps).get F.PORT_PPTRIP_LATCH n = 1 := (h.resetSampled_latch otp straps notFull n).trans latched
  obtain ⟨state, owner⟩ := Hub.relatch_latched n still
  have portReg {f : Fld} (port : f.base = 0x10204 ∨ f.base = 0x10208) (stride : f.s1 = 0x1000) (stride2 : f.s2 = 0) :
      (h.chipReset k otp straps).reg (f.addr n 0) = (h.resetSampled k otp straps).relatch.reg (f.addr n 0) := by
    have bound : 0x10204 ≤ f.addr n 0 := by
      rw [Fld.addr]
      omega
    apply Hub.chipReset_reg_relatch
    · simp only [List.mem_cons, List.not_mem_nil, or_false]
      omega
    · simp only [List.mem_cons, List.not_mem_nil, or_false]
      omega
  refine ⟨?_, ?_, (Hub.chipReset_owner _ _ _ _ _).trans owner⟩
  · rw [Hub.get, portReg (.inl rfl) rfl rfl]
    exact state
  · rw [Hub.get, portReg (.inr rfl) rfl rfl, Hub.relatch_reg (pptrip_ne_ppstat n)]
    exact still

/-- What a power path keeps (R465). -/
def PwrPort.kept (x : PwrPort) : PwrPort := { energy := x.energy, dsch := x.gate || x.drain, drain := x.gate || x.drain }

@[simp] theorem PwrPort.kept_energy (x : PwrPort) : x.kept.energy = x.energy := rfl

/-- A power path starts from what it keeps. -/
theorem Hub.chipReset_pp (notFull : k.full = false) (wf : Tab.wf (fun _ => ({} : PwrPort)) h.pwr.ports = true) (n : Nat) :
    (h.chipReset k otp straps).pp n = (h.pp n).kept := by
  obtain ⟨regs, owners, time, out, keys, led, boot, -, -, -, e⟩ := h.chipReset_parts k otp straps
  rw [Hub.pp, e, if_neg (by rw [notFull]; exact Bool.false_ne_true)]
  exact Tab.get_filterMap (f := PwrPort.kept) rfl wf n

end

/-- Settles O56: the parts by `Hub.chipReset_parts`, the registers each by its lemma. That a pin reset alone keeps REG_EN is the model's
choice (log entry 47). -/
theorem chipResetState : Obligations.ChipResetState := by
  intro h k otp straps
  obtain ⟨regs, owners, time, out, keys, led, boot, tick, wiped, rails, e⟩ := h.chipReset_parts k otp straps
  have straps8 : straps.val % 2 ^ 8 = straps := Nat.mod_eq_of_lt straps.isLt
  refine ⟨?_, h.chipReset_cause k otp straps, (h.chipReset_strap k otp straps).trans straps8, ?_, ?_, ?_, ?_, ?_, ?_, ?_, ?_, ?_, ?_, ?_,
    ?_, ?_, fun notFull n latched => h.chipReset_latched otp straps notFull n latched,
    fun notFull wf n => by rw [h.chipReset_pp otp straps notFull wf n, PwrPort.kept_energy]⟩
  -- the emptied parts are then the defaults written in `e`
  all_goals rw [e]
  · exact wiped
  · exact tick
  · exact rails
  · exact fun full => if_pos full

end Sys2Proof.Machine
end

section
/-! Link and lane blocks as they are built and read (R8, R43, R63, R65): fields laid one after the other read back, and a block that is
closed with its CRC-8 passes the check. -/

namespace Sys2Proof

/-! ## Fields laid one after the other -/

/-- The bits that fields of given widths take together. -/
def widths (l : List (Nat × Nat)) : Nat := l.foldl (fun n f => n + f.1) 0

theorem widths_append (l m : List (Nat × Nat)) : widths (l ++ m) = widths l + widths m := by
  induction m using List.reverseRecOn with
  | nil => simp [widths]
  | append_singleton m f ih =>
    have snoc (k : List (Nat × Nat)) : widths (k ++ [f]) = widths k + f.1 := by
      simp only [widths, List.foldl_append, List.foldl_cons, List.foldl_nil]
    rw [← List.append_assoc, snoc, ih, snoc, Nat.add_assoc]

theorem widths_cons (f : Nat × Nat) (l : List (Nat × Nat)) : widths (f :: l) = f.1 + widths l := by
  rw [← List.singleton_append, widths_append]
  simp [widths]

theorem pack_append (l m : List (Nat × Nat)) : pack (l ++ m) = pack l * 2 ^ widths m + pack m := by
  induction m using List.reverseRecOn with
  | nil => simp [pack, widths]
  | append_singleton m f ih =>
    have snoc (k : List (Nat × Nat)) : pack (k ++ [f]) = pack k * 2 ^ f.1 + f.2 % 2 ^ f.1 := by
      simp only [pack, List.foldl_append, List.foldl_cons, List.foldl_nil]
    rw [← List.append_assoc, snoc, ih, snoc, widths_append, widths_cons, pow_add]
    simp only [widths, List.foldl_nil]
    ring

theorem pack_singleton (w v : Nat) : pack [(w, v)] = v % 2 ^ w := by simp [pack]

theorem pack_lt (l : List (Nat × Nat)) : pack l < 2 ^ widths l := by
  induction l with
  | nil => exact Nat.one_pos
  | cons f l ih =>
    have first : f.2 % 2 ^ f.1 < 2 ^ f.1 := Nat.mod_lt _ (Nat.two_pow_pos _)
    rw [← List.singleton_append, pack_append, pack_singleton, List.singleton_append, widths_cons, pow_add]
    nlinarith

/-- The field at a place of the list reads, between the bits before it and the bits after it, what was laid there. -/
theorem pack_div_mod (l m : List (Nat × Nat)) (w v : Nat) : pack (l ++ (w, v) :: m) / 2 ^ widths m % 2 ^ w = v % 2 ^ w := by
  rw [← List.singleton_append, ← List.append_assoc, pack_append (l ++ [(w, v)]), pack_append, pack_singleton, mul_comm,
    Nat.mul_add_div (Nat.two_pow_pos _), Nat.div_eq_of_lt (pack_lt m), Nat.add_zero]
  have one : widths [(w, v)] = w := widths_cons (w, v) []
  rw [one, Nat.mul_add_mod_self_right, Nat.mod_mod]

theorem widths_take_add_drop (l : List (Nat × Nat)) (i : Nat) : widths (l.take i) + widths (l.drop i) = widths l := by
  rw [← widths_append, List.take_append_drop]

theorem widths_take_succ {l : List (Nat × Nat)} {i w v : Nat} (stands : l[i]? = some (w, v)) :
    widths (l.take (i + 1)) = widths (l.take i) + w := by
  rw [List.take_add_one, stands, widths_append]
  exact congrArg (widths (l.take i) + ·) (widths_cons (w, v) [])

/-- Where entry `i` of a list of fields stands: the bits of the whole list, the bits before the entry and those up to its end, and the
entry. -/
def place (l : List (Nat × Nat)) (i : Nat) : Nat × Nat × Nat × Option (Nat × Nat) :=
  (widths l, widths (l.take i), widths (l.take (i + 1)), l[i]?)

/-- A field reads back between the wire bits that it takes. -/
theorem wire_pack {l : List (Nat × Nat)} {i n a b w v : Nat} (stands : place l i = (n, a, b + 1, some (w, v))) :
    wire n (pack l) a b = v % 2 ^ w := by
  simp only [place, Prod.mk.injEq] at stands
  obtain ⟨total, first, last, entry⟩ := stands
  have width : b + 1 - a = w := by
    rw [widths_take_succ entry] at last
    omega
  have rest : widths (l.drop (i + 1)) = n - 1 - b := by
    have whole := widths_take_add_drop l (i + 1)
    omega
  obtain ⟨inside, entry⟩ := List.getElem?_eq_some_iff.mp entry
  have split : l.take i ++ (w, v) :: l.drop (i + 1) = l := by
    rw [← entry, List.cons_getElem_drop_succ, List.take_append_drop]
  have read := pack_div_mod (l.take i) (l.drop (i + 1)) w v
  rwa [split, rest, ← width, ← wire, width] at read

/-! ## Blocks with a CRC-8 -/

theorem crcBit_lt {w poly c : Nat} (fits : poly < 2 ^ w) (b : Bool) : crcBit w poly c b < 2 ^ w := by
  have shifted : c * 2 % 2 ^ w < 2 ^ w := Nat.mod_lt _ (Nat.two_pow_pos w)
  unfold crcBit
  simp only []
  split
  · exact Nat.xor_lt_two_pow shifted fits
  · exact shifted

theorem crcByte_lt {w poly : Nat} (fits : poly < 2 ^ w) (c : Nat) (b : Byte) : crcByte w poly c b < 2 ^ w := by
  simp only [crcByte, List.foldl_cons, List.foldl_nil]
  exact crcBit_lt fits _

theorem crc8_lt (l : Bytes) : crc8 l < 256 := by
  rcases l.eq_nil_or_concat with rfl | ⟨k, b, rfl⟩
  · exact Nat.succ_pos 255
  · simp only [crc8, crcBytes, List.concat_eq_append, List.foldl_append, List.foldl_cons, List.foldl_nil]
    exact crcByte_lt (by decide) _ b

section

variable {x : Nat} (fits : x < 2 ^ 56)

include fits

theorem crcBlk_toNat : (crcBlk x).toNat = x * 256 + crc8 (beBytes 7 x) := by
  have crc := crc8_lt (beBytes 7 x)
  rw [crcBlk, BitVec.toNat_ofNat, Nat.mod_eq_of_lt fits]
  exact Nat.mod_eq_of_lt (by omega)

/-- A block that is closed with its CRC-8 passes the check (R65). -/
theorem crcOk_crcBlk : (crcBlk x).crcOk = true := by
  have crc := crc8_lt (beBytes 7 x)
  have body : (x * 256 + crc8 (beBytes 7 x)) / 256 = x := by omega
  have last : (x * 256 + crc8 (beBytes 7 x)) % 256 = crc8 (beBytes 7 x) := by omega
  rw [Blk.crcOk, crcBlk_toNat fits, body, last, beq_self_eq_true]

/-- The bits before the CRC-8 are those that it was computed over. -/
theorem field_crcBlk (a : Nat) {b : Nat} (hb : b < 56) : (crcBlk x).field a b = wire 56 x a b := by
  have crc := crc8_lt (beBytes 7 x)
  have shift : 2 ^ (64 - 1 - b) = 256 * 2 ^ (56 - 1 - b) := by
    rw [show 64 - 1 - b = 8 + (56 - 1 - b) by omega, pow_add, show 2 ^ 8 = 256 from rfl]
  have body : (x * 256 + crc8 (beBytes 7 x)) / 256 = x := by omega
  rw [Blk.field, wire, wire, crcBlk_toNat fits, shift, ← Nat.div_div_eq_div_mul, body]

end

section

variable {l : List (Nat × Nat)} {a b w v : Nat}

/-- A field of a block with a CRC-8 reads as it was laid, cut to its width. -/
theorem field_crcBlk_mod (i : Nat) (stands : place l i = (56, a, b + 1, some (w, v))) : (crcBlk (pack l)).field a b = v % 2 ^ w := by
  have inside : b < 56 ∧ widths l = 56 := by
    have whole := widths_take_add_drop l (i + 1)
    simp only [place, Prod.mk.injEq] at stands
    omega
  rw [field_crcBlk (inside.2 ▸ pack_lt l) a inside.1, wire_pack stands]

theorem field_crcBlk_pack (i : Nat) (stands : place l i = (56, a, b + 1, some (w, v))) (fits : v < 2 ^ w) :
    (crcBlk (pack l)).field a b = v := (field_crcBlk_mod i stands).trans (Nat.mod_eq_of_lt fits)

/-- So does a field of a block without one. -/
theorem field_pack (i : Nat) (stands : place l i = (64, a, b + 1, some (w, v))) (fits : v < 2 ^ w) :
    Blk.field (BitVec.ofNat 64 (pack l)) a b = v := by
  have total : widths l = 64 := congrArg Prod.fst stands
  rw [Blk.field, BitVec.toNat_ofNat, Nat.mod_eq_of_lt (total ▸ pack_lt l), wire_pack stands, Nat.mod_eq_of_lt fits]

theorem b2n_lt (x : Bool) : b2n x < 2 ^ 1 := by cases x <;> decide

/-- A one-bit field that a Bool was laid in reads as the Bool. -/
theorem flag_crcBlk_pack {x : Bool} (i : Nat) (stands : place l i = (56, a, b + 1, some (1, b2n x))) :
    ((crcBlk (pack l)).field a b == 1) = x := by
  rw [field_crcBlk_pack i stands (b2n_lt x)]
  cases x <;> rfl

/-- A block whose first eight bits are its type, closed with its CRC-8, is of that type. -/
theorem isA_crcBlk_pack {t : Nat} (total : widths l = 48) (type : t < 2 ^ 8) : (crcBlk (pack ((8, t) :: l))).isA t = true := by
  have whole : widths ((8, t) :: l) = 56 := (widths_cons (8, t) l).trans (congrArg (8 + ·) total)
  have read : (crcBlk (pack ((8, t) :: l))).field 0 7 = t :=
    field_crcBlk_pack 0 (congrArg (·, 0, 8, some (8, t)) whole) type
  rw [Blk.isA, crcOk_crcBlk (whole ▸ pack_lt _), Blk.btype, read, beq_self_eq_true, Bool.true_and]

end

/-! ## The blocks -/

/-- The link header of an SOF block reads back (R97, Table 4-2). -/
theorem LinkHdr.sof_blk {l : LinkHdr} (kind : l.kind < 4) (seq : l.seq < 2 ^ 12) (cls : l.cls < 8) (shc : l.shc < 64) (len : l.len < 2 ^ 14)
    (crcls : l.crcls < 8) (crcnt : l.crcnt < 128) : l.blk.sof = l := by
  obtain ⟨_, _, _, _, _, _, _, _⟩ := l
  rw [LinkHdr.blk, Blk.sof, LinkHdr.mk.injEq]
  exact ⟨field_crcBlk_pack 1 rfl kind, field_crcBlk_pack 2 rfl seq, field_crcBlk_pack 3 rfl cls, field_crcBlk_pack 4 rfl shc,
    field_crcBlk_pack 5 rfl len, field_crcBlk_pack 6 rfl crcls, flag_crcBlk_pack 7 rfl, field_crcBlk_pack 8 rfl crcnt⟩

/-- The fields of a training block read back (R72, Table 3-5). -/
theorem TsBlk.ts_blk {t : TsBlk} (bt : Nat) (lane : t.lane < 4) (rates : t.rates < 8) (tgt : t.tgt < 8) (retire : t.retire < 16)
    (role : t.role < 4) (preset : t.preset < 16) (pre : t.pre < 4) (post : t.post < 4) (eqlane : t.eqlane < 4) (eqstat : t.eqstat < 4)
    (phase : t.phase < 4) : (t.blk bt).ts = t := by
  obtain ⟨_, _, _, _, _, _, _, _, _, _, _, _⟩ := t
  rw [TsBlk.blk, Blk.ts, TsBlk.mk.injEq]
  exact ⟨field_crcBlk_pack 1 rfl lane, field_crcBlk_pack 2 rfl rates, field_crcBlk_pack 3 rfl tgt, field_crcBlk_pack 4 rfl retire,
    field_crcBlk_pack 5 rfl role, field_crcBlk_pack 7 rfl preset, field_crcBlk_pack 8 rfl pre, field_crcBlk_pack 9 rfl post,
    field_crcBlk_pack 10 rfl eqlane, field_crcBlk_pack 11 rfl eqstat, field_crcBlk_pack 12 rfl phase, flag_crcBlk_pack 13 rfl⟩

/-- A STRIPE block announces its four lanes one by one (Table 3-3). -/
theorem stripeSet_stripeBlk {set : Nat} (four : set < 16) : (stripeBlk set).stripeSet = set := by
  have lane0 : (stripeBlk set).field 8 8 = set % 2 ^ 1 := field_crcBlk_mod 1 rfl
  have lane1 : (stripeBlk set).field 9 9 = set / 2 % 2 ^ 1 := field_crcBlk_mod 2 rfl
  have lane2 : (stripeBlk set).field 10 10 = set / 4 % 2 ^ 1 := field_crcBlk_mod 3 rfl
  have lane3 : (stripeBlk set).field 11 11 = set / 8 % 2 ^ 1 := field_crcBlk_mod 4 rfl
  rw [Blk.stripeSet, lane0, lane1, lane2, lane3]
  omega

section

variable {frac ridge id res : Nat}

/-- The fields of a TSYNC read back (R43, Table 2-2). -/
theorem timeTsync_reads (hf : frac < 64) (hr : ridge < 2 ^ 48) : (timeTsync frac ridge).isTime 0 = true ∧
    (timeTsync frac ridge).time 2 7 = frac ∧ (timeTsync frac ridge).time 8 55 = ridge := by
  have type : (timeTsync frac ridge).btype = btTime := field_pack 0 rfl (by decide)
  have subkind : (timeTsync frac ridge).time 0 1 = 0 := field_pack 1 rfl (by decide)
  refine ⟨?_, field_pack 2 rfl hf, field_pack 3 rfl hr⟩
  rw [Blk.isTime, type, subkind]
  rfl

/-- The fields of a DRSP read back (R43, Table 2-2). -/
theorem timeDrsp_reads (hi : id < 64) (hr : res < 2 ^ 24) : (timeDrsp id res).isTime 2 = true ∧
    (timeDrsp id res).time 2 7 = id ∧ (timeDrsp id res).time 8 31 = res := by
  have type : (timeDrsp id res).btype = btTime := field_pack 0 rfl (by decide)
  have subkind : (timeDrsp id res).time 0 1 = 2 := field_pack 1 rfl (by decide)
  refine ⟨?_, field_pack 2 rfl hi, field_pack 3 rfl hr⟩
  rw [Blk.isTime, type, subkind]
  rfl

end

/-- The pool that an LCB's credit field names reads back (R106). -/
theorem lcPool_lcbBlk (ak aseq : Nat) (st po : Bool) {crcls : Nat} (sh : Bool) (crcnt : Nat) (hc : crcls < 8) :
    (lcbBlk ak aseq st po crcls sh crcnt).lcPool = if sh then 8 else crcls := by
  have shared : (lcbBlk ak aseq st po crcls sh crcnt).field 27 27 = b2n sh := field_crcBlk_pack 6 rfl (b2n_lt sh)
  have named : (lcbBlk ak aseq st po crcls sh crcnt).field 24 26 = crcls := field_crcBlk_pack 5 rfl hc
  rw [Blk.lcPool, shared, named]
  cases sh <;> rfl

/-- Settles O60: every field stands in the list of fields that its block is built of. -/
theorem blockRoundTrips : Obligations.BlockRoundTrips := by
  refine ⟨⟨?_, ?_, ?_⟩, ?_, ?_, ?_, fun frac ridge => timeTsync_reads, fun id res => timeDrsp_reads⟩
  · exact fun l kind seq cls shc len crcls crcnt =>
      ⟨LinkHdr.sof_blk kind seq cls shc len crcls crcnt, isA_crcBlk_pack rfl (by decide)⟩
  · exact fun ak aseq crcls crcnt st po sh hak haseq hcrcls hcrcnt =>
      ⟨isA_crcBlk_pack rfl (by decide), field_crcBlk_pack 1 rfl hak, field_crcBlk_pack 2 rfl haseq, flag_crcBlk_pack 3 rfl,
        flag_crcBlk_pack 4 rfl, lcPool_lcbBlk ak aseq st po sh crcnt hcrcls, field_crcBlk_pack 7 rfl hcrcnt⟩
  · intro good fcrc fits
    refine ⟨field_crcBlk_pack 2 rfl fits, isA_crcBlk_pack rfl ?_⟩
    cases good <;> decide
  · intro t bt type lane rates tgt retire role preset pre post eqlane eqstat phase
    refine ⟨TsBlk.ts_blk bt lane rates tgt retire role preset pre post eqlane eqstat phase, isA_crcBlk_pack rfl ?_⟩
    rcases type with rfl | rfl <;> decide
  · exact fun kind id mode lanes dly x hkind hid hmode hlanes hdly hx =>
      ⟨isA_crcBlk_pack rfl (by decide), field_crcBlk_pack 1 rfl hkind, field_crcBlk_pack 2 rfl hid, field_crcBlk_pack 3 rfl hmode,
        field_crcBlk_pack 4 rfl hlanes, field_crcBlk_pack 5 rfl hdly, field_crcBlk_pack 6 rfl hx⟩
  · exact fun set four => ⟨stripeSet_stripeBlk four, isA_crcBlk_pack rfl (by decide)⟩

end Sys2Proof
end

section
/-! Ridge time as software sees it (R33, R41, R42, R47 to R49): spread spectrum, the reads of TIME_NOW, loads, captures and compares. -/

namespace Sys2Proof.Machine

/-! ## Commands on a powered hub, by the way they run -/

section

variable {c : Instr} {h : Hub} (ha : h.awake)

include ha

theorem does_of_run (f : Hub → Hub) (meaning : ∀ s, exec c s = run f s) : Does c h (f h) := by
  intro st o q
  rw [meaning, run_awake ha]

theorem does_of_runW (f : Hub → Hub) (meaning : ∀ s, exec c s = runW (fun _ => f) s) (hw : h.led.wiped = false) : Does c h (f h) := by
  intro st o q
  rw [meaning, runW_awake ha hw]

theorem doesOtp_of_runO {f : Tab Nat → Hub → Hub} (meaning : ∀ s, exec c s = runO f s) (o : Otp) : DoesOtp c h o (f o.bits h) := by
  intro st q
  rw [meaning, runO_awake ha]

theorem doesOtp_of_runW {f : Tab Nat → Hub → Hub} (meaning : ∀ s, exec c s = runW f s) (hw : h.led.wiped = false) (o : Otp) :
    DoesOtp c h o (f o.bits h) := by
  intro st q
  rw [meaning, runW_awake ha hw]

theorem doesRead_of_runS {f : Tab Nat → Hub → Hub → Hub × Hub} (meaning : ∀ s, exec c s = runS f s) (st : Hub) (o : Otp) :
    DoesRead c st h o (f o.bits st h) := by
  intro q
  rw [meaning, runS_awake ha]

end

/-! ## The commands -/

section

variable {h : Hub} (ha : h.awake)

include ha

theorem does_palignEdge : Does .palignEdge h h.palignEdge :=
  does_of_run ha Hub.palignEdge exec_palignEdge

theorem does_captureEdge (u : Fin 4) : Does (.captureEdge u) h (h.captureEdge u) :=
  does_of_run ha (·.captureEdge u) (exec_captureEdge u)

theorem does_compareMatch (u : Fin 4) : Does (.compareMatch u) h (h.compareMatch u) :=
  does_of_run ha (·.compareMatch u) (exec_compareMatch u)

theorem does_comparePulseEnd (u : Fin 4) : Does (.comparePulseEnd u) h (h.comparePulseEnd u) :=
  does_of_run ha (·.comparePulseEnd u) (exec_comparePulseEnd u)

end

section

variable {h : Hub} (ha : h.awake) (hw : h.led.wiped = false)

include ha hw

theorem does_sscWrite (freq : Fin 4) (depth : Fin 16) (en : Bool) : Does (.sscWrite freq depth en) h (h.sscWrite freq depth en) :=
  does_of_runW ha (·.sscWrite freq depth en) (exec_sscWrite freq depth en) hw

theorem does_load : Does .load h h.timeLoad :=
  does_of_runW ha Hub.timeLoad exec_load hw

theorem does_palign : Does .palign h h.palign :=
  does_of_runW ha Hub.palign exec_palign hw

theorem does_compareTargetWrite (u : Fin 4) (hi : Word) : Does (.compareTargetWrite u hi) h (h.compareTarget u hi) :=
  does_of_runW ha (·.compareTarget u hi) (exec_compareTargetWrite u hi) hw

end

/-! ## Spread spectrum and the loads of ridge time -/

theorem Hub.noPortUp_of {h : Hub} (down : ∀ n : PortId, h.get F.PORT_LCTL_EN n = 0) : h.noPortUp = true := by
  rw [Hub.noPortUp, List.all_eq_true]
  intro n hn
  rw [Hub.flag_zero (down ⟨n, List.mem_range.mp hn⟩), Bool.not_false]

section

variable {h : Hub}

/-- SSC_WRITE takes effect at a hub that is no summit, or at the summit while no port is up (R33). -/
theorem Hub.sscWrite_taken (freq : Nat) {depth : Nat} (en : Bool) (unlocked : h.get F.GLB_LOCK_LOCK = 0) (defined : depth ≤ 10)
    (free : h.get F.TIME_CTL_SUMMIT = 0 ∨ ∀ n : PortId, h.get F.PORT_LCTL_EN n = 0) :
    h.sscWrite freq depth en = ((h.set F.TIME_CTL_SSC_FREQ freq).set F.TIME_CTL_SSC_EN (b2n en)).set F.TIME_CTL_SSC_DEPTH depth := by
  have premise : ¬ h.flag F.GLB_LOCK_LOCK ∧ (¬ h.flag F.TIME_CTL_SUMMIT ∨ h.noPortUp) := by
    refine ⟨by rw [Hub.flag_zero unlocked]; exact Bool.false_ne_true, free.imp (fun other => ?_) Hub.noPortUp_of⟩
    rw [Hub.flag_zero other]
    exact Bool.false_ne_true
  rw [Hub.sscWrite, Hub.when_pos premise, if_pos defined]

variable (down : ∀ n : PortId, h.get F.PORT_LCTL_EN n = 0)

include down

theorem Hub.timeLoad_taken (summit : h.get F.TIME_CTL_SUMMIT = 1) :
    h.timeLoad = h.loadRidge (h.get64 F.TIME_SET_LO_SET_LO F.TIME_SET_HI_SET_HI) :=
  Hub.when_pos ⟨Hub.flag_one summit, Hub.noPortUp_of down⟩

variable (owns : h.owner resSyncIn = ownTime)

include owns

theorem Hub.palign_armed (summit : h.get F.TIME_CTL_SUMMIT = 1) : h.palign = { h with time := { h.time with alignArmed := true } } :=
  Hub.when_pos ⟨Hub.flag_one summit, Hub.noPortUp_of down, owns⟩

/-- The armed load happens at the edge (R42). -/
theorem Hub.palignEdge_loads (armed : h.time.alignArmed = true) : h.palignEdge =
    { h with time := { h.time with alignArmed := false } }.loadRidge (h.get64 F.TIME_SET_LO_SET_LO F.TIME_SET_HI_SET_HI) :=
  Hub.when_pos ⟨armed, owns, Hub.noPortUp_of down⟩

end

/-! ## Captures -/

section

variable {h : Hub} {u : Nat} (on : h.get F.TIME_CAPCFG_EN u = 1) (source : h.get F.TIME_CAPCFG_SRC u < 4)
  (owns : h.owner (h.capRes u) = ownTime)

include on source owns

/-- An edge while a capture stands unread is an overrun (R47). -/
theorem Hub.captureEdge_overrun (valid : h.get F.TIME_CAPCFG_VALID u = 1) : h.captureEdge u = h.raise F.TIME_CAPCFG_OVR 1 u := by
  rw [Hub.captureEdge, Hub.when_pos ⟨Hub.flag_one on, source, owns⟩, if_pos (Hub.flag_one valid)]

theorem Hub.captureEdge_captures (free : h.get F.TIME_CAPCFG_VALID u = 0) : h.captureEdge u =
    (h.set64 F.TIME_CAP_LO_CAP F.TIME_CAP_HI_CAP h.ridge u).raise F.TIME_CAPCFG_VALID 1 u := by
  rw [Hub.captureEdge, Hub.when_pos ⟨Hub.flag_one on, source, owns⟩, Hub.flag_zero free, if_neg Bool.false_ne_true]

end

/-! ## Compares -/

/-- The target that a write of CMP_HI installs (R48). -/
theorem Hub.get64_cmp_set_hi (h : Hub) (u : Nat) (hi : Word) :
    (h.set F.TIME_CMP_HI_CMP hi.toNat u).get64 F.TIME_CMP_LO_CMP F.TIME_CMP_HI_CMP u = 2 ^ 32 * hi.toNat + h.get F.TIME_CMP_LO_CMP u := by
  have width : hi.toNat % 2 ^ F.TIME_CMP_HI_CMP.w = hi.toNat := Nat.mod_eq_of_lt hi.isLt
  have lo : (h.set F.TIME_CMP_HI_CMP hi.toNat u).get F.TIME_CMP_LO_CMP u = h.get F.TIME_CMP_LO_CMP u :=
    Hub.get_set_elem _ rfl rfl (by decide)
  rw [Hub.get64, Hub.get_set_same _ _ _ _ _ (by decide), width, lo]

theorem Hub.compareTarget_late {h : Hub} {u : Nat} {hi : Word} (late : 2 ^ 32 * hi.toNat + h.get F.TIME_CMP_LO_CMP u ≤ h.ridge) :
    h.compareTarget u hi = ((h.set F.TIME_CMP_HI_CMP hi.toNat u).setCmp u { h.cmp u with
      target := some (2 ^ 32 * hi.toNat + h.get F.TIME_CMP_LO_CMP u)
      force := some (h.now + 1) }).raise F.TIME_CMPCFG_LATE 1 u := by
  rw [Hub.compareTarget, Hub.get64_cmp_set_hi]
  exact if_pos late

theorem Hub.compareTarget_ahead {h : Hub} {u : Nat} {hi : Word} (ahead : h.ridge < 2 ^ 32 * hi.toNat + h.get F.TIME_CMP_LO_CMP u) :
    h.compareTarget u hi = (h.set F.TIME_CMP_HI_CMP hi.toNat u).setCmp u { h.cmp u with
      target := some (2 ^ 32 * hi.toNat + h.get F.TIME_CMP_LO_CMP u)
      force := none } := by
  rw [Hub.compareTarget, Hub.get64_cmp_set_hi]
  exact if_neg (Nat.not_le.mpr ahead)

/-- Raising MATCHED leaves every other field of the unit. -/
theorem Hub.raise_matched_get (h : Hub) (u : Nat) {f : Fld} (other : f.base = 0x1080 → f.lo + f.w ≤ 24 ∨ 25 ≤ f.lo)
    (s1 : f.s1 = 0x10) (s2 : f.s2 = 0) : (h.raise F.TIME_CMPCFG_MATCHED 1 u).get f u = h.get f u := by
  rw [Hub.raise_get]
  by_cases same : f.base = 0x1080
  · exact Hub.get_set_disj h (by decide) (other same).symm
  · exact Hub.get_set_elem h s1 s2 same

theorem Hub.cmpPin_raise_matched (h : Hub) (u : Nat) : (h.raise F.TIME_CMPCFG_MATCHED 1 u).cmpPin u = h.cmpPin u := by
  rw [Hub.cmpPin, Hub.raise_matched_get h u (by decide) rfl rfl, Hub.raise_matched_get h u (by decide) rfl rfl]
  rfl

@[simp] theorem Hub.raise_now (h : Hub) (f : Fld) (v i j : Nat) : (h.raise f v i j).now = h.now := by
  rw [Hub.now, Hub.raise_time, ← Hub.now]

/-- What ends a match: a one-shot unit is disabled, a periodic one shows the target that follows. -/
def Hub.endMatch (h : Hub) (u per next : Nat) : Hub :=
  if per = 0 then h.raise F.TIME_CMPCFG_EN 0 u else h.set64 F.TIME_CMP_LO_CMP F.TIME_CMP_HI_CMP next u

section

variable {h : Hub} {u : Nat} (on : h.get F.TIME_CMPCFG_EN u = 1) (hit : (h.cmp u).target = some h.ridge)

include on hit

/-- A match of a unit with a pin starts a pulse there (R48). -/
theorem Hub.compareMatch_pin {p : OutPin} {r : Nat} (pin : h.cmpPin u = some (p, r)) : h.compareMatch u =
    (((h.raise F.TIME_CMPCFG_MATCHED 1 u).setCmp u
      { force := none, target := some ((h.ridge + h.get F.TIME_CMP_PER_CMP_PER u) % 2 ^ 64),
        pulseEnd := some (h.now + h.get F.TIME_CMPCFG_WIDTH u) }).emit (.pin p true)).endMatch u (h.get F.TIME_CMP_PER_CMP_PER u)
      ((h.ridge + h.get F.TIME_CMP_PER_CMP_PER u) % 2 ^ 64) := by
  simp only [Hub.compareMatch]
  rw [Hub.when_pos ⟨Hub.flag_one on, .inl hit⟩]
  simp only [hit, Option.getD_some, Hub.cmpPin_raise_matched, pin, Option.isSome_some, if_true, Hub.raise_now,
    Hub.raise_matched_get h u (f := F.TIME_CMP_PER_CMP_PER) (by decide) rfl rfl,
    Hub.raise_matched_get h u (f := F.TIME_CMPCFG_WIDTH) (by decide) rfl rfl, Hub.endMatch]

/-- A match of a unit without a pin is recorded. -/
theorem Hub.compareMatch_record (noPin : h.cmpPin u = none) : h.compareMatch u =
    (((h.raise F.TIME_CMPCFG_MATCHED 1 u).setCmp u
      { target := some ((h.ridge + h.get F.TIME_CMP_PER_CMP_PER u) % 2 ^ 64) }).timeRec 0x01 u).endMatch u
      (h.get F.TIME_CMP_PER_CMP_PER u) ((h.ridge + h.get F.TIME_CMP_PER_CMP_PER u) % 2 ^ 64) := by
  simp only [Hub.compareMatch]
  rw [Hub.when_pos ⟨Hub.flag_one on, .inl hit⟩]
  simp only [hit, Option.getD_some, Hub.cmpPin_raise_matched, noPin, Option.isSome_none, Bool.false_eq_true, if_false,
    Hub.raise_matched_get h u (f := F.TIME_CMP_PER_CMP_PER) (by decide) rfl rfl, Hub.endMatch]

end

theorem Hub.cmpPin_none {h : Hub} {u : Nat} (record : h.get F.TIME_CMPCFG_OUT u = 0) : h.cmpPin u = none := by
  simp only [Hub.cmpPin, record]

/-- The target of a one-shot unit, which adds no period to it, stays the ridge time of the match. -/
theorem Hub.ridge_add_zero (h : Hub) : (h.ridge + 0) % 2 ^ 64 = h.ridge := Nat.mod_eq_of_lt h.time.ridge.isLt

theorem Hub.comparePulseEnd_due {h : Hub} {u t r : Nat} {p : OutPin} (ends : (h.cmp u).pulseEnd = some t) (due : t ≤ h.now)
    (pin : h.cmpPin u = some (p, r)) :
    h.comparePulseEnd u = ((h.setCmp u { h.cmp u with pulseEnd := none }).emit (.pin p false)).timeRelease r := by
  have reached : h.due (h.cmp u).pulseEnd = true := by
    rw [ends]
    exact decide_eq_true due
  rw [Hub.comparePulseEnd, Hub.when_pos reached]
  simp only [Hub.endPulse, ends, pin]

/-- Settles O12: each clause by the lemma about the operation that it names. -/
theorem ridgeTimeCommands : Obligations.RidgeTimeCommands := by
  refine ⟨fun h ha => ⟨?_, ?_, ?_, ?_, ?_, fun u on source owns => ⟨?_, ?_⟩⟩, fun h ha u => ⟨?_, ?_, ?_, ?_, ?_, ?_⟩,
    fun h => ⟨fun ha => ⟨?_, does_palignEdge ha, does_captureEdge ha, does_compareMatch ha, does_comparePulseEnd ha⟩,
      fun ha hw => ⟨does_sscWrite ha hw, does_load ha hw, does_palign ha hw, does_compareTargetWrite ha hw⟩⟩⟩
  · exact fun hw f d en unlocked defined free => (does_sscWrite ha hw f d en).of_eq (Hub.sscWrite_taken f en unlocked defined free)
  · exact fun p st o => doesRead_of_runS ha (exec_timeNowLoRead p) st o
  · exact fun hw summit down => (does_load ha hw).of_eq (Hub.timeLoad_taken down summit)
  · exact fun hw summit down owns => (does_palign ha hw).of_eq (Hub.palign_armed down owns summit)
  · exact fun armed down owns => (does_palignEdge ha).of_eq (Hub.palignEdge_loads down owns armed)
  · exact fun valid => (does_captureEdge ha u).of_eq (Hub.captureEdge_overrun on source owns valid)
  · exact fun free => (does_captureEdge ha u).of_eq (Hub.captureEdge_captures on source owns free)
  · exact fun hw hi late => (does_compareTargetWrite ha hw u hi).of_eq (Hub.compareTarget_late late)
  · exact fun hw hi ahead => (does_compareTargetWrite ha hw u hi).of_eq (Hub.compareTarget_ahead ahead)
  · intro p r on hit pin oneShot
    refine (does_compareMatch ha u).of_eq ((Hub.compareMatch_pin on hit pin).trans ?_)
    rw [oneShot, Hub.ridge_add_zero]
    exact if_pos rfl
  · intro p r on hit pin periodic
    exact (does_compareMatch ha u).of_eq ((Hub.compareMatch_pin on hit pin).trans (if_neg periodic))
  · intro on hit record oneShot
    refine (does_compareMatch ha u).of_eq ((Hub.compareMatch_record on hit (Hub.cmpPin_none record)).trans ?_)
    rw [oneShot, Hub.ridge_add_zero]
    exact if_pos rfl
  · exact fun t p r ends due pin => (does_comparePulseEnd ha u).of_eq (Hub.comparePulseEnd_due ends due pin)
  · exact fun p st o => doesRead_of_runS ha (exec_timeNowLoRead p) st o

end Sys2Proof.Machine
end

section
/-! The shadow of TIME_NOW_HI (R41), and what a step does with a queue. -/

namespace Sys2Proof.Machine

/-- Settles O1: with a command waiting a step is defined as its meaning on the queue's rest. -/
theorem stepRunsFrontCommand : Obligations.StepRunsFrontCommand := fun _ _ _ => rfl

/-- Every path reaches TIME_NOW_HI (R41, Table 10-2). -/
theorem Hub.reaches_timeNowHi (h : Hub) (p : Path) : h.reaches p 0x100C = true := by
  have slices (s : Nat) : h.reach s 0x100C = true := by simp [Hub.reach]
  rw [Hub.reaches, slices, Bool.or_true]

/-- TIME_NOW_HI shows the shadow of the path. -/
theorem Hub.view_timeNowHi (h : Hub) (p : Path) : h.view p 0x100C = BitVec.ofNat 32 (Tab.get 0 h.time.shadow p.num) := by
  have open_ : ¬ (0x100C % 4 ≠ 0 ∨ ¬ h.reaches p 0x100C ∨ (remotePath p ∧ isOtpReg 0x100C)) := by
    simp [h.reaches_timeNowHi p, isOtpReg]
  have shadow : h.computed p 0x100C = some (BitVec.ofNat 32 (Tab.get 0 h.time.shadow p.num)) := by
    rw [Hub.computed, if_neg (by decide), if_neg (by decide), if_pos rfl]
  rw [Hub.view, if_neg open_, shadow]

/-- TIME_NOW_HI has no field that a read clears. -/
theorem Hub.rcLeave_timeNowHi (h : Hub) (v : FieldD → Nat) : h.rcLeave 0x100C v = h := by
  have found : findReg 0x100C = some R.TIME_NOW_HI := by decide
  rw [Hub.rcLeave, found]
  exact if_pos (by decide)

theorem Hub.readEffect_timeNowHi (st h : Hub) (p : Path) : st.readEffect h p 0x100C = (st, h) := by
  have open_ : ¬ (0x100C % 4 ≠ 0 ∨ ¬ st.reaches p 0x100C ∨ (remotePath p ∧ isOtpReg 0x100C)) := by
    simp [st.reaches_timeNowHi p, isOtpReg]
  rw [Hub.readEffect, if_neg open_, if_neg (by decide), if_neg (by decide), Hub.home_low st p (by decide)]
  simp only [Hub.rcClear, Hub.rcTake, Hub.rcLeave_timeNowHi]

/-- A read of TIME_NOW_HI sends out the shadow, and changes nothing else. -/
theorem Hub.read_timeNowHi (st h : Hub) (p : Path) : st.read h p (.bar0 0x100C) 15 =
    (st, h.emit (.readData p 0x100C (BitVec.ofNat 32 (Tab.get 0 st.time.shadow p.num)))) := by
  have whole : wholeWord p 0x100C 15#4 = true := by cases p <;> rfl
  exact (Hub.read_bar0 st h (a := 0x100C) (.inr whole)).trans (by rw [← st.view_timeNowHi, ← Hub.readEffect_timeNowHi]; rfl)

/-- Settles O13: the low half goes out as the high half is held, and `Hub.read_timeNowHi` shows what is held. -/
theorem timeNowShadow : Obligations.TimeNowShadow := by
  intro h st o p ha
  refine ⟨st.timeNowLo h p, doesRead_of_runS ha (exec_timeNowLoRead p) st o, rfl, rfl, fun k t o' hk held => ?_,
    fun q other => Tab.get_set_ne _ _ _ _ other, fun m l => rfl, by decide, by decide⟩
  have shadow : Tab.get 0 t.time.shadow p.num = st.time.ridge.toNat / 2 ^ 32 := by
    rw [held]
    exact Tab.get_set_same 0 h.time.shadow p.num _
  rw [← shadow, ← Hub.read_timeNowHi]
  exact doesRead_rcRead hk p _ _ t o'

end Sys2Proof.Machine
end

section
/-! Frequency lock, the loss of the lock source, and what an offset does (R36 to R39, R44, R45, Table 2-1). -/

namespace Sys2Proof.Machine

/-! ## The commands -/

section

variable {h : Hub} (ha : h.awake)

include ha

theorem does_uplinkSignalDetect (n : PortId) : Does (.uplinkSignalDetect n) h (h.uplinkSignal n) :=
  does_of_run ha (·.uplinkSignal n) (exec_uplinkSignalDetect n)

theorem does_frequencyLock : Does .frequencyLock h h.frequencyLock :=
  does_of_run ha Hub.frequencyLock exec_frequencyLock

theorem does_facqTimeout : Does .facqTimeout h h.facqTimeout :=
  does_of_run ha Hub.facqTimeout exec_facqTimeout

theorem does_lockSourceLost : Does .lockSourceLost h h.lockSourceLost :=
  does_of_run ha Hub.lockSourceLost exec_lockSourceLost

end

/-! ## Messages between neighbours are frames of the core -/

theorem Hub.newFrame_core (h : Hub) (hd : THdr) (payload : Bytes) (src : Nat) (tun : Option Nat) (o : Origin) :
    ∃ core, (h.newFrame hd payload src tun o).2 = { h with core := core } := by
  simp only [Hub.newFrame]
  split
  · exact ⟨_, rfl⟩
  · exact ⟨_, rfl⟩

theorem Hub.routed_core (h : Hub) (i : Nat) (qs : List Nat) : ∃ core, h.routed_ i qs = { h with core := core } := by
  unfold Hub.routed_
  split
  · exact ⟨_, rfl⟩
  · exact ⟨_, rfl⟩

theorem Hub.fabSend_core (h : Hub) (n payload : Nat) : ∃ core, h.fabSend n payload = { h with core := core } := by
  simp only [Hub.fabSend]
  obtain ⟨staged, e⟩ := h.newFrame_core _ (beBytes 32 payload) 33 none .none
  obtain ⟨routed, e'⟩ := Hub.routed_core (h.newFrame _ (beBytes 32 payload) 33 none .none).2 _ [n * 8 + 7]
  rw [e', e]
  exact ⟨_, rfl⟩

@[simp] theorem Hub.fabSend_reg (h : Hub) (n payload a : Nat) : (h.fabSend n payload).reg a = h.reg a := by
  obtain ⟨core, e⟩ := h.fabSend_core n payload
  rw [e, Hub.with_core_reg]

@[simp] theorem Hub.fabSend_time (h : Hub) (n payload : Nat) : (h.fabSend n payload).time = h.time := by
  obtain ⟨core, e⟩ := h.fabSend_core n payload
  rw [e]

theorem Hub.helloRoles_reg (h : Hub) (old : Nat → Nat) (a : Nat) : (h.helloRoles old).reg a = h.reg a :=
  Hub.each_reg (fun _ g => g.fabSend_reg _ _ a) _ h

theorem Hub.helloRoles_time (h : Hub) (old : Nat → Nat) : (h.helloRoles old).time = h.time :=
  Hub.each_time h _ _ (fun _ g => g.fabSend_time _ _)

/-! ## Acquisition -/

@[simp] theorem Hub.acquire_state (h : Hub) (n : Nat) : (h.acquire n).get F.TIME_STAT_STATE = 1 :=
  Hub.get_set_same _ F.TIME_STAT_STATE 1 0 0 (by decide)

@[simp] theorem Hub.acquire_time (h : Hub) (n : Nat) : (h.acquire n).time =
    { h.time with uplink := n, acqStart := some h.now, loaded := false, good := 0, bad := 0 } := rfl

theorem Hub.acquire_reg {a : Nat} (other : a ≠ 0x1004) (h : Hub) (n : Nat) : (h.acquire n).reg a = h.reg a :=
  Hub.reg_set_ne (f := F.TIME_STAT_STATE) _ other

section

variable {h : Hub}

/-- A signal on the primary uplink starts its acquisition; the other AUTO ports become DOWN, and partners are told (R36, R165, R171). -/
theorem Hub.uplinkSignal_primary {n : Nat} (boot : h.get F.TIME_STAT_STATE = 0) (below : h.get F.TIME_CTL_SUMMIT = 0)
    (on : h.get F.PORT_LCTL_EN n = 1) (inService : (h.fabp n).barred = false) (primary : h.role n = 2) :
    ∃ g : Hub, g.time = h.time ∧ (∀ a, g.reg a = h.reg a) ∧
      h.uplinkSignal n = ({ g with time := { g.time with acqFails := 0 } } : Hub).acquire n := by
  have may : h.mayAcquire n = true := by rw [Hub.mayAcquire, inService, primary]; rfl
  have summit : ¬ h.flag F.TIME_CTL_SUMMIT := by rw [Hub.flag_zero below]; exact Bool.false_ne_true
  have resolved : (h.signalAt n).role n ≠ 0 := by
    show h.role n ≠ 0
    rw [primary]
    decide
  rw [Hub.uplinkSignal, Hub.when_pos ⟨boot, summit, Hub.flag_one on, may⟩]
  simp only [if_neg resolved]
  refine ⟨_, ?_, fun a => ?_, rfl⟩
  · rw [Hub.helloRoles_time, Hub.each_time]
    · rfl
    · intro i g
      split <;> rfl
  · rw [Hub.helloRoles_reg, Hub.each_reg]
    · rfl
    · intro i g
      split <;> rfl

theorem Hub.facqTimeout_again {t : Nat} (acquiring : h.get F.TIME_STAT_STATE = 1) (start : h.time.acqStart = some t)
    (due : t + 100000 ≤ h.now) (failed : h.time.acqFails < 2) :
    h.facqTimeout = { h with time := { h.time with acqFails := h.time.acqFails + 1, acqStart := some h.now } } := by
  have reached : h.due (h.time.acqStart.map (· + 100000)) = true := by rw [start]; exact decide_eq_true due
  rw [Hub.facqTimeout, Hub.when_pos ⟨acquiring, reached⟩]
  exact if_pos (by omega)

/-- A third failure in a row is recorded, and acquisition starts again on the other uplink where there is one (Table 2-1, log entry 17). -/
theorem Hub.facqTimeout_third {t : Nat} (acquiring : h.get F.TIME_STAT_STATE = 1) (start : h.time.acqStart = some t)
    (due : t + 100000 ≤ h.now) (failed : 2 ≤ h.time.acqFails) :
    h.facqTimeout = (({ h with time := { h.time with acqFails := 0 } } : Hub).fault0 0x02 srcTime h.time.uplink).acquire
      (((({ h with time := { h.time with acqFails := 0 } } : Hub).fault0 0x02 srcTime h.time.uplink).otherUplink h.time.uplink).getD
        h.time.uplink) := by
  have reached : h.due (h.time.acqStart.map (· + 100000)) = true := by rw [start]; exact decide_eq_true due
  rw [Hub.facqTimeout, Hub.when_pos ⟨acquiring, reached⟩]
  exact if_neg (by omega)

/-! ## The lock source -/

/-- Without another uplink the hub holds the last ratio (R39). -/
theorem Hub.lockSourceLost_hold (locked : h.tmState = tmFLOCK ∨ h.tmState = tmTLOCK)
    (alone : h.otherUplink (h.get F.TIME_STAT_SRCPORT) = none) : h.lockSourceLost =
      let g := ((h.set F.TIME_STAT_STATE 4).set F.TIME_STAT_SRCVALID 0).rec1 prodTime 10 3 srcTime (h.get F.TIME_STAT_SRCPORT)
      { g with time := { g.time with ratioHeld := true } } := by
  rw [Hub.lockSourceLost, Hub.when_pos locked]
  simp only [alone, Option.filter_none]
  rfl

/-- Another uplink whose lanes are ACTIVE becomes the lock source (R39, log entry 62). -/
theorem Hub.lockSourceLost_other {m : Nat} (locked : h.tmState = tmFLOCK ∨ h.tmState = tmTLOCK)
    (other : h.otherUplink (h.get F.TIME_STAT_SRCPORT) = some m) (differs : m ≠ h.get F.TIME_STAT_SRCPORT)
    (active : h.get F.PORT_LSTAT_STATE m = 7) : h.lockSourceLost =
      let g := (h.set F.TIME_STAT_SRCPORT m).rec1 prodTime 10 4 srcTime m
      { g with time := { g.time with uplink := m, good := 0, bad := 0 } } := by
  rw [Hub.lockSourceLost, Hub.when_pos locked]
  simp only [other, Option.filter_some, decide_eq_true differs, Hub.active_of active, if_true]
  rfl

end

/-! ## What keeps the registers below the fabric's -/

/-- Every register below those of chapter 6 holds the same word. -/
def LowKept (h g : Hub) : Prop := ∀ a, a < 0x4000 → g.reg a = h.reg a

theorem LowKept.refl (h : Hub) : LowKept h h := fun _ _ => rfl

theorem LowKept.trans {h g k : Hub} (a : LowKept h g) (b : LowKept g k) : LowKept h k := fun x low => (b x low).trans (a x low)

theorem LowKept.of_reg {h g : Hub} (same : ∀ a, g.reg a = h.reg a) : LowKept h g := fun a _ => same a

theorem LowKept.set (h : Hub) {f : Fld} (v i j : Nat) (high : 0x4000 ≤ f.base) : LowKept h (h.set f v i j) := by
  intro a low
  apply Hub.reg_set_ne
  rw [Fld.addr]
  omega

theorem LowKept.bump (h : Hub) {f : Fld} (i n : Nat) (high : 0x4000 ≤ f.base) : LowKept h (h.bump f i n) := LowKept.set h _ _ _ high

theorem LowKept.each {f : Nat → Hub → Hub} (step : ∀ i g, LowKept g (f i g)) (l : List Nat) (h : Hub) : LowKept h (h.each l f) :=
  fun a low => Hub.each_reg (fun i g => step i g a low) l h

theorem LowKept.events {h g : Hub} (e : EvsOnly h g) : LowKept h g := fun a low => e.2 a (by omega)

theorem LowKept.get {h g : Hub} (kept : LowKept h g) {f : Fld} {i j : Nat} (low : f.addr i j < 0x4000) : g.get f i j = h.get f i j := by
  rw [Hub.get, Hub.get, kept _ low]

theorem LowKept.ite {h g k : Hub} {c : Prop} [Decidable c] (a : LowKept h g) (b : LowKept h k) : LowKept h (if c then g else k) := by
  split
  · exact a
  · exact b

/-! ## What follows TLOCK in the fabric -/

theorem LowKept.siteCounts (h : Hub) : LowKept h h.siteCounts := (LowKept.set h _ _ _ (by decide)).trans (.set _ _ _ _ (by decide))

theorem LowKept.sendReady (h : Hub) : LowKept h h.sendReady := by
  unfold Hub.sendReady
  split
  · exact .ite (.of_reg (Hub.fabSend_reg _ _ _)) (.refl h)
  · exact .refl h

theorem LowKept.siteRecord (h : Hub) (code : Nat) : LowKept h (h.siteRecord code) := .events (Hub.record_evsOnly h (by decide) _)

theorem LowKept.mgmtFrame (h : Hub) (dhub hops cls : Nat) (b : Bool) (payload : Bytes) : LowKept h (h.mgmtFrame dhub hops cls b payload) := by
  obtain ⟨core, e⟩ := h.newFrame_core _ payload 33 none .none
  exact .of_reg fun a => by rw [Hub.mgmtFrame, e, Hub.with_core_reg]

theorem LowKept.tellReady (h : Hub) : LowKept h h.tellReady := by
  have ready (g : Hub) : LowKept g ((g.set F.FAB_SITE_SREADY 1).set64 F.FAB_SRTIME_LO_SRT_LO F.FAB_SRTIME_HI_SRT_HI g.ridge) :=
    ((LowKept.set g _ _ _ (by decide)).trans (.set _ _ _ _ (by decide))).trans (.set _ _ _ _ (by decide))
  exact (LowKept.siteCounts h).trans
    (.ite (.ite (.siteRecord _ _) (((ready _).trans (.siteRecord _ _)).trans (.mgmtFrame _ _ _ _ _ _))) (.sendReady _))

theorem LowKept.readyCheck (h : Hub) : LowKept h h.readyCheck :=
  (LowKept.siteCounts h).trans (.ite (.refl _) (.ite ((LowKept.set _ _ _ _ (by decide)).trans (.tellReady _)) (.refl _)))

theorem LowKept.setFabp (h : Hub) (n : Nat) (x : FabPort) : LowKept h (h.setFabp n x) := .of_reg fun _ => rfl

theorem LowKept.startCheck (h : Hub) : LowKept h h.startCheck := by
  have started : LowKept h { h with fab := { h.fab with startAt := some h.now } } := .of_reg (h.with_fab_reg _)
  refine .ite (.refl h) (started.trans (LowKept.trans (LowKept.each (fun n g => ?_) _ _) (.readyCheck _)))
  exact .ite ((LowKept.set _ _ _ _ (by decide)).trans (.setFabp _ _ _))
    (.ite (.ite (.setFabp _ _ _) ((LowKept.setFabp _ _ _).trans (.bump _ _ _ (by decide)))) (.ite (.refl g) (.set _ _ _ _ (by decide))))

theorem LowKept.joinCheck (h : Hub) : LowKept h h.joinCheck :=
  LowKept.trans (.ite (.set _ _ _ _ (by decide)) (.refl h)) ((LowKept.startCheck _).trans (.siteCounts _))

/-- The report of a delay touches no register. -/
theorem Hub.drep_reg (h : Hub) (n a : Nat) : (h.drep n).reg a = h.reg a := by
  unfold Hub.drep
  split
  · exact (Hub.sendL0_line h n 1 _).reg a
  · rfl

theorem LowKept.locked (h : Hub) : LowKept h h.locked := by
  have marked : LowKept h { h with time := { h.time with everLocked := true } } := .of_reg (h.with_time_reg _)
  exact marked.trans (LowKept.trans (.each (fun n g => .of_reg (g.drep_reg n)) _ _) (.joinCheck _))

/-! ## What an offset does -/

/-- Offsets in a row within 8/64 tick once one more has come (R44). -/
def Hub.goodAfter (h : Hub) (o : Int) : Nat := if -8 ≤ o ∧ o ≤ 8 then h.time.good + 1 else 0

/-- Offsets in a row beyond 2 ticks once one more has come (R45). -/
def Hub.badAfter (h : Hub) (o : Int) : Nat := if o < -128 ∨ 128 < o then h.time.bad + 1 else 0

theorem Hub.timeRec_get (h : Hub) (code data : Nat) {f : Fld} {i j : Nat} (low : f.addr i j < 0xF000) :
    (h.timeRec code data).get f i j = h.get f i j := (h.record_evsOnly (by decide) _).get f i j (.inl low)

/-- TIME_STAT.ERR shows the offset, saturated (Table 2-5). -/
theorem Hub.showErr_err (h : Hub) (o : Int) : (h.showErr o).get F.TIME_STAT_ERR = ofSigned 8 (clampInt (-128) 127 o) := by
  have fits : ofSigned 8 (clampInt (-128) 127 o) < 2 ^ 8 := by
    rw [ofSigned]
    omega
  exact (Hub.get_set_same h F.TIME_STAT_ERR _ 0 0 (by decide)).trans (Nat.mod_eq_of_lt fits)

theorem Hub.showErr_state (h : Hub) (o : Int) : (h.showErr o).get F.TIME_STAT_STATE = h.get F.TIME_STAT_STATE :=
  Hub.get_set_disj h (by decide) (.inr (by decide))

section

variable {h : Hub} (n : Nat) (o : Int)

theorem Hub.useOffset_flock (flock : h.get F.TIME_STAT_STATE = 2) : h.useOffset n o =
    if h.goodAfter o = 4 then
      (({ h.showErr o with time := { h.time with good := 0, bad := 0 } } : Hub).set F.TIME_STAT_STATE 3).locked
    else { h.showErr o with time := { h.time with good := h.goodAfter o } } := by
  have state : (h.showErr o).tmState = tmFLOCK := (h.showErr_state o).trans flock
  rw [Hub.useOffset, if_pos state]
  rfl

theorem Hub.useOffset_tlock (tlock : h.get F.TIME_STAT_STATE = 3) : h.useOffset n o =
    if h.badAfter o = 4 then ({ h.showErr o with time := { h.time with bad := h.badAfter o } } : Hub).stepTime n o
    else { h.showErr o with time := { h.time with bad := h.badAfter o, phase := h.time.phase + sgn o } } := by
  have state : (h.showErr o).tmState = tmTLOCK := (h.showErr_state o).trans tlock
  rw [Hub.useOffset, if_neg (by rw [state]; decide), if_pos state]
  rfl

/-- Elsewhere an offset is only shown. -/
theorem Hub.useOffset_other (notFlock : h.get F.TIME_STAT_STATE ≠ 2) (notTlock : h.get F.TIME_STAT_STATE ≠ 3) :
    h.useOffset n o = h.showErr o := by
  have state : (h.showErr o).tmState = h.get F.TIME_STAT_STATE := h.showErr_state o
  rw [Hub.useOffset, if_neg (state ▸ notFlock), if_neg (state ▸ notTlock)]

end

theorem Hub.with_time_get (h : Hub) (x : TimeSt) (f : Fld) (i j : Nat) : ({ h with time := x } : Hub).get f i j = h.get f i j := by
  rw [Hub.get, Hub.with_time_reg, ← Hub.get]

/-- The registers after a write are those before it, with the write. -/
theorem Hub.set_regs_congr {g h : Hub} (same : g.regs = h.regs) {f : Fld} {v i j : Nat} : (g.set f v i j).regs = (h.set f v i j).regs := by
  rw [Hub.set, Hub.set, Hub.reg_congr same, Hub.setReg, Hub.setReg, same]

theorem Hub.get_congr {g h : Hub} (same : g.regs = h.regs) {f : Fld} {i j : Nat} : g.get f i j = h.get f i j := by
  rw [Hub.get, Hub.get, Hub.reg_congr same]

theorem Hub.stepTime_get (h : Hub) (n : Nat) (o : Int) {f : Fld} {i j : Nat} (low : f.addr i j < 0xF000) :
    (h.stepTime n o).get f i j = ((h.set F.TIME_STAT_STEP 1).set F.TIME_STAT_STATE 2).get f i j := by
  simp only [Hub.stepTime, Hub.with_time_get, Hub.timeRec_get _ _ _ low]
  have raised {g : Hub} (same : g.regs = h.regs) : (g.raise F.TIME_STAT_STEP 1).regs = (h.set F.TIME_STAT_STEP 1).regs :=
    (Hub.mark_regs _ _ _ _).trans (Hub.set_regs_congr same)
  exact Hub.get_congr (Hub.set_regs_congr (raised rfl))

/-- A step leaves TLOCK with STEP set, and ridge time moved by the whole ticks of the offset (Table 2-1, R532). -/
theorem Hub.stepTime_shows (h : Hub) (n : Nat) (o : Int) : (h.stepTime n o).get F.TIME_STAT_STATE = 2 ∧
    (h.stepTime n o).get F.TIME_STAT_STEP = 1 ∧ (h.stepTime n o).get F.TIME_STAT_ERR = h.get F.TIME_STAT_ERR := by
  have keeps (g : Hub) {f : Fld} (above : 3 ≤ f.lo) : (g.set F.TIME_STAT_STATE 2).get f = g.get f :=
    Hub.get_set_disj g (by decide) (.inl above)
  refine ⟨?_, ?_, ?_⟩
  · rw [Hub.stepTime_get h n o (by decide), Hub.get_set_same _ _ _ _ _ (by decide)]
    rfl
  · rw [Hub.stepTime_get h n o (by decide), keeps _ (by decide), Hub.get_set_same _ _ _ _ _ (by decide)]
    rfl
  · rw [Hub.stepTime_get h n o (by decide), keeps _ (by decide)]
    exact Hub.get_set_disj h (by decide) (.inl (by decide))

theorem Hub.stepTime_ridge (h : Hub) (n : Nat) (o : Int) :
    (h.stepTime n o).time.ridge = BitVec.ofInt 64 ((h.time.ridge.toNat : Int) + o / 64) := by
  simp only [Hub.stepTime, Hub.timeRec, Hub.rec1_time]
  rfl

/-- Reaching TLOCK leaves TIME_STAT as it is set. -/
theorem Hub.locked_get (h : Hub) {f : Fld} {i j : Nat} (low : f.addr i j < 0x4000) : h.locked.get f i j = h.get f i j :=
  (LowKept.locked h).get low

section

variable (h : Hub) (n : Nat) (o : Int)

/-- The fourth offset in a row within 8/64 tick gives TLOCK (Table 2-1). -/
theorem Hub.useOffset_fourth (flock : h.get F.TIME_STAT_STATE = 2) (near : -8 ≤ o ∧ o ≤ 8) (third : h.time.good = 3) :
    (h.useOffset n o).get F.TIME_STAT_STATE = 3 := by
  have four : h.goodAfter o = 4 := by rw [Hub.goodAfter, if_pos near, third]
  rw [Hub.useOffset_flock n o flock, if_pos four, Hub.locked_get _ (by decide)]
  exact Hub.get_set_same _ F.TIME_STAT_STATE _ _ _ (by decide)

/-- Fewer offsets than four leave FLOCK, with their count kept. -/
theorem Hub.useOffset_counts (flock : h.get F.TIME_STAT_STATE = 2) (few : h.goodAfter o ≤ 3) :
    (h.useOffset n o).get F.TIME_STAT_STATE = 2 ∧ (h.useOffset n o).time.good = h.goodAfter o := by
  rw [Hub.useOffset_flock n o flock, if_neg (by omega)]
  exact ⟨(h.showErr_state o).trans flock, rfl⟩

/-- In TLOCK an offset within 2 ticks moves the phase by its sign (R45). -/
theorem Hub.useOffset_slews (tlock : h.get F.TIME_STAT_STATE = 3) (near : -128 ≤ o ∧ o ≤ 128) :
    h.useOffset n o = { h.showErr o with time := { h.time with bad := 0, phase := h.time.phase + sgn o } } := by
  have zero : h.badAfter o = 0 := if_neg (by omega)
  rw [Hub.useOffset_tlock n o tlock, zero]
  rfl

/-- The fourth larger offset in a row steps ridge time (Table 2-1, R532). -/
theorem Hub.useOffset_steps (tlock : h.get F.TIME_STAT_STATE = 3) (far : o < -128 ∨ 128 < o) (third : h.time.bad = 3) :
    h.useOffset n o = ({ h.showErr o with time := { h.time with bad := 4 } } : Hub).stepTime n o := by
  have four : h.badAfter o = 4 := by rw [Hub.badAfter, if_pos far, third]
  rw [Hub.useOffset_tlock n o tlock, four, if_pos rfl]

/-- Whatever else it does, an offset is shown in TIME_STAT.ERR. -/
theorem Hub.useOffset_err : (h.useOffset n o).get F.TIME_STAT_ERR = ofSigned 8 (clampInt (-128) 127 o) := by
  rw [← h.showErr_err o]
  by_cases flock : h.get F.TIME_STAT_STATE = 2
  · rw [Hub.useOffset_flock n o flock]
    split
    · exact (Hub.locked_get _ (by decide)).trans (Hub.get_set_disj _ (by decide) (.inl (by decide)))
    · rfl
  by_cases tlock : h.get F.TIME_STAT_STATE = 3
  · rw [Hub.useOffset_tlock n o tlock]
    split
    · obtain ⟨-, -, err⟩ := Hub.stepTime_shows { h.showErr o with time := { h.time with bad := h.badAfter o } } n o
      exact err
    · rfl
  · rw [Hub.useOffset_other n o flock tlock]

end

/-- Settles O14: each clause by the lemma about the event, or the offset, that it names. Which uplink counts as up (log entry 62) and how
acquisition starts again (log entry 17) are the model's choices. -/
theorem frequencyLockCommands : Obligations.FrequencyLockCommands := by
  refine ⟨fun h ha => ⟨?_, ?_, ?_, ?_, ?_, ?_⟩, fun h n o => ⟨?_, ?_, ?_, ?_, ?_, h.useOffset_err n o⟩,
    fun h ha => ⟨does_uplinkSignalDetect ha, does_frequencyLock ha, does_facqTimeout ha, does_lockSourceLost ha⟩⟩
  · intro n boot below on inService primary
    obtain ⟨g, time, regs, e⟩ := Hub.uplinkSignal_primary boot below on inService primary
    refine ⟨_, (does_uplinkSignalDetect ha n).of_eq e, Hub.acquire_state _ _, rfl, ?_, rfl, rfl, ?_⟩
    · rw [Hub.acquire_time, Hub.now, time]
    · intro a other
      rw [Hub.acquire_reg (by simpa using other), Hub.with_time_reg, regs]
  · exact fun acquiring => (does_frequencyLock ha).of_eq (Hub.when_pos acquiring)
  · exact fun t acquiring start due failed => (does_facqTimeout ha).of_eq (Hub.facqTimeout_again acquiring start due failed)
  · intro t acquiring start due failed
    refine ⟨_, (does_facqTimeout ha).of_eq (Hub.facqTimeout_third acquiring start due failed), Hub.acquire_state _ _, ?_, ?_⟩
    · rw [Hub.acquire_time, Hub.fault0_time]
    · rw [Hub.acquire_time, Hub.now, Hub.fault0_time]
  · exact fun locked alone => (does_lockSourceLost ha).of_eq (Hub.lockSourceLost_hold locked alone)
  · exact fun m locked other differs active => (does_lockSourceLost ha).of_eq (Hub.lockSourceLost_other locked other differs active)
  · exact fun flock lo hi third => h.useOffset_fourth n o flock ⟨lo, hi⟩ third
  · intro flock few
    refine (h.useOffset_counts n o flock ?_).1
    rw [Hub.goodAfter]
    split <;> omega
  · intro flock far
    have zero : h.goodAfter o = 0 := if_neg (by omega)
    exact (h.useOffset_counts n o flock (by omega)).2.trans zero
  · intro tlock lo hi
    rw [h.useOffset_slews n o tlock ⟨lo, hi⟩]
    exact ⟨rfl, rfl, rfl⟩
  · intro tlock far third
    rw [h.useOffset_steps n o tlock far third]
    obtain ⟨state, step, -⟩ := Hub.stepTime_shows { h.showErr o with time := { h.time with bad := 4 } } n o
    exact ⟨state, step, Hub.stepTime_ridge _ n o⟩

end Sys2Proof.Machine
end


section
/-! Time blocks sent and received (R43, R44, R84). -/

namespace Sys2Proof.Machine

/-! ## The commands -/

section

variable {h : Hub} (ha : h.awake)

include ha

theorem does_tsyncSend (n : PortId) (frac : Fin 64) : Does (.tsyncSend n frac) h (h.tsyncSend n frac) :=
  does_of_run ha (·.tsyncSend n frac) (exec_tsyncSend n frac)

theorem does_dreqSend (n : PortId) (frac : Fin 64) : Does (.dreqSend n frac) h (h.dreqSend n frac) :=
  does_of_run ha (·.dreqSend n frac) (exec_dreqSend n frac)

theorem does_dreqReceive (n : PortId) (k : Blk) (res : BitVec 24) : Does (.dreqReceive n k res) h (h.dreqReceive n k res.toNat) :=
  does_of_run ha (·.dreqReceive n k res.toNat) (exec_dreqReceive n k res)

theorem does_drspReceive (n : PortId) (k : Blk) (frac : Fin 64) : Does (.drspReceive n k frac) h (h.drspReceive n k frac) :=
  does_of_run ha (·.drspReceive n k frac) (exec_drspReceive n k frac)

theorem does_tepochReceive (n : PortId) (k : Blk) : Does (.tepochReceive n k) h (h.tepochReceive n k) :=
  does_of_run ha (·.tepochReceive n k) (exec_tepochReceive n k)

theorem does_tsyncReceive (n : PortId) (k : Blk) (frac : Fin 64) : Does (.tsyncReceive n k frac) h (h.tsyncReceive n k frac) :=
  does_of_run ha (·.tsyncReceive n k frac) (exec_tsyncReceive n k frac)

end

/-- A block that passes the block-type check of R43 has the subkind that it shows. -/
theorem isTime_of {k : Blk} {subkind : Nat} (type : k.btype = btTime) (shown : k.time 0 1 = subkind) : k.isTime subkind = true := by
  rw [Blk.isTime, type, shown, beq_self_eq_true, beq_self_eq_true, Bool.true_and]

section

variable {h : Hub} {n : Nat} (active : h.get F.PORT_LSTAT_STATE n = 7)

include active

/-! ## Sending -/

/-- A TSYNC is due at a parent every 8,192 ticks; a TEPOCH follows every eighth (R43). -/
theorem Hub.tsyncSend_due {frac : Nat} (parent : h.isChild n = false)
    (due : ∀ t, (h.tp n).lastTsync = some t → t + 8192 ≤ h.now) : h.tsyncSend n frac =
      let g := (h.sendL0 n 1 (timeTsync frac h.ridge)).setTp n
        { h.tp n with sent := (h.tp n).sent + 1, lastTsync := some (h.sendL0 n 1 (timeTsync frac h.ridge)).now }
      if ((h.tp n).sent + 1) % 8 = 0 then g.sendL0 n 1 (timeTepoch h.ridge) else g := by
  have isDue : (h.tp n).lastTsync.isNone ∨ h.due ((h.tp n).lastTsync.map (· + 8192)) := by
    cases last : (h.tp n).lastTsync with
    | none => exact .inl rfl
    | some t => exact .inr (decide_eq_true (due t last))
  have notChild : ¬ h.isChild n := by
    rw [parent]
    exact Bool.false_ne_true
  rw [Hub.tsyncSend, Hub.when_pos ⟨Hub.active_of active, notChild, isDue⟩]

/-- A delay request is due at a child, in FLOCK and TLOCK, after the gap of the state (R43). -/
theorem Hub.dreqSend_due {frac gap : Nat} (child : h.isChild n = true)
    (state : h.tmState = tmFLOCK ∧ gap = 8192 ∨ h.tmState = tmTLOCK ∧ gap = 65536)
    (due : ∀ t, (h.tp n).lastDreq = some t → t + gap ≤ h.now) : h.dreqSend n frac =
      (h.sendL0 n 1 (timeDreq (h.tp n).nextId)).setTp n { h.tp n with
        lastDreq := some (h.sendL0 n 1 (timeDreq (h.tp n).nextId)).now, nextId := ((h.tp n).nextId + 1) % 64,
        ex := some { id := (h.tp n).nextId, t1 := (h.sendL0 n 1 (timeDreq (h.tp n).nextId)).stamp frac } } := by
  have gapOf : (if h.tmState = tmFLOCK then 8192 else 65536) = gap := by
    rcases state with ⟨flock, rfl⟩ | ⟨tlock, rfl⟩
    · rw [if_pos flock]
    · rw [if_neg (by rw [tlock]; decide)]
  have isDue : (h.tp n).lastDreq.isNone ∨ h.due ((h.tp n).lastDreq.map (· + gap)) := by
    cases last : (h.tp n).lastDreq with
    | none => exact .inl rfl
    | some t => exact .inr (decide_eq_true (due t last))
  simp only [Hub.dreqSend, gapOf]
  exact Hub.when_pos ⟨Hub.active_of active, child, state.imp And.left And.left, isDue⟩

/-! ## Receiving -/

variable {k : Blk}

/-- A block whose type is not that of time blocks is counted and discarded (R43). -/
theorem Hub.tsyncReceive_bad {frac : Nat} (bad : k.btype ≠ btTime) : h.tsyncReceive n k frac = h.bump F.PORT_TDLY_BADCNT n := by
  rw [Hub.tsyncReceive, Hub.when_pos (Hub.active_of active)]
  exact if_pos bad

variable (type : k.btype = btTime)

include type

/-- The parent answers a delay request with its residence (R43). -/
theorem Hub.dreqReceive_answers {res : Nat} (request : k.time 0 1 = 1) (parent : h.isChild n = false) :
    h.dreqReceive n k res = h.sendL0 n 1 (timeDrsp (k.time 2 7) res) := by
  rw [Hub.dreqReceive, Hub.when_pos (Hub.active_of active), if_neg (not_not.mpr type)]
  exact if_pos ⟨isTime_of type request, by rw [parent]; exact Bool.false_ne_true⟩

/-- A TEPOCH on an uplink gives the high bits of the TSYNC before it (R44). -/
theorem Hub.tepochReceive_taken (epoch : k.time 0 1 = 3) (uplink : h.isUplink n = true) : h.tepochReceive n k =
    (h.setTp n { h.tp n with epoch := some (k.time 8 23, ((h.tp n).sync.map (·.1)).getD 0) }).tryLoad n := by
  rw [Hub.tepochReceive, Hub.when_pos (Hub.active_of active), if_neg (not_not.mpr type)]
  exact if_pos ⟨isTime_of type epoch, uplink⟩

/-- A TSYNC on an uplink that is no lock source has its stamps kept (R44). -/
theorem Hub.tsyncReceive_kept {frac : Nat} (tsync : k.time 0 1 = 0) (uplink : h.isUplink n = true)
    (noSource : h.get F.TIME_STAT_SRCVALID = 0) (noEpoch : (h.tp n).epoch = none) : h.tsyncReceive n k frac =
      h.setTp n { h.tp n with sync := some (k.time 8 55, k.time 2 7, h.stamp frac) } := by
  have source : ¬ (h.flag F.TIME_STAT_SRCVALID ∧ h.get F.TIME_STAT_SRCPORT = n) := by
    rw [Hub.flag_zero noSource]
    exact fun both => Bool.false_ne_true both.1
  rw [Hub.tsyncReceive, Hub.when_pos (Hub.active_of active), if_neg (not_not.mpr type),
    if_pos ⟨isTime_of type tsync, uplink⟩]
  simp only [noEpoch]
  exact if_neg source

/-- A delay response to the present request ends the exchange: twice the mean delay is kept and the delay shown (R44). -/
theorem Hub.drspReceive_measures {frac : Nat} {e : DelayEx} (response : k.time 0 1 = 2) (child : h.isChild n = true)
    (asked : (h.tp n).ex = some e) (answer : e.id = k.time 2 7) : h.drspReceive n k frac =
      let m := h.stamp frac - e.t1 - (k.time 8 31 : Nat)
      let g := h.setTp n { h.tp n with ex := none, mean2 := some m }
      let g := ((g.set F.PORT_TDLY_DLY (clampInt 0 (2 ^ 24 - 1) (half m)).toNat n).set F.PORT_TDLY_VALID 1 n).lkTmo n
      (if g.tmState = tmTLOCK ∧ (h.tp n).drep ≠ some (g.dl n) then g.drep n else g).tryLoad n := by
  rw [Hub.drspReceive, Hub.when_pos (Hub.active_of active), if_neg (not_not.mpr type)]
  simp only [asked]
  exact if_pos ⟨isTime_of type response, child, answer⟩

end

/-! ## A measured delay stays -/

/-- Twice the mean delay of a port is known as `m`, no exchange is in progress, and the delay is shown. -/
def Measured (n : Nat) (m : Int) (g : Hub) : Prop := (g.tp n).mean2 = some m ∧ (g.tp n).ex = none ∧ g.get F.PORT_TDLY_VALID n = 1

/-- What a delay response leaves in the port's exchange and its delay register. -/
theorem Measured.start (h : Hub) (n : Nat) (m : Int) (d : Nat) :
    Measured n m (((h.setTp n { h.tp n with ex := none, mean2 := some m }).set F.PORT_TDLY_DLY d n).set F.PORT_TDLY_VALID 1 n) := by
  refine ⟨?_, ?_, Hub.get_set_same _ F.PORT_TDLY_VALID 1 n 0 (by decide)⟩
  · rw [Hub.set_tp, Hub.set_tp, Hub.tp_setTp]
  · rw [Hub.set_tp, Hub.set_tp, Hub.tp_setTp]

theorem Measured.set {n : Nat} {m : Int} {g : Hub} (known : Measured n m g) {f : Fld} {v i j : Nat}
    (other : F.PORT_TDLY_VALID.addr n 0 ≠ f.addr i j) : Measured n m (g.set f v i j) := by
  obtain ⟨mean2, ex, valid⟩ := known
  exact ⟨mean2, ex, (Hub.get_set_ne g other).trans valid⟩

theorem Measured.setTime {n : Nat} {m : Int} {g : Hub} (known : Measured n m g) (x : TimeSt) : Measured n m { g with time := x } := known

theorem Measured.setTp {n : Nat} {m : Int} {g : Hub} (known : Measured n m g) {x : TimePort} (mean2 : x.mean2 = (g.tp n).mean2)
    (ex : x.ex = (g.tp n).ex) : Measured n m (g.setTp n x) := by
  obtain ⟨known2, knownEx, valid⟩ := known
  rw [Measured, Hub.tp_setTp, mean2, ex]
  exact ⟨known2, knownEx, valid⟩

theorem Measured.sendL0 {n : Nat} {m : Int} {g : Hub} (known : Measured n m g) (b : Blk) : Measured n m (g.sendL0 n 1 b) := by
  rwa [Measured, Hub.tp, Hub.sendL0_tport, ← Hub.tp, Hub.sendL0_get]

theorem Measured.lkTmo {n : Nat} {m : Int} {g : Hub} (known : Measured n m g) : Measured n m (g.lkTmo n) :=
  (known.set (f := F.PORT_LKTMO_UNACKHI) (Fld.addr_ne n 0 rfl rfl (by decide))).set (f := F.PORT_LKTMO_RPLTMO)
    (Fld.addr_ne n 0 rfl rfl (by decide))

theorem Measured.drep {n : Nat} {m : Int} {g : Hub} (known : Measured n m g) : Measured n m (g.drep n) := by
  have sent := known.sendL0 (lmgtBlk lmDREP 0 0 0 (g.dl n) 0)
  have same : (g.sendL0 n 1 (lmgtBlk lmDREP 0 0 0 (g.dl n) 0)).tp n = g.tp n := by rw [Hub.tp, Hub.sendL0_tport, ← Hub.tp]
  unfold Hub.drep
  split
  · exact sent.setTp (by rw [same]) (by rw [same])
  · exact known

theorem Measured.showErr {n : Nat} {m : Int} {g : Hub} (known : Measured n m g) (o : Int) : Measured n m (g.showErr o) := by
  apply known.set
  simp only [Fld.addr, F.PORT_TDLY_VALID, F.TIME_STAT_ERR]
  omega

theorem Measured.tryLoad {n : Nat} {m : Int} {g : Hub} (known : Measured n m g) : Measured n m (g.tryLoad n) := by
  unfold Hub.tryLoad
  split
  · split
    · exact known
    next o _ =>
      have applied (keep : Bool) : Measured n m (if keep then g.showErr o else (g.showErr o).applyOffset o) := by
        cases keep with
        | false => exact (known.showErr o).setTime _
        | true => exact known.showErr o
      refine Measured.setTime (Measured.setTp (applied _) ?_ ?_) _
      · rfl
      · rfl
  · exact known

/-- Settles O15: each clause by the lemma about the block that it names. That time blocks need lanes ACTIVE is log entry 16. -/
theorem timeBlockCommands : Obligations.TimeBlockCommands := by
  refine ⟨fun h ha n active => ⟨fun f parent due => ⟨fun within => ?_, fun eighth => ?_⟩, ?_, ?_, ?_, ?_, ?_, ?_, ?_⟩,
    fun h ha => ⟨does_tsyncSend ha, does_dreqSend ha, does_dreqReceive ha, does_drspReceive ha, does_tepochReceive ha, does_tsyncReceive ha⟩⟩
  · refine (does_tsyncSend ha n f).of_eq ((Hub.tsyncSend_due active parent due).trans ?_)
    rw [Hub.now, Hub.sendL0_time]
    exact if_neg within
  · refine (does_tsyncSend ha n f).of_eq ((Hub.tsyncSend_due active parent due).trans ?_)
    rw [Hub.now, Hub.sendL0_time]
    exact if_pos eighth
  · intro f child flock due
    refine (does_dreqSend ha n f).of_eq ((Hub.dreqSend_due active child (.inl ⟨flock, rfl⟩) due).trans ?_)
    rw [Hub.now, Hub.stamp, Hub.ridge, Hub.sendL0_time]
  · intro f child tlock due
    refine (does_dreqSend ha n f).of_eq ((Hub.dreqSend_due active child (.inr ⟨tlock, rfl⟩) due).trans ?_)
    rw [Hub.now, Hub.stamp, Hub.ridge, Hub.sendL0_time]
  · exact fun k res type request parent => (does_dreqReceive ha n k res).of_eq (Hub.dreqReceive_answers active type request parent)
  · intro k f e type response child asked answer
    have measured : Measured n (h.stamp f - e.t1 - (k.time 8 31 : Nat)) (h.drspReceive n k f) := by
      rw [Hub.drspReceive_measures active type response child asked answer]
      refine Measured.tryLoad ?_
      split
      · exact (Measured.start h n _ _).lkTmo.drep
      · exact (Measured.start h n _ _).lkTmo
    exact ⟨_, does_drspReceive ha n k f, measured⟩
  · exact fun k type epoch uplink => (does_tepochReceive ha n k).of_eq (Hub.tepochReceive_taken active type epoch uplink)
  · exact fun k f bad => (does_tsyncReceive ha n k f).of_eq (Hub.tsyncReceive_bad active bad)
  · exact fun k f type tsync uplink noSource noEpoch => (does_tsyncReceive ha n k f).of_eq (Hub.tsyncReceive_kept active type tsync uplink noSource noEpoch)

end Sys2Proof.Machine
end


section
/-! Chip resets, the watchdog, the register lock and the mailbox (R55, R464, R465, R483, R485, R490). -/

namespace Sys2Proof.Machine

/-! ## The loss of VAON -/

/-- With VAON gone nothing is powered, and neither registers nor owners nor what boot has done are left (R490). -/
theorem Hub.vaonLoss_parts {h : Hub} (on : h.pwr.off = false) : h.vaonLoss.pwr.off = true ∧ h.vaonLoss.pwr.asleep = true ∧
    h.vaonLoss.regs = [] ∧ h.vaonLoss.owners = [] ∧ h.vaonLoss.boot = {} := by
  have powered : ¬ h.pwr.off := by
    rw [on]
    exact Bool.false_ne_true
  rw [Hub.vaonLoss, Hub.when_pos powered]
  exact ⟨rfl, rfl, rfl, rfl, rfl⟩

/-! ## The watchdog and CHIPRST -/

section

variable {h : Hub} (otp : Tab Nat) (straps : Nat)

theorem Hub.watchdog_expired (on : h.get F.GLB_WDT_EN = 1) (due : h.boot.wdtAt + 2000000 * h.get F.GLB_WDT_TMO ≤ h.now) :
    h.watchdog otp straps = h.chipReset .watchdog otp straps := Hub.when_pos ⟨Hub.flag_one on, due⟩

theorem Hub.watchdog_off (off : h.get F.GLB_WDT_EN = 0) : h.watchdog otp straps = h := by
  refine Hub.when_neg fun premise => ?_
  rw [Hub.flag_zero off] at premise
  exact Bool.false_ne_true premise.1

variable {p : Path} {v : Word} (free : h.pathLimit p = none)

include free

theorem Hub.chipRst_resets (rst : v.bits 29 1 = 1) : h.chipRst otp p v straps = h.chipReset .chip otp straps := by
  rw [Hub.chipRst, Hub.when_pos ⟨Option.isNone_iff_eq_none.mpr free, rst⟩, Hub.wdtWrite, if_pos rst]

/-- A kick writes the register and starts the count anew. -/
theorem Hub.kick_restarts (kicks : v.bits 30 1 = 1) (noReset : v.bits 29 1 = 0) : h.kick p v =
    let g := h.wr (F.GLB_WDT_EN.addr 0 0) v
    { g with boot := { g.boot with wdtAt := g.now } } := by
  rw [Hub.kick, Hub.when_pos ⟨Option.isNone_iff_eq_none.mpr free, kicks, noReset⟩, Hub.wdtWrite, if_neg (by rw [noReset]; decide)]
  exact if_pos (.inl kicks)

end

/-- A write of a register leaves the time state. -/
theorem Hub.wr_time (h : Hub) (a : Nat) (v : Word) (skip : List Nat) : (h.wr a v skip).time = h.time := by
  unfold Hub.wr
  split
  · rfl
  · rfl

/-! ## The mailbox -/

section

variable (h : Hub) (v : Word)

theorem Hub.h2m_mgmt : h.h2m .mgmt v = h.set F.MGMT_H2M_MSG v.toNat := by
  simp only [Hub.h2m, if_true]

theorem Hub.h2m_other {p : Path} (other : p ≠ .mgmt) : h.h2m p v = (h.set F.MGMT_H2M_MSG v.toNat).mirq 0 := if_neg other

theorem Hub.m2h_vector (on : h.get F.MGMT_IRQ_EN = 1) :
    h.m2h .mgmt v = (h.set F.MGMT_M2H_MSG v.toNat).vector (h.get F.MGMT_IRQ_VEC) := by
  have irq (f : Fld) (differs : f.addr 0 0 ≠ F.MGMT_M2H_MSG.addr 0 0) : (h.set F.MGMT_M2H_MSG v.toNat).get f = h.get f :=
    Hub.get_set_ne h differs
  have enabled : (h.set F.MGMT_M2H_MSG v.toNat).flag F.MGMT_IRQ_EN := Hub.flag_one ((irq _ (by decide)).trans on)
  rw [Hub.m2h, if_pos ⟨rfl, enabled⟩, irq _ (by decide)]

theorem Hub.m2h_quiet {p : Path} (quiet : p ≠ .mgmt ∨ h.get F.MGMT_IRQ_EN = 0) : h.m2h p v = h.set F.MGMT_M2H_MSG v.toNat := by
  have same : (h.set F.MGMT_M2H_MSG v.toNat).get F.MGMT_IRQ_EN = h.get F.MGMT_IRQ_EN := Hub.get_set_ne h (by decide)
  refine if_neg fun sends => ?_
  rcases quiet with other | off
  · exact other sends.1
  · rw [Hub.flag_zero (same.trans off)] at sends
    exact Bool.false_ne_true sends.2

theorem Hub.mirq_irqs {k : Nat} (new : h.boot.irqs.contains k = false) : (h.mirq k).boot.irqs = h.boot.irqs ++ [k] :=
  if_neg (by rw [new]; exact Bool.false_ne_true)

end

/-- A limited path's write is not taken. -/
theorem Hub.when_limit {h : Hub} {p : Path} (limited : h.pathLimit p ≠ none) (f : Hub → Hub) :
    h.when ((h.pathLimit p).isNone) f = h := Hub.when_neg fun free => limited (Option.isNone_iff_eq_none.mp free)

section

variable {h : Hub} (ha : h.awake) (hw : h.led.wiped = false) (p : Path)

include ha hw

theorem does_glbLockSet : Does (.glbLockSet p) h (h.when ((h.pathLimit p).isNone) (fun h => h.set F.GLB_LOCK_LOCK 1)) :=
  does_of_runW ha (fun h => h.when ((h.pathLimit p).isNone) (fun h => h.set F.GLB_LOCK_LOCK 1)) (exec_glbLockSet p) hw

theorem does_mgmtH2mWrite (v : Word) : Does (.mgmtH2mWrite p v) h (h.when ((h.pathLimit p).isNone) (fun h => h.h2m p v)) :=
  does_of_runW ha (fun h => h.when ((h.pathLimit p).isNone) (fun h => h.h2m p v)) (exec_mgmtH2mWrite p v) hw

theorem does_watchdogKick (v : Word) : Does (.watchdogKick p v) h (h.kick p v) :=
  does_of_runW ha (·.kick p v) (exec_watchdogKick p v) hw

theorem does_mgmtM2hWrite (v : Word) : Does (.mgmtM2hWrite p v) h (h.when ((h.pathLimit p).isNone) (fun h => h.m2h p v)) :=
  does_of_runW ha (fun h => h.when ((h.pathLimit p).isNone) (fun h => h.m2h p v)) (exec_mgmtM2hWrite p v) hw

end

/-- Settles O55: the writes of a tick with a chip reset all run under `runW`, which discards them; the rest clause by clause. -/
theorem chipResetCommands : Obligations.ChipResetCommands := by
  refine ⟨fun h st o q straps => ⟨?_, ?_, ?_, ?_, fun ha => ⟨?_, ?_, ?_, ?_⟩⟩, fun h ha p => ⟨?_, ?_, ?_, ?_, ?_, ?_, h.mirq_irqs⟩,
    fun h => ⟨fun ha straps o => ?_, fun ha hw => ⟨?_, ?_, ?_, ?_, ?_⟩, ⟨fun _ _ _ _ => rfl, fun _ _ _ _ => rfl, fun _ _ _ => rfl⟩⟩⟩
  · intro wiped s e
    have wiped : s.hub.led.wiped = true := by
      rw [e]
      exact wiped
    simp only [exec_sscWrite, exec_load, exec_palign, exec_compareTargetWrite, exec_portLctlEnWrite, exec_retrain, exec_loopbackSelect,
      exec_retireForce, exec_retireClear, exec_turnRequest, exec_tunnelOpen, exec_tunnelClose, exec_flowCacheFlush, exec_minWrite,
      exec_quotaWrite, exec_gateCommit, exec_gateAbort, exec_gateDisable, exec_shaperWrite, exec_meterWrite, exec_allotmentWrite,
      exec_budgetWrite, exec_doorbell, exec_mgmtDoorbell, exec_arm, exec_mgmtArm, exec_ringEnable, exec_ringReset, exec_cfgrdySet,
      exec_sliceBindWrite, exec_ownerWrite, exec_sliceReset, exec_windowEnable, exec_windowClose, exec_pipeEnable, exec_pipeDisable,
      exec_endpointEnable, exec_clrhalt, exec_penWrite, exec_busReset, exec_usbSuspend, exec_usbResume, exec_powerPathEnable,
      exec_calibrationStart, exec_ptvWrite, exec_reneg, exec_cccmdStatus, exec_cccmdAlert, exec_cccmdSwap, exec_cccmdHardreset,
      exec_roleWrite, exec_evoteWrite, exec_standbyEntry, exec_vreqWrite, exec_pmbcfgEnWrite, exec_streamFlush, exec_streamEnable,
      exec_producerWrite, exec_cairnDeclare, exec_cairnDone, exec_watchdogKick, exec_chiprst, exec_hostLoadData, exec_hostLoadGo,
      exec_otpProgram, exec_otpRead, exec_glbLockSet, exec_mgmtH2mWrite, exec_mgmtM2hWrite, runW_wiped wiped,
      implies_true, and_self]
  · intro off
    rw [exec_powerOnReset, runAny_next, Hub.powerOn, Hub.when_pos off]
  · intro on
    rw [exec_pinReset, runAny_next, Hub.pinReset, Hub.when_pos (by rw [on]; exact Bool.false_ne_true)]
  · intro on
    exact ⟨h.vaonLoss, by rw [exec_vaonLoss, runAny_next], Hub.vaonLoss_parts on⟩
  · rintro t rfl on due
    rw [← Hub.watchdog_expired o.bits straps.toNat on due]
    exact doesOtp_of_runO ha (exec_watchdogExpiry straps) o
  · intro off
    simpa only [Hub.watchdog_off o.bits straps.toNat off] using doesOtp_of_runO ha (exec_watchdogExpiry straps) o
  · intro hw p v free rst
    rw [← Hub.chipRst_resets o.bits straps.toNat free rst]
    exact doesOtp_of_runW ha (exec_chiprst p v straps) hw o
  · intro hw p v free kicks noReset
    refine (does_watchdogKick ha hw p v).of_eq ((Hub.kick_restarts free kicks noReset).trans ?_)
    simp only [Hub.now, Hub.wr_time]
  · exact fun hw free => (does_glbLockSet ha hw p).of_eq (Hub.when_noLimit free _)
  · exact fun hw limited => (does_glbLockSet ha hw p).of_eq (Hub.when_limit limited _)
  · exact fun hw v free other => (does_mgmtH2mWrite ha hw p v).of_eq
      ((Hub.when_noLimit free _).trans (h.h2m_other v other))
  · exact fun hw v => (does_mgmtH2mWrite ha hw .mgmt v).of_eq ((Hub.when_noLimit rfl _).trans (h.h2m_mgmt v))
  · exact fun hw v on => (does_mgmtM2hWrite ha hw .mgmt v).of_eq ((Hub.when_noLimit rfl _).trans (h.m2h_vector v on))
  · exact fun hw v free quiet => (does_mgmtM2hWrite ha hw p v).of_eq
      ((Hub.when_noLimit free _).trans (h.m2h_quiet v quiet))
  · exact doesOtp_of_runO ha (exec_watchdogExpiry straps) o
  · exact fun p v => does_watchdogKick ha hw p v
  · exact fun p v straps o => doesOtp_of_runW ha (exec_chiprst p v straps) hw o
  · exact does_glbLockSet ha hw
  · exact does_mgmtH2mWrite ha hw
  · exact does_mgmtM2hWrite ha hw

end Sys2Proof.Machine
end

section
/-! The lanes of a port: premises by value, and blocks that a lane hears (R64, R65). -/

namespace Sys2Proof.Machine

section

variable {h : Hub} {n : Nat}

theorem Hub.not_flag {f : Fld} {i j : Nat} (e : h.get f i j = 0) : ¬ h.flag f i j := ne_true_of_eq_false (Hub.flag_zero e)

theorem Hub.not_active {s : Nat} (state : h.get F.PORT_LSTAT_STATE n = s) (other : s ≠ 7) : ¬ h.active n := by
  rw [Hub.active, state]
  exact fun e => other (beq_iff_eq.mp e)

/-- A block that a lane hears touches its descrambler alone. -/
@[simp] theorem Hub.heard_lane (m : Nat) (k : Blk) :
    (h.heard n m k).lane n = { h.lane n with des := Tab.set 0 (h.lane n).des m (scramble (Tab.get 0 (h.lane n).des m) k).2 } :=
  h.lane_setLane n _

/-! ## Lane management blocks -/

variable {m kind : Nat} {k : Blk} {f : Hub → Hub}

theorem Hub.withLmgt_taken (type : k.isA btLmgt = true) (isKind : k.lmKind = kind) (active : h.get F.PORT_LSTAT_STATE n = 7) :
    h.withLmgt n m k kind f = f (h.heard n m k) := (if_pos type).trans (Hub.when_pos ⟨isKind, Hub.active_of active⟩)

/-- A block that is not a good LMGT block is counted on its lane (R65). -/
theorem Hub.withLmgt_bad (bad : k.isA btLmgt = false) : h.withLmgt n m k kind f = (h.heard n m k).shErr n m 1 :=
  if_neg (ne_true_of_eq_false bad)

end

end Sys2Proof.Machine
end

section
/-! Enabling, retraining and loopbacks of a port (R70, R77, R78, R90, R91). -/

namespace Sys2Proof.Machine

/-! ## The commands -/

section

variable {h : Hub} (ha : h.awake)

include ha

theorem does_signalDetect (n : PortId) (m : LaneId) : Does (.signalDetect n m) h (h.signalDetect n m) :=
  does_of_run ha (·.signalDetect n m) (exec_signalDetect n m)

theorem does_faultRetry (n : PortId) : Does (.faultRetry n) h (h.faultRetry n) :=
  does_of_run ha (·.faultRetry n) (exec_faultRetry n)

theorem does_lbkEnterReceive (n : PortId) (m : LaneId) (k : Blk) : Does (.lbkEnterReceive n ⟨m, k⟩) h (h.lbkEnter n m k) :=
  does_of_run ha (·.lbkEnter n m k) (exec_lbkEnterReceive n m k)

theorem does_lbkExitReceive (n : PortId) (m : LaneId) (k : Blk) : Does (.lbkExitReceive n ⟨m, k⟩) h (h.lbkExit n m k) :=
  does_of_run ha (·.lbkExit n m k) (exec_lbkExitReceive n m k)

theorem does_loopbackTimeout (n : PortId) : Does (.loopbackTimeout n) h (h.loopbackTimeout n) :=
  does_of_run ha (·.loopbackTimeout n) (exec_loopbackTimeout n)

variable (hw : h.led.wiped = false)

include hw

theorem does_portLctlEnWrite (n : PortId) (en : Bool) : Does (.portLctlEnWrite n en) h (h.lctlEn n en) :=
  does_of_runW ha (·.lctlEn n en) (exec_portLctlEnWrite n en) hw

theorem does_retrain (n : PortId) : Does (.retrain n) h (h.retrain n) :=
  does_of_runW ha (·.retrain n) (exec_retrain n) hw

theorem does_loopbackSelect (n : PortId) (l : Fin 4) : Does (.loopbackSelect n l) h (h.loopback n l) :=
  does_of_runW ha (·.loopback n l) (exec_loopbackSelect n l) hw

end

/-! ## Enabling -/

section

variable {h : Hub} {n : Nat}

/-- Enabling clears the retirement mask and what failed attempts have left (R70, R76, R81). -/
theorem Hub.lctlEn_on (off : h.get F.PORT_LCTL_EN n = 0) (inUse : h.role n ≠ 5) : h.lctlEn n true =
    (((h.set F.PORT_LCTL_EN 1 n).clearRetire n).setLane n
      { h.lane n with ceil := 2, single := none, multi := none, nrz := 0, failed := false }).tryDetect n := by
  simp only [Hub.lctlEn, if_true, Hub.when_pos (And.intro (Hub.not_flag off) inUse), Hub.clearRetire, Hub.set_lane]

theorem Hub.lctlEn_off (on : h.get F.PORT_LCTL_EN n = 1) : h.lctlEn n false =
    (h.set F.PORT_LCTL_EN 0 n).leaveActive n causeLanes (fun g => (g.flush n).toDisabled n) := by
  rw [Hub.lctlEn, if_neg Bool.false_ne_true, Hub.when_pos (Hub.flag_one on)]

end

/-! ## Leaving ACTIVE -/

section

variable {h : Hub} {n c : Nat} {f : Hub → Hub}

theorem Hub.leaveActive_still (still : (h.lane n).turn = none) (noRequest : ((f (h.linkDown n c)).lane n).waiting = false) :
    h.leaveActive n c f = f (h.linkDown n c) := by
  simp only [Hub.leaveActive, still, Option.isSome_none, Bool.false_eq_true, if_false, noRequest]

/-- A turn in flight is abandoned, and a request that waited for it is evaluated (R21, R88). -/
theorem Hub.leaveActive_turning (turning : (h.lane n).turn ≠ none)
    (request : ((f ((h.turnEnd n 3).linkDown n c)).lane n).waiting = true) :
    h.leaveActive n c f = (f ((h.turnEnd n 3).linkDown n c)).evalReq n := by
  simp only [Hub.leaveActive, Option.isSome_iff_ne_none.mpr turning, if_true, request]

end

/-! ## Loopbacks -/

section

variable {h : Hub} {n : Nat}

/-- A write of PORT_LCTL.LBK leaves every other register of the port. -/
theorem Hub.get_set_lbk (h : Hub) (l n : Nat) {f : Fld} (s1 : f.s1 = 0x1000) (s2 : f.s2 = 0) (other : f.base ≠ 0x10000) :
    (h.set F.PORT_LCTL_LBK l n).get f n = h.get f n := Hub.get_set_elem h s1 s2 other

/-- From ACTIVE a loopback at this end is entered; far-end, the partner is asked for it (R90). -/
theorem Hub.loopback_enters {l : Nat} (chosen : l ≠ 0) (mode : l = 3 → h.get F.PORT_LMODE_CUR n = 0)
    (active : h.get F.PORT_LSTAT_STATE n = 7) : h.loopback n l =
      (if l = 3 then (h.set F.PORT_LCTL_LBK l n).sendL0 n 3 (lbkBlk true) else h.set F.PORT_LCTL_LBK l n).toLoopback n l false := by
  have still : (h.set F.PORT_LCTL_LBK l n).active n = true := Hub.active_of ((Hub.get_set_lbk h l n rfl rfl (by decide)).trans active)
  rw [Hub.loopback, if_neg fun both => both.2 (mode both.1)]
  exact (if_neg chosen).trans (if_pos still)

/-- Far-end loopback is for mode 0 alone (R90). -/
theorem Hub.loopback_refused (mode : h.get F.PORT_LMODE_CUR n ≠ 0) : h.loopback n 3 = h := if_pos ⟨rfl, mode⟩

/-- LBK 0 ends a loopback that this end began; the partner of a far-end one is told (R90). -/
theorem Hub.loopback_ends (looped : h.get F.PORT_LSTAT_STATE n = 8) (own : (h.lane n).retime = false) : h.loopback n 0 =
    (if h.get F.PORT_LCTL_LBK n = 3 then (h.set F.PORT_LCTL_LBK 0 n).sendL0 n 3 (lbkBlk false)
      else h.set F.PORT_LCTL_LBK 0 n).toDetect n :=
  if_pos (c := (h.set F.PORT_LCTL_LBK 0 n).lstate n = lsLOOPBACK ∧ _)
    ⟨(Hub.get_set_lbk h 0 n rfl rfl (by decide)).trans looped, own⟩

theorem Hub.join_fresh (g : Hub) (n l : Nat) (r : Bool) (fresh : (g.lane n).joined = false) :
    g.join n l r = (let k := g.setLane n { g.lane n with joined := r || l == 1 || l == 2 }
      if r then k.emit (.loop n false [(3, 0), (2, 1)])
      else if l = 1 then k.emit (.loop n false [(0, 3), (1, 2)])
      else if l = 2 then (k.emit (.idle n 15)).emit (.loop n true [(0, 3), (1, 2)])
      else k) := by
  simp only [Hub.join, fresh, Bool.false_eq_true, if_false]

end

/-! ## Signals -/

section

variable {h : Hub} {n m : Nat}

/-- On L2 or L3, 200 ticks after DETECT was entered, a signal starts alignment (R70). -/
theorem Hub.signalDetect_aligns (awake : h.level n ≠ lvSLEEP) (detect : h.get F.PORT_LSTAT_STATE n = 1) (upper : m = 2 ∨ m = 3)
    (waited : (h.lane n).since + 200 ≤ h.now) : h.signalDetect n m = (h.signalAt n).enter n lsALIGN := by
  rw [Hub.signalDetect, if_neg awake, Hub.when_pos ⟨detect, upper, decide_eq_true waited⟩]

/-- Elsewhere a signal is only noted. -/
theorem Hub.signalDetect_notes (awake : h.level n ≠ lvSLEEP)
    (early : h.get F.PORT_LSTAT_STATE n ≠ 1 ∨ m < 2 ∨ h.now < (h.lane n).since + 200) : h.signalDetect n m = h.signalAt n := by
  rw [Hub.signalDetect, if_neg awake, Hub.when_neg]
  rintro ⟨detect, upper, due⟩
  have waited : (h.lane n).since + 200 ≤ h.now := of_decide_eq_true due
  rcases early with other | lower | tooSoon
  · exact other detect
  · omega
  · omega

end

/-- Settles O16: each clause by the lemma about the operation that it names, or by the operation's premise. -/
theorem laneEnableCommands : Obligations.LaneEnableCommands := by
  refine ⟨fun h ha n => ⟨?_, ?_, ?_, fun c f => ⟨Hub.leaveActive_still, Hub.leaveActive_turning⟩, ?_, ?_, ?_,
    fun hw looped own => ⟨?_, ?_⟩, fun g l r => Hub.join_fresh g n l r, ?_, ?_, ?_, ?_, fun m k => ⟨?_, ?_, ?_⟩, ?_⟩,
    fun h => ⟨fun ha => ⟨does_signalDetect ha, does_faultRetry ha, does_lbkEnterReceive ha, does_lbkExitReceive ha, does_loopbackTimeout ha⟩,
      fun ha hw => ⟨does_portLctlEnWrite ha hw, does_retrain ha hw, does_loopbackSelect ha hw⟩⟩⟩
  · exact fun hw off inUse => (does_portLctlEnWrite ha hw n true).of_eq (Hub.lctlEn_on off inUse)
  · exact fun hw on => (does_portLctlEnWrite ha hw n false).of_eq (Hub.lctlEn_off on)
  · exact fun hw enabled => (does_retrain ha hw n).of_eq (Hub.when_pos enabled)
  · rintro l hw active (rfl | rfl)
    · exact (does_loopbackSelect ha hw n 1).of_eq (Hub.loopback_enters (by decide) (fun far => absurd far (by decide)) active)
    · exact (does_loopbackSelect ha hw n 2).of_eq (Hub.loopback_enters (by decide) (fun far => absurd far (by decide)) active)
  · exact fun hw active mode => (does_loopbackSelect ha hw n 3).of_eq (Hub.loopback_enters (by decide) (fun _ => mode) active)
  · exact fun hw mode => (does_loopbackSelect ha hw n 3).of_eq (Hub.loopback_refused mode)
  · exact fun near => (does_loopbackSelect ha hw n 0).of_eq ((Hub.loopback_ends looped own).trans (by rw [if_neg near]))
  · exact fun far => (does_loopbackSelect ha hw n 0).of_eq ((Hub.loopback_ends looped own).trans (by rw [if_pos far]))
  · exact fun m asleep => (does_signalDetect ha n m).of_eq (if_pos asleep)
  · exact fun m awake detect upper waited => (does_signalDetect ha n m).of_eq
      (Hub.signalDetect_aligns awake detect (by omega) waited)
  · exact fun m awake early => (does_signalDetect ha n m).of_eq (Hub.signalDetect_notes awake early)
  · exact fun fault waited => (does_faultRetry ha n).of_eq (Hub.when_pos ⟨fault, decide_eq_true waited⟩)
  · exact fun type enters active allowed => (does_lbkEnterReceive ha n m k).of_eq
      ((if_pos type).trans (Hub.when_pos ⟨enters, Hub.active_of active, Hub.flag_one allowed⟩))
  · exact fun type exits looped retime => (does_lbkExitReceive ha n m k).of_eq
      ((if_pos type).trans (Hub.when_pos ⟨exits, looped, by rwa [Hub.heard_lane]⟩))
  · exact fun bad => ⟨(does_lbkEnterReceive ha n m k).of_eq (if_neg (ne_true_of_eq_false bad)),
      (does_lbkExitReceive ha n m k).of_eq (if_neg (ne_true_of_eq_false bad))⟩
  · exact fun looped unlocked waited => (does_loopbackTimeout ha n).of_eq (Hub.when_pos ⟨looped, unlocked, decide_eq_true waited⟩)

end Sys2Proof.Machine
end

section
/-! Sets of lanes as numbers. -/

namespace Sys2Proof

theorem mem_bitList {n i x m : Nat} (mem : m ∈ bitList n i x) : bitOf x m = true ∧ m < i + n := by
  induction n generalizing i with
  | zero => cases mem
  | succ n ih =>
    have later (hm : m ∈ bitList n (i + 1) x) : bitOf x m = true ∧ m < i + (n + 1) := by
      obtain ⟨bit, bound⟩ := ih hm
      exact ⟨bit, by omega⟩
    unfold bitList at mem
    split at mem
    next first =>
      rcases List.mem_cons.mp mem with rfl | hm
      · exact ⟨first, by omega⟩
      · exact later hm
    · exact later mem

namespace Machine

theorem bitOf_union (a b i : Nat) : bitOf (union a b) i = (bitOf a i || bitOf b i) := by
  simp only [bitOf_eq_testBit, union, Nat.testBit_or]

/-- No lane of a set is outside all four. -/
theorem without_all (a : Nat) : without a 15 = 0 := by
  have skip (l : List Nat) (inside : ∀ i ∈ l, bitOf 15 i = true) :
      l.foldl (fun x i => if bitOf 15 i then x else x + 2 ^ i) 0 = 0 := by
    induction l with
    | nil => rfl
    | cons i l ih =>
      rw [List.foldl_cons, if_pos (inside i List.mem_cons_self)]
      exact ih fun j hj => inside j (List.mem_cons_of_mem _ hj)
  have all : ∀ i < 4, bitOf 15 i = true := by decide
  exact skip _ fun i hi => all i (by simpa using (mem_bitList hi).2)

end Machine

end Sys2Proof
end

section
/-! Rows of lane blocks: what they leave of a port (R65). -/

namespace Sys2Proof.Machine

/-- A write of PORT_LERR leaves the registers of the port below it. -/
theorem Hub.get_set_lerr (h : Hub) (v n m : Nat) {e f : Fld} (lerr : e.base = 0x10020) (es1 : e.s1 = 0x1000) (s1 : f.s1 = 0x1000)
    (s2 : f.s2 = 0) (low : f.base < 0x10020) : (h.set e v n m).get f n = h.get f n := by
  apply Hub.get_set_ne
  rw [Fld.addr, Fld.addr, lerr, es1, s1, s2]
  omega

/-- `g` is `h`, as far as port `n` goes, but for descramblers, error counts and registers above PORT_TURNCNT. -/
def RowKept (n : Nat) (h g : Hub) : Prop :=
  (∃ des, g.lane n = { h.lane n with des := des }) ∧
    ∀ f : Fld, f.s1 = 0x1000 → f.s2 = 0 → f.base < 0x10020 → g.get f n = h.get f n

namespace RowKept

theorem refl (n : Nat) (h : Hub) : RowKept n h h := ⟨⟨_, rfl⟩, fun _ _ _ _ => rfl⟩

theorem trans {n : Nat} {h g k : Hub} (a : RowKept n h g) (b : RowKept n g k) : RowKept n h k := by
  obtain ⟨⟨des, lane⟩, get⟩ := a
  obtain ⟨⟨des', lane'⟩, get'⟩ := b
  exact ⟨⟨des', by rw [lane', lane]⟩, fun f s1 s2 low => (get' f s1 s2 low).trans (get f s1 s2 low)⟩

theorem heard (h : Hub) (n m : Nat) (k : Blk) : RowKept n h (h.heard n m k) := ⟨⟨_, h.heard_lane m k⟩, fun _ _ _ _ => rfl⟩

theorem shErr (h : Hub) (n m k : Nat) : RowKept n h (h.shErr n m k) :=
  ⟨⟨_, rfl⟩, fun _ s1 s2 low => (Hub.tally_get _ _ _ _ _ _ _ _).trans (Hub.get_set_lerr h _ n m rfl rfl s1 s2 low)⟩

theorem foldl {α : Type} {n : Nat} {f : Hub → α → Hub} (step : ∀ g x, RowKept n g (f g x)) (l : List α) (h : Hub) :
    RowKept n h (l.foldl f h) := by
  induction l generalizing h with
  | nil => exact .refl n h
  | cons x l ih => exact (step h x).trans (ih _)

theorem rowErrors (h : Hub) (n bt : Nat) (row : List Blk) : RowKept n h (h.rowErrors n bt row) := by
  rw [Hub.rowErrors, Hub.each]
  have hears (g : Hub) (x : Nat × Blk) : RowKept n g (g.heard n x.1 x.2) := heard g n x.1 x.2
  have counts (g : Hub) (m : Nat) : RowKept n g (g.shErr n m 1) := shErr g n m 1
  exact (foldl hears _ h).trans (foldl counts _ _)

variable {n : Nat} {h g : Hub} (kept : RowKept n h g)

include kept

theorem get {f : Fld} (s1 : f.s1 = 0x1000) (s2 : f.s2 = 0) (low : f.base < 0x10020) : g.get f n = h.get f n := kept.2 f s1 s2 low

theorem outPairs : g.outPairs n = h.outPairs n := by
  obtain ⟨des, lane⟩ := kept.1
  rw [Hub.outPairs, Hub.outPairs, Hub.active, Hub.active, kept.get rfl rfl (by decide), kept.get rfl rfl (by decide), lane]

end RowKept

end Sys2Proof.Machine
end

section
/-! STRIPE rows, idle entry and exit, single-lane recovery and retirement (R68, R69, R77, R79, R80, R81, R82). -/

namespace Sys2Proof.Machine

/-! ## The commands -/

section

variable {h : Hub} (ha : h.awake)

include ha

theorem does_stripeReceive (n : PortId) (row : List Blk) : Does (.stripeReceive n row) h (h.stripeReceive n row) :=
  does_of_run ha (·.stripeReceive n row) (exec_stripeReceive n row)

theorem does_idleDelayExpiry (n : PortId) : Does (.idleDelayExpiry n) h (h.idleDelay n) :=
  does_of_run ha (·.idleDelay n) (exec_idleDelayExpiry n)

theorem does_fastExit (n : PortId) : Does (.fastExit n) h (h.fastExit n) :=
  does_of_run ha (·.fastExit n) (exec_fastExit n)

theorem does_lrecReceive (n : PortId) (m : LaneId) (k : Blk) : Does (.lrecReceive n ⟨m, k⟩) h (h.lrecReceive n m k) :=
  does_of_run ha (·.lrecReceive n m k) (exec_lrecReceive n m k)

theorem does_recoveryComplete (n : PortId) (m : LaneId) : Does (.recoveryComplete n m) h (h.recoveryComplete n m) :=
  does_of_run ha (·.recoveryComplete n m) (exec_recoveryComplete n m)

theorem does_recoveryTimeout (n : PortId) (m : LaneId) : Does (.recoveryTimeout n m) h (h.recoveryTimeout n m) :=
  does_of_run ha (·.recoveryTimeout n m) (exec_recoveryTimeout n m)

theorem does_lretReceive (n : PortId) (m : LaneId) (k : Blk) : Does (.lretReceive n ⟨m, k⟩) h (h.lretReceive n m k) :=
  does_of_run ha (·.lretReceive n m k) (exec_lretReceive n m k)

variable (hw : h.led.wiped = false)

include hw

theorem does_retireForce (n : PortId) (mask : BitVec 4) : Does (.retireForce n mask) h (h.retireForce n mask.toNat) :=
  does_of_runW ha (·.retireForce n mask.toNat) (exec_retireForce n mask) hw

theorem does_retireClear (n : PortId) : Does (.retireClear n) h (h.clearRetire n) :=
  does_of_runW ha (·.clearRetire n) (exec_retireClear n) hw

end

/-! ## STRIPE rows -/

section

variable {h : Hub} {n : Nat} (active : h.get F.PORT_LSTAT_STATE n = 7)

include active

/-- With no recovery in progress the announced set is all that a STRIPE row changes (R68). -/
theorem Hub.stripeReceive_announces {k : Blk} (good : k.isA btStripe = true) (noRecovery : h.get F.PORT_LSTAT_RECOV n = 0) :
    h.stripeReceive n [k] = (h.rowErrors n btStripe [k]).set F.PORT_LSTAT_RXMASK
      (without (flipMask k.stripeSet) (union (h.outPairs n) (h.get F.PORT_LSTAT_TXMASK n))) n := by
  have kept := RowKept.rowErrors h n btStripe [k]
  rw [Hub.stripeReceive, Hub.when_pos (Hub.active_of active)]
  simp only [List.find?_cons, good, kept.outPairs, kept.get rfl rfl (f := F.PORT_LSTAT_TXMASK) (by decide),
    kept.get rfl rfl (f := F.PORT_LSTAT_RECOV) (by decide), noRecovery]
  rw [show without 15 0 = 15 from rfl, without_all]
  rfl

/-- A row without a good copy has every receive lane recovered (R68). -/
theorem Hub.stripeReceive_lost {row : List Blk} (bad : ∀ k ∈ row, k.isA btStripe = false) : h.stripeReceive n row =
    (bitList 4 0 (h.get F.PORT_LSTAT_RXMASK n)).reverse.foldl (fun x m => x.startRecovery n m) (h.rowErrors n btStripe row) := by
  have none_ : row.find? (fun k => k.isA btStripe) = none :=
    List.find?_eq_none.mpr fun k hk => ne_true_of_eq_false (bad k hk)
  rw [Hub.stripeReceive, Hub.when_pos (Hub.active_of active)]
  simp only [none_]
  rfl

/-! ## Recoveries that the partner asks for -/

variable {m c : Nat} {k : Blk} (type : k.isA btLmgt = true) (named : bitList 4 0 (flipMask k.lmLanes) = [c])

include type named

/-- LREC has this end send on the lane for its recovery, unless that is under way (R80). -/
theorem Hub.lrecReceive_recovers (lrec : k.lmKind = lmLREC) (sends : bitOf (h.get F.PORT_LSTAT_TXMASK n) c = true)
    (expired : ∀ r, Tab.get none (h.lane n).rec_ c = some r → r.start + 40000 ≤ h.now) :
    h.lrecReceive n m k = (h.heard n m k).recoverSend n c := by
  have transmits (a : Nat) : bitOf (union a (h.get F.PORT_LSTAT_TXMASK n)) c = true := by rw [bitOf_union, sends, Bool.or_true]
  rw [Hub.lrecReceive, Hub.withLmgt_taken type lrec active, named]
  simp only [Hub.each, List.foldl_cons, List.foldl_nil, Hub.heard_lane]
  cases found : Tab.get none (h.lane n).rec_ c with
  | none => exact if_pos ⟨transmits _, Bool.false_ne_true⟩
  | some r => exact if_pos ⟨transmits _, fun running => absurd (of_decide_eq_true running) (Nat.not_lt.mpr (expired r found))⟩

/-- The other copies of one LREC change nothing (R80). -/
theorem Hub.lrecReceive_repeated (lrec : k.lmKind = lmLREC) {r : Recovery} (found : Tab.get none (h.lane n).rec_ c = some r)
    (running : h.now < r.start + 40000) : h.lrecReceive n m k = h.heard n m k := by
  rw [Hub.lrecReceive, Hub.withLmgt_taken type lrec active, named]
  simp only [Hub.each, List.foldl_cons, List.foldl_nil, Hub.heard_lane, found]
  exact if_neg fun both => both.2 (decide_eq_true running)

/-- A pair that the partner announces is retired here too (R81). -/
theorem Hub.lretReceive_retires (lret : k.lmKind = lmLRET) : h.lretReceive n m k = (h.heard n m k).retire n c 5 := by
  rw [Hub.lretReceive, Hub.withLmgt_taken type lret active, named]
  rfl

end

/-! ## Electrical idle -/

section

variable {h : Hub} {n : Nat}

/-- A direction that has been quiet for IDLEDLY goes to electrical idle (R77, R117). -/
theorem Hub.idleDelay_idles (up : h.get F.PORT_LKSTAT_STATE n = 2) (sending : h.get F.PORT_LKSTAT_TXIDLE n = 0)
    (quiet : h.quiet n = true) (stays : h.get F.PWR_DSTAT_TARGET n = 0) (runs : h.level n = lvRUN)
    (on : h.get F.PORT_LKCTL_IDLEEN n = 1) (waited : (h.link n).busyAt + h.get F.PORT_LKCTL_IDLEDLY n ≤ h.now) :
    h.idleDelay n = (h.eiRow n (h.get F.PORT_LSTAT_TXMASK n)).set F.PORT_LKSTAT_TXIDLE 1 n := by
  have delay : h.idleDly n = some (h.get F.PORT_LKCTL_IDLEDLY n) := by
    rw [Hub.idleDly, if_neg (not_or.mpr ⟨not_not.mpr stays, not_not.mpr runs⟩), if_pos (Hub.flag_one on)]
  have due : (h.idleDly n).any (fun t => decide ((h.link n).busyAt + t ≤ h.now)) = true := by
    rw [delay]
    exact decide_eq_true waited
  rw [Hub.idleDelay, Hub.when_pos ⟨Hub.linkUp_of up, Hub.not_flag sending, quiet, due⟩]

/-- What waits to be sent takes the direction out of electrical idle (R78). -/
theorem Hub.fastExit_wakes (idle : h.get F.PORT_LKSTAT_TXIDLE n = 1) (waits : (h.link n).wait ≠ []) : h.fastExit n =
    (((h.set F.PORT_LKSTAT_TXIDLE 0 n).burst n (h.get F.PORT_LSTAT_TXMASK n)).firstSlot n).flushWait n := by
  rw [Hub.fastExit, Hub.when_pos waits, Hub.wake, Hub.when_pos (Hub.flag_one idle)]

end

/-! ## The end of a recovery -/

theorem Hub.recoveryOff_recFails (h : Hub) (n m : Nat) : ((h.recoveryOff n m).lane n).recFails = (h.lane n).recFails := by
  rw [Hub.recoveryOff, Hub.set_lane, Hub.lane_setLane]

section

variable {h : Hub} {n m : Nat} {r : Recovery} (found : Tab.get none (h.lane n).rec_ m = some r)

include found

/-- After 4,096 clean ticks the lane is back: at the receiver at once, at the sender with the next STRIPE row (R80). -/
theorem Hub.recoveryComplete_done {t : Nat} (good : r.good = some t) (clean : t + 4096 ≤ h.now)
    (active : h.get F.PORT_LSTAT_STATE n = 7) : h.recoveryComplete n m =
      if r.receiver then (h.recovered n m).set F.PORT_LSTAT_RXMASK
        (union ((h.recovered n m).get F.PORT_LSTAT_RXMASK n) (2 ^ m)) n
      else (h.recovered n m).stripe n (union ((h.recovered n m).get F.PORT_LSTAT_TXMASK n) (2 ^ m))
        (union ((h.recovered n m).get F.PORT_LSTAT_TXMASK n) (2 ^ m)) := by
  have due : h.due (r.good.map (· + 4096)) = true := by
    rw [good]
    exact decide_eq_true clean
  simp only [Hub.recoveryComplete, found]
  rw [Hub.when_pos ⟨Hub.active_of active, due⟩]

variable (late : r.start + 40000 ≤ h.now)

include late

/-- The third failure in a row retires the pair (R81). -/
theorem Hub.recoveryTimeout_retires (failed : Tab.get 0 (h.lane n).recFails m = 2) : h.recoveryTimeout n m =
    ((h.recoveryOff n m).setLane n { (h.recoveryOff n m).lane n with
      recFails := Tab.set 0 (h.lane n).recFails m 0 }).retire n m 2 := by
  simp only [Hub.recoveryTimeout, found]
  rw [Hub.when_pos late]
  simp only [Hub.recoveryOff_recFails, failed, if_true]

/-- Fewer failures have the receiver try again (R80). -/
theorem Hub.recoveryTimeout_again (failed : Tab.get 0 (h.lane n).recFails m < 2) (receiver : r.receiver = true) :
    h.recoveryTimeout n m = ((h.recoveryOff n m).setLane n { (h.recoveryOff n m).lane n with
      recFails := Tab.set 0 (h.lane n).recFails m (Tab.get 0 (h.lane n).recFails m + 1) }).startRecovery n m := by
  have few : Tab.get 0 (h.lane n).recFails m + 1 ≠ 3 := by omega
  simp only [Hub.recoveryTimeout, found]
  rw [Hub.when_pos late]
  simp only [Hub.recoveryOff_recFails, if_neg few, receiver, if_true]

end

/-- Of several lanes named, RETIRE_FORCE takes the lowest (log entry 21). -/
theorem Hub.retireForce_first {h : Hub} {n mask m : Nat} {l : List Nat} (whole : h.get F.PORT_LRETIRE_MASK n = 0)
    (lanes : bitList 4 0 mask = m :: l) : h.retireForce n mask = h.retire n m 4 := by
  rw [Hub.retireForce, Hub.when_pos whole, lanes]

/-- Settles O18: each clause by the lemma about the event that it names. The lowest lane of a RETIRE_FORCE is log entry 21; that both ends
count a recovery and its failures is log entry 63. -/
theorem recoveryCommands : Obligations.RecoveryCommands := by
  refine ⟨fun h ha n => ⟨?_, ?_, ?_, ?_, fun m k c => ⟨fun type lrec active named sends => ⟨?_, ?_, ?_⟩, ?_, ?_⟩, ?_, ?_, ?_, ?_, ?_, ?_⟩,
    fun h => ⟨fun ha => ⟨does_stripeReceive ha, does_idleDelayExpiry ha, does_fastExit ha, does_lrecReceive ha, does_recoveryComplete ha,
      does_recoveryTimeout ha, does_lretReceive ha⟩, fun ha hw => ⟨does_retireForce ha hw, does_retireClear ha hw⟩⟩⟩
  · exact fun k good active noRecovery => (does_stripeReceive ha n [k]).of_eq (Hub.stripeReceive_announces active good noRecovery)
  · exact fun row bad active => (does_stripeReceive ha n row).of_eq (Hub.stripeReceive_lost active bad)
  · exact fun _ up sending quiet stays runs on waited => (does_idleDelayExpiry ha n).of_eq
      (Hub.idleDelay_idles up sending quiet stays runs on waited)
  · exact fun idle waits => (does_fastExit ha n).of_eq (Hub.fastExit_wakes idle waits)
  · intro fresh
    refine (does_lrecReceive ha n m k).of_eq (Hub.lrecReceive_recovers active type named lrec sends fun r found => ?_)
    rw [fresh] at found
    cases found
  · exact fun r found running => (does_lrecReceive ha n m k).of_eq (Hub.lrecReceive_repeated active type named lrec found running)
  · intro r found expired
    refine (does_lrecReceive ha n m k).of_eq (Hub.lrecReceive_recovers active type named lrec sends fun r' found' => ?_)
    obtain rfl := Option.some.inj (found.symm.trans found')
    exact expired
  · exact fun type lret active named => (does_lretReceive ha n m k).of_eq (Hub.lretReceive_retires active type named lret)
  · exact fun bad => ⟨(does_lrecReceive ha n m k).of_eq (Hub.withLmgt_bad bad), (does_lretReceive ha n m k).of_eq (Hub.withLmgt_bad bad)⟩
  · exact fun m r t found good receiver clean active => (does_recoveryComplete ha n m).of_eq
      ((Hub.recoveryComplete_done found good clean active).trans (if_pos receiver))
  · exact fun m r t found good sender clean active => (does_recoveryComplete ha n m).of_eq
      ((Hub.recoveryComplete_done found good clean active).trans (if_neg (ne_true_of_eq_false sender)))
  · exact fun m r found late failed => (does_recoveryTimeout ha n m).of_eq (Hub.recoveryTimeout_retires found late failed)
  · exact fun m r found late failed receiver => (does_recoveryTimeout ha n m).of_eq
      (Hub.recoveryTimeout_again found late failed receiver)
  · exact fun mask m l hw whole lanes => (does_retireForce ha hw n mask).of_eq (Hub.retireForce_first whole lanes)
  · exact fun hw => does_retireClear ha hw n

end Sys2Proof.Machine
end

section
/-! Requesting and agreeing a lane turn (R83, R84, R85, R88). -/

namespace Sys2Proof.Machine

/-! ## The commands -/

section

variable {h : Hub} (ha : h.awake)

include ha

theorem does_lmgtReqReceive (n : PortId) (m : LaneId) (k : Blk) : Does (.lmgtReqReceive n ⟨m, k⟩) h (h.lmgtReq n m k) :=
  does_of_run ha (·.lmgtReq n m k) (exec_lmgtReqReceive n m k)

theorem does_lmgtAckReceive (n : PortId) (m : LaneId) (k : Blk) : Does (.lmgtAckReceive n ⟨m, k⟩) h (h.lmgtAck n m k) :=
  does_of_run ha (·.lmgtAck n m k) (exec_lmgtAckReceive n m k)

theorem does_lmgtNakReceive (n : PortId) (m : LaneId) (k : Blk) : Does (.lmgtNakReceive n ⟨m, k⟩) h (h.lmgtNak n m k) :=
  does_of_run ha (·.lmgtNak n m k) (exec_lmgtNakReceive n m k)

theorem does_turnAckDeadline (n : PortId) : Does (.turnAckDeadline n) h (h.turnAckDeadline n) :=
  does_of_run ha (·.turnAckDeadline n) (exec_turnAckDeadline n)

theorem does_drepReceive (n : PortId) (m : LaneId) (k : Blk) : Does (.drepReceive n ⟨m, k⟩) h (h.drepReceive n m k) :=
  does_of_run ha (·.drepReceive n m k) (exec_drepReceive n m k)

theorem does_turnRequest (hw : h.led.wiped = false) (n : PortId) (r : Fin 8) : Does (.turnRequest n r) h (h.turnWrite n r) :=
  does_of_runW ha (·.turnWrite n r) (exec_turnRequest n r) hw

end

/-! ## What a write of PORT_LMODE leaves -/

section

variable (h : Hub) (v n : Nat) {f : Fld} (lmode : f.base = 0x10008) (s1 : f.s1 = 0x1000) (s2 : f.s2 = 0)

include lmode s1 s2

theorem Hub.get_set_lmode {g : Fld} (gs1 : g.s1 = 0x1000) (gs2 : g.s2 = 0) (other : g.base ≠ 0x10008) :
    (h.set f v n).get g n = h.get g n := Hub.get_set_elem h (gs1.trans s1.symm) (gs2.trans s2.symm) (lmode ▸ other)

theorem Hub.reg_set_lmode {a : Nat} (low : a < 0x10008 + n * 0x1000) : (h.set f v n).reg a = h.reg a := by
  apply Hub.reg_set_ne
  rw [Fld.addr, lmode, s1, s2]
  omega

theorem Hub.portCfg_set_lmode : (h.set f v n).portCfg n = h.portCfg n := by
  have word : (h.set f v n).reg (F.FAB_PORTCFG_ROLE.addr n 0) = h.reg (F.FAB_PORTCFG_ROLE.addr n 0) :=
    Hub.reg_set_lmode h v n lmode s1 s2 (by simp only [Fld.addr, F.FAB_PORTCFG_ROLE]; omega)
  have up : (h.set f v n).linkUp n = h.linkUp n := by
    rw [Hub.linkUp, Hub.get_set_lmode h v n lmode s1 s2 rfl rfl (by decide), Hub.linkUp]
  rw [Hub.portCfg, word, up, Hub.set_fabp, Hub.portCfg]

theorem Hub.role_set_lmode : (h.set f v n).role n = h.role n := by
  have summit : (h.set f v n).flag F.TIME_CTL_SUMMIT = h.flag F.TIME_CTL_SUMMIT := by
    rw [Hub.flag, Hub.get, Hub.reg_set_lmode h v n lmode s1 s2 (by simp only [Fld.addr, F.TIME_CTL_SUMMIT]; omega)]
    rfl
  rw [Hub.role, summit, Hub.portCfg_set_lmode h v n lmode s1 s2, Hub.set_fabp, Hub.role]

theorem Hub.isChild_set_lmode : (h.set f v n).isChild n = h.isChild n := by
  rw [Hub.isChild, Hub.isUplink, Hub.role_set_lmode h v n lmode s1 s2, Hub.portCfg_set_lmode h v n lmode s1 s2, Hub.isChild, Hub.isUplink]

theorem Hub.dl_set_lmode : (h.set f v n).dl n = h.dl n := by
  rw [Hub.dl, Hub.get_set_lmode h v n lmode s1 s2 rfl rfl (by decide), Hub.dl]

theorem Hub.lmDly_set_lmode : (h.set f v n).lmDly n = h.lmDly n := by
  rw [Hub.lmDly, Hub.isChild_set_lmode h v n lmode s1 s2, Hub.dl_set_lmode h v n lmode s1 s2, Hub.lmDly]

theorem Hub.active_set_lmode : (h.set f v n).active n = h.active n := by
  rw [Hub.active, Hub.get_set_lmode h v n lmode s1 s2 rfl rfl (by decide), Hub.active]

theorem Hub.outPairs_set_lmode : (h.set f v n).outPairs n = h.outPairs n := by
  rw [Hub.outPairs, Hub.active_set_lmode h v n lmode s1 s2, Hub.get_set_lmode h v n lmode s1 s2 rfl rfl (by decide), Hub.set_lane,
    Hub.outPairs]

theorem Hub.turnAllowed_set_lmode : (h.set f v n).turnAllowed n = h.turnAllowed n := by
  have state : (h.set f v n).get F.TIME_STAT_STATE = h.get F.TIME_STAT_STATE := by
    rw [Hub.get, Hub.reg_set_lmode h v n lmode s1 s2 (by simp only [Fld.addr, F.TIME_STAT_STATE]; omega), Hub.get]
  rw [Hub.turnAllowed, Hub.active_set_lmode h v n lmode s1 s2, Hub.isChild_set_lmode h v n lmode s1 s2, state, Hub.flag,
    Hub.get_set_lmode h v n lmode s1 s2 rfl rfl (by decide), Hub.turnAllowed, Hub.flag]

end

/-! ## Requests -/

/-- The turn that an evaluated request starts (R85). -/
def Hub.ownTurn (h : Hub) (n : Nat) : Turn :=
  { id := (h.lane n).turnId, x := (h.ridge + 3 * h.dl n + 64) % 2 ^ 64, target := h.get F.PORT_LMODE_REQ n,
    from_ := h.get F.PORT_LMODE_CUR n, lanes := (h.turnLanes n (h.get F.PORT_LMODE_REQ n)).1, initiator := true,
    newSender := (h.turnLanes n (h.get F.PORT_LMODE_REQ n)).2 }

section

variable {h : Hub} {n : Nat}

/-- A request that can be met is announced to the partner (R85). -/
theorem Hub.evalReq_starts (idle : (h.lane n).turn = none) (new : h.get F.PORT_LMODE_REQ n ≠ h.get F.PORT_LMODE_CUR n)
    (unlocked : h.get F.PORT_LCTL_TURNLOCK n = 0) (defined : modeExists (h.get F.PORT_LMODE_REQ n) (h.outPairs n) = true)
    (allowed : h.turnAllowed n = true) : h.evalReq n =
      (((h.setLane n { h.lane n with
        waiting := false
        turn := some (h.ownTurn n)
        turnId := ((h.lane n).turnId + 1) % 16 }).set F.PORT_LMODE_BUSY 1 n).set F.PORT_LMODE_TURNID (h.lane n).turnId n).sendL0 n 3
        (lmgtBlk lmREQ (h.lane n).turnId (h.get F.PORT_LMODE_REQ n) 0 (h.lmDly n) (h.ownTurn n).x) := by
  have pairs : (h.setLane n { h.lane n with waiting := false }).outPairs n = h.outPairs n := by
    simp only [Hub.outPairs, Hub.lane_setLane]
    rfl
  have lanes (t : Nat) : (h.setLane n { h.lane n with waiting := false }).turnLanes n t = h.turnLanes n t := by
    simp only [Hub.turnLanes, pairs, Hub.setLane_get]
  have notTurning : ¬ (h.lane n).turn.isSome = true := by
    rw [idle]
    exact Bool.false_ne_true
  have permitted : (h.setLane n { h.lane n with waiting := false }).turnAllowed n = true := allowed
  have delay (x : LaneSt) (id : Nat) :
      (((h.setLane n x).set F.PORT_LMODE_BUSY 1 n).set F.PORT_LMODE_TURNID id n).lmDly n = h.lmDly n := by
    rw [Hub.lmDly_set_lmode _ _ _ rfl rfl rfl, Hub.lmDly_set_lmode _ _ _ rfl rfl rfl]
    rfl
  have goes : ¬ (h.get F.PORT_LMODE_REQ n = h.get F.PORT_LMODE_CUR n ∨ h.flag F.PORT_LCTL_TURNLOCK n) :=
    not_or.mpr ⟨new, Hub.not_flag unlocked⟩
  simp only [Hub.evalReq, if_neg notTurning, if_false, Hub.setLane_get, Hub.setLane_flag, if_neg goes, pairs,
    defined, permitted, not_true_eq_false, delay, lanes, Hub.setLane_setLane]
  rfl

theorem Hub.turnWrite_ignored {r : Nat} (ignored : 5 ≤ r ∨ h.isHot F.PORT_LMODE_REQ n = true) : h.turnWrite n r = h := by
  rcases ignored with reserved | hot
  · by_cases hot : h.isHot F.PORT_LMODE_REQ n = true
    · exact Hub.when_neg (not_not.mpr hot)
    · exact (Hub.when_pos hot).trans (Hub.when_neg (by omega))
  · exact Hub.when_neg (not_not.mpr hot)

theorem Hub.turnWrite_taken {r : Nat} (cold : h.isHot F.PORT_LMODE_REQ n = false) (defined : r ≤ 4) :
    h.turnWrite n r = (h.set F.PORT_LMODE_REQ r n).evalReq n := by
  rw [Hub.turnWrite, Hub.when_pos (ne_true_of_eq_false cold), Hub.turnRequest, Hub.when_pos defined]

/-- A request waits for the turn in flight (R88). -/
theorem Hub.evalReq_waits (turning : (h.lane n).turn.isSome = true) : h.evalReq n = h.setLane n { h.lane n with waiting := true } :=
  if_pos turning

/-- A written request that can be met starts a turn (R85). -/
theorem Hub.turnWrite_starts {r : Nat} (cold : h.isHot F.PORT_LMODE_REQ n = false) (legal : r ≤ 4)
    (new : r ≠ h.get F.PORT_LMODE_CUR n) (idle : (h.lane n).turn = none) (unlocked : h.get F.PORT_LCTL_TURNLOCK n = 0)
    (defined : modeExists r (h.outPairs n) = true) (allowed : h.turnAllowed n = true) :
    h.turnWrite n r = ((((h.set F.PORT_LMODE_REQ r n).setLane n { h.lane n with
        waiting := false
        turn := some ((h.set F.PORT_LMODE_REQ r n).ownTurn n)
        turnId := ((h.lane n).turnId + 1) % 16 }).set F.PORT_LMODE_BUSY 1 n).set F.PORT_LMODE_TURNID (h.lane n).turnId n).sendL0 n 3
        (lmgtBlk lmREQ (h.lane n).turnId r 0 (h.lmDly n) ((h.set F.PORT_LMODE_REQ r n).ownTurn n).x) ∧
      ((h.set F.PORT_LMODE_REQ r n).ownTurn n).x = (h.ridge + 3 * h.dl n + 64) % 2 ^ 64 ∧
      ((h.set F.PORT_LMODE_REQ r n).ownTurn n).target = r ∧
      ((h.set F.PORT_LMODE_REQ r n).ownTurn n).from_ = h.get F.PORT_LMODE_CUR n := by
  have req : (h.set F.PORT_LMODE_REQ r n).get F.PORT_LMODE_REQ n = r :=
    (Hub.get_set_same h _ r n 0 (by decide)).trans (Nat.mod_eq_of_lt (by simp only [F.PORT_LMODE_REQ]; omega))
  have cur : (h.set F.PORT_LMODE_REQ r n).get F.PORT_LMODE_CUR n = h.get F.PORT_LMODE_CUR n :=
    Hub.get_set_disj h (by decide) (.inr (by decide))
  refine ⟨?_, ?_, req, cur⟩
  · rw [Hub.turnWrite_taken cold legal, Hub.evalReq_starts (h := h.set F.PORT_LMODE_REQ r n) idle (by rwa [req, cur])
      ((Hub.get_set_lmode h r n rfl rfl rfl rfl rfl (by decide)).trans unlocked)
      (by rwa [req, Hub.outPairs_set_lmode h r n rfl rfl rfl]) ((Hub.turnAllowed_set_lmode h r n rfl rfl rfl).trans allowed),
      req, Hub.lmDly_set_lmode h r n rfl rfl rfl, Hub.set_lane]
  · rw [Hub.ownTurn, Hub.dl_set_lmode h r n rfl rfl rfl, Hub.set_ridge]

end

/-! ## The partner's messages -/

section

variable {h : Hub} {n m : Nat} {k : Blk} (type : k.isA btLmgt = true) (active : h.get F.PORT_LSTAT_STATE n = 7)

include type active

/-- Of the copies of a REQ the first is taken (R85). -/
theorem Hub.lmgtReq_first (req : k.lmKind = lmREQ)
    (new : (h.lane n).reqSeen = none ∨ ∃ b t, (h.lane n).reqSeen = some (b, t) ∧ (b ≠ k ∨ t + 16 < h.now)) : h.lmgtReq n m k =
      ((h.heard n m k).setLane n { (h.heard n m k).lane n with reqSeen := some (k, h.now) }).takeReq n k := by
  have notSeen : ¬ (h.lane n).reqSeen.any (fun x => x.1 == k && decide (h.now ≤ x.2 + 16)) = true := by
    rcases new with none_ | ⟨b, t, seen, differs⟩
    · rw [none_]
      exact Bool.false_ne_true
    · rw [seen, Option.any_some, Bool.and_eq_true, beq_iff_eq, decide_eq_true_eq]
      rintro ⟨same, inTime⟩
      rcases differs with other | late
      · exact other same
      · omega
  rw [Hub.lmgtReq, Hub.withLmgt_taken type req active]
  exact if_neg (by rwa [Hub.heard_lane])

theorem Hub.lmgtReq_copy (req : k.lmKind = lmREQ) {t : Nat} (seen : (h.lane n).reqSeen = some (k, t)) (inTime : h.now ≤ t + 16) :
    h.lmgtReq n m k = h.heard n m k := by
  rw [Hub.lmgtReq, Hub.withLmgt_taken type req active]
  refine if_pos ?_
  rw [Hub.heard_lane, seen, Option.any_some, beq_self_eq_true, Bool.true_and]
  exact decide_eq_true inTime

/-- The child's delay is shown at the parent (R84). -/
theorem Hub.drepReceive_shows (drep : k.lmKind = lmDREP) (parent : h.isChild n = false) : h.drepReceive n m k =
    (((h.heard n m k).set F.PORT_TDLY_DLY (k.lmDly * 64) n).set F.PORT_TDLY_VALID 1 n).lkTmo n := by
  have notChild : ¬ (h.heard n m k).isChild n := ne_true_of_eq_false parent
  rw [Hub.drepReceive, Hub.withLmgt_taken type drep active, if_neg notChild]

variable {t : Turn} (turn : (h.lane n).turn = some t) (initiator : t.initiator = true) (open_ : t.committed = false) (id : t.id = k.lmId)

include turn initiator open_ id

/-- An ACK in time commits the turn that this end asked for (R85). -/
theorem Hub.lmgtAck_commits (ack : k.lmKind = lmACK) (inTime : h.ridge + h.dl n + 8 ≤ t.x) :
    h.lmgtAck n m k = (h.heard n m k).setTurn n { t with committed := true } := by
  rw [Hub.lmgtAck, Hub.withLmgt_taken type ack active]
  simp only [Hub.heard_lane, turn]
  exact (if_pos ⟨initiator, ne_true_of_eq_false open_, id⟩).trans (if_pos inTime)

/-- A late ACK comes too late to commit: the turn is abandoned (R85). -/
theorem Hub.lmgtAck_late (ack : k.lmKind = lmACK) (late : t.x < h.ridge + h.dl n + 8) :
    h.lmgtAck n m k = (h.heard n m k).turnOver n 3 := by
  rw [Hub.lmgtAck, Hub.withLmgt_taken type ack active]
  simp only [Hub.heard_lane, turn]
  exact (if_pos ⟨initiator, ne_true_of_eq_false open_, id⟩).trans (if_neg (Nat.not_le.mpr late))

theorem Hub.lmgtNak_refuses (nak : k.lmKind = lmNAK) : h.lmgtNak n m k = (h.heard n m k).turnOver n 2 := by
  rw [Hub.lmgtNak, Hub.withLmgt_taken type nak active]
  simp only [Hub.heard_lane, turn]
  exact if_pos ⟨initiator, ne_true_of_eq_false open_, id⟩

end

/-! ## Answering a REQ -/

section

variable {h : Hub} {n : Nat} {k : Blk}

theorem Hub.takeReq_idle (idle : (h.lane n).turn = none) : h.takeReq n k = h.answerReq n k := by
  simp only [Hub.takeReq, idle]

variable {t : Turn} (turn : (h.lane n).turn = some t)

include turn

/-- A REQ during a turn that is committed, or the partner's, is held (log entry 21). -/
theorem Hub.takeReq_holds (busy : t.committed = true ∨ t.initiator = false) :
    h.takeReq n k = h.setLane n { h.lane n with heldReq := some k } := by
  have notOpen : ¬ (t.initiator = true ∧ ¬ t.committed = true) := by
    rintro ⟨initiator, notCommitted⟩
    rcases busy with committed | responder
    · exact notCommitted committed
    · exact ne_true_of_eq_false responder initiator
  simp only [Hub.takeReq, turn]
  rw [if_neg fun three => notOpen ⟨three.1, three.2.1⟩, if_neg notOpen]

/-- Of crossing requests the parent's stands (R85). -/
theorem Hub.takeReq_crossing (initiator : t.initiator = true) (open_ : t.committed = false) (parent : h.isChild n = false) :
    h.takeReq n k = h := by
  simp only [Hub.takeReq, turn]
  rw [if_neg fun three => ne_true_of_eq_false parent three.2.2, if_pos ⟨initiator, ne_true_of_eq_false open_⟩]

/-- No answer by X - Dl - 8 abandons the turn (R85). -/
theorem Hub.turnAckDeadline_passed (initiator : t.initiator = true) (open_ : t.committed = false) (late : t.x ≤ h.ridge + h.dl n + 8) :
    h.turnAckDeadline n = h.turnOver n 3 := by
  simp only [Hub.turnAckDeadline, turn]
  rw [Hub.when_pos ⟨initiator, ne_true_of_eq_false open_, late⟩]

end

/-- The turn that this end agrees to as the new sender (R85). -/
def Hub.agreedTurn (h : Hub) (n : Nat) (k : Blk) : Turn :=
  { id := k.lmId, x := nextX h.ridge k.lmX, target := mirrorMode k.lmMode, from_ := h.get F.PORT_LMODE_CUR n,
    lanes := (h.turnLanes n (mirrorMode k.lmMode)).1, initiator := false, committed := true, newSender := true }

section

variable {h : Hub} {n : Nat} {k : Blk}

theorem Hub.answerReq_locked (locked : h.get F.PORT_LCTL_TURNLOCK n = 1) :
    h.answerReq n k = h.sendL0 n 3 (lmgtBlk lmNAK k.lmId (mirrorMode k.lmMode) 0 (h.lmDly n) k.lmX) := by
  simp only [Hub.answerReq]
  exact if_pos (.inl (Hub.flag_one locked))

/-- A REQ that this end can follow as the new sender is agreed to (R85). -/
theorem Hub.answerReq_agrees (unlocked : h.get F.PORT_LCTL_TURNLOCK n = 0) (allowed : h.turnAllowed n = true)
    (defined : modeExists (mirrorMode k.lmMode) (h.outPairs n) = true) (newSender : (h.turnLanes n (mirrorMode k.lmMode)).2 = true) :
    h.answerReq n k = (((h.sendL0 n 3 (lmgtBlk lmACK k.lmId (mirrorMode k.lmMode) 0 (h.lmDly n) k.lmX)).set
      F.PORT_LMODE_BUSY 1 n).set F.PORT_LMODE_TURNID k.lmId n).setTurn n (h.agreedTurn n k) := by
  have cur (g : Hub) : ((g.set F.PORT_LMODE_BUSY 1 n).set F.PORT_LMODE_TURNID k.lmId n).get F.PORT_LMODE_CUR n = g.get F.PORT_LMODE_CUR n :=
    (Hub.get_set_disj _ (by decide) (.inr (by decide))).trans (Hub.get_set_disj _ (by decide) (.inr (by decide)))
  simp only [Hub.answerReq, Hub.not_flag unlocked, allowed, defined, newSender, Bool.not_true, Bool.false_and, Bool.false_eq_true,
    not_true_eq_false, or_self, if_false, cur, Hub.sendL0_get, Hub.agreedTurn]

end

/-- Settles O19: each clause by the lemma about the message, or the request, that it names. That a REQ is held during a turn is log entry
21, the turn IDs that go round are entry 63, and a DREP taken whatever the lane mode is entry 60. -/
theorem turnExchangeCommands : Obligations.TurnExchangeCommands := by
  refine ⟨fun h ha n => ⟨?_, ?_, ?_, fun m k type active => ⟨?_, ?_, ?_, fun t turn initiator open_ id => ⟨?_, ?_, ?_⟩⟩,
    fun k => ⟨Hub.takeReq_idle, fun t turn => ⟨Hub.takeReq_holds turn, Hub.takeReq_crossing turn⟩, Hub.answerReq_locked, ?_⟩, ?_⟩,
    fun h => ⟨fun ha => ⟨does_lmgtReqReceive ha, does_lmgtAckReceive ha, does_lmgtNakReceive ha, does_turnAckDeadline ha,
      does_drepReceive ha⟩, does_turnRequest⟩⟩
  · exact fun r hw ignored => (does_turnRequest ha hw n r).of_eq (Hub.turnWrite_ignored ignored)
  · exact fun r hw cold legal turning => (does_turnRequest ha hw n r).of_eq
      ((Hub.turnWrite_taken cold legal).trans (Hub.evalReq_waits turning))
  · intro r hw cold legal new idle unlocked defined allowed
    obtain ⟨starts, x, target, from_⟩ := Hub.turnWrite_starts cold legal new idle unlocked defined allowed
    exact ⟨_, (does_turnRequest ha hw n r).of_eq starts, rfl, x, target, rfl, rfl, rfl, from_⟩
  · exact fun req new => (does_lmgtReqReceive ha n m k).of_eq (Hub.lmgtReq_first type active req new)
  · exact fun req ⟨t, seen, inTime⟩ => (does_lmgtReqReceive ha n m k).of_eq (Hub.lmgtReq_copy type active req seen inTime)
  · exact fun drep parent => (does_drepReceive ha n m k).of_eq (Hub.drepReceive_shows type active drep parent)
  · exact fun ack inTime => (does_lmgtAckReceive ha n m k).of_eq (Hub.lmgtAck_commits type active turn initiator open_ id ack inTime)
  · exact fun ack late => (does_lmgtAckReceive ha n m k).of_eq (Hub.lmgtAck_late type active turn initiator open_ id ack late)
  · exact fun nak => (does_lmgtNakReceive ha n m k).of_eq (Hub.lmgtNak_refuses type active turn initiator open_ id nak)
  · exact fun unlocked allowed defined newSender =>
      ⟨_, Hub.answerReq_agrees unlocked allowed defined newSender, rfl, rfl, rfl, rfl, rfl, rfl, rfl⟩
  · exact fun t turn initiator open_ late => (does_turnAckDeadline ha n).of_eq (Hub.turnAckDeadline_passed turn initiator open_ late)

end Sys2Proof.Machine
end

section
/-! Executing and ending a lane turn (R86, R87, R89, R240, R242). -/

namespace Sys2Proof.Machine

/-! ## The commands -/

section

variable {h : Hub} (ha : h.awake)

include ha

theorem does_turnOldSenderStart (n : PortId) : Does (.turnOldSenderStart n) h (h.turnOldStart n) :=
  does_of_run ha (·.turnOldStart n) (exec_turnOldSenderStart n)

theorem does_turnOldSenderSwitch (n : PortId) : Does (.turnOldSenderSwitch n) h (h.turnOldSwitch n) :=
  does_of_run ha (·.turnOldSwitch n) (exec_turnOldSenderSwitch n)

theorem does_turnLaneRemove (n : PortId) : Does (.turnLaneRemove n) h (h.turnRemove n) :=
  does_of_run ha (·.turnRemove n) (exec_turnLaneRemove n)

theorem does_turnPark (n : PortId) : Does (.turnPark n) h (h.turnPark n) :=
  does_of_run ha (·.turnPark n) (exec_turnPark n)

theorem does_turnBurst (n : PortId) : Does (.turnBurst n) h (h.turnBurst n) :=
  does_of_run ha (·.turnBurst n) (exec_turnBurst n)

theorem does_turnStripe (n : PortId) : Does (.turnStripe n) h (h.turnStripe n) :=
  does_of_run ha (·.turnStripe n) (exec_turnStripe n)

theorem does_turnLockTimeout (n : PortId) (m : LaneId) : Does (.turnLockTimeout n m) h (h.turnLockTimeout n m) :=
  does_of_run ha (·.turnLockTimeout n m) (exec_turnLockTimeout n m)

theorem does_lmgtDoneReceive (n : PortId) (m : LaneId) (k : Blk) : Does (.lmgtDoneReceive n ⟨m, k⟩) h (h.lmgtDone n m k) :=
  does_of_run ha (·.lmgtDone n m k) (exec_lmgtDoneReceive n m k)

theorem does_lmgtFailReceive (n : PortId) (m : LaneId) (k : Blk) : Does (.lmgtFailReceive n ⟨m, k⟩) h (h.lmgtFail n m k) :=
  does_of_run ha (·.lmgtFail n m k) (exec_lmgtFailReceive n m k)

theorem does_turnTimeout (n : PortId) : Does (.turnTimeout n) h (h.turnTimeout n) :=
  does_of_run ha (·.turnTimeout n) (exec_turnTimeout n)

end

/-! ## The rows of a committed turn -/

section

variable {h : Hub} {n : Nat} {t : Turn} (turn : (h.lane n).turn = some t) (committed : t.committed = true)

include turn committed

/-- A row of Table 3-9 is executed at its time by the side and at the stage that it stands for. -/
theorem Hub.turnRow_due {side : Bool} {stage : Nat} {at_ : Int} (f : Turn → Hub → Hub) (sender : t.newSender = side)
    (reached : t.stage = stage) (due : (t.x : Int) + at_ ≤ h.ridge) :
    h.turnRow n side stage at_ f = f t (h.setTurn n { t with stage := stage + 1 }) := by
  simp only [Hub.turnRow, turn]
  rw [Hub.when_pos ⟨committed, sender, reached, due⟩]

/-- At X the lane leaves deskew (Table 3-9). -/
theorem Hub.turnRemove_due (new : t.newSender = true) (stage : t.stage = 0) (due : t.x ≤ h.ridge) : h.turnRemove n =
    (h.set F.PORT_LSTAT_RXMASK (without (h.get F.PORT_LSTAT_RXMASK n) t.lanes) n).setLane n
      { h.lane n with turn := some { t with stage := 1 }, lock := without (h.lane n).lock t.lanes } := by
  rw [Hub.turnRemove, Hub.turnRow_due turn committed _ new stage (by omega)]
  simp only [Hub.setTurn, Hub.set_lane, Hub.lane_setLane, Hub.setLane_get]
  exact Hub.setLane_setLane (h.set F.PORT_LSTAT_RXMASK _ n) n _ _

/-- Without lock 32 ticks after the burst the turn fails at the old sender, and the lane is recovered (R86, log entry 21). -/
theorem Hub.turnLockTimeout_fails {m : Nat} (old : t.newSender = false) (stage : t.stage = 2) (turning : bitOf t.lanes m = true)
    (unlocked : bitOf (h.lane n).lock m = false) : h.turnLockTimeout n m =
      let g := h.sendL0 n 3 (lmgtBlk lmFAIL t.id t.target 0 (h.lmDly n) t.x)
      let locked := t.lanes &&& (h.lane n).lock
      let k := g.set F.PORT_LSTAT_RXMASK (union (g.get F.PORT_LSTAT_RXMASK n) locked) n
      let k := k.setLane n { k.lane n with burst := without (without t.lanes locked) (2 ^ m) }
      ((k.set F.PORT_LMODE_CUR t.target n).turnOver n 4).startRecovery n m := by
  rw [Hub.turnLockTimeout]
  simp only [turn]
  rw [Hub.when_pos unlocked, Hub.when_pos ⟨committed, ne_true_of_eq_false old, stage, turning⟩]

/-- Neither DONE nor FAIL by X + 240 + 2 × Dl + 32 fails the turn at the new sender (R89). -/
theorem Hub.turnTimeout_fails (new : t.newSender = true) (late : t.x + 240 + 2 * h.dl n + 32 ≤ h.ridge) :
    h.turnTimeout n = h.turnFailed n t t.lanes := by
  simp only [Hub.turnTimeout, turn]
  rw [Hub.when_pos ⟨committed, new, late⟩]

variable {m : Nat} {k : Blk} (type : k.isA btLmgt = true) (active : h.get F.PORT_LSTAT_STATE n = 7) (new : t.newSender = true)
  (id : t.id = k.lmId)

include type active new id

theorem Hub.lmgtDone_ends (done : k.lmKind = lmDONE) (stage : t.stage = 4) :
    h.lmgtDone n m k = ((h.heard n m k).set F.PORT_LMODE_CUR t.target n).turnOver n 1 := by
  rw [Hub.lmgtDone, Hub.withLmgt_taken type done active]
  simp only [Hub.heard_lane, turn]
  exact if_pos ⟨committed, new, id, stage⟩

/-- A FAIL names no lane: one turning lane is recovered at once, of two the LREC that follows names it (R86, log entry 63). -/
theorem Hub.lmgtFail_ends (fail : k.lmKind = lmFAIL) :
    h.lmgtFail n m k = (h.heard n m k).turnFailed n t (if popCount 4 t.lanes = 1 then t.lanes else 0) := by
  rw [Hub.lmgtFail, Hub.withLmgt_taken type fail active]
  simp only [Hub.heard_lane, turn]
  exact if_pos ⟨committed, new, id⟩

end

/-! ## What an ended turn reports -/

theorem EvsOnly.lane {h g : Hub} (e : EvsOnly h g) (n : Nat) : g.lane n = h.lane n := by
  obtain ⟨⟨_, _, _, rfl⟩, -⟩ := e
  rfl

/-- The count of PORT_TURNCNT that a turn's end adds to, by its status (R89). -/
def turnCount (status : Nat) : Fld :=
  if status = 1 then F.PORT_TURNCNT_DONE else if status = 3 ∨ status = 4 then F.PORT_TURNCNT_FAILED else F.PORT_TURNCNT_REFUSED

theorem turnCount_array (status : Nat) : (turnCount status).base = 0x10014 ∧ (turnCount status).s1 = 0x1000 ∧ (turnCount status).s2 = 0 ∧
    (turnCount status).lo + (turnCount status).w ≤ 32 := by
  unfold turnCount
  split
  · decide
  split
  · decide
  · decide

/-- PORT_LMODE and PORT_TURNCNT after a turn has ended. -/
def Hub.turnShown (h : Hub) (n status : Nat) : Hub :=
  ((h.set F.PORT_LMODE_STATUS status n).set F.PORT_LMODE_BUSY 0 n).bump (turnCount status) n

theorem Hub.turnEnd_evs (h : Hub) (n status : Nat) : EvsOnly
    ((((h.setLane n { h.lane n with turn := none }).turnShown n status).set F.TRF_SHPSTAT_DWLEFT
      (((h.setLane n { h.lane n with turn := none }).turnShown n status).get F.TRF_SHPCFG_DWELL n) n).set F.TRF_SHPSTAT_STREAK 0 n)
    (h.turnEnd n status) := by
  have count (g : Hub) : (if status = 1 then g.bump F.PORT_TURNCNT_DONE n
      else if status = 3 ∨ status = 4 then g.bump F.PORT_TURNCNT_FAILED n else g.bump F.PORT_TURNCNT_REFUSED n) =
      g.bump (turnCount status) n := by
    unfold turnCount
    split
    · rfl
    · split <;> rfl
  simp only [Hub.turnEnd, count]
  exact Hub.record_evsOnly _ (by decide) _

section

variable (h : Hub) (n : PortId) (status : Nat)

theorem Hub.turnEnd_turn : ((h.turnEnd n status).lane n).turn = none := by
  have lane (g : Hub) (f : Fld) : (g.bump f n).lane n = g.lane n := rfl
  rw [(h.turnEnd_evs n status).lane, Hub.turnShown, Hub.set_lane, Hub.set_lane, lane, Hub.set_lane, Hub.set_lane, Hub.lane_setLane]

/-- A register of the port shows what the turn's end puts there. -/
theorem Hub.turnEnd_port {f : Fld} (port : 0x10000 ≤ f.base) : (h.turnEnd n status).get f n = (h.turnShown n status).get f n := by
  have bound := n.isLt
  have outside : f.addr n 0 < 0xF000 ∨ 0x10000 ≤ f.addr n 0 := .inr (by rw [Fld.addr]; omega)
  rw [(h.turnEnd_evs n status).get f n 0 outside, Hub.get_set_ne _ (by simp only [Fld.addr, F.TRF_SHPSTAT_STREAK]; omega),
    Hub.get_set_ne _ (by simp only [Fld.addr, F.TRF_SHPSTAT_DWLEFT]; omega)]
  rfl

/-- The end of a turn leaves the other fields of PORT_LMODE. -/
theorem Hub.turnEnd_lmode {f : Fld} (lmode : f.base = 0x10008) (s1 : f.s1 = 0x1000) (s2 : f.s2 = 0) :
    (h.turnEnd n status).get f n = ((h.set F.PORT_LMODE_STATUS status n).set F.PORT_LMODE_BUSY 0 n).get f n := by
  obtain ⟨base, cs1, cs2, -⟩ := turnCount_array status
  rw [Hub.turnEnd_port h n status (by omega), Hub.turnShown, Hub.bump, Hub.tally_get]
  exact Hub.get_set_elem _ (s1.trans cs1.symm) (s2.trans cs2.symm) (by omega)

theorem Hub.turnEnd_count : (h.turnEnd n status).get (turnCount status) n =
    min (h.get (turnCount status) n + 1) (2 ^ (turnCount status).w - 1) := by
  obtain ⟨base, s1, s2, fits⟩ := turnCount_array status
  rw [Hub.turnEnd_port h n status (by omega), Hub.turnShown, Hub.get_bump_same _ _ _ _ fits,
    Hub.get_set_lmode _ 0 n rfl rfl rfl s1 s2 (by omega), Hub.get_set_lmode h status n rfl rfl rfl s1 s2 (by omega)]

/-- The shepherd starts over: no streak, and a full dwell (R240, R242). -/
theorem Hub.turnEnd_shepherd : (h.turnEnd n status).get F.TRF_SHPSTAT_STREAK n = 0 ∧
    (h.turnEnd n status).get F.TRF_SHPSTAT_DWLEFT n = h.get F.TRF_SHPCFG_DWELL n % 2 ^ F.TRF_SHPSTAT_DWLEFT.w := by
  have bound := n.isLt
  obtain ⟨base, s1, s2, -⟩ := turnCount_array status
  have low {f : Fld} (trf : f.base < 0xA908) (stride : f.s1 = 8) (flat : f.s2 = 0) : f.addr n 0 < 0xB000 := by
    rw [Fld.addr, stride, flat]
    omega
  have evs := h.turnEnd_evs n status
  refine ⟨?_, ?_⟩
  · rw [evs.get _ _ _ (.inl (by have := low (f := F.TRF_SHPSTAT_STREAK) (by decide) rfl rfl; omega)),
      Hub.get_set_same _ _ _ _ _ (by decide)]
    rfl
  · have dwell : ((h.setLane n { h.lane n with turn := none }).turnShown n status).get F.TRF_SHPCFG_DWELL n = h.get F.TRF_SHPCFG_DWELL n := by
      have small := low (f := F.TRF_SHPCFG_DWELL) (by decide) rfl rfl
      rw [Hub.turnShown, Hub.bump, Hub.tally_get, Hub.get_set_ne _ (by rw [Fld.addr, Fld.addr] at *; omega)]
      rw [Hub.get_set_ne _ (by simp only [Fld.addr, F.PORT_LMODE_BUSY] at *; omega),
        Hub.get_set_ne _ (by simp only [Fld.addr, F.PORT_LMODE_STATUS] at *; omega)]
      rfl
    rw [evs.get _ _ _ (.inl (by have := low (f := F.TRF_SHPSTAT_DWLEFT) (by decide) rfl rfl; omega)),
      Hub.get_set_disj _ (by decide) (.inr (by decide)), Hub.get_set_same _ _ _ _ _ (by decide), dwell]

end

/-- Settles O20: each clause by the lemma about the row, or the end, that it names. That CUR takes the target of a turn that FAILED is log
entry 21, and that a FAIL with two turning lanes ends the turn is entry 63. -/
theorem turnRowCommands : Obligations.TurnRowCommands := by
  refine ⟨fun h ha n t turn committed => ⟨fun old stage due => ?_, fun old stage due => ?_, fun new stage due => ?_,
      fun new stage due => ?_, fun new stage due => ?_, fun new stage due => ?_, fun m old stage turning unlocked => ?_,
      fun m k type active new id => ⟨fun done stage => ?_, fun fail => ?_⟩, fun new late => ?_, fun _ => rfl⟩,
    fun h n st => ⟨h.turnEnd_turn n st, ?_, ?_, ?_, ?_, ?_, ?_, h.turnEnd_shepherd n st⟩,
    fun h ha => ⟨does_turnOldSenderStart ha, does_turnOldSenderSwitch ha, does_turnLaneRemove ha, does_turnPark ha, does_turnBurst ha,
      does_turnStripe ha, does_turnLockTimeout ha, does_lmgtDoneReceive ha, does_lmgtFailReceive ha, does_turnTimeout ha⟩⟩
  · exact (does_turnOldSenderStart ha n).of_eq (Hub.turnRow_due turn committed _ old stage due)
  · have due' : (t.x : Int) + (8 - (h.dl n : Int)) ≤ h.ridge := by
      rw [Hub.ridge]
      omega
    exact ⟨_, (does_turnOldSenderSwitch ha n).of_eq (Hub.turnRow_due turn committed _ old stage due'), rfl⟩
  · exact (does_turnLaneRemove ha n).of_eq (Hub.turnRemove_due turn committed new stage due)
  · exact (does_turnPark ha n).of_eq (Hub.turnRow_due turn committed _ new stage (by exact_mod_cast due))
  · exact (does_turnBurst ha n).of_eq (Hub.turnRow_due turn committed _ new stage (by exact_mod_cast due))
  · exact (does_turnStripe ha n).of_eq (Hub.turnRow_due turn committed _ new stage (by exact_mod_cast due))
  · exact (does_turnLockTimeout ha n m).of_eq (Hub.turnLockTimeout_fails turn committed old stage turning unlocked)
  · exact (does_lmgtDoneReceive ha n m k).of_eq (Hub.lmgtDone_ends turn committed type active new id done stage)
  · exact (does_lmgtFailReceive ha n m k).of_eq (Hub.lmgtFail_ends turn committed type active new id fail)
  · exact (does_turnTimeout ha n).of_eq (Hub.turnTimeout_fails turn committed new late)
  · rw [Hub.turnEnd_lmode h n st rfl rfl rfl, Hub.get_set_same _ _ _ _ _ (by decide)]
    rfl
  · rw [Hub.turnEnd_lmode h n st rfl rfl rfl, Hub.get_set_disj _ (by decide) (.inl (by decide)), Hub.get_set_same _ _ _ _ _ (by decide)]
    exact Nat.mod_eq_of_lt st.isLt
  · rw [Hub.turnEnd_lmode h n st rfl rfl rfl, Hub.get_set_disj _ (by decide) (.inr (by decide)),
      Hub.get_set_disj _ (by decide) (.inr (by decide))]
  · intro done
    have field : turnCount st = F.PORT_TURNCNT_DONE := by rw [done]; rfl
    exact field ▸ h.turnEnd_count n st
  · intro failed
    have field : turnCount st = F.PORT_TURNCNT_FAILED := by rcases failed with rfl | rfl <;> rfl
    exact field ▸ h.turnEnd_count n st
  · intro refused
    have field : turnCount st = F.PORT_TURNCNT_REFUSED := by rcases refused with rfl | rfl | rfl <;> rfl
    exact field ▸ h.turnEnd_count n st

end Sys2Proof.Machine
end

section
/-! Training blocks, training timeouts and block lock (R66, R67, R70, R72, R73, R74, R76, R77, R79). -/

namespace Sys2Proof.Machine

/-! ## The commands -/

section

variable {h : Hub} (ha : h.awake)

include ha

theorem does_ts1Receive (n : PortId) (m : LaneId) (k : Blk) (a : EqAsk) : Does (.ts1Receive n m ⟨k, a⟩) h (h.ts1Receive n m k a) :=
  does_of_run ha (·.ts1Receive n m k a) (exec_ts1Receive n m k a)

theorem does_ts2Receive (n : PortId) (m : LaneId) (k : Blk) : Does (.ts2Receive n m k) h (h.ts2Receive n m k) :=
  does_of_run ha (·.ts2Receive n m k) (exec_ts2Receive n m k)

theorem does_trainingTimeout (n : PortId) (bad : BitVec 4) : Does (.trainingTimeout n bad) h (h.trainingTimeout n bad.toNat) :=
  does_of_run ha (·.trainingTimeout n bad.toNat) (exec_trainingTimeout n bad)

theorem does_rateRetuneEnd (n : PortId) : Does (.rateRetuneEnd n) h (h.retuneEnd n) :=
  does_of_run ha (·.retuneEnd n) (exec_rateRetuneEnd n)

theorem does_eqPhaseIdleEnd (n : PortId) : Does (.eqPhaseIdleEnd n) h (h.eqIdleEnd n) :=
  does_of_run ha (·.eqIdleEnd n) (exec_eqPhaseIdleEnd n)

theorem does_verifyComplete (n : PortId) : Does (.verifyComplete n) h (h.verifyComplete n) :=
  does_of_run ha (·.verifyComplete n) (exec_verifyComplete n)

theorem does_blockLockAcquired (n : PortId) (m : LaneId) : Does (.blockLockAcquired n m) h (h.lockAcquired n m) :=
  does_of_run ha (·.lockAcquired n m) (exec_blockLockAcquired n m)

theorem does_blockLockLost (n : PortId) (m : LaneId) (bad : Fin 65) (lost : Bool) :
    Does (.blockLockLost n m ⟨bad, lost⟩) h (h.lockErrors n m bad.val lost) :=
  does_of_run ha (·.lockErrors n m bad.val lost) (exec_blockLockLost n m bad lost)

theorem does_eiReceive (n : PortId) (row : List Blk) : Does (.eiReceive ⟨n, row⟩) h (h.eiReceive n row) :=
  does_of_run ha (·.eiReceive n row) (exec_eiReceive n row)

theorem does_fastExitLockTimeout (n : PortId) (m : LaneId) : Does (.fastExitLockTimeout n m) h (h.fastExitTimeout n m) :=
  does_of_run ha (·.fastExitTimeout n m) (exec_fastExitLockTimeout n m)

end

/-! ## Training groups -/

theorem Hub.send_other_lane (h : Hub) (n : Nat) (o : Out) (p : Nat) : (h.send n (.other o)).lane p = h.lane p := by
  unfold Hub.send
  split
  · rfl
  · dsimp only
    split
    · rfl
    · rfl

/-- Training groups touch nothing of a port's lanes but its scramblers, and no register. -/
theorem Hub.groups_kept (h : Hub) (n lanes rate bt : Nat) (t : TsBlk) : LineOnly h (h.groups n lanes rate bt t) ∧
    ∃ scr, (h.groups n lanes rate bt t).lane n = { h.lane n with scr := scr } := by
  rw [Hub.groups, Hub.each]
  induction bitList 4 0 lanes generalizing h with
  | nil => exact ⟨.refl h, _, rfl⟩
  | cons m l ih =>
    rw [List.foldl_cons]
    obtain ⟨line, scr, lane⟩ := ih (Hub.send _ n _)
    refine ⟨((LineOnly.setLane h n _).trans (Hub.send_line _ n _)).trans line, scr, lane.trans ?_⟩
    rw [Hub.send_other_lane, Hub.lane_setLane]

/-! ## Training blocks -/

section

variable {h : Hub} {n m : Nat} {k : Blk} {a : EqAsk}

theorem Hub.not_backToTraining {s : Nat} (state : h.get F.PORT_LSTAT_STATE n = s) (other : s ≠ 7) : h.backToTraining n m = false := by
  rw [Hub.backToTraining, Bool.eq_false_iff.mpr (Hub.not_active state other), Bool.false_and, Bool.false_and]

theorem Hub.backToTraining_of (active : h.get F.PORT_LSTAT_STATE n = 7) (receives : bitOf (h.get F.PORT_LSTAT_RXMASK n) m = true)
    (healthy : bitOf (h.get F.PORT_LSTAT_RECOV n) m = false) : h.backToTraining n m = true := by
  rw [Hub.backToTraining, Hub.active_of active, receives, healthy]
  rfl

/-- A bad TS1 breaks the row of good ones on its lane (R70). -/
theorem Hub.ts1Receive_bad (bad : k.isA btTS1 = false) : h.ts1Receive n m k a =
    ((h.heard n m k).shErr n m 1).setLane n { (h.heard n m k).lane n with ts1 := Tab.set 0 ((h.heard n m k).lane n).ts1 m 0 } :=
  if_pos (ne_true_of_eq_false bad)

theorem Hub.ts2Receive_bad (bad : k.isA btTS2 = false) : h.ts2Receive n m k =
    ((h.heard n m k).shErr n m 1).setLane n { (h.heard n m k).lane n with ts2 := 0 } :=
  if_pos (ne_true_of_eq_false bad)

/-- A training block on a healthy receive lane takes an ACTIVE port back to training (Table 3-4). -/
theorem Hub.ts1Receive_drops (type : k.isA btTS1 = true) (active : h.get F.PORT_LSTAT_STATE n = 7)
    (receives : bitOf (h.get F.PORT_LSTAT_RXMASK n) m = true) (healthy : bitOf (h.get F.PORT_LSTAT_RECOV n) m = false) :
    h.ts1Receive n m k a = (h.heard n m k).dropLanes n causeLanes :=
  (if_neg (not_not.mpr type)).trans (if_pos (Hub.backToTraining_of (h := h.heard n m k) active receives healthy))

theorem Hub.ts2Receive_drops (type : k.isA btTS2 = true) (active : h.get F.PORT_LSTAT_STATE n = 7)
    (receives : bitOf (h.get F.PORT_LSTAT_RXMASK n) m = true) (healthy : bitOf (h.get F.PORT_LSTAT_RECOV n) m = false) :
    h.ts2Receive n m k = (h.heard n m k).dropLanes n causeLanes :=
  (if_neg (not_not.mpr type)).trans (if_pos (Hub.backToTraining_of (h := h.heard n m k) active receives healthy))

/-- What a good TS1 of a locked lane leaves in ALIGN: one more of them, and what the partner announces (R70, R73). -/
def LaneSt.aligned (l : LaneSt) (m : Nat) (t : TsBlk) : LaneSt :=
  { l with ts1 := Tab.set 0 l.ts1 m (Tab.get 0 l.ts1 m + 1), prates := t.rates, ptgt := t.tgt, pretire := t.retire, prole := t.role }

section

variable (type : k.isA btTS1 = true)

include type

theorem Hub.ts1Receive_aligns (align : h.get F.PORT_LSTAT_STATE n = 2) (locked : bitOf (h.lane n).lock m = true) :
    h.ts1Receive n m k a =
      let g := (h.heard n m k).setLane n (((h.heard n m k).lane n).aligned m k.ts)
      if Tab.get 0 (h.lane n).ts1 m + 1 = 8 then
        (((g.setLane n { g.lane n with ctl := some m }).enter n lsCONFIG).groups n 3 0 btTS1
          (((g.setLane n { g.lane n with ctl := some m }).enter n lsCONFIG).ownTs n))
      else g := by
  have stays : ¬ (h.heard n m k).backToTraining n m = true :=
    ne_true_of_eq_false (Hub.not_backToTraining (h := h.heard n m k) align (by decide))
  have aligning : (h.heard n m k).lstate n = lsALIGN ∧ bitOf ((h.heard n m k).lane n).lock m = true :=
    ⟨align, by rwa [Hub.heard_lane]⟩
  have before : ((h.heard n m k).lane n).ts1 = (h.lane n).ts1 := by rw [Hub.heard_lane]
  rw [Hub.ts1Receive]
  simp only [if_neg (not_not.mpr type), if_neg stays, if_pos aligning, LaneSt.aligned, before]

/-- The eighth good TS1 in a row on a lane starts CONFIG with it as the control lane (R70). -/
theorem Hub.ts1Receive_eighth (align : h.get F.PORT_LSTAT_STATE n = 2) (locked : bitOf (h.lane n).lock m = true)
    (seven : Tab.get 0 (h.lane n).ts1 m = 7) : (h.ts1Receive n m k a).get F.PORT_LSTAT_STATE n = 3 ∧
      ((h.ts1Receive n m k a).lane n).ctl = some m ∧ ((h.ts1Receive n m k a).lane n).since = h.now ∧
      ((h.ts1Receive n m k a).lane n).ptgt = k.ts.tgt ∧ ((h.ts1Receive n m k a).lane n).pretire = k.ts.retire := by
  rw [Hub.ts1Receive_aligns type align locked]
  dsimp only
  rw [if_pos (by rw [seven])]
  obtain ⟨line, scr, lane⟩ := Hub.groups_kept (((((h.heard n m k).setLane n (((h.heard n m k).lane n).aligned m k.ts)).setLane n
    { ((h.heard n m k).setLane n (((h.heard n m k).lane n).aligned m k.ts)).lane n with ctl := some m }).enter n lsCONFIG)) n 3 0 btTS1
    _
  rw [line.get, lane, Hub.enter, Hub.set_lane, Hub.lane_setLane, Hub.lane_setLane, Hub.lane_setLane]
  exact ⟨Hub.get_set_same _ F.PORT_LSTAT_STATE 3 n 0 (by decide), rfl, rfl, rfl, rfl⟩

theorem Hub.ts1Receive_equalises (eq : h.get F.PORT_LSTAT_STATE n = 5) :
    h.ts1Receive n m k a = (((h.heard n m k).eqRequest n k.ts).eqStatus n k.ts).eqAsk n m a := by
  have stays : ¬ (h.heard n m k).backToTraining n m = true :=
    ne_true_of_eq_false (Hub.not_backToTraining (h := h.heard n m k) eq (by decide))
  have state : (h.heard n m k).lstate n = 5 := eq
  rw [Hub.ts1Receive]
  simp only [if_neg (not_not.mpr type), if_neg stays, state]
  rfl

end

end

/-! ## The end of CONFIG -/

theorem Hub.agreedRate_le (h : Hub) (n : Nat) : h.agreedRate n ≤ 2 :=
  (Nat.min_le_left _ _).trans ((Nat.min_le_left _ _).trans (Nat.min_le_right _ _))

section

variable {h g : Hub} {n : Nat} (regs : g.regs = h.regs)

include regs

theorem Hub.agreedRate_congr (ceil : (g.lane n).ceil = (h.lane n).ceil) (ptgt : (g.lane n).ptgt = (h.lane n).ptgt) :
    g.agreedRate n = h.agreedRate n := by
  simp only [Hub.agreedRate, Hub.ownTs, Hub.get_congr regs, ceil, ptgt]

theorem Hub.agreedRetire_congr (pretire : (g.lane n).pretire = (h.lane n).pretire) : g.agreedRetire n = h.agreedRetire n := by
  rw [Hub.agreedRetire, Hub.get_congr regs, pretire, Hub.agreedRetire]

end

/-- A pair that is retired while the port trains leaves its training state (R81). -/
theorem Hub.retire_training {h : Hub} (n : PortId) (m cause : Nat) (training : h.get F.PORT_LSTAT_STATE n ≠ 7) :
    (h.retire n m cause).get F.PORT_LSTAT_STATE n = h.get F.PORT_LSTAT_STATE n ∧ (h.retire n m cause).time = h.time := by
  have bound := n.isLt
  unfold Hub.retire
  dsimp only
  split
  · exact ⟨rfl, rfl⟩
  have state : Hub.get (Hub.rec1 (((h.set F.PORT_LRETIRE_MASK (h.get F.PORT_LRETIRE_MASK n + 2 ^ m) n).set F.PORT_LRETIRE_CAUSE cause n).set
      F.PORT_LSTAT_RETIRED (h.get F.PORT_LRETIRE_MASK n + 2 ^ m) n) n 4 0x04 n
        (2 ^ 16 * (h.get F.PORT_LRETIRE_MASK n + 2 ^ m) + cause)) F.PORT_LSTAT_STATE n = h.get F.PORT_LSTAT_STATE n := by
    rw [Hub.rec1, (Hub.record_evsOnly _ (p := n) (by omega) _).get F.PORT_LSTAT_STATE n 0
        (.inr (by simp only [Fld.addr, F.PORT_LSTAT_STATE]; omega)),
      Hub.get_set_disj _ (by decide) (.inr (by decide)), Hub.get_set_elem _ (by rfl) (by rfl) (by decide),
      Hub.get_set_elem _ (by rfl) (by rfl) (by decide)]
  rw [if_neg (Hub.not_active state training), Hub.rec1_time]
  exact ⟨state, rfl⟩

theorem Hub.retireAll_training {h : Hub} (n : PortId) (cause : Nat) (l : List Nat) (training : h.get F.PORT_LSTAT_STATE n ≠ 7) :
    (h.each l (fun m g => g.retire n m cause)).time = h.time := by
  induction l generalizing h with
  | nil => rfl
  | cons m l ih =>
    obtain ⟨state, time⟩ := h.retire_training n m cause training
    exact (ih (by rwa [state])).trans time

/-- Agreement in CONFIG: the lanes go to RATE with the agreed rate and set (R70, R73). -/
theorem Hub.configDone_agrees {h : Hub} (n : PortId) (config : h.get F.PORT_LSTAT_STATE n = 3)
    (enough : popCount 4 (h.agreedRetire n) < 2) : (h.configDone n).get F.PORT_LSTAT_STATE n = 4 ∧
      (h.configDone n).get F.PORT_LSTAT_RATE n = h.agreedRate n % 8 ∧
      ((h.configDone n).lane n).set = without 15 (h.agreedRetire n) ∧ ((h.configDone n).lane n).since = h.now := by
  have time := h.retireAll_training n 5 (bitList 4 0 (without (h.agreedRetire n) (h.get F.PORT_LRETIRE_MASK n)))
    (by rw [config]; decide)
  have few : ¬ 2 ≤ popCount 4 (h.agreedRetire n) := by omega
  have rate := h.agreedRate_le n
  simp only [Hub.configDone, if_neg few, Hub.enter]
  refine ⟨Hub.get_set_same _ F.PORT_LSTAT_STATE 4 n 0 (by decide), ?_, ?_, ?_⟩
  · refine (Hub.get_set_disj _ (by decide) (.inl (by decide))).trans ((Hub.get_set_same _ F.PORT_LSTAT_RATE _ n 0 (by decide)).trans ?_)
    show h.agreedRate n % 4 = _
    omega
  · show (Hub.lane (Hub.setLane _ n _) n).set = _
    rw [Hub.lane_setLane, Hub.set_lane, Hub.lane_setLane]
  · show (Hub.lane (Hub.setLane _ n _) n).since = _
    rw [Hub.lane_setLane]
    exact congrArg TimeSt.tick time

section

variable {h : Hub} {n m : Nat} {k : Blk}

/-- The eighth agreeing TS2, with sixteen sent, ends CONFIG (R70, R72). -/
theorem Hub.ts2Receive_agrees (type : k.isA btTS2 = true) (config : h.get F.PORT_LSTAT_STATE n = 3) (control : (h.lane n).ctl = some m)
    (sending : (h.lane n).ts2From.isSome = true) (rate : k.ts.tgt = h.agreedRate n) (pairs : flipMask k.ts.retire = h.agreedRetire n)
    (eight : 7 ≤ (h.lane n).ts2) (sent : h.sent16 n = true) : h.ts2Receive n m k =
      ((h.heard n m k).setLane n { (h.heard n m k).lane n with ts2 := (h.lane n).ts2 + 1 }).configDone n := by
  have stays : ¬ (h.heard n m k).backToTraining n m = true :=
    ne_true_of_eq_false (Hub.not_backToTraining (h := h.heard n m k) config (by decide))
  have controls : (h.heard n m k).lstate n = lsCONFIG ∧ ((h.heard n m k).lane n).ctl = some m := ⟨config, by rwa [Hub.heard_lane]⟩
  have begun : ¬ ((h.heard n m k).lane n).ts2From.isNone = true := by
    rw [Hub.heard_lane]
    exact ne_true_of_eq_false (Option.isNone_eq_false_iff.mpr sending)
  have agrees : (k.ts.tgt == (h.heard n m k).agreedRate n && flipMask k.ts.retire == (h.heard n m k).agreedRetire n) = true := by
    rw [Hub.agreedRate_congr (g := h.heard n m k) (h := h) rfl (by rw [Hub.heard_lane]) (by rw [Hub.heard_lane]),
      Hub.agreedRetire_congr (g := h.heard n m k) (h := h) rfl (by rw [Hub.heard_lane]), rate, pairs, beq_self_eq_true, beq_self_eq_true]
    rfl
  have counted : ((h.heard n m k).lane n).ts2 = (h.lane n).ts2 := by rw [Hub.heard_lane]
  have sixteen : ((h.heard n m k).setLane n { (h.heard n m k).lane n with ts2 := (h.lane n).ts2 + 1 }).sent16 n = true := by
    rw [← sent]
    simp only [Hub.sent16, Hub.lane_setLane, Hub.heard_lane]
    rfl
  rw [Hub.ts2Receive]
  simp only [if_neg (not_not.mpr type), if_neg stays, if_pos controls, if_neg begun, if_pos agrees, counted]
  have eighth : 8 ≤ (((h.heard n m k).setLane n { (h.heard n m k).lane n with ts2 := (h.lane n).ts2 + 1 }).lane n).ts2 := by
    rw [Hub.lane_setLane]
    exact Nat.succ_le_succ eight
  exact if_pos (And.intro eighth sixteen)

end

/-! ## Timers of training -/

section

variable {h : Hub} {n : Nat}

/-- Once the agreed rate is tuned, training groups are sent at it (R70). -/
theorem Hub.retuneEnd_trains (rate : h.get F.PORT_LSTAT_STATE n = 4) (idle : (h.lane n).retuned = false)
    (waited : (h.lane n).since + 400 ≤ h.now) : h.retuneEnd n =
      let g := h.setLane n { h.lane n with retuned := true }
      g.groups n (g.trainTx n) (g.get F.PORT_LSTAT_RATE n) btTS1 (g.ownTs n) := by
  rw [Hub.retuneEnd, Hub.when_pos ⟨rate, idle, decide_eq_true waited⟩]

theorem Hub.eqIdleEnd_trains {t : Nat} (eq : h.get F.PORT_LSTAT_STATE n = 5) (ends : (h.lane n).eqIdle = some t) (due : t ≤ h.now) :
    h.eqIdleEnd n =
      let g := (h.setLane n { h.lane n with eqIdle := none }).burst n (h.turningLanes n &&& h.trainTx n)
      g.eqStart n (g.turningLanes n &&& g.trainRx n) ((g.lane n).phase == 1) := by
  have reached : h.due (h.lane n).eqIdle = true := by
    rw [ends]
    exact decide_eq_true due
  rw [Hub.eqIdleEnd, Hub.when_pos ⟨eq, reached⟩]

end

/-! ## The end of VERIFY -/

/-- A port that has just become ACTIVE in the training-default mode (R60, R82). -/
def Hub.activated (h : Hub) (n : Nat) : Hub :=
  let g := (h.enter n lsACTIVE).setMode n (h.defaultMode n (15 - (h.lane n).set))
  let g := if (h.lane n).failed then g.bump F.PORT_TRCNT_TRANSIENT n else g
  let g := g.setLane n { g.lane n with failed := false, single := none, multi := none, nrz := 0, lock := g.get F.PORT_LSTAT_RXMASK n }
  (g.firstSlot n).set F.PORT_LSTAT_ROLE ((g.firstSlot n).tsRole n) n

section

variable (h : Hub) (n : Nat)

/-- A count of transients leaves the registers that PORT_TRCNT is not. -/
theorem Hub.get_countTransient (c : Bool) {f : Fld} (s1 : f.s1 = 0x1000) (s2 : f.s2 = 0) (other : f.base ≠ 0x10010) :
    (if c then h.bump F.PORT_TRCNT_TRANSIENT n else h).get f n = h.get f n := by
  split
  · exact Hub.get_set_elem h s1 s2 other
  · rfl

theorem Hub.activated_state : (h.activated n).get F.PORT_LSTAT_STATE n = 7 := by
  rw [Hub.activated, Hub.get_set_disj _ (by decide) (.inr (by decide)), Hub.firstSlot, Hub.setLane_get, Hub.setLane_get,
    Hub.get_countTransient _ _ _ rfl rfl (by decide), Hub.setMode, Hub.get_set_disj _ (by decide) (.inr (by decide)),
    Hub.get_set_disj _ (by decide) (.inr (by decide)), Hub.get_set_elem _ (by rfl) (by rfl) (by decide)]
  exact Hub.get_set_same _ F.PORT_LSTAT_STATE 7 n 0 (by decide)

theorem Hub.activated_mask : (h.activated n).get F.PORT_LRETIRE_MASK n = h.get F.PORT_LRETIRE_MASK n := by
  rw [Hub.activated, Hub.get_set_elem _ (by rfl) (by rfl) (by decide), Hub.firstSlot, Hub.setLane_get, Hub.setLane_get,
    Hub.get_countTransient _ _ _ rfl rfl (by decide), Hub.setMode, Hub.get_set_elem _ (by rfl) (by rfl) (by decide),
    Hub.get_set_elem _ (by rfl) (by rfl) (by decide), Hub.get_set_elem _ (by rfl) (by rfl) (by decide)]
  exact Hub.get_set_elem _ (by rfl) (by rfl) (by decide)

theorem Hub.activated_lane : ((h.activated n).lane n).set = (h.lane n).set ∧ ((h.activated n).lane n).since = h.now ∧
    ((h.activated n).lane n).lock = (h.activated n).get F.PORT_LSTAT_RXMASK n := by
  have lane (c : Bool) (g : Hub) : (if c then g.bump F.PORT_TRCNT_TRANSIENT n else g).lane n = g.lane n := by split <;> rfl
  rw [Hub.activated, Hub.get_set_disj _ (by decide) (.inr (by decide))]
  simp only [Hub.set_lane, Hub.firstSlot, Hub.lane_setLane, Hub.setLane_get, lane, Hub.setMode, Hub.enter, true_and]

end

section

variable {h : Hub} {n : Nat}

theorem Hub.leavePair_out {m : Nat} (announce : Bool) (out : bitOf (h.outPairs n) m = true) : h.leavePair n m announce = h := if_pos out

/-- No pair leaves when all that are retired are out of the lane set already. -/
theorem Hub.each_leavePair_out {l : List Nat} (out : ∀ m ∈ l, bitOf (h.outPairs n) m = true) :
    h.each l (fun m g => if g.active n then g.leavePair n m true else g) = h := by
  induction l with
  | nil => rfl
  | cons m l ih =>
    have stays : (if h.active n then h.leavePair n m true else h) = h := by
      rw [Hub.leavePair_out true (out m List.mem_cons_self), ite_self]
    have later := ih fun i hi => out i (List.mem_cons_of_mem _ hi)
    rw [Hub.each, List.foldl_cons, stays]
    exact later

variable (verify : h.get F.PORT_LSTAT_STATE n = 6) (long : (h.lane n).since + 16384 ≤ h.now) (clean : (h.lane n).errAt + 16384 ≤ h.now)

include verify long clean

/-- 16,384 clean ticks have READY sent (R72). -/
theorem Hub.verifyComplete_readies (first : (h.lane n).ts2From = none) : h.verifyComplete n = h.beginTs2 n (h.trainTx n) 3 true := by
  rw [Hub.verifyComplete, Hub.when_pos ⟨verify, decide_eq_true long, clean⟩, if_pos (by rw [first]; rfl)]

/-- READY exchanged: the port is ACTIVE, with no pair to leave where the mask is that of the lane set (R70, R81). -/
theorem Hub.verifyComplete_activates (ready : (h.lane n).readyRx = true) (sent : h.sent16 n = true)
    (mask : h.get F.PORT_LRETIRE_MASK n = 15 - (h.lane n).set) : h.verifyComplete n = h.activated n := by
  have begun : ¬ (h.lane n).ts2From.isNone = true := by
    rw [Option.isNone_iff_eq_none]
    intro fresh
    simp only [Hub.sent16, fresh, Bool.false_eq_true] at sent
  obtain ⟨set, -, -⟩ := h.activated_lane n
  have pairs : (h.activated n).outPairs n = (h.activated n).get F.PORT_LRETIRE_MASK n := by
    rw [Hub.outPairs, if_pos (Hub.active_of (h.activated_state n)), set, h.activated_mask n, mask]
  have stays := Hub.each_leavePair_out (h := h.activated n) (n := n) (l := bitList 4 0 ((h.activated n).get F.PORT_LRETIRE_MASK n))
    fun m hm => pairs ▸ (mem_bitList hm).1
  rw [Hub.verifyComplete, Hub.when_pos ⟨verify, decide_eq_true long, clean⟩, if_neg begun, if_pos ⟨ready, sent⟩]
  exact stays

end

/-! ## Block lock -/

section

variable {h : Hub} {n m : Nat}

theorem Hub.lockAcquired_again (locked : bitOf (h.lane n).lock m = true) : h.lockAcquired n m = h := by
  rw [Hub.lockAcquired, Hub.when_neg (by rw [locked]; decide)]

variable (unlocked : bitOf (h.lane n).lock m = false) (notHold : h.get F.TIME_STAT_STATE ≠ 4)

include notHold in
theorem Hub.holdReacquire_not (p : Nat) : h.holdReacquire p = h := if_neg fun both => notHold both.1

include unlocked notHold

theorem Hub.lockAcquired_align (align : h.get F.PORT_LSTAT_STATE n = 2) :
    h.lockAcquired n m = h.setLane n { h.lane n with lock := (h.lane n).lock + 2 ^ m } := by
  rw [Hub.lockAcquired, Hub.when_pos unlocked]
  simp only [Hub.holdReacquire_not (h := h.setLane n _) notHold, Hub.lstate, Hub.setLane_get, align]

/-- In LOOPBACK an enabled checker has synchronised with the lane (R91, log entry 22). -/
theorem Hub.lockAcquired_loopback (looped : h.get F.PORT_LSTAT_STATE n = 8) : h.lockAcquired n m =
    let g := h.setLane n { h.lane n with lock := (h.lane n).lock + 2 ^ m }
    g.setLane n { g.lane n with
      since := h.now
      chk := if bitOf (h.get F.PORT_PRBS_CHKEN n) m then union (h.lane n).chk (2 ^ m) else (h.lane n).chk } := by
  rw [Hub.lockAcquired, Hub.when_pos unlocked]
  simp only [Hub.holdReacquire_not (h := h.setLane n _) notHold, Hub.lstate, Hub.setLane_get, looped]
  rfl

end

section

variable {h : Hub} {n m bad : Nat} {lost : Bool}

/-- A synchronised checker counts errored bits (R91, log entry 22). -/
theorem Hub.lineErrors_prbs (looped : h.get F.PORT_LSTAT_STATE n = 8) (synchronised : bitOf (h.lane n).chk m = true) :
    (h.lineErrors n m bad lost).get F.PORT_PRBSERR_ERR n m = min (h.get F.PORT_PRBSERR_ERR n m + bad) (2 ^ 32 - 1) ∧
      (h.lineErrors n m bad lost).lanes = h.lanes := by
  rw [Hub.lineErrors, if_pos ⟨looped, synchronised⟩, Hub.tally_get, Hub.get_set_same _ _ _ _ _ (by decide)]
  refine ⟨Nat.mod_eq_of_lt ?_, rfl⟩
  simp only [F.PORT_PRBSERR_ERR]
  omega

/-- Elsewhere invalid sync headers are counted, and restart clean times (R67). -/
theorem Hub.lineErrors_header (other : h.get F.PORT_LSTAT_STATE n ≠ 8 ∨ bitOf (h.lane n).chk m = false) :
    (h.lineErrors n m bad lost).get F.PORT_LERR_SHERR n m = min (h.get F.PORT_LERR_SHERR n m + bad) (2 ^ 24 - 1) ∧
      ((h.lineErrors n m bad lost).lane n).errAt = h.now := by
  have notPrbs : ¬ (h.lstate n = lsLOOPBACK ∧ bitOf (h.lane n).chk m = true) := by
    rintro ⟨looped, synchronised⟩
    rcases other with state | idle
    · exact state looped
    · exact ne_true_of_eq_false idle synchronised
  have bound : h.get F.PORT_LERR_SHERR n m < 2 ^ 24 := h.get_lt _ _ _
  rw [Hub.lineErrors, if_neg notPrbs, Hub.setLane_get, Hub.lane_setLane]
  split
  next zero =>
    refine ⟨?_, rfl⟩
    rw [zero]
    omega
  next =>
    refine ⟨?_, rfl⟩
    rw [Hub.shErr, Hub.tally_get, Hub.get_set_same _ _ _ _ _ (by decide)]
    refine Nat.mod_eq_of_lt ?_
    simp only [F.PORT_LERR_SHERR]
    omega

theorem Hub.lineErrors_lock : ((h.lineErrors n m bad lost).lane n).lock = (h.lane n).lock := by
  simp only [Hub.lineErrors]
  split
  · rfl
  · rw [Hub.lane_setLane]

theorem Hub.lockErrors_kept (kept : lost = false ∨ bitOf (h.lane n).lock m = false) :
    h.lockErrors n m bad lost = h.lineErrors n m bad lost := by
  refine if_neg ?_
  rintro ⟨lose, locked⟩
  rw [Hub.lineErrors_lock] at locked
  rcases kept with keeps | unlocked
  · exact ne_true_of_eq_false keeps lose
  · exact ne_true_of_eq_false unlocked locked

theorem Hub.lockErrors_lost (locked : bitOf (h.lane n).lock m = true) :
    h.lockErrors n m bad true = (h.lineErrors n m bad true).lockLost n m := if_pos ⟨rfl, by rwa [Hub.lineErrors_lock]⟩

end

/-! ## Loss of block lock -/

/-- A lane out of block lock, with the loss counted (R67). -/
def Hub.unlocked (h : Hub) (n m : Nat) : Hub :=
  let g := (h.set F.PORT_LERR_LOCKLOSS (min (h.get F.PORT_LERR_LOCKLOSS n m + 1) 255) n m).tally F.PORT_LERR_LOCKLOSS n m 1
  g.setLane n { h.lane n with lock := (h.lane n).lock - 2 ^ m, errAt := g.now }

section

variable {h : Hub} {n m : Nat}

theorem Hub.unlocked_lane : (h.unlocked n m).lane n = { h.lane n with lock := (h.lane n).lock - 2 ^ m, errAt := h.now } :=
  Hub.lane_setLane _ n _

theorem Hub.unlocked_get {f : Fld} (s1 : f.s1 = 0x1000) (s2 : f.s2 = 0) (low : f.base < 0x10020) :
    (h.unlocked n m).get f n = h.get f n := Hub.get_set_lerr h _ n m (e := F.PORT_LERR_LOCKLOSS) rfl rfl s1 s2 low

theorem Hub.lockLost_align (align : h.get F.PORT_LSTAT_STATE n = 2) : h.lockLost n m = h.unlocked n m := by
  have state : (h.unlocked n m).get F.PORT_LSTAT_STATE n = 2 := (Hub.unlocked_get rfl rfl (by decide)).trans align
  simp only [Hub.unlocked] at state
  simp only [Hub.lockLost, Hub.lstate, state]
  rfl

/-- In ACTIVE the lane is recovered, or, as the last one in lock, takes the port to DETECT (R69, R80). -/
theorem Hub.lockLost_active (active : h.get F.PORT_LSTAT_STATE n = 7) (still : (h.lane n).turn = none) : h.lockLost n m =
    if without (h.get F.PORT_LSTAT_RXMASK n) (without 15 ((h.lane n).lock - 2 ^ m)) = 0 then (h.unlocked n m).dropLanes n causeLanes
    else if bitOf (h.get F.PORT_LSTAT_RXMASK n) m then (h.unlocked n m).startRecovery n m else h.unlocked n m := by
  have state : (h.unlocked n m).get F.PORT_LSTAT_STATE n = 7 := (Hub.unlocked_get rfl rfl (by decide)).trans active
  have receives : (h.unlocked n m).get F.PORT_LSTAT_RXMASK n = h.get F.PORT_LSTAT_RXMASK n := Hub.unlocked_get rfl rfl (by decide)
  have noTurn : (h.unlocked n m).turnLoss n = h.unlocked n m := by
    simp only [Hub.turnLoss, Hub.unlocked_lane, still]
  have lock : ((h.unlocked n m).lane n).lock = (h.lane n).lock - 2 ^ m := by rw [Hub.unlocked_lane]
  rw [← receives, ← lock]
  conv => rhs; rw [← noTurn]
  simp only [Hub.unlocked] at state
  simp only [Hub.lockLost, Hub.lstate, state]
  rfl

/-! ## EI rows -/

/-- A good EI takes the receive direction to electrical idle, while no turn is starting (R117). -/
theorem Hub.eiReceive_idles {row : List Blk} (active : h.get F.PORT_LSTAT_STATE n = 7) (still : (h.lane n).turn = none)
    (good : ∃ k ∈ row, k.isA btEI = true) : h.eiReceive n row =
      ((h.rowErrors n btEI row).set F.PORT_LKSTAT_RXIDLE 1 n).setLane n { (h.rowErrors n btEI row).lane n with
        lock := without (h.lane n).lock (h.get F.PORT_LSTAT_RXMASK n) } := by
  have kept := RowKept.rowErrors h n btEI row
  obtain ⟨des, lane⟩ := kept.1
  have noTurn : ¬ ((h.rowErrors n btEI row).lane n).turn.any (fun t => t.committed && t.newSender && t.stage == 0) = true := by
    rw [lane, still]
    exact Bool.false_ne_true
  rw [Hub.eiReceive, Hub.when_pos (Hub.active_of active), Hub.when_pos ⟨List.any_eq_true.mpr good, noTurn⟩,
    kept.get rfl rfl (by decide), lane]

theorem Hub.eiReceive_bad {row : List Blk} (active : h.get F.PORT_LSTAT_STATE n = 7) (bad : ∀ k ∈ row, k.isA btEI = false) :
    h.eiReceive n row = h.rowErrors n btEI row := by
  rw [Hub.eiReceive, Hub.when_pos (Hub.active_of active), Hub.when_neg]
  rintro ⟨good, -⟩
  obtain ⟨k, mem, ei⟩ := List.any_eq_true.mp good
  exact ne_true_of_eq_false (bad k mem) ei

/-- A lane without lock after a fast exit is recovered; as the last, it takes the port to DETECT (R79). -/
theorem Hub.fastExitTimeout_unlocked (active : h.get F.PORT_LSTAT_STATE n = 7) (receives : bitOf (h.get F.PORT_LSTAT_RXMASK n) m = true)
    (unlocked : (h.lane n).lock = 0) : h.fastExitTimeout n m =
      if (without (h.get F.PORT_LSTAT_RXMASK n) (2 ^ m)) &&& without 15 (h.get F.PORT_LSTAT_RECOV n) = 0 then h.dropLanes n causeLanes
      else h.startRecovery n m := by
  have noLock : bitOf (h.lane n).lock m = false := by rw [unlocked, bitOf_eq_testBit, Nat.zero_testBit]
  rw [Hub.fastExitTimeout, Hub.when_pos ⟨Hub.active_of active, receives, noLock⟩, if_neg (not_not.mpr unlocked)]

end

/-- Settles O17: each clause by the lemma about the block, the timer or the loss that it names. Checkers shown by block lock are log entry
22, errors carried by their row entry 20, sixteen TS2 by time entry 19, and the failing phase of EQ entry 63. -/
theorem trainingCommands : Obligations.TrainingCommands := by
  refine ⟨fun h ha n => ⟨fun m k a => ⟨?_, fun type align locked => ⟨?_, ?_⟩, ?_, ?_⟩, fun m k => ⟨?_, ?_, ?_⟩,
      fun b => ⟨?_, ?_, ?_, ?_, ?_⟩, ?_, ?_, fun verify long clean => ⟨?_, ?_⟩⟩,
    fun h ha n m => ⟨?_, ?_, ?_, fun bad => ⟨?_, ?_, ?_, ?_, ?_⟩, ⟨?_, ?_⟩, fun row active still => ⟨?_, ?_⟩,
      fun active receives unlocked => ⟨?_, ?_⟩⟩,
    fun h ha => ⟨does_ts1Receive ha, does_ts2Receive ha, does_trainingTimeout ha, does_rateRetuneEnd ha, does_eqPhaseIdleEnd ha,
      does_verifyComplete ha, does_blockLockAcquired ha, does_blockLockLost ha, does_eiReceive ha, does_fastExitLockTimeout ha⟩⟩
  · exact fun bad => (does_ts1Receive ha n m k a).of_eq (Hub.ts1Receive_bad bad)
  · exact fun seven => ⟨_, does_ts1Receive ha n m k a, Hub.ts1Receive_eighth type align locked seven⟩
  · intro few
    refine (does_ts1Receive ha n m k a).of_eq ((Hub.ts1Receive_aligns type align locked).trans (if_neg (by omega)) |>.trans ?_)
    simp only [LaneSt.aligned, Hub.heard_lane]
  · exact fun type eq => (does_ts1Receive ha n m k a).of_eq (Hub.ts1Receive_equalises type eq)
  · exact fun type active receives healthy => (does_ts1Receive ha n m k a).of_eq (Hub.ts1Receive_drops type active receives healthy)
  · exact fun bad => (does_ts2Receive ha n m k).of_eq (Hub.ts2Receive_bad bad)
  · intro type config control sending rate pairs eight sent enough
    have done := (does_ts2Receive ha n m k).of_eq (Hub.ts2Receive_agrees type config control sending rate pairs eight sent)
    have sameRate : ((h.heard n m k).setLane n { (h.heard n m k).lane n with ts2 := (h.lane n).ts2 + 1 }).agreedRate n = h.agreedRate n :=
      Hub.agreedRate_congr rfl (by rw [Hub.lane_setLane, Hub.heard_lane]) (by rw [Hub.lane_setLane, Hub.heard_lane])
    have samePairs : ((h.heard n m k).setLane n { (h.heard n m k).lane n with ts2 := (h.lane n).ts2 + 1 }).agreedRetire n =
      h.agreedRetire n := Hub.agreedRetire_congr rfl (by rw [Hub.lane_setLane, Hub.heard_lane])
    have agreed := Hub.configDone_agrees (h := (h.heard n m k).setLane n { (h.heard n m k).lane n with ts2 := (h.lane n).ts2 + 1 }) n
      config (by rwa [samePairs])
    rw [sameRate, samePairs] at agreed
    exact ⟨_, done, agreed⟩
  · exact fun type active receives healthy => (does_ts2Receive ha n m k).of_eq (Hub.ts2Receive_drops type active receives healthy)
  · intro align late
    refine (does_trainingTimeout ha n b).of_eq ?_
    simp only [Hub.trainingTimeout, Hub.lstate, align]
    exact Hub.when_pos (decide_eq_true late)
  · intro config late
    refine (does_trainingTimeout ha n b).of_eq ?_
    simp only [Hub.trainingTimeout, Hub.lstate, config]
    exact Hub.when_pos (decide_eq_true late)
  · intro rate late
    refine (does_trainingTimeout ha n b).of_eq ?_
    simp only [Hub.trainingTimeout, Hub.lstate, rate]
    exact Hub.when_pos (decide_eq_true late)
  · intro eq late
    refine (does_trainingTimeout ha n b).of_eq ?_
    simp only [Hub.trainingTimeout, Hub.lstate, eq]
    exact Hub.when_pos (late.imp_left fun whole => decide_eq_true whole)
  · intro verify late
    refine (does_trainingTimeout ha n b).of_eq ?_
    simp only [Hub.trainingTimeout, Hub.lstate, verify]
    exact Hub.when_pos (decide_eq_true late)
  · exact fun rate idle waited => (does_rateRetuneEnd ha n).of_eq (Hub.retuneEnd_trains rate idle waited)
  · exact fun t eq ends due => (does_eqPhaseIdleEnd ha n).of_eq (Hub.eqIdleEnd_trains eq ends due)
  · exact fun first => (does_verifyComplete ha n).of_eq (Hub.verifyComplete_readies verify long clean first)
  · exact fun ready sent mask => ⟨_, (does_verifyComplete ha n).of_eq (Hub.verifyComplete_activates verify long clean ready sent mask),
      h.activated_state n, h.activated_mask n, h.activated_lane n⟩
  · exact fun locked => (does_blockLockAcquired ha n m).of_eq (Hub.lockAcquired_again locked)
  · exact fun unlocked align notHold => (does_blockLockAcquired ha n m).of_eq (Hub.lockAcquired_align unlocked notHold align)
  · exact fun unlocked looped notHold => (does_blockLockAcquired ha n m).of_eq (Hub.lockAcquired_loopback unlocked notHold looped)
  · exact (does_blockLockLost ha n m bad false).of_eq (Hub.lockErrors_kept (.inl rfl))
  · exact fun unlocked => (does_blockLockLost ha n m bad true).of_eq (Hub.lockErrors_kept (.inr unlocked))
  · exact fun locked => (does_blockLockLost ha n m bad true).of_eq (Hub.lockErrors_lost locked)
  · exact fun looped synchronised _ => Hub.lineErrors_prbs looped synchronised
  · exact fun other _ => Hub.lineErrors_header other
  · exact Hub.lockLost_align
  · exact fun active still => ⟨fun last => (Hub.lockLost_active active still).trans (if_pos last),
      fun more receives => (Hub.lockLost_active active still).trans ((if_neg more).trans (if_pos receives))⟩
  · exact fun good => (does_eiReceive ha n row).of_eq (Hub.eiReceive_idles active still good)
  · exact fun bad => (does_eiReceive ha n row).of_eq (Hub.eiReceive_bad active bad)
  · exact fun more => (does_fastExitLockTimeout ha n m).of_eq ((Hub.fastExitTimeout_unlocked active receives unlocked).trans (if_neg more))
  · exact fun last => (does_fastExitLockTimeout ha n m).of_eq ((Hub.fastExitTimeout_unlocked active receives unlocked).trans (if_pos last))

end Sys2Proof.Machine
end

section
/-! Acknowledgement, credit, heartbeats and replay of a link (R104 to R116). -/

namespace Sys2Proof.Machine

/-! ## The commands -/

section

variable {h : Hub} (ha : h.awake)

include ha

theorem does_ackReceive (n : PortId) (k : Blk) : Does (.ackReceive n k) h (h.ackReceive n k) :=
  does_of_run ha (·.ackReceive n k) (exec_ackReceive n k)

theorem does_nakReceive (n : PortId) (k : Blk) : Does (.nakReceive n k) h (h.nakReceive n k) :=
  does_of_run ha (·.nakReceive n k) (exec_nakReceive n k)

theorem does_pollReceive (n : PortId) (k : Blk) : Does (.pollReceive n k) h (h.pollReceive n k) :=
  does_of_run ha (·.pollReceive n k) (exec_pollReceive n k)

theorem does_creditField (n : PortId) (k : Blk) : Does (.creditField n k) h (h.creditBlk n k) :=
  does_of_run ha (·.creditBlk n k) (exec_creditField n k)

theorem does_replayTimerExpiry (n : PortId) : Does (.replayTimerExpiry n) h (h.replayTimer n) :=
  does_of_run ha (·.replayTimer n) (exec_replayTimerExpiry n)

theorem does_creditRefresh (n : PortId) : Does (.creditRefresh n) h (h.creditRefresh n) :=
  does_of_run ha (·.creditRefresh n) (exec_creditRefresh n)

theorem does_heartbeatSend (n : PortId) : Does (.heartbeatSend n) h (h.heartbeatSend n) :=
  does_of_run ha (·.heartbeatSend n) (exec_heartbeatSend n)

theorem does_heartbeatLoss (n : PortId) : Does (.heartbeatLoss n) h (h.heartbeatLoss n) :=
  does_of_run ha (·.heartbeatLoss n) (exec_heartbeatLoss n)

end

/-! ## Premises -/

theorem Hub.due_some {h : Hub} {t : Nat} : h.due (some t) = true ↔ t ≤ h.now := decide_eq_true_iff

theorem Blk.isA_ne {k : Blk} {a b : Nat} (type : k.isA a = true) (other : a ≠ b) : k.isA b = false := by
  rw [Blk.isA, Bool.and_eq_true, beq_iff_eq] at type
  obtain ⟨type, -⟩ := type
  rw [Blk.isA, type, beq_false_of_ne other, Bool.false_and]

section

variable {h : Hub} {n : Nat} (up : h.get F.PORT_LKSTAT_STATE n = 2)

include up

/-! ## Link control blocks -/

section

variable {k : Blk} (type : k.isA btLcb = true)

include type

/-- An ACK that answers no poll releases what it acknowledges (R105). -/
theorem Hub.ackReceive_releases (ack : k.lcAk = 1) (unpolled : (h.link n).polls = 0) :
    h.ackReceive n k = ((h.alive n).creditField n k.lcPool k.lcCount).release_ n k.lcAseq := by
  rw [Hub.ackReceive, Hub.when_pos ⟨Hub.linkUp_of up, type, ack⟩]
  exact if_neg fun answers => absurd answers.1 (by omega)

theorem Hub.nakReceive_taken (nak : k.lcAk = 2) :
    h.nakReceive n k = ((h.alive n).creditField n k.lcPool k.lcCount).takeNak n k.lcAseq k.lcStaged :=
  Hub.when_pos ⟨Hub.linkUp_of up, type, nak⟩

section

variable {g : Hub} (poll : k.lcPoll = true) (credited : (h.alive n).creditField n k.lcPool k.lcCount = g)

include poll credited

/-- In NAK-wait a poll is answered with the NAK again (R107). -/
theorem Hub.pollReceive_nak (waiting : g.get F.PORT_LKSTAT_NAKWAIT n = 1) :
    h.pollReceive n k = g.sendLcb n 2 (g.aseq n) (g.link n).nakStaged false 8 := by
  rw [Hub.pollReceive, Hub.when_pos ⟨Hub.linkUp_of up, type, poll⟩, credited]
  exact if_pos (Hub.flag_one waiting)

theorem Hub.pollReceive_ack (accepting : g.get F.PORT_LKSTAT_NAKWAIT n = 0) :
    h.pollReceive n k = g.sendLcb n 1 (g.aseq n) false false 8 := by
  rw [Hub.pollReceive, Hub.when_pos ⟨Hub.linkUp_of up, type, poll⟩, credited]
  exact if_neg (Hub.not_flag accepting)

end

end

end

section

variable {h : Hub} {n : Nat} {k : Blk}

theorem Hub.creditBlk_lcb (type : k.isA btLcb = true) : h.creditBlk n k = (h.alive n).creditField n k.lcPool k.lcCount := by
  have notSof : ¬ k.isA btSof = true := ne_true_of_eq_false (Blk.isA_ne type (by decide))
  rw [Hub.creditBlk, if_neg notSof, if_pos type]

theorem Hub.creditBlk_sof_shared (type : k.isA btSof = true) (shared : k.sof.crshr = true) :
    h.creditBlk n k = (h.alive n).creditField n 8 k.sof.crcnt := by
  rw [Hub.creditBlk, if_pos type, if_pos shared]

end

/-! ## Timers -/

section

variable {h : Hub} {n : Nat} (up : h.get F.PORT_LKSTAT_STATE n = 2)

include up

section

variable {t : Nat} (retains : (h.link n).ret ≠ []) (runs : (h.link n).rplAt = some t)
  (late : t + h.get F.PORT_LKTMO_RPLTMO n ≤ h.now)

include retains runs late

theorem Hub.replayTimer_expired : h.replayTimer n =
    if (h.link n).ansAt = some h.now then h.setLink n { h.link n with rplAt := some h.now }
    else if 4 ≤ (h.link n).polls then (h.bump F.PORT_LKRPL_EXHAUST n).linkFault n causeReplay
    else ((h.bump F.PORT_LKRPL_POLL n).setLink n { h.link n with
      polls := (h.link n).polls + 1, rplAt := some h.now }).sendLcb n 0 0 false true 8 := by
  have expired : h.due ((h.link n).rplAt.map (· + h.get F.PORT_LKTMO_RPLTMO n)) = true := by
    rw [runs]
    exact Hub.due_some.mpr late
  simp only [Hub.replayTimer]
  rw [Hub.when_pos ⟨Hub.linkUp_of up, retains, expired⟩]

end

theorem Hub.creditRefresh_up : h.creditRefresh n = (List.range 9).foldl (fun g p =>
    if Tab.get 0 (g.link n).sent p + 2048 ≤ g.now then g.sendLcb n 0 0 false false p else g) h :=
  Hub.when_pos (Hub.linkUp_of up)

theorem Hub.heartbeatSend_due (transmits : h.get F.PORT_LKSTAT_TXIDLE n = 0) (silent : (h.link n).lcbAt + 200 ≤ h.now) :
    h.heartbeatSend n = h.sendLcb n 0 0 false false 8 :=
  Hub.when_pos ⟨Hub.linkUp_of up, Hub.not_flag transmits, silent⟩

theorem Hub.heartbeatLoss_due (receives : h.get F.PORT_LKSTAT_RXIDLE n = 0) (silent : (h.link n).rxAt + 600 ≤ h.now) :
    h.heartbeatLoss n = (h.bump F.PORT_LKDOWN_HBLOSS n).linkFault n causeHeartbeat :=
  Hub.when_pos ⟨Hub.linkUp_of up, Hub.not_flag receives, silent⟩

end

/-! ## Owed acknowledgements -/

section

variable {h : Hub} {n t : Nat} (owed : (h.link n).ackAt = some t)

include owed

/-- The ACK that is owed goes out at its tick (R105). -/
theorem Hub.ackTick_due (up : h.get F.PORT_LKSTAT_STATE n = 2) (due : t ≤ h.now) :
    h.ackTick n = (h.setLink n { h.link n with ackAt := none }).sendLcb n 1 (h.aseq n) false false 8 := by
  refine if_pos ⟨Hub.linkUp_of up, ?_⟩
  rw [owed]
  exact Hub.due_some.mpr due

theorem Hub.ackTick_early (early : h.now < t) : h.ackTick n = h := by
  refine if_neg fun due => ?_
  rw [owed, Hub.due_some] at due
  omega

end

/-! ## Credit pools (R112) -/

/-- The register field of a pool's credit: class 0 to 7, or 8 for the shared pool. -/
def poolField (p : Nat) : Fld := if p < 8 then crdField p else F.PORT_CRDSH_CRSH

theorem Hub.crd_eq (h : Hub) (n p : Nat) : h.crd n p = h.get (poolField p) n := by
  rw [Hub.crd, poolField]
  split <;> rfl

theorem Hub.setCrd_eq (h : Hub) (n p v : Nat) : h.setCrd n p v = h.set (poolField p) v n := by
  rw [Hub.setCrd, poolField]
  split <;> rfl

/-- Every pool's field stands in PORT_CRDTX0, PORT_CRDTX1 or PORT_CRDSH, 8 bits wide for a class and 10 for the shared pool. -/
theorem poolField_place : ∀ p : Fin 9, 0x10118 ≤ (poolField p).base ∧ (poolField p).base ≤ 0x10120 ∧ (poolField p).s1 = 0x1000 ∧
    (poolField p).s2 = 0 ∧ (poolField p).lo + (poolField p).w ≤ 32 ∧ (poolField p).w = if p.val < 8 then 8 else 10 := by decide

section

variable (h : Hub) (n : Nat)

theorem Hub.crd_setCrd_same (p : Fin 9) (v : Nat) : (h.setCrd n p v).crd n p = v % 2 ^ (poolField p).w := by
  obtain ⟨-, -, -, -, fits, -⟩ := poolField_place p
  rw [Hub.crd_eq, Hub.setCrd_eq, Hub.get_set_same h _ v n 0 fits]

/-- A port's credit is its own (R112). -/
theorem Hub.crd_setCrd_port {m : Nat} (other : m ≠ n) (p q : Fin 9) (v : Nat) : (h.setCrd n p v).crd m q = h.crd m q := by
  obtain ⟨lowP, highP, s1P, s2P, -, -⟩ := poolField_place p
  obtain ⟨lowQ, highQ, s1Q, s2Q, -, -⟩ := poolField_place q
  rw [Hub.crd_eq, Hub.setCrd_eq, Hub.crd_eq]
  refine Hub.get_set_ne h ?_
  rw [Fld.addr, Fld.addr, s1P, s1Q, s2P, s2Q]
  omega

variable {h n}

theorem Hub.link_setCrd (p v m : Nat) : (h.setCrd n p v).link m = h.link m := by
  rw [Hub.setCrd_eq, Hub.set_link]

/-- Without frames to send again there is no replay to go on with. -/
theorem Hub.replayOn_done (done : (h.link n).replay = []) : h.replayOn n = h.setLink n (h.link n) := by
  simp only [Hub.replayOn, done, List.filter_nil, List.head?_nil, Option.bind_none]
  rw [← done]

/-- The receiver's count is noted, and the difference to the last one added to the pool (R112). -/
theorem Hub.creditField_counts (up : h.get F.PORT_LKSTAT_STATE n = 2) (done : (h.link n).replay = []) (p : Fin 9) (c : Nat) :
    h.creditField n p c =
      ((h.setLink n { h.link n with last := Tab.set 0 (h.link n).last p c }).setCrd n p
        (h.crd n p + (c + 128 - Tab.get 0 (h.link n).last p) % 128)).setLink n
          { h.link n with last := Tab.set 0 (h.link n).last p c } := by
  have noted (v : Nat) : ((h.setLink n { h.link n with last := Tab.set 0 (h.link n).last p c }).setCrd n p v).link n =
      { h.link n with last := Tab.set 0 (h.link n).last p c } := by
    rw [Hub.link_setCrd, Hub.link_setLink]
  have taken : h.creditField n p c = ((h.setLink n { h.link n with last := Tab.set 0 (h.link n).last p c }).setCrd n p
      (h.crd n p + (c + 128 - Tab.get 0 (h.link n).last p) % 128)).replayOn n := Hub.when_pos (Hub.linkUp_of up)
  rw [taken, Hub.replayOn_done (by rw [noted, done]), noted]

theorem Hub.creditField_last (up : h.get F.PORT_LKSTAT_STATE n = 2) (done : (h.link n).replay = []) (p : Fin 9) (c : Nat) :
    Tab.get 0 ((h.creditField n p c).link n).last p = c := by
  rw [Hub.creditField_counts up done, Hub.link_setLink, Tab.get_set_same]

theorem Hub.creditField_port (up : h.get F.PORT_LKSTAT_STATE n = 2) (done : (h.link n).replay = []) (p q : Fin 9) (c : Nat)
    {m : Nat} (other : m ≠ n) : (h.creditField n p c).crd m q = h.crd m q := by
  rw [Hub.creditField_counts up done]
  exact Hub.crd_setCrd_port _ n other p q _

theorem Hub.creditField_crd (up : h.get F.PORT_LKSTAT_STATE n = 2) (done : (h.link n).replay = []) (p : Fin 9) (c : Nat)
    (fits : h.crd n p + 127 < 2 ^ (poolField p).w) :
    (h.creditField n p c).crd n p = h.crd n p + (c + 128 - Tab.get 0 (h.link n).last p) % 128 := by
  rw [Hub.creditField_counts up done]
  refine (Hub.crd_setCrd_same _ n p _).trans (Nat.mod_eq_of_lt ?_)
  omega

/-- A pool's bound, by the width of its field. -/
theorem poolField_bound {x : Nat} (p : Fin 9) (cls : p.val < 8 → x < 256) (shared : p.val = 8 → x < 1024) :
    x < 2 ^ (poolField p).w := by
  obtain ⟨-, -, -, -, -, width⟩ := poolField_place p
  rw [width]
  split
  next isClass => exact cls isClass
  next notClass => exact shared (by omega)

end

/-- Settles O22: each clause by the lemma about the block, the timer or the pool that it names. That every block sent here but a
credit count's carries the shared pool, that no poll follows an answer of its tick, and the tick of an owed ACK are log entry 64; that
every such block carries a credit field is log entry 23. -/
theorem linkControlCommands : Obligations.LinkControlCommands := by
  refine ⟨fun h ha n k up => ⟨?_, ?_, ?_, ?_, ?_, fun t retains runs late => ⟨?_, ?_, ?_⟩, ?_, ?_, ?_, ?_⟩,
    fun h n p c up done cls shared => ⟨?_, ?_, ?_⟩,
    fun h ha => ⟨does_ackReceive ha, does_nakReceive ha, does_pollReceive ha, does_creditField ha, does_replayTimerExpiry ha,
      does_creditRefresh ha, does_heartbeatSend ha, does_heartbeatLoss ha⟩⟩
  · exact fun type ack unpolled => (does_ackReceive ha n k).of_eq (Hub.ackReceive_releases up type ack unpolled)
  · exact fun type nak => (does_nakReceive ha n k).of_eq (Hub.nakReceive_taken up type nak)
  · exact fun type poll => ⟨fun waiting => (does_pollReceive ha n k).of_eq (Hub.pollReceive_nak up type poll rfl waiting),
      fun accepting => (does_pollReceive ha n k).of_eq (Hub.pollReceive_ack up type poll rfl accepting)⟩
  · exact fun type => (does_creditField ha n k).of_eq (Hub.creditBlk_lcb type)
  · exact fun type shared => (does_creditField ha n k).of_eq (Hub.creditBlk_sof_shared type shared)
  · exact fun answered => (does_replayTimerExpiry ha n).of_eq ((Hub.replayTimer_expired up retains runs late).trans (if_pos answered))
  · exact fun silent few => (does_replayTimerExpiry ha n).of_eq
      ((Hub.replayTimer_expired up retains runs late).trans ((if_neg silent).trans (if_neg (by omega))))
  · exact fun silent four => (does_replayTimerExpiry ha n).of_eq
      ((Hub.replayTimer_expired up retains runs late).trans ((if_neg silent).trans (if_pos four)))
  · exact (does_creditRefresh ha n).of_eq (Hub.creditRefresh_up up)
  · exact fun transmits silent => (does_heartbeatSend ha n).of_eq (Hub.heartbeatSend_due up transmits silent)
  · exact fun receives silent => (does_heartbeatLoss ha n).of_eq (Hub.heartbeatLoss_due up receives silent)
  · exact fun t owed => ⟨Hub.ackTick_due owed up, Hub.ackTick_early owed⟩
  · exact Hub.creditField_crd up done p c (poolField_bound p cls shared)
  · exact Hub.creditField_last up done p c
  · exact fun m other q => Hub.creditField_port up done p q c (Fin.val_ne_of_ne other)

end Sys2Proof.Machine
end

section
/-! Bringing a link up and down (R118 to R120). -/

namespace Sys2Proof.Machine

/-! ## The commands -/

section

variable {h : Hub} (ha : h.awake)

include ha

theorem does_lparamSend (n : PortId) : Does (.lparamSend n) h (h.lparamSend n) :=
  does_of_run ha (·.lparamSend n) (exec_lparamSend n)

theorem does_lparamReceive (n : PortId) (body : List (BitVec 8)) : Does (.lparamReceive n body) h (h.lparamReceive n body) :=
  does_of_run ha (·.lparamReceive n body) (exec_lparamReceive n body)

theorem does_initTimeout (n : PortId) : Does (.initTimeout n) h (h.initTimeout n) :=
  does_of_run ha (·.initTimeout n) (exec_initTimeout n)

theorem does_holdExpiry (n : PortId) : Does (.holdExpiry n) h (h.holdExpiry n) :=
  does_of_run ha (·.holdExpiry n) (exec_holdExpiry n)

end

/-! ## Bring-up -/

section

variable {h : Hub} {n : Nat}

/-- With the lanes ACTIVE and the staging empty a link leaves DOWN for INIT (Table 4-9). -/
theorem Hub.lparamSend_inits (down : h.get F.PORT_LKSTAT_STATE n = 0) (active : h.get F.PORT_LSTAT_STATE n = 7)
    (empty : h.staged n = 0) : h.lparamSend n = ((h.set F.PORT_LKSTAT_STATE 1 n).setLink n { h.link n with
      initAt := h.now, ded := h.dedCfg n }).sendLparam n := by
  simp only [Hub.lparamSend]
  rw [if_pos down, Hub.when_pos ⟨Hub.active_of active, empty⟩]

/-- In INIT the LPARAM is sent every 64 ticks (Table 4-9). -/
theorem Hub.lparamSend_again {t : Nat} (init : h.get F.PORT_LKSTAT_STATE n = 1) (sent : (h.link n).lpAt = some t)
    (due : t + 64 ≤ h.now) : h.lparamSend n = h.sendLparam n := by
  have reached : h.due ((h.link n).lpAt.map (· + 64)) = true := by
    rw [sent]
    exact Hub.due_some.mpr due
  simp only [Hub.lparamSend]
  rw [if_neg (by omega), if_pos init, Hub.when_pos reached]

section

variable {body : Bytes} (active : h.get F.PORT_LSTAT_STATE n = 7) (whole : body.length = 32) (type : body.getD 0 0#8 = 1#8)
  (version : body.getD 1 0#8 = 1#8)

include active whole type version

/-- An LPARAM with this end's EPOCH takes a link in INIT up (R118). -/
theorem Hub.lparamReceive_comesUp (init : h.get F.PORT_LKSTAT_STATE n = 1) (epoch : (h.link n).epoch = some (beNat (sub body 4 2))) :
    h.lparamReceive n body = (h.setLink n { h.link n with pepoch := beNat (sub body 2 2), rxAt := h.now }).comeUp n body := by
  rw [Hub.lparamReceive, Hub.when_pos ⟨Hub.active_of active, whole, type, version⟩]
  simp only [Hub.setLink_get, Hub.link_setLink]
  rw [if_neg (by omega), if_pos ⟨init, epoch⟩]

/-- Another EPOCH in UP tells of a partner that was reset (Table 4-9). -/
theorem Hub.lparamReceive_drops (up : h.get F.PORT_LKSTAT_STATE n = 2) (other : beNat (sub body 2 2) ≠ h.get F.PORT_LKSTAT_PEPOCH n) :
    h.lparamReceive n body = (h.setLink n { h.link n with pepoch := beNat (sub body 2 2), rxAt := h.now }).dropLanes n causeEpoch := by
  rw [Hub.lparamReceive, Hub.when_pos ⟨Hub.active_of active, whole, type, version⟩]
  exact (if_pos up).trans (if_pos other)

end

theorem Hub.initTimeout_passed (init : h.get F.PORT_LKSTAT_STATE n = 1) (late : (h.link n).initAt + 20000 ≤ h.now) :
    h.initTimeout n = (h.bump F.PORT_TRCNT_FAILED n).dropLanes n causeLanes :=
  Hub.when_pos ⟨init, late⟩

theorem Hub.holdExpiry_notDown (notDown : h.get F.PORT_LKSTAT_STATE n ≠ 0) : h.holdExpiry n = h :=
  Hub.when_neg fun premise => notDown premise.1

/-- What is retained is kept until the hold time has passed (R120). -/
theorem Hub.holdExpiry_flushes {t : Nat} (down : h.get F.PORT_LKSTAT_STATE n = 0) (since : (h.link n).downAt = some t)
    (passed : t + 40000 * h.get F.PORT_LKCTL_HOLD n ≤ h.now) :
    h.holdExpiry n = (h.flush n).setLink n { (h.flush n).link n with downAt := none } := by
  have notHolding : ¬ h.holding n = true := by
    simp only [Hub.holding, since, decide_eq_true_eq]
    omega
  rw [Hub.holdExpiry, Hub.when_pos ⟨down, by rw [since]; rfl, notHolding⟩]

theorem Hub.linkDown_down {cause : Nat} (down : h.get F.PORT_LKSTAT_STATE n = 0) : h.linkDown n cause = h := if_pos down

end

/-! ## A link that goes down -/

/-- The link of a port reads DOWN, and the cells of frames are charged to the 272 queues alone. -/
structure Hub.ReadsDown (n : PortId) (h : Hub) : Prop where
  state : h.get F.PORT_LKSTAT_STATE n = 0
  charged : ∀ i f, h.frm i = some f → ∀ q ∈ f.charged, q < 272

namespace Hub.ReadsDown

variable {n : PortId} {h g : Hub}

/-- Registers and frames are all that it looks at. -/
theorem of_same (d : h.ReadsDown n) (regs : g.regs = h.regs) (frames : g.core.frames = h.core.frames) : g.ReadsDown n := by
  obtain ⟨state, charged⟩ := d
  refine ⟨?_, ?_⟩
  · rwa [Hub.get, Hub.reg, regs]
  · simpa only [Hub.frm, frames] using charged

theorem of_line (d : h.ReadsDown n) (line : LineOnly h g) : g.ReadsDown n := by
  obtain ⟨_, _, _, rfl⟩ := line
  exact d.of_same rfl rfl

theorem of_evs (d : h.ReadsDown n) (evs : EvsOnly h g) : g.ReadsDown n := by
  refine ⟨(evs.get _ _ _ (.inr ?_)).trans d.state, ?_⟩
  · simp only [Fld.addr, F.PORT_LKSTAT_STATE]
    omega
  · simpa only [Hub.frm, evs.core] using d.charged

theorem set (d : h.ReadsDown n) {f : Fld} {i : Nat} (v : Nat) (away : F.PORT_LKSTAT_STATE.addr n 0 ≠ f.addr i 0) :
    (h.set f v i).ReadsDown n := ⟨(Hub.get_set_ne h away).trans d.state, d.charged⟩

/-- A register below the ports. -/
theorem set_low (d : h.ReadsDown n) {f : Fld} {i : Nat} (v : Nat) (low : f.addr i 0 < 0x10000) : (h.set f v i).ReadsDown n :=
  d.set v (by simp only [Fld.addr, F.PORT_LKSTAT_STATE] at *; omega)

/-- A register of a tunnel entry. -/
theorem set_high (d : h.ReadsDown n) {f : Fld} {i : Nat} (v : Nat) (high : 0x80000 ≤ f.base) : (h.set f v i).ReadsDown n :=
  d.set v (by simp only [Fld.addr, F.PORT_LKSTAT_STATE]; omega)

/-- Another register of a port. -/
theorem set_port (d : h.ReadsDown n) {f : Fld} {i : Nat} (v : Nat) (s1 : f.s1 = 0x1000) (s2 : f.s2 = 0)
    (low : 0x10104 < f.base) (high : f.base < 0x11000) : (h.set f v i).ReadsDown n :=
  d.set v (by simp only [Fld.addr, s1, s2, F.PORT_LKSTAT_STATE]; omega)

/-- Another field of PORT_LKSTAT. -/
theorem set_lkstat (d : h.ReadsDown n) {f : Fld} (v i : Nat) (above : 2 ≤ f.lo) (fits : f.lo + f.w ≤ 32) :
    (h.set f v i).ReadsDown n := ⟨(Hub.get_set_disj h (g := F.PORT_LKSTAT_STATE) fits (.inr above)).trans d.state, d.charged⟩

theorem bump_port (d : h.ReadsDown n) {f : Fld} {i : Nat} (k : Nat) (s1 : f.s1 = 0x1000) (s2 : f.s2 = 0)
    (low : 0x10104 < f.base) (high : f.base < 0x11000) : (h.bump f i k).ReadsDown n :=
  (d.set_port _ s1 s2 low high).of_same rfl rfl

theorem bump_low (d : h.ReadsDown n) {f : Fld} {i : Nat} (k : Nat) (low : f.addr i 0 < 0x10000) : (h.bump f i k).ReadsDown n :=
  (d.set_low _ low).of_same rfl rfl

theorem putFrm (d : h.ReadsDown n) (i : Nat) {f : Option Frm} (charged : ∀ x, f = some x → ∀ q ∈ x.charged, q < 272) :
    (h.putFrm i f).ReadsDown n := by
  refine ⟨d.state, fun j x found => ?_⟩
  by_cases same : j = i
  · subst same
    exact charged x ((Tab.get_set_same none h.core.frames j f).symm.trans found)
  · exact d.charged j x ((Tab.get_set_ne none none h.core.frames f same).symm.trans found)

theorem setFrm (d : h.ReadsDown n) (i : Nat) {f : Frm} (charged : ∀ q ∈ f.charged, q < 272) : (h.setFrm i f).ReadsDown n :=
  d.putFrm i fun _ e => Option.some.inj e ▸ charged

theorem foldl {α : Type} (d : h.ReadsDown n) {f : Hub → α → Hub} {l : List α}
    (step : ∀ g, g.ReadsDown n → ∀ x ∈ l, (f g x).ReadsDown n) : (l.foldl f h).ReadsDown n :=
  List.foldlRecOn l f d step

theorem each (d : h.ReadsDown n) {f : Nat → Hub → Hub} {l : List Nat} (step : ∀ i g, g.ReadsDown n → (f i g).ReadsDown n) :
    (h.each l f).ReadsDown n := d.foldl fun g down i _ => step i g down

theorem ite {c : Prop} [Decidable c] (yes : g.ReadsDown n) (no : h.ReadsDown n) : (if c then g else h).ReadsDown n := by
  split
  · exact yes
  · exact no

/-- A frame changed, but not in what it is charged to. -/
theorem amend (d : h.ReadsDown n) {i : Nat} {f x : Frm} (found : h.frm i = some f) (same : x.charged = f.charged) :
    (h.setFrm i x).ReadsDown n := d.setFrm i (same ▸ d.charged i f found)

/-! ### Frames, cells and queues -/

theorem occDown (d : h.ReadsDown n) {q : Nat} (queue : q < 272) (k : Nat) : (h.occDown q k).ReadsDown n :=
  ((d.set_low _ (by simp only [Fld.addr, F.CORE_QOCC_OCC]; omega)).set_low _ (by decide)).set_low _ (by decide)

/-- Cells are credited to the queues that a frame is charged to (R205). -/
theorem credit (d : h.ReadsDown n) {f : Frm} (charged : ∀ q ∈ f.charged, q < 272) (k : Nat) :
    (f.charged.foldl (fun g q => g.occDown q k) h).ReadsDown n :=
  d.foldl fun _ down q isCharged => down.occDown (charged q isCharged) k

theorem dropRefs (d : h.ReadsDown n) (i a b : Nat) : (h.dropRefs i a b).ReadsDown n := by
  unfold Hub.dropRefs
  split
  · exact d
  next f found =>
    refine credit (f := f) (foldl ?_ fun g down (c : CellRef) _ => down.of_same (g := g.freeCell c.cell) rfl rfl)
      (d.charged i f found) _
    exact d.amend found rfl

theorem rxOcc (d : h.ReadsDown n) (p : Nat) : (h.rxOcc p).ReadsDown n :=
  ite (d.set_port _ rfl rfl (by decide) (by decide)) d

theorem sendLcb (d : h.ReadsDown n) (m ak aseq : Nat) (staged poll : Bool) (pool : Nat) :
    (h.sendLcb m ak aseq staged poll pool).ReadsDown n := by
  rw [Hub.sendLcb, Hub.sendCtl]
  exact d.of_line ((LineOnly.setLink h m _).trans (Hub.send_line _ m _))

theorem creditBack (d : h.ReadsDown n) (m pool k : Nat) : (h.creditBack m pool k).ReadsDown n := by
  have counted (x : LinkSt) : (h.setLink m x).ReadsDown n := d.of_line (.setLink h m x)
  exact ite d (ite ((counted _).sendLcb m 0 0 false false pool) (counted _))

theorem leave (d : h.ReadsDown n) (i k : Nat) : (h.leave i k).ReadsDown n := by
  unfold Hub.leave
  split
  · exact d
  next f found =>
    have moved : (h.setFrm i { f with left := f.left + k }).ReadsDown n := d.amend found rfl
    exact ite (((moved.creditBack _ _ _).creditBack _ _ _).rxOcc _) moved

theorem gone (d : h.ReadsDown n) (i : Nat) : (h.gone i).ReadsDown n := by
  unfold Hub.gone
  split
  · exact d
  next f found =>
    have credited : (f.charged.foldl (fun g q => g.occDown q (f.n - f.credited)) h).ReadsDown n :=
      d.credit (d.charged i f found) _
    have dropped := credited.setFrm i (f := { f with phase := .dropped, charged := [] }) (fun _ none_ => nomatch none_)
    have unlisted (l : List Nat) : ((Hub.leave _ i (f.here - f.left)).setStage f.key l).ReadsDown n :=
      (dropped.leave i _).of_same rfl rfl
    exact ite d (ite (((unlisted _).putFrm i (f := none) (fun _ none_ => nomatch none_)).rxOcc _) (unlisted _))

theorem dropStaged (d : h.ReadsDown n) (i status : Nat) : (h.dropStaged i status).ReadsDown n := by
  unfold Hub.dropStaged
  split
  · exact d
  next f found =>
    have noted : (h.note f false status).ReadsDown n := ite d (d.of_same rfl rfl)
    refine gone ?_ i
    exact noted.setFrm i (d.charged i f found)

theorem readEnd (d : h.ReadsDown n) (e : Nat) (t : Tx) (f : Frm) (good : Bool) : (h.readEnd e t f good).ReadsDown n :=
  ite (d.of_line (.setLink h e _)) (d.of_same rfl rfl)

theorem pump (d : h.ReadsDown n) (e : Nat) : (h.pump e).ReadsDown n := by
  unfold Hub.pump
  split
  · exact d
  next t _ =>
    refine ite d ?_
    split
    · exact d
    next f found =>
      have poisoned : ((h.setFrm t.id { f with bad := true }).bump F.CORE_DROPCNT1_MARKED).ReadsDown n :=
        (d.amend (x := { f with bad := true }) found rfl).bump_low 1 (by decide)
      have read {g : Hub} (down : g.ReadsDown n) (c : Prop) [Decidable c] (x : LinkSt) (a b : Nat) (y : Option Tx) :
          (((if c then g.setLink e x else g).dropRefs t.id a b).setTx e y).ReadsDown n :=
        ((ite (down.of_line (.setLink g e x)) down).dropRefs t.id a b).of_same rfl rfl
      refine ite ?_ (read (ite poisoned d) _ _ _ _ _)
      simp only []
      split
      next x still =>
        refine gone ?_ t.id
        exact (readEnd (read (ite poisoned d) _ _ _ _ _) e t f _).amend still rfl
      · exact readEnd (read (ite poisoned d) _ _ _ _ _) e t f _

theorem failFrame (d : h.ReadsDown n) (i : Nat) (cut : Bool) : (h.failFrame i cut).ReadsDown n := by
  unfold Hub.failFrame
  split
  · exact d
  next f found =>
    simp only []
    split
    · refine gone ?_ i
      exact d.amend found rfl
    · have amended (c : List Nat) (b : Bool) : (h.setFrm i { f with
          ended := some false, cut := cut, bad := b, copies := c, waiting := [] }).ReadsDown n := d.amend found rfl
      have emptied (c : List Nat) (b : Bool) (l m : List Nat) (k : Nat) := ((amended c b).each (l := l)
        (f := fun q g => g.setQueue q ((g.queue q).erase i)) (fun _ _ down => down.of_same rfl rfl)).each (l := m)
        (f := fun _ g => g.dropRefs i 0 k) (fun _ _ down => down.dropRefs i 0 k)
      refine ite ?_ (each ?_ fun e _ down => down.pump e)
      · exact gone (bump_low (emptied _ _ _ _ _) _ (by decide)) i
      · have marked (c : List Nat) (b : Bool) (l m : List Nat) (k : Nat) := (emptied c b l m k).bump_low
          (f := F.CORE_DROPCNT1_MARKED) (i := 0) 1 (by decide)
        exact ite (((marked _ _ _ _ _).leave i _).of_same rfl rfl) (marked _ _ _ _ _)
    · refine dropStaged (bump_low (f := F.CORE_DROPCNT1_ENDFAIL) (i := 0) ?_ 1 (by decide)) i 0
      exact d.amend found rfl

theorem failOpen (d : h.ReadsDown n) (m : Nat) (cut : Bool) : (h.failOpen m cut).ReadsDown n := by
  unfold Hub.failOpen
  simp only []
  split
  · exact d
  next r _ =>
    have closed (x : LinkSt) : (h.setLink m x).ReadsDown n := d.of_line (.setLink h m x)
    refine ite (ite ((closed _).failFrame r.id cut) ?_) (closed _)
    exact bump_low (((closed _).creditBack _ _ _).creditBack _ _ _) _ (by decide)

/-! ### Failovers -/

theorem record (d : h.ReadsDown n) {p : Nat} (producer : p < 162) (rs : List Nat) : (h.record p rs).ReadsDown n :=
  d.of_evs (h.record_evsOnly producer rs)

theorem failover (d : h.ReadsDown n) (t : Nat) : (h.failover t).ReadsDown n := by
  have turned (v : Nat) : (h.set F.TUN_W3_PATH v t).ReadsDown n := d.set_high v (by decide)
  have counted (v : Nat) : ((h.set F.TUN_W3_PATH v t).bump F.TUN_W7_FAILOVER t).ReadsDown n :=
    ((turned v).set_high _ (by decide)).of_same rfl rfl
  have twice (v : Nat) : (((h.set F.TUN_W3_PATH v t).bump F.TUN_W7_FAILOVER t).bump F.FAB_PROTCNT_FAILOVER).ReadsDown n :=
    (counted v).bump_low 1 (by decide)
  have slice (g : Hub) : prodSlice (g.get F.TUN_W0_SLICE t) < 162 := by
    have narrow : g.get F.TUN_W0_SLICE t < 128 := Hub.get_lt g F.TUN_W0_SLICE t 0
    rw [prodSlice]
    omega
  exact ((twice _).record (slice _) _).of_same rfl rfl

theorem portFailover (d : h.ReadsDown n) (m : Nat) : (h.portFailover m).ReadsDown n :=
  d.each fun t _ down => down.failover t

end Hub.ReadsDown

/-- A link that goes down reads DOWN, where cells of frames are charged to queues alone. -/
theorem Hub.linkDown_reads {h : Hub} (charged : ∀ i f, h.frm i = some f → ∀ q ∈ f.charged, q < 272) (n : PortId) (cause : Nat) :
    (h.linkDown n cause).get F.PORT_LKSTAT_STATE n = 0 := by
  have shown : (h.set F.PORT_LKSTAT_STATE 0 n).ReadsDown n := ⟨Hub.get_set_same h _ 0 n 0 (by decide), charged⟩
  have accepting := shown.set_lkstat (f := F.PORT_LKSTAT_NAKWAIT) 0 n (by decide) (by decide)
  have transmits := accepting.set_lkstat (f := F.PORT_LKSTAT_TXIDLE) 0 n (by decide) (by decide)
  have receives := transmits.set_lkstat (f := F.PORT_LKSTAT_RXIDLE) 0 n (by decide) (by decide)
  have left (x : LinkSt) := (receives.failOpen n true).of_line (.setLink _ n x)
  have counted (x : LinkSt) := (left x).bump_port (f := F.PORT_LKDOWN_DOWN) (i := n) 1 rfl rfl (by decide) (by decide)
  unfold Hub.linkDown
  simp only []
  split
  · assumption
  split
  · exact shown.state
  · exact (((counted _).record (by omega) _).portFailover n).state

/-! ## A charge to no queue -/

/-- The link of port 0 is UP by resume, and a frame is open in receipt whose cell is charged to queue `q`. -/
def openHub (q : Nat) : Hub :=
  (((Hub.reset.set F.PORT_LKSTAT_STATE 2 0).set F.PORT_LKSTAT_RESUMED 1 0).setLink 0
    { rx := some { sof := 0, staged := true, id := 0, blocks := 2, start := 0 } }).setFrm 0
    { hdr := tunHdr [], len := 16, data := [], src := 0, arrived := 0, lcls := 0, phase := .dropped, charged := [q] }

/-- Charged to a queue, the frame fails and the link reads DOWN. -/
theorem openHub_linkDown {q : Nat} (queue : q < 272) (cause : Nat) :
    ((openHub q).linkDown 0 cause).get F.PORT_LKSTAT_STATE (0 : PortId) = 0 := by
  refine Hub.linkDown_reads (fun i f found p isCharged => ?_) 0 cause
  by_cases first : i = 0
  · subst first
    obtain rfl := Option.some.inj found
    rwa [List.mem_singleton.mp isCharged]
  · have noFrame : (openHub q).frm i = none := by
      rw [openHub, Hub.frm, Hub.setFrm, Hub.putFrm, Tab.get_set_ne _ _ _ _ first]
      rfl
    rw [noFrame] at found
    cases found

/-- The occupancy of number 7233, which is no queue, would stand where PORT_LKSTAT of port 0 does: the cell that the frame gives back
is borrowed from RESUMED, and STATE fills up. -/
theorem openHub_linkDown_stray : ((openHub 7233).linkDown 0 causeLanes).get F.PORT_LKSTAT_STATE 0 = 3 := by decide +kernel

/-- Of O23 one clause alone is open: the others hold, each by the lemma about the command that it names. That the dedicated pools in
force are those at the entry to INIT is log entry 24, and that the end of the hold time changes nothing on a link that is not DOWN is
entry 2. -/
theorem linkBringUpCommands_iff : Obligations.LinkBringUpCommands ↔
    ∀ (h : Hub) (n : PortId) (c : Fin 5), (h.linkDown n c).get F.PORT_LKSTAT_STATE n = 0 := by
  refine ⟨fun ⟨_, down, _⟩ h n c => (down h n c).1, fun reads => ⟨fun h ha n => ⟨?_, ?_, ?_, ?_, ?_, ?_, ?_⟩,
    fun h n c => ⟨reads h n c, Hub.linkDown_down⟩,
    fun h ha => ⟨does_lparamSend ha, does_lparamReceive ha, does_initTimeout ha, does_holdExpiry ha⟩⟩⟩
  · exact fun down active empty => (does_lparamSend ha n).of_eq (Hub.lparamSend_inits down active empty)
  · exact fun t init sent due => (does_lparamSend ha n).of_eq (Hub.lparamSend_again init sent due)
  · exact fun body active whole type version init epoch => (does_lparamReceive ha n body).of_eq
      (Hub.lparamReceive_comesUp active whole type version init epoch)
  · exact fun body active whole type version up other => (does_lparamReceive ha n body).of_eq
      (Hub.lparamReceive_drops active whole type version up other)
  · exact fun init late => (does_initTimeout ha n).of_eq (Hub.initTimeout_passed init late)
  · exact fun notDown => (does_holdExpiry ha n).of_eq (Hub.holdExpiry_notDown notDown)
  · exact fun t down since passed => (does_holdExpiry ha n).of_eq (Hub.holdExpiry_flushes down since passed)

/-- Refutes O23: a link that goes down need not read DOWN. The statement is about every hub, also one with a frame charged to a number
that is no queue, which `Hub.linkDown_reads` shuts out; its other clauses hold (`linkBringUpCommands_iff`). -/
theorem not_linkBringUpCommands : ¬ Obligations.LinkBringUpCommands := by
  intro holds
  have down : ((openHub 7233).linkDown 0 causeLanes).get F.PORT_LKSTAT_STATE 0 = 0 :=
    linkBringUpCommands_iff.mp holds (openHub 7233) 0 1
  rw [openHub_linkDown_stray] at down
  exact absurd down (by decide)

end Sys2Proof.Machine
end

section
/-! The tunnel header as it is built and read (R126, R127). -/

namespace Sys2Proof

/-! ## Byte strings, most significant byte first -/

theorem length_leBytes (n x : Nat) : (leBytes n x).length = n := by
  induction n generalizing x with
  | zero => rfl
  | succ n ih => exact congrArg (· + 1) (ih (x / 256))

theorem length_beBytes (n x : Nat) : (beBytes n x).length = n := by rw [beBytes, List.length_reverse, length_leBytes]

theorem beBytes_succ (n x : Nat) : beBytes (n + 1) x = beBytes n (x / 256) ++ [BitVec.ofNat 8 x] := List.reverse_cons

theorem beNat_append_singleton (l : Bytes) (b : Byte) : beNat (l ++ [b]) = beNat l * 256 + b.toNat := List.foldl_append

/-- What is written in `n` bytes reads back as its low `8 * n` bits. -/
theorem beNat_beBytes (n x : Nat) : beNat (beBytes n x) = x % 256 ^ n := by
  induction n generalizing x with
  | zero => exact (Nat.mod_one x).symm
  | succ n ih =>
    have last : (BitVec.ofNat 8 x).toNat = x % 256 := BitVec.toNat_ofNat x 8
    rw [beBytes_succ, beNat_append_singleton, ih, last, pow_succ', Nat.mod_mul]
    omega

/-! ## The header's fields (Table 5-1) -/

/-- The fields of the header in the order of Table 5-1, each with its width. -/
def THdr.fields (t : THdr) : List (Nat × Nat) :=
  [(16, t.dhub), (12, t.dtun), (16, t.shub), (12, t.stun), (4, t.type), (3, t.cls), (1, b2n t.p), (1, b2n t.r), (1, b2n t.b), (1, b2n t.a),
    (5, t.hops), (14, t.plen), (2, t.rsv), (24, t.eseq), (16, t.hcrc)]

theorem THdr.bytes_eq_fields (t : THdr) : t.bytes = beBytes 16 (pack t.fields) := rfl

theorem THdr.length_bytes (t : THdr) : t.bytes.length = 16 := length_beBytes 16 _

/-- The first 16 bytes hold the fields, whatever bytes follow. -/
theorem THdr.beNat_bytes (t : THdr) (rest : Bytes) : beNat ((t.bytes ++ rest).take 16) = pack t.fields := by
  have fits : pack t.fields < 2 ^ 128 := pack_lt t.fields
  rw [List.take_left' t.length_bytes, t.bytes_eq_fields, beNat_beBytes, show 256 ^ 16 = 2 ^ 128 by norm_num, Nat.mod_eq_of_lt fits]

section

variable {l : List (Nat × Nat)} {n a b w v : Nat}

theorem wire_pack_of_lt (i : Nat) (stands : place l i = (n, a, b + 1, some (w, v))) (fits : v < 2 ^ w) : wire n (pack l) a b = v :=
  (wire_pack stands).trans (Nat.mod_eq_of_lt fits)

/-- A one-bit field that a Bool was laid in reads as the Bool. -/
theorem flag_wire_pack {x : Bool} (i : Nat) (stands : place l i = (n, a, b + 1, some (1, b2n x))) :
    (wire n (pack l) a b == 1) = x := by
  rw [wire_pack_of_lt i stands (b2n_lt x)]
  cases x <;> rfl

end

/-- Settles O59: the 16 bytes read as the number that the fields were laid in, and every field stands in the list of fields. -/
theorem tunnelHeaderRoundTrip : Obligations.TunnelHeaderRoundTrip := by
  intro t rest dhub dtun shub stun type cls hops plen rsv eseq hcrc
  refine ⟨?_, t.length_bytes⟩
  rw [tunHdr, t.beNat_bytes]
  obtain ⟨_, _, _, _, _, _, _, _, _, _, _, _, _, _, _⟩ := t
  rw [THdr.mk.injEq]
  exact ⟨wire_pack_of_lt 0 rfl dhub, wire_pack_of_lt 1 rfl dtun, wire_pack_of_lt 2 rfl shub, wire_pack_of_lt 3 rfl stun,
    wire_pack_of_lt 4 rfl type, wire_pack_of_lt 5 rfl cls, flag_wire_pack 6 rfl, flag_wire_pack 7 rfl, flag_wire_pack 8 rfl,
    flag_wire_pack 9 rfl, wire_pack_of_lt 10 rfl hops, wire_pack_of_lt 11 rfl plen, wire_pack_of_lt 12 rfl rsv,
    wire_pack_of_lt 13 rfl eseq, wire_pack_of_lt 14 rfl hcrc⟩

end Sys2Proof
end

section
/-! Management requests (R136 to R138, R181 to R183, R457). -/

namespace Sys2Proof.Machine

/-! ## The commands -/

/-- A command leaves one hub. -/
theorem Does.unique {c : Instr} {h g k : Hub} (does : Does c h g) (also : Does c h k) : g.finish = k.finish := by
  have same := (does h {} []).symm.trans (also h {} [])
  simp only [Host.Outcome.next.injEq, State.mk.injEq] at same
  obtain ⟨hub, -⟩ := same
  exact hub

section

variable {h : Hub} (ha : h.awake)

include ha

theorem doesRead_mgmtReadRequest (st : Hub) (o : Otp) : DoesRead .mgmtReadRequest st h o (st.mgmtRead h) :=
  doesRead_of_runS ha exec_mgmtReadRequest st o

theorem doesOtp_mgmtWriteRequest (straps : BitVec 8) (o : Otp) :
    DoesOtp (.mgmtWriteRequest straps) h o (h.mgmtWrite { otp := o.bits, straps := straps.toNat }) :=
  doesOtp_of_runO ha (exec_mgmtWriteRequest straps) o

theorem does_mgmtUnsupported : Does .mgmtUnsupported h h.mgmtUnsupported := does_of_run ha Hub.mgmtUnsupported exec_mgmtUnsupported

theorem does_mgmtResendTimeout (reqid dhub : BitVec 16) (addr : Word) (op : Fin 1025 ⊕ List (BitVec 32)) (key : Option (Fin 2)) :
    Does (.mgmtResendTimeout reqid dhub addr op key) h
      (h.ownTimeout reqid.toNat dhub.toNat addr.toNat (op.map (·.val) (·.take 1024)) (key.map (·.val))) := by
  intro st o q
  rw [exec_mgmtResendTimeout, run_awake ha]
  cases op <;> rfl

end

/-! ## The checks of Table 6-6 -/

section

variable {h : Hub} {f : Frm}

theorem Hub.reqPath_own (own : f.src = 33) : h.reqPath f = (h, .inl .own) := if_pos own

section

variable (remote : f.src ≠ 33)

include remote

theorem Hub.reqPath_noSlot (noSlot : h.mgrSlot f.hdr.shub = none) : h.reqPath f = (h.bump F.FAB_MGMTCNT_DENIED, .inr 2) := by
  rw [Hub.reqPath, if_neg remote, Hub.reqCheck, noSlot]

section

variable {m : Fin 16} (slot : h.mgrSlot f.hdr.shub = some m.val)

include slot

/-- With a slot found, tag and counter decide (R182, R183). -/
theorem Hub.reqPath_slot : h.reqPath f =
    if ¬ f.hdr.a then
      if h.flag F.FAB_MGMTCFG_REQAUTH then (h.bump F.FAB_MGMTCNT_UNTAG, .inr 4) else (h, .inl (.tunnel m))
    else if f.hdr.plen < 24 ∨ (h.untag f).isNone then (h.bump F.FAB_MGMTCNT_TAGERR, .inr 4)
    else if ¬ h.fresh m f.ctr then (h.bump F.FAB_MGMTCNT_STALE, .inr 4)
    else (h.set64 F.FAB_RMGRCTR_LO_CTR_LO F.FAB_RMGRCTR_HI_CTR_HI f.ctr m, .inl (.tunnel m)) := by
  have named : Fin.ofNat 16 m.val = m := Fin.ofNat_val_eq_self m
  rw [Hub.reqPath, if_neg remote, Hub.reqCheck, slot]
  simp only [named]

theorem Hub.reqPath_untagged_refused (plain : f.hdr.a = false) (required : h.get F.FAB_MGMTCFG_REQAUTH = 1) :
    h.reqPath f = (h.bump F.FAB_MGMTCNT_UNTAG, .inr 4) := by
  rw [Hub.reqPath_slot remote slot, if_pos (by simp [plain]), if_pos (Hub.flag_one required)]

theorem Hub.reqPath_untagged_passes (plain : f.hdr.a = false) (optional : h.get F.FAB_MGMTCFG_REQAUTH = 0) :
    h.reqPath f = (h, .inl (.tunnel m)) := by
  rw [Hub.reqPath_slot remote slot, if_pos (by simp [plain]), if_neg (Hub.not_flag optional)]

section

variable (tagged : f.hdr.a = true)

include tagged

theorem Hub.reqPath_badTag (bad : h.untag f = none) : h.reqPath f = (h.bump F.FAB_MGMTCNT_TAGERR, .inr 4) := by
  rw [Hub.reqPath_slot remote slot, if_neg (not_not_intro tagged), if_pos (.inr (Option.isNone_iff_eq_none.mpr bad))]

section

variable (long : 24 ≤ f.hdr.plen) (good : (h.untag f).isSome = true)

include long good

/-- Past the tag the counter decides (R183). -/
theorem Hub.reqPath_goodTag : h.reqPath f =
    if ¬ h.fresh m f.ctr then (h.bump F.FAB_MGMTCNT_STALE, .inr 4)
    else (h.set64 F.FAB_RMGRCTR_LO_CTR_LO F.FAB_RMGRCTR_HI_CTR_HI f.ctr m, .inl (.tunnel m)) := by
  have passes : ¬ (f.hdr.plen < 24 ∨ (h.untag f).isNone = true) := by
    rintro (short | none)
    · omega
    · rw [Option.isNone_iff_eq_none.mp none] at good
      cases good
  rw [Hub.reqPath_slot remote slot, if_neg (not_not_intro tagged), if_neg passes]

theorem Hub.reqPath_stale (old : f.ctr ≤ h.get64 F.FAB_RMGRCTR_LO_CTR_LO F.FAB_RMGRCTR_HI_CTR_HI m) :
    h.reqPath f = (h.bump F.FAB_MGMTCNT_STALE, .inr 4) := by
  have stale : ¬ h.fresh m f.ctr = true := by
    intro fresh
    simp only [Hub.fresh, Bool.and_eq_true, decide_eq_true_eq] at fresh
    omega
  rw [Hub.reqPath_goodTag remote slot tagged long good, if_pos stale]

theorem Hub.reqPath_fresh (fresh : h.fresh m f.ctr = true) :
    h.reqPath f = (h.set64 F.FAB_RMGRCTR_LO_CTR_LO F.FAB_RMGRCTR_HI_CTR_HI f.ctr m, .inl (.tunnel m)) := by
  rw [Hub.reqPath_goodTag remote slot tagged long good, if_neg (not_not_intro fresh)]

end

end

end

end

end

/-! ## READ -/

section

variable {h k g : Hub} {f : Frm} (taken : h.takeMsg (·.isReq 1) = some (f, k)) (st : Hub)

include taken

theorem Hub.mgmtRead_serves : st.mgmtRead h = st.serveRead k f := by rw [Hub.mgmtRead, taken]

theorem Hub.mgmtRead_failed {r : Nat} (failed : k.reqPath f = (g, .inr r)) : st.mgmtRead h = (st, g.respond f r []) := by
  rw [Hub.mgmtRead_serves taken, Hub.serveRead, failed]

section

variable {p : Path} (passed : k.reqPath f = (g, .inl p))

include passed

theorem Hub.mgmtRead_badForm (bad : f.reqForm = false) : st.mgmtRead h = (st, g.respond f 5 []) := by
  rw [Hub.mgmtRead_serves taken, Hub.serveRead, passed]
  exact if_pos (ne_true_of_eq_false bad)

variable (form : f.reqForm = true)

include form

theorem Hub.mgmtRead_denied (beyond : g.reachAll p f = false) :
    st.mgmtRead h = (st, (g.bump F.FAB_MGMTCNT_DENIED).respond f 2 []) := by
  rw [Hub.mgmtRead_serves taken, Hub.serveRead, passed]
  exact (if_neg (not_not_intro form)).trans (if_pos (ne_true_of_eq_false beyond))

/-- A READ within its rights answers what its registers read (R136). -/
theorem Hub.mgmtRead_reads (within : g.reachAll p f = true) : st.mgmtRead h =
    ((st.readRun (g.mgrHold p) p f.maddr f.count).1,
      (st.readRun (g.mgrHold p) p f.maddr f.count).2.1.respond f 0 (st.readRun (g.mgrHold p) p f.maddr f.count).2.2) := by
  rw [Hub.mgmtRead_serves taken, Hub.serveRead, passed]
  exact (if_neg (not_not_intro form)).trans (if_neg (not_not_intro within))

end

end

theorem Hub.readRun_one (st h : Hub) (p : Path) (a : Nat) :
    st.readRun h p a 1 = ((st.readEffect h p a).1, (st.readEffect h p a).2, beBytes 4 (st.view p a).toNat) := by
  simp only [Hub.readRun, List.append_nil]

/-! ## WRITE -/

section

variable {h k g : Hub} {f : Frm} (taken : h.takeMsg (·.isReq 2) = some (f, k)) (e : Env)

include taken

theorem Hub.mgmtWrite_serves : h.mgmtWrite e = k.serveWrite e f := by rw [Hub.mgmtWrite, taken]

theorem Hub.mgmtWrite_failed {st : Nat} (failed : k.reqPath f = (g, .inr st)) : h.mgmtWrite e = g.respond f st [] := by
  rw [Hub.mgmtWrite_serves taken, Hub.serveWrite, failed]

section

variable {p : Path} (passed : k.reqPath f = (g, .inl p))

include passed

/-- A repeated WRITE accesses nothing and gets the answer it got before (R457). -/
theorem Hub.mgmtWrite_repeated {st : Nat} (kept : g.keptWrite p f.reqid = some st) : h.mgmtWrite e = g.respond f st [] := by
  rw [Hub.mgmtWrite_serves taken, Hub.serveWrite, passed]
  simp only [kept]

variable (first : g.keptWrite p f.reqid = none) (form : f.reqForm = true)

include first form

theorem Hub.mgmtWrite_denied (beyond : g.reachAll p f = false) :
    h.mgmtWrite e = ((g.bump F.FAB_MGMTCNT_DENIED).keepWrite p f.reqid 2).respond f 2 [] := by
  rw [Hub.mgmtWrite_serves taken, Hub.serveWrite, passed]
  simp only [first]
  exact (if_neg (not_not_intro form)).trans (if_pos (ne_true_of_eq_false beyond))

/-- A WRITE that leaves the hub standing tells of a conflict in its status, which is kept (R25, R457). -/
theorem Hub.mgmtWrite_writes (within : g.reachAll p f = true) {r : Hub} {b : Bool}
    (written : (g.mgrHold p).writeAll e p f.maddr (reqWords f.count (f.data.drop 16)) = (r, b, true)) :
    h.mgmtWrite e = (r.keepWrite p f.reqid (b2n b)).respond f (b2n b) [] := by
  rw [Hub.mgmtWrite_serves taken, Hub.serveWrite, passed]
  simp only [first, written, if_true]
  exact (if_neg (not_not_intro form)).trans (if_neg (not_not_intro within))

end

end

/-! ## Resends of this hub's own requests -/

section

variable {h : Hub} {reqid a b : Nat} (runs : h.boot.rom = .running) (sent : Tab.get (0, 0) h.boot.mreqs reqid = (a, b))
  (late : a = 0 ∨ b + 20000 ≤ h.time.tick) (dhub addr : Nat) (op : Nat ⊕ List Word) (key : Option Nat)

include runs sent late

theorem Hub.ownTimeout_resends (again : a < 2) : h.ownTimeout reqid dhub addr op key =
    { h with boot := { h.boot with mreqs := Tab.set (0, 0) h.boot.mreqs reqid (a + 1, h.time.tick) } }.ownSend reqid dhub addr op key := by
  simp only [Hub.ownTimeout, sent]
  exact (Hub.when_pos ⟨runs, late⟩).trans (if_pos again)

theorem Hub.ownTimeout_fails (last : 2 ≤ a) : h.ownTimeout reqid dhub addr op key =
    { h with boot := { h.boot with mreqs := Tab.set (0, 0) h.boot.mreqs reqid (0, 0) } }.fault0 0x12 srcMgmt reqid := by
  simp only [Hub.ownTimeout, sent]
  exact (Hub.when_pos ⟨runs, late⟩).trans (if_neg (Nat.not_lt.mpr last))

end

/-! ## Reserved operations -/

/-- What O30 says of a request with a reserved MOP: the oldest of those to endpoint 0x000 is answered. -/
def AnswersReservedAtZero : Prop :=
  ∀ h : Hub, h.awake → ∀ (f : Frm) (k : Hub),
    h.takeMsg (fun f => f.hdr.type == 0 && f.hdr.dtun == 0 && f.mgmtReq && f.mop != 1 && f.mop != 2) = some (f, k) →
    (∀ g st, k.reqPath f = (g, .inr st) → Does .mgmtUnsupported h (g.respond f st [])) ∧
    (∀ g p, k.reqPath f = (g, .inl p) → Does .mgmtUnsupported h (g.respond f 5 []))

/-- Of O30 one clause alone is open: the others hold, each by the lemma about the check or the request that it names. That a WRITE of
status 2 is kept for its repeats and resends are counted by REQID is log entry 32; that source 33 is not checked is entry 29. -/
theorem managementCommands_iff : Obligations.ManagementCommands ↔ AnswersReservedAtZero := by
  refine ⟨?_, fun reserved => ⟨fun h ha o f k => ⟨?_, ?_, reserved h ha f k, ?_⟩, ?_, ?_⟩⟩
  · intro ⟨requests, _⟩ h ha f k
    obtain ⟨_, _, reserved, _⟩ := requests h ha {} f k
    exact reserved
  · refine fun taken st => ⟨?_, ?_, ?_, ?_⟩
    · exact fun g r failed => Hub.mgmtRead_failed taken st failed ▸ doesRead_mgmtReadRequest ha st o
    · exact fun g p passed bad => Hub.mgmtRead_badForm taken st passed bad ▸ doesRead_mgmtReadRequest ha st o
    · exact fun g p passed form beyond => Hub.mgmtRead_denied taken st passed form beyond ▸ doesRead_mgmtReadRequest ha st o
    · intro g p passed form within single
      have reads := Hub.mgmtRead_reads taken st passed form within
      rw [single, Hub.readRun_one] at reads
      exact reads ▸ doesRead_mgmtReadRequest ha st o
  · refine fun taken straps => ⟨?_, ?_, ?_, ?_⟩
    · exact fun g st failed => Hub.mgmtWrite_failed taken _ failed ▸ doesOtp_mgmtWriteRequest ha straps o
    · exact fun g p st passed kept => Hub.mgmtWrite_repeated taken _ passed kept ▸ doesOtp_mgmtWriteRequest ha straps o
    · exact fun g p passed first form beyond =>
        Hub.mgmtWrite_denied taken _ passed first form beyond ▸ doesOtp_mgmtWriteRequest ha straps o
    · exact fun g p r b passed first form within written =>
        Hub.mgmtWrite_writes taken _ passed first form within written ▸ doesOtp_mgmtWriteRequest ha straps o
  · refine fun reqid dhub addr n key a b runs sent late => ⟨fun again => ?_, fun last => ?_⟩
    · exact (does_mgmtResendTimeout ha reqid dhub addr (.inl n) key).of_eq (Hub.ownTimeout_resends runs sent late _ _ _ _ again)
    · exact (does_mgmtResendTimeout ha reqid dhub addr (.inl n) key).of_eq (Hub.ownTimeout_fails runs sent late _ _ _ _ last)
  · exact fun h f => ⟨Hub.reqPath_own, Hub.reqPath_noSlot, fun m remote slot =>
      ⟨Hub.reqPath_untagged_refused remote slot, Hub.reqPath_untagged_passes remote slot, Hub.reqPath_badTag remote slot,
        Hub.reqPath_stale remote slot, Hub.reqPath_fresh remote slot⟩⟩
  · refine fun h ha => ⟨doesRead_mgmtReadRequest ha, doesOtp_mgmtWriteRequest ha, does_mgmtUnsupported ha, ?_⟩
    intro reqid dhub addr op key
    have does := does_mgmtResendTimeout ha reqid dhub addr op key
    cases op <;> exact does

/-- A request with reserved MOP 5 of the hub's own management controller to entry `dtun`. -/
def reservedRequest (dtun : Nat) : Frm :=
  { hdr := { dhub := 5, dtun := dtun, shub := 5, stun := 0, type := 0, cls := 0, plen := 16 }, len := 32,
    data := 5#8 :: List.replicate 15 0#8, src := 33, arrived := 0, lcls := 0, phase := .arriving }

/-- Two reserved requests wait: the older came at entry 1, the younger at endpoint 0x000. -/
def twoReserved : Hub := { Hub.reset with core := { Hub.reset.core with inbox := [reservedRequest 1, reservedRequest 0] } }

/-- The hub once the younger request is taken. -/
def olderWaits : Hub := { Hub.reset with core := { Hub.reset.core with inbox := [reservedRequest 1] } }

/-- The entries of the messages that wait. -/
def Hub.waitsAt (h : Hub) : List Nat := h.core.inbox.map (·.hdr.dtun)

theorem twoReserved_takeMsg : twoReserved.takeMsg
    (fun f => f.hdr.type == 0 && f.hdr.dtun == 0 && f.mgmtReq && f.mop != 1 && f.mop != 2) = some (reservedRequest 0, olderWaits) := by
  decide +kernel

/-- The command answers the older request: the one to endpoint 0x000 still waits. -/
theorem twoReserved_mgmtUnsupported : twoReserved.mgmtUnsupported.finish.waitsAt = [0] := by decide +kernel

theorem olderWaits_respond : (olderWaits.respond (reservedRequest 0) 5 []).finish.waitsAt = [1] := by decide +kernel

/-- Refutes O30: by one clause the oldest reserved request to endpoint 0x000 is answered, where the model answers the oldest of all, at
whichever entry of the management controller it came (R138). With one of each waiting the answers differ; the other clauses hold
(`managementCommands_iff`). -/
theorem not_managementCommands : ¬ Obligations.ManagementCommands := by
  intro holds
  obtain ⟨_, answered⟩ := managementCommands_iff.mp holds twoReserved rfl _ _ twoReserved_takeMsg
  have younger : Does .mgmtUnsupported twoReserved (olderWaits.respond (reservedRequest 0) 5 []) :=
    answered olderWaits .own (Hub.reqPath_own rfl)
  have same := congrArg Hub.waitsAt ((does_mgmtUnsupported rfl).unique younger)
  rw [twoReserved_mgmtUnsupported, olderWaits_respond] at same
  exact absurd same (by decide)

end Sys2Proof.Machine
end

section
/-! Fabric assembly: the messages and timers (R164, R167, R168, R171 to R174, R185 to R188). -/

namespace Sys2Proof.Machine

/-! ## The commands -/

section

variable {h : Hub} (ha : h.awake)

include ha

theorem does_helloReceive : Does .helloReceive h h.helloReceive := does_of_run ha Hub.helloReceive exec_helloReceive

theorem does_dlgRepeat (n : PortId) : Does (.dlgRepeat n) h (h.dlgRepeat n) := does_of_run ha (·.dlgRepeat n) (exec_dlgRepeat n)

theorem does_dlgReceive : Does .dlgReceive h h.dlgReceive := does_of_run ha Hub.dlgReceive exec_dlgReceive

theorem does_dlgackReceive : Does .dlgackReceive h h.dlgackReceive := does_of_run ha Hub.dlgackReceive exec_dlgackReceive

theorem does_staggerGroupStart : Does .staggerGroupStart h h.groupStart := does_of_run ha Hub.groupStart exec_staggerGroupStart

theorem does_porttmoExpiry (n : PortId) : Does (.porttmoExpiry n) h (h.portTmo n) := does_of_run ha (·.portTmo n) (exec_porttmoExpiry n)

theorem does_readyReceive : Does .readyReceive h h.readyReceive := does_of_run ha Hub.readyReceive exec_readyReceive

theorem does_sitereadyReceive : Does .sitereadyReceive h h.siteReadyReceive :=
  does_of_run ha Hub.siteReadyReceive exec_sitereadyReceive

end

/-! ## Messages -/

/-- A field of a payload is less than two to the power of its width. -/
theorem Frm.fld_lt (f : Frm) (a b : Nat) : f.fld a b < 2 ^ (b + 1 - a) := Nat.mod_lt _ (Nat.two_pow_pos _)

/-- A message of version 1 whose link is still UP has its effect (Table 6-2). -/
theorem Hub.fabTake_taken {h k : Hub} {f : Frm} {m : Nat} (taken : h.takeMsg (·.isMop m) = some (f, k)) (version : f.fld 8 15 = 1)
    (port : f.src < 32) (up : k.get F.PORT_LKSTAT_STATE f.src = 2) (act : Frm → Hub → Hub) : h.fabTake m act = act f k := by
  rw [Hub.fabTake, taken]
  exact Hub.when_pos ⟨version, port, Hub.linkUp_of up⟩

/-! ## HELLO -/

/-- Two summits on a link are a role error, whatever else the HELLO says (R164). -/
theorem Hub.takeHello_twoSummits {h : Hub} {n : Nat} {f : Frm} (summit : h.get F.TIME_CTL_SUMMIT = 1) (partner : f.fld 37 37 = 1) :
    h.takeHello n f = (((h.set F.FAB_PORTSTAT_KIND (f.fld 32 35) n).set F.FAB_PORTSTAT_PHUB (f.fld 48 63) n).setFabp n
      { h.fabp n with
        heard := true
        helloAt := some h.now
        sentAt := if (h.fabp n).await = true ∧ (h.fabp n).sentAt + 20000 = h.now then h.now else (h.fabp n).sentAt }).roleErr n := by
  have still : ((h.set F.FAB_PORTSTAT_KIND (f.fld 32 35) n).set F.FAB_PORTSTAT_PHUB (f.fld 48 63) n).get F.TIME_CTL_SUMMIT = 1 := by
    rw [Hub.get_set_low _ (by decide), Hub.get_set_low _ (by decide), summit]
  exact if_pos ⟨Hub.flag_one still, partner⟩

/-! ## DLG -/

section

variable {h : Hub} {n : Nat} {f : Frm}

theorem Hub.takeDlg_misplaced (other : h.role n ≠ 2) :
    h.takeDlg n f = (h.bump F.FAB_ASMCNT_ROLEERR).dlgackMsg n 1 (f.fld 32 47) (f.fld 48 52) := if_pos other

variable (primary : h.role n = 2)

include primary

/-- On the primary uplink a hub without a site takes the one of the DLG; then the site, and a range already held, decide (Table 6-4). The
DEPTH of a DLG has four bits, so that it is never above 15. -/
theorem Hub.takeDlg_primary {g : Hub}
    (adopted : (if h.get F.FAB_CTL_SITEID = 0 then h.set F.FAB_CTL_SITEID (f.fld 16 31) else h) = g) : h.takeDlg n f =
    if g.get F.FAB_CTL_SITEID ≠ f.fld 16 31 then g.dlgackMsg n 2 (f.fld 32 47) (f.fld 48 52)
    else if g.flag F.FAB_ID_VALID then
      g.dlgackMsg n (if g.get F.FAB_ID_HUBID = f.fld 32 47 ∧ g.get F.FAB_ID_LEN = f.fld 48 52 then 0 else 4) (f.fld 32 47) (f.fld 48 52)
    else (g.dlgackMsg n 0 (f.fld 32 47) (f.fld 48 52)).takeRange (f.fld 32 47) (f.fld 48 52) (f.fld 53 56) := by
  have shallow : ¬ 15 < f.fld 53 56 := Nat.not_lt.mpr (Nat.le_of_lt_succ (f.fld_lt 53 56))
  simp only [Hub.takeDlg]
  rw [if_neg (not_not_intro primary), adopted, if_neg shallow]

theorem Hub.takeDlg_otherSite (own : h.get F.FAB_CTL_SITEID ≠ 0) (other : h.get F.FAB_CTL_SITEID ≠ f.fld 16 31) :
    h.takeDlg n f = h.dlgackMsg n 2 (f.fld 32 47) (f.fld 48 52) := by
  rw [Hub.takeDlg_primary primary (if_neg own), if_pos other]

/-- The first DLG gives its site to a hub that has none (R174). -/
theorem Hub.takeDlg_firstSite (noSite : h.get F.FAB_CTL_SITEID = 0) (free : h.get F.FAB_ID_VALID = 0) :
    h.takeDlg n f = ((h.set F.FAB_CTL_SITEID (f.fld 16 31)).dlgackMsg n 0 (f.fld 32 47) (f.fld 48 52)).takeRange (f.fld 32 47)
      (f.fld 48 52) (f.fld 53 56) := by
  have site : (h.set F.FAB_CTL_SITEID (f.fld 16 31)).get F.FAB_CTL_SITEID = f.fld 16 31 :=
    (Hub.get_set_same _ _ _ _ _ (by decide)).trans (Nat.mod_eq_of_lt (f.fld_lt 16 31))
  have stillFree : (h.set F.FAB_CTL_SITEID (f.fld 16 31)).get F.FAB_ID_VALID = 0 := (Hub.get_set_low _ (by decide)).trans free
  rw [Hub.takeDlg_primary primary (if_pos noSite), if_neg (not_not_intro site), if_neg (Hub.not_flag stillFree)]

variable (own : h.get F.FAB_CTL_SITEID ≠ 0) (site : h.get F.FAB_CTL_SITEID = f.fld 16 31)

include own site

/-- A hub that holds a range accepts that range alone (Table 6-4). -/
theorem Hub.takeDlg_holding (valid : h.get F.FAB_ID_VALID = 1) : h.takeDlg n f =
    h.dlgackMsg n (if h.get F.FAB_ID_HUBID = f.fld 32 47 ∧ h.get F.FAB_ID_LEN = f.fld 48 52 then 0 else 4) (f.fld 32 47)
      (f.fld 48 52) := by
  rw [Hub.takeDlg_primary primary (if_neg own), if_neg (not_not_intro site), if_pos (Hub.flag_one valid)]

theorem Hub.takeDlg_free (free : h.get F.FAB_ID_VALID = 0) : h.takeDlg n f =
    (h.dlgackMsg n 0 (f.fld 32 47) (f.fld 48 52)).takeRange (f.fld 32 47) (f.fld 48 52) (f.fld 53 56) := by
  rw [Hub.takeDlg_primary primary (if_neg own), if_neg (not_not_intro site), if_neg (Hub.not_flag free)]

end

/-! ## DLGACK -/

section

variable {h : Hub} {n : Nat} {f : Frm}

theorem Hub.takeDlgack_misplaced (other : h.role n ≠ 1) : h.takeDlgack n f = h.bump F.FAB_ASMCNT_ROLEERR := if_pos other

/-- The answer to an offer that was sent once: its result decides (R174). -/
theorem Hub.takeDlgack_answers {len depth : Nat} (down : h.role n = 1) (offered : (h.fabp n).offer = some (f.fld 48 63, len, depth))
    (same : len = f.fld 64 68) (awaited : (h.fabp n).await = true) (once : (h.fabp n).sends ≤ 1) : h.takeDlgack n f =
    if f.fld 32 35 = 0 then
      (((((h.setFabp n { h.fabp n with await := false }).set F.FAB_PORTDLG_VALID 1 n).set F.FAB_PORTDLG_LEN len n).set
        F.FAB_PORTDLG_BASE (f.fld 48 63) n).set F.FAB_PORTSTAT_RESULT 0 n).set F.FAB_PORTSTAT_STATE 3 n
    else (h.setFabp n { h.fabp n with await := false }).dlgErr n (f.fld 32 35) := by
  have answers : ¬ (¬ (h.fabp n).await = true ∨ f.fld 48 63 ≠ f.fld 48 63 ∨ len ≠ f.fld 64 68) := by
    simp [awaited, same]
  simp only [Hub.takeDlgack, offered]
  rw [if_neg (not_not_intro down), if_neg answers, if_neg (Nat.not_lt.mpr once)]

end

/-! ## The repeat of an offer -/

/-- Up to four sends, then the port is set to DLGERR (R173). -/
theorem Hub.dlgRepeat_late {h : Hub} {n : Nat} {o : Nat × Nat × Nat} (awaited : (h.fabp n).await = true)
    (late : (h.fabp n).sentAt + 20000 ≤ h.now) (up : h.get F.PORT_LKSTAT_STATE n = 2) (offered : (h.fabp n).offer = some o) :
    h.dlgRepeat n = if (h.fabp n).sends < 4 then h.sendDlg n o else h.dlgErr n (h.get F.FAB_PORTSTAT_RESULT n) := by
  rw [Hub.dlgRepeat, Hub.when_pos ⟨awaited, late, Hub.linkUp_of up⟩, offered]

/-! ## The start -/

/-- GRPSP after the group before, the next group starts (R185). -/
theorem Hub.groupStart_due {h : Hub} {t g : Nat} (next : h.fab.groups = g) (more : g < 4) (started : h.fab.startAt = some t)
    (spaced : t + g * 200000 * h.get F.FAB_CTL_GRPSP ≤ h.now) :
    h.groupStart = ({ h with fab := { h.fab with groups := g + 1 } }).each
      (({ h with fab := { h.fab with groups := g + 1 } } : Hub).downPorts.filter (fun n => n % 4 = g))
      (fun n k => (k.setFabp n { k.fabp n with group := some k.now }).ppEnable n 1) := by
  have due : h.due (h.fab.startAt.map (· + g * 200000 * h.get F.FAB_CTL_GRPSP)) = true := by
    rw [started]
    exact Hub.due_some.mpr spaced
  simp only [Hub.groupStart, next]
  exact Hub.when_pos ⟨more, due⟩

section

variable {h : Hub} {n t : Nat} (down : h.role n = 1) (waits : h.get F.FAB_PORTSTAT_STATE n = 2) (group : (h.fabp n).group = some t)

include group

/-- A HELLO in the tick of the expiry goes first (R190). -/
theorem Hub.portTmo_heard (heard : (h.fabp n).helloAt = some (t + 2000000 * h.get F.FAB_CTL_PORTTMO)) : h.portTmo n = h := by
  simp only [Hub.portTmo, group]
  refine Hub.when_neg ?_
  rintro ⟨_, _, _, unheard⟩
  exact unheard heard

include down waits

/-- A partner not heard within PORTTMO fails its port (R186). -/
theorem Hub.portTmo_fails (late : t + 2000000 * h.get F.FAB_CTL_PORTTMO ≤ h.now)
    (unheard : (h.fabp n).helloAt ≠ some (t + 2000000 * h.get F.FAB_CTL_PORTTMO)) : h.portTmo n = h.fabFailed n := by
  simp only [Hub.portTmo, group]
  exact Hub.when_pos ⟨down, waits, Hub.due_some.mpr late, unheard⟩

end

/-- Settles O29: each clause by the lemma about the message, or the timer, that it names. That a message acts only while its link is UP, and
that a DLG off the primary uplink is answered with result 1, is log entry 31. -/
theorem fabricMessageCommands : Obligations.FabricMessageCommands := by
  refine ⟨fun h k f ha version port up => ⟨fun taken => ?_, fun taken => ?_, fun taken => ?_, fun taken => ?_, fun taken => ?_⟩,
    fun h ha n => ⟨fun o awaited late up offered => ?_, ?_, fun t down waits group late => ⟨?_, ?_⟩⟩,
    fun h ha => ⟨does_helloReceive ha, does_dlgRepeat ha, does_dlgReceive ha, does_dlgackReceive ha, does_staggerGroupStart ha,
      does_porttmoExpiry ha, does_readyReceive ha, does_sitereadyReceive ha⟩⟩
  · exact ⟨(does_helloReceive ha).of_eq (Hub.fabTake_taken taken version port up _), Hub.takeHello_twoSummits⟩
  · have does := (does_dlgReceive ha).of_eq (Hub.fabTake_taken taken version port up _)
    refine ⟨fun other => does.of_eq (Hub.takeDlg_misplaced other),
      fun primary own other => does.of_eq (Hub.takeDlg_otherSite primary own other),
      fun primary own site valid => ⟨fun same => ?_, fun differs => ?_⟩,
      fun primary own site free => does.of_eq (Hub.takeDlg_free primary own site free),
      fun primary noSite free => does.of_eq (Hub.takeDlg_firstSite primary noSite free)⟩
    · have accepted := Hub.takeDlg_holding primary own site valid
      rw [if_pos same] at accepted
      exact does.of_eq accepted
    · have refused := Hub.takeDlg_holding primary own site valid
      rw [if_neg (not_and_or.mpr differs)] at refused
      exact does.of_eq refused
  · have does := (does_dlgackReceive ha).of_eq (Hub.fabTake_taken taken version port up _)
    refine ⟨fun other => does.of_eq (Hub.takeDlgack_misplaced other), fun len depth down offered same awaited once => ?_⟩
    have answers := Hub.takeDlgack_answers down offered same awaited once
    exact ⟨fun accepted => does.of_eq (answers.trans (if_pos accepted)), fun refused => does.of_eq (answers.trans (if_neg refused))⟩
  · have does := (does_readyReceive ha).of_eq (Hub.fabTake_taken taken version port up _)
    exact ⟨fun other => does.of_eq (if_pos other), fun down => does.of_eq (if_neg (not_not_intro down))⟩
  · have does := (does_sitereadyReceive ha).of_eq (Hub.fabTake_taken taken version port up _)
    exact ⟨fun other => does.of_eq (if_pos other), fun primary => does.of_eq (if_neg (not_not_intro primary))⟩
  · have repeats := Hub.dlgRepeat_late awaited late up offered
    exact ⟨fun more => (does_dlgRepeat ha n).of_eq (repeats.trans (if_pos more)),
      fun last => (does_dlgRepeat ha n).of_eq (repeats.trans (if_neg (Nat.not_lt.mpr last)))⟩
  · exact fun t g next more started spaced => (does_staggerGroupStart ha).of_eq (Hub.groupStart_due next more started spaced)
  · exact fun unheard => (does_porttmoExpiry ha n).of_eq (Hub.portTmo_fails down waits group late unheard)
  · exact fun heard => (does_porttmoExpiry ha n).of_eq (Hub.portTmo_heard group heard)

end Sys2Proof.Machine
end

section
/-! Egress selection, ageing and the sweeper (R206, R211 to R214, R220 to R222). -/

namespace Sys2Proof.Machine

/-! ## The commands -/

section

variable {h : Hub} (ha : h.awake)

include ha

theorem does_egressSelect (e : EgressId) (ecc : List (Nat × Bool)) : Does (.egressSelect e ecc) h (h.egressSelect e ecc) :=
  does_of_run ha (·.egressSelect e ecc) (exec_egressSelect e ecc)

theorem does_lifetimeExpiry : Does .lifetimeExpiry h h.lifetimeExpiry := does_of_run ha Hub.lifetimeExpiry exec_lifetimeExpiry

theorem does_sweeperVisit : Does .sweeperVisit h h.sweep := does_of_run ha Hub.sweep exec_sweeperVisit

theorem does_flowCacheFlush (hw : h.led.wiped = false) : Does .flowCacheFlush h h.flowFlush :=
  does_of_runW ha Hub.flowFlush exec_flowCacheFlush hw

end

/-! ## Heads of queues -/

theorem mem_classes {c : Nat} : c ∈ [7, 6, 5, 4, 3, 2, 1, 0] ↔ c < 8 := by
  simp only [List.mem_cons, List.not_mem_nil, or_false]
  omega

section

variable {h : Hub} {e : Nat}

theorem Hub.head_empty {q : Nat} (empty : h.queue q = []) : h.head q = none := by rw [Hub.head, empty]; rfl

theorem Hub.head_of_queue {q i : Nat} {f : Frm} (first : (h.queue q).head? = some i) (found : h.frm i = some f) :
    h.head q = some (i, f) := by
  rw [Hub.head, first]
  exact congrArg (Option.map _) found

/-- A selection does not discard the frame at the head of a queue of egress point `e`: it is neither aged nor, at a port, too long for the
partner (R115, R211). -/
def Hub.Keeps (h : Hub) (e : Nat) (f : Frm) : Prop := h.aged f = false ∧ (e < 32 → f.len ≤ (h.link e).maxlen)

theorem Hub.dropHeads_kept {c : Nat} (kept : ∀ i f, h.head (e * 8 + c) = some (i, f) → h.Keeps e f) : ∀ k, h.dropHeads e c k = h
  | 0 => rfl
  | k + 1 => by
    rw [Hub.dropHeads]
    split
    · rfl
    next i first =>
    split
    · rfl
    next f found =>
    obtain ⟨young, fits⟩ := kept i f (Hub.head_of_queue first found)
    rw [if_neg (Bool.eq_false_iff.mp young), if_neg (fun long => Nat.not_lt.mpr (fits long.1) long.2)]

theorem Hub.dropNoBuf_empty {q : Nat} (empty : h.queue q = []) : ∀ k, h.dropNoBuf q k = h
  | 0 => rfl
  | k + 1 => by rw [Hub.dropNoBuf, Hub.head_empty empty]

/-- With no head to discard, a free egress point selects at once (R222). -/
theorem Hub.egressSelect_selects (free : h.egressFree e = true) (running : h.get F.GLB_FATAL_VALID = 0)
    (kept : ∀ c < 8, ∀ i f, h.head (e * 8 + c) = some (i, f) → h.Keeps e f)
    (noRing : e = 32 → ∀ c < 8, h.queue (256 + c) = []) (ecc : List (Nat × Bool)) : h.egressSelect e ecc = h.select e ecc := by
  have heads : [7, 6, 5, 4, 3, 2, 1, 0].foldl (fun g c => g.dropHeads e c (g.queue (e * 8 + c)).length) h = h :=
    List.foldlRecOn _ _ (motive := (· = h)) rfl fun g same c inList => by
      subst same
      exact Hub.dropHeads_kept (kept c (mem_classes.mp inList)) _
  have rings (ring : e = 32) : (List.range 8).foldl (fun g c => g.dropNoBuf (256 + c) (g.queue (256 + c)).length) h = h :=
    List.foldlRecOn _ _ (motive := (· = h)) rfl fun g same c inList => by
      subst same
      exact Hub.dropNoBuf_empty (noRing ring c (List.mem_range.mp inList)) _
  rw [Hub.egressSelect, Hub.when_pos ⟨free, Hub.not_flag running⟩]
  simp only [heads]
  split
  next ring => rw [rings ring]
  · rfl

/-! ## The pick -/

theorem Hub.eligibleHead_empty {c : Nat} (empty : h.queue (e * 8 + c) = []) : h.eligibleHead e c = none := by
  rw [Hub.eligibleHead, Hub.head_empty empty]

theorem Hub.eligibleHead_head {c i : Nat} {f : Frm} (head : h.head (e * 8 + c) = some (i, f)) (eligible : h.eligible e c f = true) :
    h.eligibleHead e c = some (i, f) := by
  simp only [Hub.eligibleHead, head]
  exact if_pos eligible

theorem Hub.strictPick_none (idle : ∀ c < 8, h.eligibleHead e c = none) : h.strictPick e = none := by
  refine List.find?_eq_none.mpr fun c inList => ?_
  rw [idle c (mem_classes.mp inList)]
  exact Bool.false_ne_true

theorem Hub.strictPick_only {c : Nat} (isClass : c < 8) (picked : (h.eligibleHead e c).isSome = true)
    (others : ∀ c' < 8, c' ≠ c → h.eligibleHead e c' = none) : h.strictPick e = some c := by
  have picks : (h.strictPick e).isSome = true := List.find?_isSome.mpr ⟨c, mem_classes.mpr isClass, picked⟩
  obtain ⟨p, found⟩ := Option.isSome_iff_exists.mp picks
  have eligible := List.find?_some found
  by_cases same : p = c
  · rw [found, same]
  · rw [others p (mem_classes.mp (List.mem_of_find?_eq_some found)) same] at eligible
    exact absurd eligible Bool.false_ne_true

/-- The urgency band has no pick where no class below the strict one has an eligible head (R222). -/
theorem Hub.urgentPick_none {pick : Option Nat} (idle : ∀ c < 8, (∀ p, pick = some p → c < p) → h.eligibleHead e c = none) :
    h.urgentPick e pick = none := by
  rw [Hub.urgentPick, List.filterMap_eq_nil_iff.mpr]
  · rfl
  intro c isClass
  rw [List.mem_range] at isClass
  cases pick with
  | none => simp only [idle c isClass (fun _ same => nomatch same), ite_self]
  | some p =>
    by_cases below : c < p
    · simp only [idle c isClass (fun _ same => Option.some.inj same ▸ below), ite_self]
    · exact if_neg fun above => below (of_decide_eq_true above)

theorem Hub.select_idle (idle : ∀ c < 8, h.eligibleHead e c = none) (ecc : List (Nat × Bool)) : h.select e ecc = h := by
  simp only [Hub.select, Hub.strictPick_none idle, Hub.urgentPick_none (pick := none) (fun c isClass _ => idle c isClass), ite_self]

/-- An eligible head that is alone is the strict pick, and there is nothing that could overtake it (R222). -/
theorem Hub.select_only {c : Nat} (isClass : c < 8) (picked : (h.eligibleHead e c).isSome = true)
    (others : ∀ c' < 8, c' ≠ c → h.eligibleHead e c' = none) (ecc : List (Nat × Bool)) : h.select e ecc = h.startPick e c ecc := by
  have nobody : h.urgentPick e (some c) = none :=
    Hub.urgentPick_none fun c' isClass' below => others c' isClass' (Nat.ne_of_lt (below c rfl))
  simp only [Hub.select, Hub.strictPick_only isClass picked others, nobody, ite_self]

/-- With empty queues a selection does nothing. -/
theorem Hub.egressSelect_empty (running : h.get F.GLB_FATAL_VALID = 0) (empty : ∀ c < 8, h.queue (e * 8 + c) = [])
    (ecc : List (Nat × Bool)) : h.egressSelect e ecc = h := by
  by_cases free : h.egressFree e = true
  · have noHead (c : Nat) (isClass : c < 8) : h.head (e * 8 + c) = none := Hub.head_empty (empty c isClass)
    rw [Hub.egressSelect_selects free running, Hub.select_idle fun c isClass => Hub.eligibleHead_empty (empty c isClass)]
    · exact fun c isClass i f head => absurd head (by simp [noHead c isClass])
    · rintro rfl
      exact empty
  · exact Hub.when_neg fun both => free both.1

/-- A port with one occupied queue starts its head if that is eligible, neither aged nor too long (R222). -/
theorem Hub.egressSelect_starts {c i : Nat} {f : Frm} (port : e < 32) (isClass : c < 8) (free : h.egressFree e = true)
    (running : h.get F.GLB_FATAL_VALID = 0) (others : ∀ c' < 8, c' ≠ c → h.queue (e * 8 + c') = [])
    (head : h.head (e * 8 + c) = some (i, f)) (young : h.aged f = false) (fits : f.len ≤ (h.link e).maxlen)
    (eligible : h.eligible e c f = true) (ecc : List (Nat × Bool)) : h.egressSelect e ecc =
      ((h.eccRead f.cells ecc).shaperCharge (4096 + e * 8 + c) (h.chargeLen e f.hdr.plen)).startFrame e (e * 8 + c) i := by
  have kept : ∀ c' < 8, ∀ i' f', h.head (e * 8 + c') = some (i', f') → h.Keeps e f' := by
    intro c' isClass' i' f' head'
    by_cases same : c' = c
    · subst same
      obtain ⟨-, rfl⟩ := Prod.mk.inj (Option.some.inj (head'.symm.trans head))
      exact ⟨young, fun _ => fits⟩
    · exact absurd head' (by simp [Hub.head_empty (others c' isClass' same)])
  have picked : (h.eligibleHead e c).isSome = true := by rw [Hub.eligibleHead_head head eligible]; rfl
  rw [Hub.egressSelect_selects free running kept (fun ring => absurd port (by omega)),
    Hub.select_only isClass picked fun c' isClass' other => Hub.eligibleHead_empty (others c' isClass' other)]
  simp only [Hub.startPick, head]

end

/-! ## Ageing -/

/-- A table whose entries are each changed reads the changed entry. -/
theorem Tab.get_map {α β : Type} {d : α} (d' : β) (g : Nat × α → β) {i : Nat} {a : α} (listed : a ≠ d) : ∀ {t : Tab α},
    Tab.get d t i = a → Tab.get d' (t.map fun x => (x.1, g x)) i = g (i, a)
  | [], found => absurd found.symm listed
  | (k, v) :: t, found => by
    rw [Tab.get] at found
    rw [List.map_cons, Tab.get]
    split at found
    next same => rw [if_pos same, same, found]
    next other => rw [if_neg other, Tab.get_map d' g listed found]

/-- A frame in the kennel that waits, unmarked, in a class with ageing is marked once it is older than the isClass's lifetime (R211). -/
theorem Hub.lifetimeExpiry_frm {h : Hub} {i l : Nat} {f : Frm} (found : h.frm i = some f) (accepted : f.phase = .accepted)
    (waits : h.waits i f = true) (unmarked : f.expired = none) (life : h.life f.hdr.cls = some l) :
    h.lifetimeExpiry.frm i = some (if l < h.age f then { f with expired := some h.now } else f) := by
  refine (Tab.get_map none _ (Option.some_ne_none f) found).trans ?_
  simp only [Option.map_some, accepted, if_true, life, waits, unmarked, Option.isNone_none, Bool.and_self, Bool.true_and,
    decide_eq_true_eq]

/-! ## The sweeper -/

section

variable {h : Hub} {q i : Nat} {f : Frm} (head : h.head q = some (i, f))

include head

theorem Hub.sweepQueue_aged (aged : h.aged f = true) (k : Nat) :
    h.sweepQueue q (k + 1) = ((h.bump F.CORE_DROPCNT0_AGED).dropCopy i q).sweepQueue q k := by
  simp only [Hub.sweepQueue, head]
  exact if_pos aged

/-- A head for a port that is DOWN beyond its hold time goes (R214). -/
theorem Hub.sweepQueue_down (young : h.aged f = false) (port : q / 8 < 32) (down : h.get F.PORT_LKSTAT_STATE (q / 8) = 0)
    (beyond : h.inHold (q / 8) = false) (k : Nat) :
    h.sweepQueue q (k + 1) = ((h.bump F.CORE_DROPCNT1_EGRDOWN).dropCopy i q).sweepQueue q k := by
  simp only [Hub.sweepQueue, head]
  rw [if_neg (Bool.eq_false_iff.mp young), if_pos ⟨port, down, Bool.eq_false_iff.mp beyond⟩]

end

/-- Settles O26: each clause by the lemma about the selection, the expiry or the sweeper that it names. -/
theorem egressAndAgeingCommands : Obligations.EgressAndAgeingCommands := by
  refine ⟨fun h ha => ⟨?_, ?_, ?_, ?_, ?_, ?_, does_flowCacheFlush ha⟩,
    fun h => ⟨fun ha => ⟨does_egressSelect ha, does_lifetimeExpiry ha, does_sweeperVisit ha⟩, does_flowCacheFlush⟩⟩
  · exact fun e ecc running empty => (does_egressSelect ha e ecc).of_eq (Hub.egressSelect_empty running empty ecc)
  · exact fun e c i f port isClass free running others head young fits eligible ecc =>
      (does_egressSelect ha e ecc).of_eq (Hub.egressSelect_starts port isClass free running others head young fits eligible ecc)
  · intro i f l found accepted waits unmarked life
    have marked := Hub.lifetimeExpiry_frm found accepted waits unmarked life
    refine ⟨h.lifetimeExpiry, does_lifetimeExpiry ha, rfl, fun old => ?_, fun young => ?_⟩
    · rw [marked, if_pos old]
      rfl
    · rw [marked, if_neg (Nat.not_lt.mpr young)]
  · exact fun off => (does_sweeperVisit ha).of_eq (Hub.when_neg (Hub.not_flag off))
  · exact fun q i k f head => ⟨fun aged => Hub.sweepQueue_aged head aged k,
      fun young port down beyond => Hub.sweepQueue_down head young port down beyond k⟩
  · exact fun on => (does_sweeperVisit ha).of_eq (Hub.when_pos (Hub.flag_one on))

end Sys2Proof.Machine
end

section
/-! Fatal errors, the cairn, scrubbing and row repair (R195, R455, R458 to R461). -/

namespace Sys2Proof.Machine

/-! ## The commands -/

section

variable {h : Hub} (ha : h.awake)

include ha

theorem does_stageStall (stage : BitVec 16) : Does (.stageStall stage) h (h.fatal 5 stage.toNat) :=
  does_of_run ha (·.fatal 5 stage.toNat) (exec_stageStall stage)

theorem doesOtp_cairnTimeout (straps : BitVec 8) (o : Otp) : DoesOtp (.cairnTimeout straps) h o (h.cairnTimeout o.bits straps.toNat) :=
  doesOtp_of_runO ha (exec_cairnTimeout straps) o

theorem does_kennelScrub (ecc : List (Nat × Bool)) : Does (.kennelScrub ecc) h (h.kennelScrub ecc) :=
  does_of_run ha (·.kennelScrub ecc) (exec_kennelScrub ecc)

theorem does_rowRepair (mem : Fin 13) (arr : Fin 64) (row : BitVec 16) :
    Does (.rowRepair mem arr row) h (h.rowRepair mem arr row.toNat) :=
  does_of_run ha (·.rowRepair mem arr row.toNat) (exec_rowRepair mem arr row)

theorem does_memoryScrub (mem : Fin 13) (row : BitVec 16) (err : Fin 3) (a b : BitVec 32) :
    Does (.memoryScrub mem row err a b) h (h.memoryScrub mem row.toNat err a.toNat b.toNat) :=
  does_of_run ha (·.memoryScrub mem row.toNat err a.toNat b.toNat) (exec_memoryScrub mem row err a b)

variable (hw : h.led.wiped = false)

include hw

theorem does_cairnDeclare (p : Path) (v : Word) : Does (.cairnDeclare p v) h (h.cairnDeclare p v) :=
  does_of_runW ha (·.cairnDeclare p v) (exec_cairnDeclare p v) hw

theorem doesOtp_cairnDone (p : Path) (v : Word) (secs : List (Nat × List (BitVec 8))) (straps : BitVec 8) (o : Otp) :
    DoesOtp (.cairnDone p v secs straps) h o (h.cairnDone o.bits p v secs straps.toNat) :=
  doesOtp_of_runW ha (exec_cairnDone p v secs straps) hw o

end

/-! ## Fatal errors and the cairn -/

section

variable {h : Hub}

/-- A second fatal error changes nothing (log entry 46). -/
theorem Hub.fatal_again (stopped : h.get F.GLB_FATAL_VALID = 1) (cause detail : Nat) : h.fatal cause detail = h :=
  if_pos (Hub.flag_one stopped)

/-- The first fatal error is shown, reported and stops the hub (R459). `source` and `clock` are rewritten, not left to `rfl`, for which the
kernel would evaluate the silencing of the ports. -/
theorem Hub.fatal_first (running : h.get F.GLB_FATAL_VALID = 0) (cause detail : Nat) : h.fatal cause detail =
    (let g := ((h.set F.CORE_STAT_CEIL 0).set F.GLB_FATAL_CAUSE cause).set F.GLB_FATAL_DETAIL detail
     let g := (g.set64 F.GLB_FATALT_LO_T F.GLB_FATALT_HI_T g.ridge).fault0 0x13 52 cause
     let g := (g.each ports (fun n g => g.silence n)).mirq irqNmi
     ({ g with evs := { g.evs with stopped := some g.time.tick } }).set F.GLB_FATAL_VALID 1) := by
  have notStopped : ¬ h.fatal? = true := Hub.not_flag running
  have source : srcHub = 52 := rfl
  have clock (g : Hub) : g.now = g.time.tick := rfl
  simp only [Hub.fatal, if_neg notStopped, source, clock]

theorem Hub.cairnDeclare_pcie (v : Word) : h.cairnDeclare .pcie v = h := Hub.when_neg fun both => nomatch both.1

section

variable {v : Word} (done : v.bits 31 1 = 1) (otp : Tab Nat) (secs : List (Nat × Bytes)) (straps : Nat)

include done

/-- Without a fatal error DONE is shown and nothing is reset (R460, log entry 46). -/
theorem Hub.cairnDone_running (running : h.get F.GLB_FATAL_VALID = 0) :
    h.cairnDone otp .mgmt v secs straps = h.set F.GLB_CAIRNSTAT_DONE 1 := by
  have still : (h.set F.GLB_CAIRNSTAT_DONE 1).get F.GLB_FATAL_VALID = 0 := (Hub.get_set_low _ (by decide)).trans running
  exact (Hub.when_pos ⟨rfl, done⟩).trans (if_neg fun both => Hub.not_flag still both.1)

theorem Hub.cairnDone_stopped (stopped : h.get F.GLB_FATAL_VALID = 1)
    (short : ((h.set F.GLB_CAIRNSTAT_DONE 1).cairn secs).length ≤ 2097152) : h.cairnDone otp .mgmt v secs straps =
    (((h.set F.GLB_CAIRNSTAT_DONE 1).writeCairn ((h.set F.GLB_CAIRNSTAT_DONE 1).cairn secs)).set F.GLB_CAIRNSTAT_TIMEDOUT 0).fatalReset
      otp straps := by
  have still : (h.set F.GLB_CAIRNSTAT_DONE 1).get F.GLB_FATAL_VALID = 1 := (Hub.get_set_low _ (by decide)).trans stopped
  exact (Hub.when_pos ⟨rfl, done⟩).trans (if_pos ⟨Hub.flag_one still, short⟩)

end

theorem Hub.cairnTimeout_due {t : Nat} (stopped : h.get F.GLB_FATAL_VALID = 1) (since : h.evs.stopped = some t)
    (late : t + 2000000 * h.get F.GLB_CAIRNCFG_TMO ≤ h.now) (otp : Tab Nat) (straps : Nat) :
    h.cairnTimeout otp straps = (h.set F.GLB_CAIRNSTAT_TIMEDOUT 1).fatalReset otp straps := by
  have due : h.due (h.evs.stopped.map (· + 2000000 * h.get F.GLB_CAIRNCFG_TMO)) = true := by
    rw [since]
    exact Hub.due_some.mpr late
  exact Hub.when_pos ⟨Hub.flag_one stopped, due⟩

/-! ## The scrub of the kennel -/

/-- An error counts if its cell is read in this turn and a frame holds it (R195). -/
theorem Hub.kennelScrub_error {c i : Nat} {f : Frm} {x : CellRef} (due : (h.core.scrub + 1) * 64 ≤ h.now)
    (turn : c / 64 = h.core.scrub % 4096) (frame : (i, some f) ∈ h.core.frames) (cell : x ∈ f.cells) (named : x.cell = c)
    (held : 0 < x.refs) (double : Bool) :
    h.kennelScrub [(c, double)] = ({ h with core := { h.core with scrub := h.core.scrub + 1 } } : Hub).eccCell c double := by
  have used : f.cells.any (fun x => x.cell == c && decide (0 < x.refs)) = true :=
    List.any_eq_true.mpr ⟨x, cell, by simp [named, held]⟩
  rw [Hub.kennelScrub, Hub.when_pos due]
  exact if_pos ⟨turn, List.any_eq_true.mpr ⟨_, frame, used⟩⟩

/-! ## Row repair -/

/-- A faulted row of the kennel is repaired when no frame is left in it (R195). -/
theorem Hub.rowRepair_kennel {row : Nat} (isRow : row < 16384) (empty : h.core.frames = [])
    (faulted : (Tab.get ({} : RowSt) h.core.rows row).faulted = true) (arr : Nat) :
    h.rowRepair 0 arr row = (h.spare 0 (row / 256) row row).rowBack row := by
  simp only [Hub.rowRepair, if_true]
  exact Hub.when_pos ⟨faulted, fun _ => ⟨isRow, by simp [empty]⟩⟩

theorem Hub.rowRepair_other {mem row : Nat} (other : mem ≠ 0)
    (faulted : (Tab.get ({} : RowSt) h.core.rows (2 ^ 20 * mem + row)).faulted = true) (arr : Nat) :
    h.rowRepair mem arr row = h.spare mem arr row (2 ^ 20 * mem + row) := by
  simp only [Hub.rowRepair, if_neg other]
  exact Hub.when_pos ⟨faulted, fun kennel => absurd kennel other⟩

/-! ## The scrub of the other memories -/

theorem Hub.memoryScrub_clean (mem row a b : Nat) : h.memoryScrub mem row 0 a b = h := ite_self h

section

variable {mem row a b : Nat} (other : mem ≠ 0) (place : memPlace mem a b = true)

include other place

theorem Hub.memoryScrub_single :
    h.memoryScrub mem row 1 a b = (h.bump F.CORE_ECCCNT_CORR).rowError (2 ^ 20 * mem + row) false := Hub.when_pos ⟨other, place⟩

/-- An uncorrectable error that is not fatal writes FAULT UNCORR beside its effect (R458). -/
theorem Hub.memoryScrub_double : h.memoryScrub mem row 2 a b =
    if memFatal mem then ((h.bump F.CORE_ECCCNT_UNCORR).rowError (2 ^ 20 * mem + row) true).memEffect mem row a b
    else (((h.bump F.CORE_ECCCNT_UNCORR).rowError (2 ^ 20 * mem + row) true).memEffect mem row a b).fault0 0x11 srcHub
      (2 ^ 16 * mem + row) := Hub.when_pos ⟨other, place⟩

end

/-- The memories whose uncorrectable errors are fatal name no place (Table 17-6). -/
theorem memPlace_of_memFatal {mem : Nat} (fatal : memFatal mem = true) (a b : Nat) : memPlace mem a b = true := by
  simp only [memFatal, Bool.or_eq_true, beq_iff_eq] at fatal
  obtain ((((rfl | rfl) | rfl) | rfl) | rfl) | rfl := fatal
  all_goals rfl

end

/-- Settles O54: each clause by the lemma about the error, the cairn's end, the scrub or the repair that it names. A second fatal error
that changes nothing, the detail 0 of DECLARE, DONE that resets only after a fatal error and the bound of 2 MiB are log entry 46; counting
in CORR is log entry 28. -/
theorem fatalCommands : Obligations.FatalCommands := by
  refine ⟨fun h ha => ⟨?_, ?_, ?_, ?_, ?_, ?_, ?_⟩, fun h ha => ⟨?_, ?_, ?_, ?_, ?_, ?_, ?_, ?_⟩,
    fun h => ⟨fun ha => ⟨does_kennelScrub ha, does_rowRepair ha, does_memoryScrub ha, does_stageStall ha, doesOtp_cairnTimeout ha⟩,
      fun ha hw => ⟨does_cairnDeclare ha hw, doesOtp_cairnDone ha hw⟩⟩⟩
  · exact fun stage stopped => (does_stageStall ha stage).of_eq (Hub.fatal_again stopped 5 stage.toNat)
  · exact fun stage running => (does_stageStall ha stage).of_eq (Hub.fatal_first running 5 stage.toNat)
  · exact fun hw v declared => (does_cairnDeclare ha hw .mgmt v).of_eq (Hub.when_pos ⟨rfl, declared⟩)
  · exact fun hw v => (does_cairnDeclare ha hw .pcie v).of_eq (Hub.cairnDeclare_pcie v)
  · intro hw o v secs straps done running
    rw [← Hub.cairnDone_running done o.bits secs straps.toNat running]
    exact doesOtp_cairnDone ha hw .mgmt v secs straps o
  · intro hw o v secs straps done stopped short
    rw [← Hub.cairnDone_stopped done o.bits secs straps.toNat stopped short]
    exact doesOtp_cairnDone ha hw .mgmt v secs straps o
  · intro o straps t stopped since late
    rw [← Hub.cairnTimeout_due stopped since late o.bits straps.toNat]
    exact doesOtp_cairnTimeout ha straps o
  · exact fun due => (does_kennelScrub ha []).of_eq (Hub.when_pos due)
  · intro c double i f l x due turn frames cell named held
    exact (does_kennelScrub ha _).of_eq
      (Hub.kennelScrub_error due turn (frames ▸ List.mem_cons_self) cell named held double)
  · exact fun row isRow empty faulted => (does_rowRepair ha 0 0 row).of_eq (Hub.rowRepair_kennel isRow empty faulted 0)
  · exact fun mem arr row other faulted =>
      (does_rowRepair ha mem arr row).of_eq (Hub.rowRepair_other (Fin.val_ne_zero_iff.mpr other) faulted arr)
  · exact fun mem row a b => (does_memoryScrub ha mem row 0 a b).of_eq (Hub.memoryScrub_clean mem row.toNat a.toNat b.toNat)
  · exact fun mem row a b other place =>
      (does_memoryScrub ha mem row 1 a b).of_eq (Hub.memoryScrub_single (Fin.val_ne_zero_iff.mpr other) place)
  · intro mem row a b other fatal
    have effect := Hub.memoryScrub_double (h := h) (row := row.toNat) (Fin.val_ne_zero_iff.mpr other)
      (memPlace_of_memFatal fatal a.toNat b.toNat)
    exact (does_memoryScrub ha mem row 2 a b).of_eq (effect.trans (if_pos fatal))
  · intro row i b
    have index : (BitVec.ofNat 32 i.val).toNat = i.val := by
      rw [BitVec.toNat_ofNat]
      omega
    have does := does_memoryScrub ha 12 row 2 (BitVec.ofNat 32 i) b
    rw [index] at does
    have place : memPlace 12 i b.toNat = true := decide_eq_true i.isLt
    exact does.of_eq (Hub.memoryScrub_double (by decide) place)

end Sys2Proof.Machine
end

section
/-! Gates and the shepherd (R227 to R230, R240 to R242). -/

namespace Sys2Proof.Machine

/-! ## The commands -/

section

variable {h : Hub} (ha : h.awake)

include ha

theorem does_gateEntryChange (e : EgressId) : Does (.gateEntryChange e) h (h.gateEntryChange e) :=
  does_of_run ha (·.gateEntryChange e) (exec_gateEntryChange e)

theorem does_gateSwitchover (e : EgressId) : Does (.gateSwitchover e) h (h.gateSwitchover e) :=
  does_of_run ha (·.gateSwitchover e) (exec_gateSwitchover e)

theorem does_shepherdWindowEnd (n : PortId) : Does (.shepherdWindowEnd n) h (h.shepWindow n) :=
  does_of_run ha (·.shepWindow n) (exec_shepherdWindowEnd n)

variable (hw : h.led.wiped = false)

include hw

theorem does_gateCommit (e : EgressId) : Does (.gateCommit e) h (h.gateCommit e) :=
  does_of_runW ha (·.gateCommit e) (exec_gateCommit e) hw

theorem does_gateAbort (e : EgressId) : Does (.gateAbort e) h (h.gateAbort e) :=
  does_of_runW ha (·.gateAbort e) (exec_gateAbort e) hw

theorem does_gateDisable (e : EgressId) : Does (.gateDisable e) h (h.gateDisable e) :=
  does_of_runW ha (·.gateDisable e) (exec_gateDisable e) hw

end

/-! ## What TRF_GSTAT shows -/

/-- Counting an overrun touches no register but the counter's (R229). -/
theorem Hub.overrun_get (h : Hub) (e : Nat) {f : Fld} {i j : Nat} (other : f.addr i j ≠ F.TRF_CNT0_OVERRUN.addr 0 0) :
    (h.overrun e).get f i j = h.get f i j := by
  have counted : (h.bump F.TRF_CNT0_OVERRUN).get f i j = h.get f i j := congrArg (Word.bits · f.lo f.w) (h.bump_reg_ne other)
  by_cases port : e < 32
  · simp only [Hub.overrun, if_pos port, Hub.setLink_get, counted]
  · simp only [Hub.overrun, if_neg port, Hub.setTx_get, counted]

theorem Hub.gateShow_get (h : Hub) (e : Nat) {f : Fld} {i j : Nat} (other : f.addr i j ≠ F.TRF_CNT0_OVERRUN.addr 0 0) :
    (h.gateShow e).get f i j =
      ((h.set F.TRF_GSTAT_ENTRY (h.gatesAt e h.ridge).1 e).set F.TRF_GSTAT_GATES (h.gatesAt e h.ridge).2 e).get f i j := by
  unfold Hub.gateShow
  extract_lets old g late k
  cases late with
  | false => rfl
  | true => exact k.overrun_get e other

theorem gstat_ne_overrun (e : Nat) : F.TRF_GSTAT_GATES.addr e 0 ≠ F.TRF_CNT0_OVERRUN.addr 0 0 := by
  simp only [Fld.addr, F.TRF_GSTAT_GATES, F.TRF_CNT0_OVERRUN]
  omega

theorem Hub.gateShow_gates (h : Hub) (e : Nat) : (h.gateShow e).get F.TRF_GSTAT_GATES e = (h.gatesAt e h.ridge).2 % 256 :=
  (h.gateShow_get e (gstat_ne_overrun e)).trans (Hub.get_set_same _ F.TRF_GSTAT_GATES _ e 0 (by decide))

theorem Hub.gateShow_entry (h : Hub) (e : Nat) : (h.gateShow e).get F.TRF_GSTAT_ENTRY e = (h.gatesAt e h.ridge).1 % 256 :=
  (h.gateShow_get e (f := F.TRF_GSTAT_ENTRY) (gstat_ne_overrun e)).trans <|
    (Hub.get_set_disj _ (by decide) (by decide)).trans (Hub.get_set_same h F.TRF_GSTAT_ENTRY _ e 0 (by decide))

/-- A disabled gate list holds every gate open (R228). -/
theorem Hub.gatesAt_disabled {h : Hub} {e : Nat} (off : h.get F.TRF_GCTL_EN e = 0) (t : Nat) : h.gatesAt e t = (0, 0xFF) :=
  if_pos (Hub.not_flag off)

/-! ## Commits -/

/-- Rounding up to a multiple adds less than the divisor. -/
theorem ceilDiv_mul_bounds (x : Nat) {d : Nat} (pos : 0 < d) : x ≤ ceilDiv x d * d ∧ ceilDiv x d * d < x + d := by
  have whole := Nat.div_add_mod' (x + d - 1) d
  have rest := Nat.mod_lt (x + d - 1) pos
  unfold ceilDiv
  omega

/-- A base time that is too early is moved by whole cycles to the first that is late enough (R230). -/
theorem switchTick_late {base cycle tc : Nat} (pos : 0 < cycle) (late : base < tc + 2) : ∃ s k, switchTick base cycle tc = (s, true) ∧
    s = base + k * cycle ∧ tc + 2 ≤ s ∧ s < tc + 2 + cycle := by
  have bounds := ceilDiv_mul_bounds (tc + 2 - base) pos
  exact ⟨_, ceilDiv (tc + 2 - base) cycle, if_neg (Nat.not_le.mpr late), rfl, by omega, by omega⟩

section

variable {h : Hub} {e : Nat}

theorem Hub.gateCommit_refused (refused : h.commitRefused e = true) : h.gateCommit e = h.raise F.TRF_GSTAT_CERR 1 e := if_pos refused

section

variable (taken : h.commitRefused e = false)

include taken

/-- A commit that is taken is of a list with a cycle time (R230). -/
theorem Hub.gcyc_pos_of_taken : 0 < h.gcyc e (1 - h.get F.TRF_GSTAT_ACTBANK e) := by
  simp only [Hub.commitRefused, Bool.or_eq_false_iff, beq_eq_false_iff_ne] at taken
  obtain ⟨⟨_, cycle⟩, _⟩ := taken
  exact Nat.pos_of_ne_zero cycle

/-- A commit that is taken waits for its switchover; LATE tells of a moved base time (R230). -/
theorem Hub.gateCommit_taken {s : Nat} {late : Bool} (tick : switchTick (h.get64 F.TRF_GBASE_LO_BASE_LO F.TRF_GBASE_HI_BASE_HI e)
      (h.gcyc e (1 - h.get F.TRF_GSTAT_ACTBANK e)) h.ridge = (s, late)) :
    h.gateCommit e = if late then ((h.setGate e { h.gate e with pending := some s }).set F.TRF_GSTAT_PEND 1 e).raise F.TRF_GSTAT_LATE 1 e
      else (h.setGate e { h.gate e with pending := some s }).set F.TRF_GSTAT_PEND 1 e := by
  simp only [Hub.gateCommit, taken, Bool.false_eq_true, if_false, tick]

end

theorem Hub.gateEntryChange_shows (on : h.get F.TRF_GCTL_EN e = 1) (runs : (h.gate e).active.isSome) :
    h.gateEntryChange e = h.gateShow e := Hub.when_pos ⟨Hub.flag_one on, runs⟩

theorem Hub.gateSwitchover_due {s : Nat} (pending : (h.gate e).pending = some s) (due : s ≤ h.ridge) : h.gateSwitchover e =
    (let g := (h.setGate e { active := some s, pending := none }).set F.TRF_GSTAT_PEND 0 e
     ((g.set F.TRF_GSTAT_ACTBANK (1 - h.get F.TRF_GSTAT_ACTBANK e) e).set64 F.TRF_GBASE_LO_BASE_LO F.TRF_GBASE_HI_BASE_HI s e).gateShow e) := by
  simp only [Hub.gateSwitchover, pending]
  exact Hub.when_pos due

end

/-! ## The shepherd -/

section

variable {h : Hub} {n w : Nat} (on : h.get F.TRF_SHPCFG_EN n = 1) (window : w = 1024 * 2 ^ h.get F.TRF_SHPCFG_WIN n)
  (ends : h.ridge % w = 0)

include on window ends

/-- A window that a load or step of ridge time cuts is discarded (R532, log entry 18). -/
theorem Hub.shepWindow_cut {j : Nat} (jump : h.time.jumpAt = some j) (cut : h.now < j + w) : h.shepWindow n = h := by
  subst window
  have jumped : h.jumpedIn (h.shepW n) = true := by
    rw [Hub.jumpedIn, jump]
    exact decide_eq_true cut
  have premise : h.flag F.TRF_SHPCFG_EN n ∧ h.ridge % h.shepW n = 0 := ⟨Hub.flag_one on, ends⟩
  simp only [Hub.shepWindow, Hub.when_pos premise, if_pos jumped]

/-- The end of a whole window shows its utilisations, then looks at the turn in progress and at the dwell before the triggers (R240, R241). -/
theorem Hub.shepWindow_whole (whole : ∀ j, h.time.jumpAt = some j → j + w ≤ h.now) {utx urx : Nat} {g : Hub}
    (tx : utx = utilisation ((h.link n).txFlow.last w (h.ridge / w)) (h.txRate n) w)
    (rx : urx = utilisation ((h.link n).rxFlow.last w (h.ridge / w)) (h.rxRate n) w)
    (shown : g = (h.set F.TRF_SHPSTAT_UTX utx n).set F.TRF_SHPSTAT_URX urx n) : h.shepWindow n =
      if (h.lane n).turn.isSome then (g.set F.TRF_SHPSTAT_STREAK 0 n).setShep n { g.shep n with row := 0 }
      else if 0 < g.get F.TRF_SHPSTAT_DWLEFT n then
        ((g.set F.TRF_SHPSTAT_DWLEFT (g.get F.TRF_SHPSTAT_DWLEFT n - 1) n).set F.TRF_SHPSTAT_STREAK 0 n).setShep n
          { g.shep n with row := 0 }
      else g.shepEvaluate n utx urx := by
  subst window tx rx shown
  have notJumped : ¬ h.jumpedIn (h.shepW n) = true := by
    rw [Hub.jumpedIn, Option.any_eq_true]
    rintro ⟨j, jump, cut⟩
    exact absurd (whole j jump) (Nat.not_le.mpr (of_decide_eq_true cut))
  have premise : h.flag F.TRF_SHPCFG_EN n ∧ h.ridge % h.shepW n = 0 := ⟨Hub.flag_one on, ends⟩
  simp only [Hub.shepWindow, Hub.when_pos premise, if_neg notJumped]
  rfl

end

section

variable {g : Hub} {n utx urx : Nat}

theorem Hub.shepEvaluate_none (idle : trigger (g.get F.PORT_LMODE_CUR n) utx urx (g.get F.TRF_SHPCFG_HI n) (g.get F.TRF_SHPCFG_LO n)
      (g.backlogged n) = none) :
    g.shepEvaluate n utx urx = (g.set F.TRF_SHPSTAT_STREAK 0 n).setShep n { g.shep n with row := 0 } := by
  simp only [Hub.shepEvaluate, idle]

@[simp] theorem Hub.setShep_get (h : Hub) (n : Nat) (x : ShepSt) (f : Fld) (i j : Nat) : (h.setShep n x).get f i j = h.get f i j := rfl

/-- TRF_SHPSTAT and the row of the streak are no part of the shepherd's configuration. -/
theorem Hub.shepShown_holdn (g : Hub) (n streak code : Nat) (x : ShepSt) :
    (((g.set F.TRF_SHPSTAT_STREAK streak n).set F.TRF_SHPSTAT_TRIG code n).setShep n x).get F.TRF_SHPCFG_HOLDN n =
      g.get F.TRF_SHPCFG_HOLDN n := by
  rw [Hub.setShep_get, Hub.get_set_elem (f := F.TRF_SHPSTAT_TRIG) (g := F.TRF_SHPCFG_HOLDN) _ rfl rfl (by decide),
    Hub.get_set_elem (f := F.TRF_SHPSTAT_STREAK) (g := F.TRF_SHPCFG_HOLDN) _ rfl rfl (by decide)]

/-- A streak begins at 1 in a row other than the last window's (log entry 33); below HOLDN no turn is asked for (R241, R242). -/
theorem Hub.shepEvaluate_newRow {row code target : Nat} (fires : trigger (g.get F.PORT_LMODE_CUR n) utx urx (g.get F.TRF_SHPCFG_HI n)
      (g.get F.TRF_SHPCFG_LO n) (g.backlogged n) = some (row, code, target))
    (other : (g.shep n).row ≠ row) (more : 1 < g.get F.TRF_SHPCFG_HOLDN n) : g.shepEvaluate n utx urx =
      ((g.set F.TRF_SHPSTAT_STREAK 1 n).set F.TRF_SHPSTAT_TRIG code n).setShep n { g.shep n with row := row } := by
  simp only [Hub.shepEvaluate, fires, if_neg other, Hub.shepShown_holdn]
  exact if_neg fun asks => absurd asks.1 (Nat.not_le.mpr more)

end

/-- Settles O27: each clause by the lemma about the gate command or the window's end that it names. A streak that begins again in another
row is log entry 33, a window that a jump cuts log entry 18. -/
theorem gateCommands : Obligations.GateCommands := by
  refine ⟨fun h ha hw e => ⟨?_, ?_, ?_, does_gateAbort ha hw e, ?_, does_gateDisable ha hw e,
      fun off t => congrArg Prod.snd (Hub.gatesAt_disabled off t)⟩,
    fun h ha n on w window ends => ⟨?_, fun whole utx urx tx rx g shown => ?_⟩,
    fun h => ⟨fun ha => ⟨does_gateEntryChange ha, does_gateSwitchover ha, does_shepherdWindowEnd ha⟩,
      fun ha hw => ⟨does_gateCommit ha hw, does_gateAbort ha hw, does_gateDisable ha hw⟩⟩⟩
  · exact fun on runs =>
      ⟨(does_gateEntryChange ha e).of_eq (Hub.gateEntryChange_shows on runs), h.gateShow_gates e, h.gateShow_entry e⟩
  · exact fun refused => (does_gateCommit ha hw e).of_eq (Hub.gateCommit_refused refused)
  · rintro b base rfl rfl taken
    refine ⟨fun ahead => (does_gateCommit ha hw e).of_eq (Hub.gateCommit_taken taken (if_pos ahead)), fun late => ?_⟩
    obtain ⟨s, k, tick, moved⟩ := switchTick_late (Hub.gcyc_pos_of_taken taken) late
    exact ⟨s, k, (does_gateCommit ha hw e).of_eq (Hub.gateCommit_taken taken tick), moved⟩
  · exact fun s pending due => (does_gateSwitchover ha e).of_eq (Hub.gateSwitchover_due pending due)
  · exact fun j jump cut => (does_shepherdWindowEnd ha n).of_eq (Hub.shepWindow_cut on window ends jump cut)
  · have does := (does_shepherdWindowEnd ha n).of_eq (Hub.shepWindow_whole on window ends whole tx rx shown)
    refine ⟨fun turn => does.of_eq (if_pos turn), fun noTurn dwells => ?_, fun noTurn done idle => ?_,
      fun row code target noTurn done fires other more => ?_⟩
    all_goals have free : ¬ (h.lane n).turn.isSome = true := by rw [noTurn]; exact Bool.false_ne_true
    · exact does.of_eq ((if_neg free).trans (if_pos dwells))
    · exact does.of_eq ((if_neg free).trans ((if_neg (done ▸ Nat.lt_irrefl 0)).trans (Hub.shepEvaluate_none idle)))
    · exact does.of_eq ((if_neg free).trans ((if_neg (done ▸ Nat.lt_irrefl 0)).trans (Hub.shepEvaluate_newRow fires other more)))

end Sys2Proof.Machine
end

section
/-! Shapers and meters (R231, R232, R234 to R237). -/

namespace Sys2Proof.Machine

/-! ## The commands -/

section

variable {h : Hub} (ha : h.awake)

include ha

theorem does_shaperRefill : Does .shaperRefill h h.refill := does_of_run ha Hub.refill exec_shaperRefill

variable (hw : h.led.wiped = false)

include hw

theorem does_shaperWrite (q : Bool) (i : Fin 4096) (w : Fin 2) (v : Word) :
    Does (.shaperWrite q i w v) h (h.when (q = false ∨ i.val < 272) (·.shaperWrite q i w v)) :=
  does_of_runW ha (fun h => h.when (q = false ∨ i.val < 272) (·.shaperWrite q i w v)) (exec_shaperWrite q i w v) hw

theorem does_meterWrite (m : Fin 4096) (w : Fin 3) (v : Word) : Does (.meterWrite m w v) h (h.meterWrite m w v) :=
  does_of_runW ha (·.meterWrite m w v) (exec_meterWrite m w v) hw

theorem does_shaperWrite_tunnel (i : Fin 4096) (w : Fin 2) (v : Word) : Does (.shaperWrite false i w v) h (h.shaperWrite false i w v) :=
  (does_shaperWrite ha hw false i w v).of_eq (Hub.when_pos (.inl rfl))

/-- There are 272 queue shapers, one for each egress point and class (R235). -/
theorem does_shaperWrite_queue {i : Fin 4096} (queue : i.val < 272) (w : Fin 2) (v : Word) :
    Does (.shaperWrite true i w v) h (h.shaperWrite true i w v) :=
  (does_shaperWrite ha hw true i w v).of_eq (Hub.when_pos (.inr queue))

end

/-! ## Word 0 of a meter -/

/-- The field of a word is no wider than its width. -/
theorem Word.bits_mod (v : Word) (lo w : Nat) : v.bits lo w % 2 ^ w = v.bits lo w := Nat.mod_mod _ _

theorem Hub.sameRegs_refl (A : List Nat) (h : Hub) : h.sameRegs A h := fun _ _ => rfl

theorem Hub.sameRegs.congr {A : List Nat} {h g k : Hub} (same : h.sameRegs A g) (regs : k.regs = g.regs) : h.sameRegs A k := by
  intro a outside
  rw [Hub.reg, regs]
  exact same a outside

theorem Hub.sameRegs.set {A : List Nat} {h g : Hub} (same : h.sameRegs A g) {f : Fld} {v i j : Nat} (named : f.addr i j ∈ A) :
    h.sameRegs A (g.set f v i j) := by
  intro a outside
  have other : a ≠ f.addr i j := (ne_of_mem_of_not_mem named outside).symm
  exact (Hub.reg_set_ne g other).trans (same a outside)

/-- Word 0 of a meter with its fields as written, and PEND (R237, Table 8-18). -/
def Hub.stageMeter0 (h : Hub) (m : Nat) (v : Word) : Hub :=
  (((((h.set F.MTR_W0_EN (v.bits 31 1) m).set F.MTR_W0_AWARE (v.bits 30 1) m).set F.MTR_W0_RACT (v.bits 29 1) m).set
    F.MTR_W0_YSHIFT (v.bits 26 2) m).set F.MTR_W0_CIR (v.bits 0 24) m).set F.MTR_W0_PEND 1 m

theorem Hub.meterWrite_word0 (h : Hub) (m : Nat) (v : Word) : h.meterWrite m 0 v =
    (let g := h.stageMeter0 m v
     { g with trf := { g.trf with pendM := addOnce g.trf.pendM m } }) := rfl

theorem Hub.meterWrite_word0_regs (h : Hub) (m : Nat) (v : Word) : (h.meterWrite m 0 v).regs = (h.stageMeter0 m v).regs := by
  rw [Hub.meterWrite_word0]

/-- The fields of the word stand apart, so that each reads what was written to it. -/
theorem Hub.stageMeter0_fields (h : Hub) (m : Nat) (v : Word) : (h.stageMeter0 m v).get F.MTR_W0_EN m = v.bits 31 1 ∧
    (h.stageMeter0 m v).get F.MTR_W0_AWARE m = v.bits 30 1 ∧ (h.stageMeter0 m v).get F.MTR_W0_RACT m = v.bits 29 1 ∧
    (h.stageMeter0 m v).get F.MTR_W0_YSHIFT m = v.bits 26 2 ∧ (h.stageMeter0 m v).get F.MTR_W0_CIR m = v.bits 0 24 ∧
    (h.stageMeter0 m v).get F.MTR_W0_PEND m = 1 := by
  refine ⟨?_, ?_, ?_, ?_, ?_, Hub.get_set_same _ F.MTR_W0_PEND 1 m 0 (by decide)⟩
  all_goals
    simp (disch := decide) only [Hub.stageMeter0, Hub.get_set_disj, Hub.get_set_same]
    exact Word.bits_mod v _ _

theorem Hub.stageMeter0_frame (h : Hub) (m : Nat) (v : Word) : h.sameRegs [F.MTR_W0_EN.addr m 0] (h.stageMeter0 m v) := by
  have here (f : Fld) (same : f.addr m 0 = F.MTR_W0_EN.addr m 0) : f.addr m 0 ∈ [F.MTR_W0_EN.addr m 0] := List.mem_singleton.mpr same
  exact ((((((h.sameRegs_refl _).set (here F.MTR_W0_EN rfl)).set (here F.MTR_W0_AWARE rfl)).set (here F.MTR_W0_RACT rfl)).set
    (here F.MTR_W0_YSHIFT rfl)).set (here F.MTR_W0_CIR rfl)).set (here F.MTR_W0_PEND rfl)

/-! ## Shapers -/

theorem ShaperSt.accrue_tok {x : ShaperSt} (on : x.en = true) (n : Nat) :
    (x.accrue n).tok = min (x.tok + ((x.rate * n : Nat) : Int)) ((64 * 4096 * x.burst : Nat) : Int) := by
  have full : x.burst * 64 * 4096 = 64 * 4096 * x.burst := by omega
  rw [ShaperSt.accrue, if_pos on, Sys2Proof.accrue, min_comm, full]

@[simp] theorem Hub.showTok_trf (h : Hub) (i : Nat) (t : Int) : (h.showTok i t).trf = h.trf := by
  unfold Hub.showTok
  split
  · exact Hub.set_trf h _ _ _ _
  · exact Hub.set_trf h _ _ _ _

@[simp] theorem Hub.showTok_now (h : Hub) (i : Nat) (t : Int) : (h.showTok i t).now = h.now := by
  unfold Hub.showTok
  split
  · exact Hub.set_now h _ _ _ _
  · exact Hub.set_now h _ _ _ _

/-- Showing a shaper's tokens touches its own word alone, above every register of the traffic-control block. -/
theorem Hub.showTok_get (h : Hub) (i : Nat) (t : Int) {f : Fld} {k l : Nat} (low : f.base + k * f.s1 + l * f.s2 < 0xA0000) :
    (h.showTok i t).get f k l = h.get f k l := by
  unfold Hub.showTok
  split
  · exact Hub.get_set_low h (low.trans (by decide))
  · exact Hub.get_set_low h (low.trans (by decide))

@[simp] theorem Hub.setShaper_trf (h : Hub) (i : Nat) (x : ShaperSt) :
    (h.setShaper i x).trf = { h.trf with shapers := Tab.set {} h.trf.shapers i x } := Hub.showTok_trf _ i x.tok

@[simp] theorem Hub.setShaper_now (h : Hub) (i : Nat) (x : ShaperSt) : (h.setShaper i x).now = h.now := Hub.showTok_now _ i x.tok

@[simp] theorem Hub.shaper_setShaper (h : Hub) (i : Nat) (x : ShaperSt) : (h.setShaper i x).shaper i = x := by
  rw [Hub.shaper, Hub.setShaper_trf, Tab.get_set_same]

theorem Hub.setShaper_shref (h : Hub) (i : Nat) (x : ShaperSt) : (h.setShaper i x).get F.TRF_SHREF_PERIOD = h.get F.TRF_SHREF_PERIOD :=
  Hub.showTok_get _ i x.tok (by decide)

theorem Hub.shaperCharge_tok {h : Hub} {i : Nat} (on : (h.shaper i).en = true) (l : Nat) :
    ((h.shaperCharge i l).shaper i).tok = (h.shaper i).tok - ((4096 * l : Nat) : Int) := by
  simp only [Hub.shaperCharge, if_pos on, Hub.shaper_setShaper, Nat.mul_comm l]

/-- A shaper holds a frame back only while it is enabled and in debt (R231). -/
theorem Hub.shaperOk_iff (h : Hub) (i : Nat) : h.shaperOk i = true ↔ (h.shaper i).en = false ∨ 0 ≤ (h.shaper i).tok := by
  rw [Hub.shaperOk, Bool.or_eq_true, Bool.not_eq_true', decide_eq_true_iff]

/-! ## Refills -/

@[simp] theorem Hub.each_nil (h : Hub) (f : Nat → Hub → Hub) : h.each [] f = h := rfl

section

variable {h : Hub}

/-- A refill at no multiple of the period changes nothing (log entries 2 and 18). -/
theorem Hub.refill_early (early : h.ridge % h.refillPeriod ≠ 0) : h.refill = h := Hub.when_neg early

/-- A refill of one shaper with nothing staged: accrual over the ticks that have passed, then the period (R231, log entry 33). -/
theorem Hub.refill_one (due : h.ridge % h.refillPeriod = 0) (noShaper : h.trf.pendS = []) (noMeter : h.trf.pendM = [])
    (noBuckets : h.trf.meters = []) {i : Nat} {x : ShaperSt} (one : h.trf.shapers = [(i, x)]) : h.refill =
      (let g := h.setShaper i (x.accrue (h.now - h.trf.refillAt))
       { g with trf := { g.trf with pendS := [], pendM := [], refillAt := h.now, period := h.get F.TRF_SHREF_PERIOD } }) := by
  have held : h.shaper i = x := by
    rw [Hub.shaper, one]
    exact if_pos rfl
  have shapers : h.each (h.trf.shapers.map (·.1)) (fun i g => g.setShaper i ((g.shaper i).accrue (h.now - h.trf.refillAt))) =
      h.setShaper i (x.accrue (h.now - h.trf.refillAt)) := by
    rw [one, ← held]
    rfl
  simp only [Hub.refill, Hub.when_pos due, shapers, Hub.setShaper_trf, noShaper, noMeter, noBuckets, List.map_nil, Hub.each_nil,
    Hub.setShaper_now, Hub.setShaper_shref]

end

/-! ## Meters -/

section

variable {x : MeterSt} (on : x.en = true) (blind : x.aware = false) (pre : Nat) {l : Nat}

include on blind

/-- A colour-blind meter takes every frame as green and asks its two buckets alone (R237). -/
theorem meterColour_blind (l : Nat) : meterColour x pre l =
    if x.tp < ((4096 * l : Nat) : Int) then (2, x)
    else if x.tc < ((4096 * l : Nat) : Int) then (1, { x with tp := x.tp - ((4096 * l : Nat) : Int) })
    else (0, { x with tp := x.tp - ((4096 * l : Nat) : Int), tc := x.tc - ((4096 * l : Nat) : Int) }) := by
  have green : (if x.aware = true then pre else 0) = 0 := by
    rw [blind]
    exact if_neg Bool.false_ne_true
  simp only [meterColour, green, if_neg (not_not.mpr on), Nat.mul_comm l, OfNat.zero_ne_ofNat, zero_ne_one, false_or]

theorem meterColour_red (short : x.tp < ((4096 * l : Nat) : Int)) : meterColour x pre l = (2, x) :=
  (meterColour_blind on blind pre l).trans (if_pos short)

theorem meterColour_yellow (peak : ((4096 * l : Nat) : Int) ≤ x.tp) (short : x.tc < ((4096 * l : Nat) : Int)) :
    meterColour x pre l = (1, { x with tp := x.tp - ((4096 * l : Nat) : Int) }) :=
  (meterColour_blind on blind pre l).trans ((if_neg (not_lt.mpr peak)).trans (if_pos short))

theorem meterColour_green (peak : ((4096 * l : Nat) : Int) ≤ x.tp) (committed : ((4096 * l : Nat) : Int) ≤ x.tc) :
    meterColour x pre l = (0, { x with tp := x.tp - ((4096 * l : Nat) : Int), tc := x.tc - ((4096 * l : Nat) : Int) }) :=
  (meterColour_blind on blind pre l).trans ((if_neg (not_lt.mpr peak)).trans (if_neg (not_lt.mpr committed)))

end

/-- Settles O28: each clause by the lemma about the write, the refill, the shaper or the meter that it names. A refill at no multiple of
the period that changes nothing is log entries 2 and 18, the order of accrual and period log entry 33. -/
theorem shaperCommands : Obligations.ShaperCommands := by
  refine ⟨fun h ha hw => ⟨fun i => does_shaperWrite_tunnel ha hw i 0, fun i => does_shaperWrite_tunnel ha hw i 1,
      fun i v queue => does_shaperWrite_queue ha hw queue 0 v, fun i v queue => does_shaperWrite_queue ha hw queue 1 v,
      fun m => does_meterWrite ha hw m 1, fun m => does_meterWrite ha hw m 2, fun m v => ?_, ?_, ?_⟩,
    ⟨fun x n on => ShaperSt.accrue_tok on n, fun h i l on => Hub.shaperCharge_tok on l, Hub.shaperOk_iff,
      fun x pre l on blind => ⟨meterColour_red on blind pre, meterColour_yellow on blind pre, meterColour_green on blind pre⟩⟩,
    fun h => ⟨does_shaperRefill, fun ha hw => ⟨does_shaperWrite ha hw, does_meterWrite ha hw⟩⟩⟩
  · have regs := h.meterWrite_word0_regs m v
    refine ⟨_, does_meterWrite ha hw m 0 v, ?_⟩
    simp only [Fin.coe_ofNat_eq_mod, Nat.zero_mod, Hub.get_congr regs]
    obtain ⟨en, aware, ract, yshift, cir, pend⟩ := h.stageMeter0_fields m v
    exact ⟨en, aware, ract, yshift, cir, pend, (h.stageMeter0_frame m v).congr regs⟩
  · exact fun early => (does_shaperRefill ha).of_eq (Hub.refill_early early)
  · exact fun due noShaper noMeter noBuckets i x one =>
      (does_shaperRefill ha).of_eq (Hub.refill_one due noShaper noMeter noBuckets one)

end Sys2Proof.Machine
end

section
/-! Doorbells and arming (R252, R254, R258, R259, R276). -/

namespace Sys2Proof.Machine

/-! ## The commands -/

section

variable {h : Hub} (ha : h.awake) (hw : h.led.wiped = false)

include ha hw

theorem does_doorbell (s : SliceId) (be : BitVec 4) (v : Word) : Does (.doorbell s be v) h (h.dbWrite s be v) :=
  does_of_runW ha (·.dbWrite s be v) (exec_doorbell s be v) hw

theorem does_mgmtDoorbell (p : Path) (be : BitVec 4) (v : Word) : Does (.mgmtDoorbell p be v) h (h.mdbWrite p be v) :=
  does_of_runW ha (·.mdbWrite p be v) (exec_mgmtDoorbell p be v) hw

theorem does_arm (s : SliceId) (be : BitVec 4) (v : Word) : Does (.arm s be v) h (h.armWrite s be v) :=
  does_of_runW ha (·.armWrite s be v) (exec_arm s be v) hw

theorem does_mgmtArm (p : Path) (be : BitVec 4) (v : Word) : Does (.mgmtArm p be v) h (h.marmWrite p be v) :=
  does_of_runW ha (·.marmWrite p be v) (exec_mgmtArm p be v) hw

variable (s : SliceId) (p : Path) (v : Word)

theorem does_doorbell_whole : Does (.doorbell s 15#4 v) h (h.doorbell (some s) v) :=
  (does_doorbell ha hw s 15#4 v).of_eq (Hub.when_pos rfl)

theorem does_mgmtDoorbell_whole : Does (.mgmtDoorbell p 15#4 v) h (h.doorbell (h.pathLimit p) v) :=
  (does_mgmtDoorbell ha hw p 15#4 v).of_eq (Hub.when_pos rfl)

theorem does_arm_whole : Does (.arm s 15#4 v) h (h.arm (some s) v) :=
  (does_arm ha hw s 15#4 v).of_eq (Hub.when_pos rfl)

theorem does_mgmtArm_whole : Does (.mgmtArm p 15#4 v) h (h.arm (h.pathLimit p) v) :=
  (does_mgmtArm ha hw p 15#4 v).of_eq (Hub.when_pos rfl)

end

/-! ## Which ring a write reaches -/

section

variable {h : Hub} {limit : Option Nat} {v : Word}

/-- A doorbell that names no running ring of the slice is counted (R258). -/
theorem Hub.doorbell_ignored (closed : ¬ (h.rState (v.bits 0 12) = rRUN ∧ (limit = none ∨ limit = some (h.rSlice (v.bits 0 12))))) :
    h.doorbell limit v = h.bump F.HIF_ERRCNT_DBIGNORED := if_neg closed

theorem Hub.arm_ignored (closed : ¬ (h.rState (v.bits 0 12) = rRUN ∧ (limit = none ∨ limit = some (h.rSlice (v.bits 0 12))))) :
    h.arm limit v = h.bump F.HIF_ERRCNT_DBIGNORED := if_neg closed

variable (run : h.rState (v.bits 0 12) = rRUN) (mine : limit = none ∨ limit = some (h.rSlice (v.bits 0 12)))

include run mine

theorem Hub.arm_taken : h.arm limit v = h.armRing (v.bits 0 12) (v.bits 16 16) := if_pos ⟨run, mine⟩

theorem Hub.doorbell_taken (inside : v.bits 16 16 < h.rN (v.bits 0 12)) :
    h.doorbell limit v = h.set F.RCTX6_PIDX (v.bits 16 16) (v.bits 0 12) :=
  (if_pos ⟨run, mine⟩).trans (if_neg (Nat.not_le.mpr inside))

/-- A producer index outside the ring stops it (R258, R274). -/
theorem Hub.doorbell_outside (outside : h.rN (v.bits 0 12) ≤ v.bits 16 16) : h.doorbell limit v = h.ringError (v.bits 0 12) 2 :=
  (if_pos ⟨run, mine⟩).trans (if_pos outside)

end

/-- Settles O32: each clause by the lemma about the ring that the write reaches. -/
theorem doorbellCommands : Obligations.DoorbellCommands := by
  refine ⟨fun h ha hw s p be v r => ?_, fun h ha hw =>
    ⟨does_doorbell ha hw, does_mgmtDoorbell ha hw, does_arm ha hw, does_mgmtArm ha hw⟩⟩
  rintro rfl
  refine ⟨fun part => ⟨?_, ?_, ?_, ?_⟩, fun stopped => ?_, fun foreign => ?_, fun run mine => ?_, fun run free => ?_⟩
  · exact (does_doorbell ha hw s be v).of_eq (Hub.when_neg part)
  · exact (does_mgmtDoorbell ha hw p be v).of_eq (Hub.when_neg part)
  · exact (does_arm ha hw s be v).of_eq (Hub.when_neg part)
  · exact (does_mgmtArm ha hw p be v).of_eq (Hub.when_neg part)
  · exact ⟨(does_doorbell_whole ha hw s v).of_eq (Hub.doorbell_ignored fun both => stopped both.1),
      (does_mgmtDoorbell_whole ha hw p v).of_eq (Hub.doorbell_ignored fun both => stopped both.1),
      (does_arm_whole ha hw s v).of_eq (Hub.arm_ignored fun both => stopped both.1),
      (does_mgmtArm_whole ha hw p v).of_eq (Hub.arm_ignored fun both => stopped both.1)⟩
  · have closed : ¬ (h.rState (v.bits 0 12) = rRUN ∧ (some s.val = none ∨ some s.val = some (h.rSlice (v.bits 0 12)))) := by
      rintro ⟨-, none | same⟩
      · exact Option.some_ne_none _ none
      · exact foreign (Option.some.inj same).symm
    exact ⟨(does_doorbell_whole ha hw s v).of_eq (Hub.doorbell_ignored closed), (does_arm_whole ha hw s v).of_eq (Hub.arm_ignored closed)⟩
  · have mine : some s.val = none ∨ some s.val = some (h.rSlice (v.bits 0 12)) := .inr (congrArg some mine.symm)
    exact ⟨fun inside => (does_doorbell_whole ha hw s v).of_eq (Hub.doorbell_taken run mine inside),
      fun outside => (does_doorbell_whole ha hw s v).of_eq (Hub.doorbell_outside run mine outside),
      (does_arm_whole ha hw s v).of_eq (Hub.arm_taken run mine)⟩
  · exact ⟨fun inside => (does_mgmtDoorbell_whole ha hw p v).of_eq (Hub.doorbell_taken run (.inl free) inside),
      (does_mgmtArm_whole ha hw p v).of_eq (Hub.arm_taken run (.inl free))⟩

end Sys2Proof.Machine
end

section
/-! Fetching descriptors and data (R260, R261, R264, R269, R273, R275, R277). -/

namespace Sys2Proof.Machine

/-! ## The commands of the engines -/

section

variable {h : Hub} (hl : h.live)

include hl

theorem does_of_runLive {c : Instr} (f : Hub → Hub) (meaning : ∀ s, exec c s = runLive f s) : Does c h (f h) := by
  intro st o q
  rw [meaning, runLive_live hl]

variable (r : RingId)

theorem does_descriptorFetchIssue : Does (.descriptorFetchIssue r) h (h.fetchIssue r) :=
  does_of_runLive hl (·.fetchIssue r) (exec_descriptorFetchIssue r)

theorem does_descriptorArrival (ws : List Word) : Does (.descriptorArrival r ws) h (h.descArrival r ws) :=
  does_of_runLive hl (·.descArrival r ws) (exec_descriptorArrival r ws)

theorem does_dataFetchIssue : Does (.dataFetchIssue r) h (h.dataIssue r) :=
  does_of_runLive hl (·.dataIssue r) (exec_dataFetchIssue r)

theorem does_dataArrival (bytes : List (BitVec 8)) : Does (.dataArrival r bytes) h (h.dataArrival r bytes) :=
  does_of_runLive hl (·.dataArrival r bytes) (exec_dataArrival r bytes)

theorem does_hostReadFailure (desc : Bool) : Does (.hostReadFailure r desc) h (h.readFailure r desc) :=
  does_of_runLive hl (·.readFailure r desc) (exec_hostReadFailure r desc)

theorem does_readRetry : Does (.readRetry r) h (h.readRetry r) :=
  does_of_runLive hl (·.readRetry r) (exec_readRetry r)

theorem does_moderationTimeout : Does (.moderationTimeout r) h (h.modTimeout r) :=
  does_of_runLive hl (·.modTimeout r) (exec_moderationTimeout r)

theorem does_remotePoll : Does (.remotePoll r) h (h.remotePoll r) :=
  does_of_runLive hl (·.remotePoll r) (exec_remotePoll r)

theorem does_blkTransferComplete : Does (.blkTransferComplete r) h (h.transferDone r) :=
  does_of_runLive hl (·.transferDone r) (exec_blkTransferComplete r)

end

section

variable {h : Hub} {r : Nat}

/-! ## Descriptor reads -/

/-- A running ring fetches up to its producer index, the end of the array and BATCH (R260). -/
theorem Hub.fetchIssue_run {k : Nat} (run : h.rState r = rRUN)
    (size : k = min (h.get F.HIF_FETCHCFG_BATCH)
      (min (h.rN r - (h.ring r).next) ((h.get F.RCTX6_PIDX r + h.rN r - (h.ring r).next) % h.rN r)))
    (some : 0 < k) (space : h.rKind r = kTX → h.hostStaged < 1024) : h.fetchIssue r =
      (h.setRing r { h.ring r with
        next := ((h.ring r).next + k) % h.rN r
        descs := (h.ring r).descs ++ (List.range k).map (fun i => ({ slot := (h.ring r).next + i } : Desc)) }).readDescs r
          (h.ring r).next k := by
  subst size
  simp only [Hub.fetchIssue]
  exact Hub.when_pos ⟨run, some, space⟩

/-- A ring in another state fetches nothing, nor does a TX ring while the host staging is full (Table 7-3). -/
theorem Hub.fetchIssue_none (closed : h.rState r ≠ rRUN ∨ (h.rKind r = kTX ∧ 1024 ≤ h.hostStaged)) : h.fetchIssue r = h := by
  rw [Hub.fetchIssue]
  apply Hub.when_neg
  rintro ⟨run, -, space⟩
  obtain stopped | ⟨tx, full⟩ := closed
  · exact stopped run
  · exact absurd (space tx) (Nat.not_lt.mpr full)

/-- What the oldest descriptor read brings is discarded where the read is of no more use (Table 9-13). -/
theorem Hub.descArrival_whole {x : HostRd} {slot : Nat} {ws : List Word} (oldest : h.oldestRead (ofDescs r) = some x)
    (reader : x.who = .desc r slot) (whole : 4 * ws.length = h.fetchDue x.fetch) : h.descArrival r ws =
      if x.dead then h.fetchEnd x.fetch else (h.fetchEnd x.fetch).descArrive r slot (ws.map (·.toNat)) := by
  simp only [Hub.descArrival, oldest, Hub.when_pos whole, reader]

/-! ## Data fetches -/

/-- The only descriptor of a running TX ring is read for once it is checked. -/
theorem Hub.dataIssue_tx {d : Desc} (one : (h.ring r).descs = [d]) (checked : d.stage = .checked) (run : h.rState r = rRUN)
    (tx : h.rKind r = kTX) (needs : 0 < d.needs kTX) (may : h.mayFetch r 0 d = true) :
    h.dataIssue r = (h.modDesc r d.slot (fun d => { d with stage := .fetching })).readData r d := by
  have first : (h.ring r).descs.findIdx? (fun d => d.stage == .checked) = some 0 := by
    rw [one, List.findIdx?_cons, checked]
    rfl
  have read : h.mayRead r d = true := by
    rw [Hub.mayRead, run]
    rfl
  have other : h.rKind r = kBLK → (h.ring r).fetching.isNone = true := by
    rw [tx]
    exact fun blk => absurd blk (by decide)
  rw [← tx] at needs
  simp only [Hub.dataIssue, first]
  simp only [one, List.getElem?_cons_zero, Hub.when_pos read, Hub.when_pos (And.intro needs (And.intro may other))]

theorem Hub.dataArrival_part {x : HostRd} {slot : Nat} {b : Bytes} (oldest : h.oldestRead (ofData r none) = some x)
    (reader : x.who = .data r slot) (part : b.length ≤ h.fetchDue x.fetch) : h.dataArrival r b =
      if x.dead then h.fetchTake x.fetch b.length else (h.fetchTake x.fetch b.length).dataArrive r slot b := by
  simp only [Hub.dataArrival, oldest, Hub.when_pos part, reader]

/-! ## Reads that fail (R273) -/

theorem Hub.readFailure_desc {x : HostRd} {slot : Nat} (oldest : h.oldestRead (ofDescs r) = some x) (reader : x.who = .desc r slot)
    (used : x.dead = false) : h.readFailure r true = ((h.fetchEnd x.fetch).emit .aer).descReadFailed r slot := by
  simp only [Hub.readFailure, if_true, oldest, reader, used, Bool.false_eq_true, if_false]

theorem Hub.readFailure_data {x : HostRd} {slot : Nat} (oldest : h.oldestRead (ofData r none) = some x) (reader : x.who = .data r slot)
    (used : x.dead = false) : h.readFailure r false = ((h.fetchEnd x.fetch).emit .aer).dataReadFailed r slot := by
  simp only [Hub.readFailure, Bool.false_eq_true, if_false, oldest, reader, used]

/-- The third failure in a row of a ring's only descriptor read is lasting; before it the read waits 200 ticks. -/
theorem Hub.descReadFailed_one {d : DRead} (one : (h.ring r).reads = [d]) : h.descReadFailed r d.slot =
    if 2 ≤ d.fails then h.descFail r
    else h.setRing r { h.ring r with reads := [{ d with fails := d.fails + 1, retryAt := some (h.now + 200) }] } := by
  have found : (h.ring r).reads.find? (fun q => decide (q.slot = d.slot)) = some d := by
    rw [one]
    exact List.find?_cons_of_pos (decide_eq_true rfl)
  simp only [Hub.descReadFailed, found]
  simp only [one, List.map_cons, List.map_nil, if_true]

theorem Hub.descOf_one {d : Desc} (one : (h.ring r).descs = [d]) (unfinished : d.stage ≠ .done) : h.descOf r d.slot = some d := by
  rw [Hub.descOf, one]
  apply List.find?_cons_of_pos
  rw [beq_self_eq_true, Bool.true_and]
  exact bne_iff_ne.mpr unfinished

/-- Before its third failure in a row a data fetch waits 200 ticks. -/
theorem Hub.dataReadFailed_again {d : Desc} {slot : Nat} (found : h.descOf r slot = some d) (fetching : d.stage = .fetching)
    (again : d.fails < 2) : h.dataReadFailed r slot =
      h.modDesc r slot (fun d => { d with fails := d.fails + 1, retryAt := some (h.now + 200) }) := by
  simp only [Hub.dataReadFailed, found, fetching, ne_eq, not_true_eq_false, if_false, if_neg (Nat.not_le.mpr again)]

theorem Hub.due_iff {t : Nat} : h.due (some t) = true ↔ t ≤ h.now := decide_eq_true_iff

theorem Hub.resendRetry_noSession (r : Nat) (noSession : h.peri.sess = []) : h.resendRetry r = h := by
  rw [Hub.resendRetry, noSession]
  rfl

section

variable (noDesc : (h.ring r).descs = [])

include noDesc

/-- The only descriptor read of a running ring is issued again when its 200 ticks have passed. -/
theorem Hub.readRetry_run {d : DRead} (one : (h.ring r).reads = [d]) (due : h.due d.retryAt = true) (run : h.rState r = rRUN) :
    h.readRetry r = ((h.setRing r { h.ring r with reads := [{ d with retryAt := none }] }).ringRead r
      (h.get64 F.RCTX1_DBASE_LO F.RCTX2_DBASE_HI r + d.slot * 32) (d.n * 32) (.desc r d.slot)
      (fun o => .rdesc r (d.slot + o / 32))).resendRetry r := by
  simp only [Hub.readRetry, noDesc, one, Hub.when_pos run, List.filter_cons, due, if_true, List.filter_nil, List.map_cons, List.map_nil,
    List.foldl_cons, List.foldl_nil]
  rfl

/-- A ring that does not run reads no descriptors again (R274). -/
theorem Hub.readRetry_stopped (stopped : h.rState r ≠ rRUN) : h.readRetry r = h.resendRetry r := by
  simp only [Hub.readRetry, noDesc, Hub.when_neg stopped, List.filter_nil, List.foldl_nil]

end

/-! ## Moderation, remote polls and block transfers -/

theorem Hub.modTimeout_due {t : Nat} (may : h.mayInt r = true) (pending : 0 < (h.ring r).pend) (on : h.get F.RCTX5_MTMO r ≠ 0)
    (first : (h.ring r).first = some t) (late : t + 200 * h.get F.RCTX5_MTMO r ≤ h.now) : h.modTimeout r = h.ringVec r := by
  have due : h.due ((h.ring r).first.map (· + h.get F.RCTX5_MTMO r * 200)) = true := by
    rw [first, Option.map_some, Hub.due_iff, Nat.mul_comm]
    exact late
  simp only [Hub.modTimeout]
  exact Hub.when_pos ⟨may, pending, on, due⟩

/-- A remote ring with an address of a producer index reads it every POLL ticks (R277). -/
theorem Hub.remotePoll_due (run : h.rState r = rRUN) (remote : h.rRemote r = true) (addr : h.get64 F.RCTX8_PADDR_LO F.RCTX9_PADDR_HI r ≠ 0)
    (idle : (h.ring r).polling = false) (late : (h.ring r).polled + h.get F.RCTX10_POLL r ≤ h.now) : h.remotePoll r =
      (h.setRing r { h.ring r with polling := true, polled := h.now }).ringRead r (h.get64 F.RCTX8_PADDR_LO F.RCTX9_PADDR_HI r) 4
        (.data r 0) (fun _ => .rpidx r) := by
  simp only [Hub.remotePoll]
  exact Hub.when_pos ⟨run, remote, addr, idle, late⟩

/-- The only transfer of a block ring is done when all of it has moved, where no FLUSH is asked for (R269). -/
theorem Hub.transferDone_noFlush {d : Desc} (one : (h.ring r).descs = [d]) (blk : h.rKind r = kBLK) (offered : d.stage = .offered)
    (moved : d.moved = d.len kBLK) (noFlush : d.f 0 23 1 = 0) : h.transferDone r = h.finDesc r d.slot cOK d.moved 0 := by
  have oldest : (h.ring r).descs.find? (fun d => d.stage != .done) = some d := by
    rw [one]
    exact List.find?_cons_of_pos (by rw [offered]; rfl)
  have flushed : d.f 0 22 1 = 0 ∧ d.f 0 23 1 = 1 → d.flushed = true := fun asked => absurd (noFlush.symm.trans asked.2) Nat.zero_ne_one
  simp only [Hub.transferDone, oldest]
  exact Hub.when_pos ⟨blk, offered, moved, flushed⟩

end

/-- Settles O33: each clause by the lemma about the read, or the transfer, that it names. That a failed fetch is read again whole, and the
order of a ring's reads, are the model's choice (log entry 68). -/
theorem ringFetchCommands : Obligations.RingFetchCommands := by
  refine ⟨fun h hl r => ⟨?_, ?_, ?_, ?_, ?_, ?_, ?_, ?_, ?_, ?_, ?_⟩, fun h hl =>
    ⟨does_descriptorFetchIssue hl, does_descriptorArrival hl, does_dataFetchIssue hl, does_dataArrival hl, does_hostReadFailure hl, does_readRetry hl,
    does_moderationTimeout hl, does_remotePoll hl, does_blkTransferComplete hl⟩⟩
  · rintro _ k run rfl size some space
    exact (does_descriptorFetchIssue hl r).of_eq (Hub.fetchIssue_run run size some space)
  · exact fun closed => (does_descriptorFetchIssue hl r).of_eq (Hub.fetchIssue_none closed)
  · intro x slot ws oldest reader whole
    have does := (does_descriptorArrival hl r ws).of_eq (Hub.descArrival_whole oldest reader whole)
    exact ⟨fun used => does.of_eq (if_neg (Bool.eq_false_iff.mp used)), fun dead => does.of_eq (if_pos dead)⟩
  · exact fun d one checked run tx needs may => (does_dataFetchIssue hl r).of_eq (Hub.dataIssue_tx one checked run tx needs may)
  · intro x slot b oldest reader part
    have does := (does_dataArrival hl r b).of_eq (Hub.dataArrival_part oldest reader part)
    exact ⟨fun used => does.of_eq (if_neg (Bool.eq_false_iff.mp used)), fun dead => does.of_eq (if_pos dead)⟩
  · rintro x d _ oldest reader used rfl one
    have does := (does_hostReadFailure hl r true).of_eq ((Hub.readFailure_desc oldest reader used).trans (Hub.descReadFailed_one one))
    exact ⟨fun again => does.of_eq (if_neg (Nat.not_le.mpr again)), fun lasting => does.of_eq (if_pos lasting)⟩
  · rintro x d _ oldest reader used rfl one fetching again
    have found := Hub.descOf_one one (by rw [fetching]; decide)
    exact (does_hostReadFailure hl r false).of_eq
      ((Hub.readFailure_data oldest reader used).trans (Hub.dataReadFailed_again found fetching again))
  · intro d t one noDesc waits late
    have due : h.due d.retryAt = true := by
      rw [waits]
      exact Hub.due_iff.mpr late
    refine ⟨fun run => (does_readRetry hl r).of_eq (Hub.readRetry_run noDesc one due run), fun error noSession => ?_⟩
    have stopped : h.rState r ≠ rRUN := fun run => absurd (run.symm.trans error) (by decide)
    exact (does_readRetry hl r).of_eq ((Hub.readRetry_stopped noDesc stopped).trans (Hub.resendRetry_noSession _ noSession))
  · exact fun t may pending on first late => (does_moderationTimeout hl r).of_eq (Hub.modTimeout_due may pending on first late)
  · exact fun run remote addr idle late => (does_remotePoll hl r).of_eq (Hub.remotePoll_due run (Hub.flag_one remote) addr idle late)
  · exact fun d one blk offered moved noFlush =>
      (does_blkTransferComplete hl r).of_eq (Hub.transferDone_noFlush one blk offered moved noFlush)

end Sys2Proof.Machine
end

section
/-! Enabling, resetting and completing rings, and the PCIe resets (R248, R249, R255, R257, R272, R274, R278, R283). -/

namespace Sys2Proof.Machine

/-! ## The commands -/

section

variable {h : Hub} (ha : h.awake)

include ha

theorem does_perstNAssert : Does .perstNAssert h h.perstAssert := does_of_run ha Hub.perstAssert exec_perstNAssert

theorem does_perstNRelease (width : Fin 16) (speed : Fin 8) : Does (.perstNRelease width speed) h (h.perstRelease width speed) :=
  does_of_run ha (·.perstRelease width speed) (exec_perstNRelease width speed)

theorem does_functionLevelReset : Does .functionLevelReset h h.resetLocal := does_of_run ha Hub.resetLocal exec_functionLevelReset

variable (hw : h.led.wiped = false)

include hw

theorem does_ringEnable (p : Path) (v : Word) : Does (.ringEnable p v) h (h.ringEnable p v) :=
  does_of_runW ha (·.ringEnable p v) (exec_ringEnable p v) hw

theorem does_ringReset (p : Path) (v : Word) : Does (.ringReset p v) h (h.ringDisable p v) :=
  does_of_runW ha (·.ringDisable p v) (exec_ringReset p v) hw

theorem does_cfgrdySet : Does .cfgrdySet h h.cfgrdySet := does_of_runW ha Hub.cfgrdySet exec_cfgrdySet hw

end

section

variable {h : Hub} (hl : h.live) (r : RingId)

include hl

theorem does_ringResetDeadline : Does (.ringResetDeadline r) h (h.resetDeadline r) :=
  does_of_runLive hl (·.resetDeadline r) (exec_ringResetDeadline r)

theorem does_ringResetEnd : Does (.ringResetEnd r) h (h.resetEnd r) := does_of_runLive hl (·.resetEnd r) (exec_ringResetEnd r)

end

/-! ## A write of RCTX0 over PCIe -/

section

variable {h : Hub} {r : Nat} {v : Word} (selected : r = h.get F.HIF_RSEL_RING Path.pcie.sel)
  (cold : Tab.get 0#32 h.led.hot (F.RCTX0_EN.addr r 0) = 0#32)

include selected cold

/-- Where no event of the tick holds bits of the word, it is taken as it was written, with the rights of S0 (R55, R282). -/
theorem Hub.rctx0Write_pcie : h.rctx0Write .pcie v = h.rctx0 r v true := by
  have whole : h.current (F.RCTX0_EN.addr r 0) v = v := if_pos cold
  have reached : h.selRing .pcie = some r := by
    rw [selected, Hub.selRing]
    exact if_pos (.inl rfl)
  simp only [Hub.rctx0Write, reached, whole]
  rfl

theorem Hub.ringEnable_pcie (enable : v.bits 31 1 = 1) : h.ringEnable .pcie v = h.rctx0 r v true :=
  (Hub.when_pos enable).trans (Hub.rctx0Write_pcie selected cold)

theorem Hub.ringDisable_pcie (disable : v.bits 31 1 = 0) : h.ringDisable .pcie v = h.rctx0 r v true :=
  (Hub.when_pos disable).trans (Hub.rctx0Write_pcie selected cold)

end

/-! ## The context that a write leaves in an IDLE ring (R282) -/

theorem Hub.moveRing_self (h : Hub) (a : Nat) : h.moveRing a a = h := if_pos rfl

/-- The counts of rings stand below every ring's context. -/
theorem Hub.moveRing_get (h : Hub) {a b : Nat} (old : a < 128) (new : b < 128) {f : Fld} {k l : Nat} (context : 0x2000000 ≤ f.base) :
    (h.moveRing a b).get f k l = h.get f k l := by
  have below {s : Nat} (slice : s < 128) : F.SLC_STAT_RINGS.base + s * F.SLC_STAT_RINGS.s1 + 0 * F.SLC_STAT_RINGS.s2 < f.base := by
    simp only [F.SLC_STAT_RINGS]
    omega
  unfold Hub.moveRing
  split
  · rfl
  · rw [Hub.get_set_high _ (below new), Hub.get_set_high _ (below old)]

/-- LOG2N and KIND take values of their ranges (R282). -/
def Hub.putShape (h : Hub) (r : Nat) (v : Word) : Hub :=
  let g := if 4 ≤ v.bits 23 5 ∧ v.bits 23 5 ≤ 16 then h.set F.RCTX0_LOG2N (v.bits 23 5) r else h
  if v.bits 20 3 ≤ 5 then g.set F.RCTX0_KIND (v.bits 20 3) r else g

/-- The other fields of word 0 but EN and STATE as S0 writes them, and the ring counted for its slice (R282, Table 10-6). -/
def Hub.putContext (h : Hub) (r : Nat) (v : Word) : Hub :=
  (((((h.moveRing (h.rSlice r) (v.bits 8 7)).set F.RCTX0_REMOTE (v.bits 19 1) r).set F.RCTX0_WIN (v.bits 15 4) r).set
    F.RCTX0_SLICE (v.bits 8 7) r).set F.RCTX0_DROPNB (v.bits 7 1) r).set F.RCTX0_BIND (v.bits 4 3) r

section

variable {h : Hub} {r : Nat} {v : Word}

theorem Hub.putShape_get {f : Fld} (other : f.lo + f.w ≤ 20 ∨ 28 ≤ f.lo) (i j : Nat) : (h.putShape r v).get f i j = h.get f i j := by
  have size (g : Hub) : (g.set F.RCTX0_LOG2N (v.bits 23 5) r).get f i j = g.get f i j :=
    Hub.get_set_disj g (by decide) (by simp only [F.RCTX0_LOG2N]; omega)
  have kind (g : Hub) : (g.set F.RCTX0_KIND (v.bits 20 3) r).get f i j = g.get f i j :=
    Hub.get_set_disj g (by decide) (by simp only [F.RCTX0_KIND]; omega)
  simp only [Hub.putShape, apply_ite (fun g : Hub => g.get f i j), kind, size, ite_self]

theorem Hub.putShape_tx (least : 4 ≤ v.bits 23 5) (most : v.bits 23 5 ≤ 16) (tx : v.bits 20 3 = 0) :
    h.putShape r v = (h.set F.RCTX0_LOG2N (v.bits 23 5) r).set F.RCTX0_KIND 0 r := by
  simp only [Hub.putShape, if_pos (And.intro least most), tx, if_pos (Nat.zero_le 5)]

theorem Hub.putContext_state : (h.putContext r v).get F.RCTX0_STATE r = h.get F.RCTX0_STATE r := by
  simp (disch := decide) only [Hub.putContext, Hub.get_set_disj]
  exact Hub.moveRing_get h (Hub.get_lt h F.RCTX0_SLICE r 0) (Word.bits_lt v 8 7) (by decide)

/-- With EN = 1 an IDLE ring starts on the context written, or stays IDLE with error code 3 (R283). -/
theorem Hub.rctx0_enable (idle : h.rState r = rIDLE) (enable : v.bits 31 1 = 1) : h.rctx0 r v true =
    if (decide (4 ≤ v.bits 23 5) && decide (v.bits 23 5 ≤ 16) && decide (v.bits 20 3 ≤ 5) &&
      ((h.putShape r v).putContext r v).ringOk r) = true
    then ((h.putShape r v).putContext r v).ringStart r else ((h.putShape r v).putContext r v).set F.RCTX7_ERRCODE 3 r := by
  simp only [Hub.rctx0, if_pos idle, enable, one_ne_zero, if_false, if_true]
  rfl

/-- A ring that is not IDLE takes no word 0 with EN = 1 (R283). -/
theorem Hub.rctx0_enable_busy (busy : h.rState r ≠ rIDLE) (enable : v.bits 31 1 = 1) : h.rctx0 r v true = h := by
  have running : ¬ (v.bits 31 1 = 0 ∧ (h.rState r = rRUN ∨ h.rState r = rERROR)) := by
    rw [enable]
    exact fun both => absurd both.1 one_ne_zero
  exact (if_neg busy).trans (if_neg running)

/-- EN = 0 resets a ring that runs or is in error (R278). -/
theorem Hub.rctx0_disable (disable : v.bits 31 1 = 0) (state : h.rState r = rRUN ∨ h.rState r = rERROR) :
    h.rctx0 r v true = h.ringReset r false := by
  have busy : h.rState r ≠ rIDLE := by
    rcases state with run | error
    · rw [run]
      decide
    · rw [error]
      decide
  exact (if_neg busy).trans (if_pos ⟨disable, state⟩)

/-- A size out of range is refused (R283). -/
theorem Hub.rctx0_badSize (idle : h.rState r = rIDLE) (enable : v.bits 31 1 = 1) (size : v.bits 23 5 < 4 ∨ 16 < v.bits 23 5) :
    h.rctx0 r v true = ((h.putShape r v).putContext r v).set F.RCTX7_ERRCODE 3 r := by
  refine (Hub.rctx0_enable idle enable).trans (if_neg ?_)
  simp only [Bool.and_eq_true, decide_eq_true_eq]
  rintro ⟨⟨⟨least, most⟩, -⟩, -⟩
  omega

/-- A write that is refused leaves the state. -/
theorem Hub.rctx0_badSize_state :
    (((h.putShape r v).putContext r v).set F.RCTX7_ERRCODE 3 r).get F.RCTX0_STATE r = h.get F.RCTX0_STATE r := by
  have shape : (h.putShape r v).get F.RCTX0_STATE r = h.get F.RCTX0_STATE r := Hub.putShape_get (by decide) r 0
  simp (disch := decide) only [Hub.get_set_elem, Hub.putContext_state, shape]

/-! ## Starting a ring (R255, R275, R283) -/

/-- A local TX ring of a bound slice with aligned arrays may start. -/
theorem Hub.ringOk_tx (tx : h.rKind r = kTX) (local_ : h.rRemote r = false) (descs : h.get F.RCTX1_DBASE_LO r % 64 = 0)
    (completions : h.get F.RCTX3_CBASE_LO r % 64 = 0) (bound : h.bound (h.rSlice r) = true) : h.ringOk r = true := by
  simp only [Hub.ringOk, tx, local_, descs, completions, bound]
  rfl

/-- A started ring runs, is armed, and begins at slot 0; what it was set up with stays. -/
theorem Hub.ringStart_fields (h : Hub) (r : Nat) : (h.ringStart r).get F.RCTX0_STATE r = 1 ∧ (h.ringStart r).get F.RCTX0_EN r = 1 ∧
    (h.ringStart r).get F.RCTX6_PIDX r = 0 ∧ (h.ringStart r).get F.RCTX6_DONE r = 0 ∧ (h.ringStart r).get F.RCTX5_ARMED r = 1 ∧
    (h.ringStart r).get F.RCTX0_LOG2N r = h.get F.RCTX0_LOG2N r ∧ (h.ringStart r).get F.RCTX0_KIND r = h.get F.RCTX0_KIND r := by
  refine ⟨?_, ?_, ?_, ?_, ?_, ?_, ?_⟩
  all_goals
    rw [Hub.ringStart, Hub.setRing_get]
    simp (disch := decide) only [Hub.get_set_same, Hub.get_set_elem, Hub.get_set_disj]
  all_goals decide

/-- A ring that stays with its slice changes no count of rings. -/
theorem Hub.putContext_own (own : v.bits 8 7 = h.rSlice r) : h.putContext r v =
    ((((h.set F.RCTX0_REMOTE (v.bits 19 1) r).set F.RCTX0_WIN (v.bits 15 4) r).set F.RCTX0_SLICE (v.bits 8 7) r).set
      F.RCTX0_DROPNB (v.bits 7 1) r).set F.RCTX0_BIND (v.bits 4 3) r := by
  rw [Hub.putContext, ← own, Hub.moveRing_self]

section

variable (least : 4 ≤ v.bits 23 5) (most : v.bits 23 5 ≤ 16) (tx : v.bits 20 3 = 0) (own : v.bits 8 7 = h.rSlice r)

include least most tx own

/-- Word 0 with a size, TX, the ring's own slice and local: each field as it stood or as it was written. -/
theorem Hub.putContext_tx : (h.putShape r v).putContext r v =
    ((((((h.set F.RCTX0_LOG2N (v.bits 23 5) r).set F.RCTX0_KIND 0 r).set F.RCTX0_REMOTE (v.bits 19 1) r).set F.RCTX0_WIN (v.bits 15 4) r).set
      F.RCTX0_SLICE (v.bits 8 7) r).set F.RCTX0_DROPNB (v.bits 7 1) r).set F.RCTX0_BIND (v.bits 4 3) r := by
  have kept : v.bits 8 7 = (h.putShape r v).rSlice r := own.trans (Hub.putShape_get (by decide) r 0).symm
  rw [Hub.putContext_own kept, Hub.putShape_tx least most tx]

theorem Hub.putContext_tx_log2n : ((h.putShape r v).putContext r v).get F.RCTX0_LOG2N r = v.bits 23 5 := by
  rw [Hub.putContext_tx least most tx own]
  simp (disch := decide) only [Hub.get_set_same, Hub.get_set_disj]
  exact Word.bits_mod v 23 5

theorem Hub.putContext_tx_kind : ((h.putShape r v).putContext r v).get F.RCTX0_KIND r = 0 := by
  rw [Hub.putContext_tx least most tx own]
  simp (disch := decide) only [Hub.get_set_same, Hub.get_set_disj]
  decide

theorem Hub.putContext_tx_slice : ((h.putShape r v).putContext r v).get F.RCTX0_SLICE r = v.bits 8 7 := by
  rw [Hub.putContext_tx least most tx own]
  simp (disch := decide) only [Hub.get_set_same, Hub.get_set_disj]
  exact Word.bits_mod v 8 7

theorem Hub.putContext_tx_remote : ((h.putShape r v).putContext r v).get F.RCTX0_REMOTE r = v.bits 19 1 := by
  rw [Hub.putContext_tx least most tx own]
  simp (disch := decide) only [Hub.get_set_same, Hub.get_set_disj]
  exact Word.bits_mod v 19 1

/-- The other words of the context, and the registers below every context, stay. -/
theorem Hub.putContext_tx_elem {f : Fld} (s1 : f.s1 = 0x40) (s2 : f.s2 = 0) (other : f.base ≠ 0x2000000) :
    ((h.putShape r v).putContext r v).get f r = h.get f r := by
  rw [Hub.putContext_tx least most tx own]
  iterate 7 rw [Hub.get_set_elem _ s1 s2 other]

theorem Hub.putContext_tx_low {f : Fld} {k l : Nat} (low : f.base + k * f.s1 + l * f.s2 < 0x2000000) :
    ((h.putShape r v).putContext r v).get f k l = h.get f k l := by
  rw [Hub.putContext_tx least most tx own]
  iterate 7 rw [Hub.get_set_low _ low]

/-- A local TX ring of a bound slice, of a size in range and with aligned arrays, starts (R283). -/
theorem Hub.rctx0_starts (idle : h.rState r = rIDLE) (enable : v.bits 31 1 = 1) (local_ : v.bits 19 1 = 0)
    (descs : h.get F.RCTX1_DBASE_LO r % 64 = 0) (completions : h.get F.RCTX3_CBASE_LO r % 64 = 0)
    (bound : h.get F.SLC_BIND_VALID (v.bits 8 7) = 1) : h.rctx0 r v true = ((h.putShape r v).putContext r v).ringStart r := by
  have slice : ((h.putShape r v).putContext r v).rSlice r = v.bits 8 7 := Hub.putContext_tx_slice least most tx own
  have low : F.SLC_BIND_VALID.base + v.bits 8 7 * F.SLC_BIND_VALID.s1 + 0 * F.SLC_BIND_VALID.s2 < 0x2000000 := by
    have small := Word.bits_lt v 8 7
    simp only [F.SLC_BIND_VALID]
    omega
  have ok : ((h.putShape r v).putContext r v).ringOk r = true := by
    apply Hub.ringOk_tx
    · exact Hub.putContext_tx_kind least most tx own
    · exact Hub.flag_zero ((Hub.putContext_tx_remote least most tx own).trans local_)
    · rw [Hub.putContext_tx_elem least most tx own rfl rfl (by decide), descs]
    · rw [Hub.putContext_tx_elem least most tx own rfl rfl (by decide), completions]
    · rw [slice]
      exact Hub.flag_one ((Hub.putContext_tx_low least most tx own low).trans bound)
  refine (Hub.rctx0_enable idle enable).trans (if_pos ?_)
  simp only [least, most, tx, ok, Nat.zero_le, decide_true, Bool.and_self]

end

/-! ## Resets of a ring (R278) -/

/-- At the deadline the started descriptors complete SQUASHED; no slice reset is forced where none runs (R290). -/
theorem Hub.resetDeadline_due {t : Nat} (resetting : h.rState r = rRESETTING) (start : (h.ring r).resetAt = some t)
    (late : t + 20000 ≤ h.now) (noReset : Tab.get none (h.squashRing r).hif.srst ((h.squashRing r).rSlice r) = none) :
    h.resetDeadline r = h.squashRing r := by
  have due : h.due ((h.ring r).resetAt.map (· + 20000)) = true := by
    rw [start]
    exact Hub.due_iff.mpr late
  rw [Hub.resetDeadline, Hub.when_pos ⟨resetting, due⟩]
  simp only [noReset, Bool.false_eq_true, and_false, if_false]

theorem Hub.resetEnd_keeps (resetting : h.rState r = rRESETTING) (empty : (h.ring r).descs = []) (kept : (h.ring r).wipe = false) :
    h.resetEnd r =
      ((((h.set F.RCTX0_STATE 0 r).raise F.RCTX0_EN 0 r).set F.RCTX6_PIDX 0 r).set F.RCTX6_DONE 0 r).setRing r {} := by
  rw [Hub.resetEnd, Hub.when_pos ⟨resetting, empty⟩, Hub.ringIdle, kept]
  rfl

/-! ## Completions (R257, R272, R274) -/

theorem Hub.drainDone_empty (empty : (h.ring r).descs = []) (k : Nat) : h.drainDone r (k + 1) = h := by
  rw [Hub.drainDone, empty]

theorem Hub.drainDone_cons {d : Desc} {l : List Desc} (descs : (h.ring r).descs = d :: l) (k : Nat) : h.drainDone r (k + 1) =
    if d.stage = .done ∧ (h.rState r = rRUN ∨ h.rState r = rRESETTING) then
      ((h.setRing r { h.ring r with descs := l }).writeCpl r d).drainDone r k
    else h := by
  rw [Hub.drainDone, descs]

end

/-! ## The PCIe link (R248) -/

section

variable {h : Hub} {width speed : Nat}

/-- HIF wakes, and a link that is down trains where STRAP_PCIEOFF, width and rate allow. -/
theorem Hub.perstRelease_woken {g : Hub} (woken : g = ({ h with pwr := { h.pwr with perst := false } } : Hub).domainWake dHIF) :
    h.perstRelease width speed = g.when (¬ g.flag F.HIF_PSTAT_LINKUP ∧ ¬ g.strap 5 ∧
      (width = 1 ∨ width = 2 ∨ width = 4 ∨ width = 8) ∧ 1 ≤ speed ∧ speed ≤ g.get F.HIF_PCTL_MAXSPD) (fun h =>
        (((h.set F.HIF_PSTAT_LINKUP 1).set F.HIF_PSTAT_WIDTH width).set F.HIF_PSTAT_SPEED speed).emit .pcieTrain) := by
  rw [woken]
  rfl

theorem Hub.perstRelease_up {g : Hub} (woken : g = ({ h with pwr := { h.pwr with perst := false } } : Hub).domainWake dHIF)
    (up : g.get F.HIF_PSTAT_LINKUP = 1) : h.perstRelease width speed = g :=
  (Hub.perstRelease_woken woken).trans (Hub.when_neg fun all => all.1 (Hub.flag_one up))

theorem Hub.perstRelease_trains {g : Hub} (woken : g = ({ h with pwr := { h.pwr with perst := false } } : Hub).domainWake dHIF)
    (down : g.get F.HIF_PSTAT_LINKUP = 0) (pcieOn : g.strap 5 = false) (lanes : width = 1 ∨ width = 2 ∨ width = 4 ∨ width = 8)
    (least : 1 ≤ speed) (most : speed ≤ g.get F.HIF_PCTL_MAXSPD) : h.perstRelease width speed =
      (((g.set F.HIF_PSTAT_LINKUP 1).set F.HIF_PSTAT_WIDTH width).set F.HIF_PSTAT_SPEED speed).emit .pcieTrain :=
  (Hub.perstRelease_woken woken).trans (Hub.when_pos ⟨Hub.not_flag down, Bool.eq_false_iff.mp pcieOn, lanes, least, most⟩)

/-! ## CFGRDY (R248) -/

theorem Hub.cfgrdySet_again (ready : h.get F.HIF_PCTL_CFGRDY = 1) : h.cfgrdySet = h :=
  Hub.when_neg fun both => both.1 (Hub.flag_one ready)

/-- The first write of CFGRDY fixes the size of BAR4. -/
theorem Hub.cfgrdySet_first (notReady : h.get F.HIF_PCTL_CFGRDY = 0) (cold : h.isHot F.HIF_PCTL_CFGRDY = false) : h.cfgrdySet =
    (let g := h.set F.HIF_PCTL_CFGRDY 1
     { g with hif := { g.hif with bar4sz := h.get F.HIF_BAR4SZ_SIZE } }) := by
  have size : (h.set F.HIF_PCTL_CFGRDY 1).get F.HIF_BAR4SZ_SIZE = h.get F.HIF_BAR4SZ_SIZE := Hub.get_set_ne h (by decide)
  rw [Hub.cfgrdySet, Hub.when_pos ⟨Hub.not_flag notReady, Bool.eq_false_iff.mp cold⟩]
  simp only [size]

end

/-- Settles O34: each clause by the lemma about the write, the reset or the completion that it names. The width and rate that
PERST_N_RELEASE brings are log entry 35; that a function-level reset takes effect whatever CFGRDY holds is log entry 36. -/
theorem ringStateCommands : Obligations.RingStateCommands := by
  refine ⟨fun h => ⟨fun ha hw v r enable selected cold idle => ⟨fun size => ?_,
        fun least most tx own local_ descs completions bound => ?_⟩,
      fun ha hw v r enable selected cold busy => ?_, fun ha hw v r disable selected cold state => ?_,
      fun hl r t resetting start late noReset => ?_, fun hl r resetting empty kept => ?_,
      fun ha => ⟨?_, ?_, fun g woken => ⟨?_, ?_⟩, ?_, ?_⟩⟩,
    fun h r k => ⟨?_, ?_, ?_, ?_⟩,
    fun h => ⟨fun ha => ⟨does_perstNAssert ha, does_perstNRelease ha, does_functionLevelReset ha⟩,
      fun ha hw => ⟨does_ringEnable ha hw, does_ringReset ha hw, does_cfgrdySet ha hw⟩,
      fun hl => ⟨does_ringResetDeadline hl, does_ringResetEnd hl⟩⟩⟩
  · have does := (does_ringEnable ha hw .pcie v).of_eq
      ((Hub.ringEnable_pcie selected cold enable).trans (Hub.rctx0_badSize idle enable size))
    exact ⟨_, does, Hub.rctx0_badSize_state.trans idle, Hub.get_set_same _ F.RCTX7_ERRCODE 3 r 0 (by decide)⟩
  · have started := Hub.rctx0_starts least most tx own idle enable local_ descs completions bound
    obtain ⟨state, en, pidx, done, armed, log2n, kind⟩ := ((h.putShape r v).putContext r v).ringStart_fields r
    exact ⟨_, (does_ringEnable ha hw .pcie v).of_eq ((Hub.ringEnable_pcie selected cold enable).trans started), state, en, pidx,
      done, armed, log2n.trans (Hub.putContext_tx_log2n least most tx own), kind.trans (Hub.putContext_tx_kind least most tx own)⟩
  · exact (does_ringEnable ha hw .pcie v).of_eq ((Hub.ringEnable_pcie selected cold enable).trans (Hub.rctx0_enable_busy busy enable))
  · exact (does_ringReset ha hw .pcie v).of_eq ((Hub.ringDisable_pcie selected cold disable).trans (Hub.rctx0_disable disable state))
  · exact (does_ringResetDeadline hl r).of_eq (Hub.resetDeadline_due resetting start late noReset)
  · exact (does_ringResetEnd hl r).of_eq (Hub.resetEnd_keeps resetting empty kept)
  · exact does_functionLevelReset ha
  · exact does_perstNAssert ha
  · exact fun up width speed => (does_perstNRelease ha width speed).of_eq (Hub.perstRelease_up woken up)
  · exact fun speed down pcieOn least most =>
      (does_perstNRelease ha 8 speed).of_eq (Hub.perstRelease_trains woken down pcieOn (.inr (.inr (.inr rfl))) least most)
  · exact fun hw ready => (does_cfgrdySet ha hw).of_eq (Hub.cfgrdySet_again ready)
  · intro hw notReady cold
    have frame : h.sameRegs [F.HIF_PCTL_CFGRDY.addr 0 0] (h.set F.HIF_PCTL_CFGRDY 1) := (h.sameRegs_refl _).set (List.mem_singleton.mpr rfl)
    exact ⟨_, (does_cfgrdySet ha hw).of_eq (Hub.cfgrdySet_first notReady cold), Hub.get_set_same h F.HIF_PCTL_CFGRDY 1 0 0 (by decide), rfl,
      frame.congr rfl⟩
  · exact fun empty => Hub.drainDone_empty empty k
  · exact fun d l descs unfinished => (Hub.drainDone_cons descs k).trans (if_neg fun both => unfinished both.1)
  · intro d l descs error
    have stopped : ¬ (h.rState r = rRUN ∨ h.rState r = rRESETTING) := by
      rw [Hub.rState, error]
      decide
    exact (Hub.drainDone_cons descs k).trans (if_neg fun both => stopped both.2)
  · exact fun d l descs finished run => (Hub.drainDone_cons descs k).trans (if_pos ⟨finished, .inl run⟩)

end Sys2Proof.Machine
end

section
/-! Slices: binding, owners and resets (R285 to R290, R292). -/

namespace Sys2Proof.Machine

/-! ## The commands -/

section

variable {h : Hub} (ha : h.awake)

include ha

theorem does_sliceResetDrainDeadline (sl : SliceId) : Does (.sliceResetDrainDeadline sl) h (h.slcDeadline sl) :=
  does_of_run ha (·.slcDeadline sl) (exec_sliceResetDrainDeadline sl)

theorem does_sliceResetComplete (sl : SliceId) : Does (.sliceResetComplete sl) h (h.resetComplete sl) :=
  does_of_run ha (·.resetComplete sl) (exec_sliceResetComplete sl)

variable (hw : h.led.wiped = false) (p : Path)

include hw

theorem does_sliceBindWrite (sl : SliceId) (v : Word) :
    Does (.sliceBindWrite p sl v) h (h.when ((h.pathLimit p).isNone) (fun h => h.bind sl v)) :=
  does_of_runW ha (fun h => h.when ((h.pathLimit p).isNone) (fun h => h.bind sl v)) (exec_sliceBindWrite p sl v) hw

theorem does_ownerWrite (arr : Fin 6) (w : Fin 68) (v : Word) :
    Does (.ownerWrite p arr w v) h (h.when ((h.pathLimit p).isNone) (fun h => h.ownWrite arr w v)) :=
  does_of_runW ha (fun h => h.when ((h.pathLimit p).isNone) (fun h => h.ownWrite arr w v)) (exec_ownerWrite p arr w v) hw

theorem does_sliceReset (sl : SliceId) (v : Word) : Does (.sliceReset p sl v) h (h.sliceReset p sl v) :=
  does_of_runW ha (·.sliceReset p sl v) (exec_sliceReset p sl v) hw

end

/-! ## Binding (R285, R286) -/

section

variable {h : Hub} {s : Nat} {v : Word}

theorem Hub.bind_refused (refused : h.bindErr s v ≠ 0) : h.bind s v = h.slcErr s (h.bindErr s v) 0 0 := if_pos refused

/-- A binding that is not refused shows the new VALID, PASID and state; where it ends a binding, the slice's votes go (R286). -/
theorem Hub.bind_taken (ok : h.bindErr s v = 0) {on : Nat} (valid : v.bits 31 1 = on) : h.bind s v =
    (let g := ((h.set F.SLC_BIND_VALID on s).set F.SLC_BIND_PASID (v.bits 0 20) s).set F.SLC_STAT_STATE on s
     (if h.bound s = true ∧ on = 0 then g.dropVotes s else g).modeCheck) := by
  subst valid
  exact if_neg (not_not_intro ok)

theorem Hub.bind_binds (ok : h.bindErr s v = 0) (valid : v.bits 31 1 = 1) : h.bind s v =
    (((h.set F.SLC_BIND_VALID 1 s).set F.SLC_BIND_PASID (v.bits 0 20) s).set F.SLC_STAT_STATE 1 s).modeCheck :=
  (Hub.bind_taken ok valid).trans (congrArg Hub.modeCheck (if_neg fun both => absurd both.2 one_ne_zero))

theorem Hub.bind_unbinds (ok : h.bindErr s v = 0) (valid : v.bits 31 1 = 0) (bound : h.get F.SLC_BIND_VALID s = 1) : h.bind s v =
    ((((h.set F.SLC_BIND_VALID 0 s).set F.SLC_BIND_PASID (v.bits 0 20) s).set F.SLC_STAT_STATE 0 s).dropVotes s).modeCheck :=
  (Hub.bind_taken ok valid).trans (congrArg Hub.modeCheck (if_pos ⟨Hub.flag_one bound, rfl⟩))

end

/-! ## Owners (R287, Table 10-11) -/

/-- Field `i` of an owner array written: four elements stand in a word, each in the low seven bits of its byte. -/
def Hub.putOwner (h : Hub) (f : Fld) (i new : Nat) : Hub :=
  h.setReg (f.addr (i / 4) 0) ((h.reg (f.addr (i / 4) 0)).setBits (i % 4 * 8) 7 new)

/-- Different words of an array with a stride stand at different addresses. -/
theorem Fld.addr_injective {f : Fld} (stride : 0 < f.s1) {i j : Nat} (same : f.addr i 0 = f.addr j 0) : i = j := by
  simp only [Fld.addr, Nat.add_right_cancel_iff, Nat.add_left_cancel_iff] at same
  exact Nat.eq_of_mul_eq_mul_right stride same

theorem ownArray_stride (arr : Nat) : 0 < (ownArray arr).s1 := by
  unfold ownArray
  split
  all_goals decide

section

variable (h : Hub) (f : Fld) {i j : Nat} (new : Nat)

theorem Hub.ownerOf_putOwner_same (fits : new < 128) : (h.putOwner f i new).ownerOf f i = new := by
  rw [Hub.ownerOf, Hub.putOwner, Hub.reg_setReg_same, Word.bits_setBits_same _ _ _ _ (by omega)]
  exact Nat.mod_eq_of_lt fits

theorem Hub.ownerOf_putOwner_ne (stride : 0 < f.s1) (other : j ≠ i) : (h.putOwner f i new).ownerOf f j = h.ownerOf f j := by
  rw [Hub.ownerOf, Hub.ownerOf, Hub.putOwner]
  by_cases word : j / 4 = i / 4
  · rw [word, Hub.reg_setReg_same]
    rcases Nat.lt_or_gt_of_ne (show j % 4 ≠ i % 4 by omega) with below | above
    · exact Word.bits_setBits_below _ _ _ _ _ _ (by omega) (by omega)
    · exact Word.bits_setBits_above _ _ _ _ _ _ (by omega) (by omega)
  · rw [Hub.reg_setReg_ne _ _ fun same => word (Fld.addr_injective stride same)]

end

section

variable {h : Hub} {arr i new : Nat}

theorem Hub.ownField_same (same : h.ownerOf (ownArray arr) i = new) : h.ownField arr i new = h := if_pos same.symm

theorem Hub.ownField_refused (change : h.ownerOf (ownArray arr) i ≠ new) (refused : h.ownRefused arr i (h.ownerOf (ownArray arr) i) = true) :
    h.ownField arr i new = h.slcErr (h.ownerOf (ownArray arr) i) 5 arr i := (if_neg change.symm).trans (if_pos refused)

theorem Hub.ownField_taken (change : h.ownerOf (ownArray arr) i ≠ new) (free : h.ownRefused arr i (h.ownerOf (ownArray arr) i) = false) :
    h.ownField arr i new = h.putOwner (ownArray arr) i new := (if_neg change.symm).trans (if_neg (Bool.eq_false_iff.mp free))

/-- A word that the array has takes its four fields in ascending order. -/
theorem Hub.ownWrite_word {w : Nat} (word : w < ownWords arr) (v : Word) : h.ownWrite arr w v =
    (((h.ownField arr (4 * w) (v.bits 0 7)).ownField arr (4 * w + 1) (v.bits 8 7)).ownField arr (4 * w + 2) (v.bits 16 7)).ownField
      arr (4 * w + 3) (v.bits 24 7) := if_pos word

end

/-! ## Slice resets (R289, R290, R292) -/

/-- A write of a register leaves the host interface. -/
theorem Hub.wr_hif (h : Hub) (a : Nat) (v : Word) (skip : List Nat) : (h.wr a v skip).hif = h.hif := by
  unfold Hub.wr
  split
  · rfl
  · rfl

section

variable {h : Hub} {s : Nat}

theorem Hub.sliceReset_foreign {p : Path} (notS0 : h.pathSlice p ≠ 0) (foreign : h.pathSlice p ≠ s) (v : Word) : h.sliceReset p s v = h :=
  Hub.when_neg (not_or_intro notS0 foreign)

/-- GO of a slice that is not being reset starts its reset (R289). -/
theorem Hub.slcRst_starts {v : Word} (go : v.bits 31 1 = 1) (idle : h.srst s = none) : h.slcRst s v =
    (let g := h.wr (F.SLC_RST_GO.addr s 0) v
     let g := ((g.set F.SLC_STAT_STATE 2 s).set F.SLC_RST_FORCED 0 s).setSrst s (some { start := g.time.tick, squash := v.bits 30 1 == 1 })
     (g.slcActions s (v.bits 30 1 == 1) (v.bits 29 1 == 1)).dropClaims s) := by
  have idleAfter : (h.wr (F.SLC_RST_GO.addr s 0) v).srst s = none := by rw [Hub.srst, Hub.wr_hif, ← Hub.srst, idle]
  rw [Hub.slcRst]
  simp only [go, one_ne_zero, if_false, idleAfter]
  rfl

section

variable {x : SlcRst} (running : h.srst s = some x)

include running

/-- A drain that reaches its deadline is squashed (R290). -/
theorem Hub.slcDeadline_due (drains : x.squash = false) (due : x.start + 20000 ≤ h.time.tick) :
    h.slcDeadline s = ((h.squashAll s).usbReset s true).set F.SLC_RST_FORCED 1 s := by
  rw [Hub.slcDeadline, running]
  exact Hub.when_pos ⟨Bool.eq_false_iff.mp drains, due⟩

/-- What the registers and the table of resets show when a slice reset has ended, every ring being IDLE (R292). -/
def Hub.sliceResetShown (h : Hub) (s : Nat) (x : SlcRst) : Hub :=
  ((((h.set F.SLC_STAT_STATE (b2n (h.bound s)) s).raise F.SLC_RST_DONE 1 s).set F.SLC_RST_DUR (min (h.time.tick - x.start) 0xFFFF) s).bump
    F.SLC_RSTINFO_SQUASHED s x.squashed).setSrst s none

/-- That hub with the record RESETDONE written (R292). -/
def Hub.sliceResetEnded (h : Hub) (s : Nat) (x : SlcRst) : Hub :=
  (h.sliceResetShown s x).rec1 32 5 1 52 (2 ^ 23 * b2n x.squash + 2 ^ 16 * s + min (h.time.tick - x.start) 0xFFFF)

/-- With no ring at work the reset ends once no USB transfer runs and no completion waits (R290). -/
theorem Hub.resetComplete_ends (rings : h.liveRings = []) (usb : h.usbQuiet s = true) (cpl : h.cplWaits s = false) : h.resetComplete s =
    if (h.sliceResetEnded s x).flag F.SLC_CFG_IRQEN = true then (h.sliceResetEnded s x).vector ((h.sliceResetEnded s x).get F.SLC_CFG_VEC)
    else h.sliceResetEnded s x := by
  have idle : h.ringsOf s = [] := by rw [Hub.ringsOf, rings, List.filter_nil]
  have ready : (h.ringsOf s).all (fun r => x.squash && (h.ring r).descs.isEmpty) = true ∧ (x.squash = true ∨ h.usbQuiet s = true) ∧
      ¬ h.cplWaits s = true := ⟨by rw [idle, List.all_nil], .inr usb, Bool.eq_false_iff.mp cpl⟩
  rw [Hub.resetComplete, running]
  refine (Hub.when_pos ready).trans ?_
  simp only [idle, Hub.each_nil]
  rfl

end

theorem Hub.setSrst_get (h : Hub) (s : Nat) (x : Option SlcRst) (f : Fld) (i j : Nat) : (h.setSrst s x).get f i j = h.get f i j := rfl

/-- The end of a slice reset leaves SLC_CFG, which stands above the arrays that it writes. -/
theorem Hub.sliceResetShown_irqen (slice : s < 128) (x : SlcRst) : (h.sliceResetShown s x).get F.SLC_CFG_IRQEN = h.get F.SLC_CFG_IRQEN := by
  have above {f : Fld} (stride : f.s1 = 4) (flat : f.s2 = 0) (low : f.base ≤ 0x3600) (g : Hub) (v : Nat) :
      (g.set f v s).get F.SLC_CFG_IRQEN = g.get F.SLC_CFG_IRQEN := by
    apply Hub.get_set_high
    simp only [stride, flat, F.SLC_CFG_IRQEN]
    omega
  rw [Hub.sliceResetShown, Hub.setSrst_get, Hub.bump, Hub.tally_get, above rfl rfl (by decide), above rfl rfl (by decide), Hub.raise_get,
    above rfl rfl (by decide), above rfl rfl (by decide)]

theorem Hub.sliceResetEnded_irqen (slice : s < 128) (x : SlcRst) : (h.sliceResetEnded s x).get F.SLC_CFG_IRQEN = h.get F.SLC_CFG_IRQEN :=
  ((Hub.record_evsOnly (h.sliceResetShown s x) (by decide) _).get F.SLC_CFG_IRQEN 0 0 (.inl (by decide))).trans
    (Hub.sliceResetShown_irqen slice x)

/-- Without IRQEN the end of a reset raises no vector (R292). -/
theorem Hub.resetComplete_quiet {x : SlcRst} (slice : s < 128) (running : h.srst s = some x) (rings : h.liveRings = [])
    (usb : h.usbQuiet s = true) (cpl : h.cplWaits s = false) (irq : h.get F.SLC_CFG_IRQEN = 0) : h.resetComplete s = h.sliceResetEnded s x :=
  (Hub.resetComplete_ends running rings usb cpl).trans (if_neg (Hub.not_flag ((Hub.sliceResetEnded_irqen slice x).trans irq)))

end

/-- Settles O35: each clause by the lemma about the write, the deadline or the end that it names. FORCED cleared at the start of a
reset, the state that an unbound slice ends in, the USB transfers squashed at the deadline and the source 52 of RESETDONE are the
model's choices of log entry 38. -/
theorem sliceCommands : Obligations.SliceCommands := by
  refine ⟨fun h ha hw => ⟨?_, ?_, ?_, ?_, ?_, ?_, ?_, ?_, ?_, ?_⟩, fun h arr i new _ => ⟨?_, ?_, ?_⟩,
    fun h => ⟨fun ha => ⟨does_sliceResetDrainDeadline ha, does_sliceResetComplete ha⟩,
      fun ha hw => ⟨does_sliceBindWrite ha hw, does_ownerWrite ha hw, does_sliceReset ha hw⟩⟩⟩
  · exact fun p s v limited => (does_sliceBindWrite ha hw p s v).of_eq (Hub.when_limit limited _)
  · exact fun p s v free refused => (does_sliceBindWrite ha hw p s v).of_eq ((Hub.when_noLimit free _).trans (Hub.bind_refused refused))
  · exact fun p s v free ok valid => (does_sliceBindWrite ha hw p s v).of_eq ((Hub.when_noLimit free _).trans (Hub.bind_binds ok valid))
  · exact fun p s v free ok valid bound =>
      (does_sliceBindWrite ha hw p s v).of_eq ((Hub.when_noLimit free _).trans (Hub.bind_unbinds ok valid bound))
  · exact fun p arr w v limited => (does_ownerWrite ha hw p arr w v).of_eq (Hub.when_limit limited _)
  · exact fun p arr w v free word => (does_ownerWrite ha hw p arr w v).of_eq ((Hub.when_noLimit free _).trans (Hub.ownWrite_word word v))
  · exact fun p s v notS0 foreign => (does_sliceReset ha hw p s v).of_eq (Hub.sliceReset_foreign notS0 foreign v)
  · intro p s v own go idle
    have notRunning : h.srst s = none := by rw [Hub.srst, idle, Tab.get]
    exact (does_sliceReset ha hw p s v).of_eq ((Hub.when_pos own).trans (Hub.slcRst_starts go notRunning))
  · exact fun s x running drains due => (does_sliceResetDrainDeadline ha s).of_eq (Hub.slcDeadline_due running drains due)
  · exact fun s x running rings usb cpl irq =>
      (does_sliceResetComplete ha s).of_eq (Hub.resetComplete_quiet s.isLt running rings usb cpl irq)
  · exact fun same => Hub.ownField_same same
  · exact fun change refused => Hub.ownField_refused change refused
  · intro fits change free
    rw [Hub.ownField_taken change free]
    exact ⟨h.ownerOf_putOwner_same _ new fits, fun j _ other => h.ownerOf_putOwner_ne _ new (ownArray_stride arr) other⟩

end Sys2Proof.Machine
end

section
/-! One-time programmable memory over a step (R462, R476, R477): no programming takes a blown bit back. -/

namespace Sys2Proof.Machine

/-! ## Bits -/

theorem bitOf_or (x y i : Nat) : bitOf (x ||| y) i = (bitOf x i || bitOf y i) := by
  simp only [bitOf_eq_testBit, Nat.testBit_or]

/-- Adding a power of two whose bit is clear leaves what stands above that bit. -/
theorem add_two_pow_div_above {x i : Nat} (clear : bitOf x i = false) : (x + 2 ^ i) / 2 ^ (i + 1) = x / 2 ^ (i + 1) := by
  have even : x / 2 ^ i % 2 = 0 := Nat.mod_two_ne_one.mp (beq_eq_false_iff_ne.mp clear)
  rw [pow_succ, ← Nat.div_div_eq_div_mul, ← Nat.div_div_eq_div_mul, Nat.add_div_right x (Nat.two_pow_pos i)]
  omega

theorem bitOf_setBit_kept {x j : Nat} (i : Nat) (set : bitOf x j = true) : bitOf (setBit x i) j = true := by
  unfold setBit
  split
  · exact set
  · next clear =>
    obtain below | rfl | above := Nat.lt_trichotomy j i
    · rw [bitOf_eq_testBit] at set ⊢
      rw [Nat.add_comm, Nat.testBit_two_pow_add_gt below, set]
    · exact absurd set clear
    · obtain ⟨k, rfl⟩ := Nat.exists_eq_add_of_le above
      rw [bitOf, pow_add, ← Nat.div_div_eq_div_mul] at set ⊢
      rw [add_two_pow_div_above (Bool.eq_false_iff.mpr clear), set]

/-! ## Programming -/

/-- Neither the bits asked for nor the next bit of ROLLBACK take back a blown one (R477, Table 18-6). -/
theorem otpAfter_kept (item x : Nat) {old i : Nat} (blown : bitOf old i = true) : bitOf (otpAfter item old x) i = true := by
  unfold otpAfter
  split
  · split
    · split
      · exact blown
      · exact bitOf_setBit_kept _ blown
    · exact blown
  · rw [bitOf_or, blown, Bool.true_or]

theorem otpKept.refl (o : Otp) : otpKept o o := fun _ _ blown => blown

/-- An item that takes what a programming leaves of it keeps every blown bit. -/
theorem otpKept_program (o : Otp) (item x : Nat) :
    otpKept o { bits := Tab.set 0 o.bits item (otpAfter item (Tab.get 0 o.bits item) x) } := by
  intro other i blown
  by_cases same : other = item
  · subst same
    rw [Tab.get_set_same]
    exact otpAfter_kept other x blown
  · rw [Tab.get_set_ne _ _ _ _ same]
    exact blown

theorem exec_otpProgramEnd_kept {s s' : State} (ends : exec .otpProgramEnd s = .next s') : otpKept s.otp s'.otp := by
  rw [exec_otpProgramEnd] at ends
  split at ends
  · obtain rfl := Host.Outcome.next.inj ends
    exact .refl _
  split at ends
  · obtain rfl := Host.Outcome.next.inj ends
    exact .refl _
  · obtain rfl := Host.Outcome.next.inj ends
    exact otpKept_program s.otp _ _

/-- Every command keeps the blown bits: the end of a programming is the only one that reaches OTP. -/
theorem exec_otpKept {c : Instr} {s s' : State} (runs : exec c s = .next s') : otpKept s.otp s'.otp := by
  by_cases ends : c = .otpProgramEnd
  · subst ends
    exact exec_otpProgramEnd_kept runs
  · obtain ⟨h, st, o, answer, same, -⟩ := everyCommandAnswers c s
    obtain rfl := Host.Outcome.next.inj (answer.symm.trans runs)
    rw [same ends]
    exact .refl _

/-- Settles O6: a tick leaves OTP as it is, and every command keeps its blown bits. -/
theorem otpBitsStayBlown : Obligations.OtpBitsStayBlown := by
  rintro ⟨h, st, o, pending⟩ s' steps
  cases pending with
  | nil =>
    obtain rfl := Host.Outcome.next.inj ((step_idle rfl).symm.trans steps)
    exact .refl o
  | cons c rest => exact exec_otpKept (c := c) (s := ⟨h, st, o, rest⟩) steps

end Sys2Proof.Machine
end

section
/-! What a hub that is not powered, and a hub after a fatal error, leave undone (R419, R431, R433, R459, R490). -/

namespace Sys2Proof.Machine

/-- The hub with nothing powered beyond AON. -/
def Hub.slept (h : Hub) : Hub := { h with pwr := { h.pwr with asleep := true } }

theorem Hub.slept_self {h : Hub} (asleep : h.pwr.asleep = true) : h.slept = h := by
  rw [Hub.slept, ← asleep]

/-- Each meaning but those of resets, wakes and the loss of VAON asks first whether the hub is asleep, and then leaves the state. -/
theorem exec_slept {c : Instr} (h st : Hub) (o : Otp) (q : List Instr) (notPower : ∀ straps, c ≠ .powerOnReset straps)
    (notPin : ∀ straps, c ≠ .pinReset straps) (notWake : ∀ k n straps, c ≠ .standbyWake k n straps) (notLoss : c ≠ .vaonLoss) :
    exec c { hub := h.slept, start := st, otp := o, pending := q } = .next { hub := h.slept, start := st, otp := o, pending := q } := by
  cases c with
  | powerOnReset straps => exact absurd rfl (notPower straps)
  | pinReset straps => exact absurd rfl (notPin straps)
  | standbyWake k n straps => exact absurd rfl (notWake k n straps)
  | vaonLoss => exact absurd rfl notLoss
  | _ => rfl

theorem Hub.fatal_of_valid {h : Hub} (valid : h.get F.GLB_FATAL_VALID = 1) : h.fatal? = true := Hub.flag_one valid

/-- Settles O5: every meaning is guarded by what is powered, and those of the rings, windows and streams by the fatal error too. That
only resets, wakes and the loss of VAON act while no more than AON is powered is log entry 45's own sentence, the model's choice. -/
theorem stoppedHub : Obligations.StoppedHub := by
  refine ⟨?_, fun s valid _ => ?_⟩
  · rintro c ⟨h, st, o, q⟩ asleep notPower notPin notWake notLoss
    have slept : h.slept = h := Hub.slept_self asleep
    rw [← slept]
    exact exec_slept h st o q notPower notPin notWake notLoss
  · simp only [exec_descriptorFetchIssue, exec_descriptorArrival, exec_dataFetchIssue, exec_dataArrival, exec_hostReadFailure,
      exec_readRetry, exec_moderationTimeout, exec_ringResetDeadline, exec_ringResetEnd, exec_remotePoll, exec_blkTransferComplete,
      exec_flushTimeout, exec_drainWordWritten, exec_windowCloseEnd, exec_bar4Write, exec_bar4Read, exec_rdSend, exec_syncRead,
      exec_blockCompletionReceive, exec_readTimeout, exec_lateTagFree, exec_busyReceive, exec_backoffExpiry, exec_episodeQuietEnd,
      exec_pollSend, exec_inboundRequest, exec_inboundPcieIssue, exec_inboundPcieCompletion, runLive_fatal (Hub.fatal_of_valid valid),
      implies_true, and_self]

end Sys2Proof.Machine
end

section
/-! OTP programming and reading (R476, R477, R483). -/

namespace Sys2Proof.Machine

/-! ## The commands -/

section

variable {h : Hub} (ha : h.awake)

include ha

theorem doesOtp_otpProgram (hw : h.led.wiped = false) (p : Path) (v : Word) (o : Otp) :
    DoesOtp (.otpProgram p v) h o (h.otpProgram o.bits p v) :=
  doesOtp_of_runW ha (f := fun otp h => h.otpProgram otp p v) (exec_otpProgram p v) hw o

theorem doesOtp_otpRead (hw : h.led.wiped = false) (p : Path) (v : Word) (o : Otp) :
    DoesOtp (.otpRead p v) h o (h.otpRead o.bits p v) :=
  doesOtp_of_runW ha (f := fun otp h => h.otpRead otp p v) (exec_otpRead p v) hw o

variable (st : Hub) (o : Otp) (q : List Instr)

theorem exec_otpProgramEnd_idle (idle : h.boot.prog = none) :
    exec .otpProgramEnd { hub := h, start := st, otp := o, pending := q } = .next { hub := h, start := st, otp := o, pending := q } := by
  rw [exec_otpProgramEnd, if_neg (Bool.eq_false_iff.mp ha), idle]

theorem exec_otpProgramEnd_ends {i x t : Nat} (running : h.boot.prog = some (i, x, t)) :
    exec .otpProgramEnd { hub := h, start := st, otp := o, pending := q } = .next
      { hub := (h.progEnd i (otpAfter i (Tab.get 0 o.bits i) x)).finish
        start := st
        otp := { bits := Tab.set 0 o.bits i (otpAfter i (Tab.get 0 o.bits i) x) }
        pending := q } := by
  rw [exec_otpProgramEnd, if_neg (Bool.eq_false_iff.mp ha), running]

end

theorem DoesOtp.of_eq {c : Instr} {h g k : Hub} {o : Otp} (does : DoesOtp c h o g) (e : g = k) : DoesOtp c h o k := e ▸ does

/-! ## What a command of GLB_OTPCMD does -/

section

variable {h : Hub} {otp : Tab Nat} {p : Path} {v : Word}

theorem Hub.otpCmd_tunnel (n : Fin 16) : h.otpCmd otp (.tunnel n) v = h := rfl

theorem Hub.otpCmd_own : h.otpCmd otp .own v = h := rfl

theorem Hub.otpProgram_ignored (ignored : ∀ g : Hub, g.otpCmd otp p v = g) : h.otpProgram otp p v = h := by
  rw [Hub.otpProgram, Hub.when, ignored, ite_self]

theorem Hub.otpRead_ignored (ignored : ∀ g : Hub, g.otpCmd otp p v = g) : h.otpRead otp p v = h := by
  rw [Hub.otpRead, Hub.when, ignored, ite_self]

section

variable (notTunnel : ∀ n, p ≠ .tunnel n) (notOwn : p ≠ .own) (go : v.bits 31 1 = 1) (key : v.bits 8 8 = 0x5A)
  {g : Hub} (written : g = h.wr (F.GLB_OTPCMD_GO.addr 0 0) v) (idle : g.get F.GLB_OTPSTAT_BUSY = 0)

include notTunnel notOwn go key written idle

/-- A command with the key, over PCIe or of the management controller, on a hub that programs nothing (R477). -/
theorem Hub.otpCmd_taken : h.otpCmd otp p v =
    if v.bits 30 1 = 0 then
      if 5 ≤ g.get F.GLB_OTPCMD_ITEM ∧ g.get F.GLB_OTPCMD_ITEM ≤ 8 then g.setOtpData (Tab.get 0 otp (g.get F.GLB_OTPCMD_ITEM))
      else g.raise F.GLB_OTPSTAT_ERR 1
    else if g.progRefused otp (g.get F.GLB_OTPCMD_ITEM) then g.raise F.GLB_OTPSTAT_ERR 1
    else (({ g with boot := { g.boot with
        prog := some (g.get F.GLB_OTPCMD_ITEM, g.otpData % 2 ^ otpWidth (g.get F.GLB_OTPCMD_ITEM), g.now) } } : Hub).setOtpData 0).set
      F.GLB_OTPSTAT_BUSY 1 := by
  have runs : ¬ (v.bits 31 1 = 0 ∨ v.bits 8 8 ≠ 0x5A ∨ g.flag F.GLB_OTPSTAT_BUSY = true) := by
    rw [go, key, Hub.flag_zero idle]
    decide
  subst written
  cases p with
  | tunnel n => exact absurd rfl (notTunnel n)
  | own => exact absurd rfl notOwn
  | pcie => exact if_neg runs
  | mgmt => exact if_neg runs

theorem Hub.otpProgram_taken (programs : v.bits 30 1 = 1) : h.otpProgram otp p v =
    if g.progRefused otp (g.get F.GLB_OTPCMD_ITEM) then g.raise F.GLB_OTPSTAT_ERR 1
    else (({ g with boot := { g.boot with
        prog := some (g.get F.GLB_OTPCMD_ITEM, g.otpData % 2 ^ otpWidth (g.get F.GLB_OTPCMD_ITEM), g.now) } } : Hub).setOtpData 0).set
      F.GLB_OTPSTAT_BUSY 1 := by
  rw [Hub.otpProgram, Hub.when_pos programs, Hub.otpCmd_taken notTunnel notOwn go key written idle, if_neg (by omega)]

theorem Hub.otpRead_taken (reads : v.bits 30 1 = 0) : h.otpRead otp p v =
    if 5 ≤ g.get F.GLB_OTPCMD_ITEM ∧ g.get F.GLB_OTPCMD_ITEM ≤ 8 then g.setOtpData (Tab.get 0 otp (g.get F.GLB_OTPCMD_ITEM))
    else g.raise F.GLB_OTPSTAT_ERR 1 := by
  rw [Hub.otpRead, Hub.when_pos reads, Hub.otpCmd_taken notTunnel notOwn go key written idle, if_pos reads]

end

/-- A key item with a bit blown takes no programming (R477). -/
theorem Hub.progRefused_blown {i : Nat} (least : 5 ≤ i) (most : i ≤ 8) (blown : Tab.get 0 otp i ≠ 0) : h.progRefused otp i = true := by
  have key : (i != 9 && i != 10 && Tab.get 0 otp i != 0) = true := by
    simp only [Bool.and_eq_true, bne_iff_ne]
    exact ⟨⟨by omega, by omega⟩, blown⟩
  rw [Hub.progRefused, key, Bool.or_true, Bool.true_or, Bool.true_or]

/-- A locked hub takes no programming (R483). -/
theorem Hub.progRefused_locked (i : Nat) (locked : h.get F.GLB_LOCK_LOCK = 1) : h.progRefused otp i = true := by
  rw [Hub.progRefused, Hub.locked?, Hub.flag_one locked, Bool.or_true, Bool.true_or]

end

/-! ## What a programming leaves of an item -/

theorem otpAfter_or {i : Nat} (notRollback : i ≠ 10) (old x : Nat) : otpAfter i old x = old ||| x := if_neg notRollback

/-- ROLLBACK takes its lowest bit that is not blown (Table 18-6). -/
theorem otpAfter_rollback {x old k : Nat} (any : x ≠ 0) (bit : k < 64) (clear : bitOf old k = false)
    (below : ∀ l, l < k → bitOf old l = true) : otpAfter 10 old x = setBit old k := by
  have lowest : (List.range 64).find? (fun k => !bitOf old k) = some k := by
    rw [List.find?_range_eq_some]
    refine ⟨by rw [clear]; rfl, List.mem_range.mpr bit, fun l lower => ?_⟩
    rw [below l lower]
    rfl
  rw [otpAfter, if_pos rfl, lowest]
  exact if_neg any

/-- Settles O58: each clause by the lemma about the command, the refusal or the end of a programming that it names. That a command of the
hub's own path or of the management tunnel is ignored whole, that ROLLBACK blows its lowest unblown bit and that READ shows the present
content are the model's choices of log entry 49. -/
theorem otpCommands : Obligations.OtpCommands := by
  refine ⟨fun h o ha => ⟨?_, ?_, ?_, ?_, ?_, fun i x old notRollback => otpAfter_or notRollback old x,
    fun x old k any bit clear below => otpAfter_rollback any bit clear below,
    fun st q idle => exec_otpProgramEnd_idle ha st o q idle, fun i least most blown => Hub.progRefused_blown least most blown,
    fun i locked => Hub.progRefused_locked i locked⟩,
    fun h ha hw => ⟨doesOtp_otpProgram ha hw, doesOtp_otpRead ha hw⟩⟩
  · intro hw p v programs go key notTunnel notOwn g idle
    have does := (doesOtp_otpProgram ha hw p v o).of_eq (Hub.otpProgram_taken notTunnel notOwn go key (g := g) rfl idle programs)
    exact ⟨fun refused => does.of_eq (if_pos refused), fun free => does.of_eq (if_neg (Bool.eq_false_iff.mp free))⟩
  · intro hw p v reads go key notTunnel notOwn g idle
    have does := (doesOtp_otpRead ha hw p v o).of_eq (Hub.otpRead_taken notTunnel notOwn go key (g := g) rfl idle reads)
    exact ⟨fun least most => does.of_eq (if_pos ⟨least, most⟩), fun noKey => does.of_eq (if_neg (by omega))⟩
  · exact fun hw v => ⟨(doesOtp_otpProgram ha hw .own v o).of_eq (Hub.otpProgram_ignored fun _ => Hub.otpCmd_own),
      (doesOtp_otpRead ha hw .own v o).of_eq (Hub.otpRead_ignored fun _ => Hub.otpCmd_own)⟩
  · exact fun hw n v => ⟨(doesOtp_otpProgram ha hw (.tunnel n) v o).of_eq (Hub.otpProgram_ignored fun _ => Hub.otpCmd_tunnel n),
      (doesOtp_otpRead ha hw (.tunnel n) v o).of_eq (Hub.otpRead_ignored fun _ => Hub.otpCmd_tunnel n)⟩
  · rintro i x t _ st q running rfl
    exact exec_otpProgramEnd_ends ha st o q running

end Sys2Proof.Machine
end

section
/-! Rails and boot (R467 to R472). -/

namespace Sys2Proof.Machine

/-! ## The commands -/

section

variable {h : Hub} (ha : h.awake)

include ha

theorem does_otpLoadComplete (bad : List (Nat × Nat)) : Does (.otpLoadComplete bad) h (h.otpLoaded bad) :=
  does_of_run ha (·.otpLoaded bad) (exec_otpLoadComplete bad)

theorem does_railInRange (r : Fin 4) : Does (.railInRange r) h (h.railGood r) := does_of_run ha (·.railGood r) (exec_railInRange r)

theorem does_railTimeout : Does .railTimeout h h.railTimeout := does_of_run ha Hub.railTimeout exec_railTimeout

theorem does_railRetry : Does .railRetry h h.railRetry := does_of_run ha Hub.railRetry exec_railRetry

theorem does_bootSlotVerify (a b : List (BitVec 8)) : Does (.bootSlotVerify a b) h (h.bootVerify a b) :=
  does_of_run ha (·.bootVerify a b) (exec_bootSlotVerify a b)

theorem does_flashRetry : Does .flashRetry h h.flashRetry := does_of_run ha Hub.flashRetry exec_flashRetry

variable (hw : h.led.wiped = false)

include hw

theorem does_hostLoadData (p : Path) (v : Word) :
    Does (.hostLoadData p v) h (h.when ((h.pathLimit p).isNone) (fun h => h.loadData v)) :=
  does_of_runW ha (fun h => h.when ((h.pathLimit p).isNone) (fun h => h.loadData v)) (exec_hostLoadData p v) hw

theorem does_hostLoadGo (p : Path) (v : Word) : Does (.hostLoadGo p v) h (h.when ((h.pathLimit p).isNone) (fun h => h.loadCtl v)) :=
  does_of_runW ha (fun h => h.when ((h.pathLimit p).isNone) (fun h => h.loadCtl v)) (exec_hostLoadGo p v) hw

end

section

variable {h : Hub}

/-! ## Rails (R468) -/

theorem Hub.otpLoaded_again (loaded : h.boot.loaded = true) (bad : List (Nat × Nat)) : h.otpLoaded bad = h :=
  Hub.when_neg (by rw [loaded]; decide)

theorem Hub.otpLoaded_good (first : h.boot.loaded = false) : h.otpLoaded [] =
    (({ h with boot := { h.boot with loaded := true, bad := [] } } : Hub).each ports (fun n g => g.calStart n)).railStart.powerPorts :=
  Hub.when_pos first

/-- The hub once rail `r` is good. -/
def Hub.withGood (h : Hub) (r : Nat) : Hub := { h with boot := { h.boot with good := setBit h.boot.good r } }

theorem Hub.railGood_due {r t : Nat} (enabled : bitOf h.boot.regEn r = true) (new : bitOf h.boot.good r = false)
    (since : h.boot.railAt = some t) (due : t + 20000 ≤ h.time.tick) : h.railGood r =
      if (h.withGood r).boot.good = 15 then (h.withGood r).romStart
      else if h.strap 6 then h.withGood r else (h.withGood r).regEnOn [r + 1] := by
  have premise : bitOf h.boot.regEn r = true ∧ ¬ bitOf h.boot.good r = true ∧ h.due (h.boot.railAt.map (· + 20000)) = true := by
    rw [since]
    exact ⟨enabled, Bool.eq_false_iff.mp new, Hub.due_iff.mpr due⟩
  exact Hub.when_pos premise

/-- Emitting along a list appends to what went out, and nothing else. -/
theorem Hub.foldl_emit {α : Type} (f : α → Out) (l : List α) (h : Hub) :
    l.foldl (fun g r => g.emit (f r)) h = { h with out := h.out ++ l.map f } := by
  induction l generalizing h with
  | nil => rw [List.map_nil, List.append_nil]; rfl
  | cons r l ih => rw [List.foldl_cons, ih, List.map_cons, ← List.singleton_append, ← List.append_assoc]; rfl

/-- The hub with its rails off; until the third attempt the next follows a second later (R468). -/
theorem Hub.railTimeout_due {t : Nat} (since : h.boot.railAt = some t) (sequenced : h.strap 6 = false) (due : t + 2000000 ≤ h.time.tick) :
    h.railTimeout = { h with
      out := h.out ++ ([3, 2, 1, 0].filter (fun r => bitOf h.boot.regEn r)).map (fun r => Out.pin (.regEn r) false)
      boot := { h.boot with
        regEn := 0
        good := 0
        railAt := none
        tries := h.boot.tries + 1
        retryAt := if h.boot.tries + 1 < 3 then some (h.time.tick + 200000000) else none } } := by
  have premise : h.due (h.boot.railAt.map (· + if h.strap 6 then 600000 else 2000000)) = true := by
    rw [since, sequenced]
    exact Hub.due_iff.mpr due
  rw [Hub.railTimeout, Hub.when_pos premise]
  simp only [Hub.foldl_emit]
  rfl

theorem Hub.railRetry_due {t : Nat} (at_ : h.boot.retryAt = some t) (due : t ≤ h.time.tick) :
    h.railRetry = ({ h with boot := { h.boot with retryAt := none } } : Hub).railStart :=
  Hub.when_pos (by rw [at_]; exact Hub.due_iff.mpr due)

/-! ## Boot images (R471, R472) -/

/-- The slots in the order in which the ROM tries them: the higher SVN first, slot A on a tie. -/
def slotOrder (a b : Bytes) : List (Nat × Bytes) := if le32 a 0x10 < le32 b 0x10 then [(1, b), (0, a)] else [(0, a), (1, b)]

theorem Hub.bootVerify_found {a b : Bytes} {e : Nat × Bytes} (verify : h.boot.rom = .verify)
    (found : (slotOrder a b).find? (fun e => h.imgOk e.2) = some e) : h.bootVerify a b = h.startImage e.2 e.1 0 := by
  rw [Hub.bootVerify, Hub.when_pos verify]
  simp only [slotOrder] at found
  simp only [found]

theorem Hub.bootVerify_none {a b : Bytes} (verify : h.boot.rom = .verify) (badA : h.imgOk a = false) (badB : h.imgOk b = false) :
    h.bootVerify a b = if h.strap 1 ∧ ¬ h.strap 2 ∧ ¬ h.strap 5 then { h with boot := { h.boot with rom := .hostLoad, load := [] } }
      else { h with boot := { h.boot with rom := .flashWait, flashAt := some (h.now + 200000000) } } := by
  have found : (slotOrder a b).find? (fun e => h.imgOk e.2) = none := by
    unfold slotOrder
    split
    all_goals simp only [List.find?_cons, badA, badB, List.find?_nil]
  rw [Hub.bootVerify, Hub.when_pos verify]
  simp only [slotOrder] at found
  simp only [found]

theorem slotOrder_b {a b : Bytes} (higher : le32 a 0x10 < le32 b 0x10) : slotOrder a b = [(1, b), (0, a)] := if_pos higher

theorem slotOrder_a {a b : Bytes} (higher : le32 b 0x10 ≤ le32 a 0x10) : slotOrder a b = [(0, a), (1, b)] :=
  if_neg (Nat.not_lt.mpr higher)

/-- An image whose SVN is below the rollback count is not acceptable (R471). -/
theorem Hub.imgOk_rolledBack {b : Bytes} (older : popCount 64 (h.otpItem 10) > le32 b 0x10) : h.imgOk b = false := by
  have count : decide (popCount 64 (h.otpItem 10) ≤ le32 b 0x10) = false := decide_eq_false (Nat.not_le.mpr older)
  rw [Hub.imgOk, count, Bool.and_false, Bool.false_and]

theorem Hub.flashRetry_due {t : Nat} (waits : h.boot.rom = .flashWait) (at_ : h.boot.flashAt = some t) (due : t ≤ h.time.tick) :
    h.flashRetry = { h with boot := { h.boot with rom := .verify, flashAt := none } } :=
  Hub.when_pos ⟨waits, by rw [at_]; exact Hub.due_iff.mpr due⟩

theorem Hub.loadData_taken (loads : h.boot.rom = .hostLoad) (room : h.boot.load.length ≤ 459004) (v : Word) :
    h.loadData v = { h with boot := { h.boot with load := h.boot.load ++ leBytes 4 v.toNat } } := Hub.when_pos ⟨loads, by omega⟩

theorem Hub.wr_boot (h : Hub) (a : Nat) (v : Word) (skip : List Nat) : (h.wr a v skip).boot = h.boot := by
  unfold Hub.wr
  split
  · rfl
  · rfl

theorem Hub.loadCtl_go {v : Word} {g : Hub} (written : g = h.wr (F.GLB_LOADCTL_GO.addr 0 0) v) (loads : h.boot.rom = .hostLoad)
    (go : v.bits 31 1 = 1) : h.loadCtl v = if g.imgOk h.boot.load then g.startImage h.boot.load 0 1
      else ({ g with boot := { g.boot with load := [] } } : Hub).raise F.GLB_LOADCTL_ERR 1 := by
  have same : g.boot = h.boot := written ▸ Hub.wr_boot h _ v _
  rw [← same] at loads ⊢
  rw [Hub.loadCtl]
  simp only [← written]
  exact Hub.when_pos ⟨go, loads⟩

end

/-- Settles O57: each clause by the lemma about the rail, the slots or the load that it names. The calibration started at the end of the
OTP load is the model's choice of log entry 42, the rails and STRAP_REGSEQ those of entry 47. -/
theorem bootCommands : Obligations.BootCommands := by
  refine ⟨fun h ha => ⟨?_, ?_, ?_, ?_, ?_⟩, fun h ha => ⟨?_, ?_, ?_, ?_, ?_⟩, fun h =>
    ⟨fun ha => ⟨does_otpLoadComplete ha, does_railInRange ha, does_railTimeout ha, does_railRetry ha, does_bootSlotVerify ha,
      does_flashRetry ha⟩, fun ha hw => ⟨does_hostLoadData ha hw, does_hostLoadGo ha hw⟩⟩⟩
  · exact fun bad loaded => (does_otpLoadComplete ha bad).of_eq (Hub.otpLoaded_again loaded bad)
  · exact fun first => (does_otpLoadComplete ha []).of_eq (Hub.otpLoaded_good first)
  · intro r t enabled new since due g
    have does := (does_railInRange ha r).of_eq (Hub.railGood_due enabled new since due)
    refine ⟨fun all => does.of_eq (if_pos all), fun more parallel => does.of_eq ((if_neg more).trans (if_pos parallel)),
      fun more sequenced => does.of_eq ((if_neg more).trans ((if_neg (Bool.eq_false_iff.mp sequenced)).trans rfl))⟩
  · intro t since sequenced due
    refine ⟨_, (does_railTimeout ha).of_eq (Hub.railTimeout_due since sequenced due), rfl, rfl, rfl, rfl, fun few => if_pos (by omega),
      fun third => if_neg (by omega), rfl⟩
  · exact fun t at_ due => (does_railRetry ha).of_eq (Hub.railRetry_due at_ due)
  · intro a b verify
    have does {e : Nat × Bytes} (found : (slotOrder a b).find? (fun e => h.imgOk e.2) = some e) :
        Does (.bootSlotVerify a b) h (h.startImage e.2 e.1 0) := (does_bootSlotVerify ha a b).of_eq (Hub.bootVerify_found verify found)
    have none_ (badA : h.imgOk a = false) (badB : h.imgOk b = false) :=
      (does_bootSlotVerify ha a b).of_eq (Hub.bootVerify_none verify badA badB)
    refine ⟨fun higher okB => ?_, fun higher badB okA => ?_, fun higher okA => ?_, fun higher badA okB => ?_, fun badA badB flash => ?_,
      fun badA badB strap1 strap2 strap5 => ?_⟩
    · exact does (e := (1, b)) (by simp only [slotOrder_b higher, List.find?_cons, okB])
    · exact does (e := (0, a)) (by simp only [slotOrder_b higher, List.find?_cons, badB, okA])
    · exact does (e := (0, a)) (by simp only [slotOrder_a higher, List.find?_cons, okA])
    · exact does (e := (1, b)) (by simp only [slotOrder_a higher, List.find?_cons, badA, okB])
    · exact (none_ badA badB).of_eq (if_neg fun host => Bool.eq_false_iff.mp flash host.1)
    · exact (none_ badA badB).of_eq (if_pos ⟨strap1, Bool.eq_false_iff.mp strap2, Bool.eq_false_iff.mp strap5⟩)
  · exact fun b older => Hub.imgOk_rolledBack older
  · exact fun t waits at_ due => (does_flashRetry ha).of_eq (Hub.flashRetry_due waits at_ due)
  · exact fun hw p v free loads room =>
      (does_hostLoadData ha hw p v).of_eq ((Hub.when_noLimit free _).trans (Hub.loadData_taken loads room v))
  · intro hw p v free loads go g
    have does := (does_hostLoadGo ha hw p v).of_eq ((Hub.when_noLimit free _).trans (Hub.loadCtl_go (g := g) rfl loads go))
    exact ⟨fun ok => does.of_eq (if_pos ok), fun bad => does.of_eq (if_neg (Bool.eq_false_iff.mp bad))⟩

end Sys2Proof.Machine
end

section
/-! Configuration images and their records (R473 to R475). -/

namespace Sys2Proof.Machine

/-! ## The commands -/

section

variable {h : Hub} (ha : h.awake) (straps : BitVec 8)

include ha

theorem doesOtp_configImageApply (img : List (BitVec 8)) (o : Otp) :
    DoesOtp (.configImageApply img straps) h o (h.cfgImage { otp := o.bits, straps := straps.toNat } img) :=
  doesOtp_of_runO ha (f := fun otp h => h.cfgImage { otp := otp, straps := straps.toNat } img) (exec_configImageApply img straps) o

theorem doesOtp_joinSectionApply (o : Otp) :
    DoesOtp (.joinSectionApply straps) h o (h.cfgJoin { otp := o.bits, straps := straps.toNat }) :=
  doesOtp_of_runO ha (f := fun otp h => h.cfgJoin { otp := otp, straps := straps.toNat }) (exec_joinSectionApply straps) o

theorem doesOtp_configWaitEnd (o : Otp) :
    DoesOtp (.configWaitEnd straps) h o (h.cfgWaitEnd { otp := o.bits, straps := straps.toNat }) :=
  doesOtp_of_runO ha (f := fun otp h => h.cfgWaitEnd { otp := otp, straps := straps.toNat }) (exec_configWaitEnd straps) o

theorem doesRead_configPoll (st : Hub) (o : Otp) :
    DoesRead (.configPoll straps) st h o (st.cfgPoll h { otp := o.bits, straps := straps.toNat }) :=
  doesRead_of_runS ha (f := fun otp st h => st.cfgPoll h { otp := otp, straps := straps.toNat }) (exec_configPoll straps) st o

end

theorem DoesRead.of_eq {c : Instr} {st h : Hub} {o : Otp} {r k : Hub × Hub} (does : DoesRead c st h o r) (e : r = k) :
    DoesRead c st h o k := e ▸ does

section

variable {h : Hub} {e : Env}

/-! ## When an image, a section, a wait or a poll goes on -/

/-- The hub with its one image of the boot taken. -/
def Hub.cfgTaken (h : Hub) : Hub := { h with boot := { h.boot with cfg := true } }

section

variable {img : Bytes} (running : h.boot.rom = .running) (firmware : h.get F.MGMT_STAT_RUNNING = 1) (strap4 : h.strap 4 = false)
  (first : h.boot.cfg = false)

include running firmware strap4 first

theorem Hub.cfgImage_taken : h.cfgImage e img = if h.cfgTaken.cfgOk img then
      let g : Hub := { h.cfgTaken with boot := { h.cfgTaken.boot with todo := bootSections img, join := joinSections img } }
      (if g.flag F.TIME_CTL_SUMMIT then g.joinOwn else g).cfgRun e
    else h.cfgTaken :=
  Hub.when_pos ⟨running, Hub.flag_one firmware, Bool.eq_false_iff.mp strap4, first⟩

theorem Hub.cfgImage_bad (bad : h.cfgTaken.cfgOk img = false) : h.cfgImage e img = h.cfgTaken :=
  (Hub.cfgImage_taken running firmware strap4 first).trans (if_neg (Bool.eq_false_iff.mp bad))

/-- Below the summit an accepted image applies its BOOT sections, and keeps its JOIN sections (R474). -/
theorem Hub.cfgImage_boots (ok : h.cfgTaken.cfgOk img = true) (below : h.get F.TIME_CTL_SUMMIT = 0) : h.cfgImage e img =
    ({ h with boot := { h.boot with cfg := true, todo := bootSections img, join := joinSections img } } : Hub).cfgRun e := by
  refine (Hub.cfgImage_taken running firmware strap4 first).trans ((if_pos ok).trans ?_)
  exact congrArg (Hub.cfgRun · e) (if_neg (Bool.eq_false_iff.mp (Hub.flag_zero below)))

end

theorem Hub.cfgJoin_joined (joined : h.get F.FAB_SITE_JOINED = 1) (valid : h.get F.FAB_ID_VALID = 1)
    (named : h.boot.join.any (fun j => j.1 == h.get F.FAB_ID_HUBID) = true) : h.cfgJoin e = h.joinOwn.cfgRun e :=
  Hub.when_pos ⟨Hub.flag_one joined, Hub.flag_one valid, named⟩

theorem Hub.cfgWaitEnd_due {r : CfgRun} {t : Nat} (running : h.boot.run_ = some r) (waits : r.waitAt = some t) (due : t ≤ h.time.tick) :
    h.cfgWaitEnd e = (h.setCfg (some { r with waitAt := none })).cfgRun e := by
  rw [Hub.cfgWaitEnd, running]
  exact Hub.when_pos (by rw [waits]; exact Hub.due_iff.mpr due)

/-- A poll reads its register; then its condition is met, its time is up, or it waits on. -/
theorem Hub.cfgPoll_reads {st k g : Hub} {r : CfgRun} {a m v last : Nat} (running : h.boot.run_ = some r)
    (polls : r.poll = some (a, m, v, last)) (reads : st.readEffect h .mgmt a = (k, g)) : st.cfgPoll h e =
      (k, if (st.view .mgmt a).toNat &&& m = v then (g.setCfg (some { r with poll := none })).cfgRun e
          else if last ≤ h.time.tick then g.cfgStop.cfgRun e else g) := by
  simp only [Hub.cfgPoll, running, polls, reads]
  rfl

/-! ## Records (R475) -/

/-- The kind and the argument of a record's first word. -/
theorem record_parts (kind : Nat) {arg : Nat} (fits : arg < 2 ^ 28) :
    (kind * 2 ^ 28 + arg) / 2 ^ 28 = kind ∧ (kind * 2 ^ 28 + arg) % 2 ^ 28 = arg := by
  omega

theorem Hub.cfgRecord_write {a : Nat} {ds : List Nat} (fits : ds.length < 2 ^ 28) {g : Hub}
    (written : h.writeRun e .mgmt a (ds.map (BitVec.ofNat 32)) = (g, true)) :
    h.cfgRecord e { words := (2 ^ 28 + ds.length) :: a :: ds } = g.setCfg (some { words := [] }) := by
  have parts := record_parts 1 fits
  rw [Nat.one_mul] at parts
  simp only [Hub.cfgRecord, parts, Nat.lt_irrefl, if_false, List.take_length, List.drop_length, written, if_true]

theorem Hub.cfgRecord_fill {a n v : Nat} (rest : List Nat) (most : n ≤ 524288) {g : Hub}
    (written : h.writeRun e .mgmt a (List.replicate n (BitVec.ofNat 32 v)) = (g, true)) :
    h.cfgRecord e { words := (2 * 2 ^ 28 + n) :: a :: v :: rest } = g.setCfg (some { words := rest }) := by
  simp only [Hub.cfgRecord, record_parts 2 (show n < 2 ^ 28 by omega), Nat.min_eq_left most, written, if_true]

theorem Hub.cfgRecord_wait {n : Nat} (rest : List Nat) (fits : n < 2 ^ 28) :
    h.cfgRecord e { words := (3 * 2 ^ 28 + n) :: rest } = h.setCfg (some { words := rest, waitAt := some (h.time.tick + n) }) := by
  simp only [Hub.cfgRecord, record_parts 3 fits]
  rfl

theorem Hub.cfgRecord_end (rest : List Nat) : h.cfgRecord e { words := (15 * 2 ^ 28) :: rest } = h.setCfg none := rfl

/-- A record of no defined kind stops its section (R475). -/
theorem Hub.cfgRecord_undefined (rest : List Nat) : h.cfgRecord e { words := (5 * 2 ^ 28) :: rest } = h.cfgStop := rfl

end

/-- Settles O31: each clause by the lemma about the image, the pause or the record that it names. That an image is taken once a boot, that
one not accepted applies nothing, and that FILL is bounded by 524,288 words are the model's choices of log entry 48. -/
theorem configCommands : Obligations.ConfigCommands := by
  refine ⟨fun h ha o straps => ⟨?_, ?_, ?_, ?_, ?_⟩, fun h e => ⟨fun a ds fits g written => Hub.cfgRecord_write fits written,
    fun a n v rest most g written => Hub.cfgRecord_fill rest most written, fun n rest fits => Hub.cfgRecord_wait rest fits,
    fun rest => Hub.cfgRecord_end rest, fun rest => Hub.cfgRecord_undefined rest⟩,
    fun h ha => ⟨fun img straps => doesOtp_configImageApply ha straps img, doesOtp_joinSectionApply ha, doesOtp_configWaitEnd ha,
      doesRead_configPoll ha⟩⟩
  · exact fun img running firmware strap4 first bad =>
      (doesOtp_configImageApply ha straps img o).of_eq (Hub.cfgImage_bad running firmware strap4 first bad)
  · exact fun img running firmware strap4 first ok below =>
      (doesOtp_configImageApply ha straps img o).of_eq (Hub.cfgImage_boots running firmware strap4 first ok below)
  · exact fun joined valid named => (doesOtp_joinSectionApply ha straps o).of_eq (Hub.cfgJoin_joined joined valid named)
  · exact fun r t running waits due => (doesOtp_configWaitEnd ha straps o).of_eq (Hub.cfgWaitEnd_due running waits due)
  · intro st r a m v last running polls k g reads
    have does := (doesRead_configPoll ha straps st o).of_eq (Hub.cfgPoll_reads running polls reads)
    refine ⟨fun met => does.of_eq ?_, fun unmet late => does.of_eq ?_, fun unmet early => does.of_eq ?_⟩
    · rw [if_pos met]
    · rw [if_neg unmet, if_pos late, Hub.cfgStop]
    · rw [if_neg unmet, if_neg (Nat.not_le.mpr early)]

end Sys2Proof.Machine
end

section
/-! Block windows: enabling, closing and BAR4 (R296 to R300, R309). -/

namespace Sys2Proof.Machine

/-! ## The commands -/

section

variable {h : Hub}

section

variable (ha : h.awake) (hw : h.led.wiped = false) (p : Path) (w : WindowId) (v : Word)

include ha hw

theorem does_windowEnable : Does (.windowEnable p w v) h (h.windowEnable p w v) :=
  does_of_runW ha (·.windowEnable p w v) (exec_windowEnable p w v) hw

theorem does_windowClose : Does (.windowClose p w v) h (h.windowClose p w v) :=
  does_of_runW ha (·.windowClose p w v) (exec_windowClose p w v) hw

end

section

variable (hl : h.live)

include hl

theorem does_windowCloseEnd (w : WindowId) : Does (.windowCloseEnd w) h (h.windowCloseEnd w) :=
  does_of_runLive hl (·.windowCloseEnd w) (exec_windowCloseEnd w)

theorem does_bar4Write (a : Nat) (bytes : List (BitVec 8)) : Does (.bar4Write a bytes) h (h.bar4Write a bytes) :=
  does_of_runLive hl (·.bar4Write a bytes) (exec_bar4Write a bytes)

theorem does_bar4Read (id a : Nat) (len : Fin 4097) : Does (.bar4Read id a len) h (h.bar4Read id a len) :=
  does_of_runLive hl (·.bar4Read id a len) (exec_bar4Read id a len)

end

end

/-! ## Writes of BLK_WCTL (R297, R309) -/

section

variable {h : Hub} {w : Nat} {v : Word}

/-- The path of the host has every right. -/
theorem Hub.winRight_pcie : h.winRight .pcie w = true := rfl

theorem Hub.windowEnable_noRight {p : Path} (foreign : h.winRight p w = false) : h.windowEnable p w v = h :=
  Hub.when_neg fun both => Bool.eq_false_iff.mp foreign both.2

theorem Hub.windowClose_noRight {p : Path} (foreign : h.winRight p w = false) : h.windowClose p w v = h :=
  Hub.when_neg fun both => Bool.eq_false_iff.mp foreign both.2

/-- An IDLE window takes INEN, LOG2SZ and TUN, and then opens or shows the first condition that it breaks (R297). -/
theorem Hub.windowEnable_idle (idle : h.get F.BLK_WCTL_STATE w = 0) (enable : v.bits 31 1 = 1) (least : 12 ≤ v.bits 16 6)
    (most : v.bits 16 6 ≤ 36) {g : Hub}
    (taken : g = ((h.set F.BLK_WCTL_INEN (v.bits 15 1) w).set F.BLK_WCTL_LOG2SZ (v.bits 16 6) w).set F.BLK_WCTL_TUN (v.bits 0 12) w) :
    h.windowEnable .pcie w v = if g.winCheck w ≠ 0 then g.set F.BLK_WCTL_ERRCODE (g.winCheck w) w
      else ((g.set F.BLK_WCTL_EN 1 w).set F.BLK_WCTL_STATE 1 w).setWin w { g.win w with pollAt := g.now } := by
  have idle' : h.wState w = wIDLE := idle
  have inside : (decide (12 ≤ v.bits 16 6) && decide (v.bits 16 6 ≤ 36)) = true := by
    rw [decide_eq_true least, decide_eq_true most, Bool.true_and]
  have s0 : (h.pathSlice .pcie == 0) = true := rfl
  rw [Hub.windowEnable, Hub.when_pos ⟨enable, Hub.winRight_pcie⟩, Hub.wctl]
  simp only [s0, idle', inside, enable, and_self, if_true, Bool.not_true, Bool.and_false, Bool.false_eq_true, if_false, ne_eq,
    not_true_eq_false, ← taken]
  rfl

/-- A window that is open closes, unless a running ring names it (R309). -/
theorem Hub.windowClose_open (isOpen : h.get F.BLK_WCTL_STATE w = 1 ∨ h.get F.BLK_WCTL_STATE w = 2 ∨ h.get F.BLK_WCTL_STATE w = 3)
    (disable : v.bits 31 1 = 0) {g : Hub} (taken : g = h.set F.BLK_WCTL_INEN (v.bits 15 1) w) :
    h.windowClose .pcie w v = if g.remoteOn w then g.set F.BLK_WCTL_ERRCODE 8 w
      else (g.set F.BLK_WCTL_EN 0 w).set F.BLK_WCTL_STATE 4 w := by
  have notIdle : ¬ (h.wState w = wIDLE ∧ (h.pathSlice .pcie == 0) = true) := by
    rintro ⟨idle, -⟩
    have : h.get F.BLK_WCTL_STATE w = 0 := idle
    omega
  have closes : h.wState w = wRUN ∨ h.wState w = wBACKOFF ∨ h.wState w = wERROR := isOpen
  rw [Hub.windowClose, Hub.when_pos ⟨disable, Hub.winRight_pcie⟩, Hub.wctl]
  simp only [if_neg notIdle, disable, zero_ne_one, if_false, if_pos closes, ← taken]
  rfl

theorem Hub.windowCloseEnd_empty (closing : h.get F.BLK_WCTL_STATE w = 4) (wait : (h.win w).wait = []) (sent : (h.win w).sent = []) :
    h.windowCloseEnd w = (h.set F.BLK_WCTL_STATE 0 w).setWin w
      { next := (h.win w).next, inq := (h.win w).inq, ans := (h.win w).ans, goback := (h.win w).goback, polled := (h.win w).polled } := by
  rw [Hub.windowCloseEnd]
  exact Hub.when_pos ⟨closing, wait, sent⟩

theorem Hub.windowCloseEnd_other (other : h.get F.BLK_WCTL_STATE w ≠ 4) : h.windowCloseEnd w = h := by
  rw [Hub.windowCloseEnd]
  exact Hub.when_neg fun premise => other premise.1

/-! ## BAR4 (R298 to R300) -/

/-- A range that is not empty and crosses no multiple of the piece size is one piece. -/
theorem cutAt_one {m a n : Nat} (some_ : 0 < n) (inside : a % m + n ≤ m) (k : Nat) : cutAt m (k + 2) a n = [(a, n)] := by
  have least : min n (m - a % m) = n := Nat.min_eq_left (by omega)
  rw [cutAt, least, if_neg (Nat.pos_iff_ne_zero.mp some_), Nat.sub_self, cutAt]
  rfl

theorem pagesOf_one {a n : Nat} (some_ : 0 < n) (inside : a % 4096 + n ≤ 4096) : pagesOf a n = [(a, n)] :=
  cutAt_one some_ inside _

theorem Hub.bar4Write_unmapped {a : Nat} (unmapped : h.winAt a = none) (b : Bytes) : h.bar4Write a b = h.bump F.BLK_CNT_B4UNMAP := by
  rw [Hub.bar4Write, unmapped]

theorem Hub.bar4Read_unmapped {a : Nat} (unmapped : h.winAt a = none) (id n : Nat) :
    h.bar4Read id a n = (h.bump F.BLK_CNT_B4UNMAP).emit (.bar4Ur id) := by
  rw [Hub.bar4Read, unmapped]

section

variable {a : Nat} (mapped : h.winAt a = some w) (alive : h.bar4Dead w = none)

include mapped alive

theorem Hub.bar4Write_page {b : Bytes} (page : (h.wBase w + (a - h.wOff w)) % 4096 + b.length ≤ 4096) (some_ : 0 < b.length)
    (room : h.holdUse + (b.length + 255) / 256 ≤ 4096) : h.bar4Write a b = h.winWrite w (a - h.wOff w) b .bar4Write := by
  simp only [Hub.bar4Write, mapped, alive, pagesOf_one some_ page, List.foldl_cons, List.foldl_nil, Nat.zero_add]
  exact Hub.when_pos room

theorem Hub.bar4Read_page {id n : Nat} (some_ : 0 < n) (page : (h.wBase w + (a - h.wOff w)) % 4096 + n ≤ 4096) : h.bar4Read id a n =
    ({ h with hif := { h.hif with bar4 := h.hif.bar4 ++ [{ id := id, addr := a, len := n }] } } : Hub).enq w
      { num := 0, wr := false, addr := h.wBase w + (a - h.wOff w), len := n, use := .bar4 id 0 } := by
  simp only [Hub.bar4Read, mapped, alive, pagesOf_one some_ page, List.foldl_cons, List.foldl_nil, Nat.sub_self]

end

end

/-- Settles O36: each clause by the lemma about the write of BLK_WCTL, the end of a closing or the BAR4 access that it names. That the end
of a closing changes nothing in another state is the model's choice (log entry 2). -/
theorem windowCommands : Obligations.WindowCommands := by
  refine ⟨fun h w => ⟨?_, ?_, ?_, ?_, ?_, ?_, ?_⟩, fun h => ⟨fun ha hw => ⟨does_windowEnable ha hw, does_windowClose ha hw⟩,
    fun hl => ⟨does_windowCloseEnd hl, does_bar4Write hl, does_bar4Read hl⟩⟩⟩
  · exact fun ha hw p v foreign => ⟨(does_windowEnable ha hw p w v).of_eq (Hub.windowEnable_noRight foreign),
      (does_windowClose ha hw p w v).of_eq (Hub.windowClose_noRight foreign)⟩
  · intro ha hw v g idle enable least most taken
    have does := (does_windowEnable ha hw .pcie w v).of_eq (Hub.windowEnable_idle idle enable least most taken)
    subst taken
    exact ⟨fun broken => does.of_eq (if_pos broken), fun ok => does.of_eq (if_neg (not_not_intro ok))⟩
  · intro ha hw v g isOpen disable taken
    have does := (does_windowClose ha hw .pcie w v).of_eq (Hub.windowClose_open isOpen disable taken)
    exact ⟨fun named => does.of_eq (if_pos named), fun free => does.of_eq (if_neg (Bool.eq_false_iff.mp free))⟩
  · exact fun hl closing wait sent => (does_windowCloseEnd hl w).of_eq (Hub.windowCloseEnd_empty closing wait sent)
  · exact fun hl other => (does_windowCloseEnd hl w).of_eq (Hub.windowCloseEnd_other other)
  · exact fun hl a unmapped => ⟨fun b => (does_bar4Write hl a b).of_eq (Hub.bar4Write_unmapped unmapped b),
      fun id n => (does_bar4Read hl id a n).of_eq (Hub.bar4Read_unmapped unmapped id n)⟩
  · exact fun hl a mapped alive => ⟨fun b page some_ room =>
        (does_bar4Write hl a b).of_eq (Hub.bar4Write_page mapped alive page some_ room),
      fun id n some_ page => (does_bar4Read hl id a n).of_eq (Hub.bar4Read_page mapped alive some_ page)⟩

end Sys2Proof.Machine
end

section
/-! Block windows: the requester (R301 to R303, R306 to R308, R310). -/

namespace Sys2Proof.Machine

/-! ## The commands -/

section

variable {h : Hub} (hl : h.live)

include hl

theorem does_blockCompletionReceive : Does .blockCompletionReceive h h.blkCompletion :=
  does_of_runLive hl Hub.blkCompletion exec_blockCompletionReceive

theorem does_busyReceive : Does .busyReceive h h.busyReceive := does_of_runLive hl Hub.busyReceive exec_busyReceive

theorem does_lateTagFree : Does .lateTagFree h h.lateFree := does_of_runLive hl Hub.lateFree exec_lateTagFree

variable (w : WindowId)

theorem does_rdSend : Does (.rdSend w) h (h.rdSend w) := does_of_runLive hl (·.rdSend w) (exec_rdSend w)

theorem does_syncRead : Does (.syncRead w) h (h.syncRead w) := does_of_runLive hl (·.syncRead w) (exec_syncRead w)

theorem does_backoffExpiry : Does (.backoffExpiry w) h (h.backoffExpiry w) :=
  does_of_runLive hl (·.backoffExpiry w) (exec_backoffExpiry w)

theorem does_episodeQuietEnd : Does (.episodeQuietEnd w) h (h.quietEnd w) := does_of_runLive hl (·.quietEnd w) (exec_episodeQuietEnd w)

theorem does_readTimeout : Does (.readTimeout w) h (h.readTimeout w) := does_of_runLive hl (·.readTimeout w) (exec_readTimeout w)

theorem does_pollSend : Does (.pollSend w) h (h.pollSend w) := does_of_runLive hl (·.pollSend w) (exec_pollSend w)

end

section

variable {h k : Hub} {w : Nat} {r : BlkReq}

/-! ## Tags and SYNC reads (R301, R303) -/

theorem Hub.rdSend_free (free : h.freeTag.isSome = true) :
    h.rdSend w = h.setWin w { h.win w with wait := (h.win w).wait.map (fun r => { r with noTag := false }) } := by
  rw [Hub.rdSend]
  exact Hub.when_pos free

theorem Hub.rdSend_none (none_ : h.freeTag = none) : h.rdSend w = h := by
  rw [Hub.rdSend]
  exact Hub.when_neg (by rw [none_]; decide)

/-- The only WR held is covered by a read once SYNCTH is reached, or the window closes (R303, R309). -/
theorem Hub.syncRead_one (sent : (h.win w).sent = [r]) (write : r.wr = true) (out : r.sentAt.isSome = true) (wait : (h.win w).wait = [])
    (asked : 1024 * h.get F.BLK_CFG1_SYNCTH ≤ r.len ∨ h.get F.BLK_WCTL_STATE w = 4) :
    h.syncRead w = h.enq w { num := 0, wr := false, addr := r.addr + r.len - 1, len := 1, use := .sync } := by
  have uncovered : syncCovered [r] = false := by
    rw [syncCovered, List.any_nil, write]
    rfl
  simp only [Hub.syncRead, sent, wait, List.append_nil, List.filter_cons, out, write, if_true, List.filter_nil, List.foldl_cons,
    List.foldl_nil, Nat.zero_add, List.getLast?_singleton, List.any_nil, uncovered]
  exact Hub.when_pos ⟨by decide, by decide, asked.imp_right .inr⟩

/-! ## Completions and timeouts (R302, R307) -/

section

variable {f : Frm} (oldest : h.takeMsg (fun f => f.isBop bopCPLD || f.isBop bopCPL) = some (f, k))

include oldest

/-- A completion that no read of its window waits for frees a late tag at most (R307). -/
theorem Hub.blkCompletion_late (sent : (k.win (k.blkWin f)).sent = []) : h.blkCompletion =
    { k with hif := { k.hif with late := k.hif.late.filter (fun p => p.1 ≠ f.at_ 1 1) } } := by
  simp only [Hub.blkCompletion, oldest, sent, List.findIdx?_nil]

theorem Hub.blkCompletion_data (sent : (k.win (k.blkWin f)).sent = [r]) (read : r.wr = false) (tag : r.tag = some (f.at_ 1 1))
    (calm : (k.win (k.blkWin f)).epi = none) (data : f.isBop bopCPLD = true) : h.blkCompletion =
    (k.setWin (k.blkWin f) { k.win (k.blkWin f) with sent := [], timeouts := 0 }).rdDone (k.blkWin f) r
      (.data (sub f.data 16 (f.hdr.plen - 16))) := by
  have found : [r].findIdx? (fun r => !r.wr && r.tag == some (f.at_ 1 1)) = some 0 := by
    rw [List.findIdx?_cons, read, tag, beq_self_eq_true]
    rfl
  simp only [Hub.blkCompletion, oldest, sent, found, List.getElem?_cons_zero, List.take_zero, List.filter_nil, List.nil_append,
    Nat.zero_add, List.drop_one, List.tail_cons, calm, Option.isSome_none, Bool.false_eq_true, false_and, if_false, data, if_true]

end

/-- Before the third in a row, a timed-out read keeps its tag a while longer and ends (R307). -/
theorem Hub.readTimeout_one {t g : Nat} (sent : (h.win w).sent = [r]) (wait : (h.win w).wait = []) (read : r.wr = false)
    (sentAt : r.sentAt = some t) (tag : r.tag = some g) (due : t + 1000 * h.get F.BLK_CFG_RDTMO ≤ h.time.tick)
    (few : (h.win w).timeouts < 2) : h.readTimeout w =
      (let k := h.setWin w { h.win w with sent := [], timeouts := (h.win w).timeouts + 1 }
       (({ k with hif := { k.hif with late := k.hif.late ++ [(g, h.time.tick + 1000 * h.get F.BLK_CFG_RDTMO)] } }).bump
         F.BLK_WCNT1_TIMEOUT w).rdDone w r .timeout) := by
  have late : h.due (r.sentAt.map (· + 1000 * h.get F.BLK_CFG_RDTMO)) = true := by
    rw [sentAt]
    exact Hub.due_iff.mpr due
  have found : [r].find? (fun r => !r.wr && h.due (r.sentAt.map (· + 1000 * h.get F.BLK_CFG_RDTMO))) = some r :=
    List.find?_cons_of_pos (by rw [read, late]; rfl)
  simp only [Hub.readTimeout, sent, wait, List.append_nil, found, List.erase_cons_head, List.erase_nil, tag, Option.toList_some,
    List.map_cons, List.map_nil, if_neg (show ¬ 3 ≤ (h.win w).timeouts + 1 by omega)]
  rfl

/-! ## BUSY and backoff (R306) -/

/-- The first BUSY of an episode stops the window for BOFF. -/
theorem Hub.busyReceive_first {f : Frm} (oldest : h.takeMsg (fun f => f.isBop bopBUSY) = some (f, k))
    (sent : (k.win (k.blkWin f)).sent = [r]) (named : r.named (f.at_ 1 1) (f.at_ 8 8) = true) (calm : (k.win (k.blkWin f)).epi = none)
    (run : k.get F.BLK_WCTL_STATE (k.blkWin f) = 1) (more : 1 < k.get F.BLK_CFG_BUSYMAX) : h.busyReceive =
      (k.setWin (k.blkWin f) { k.win (k.blkWin f) with
        epi := some r.num
        busy := 1
        backAt := some (k.time.tick + 100 * k.get F.BLK_CFG_BOFF)
        quietAt := none }).set F.BLK_WCTL_STATE 2 (k.blkWin f) := by
  have found : [r].find? (fun r => r.named (f.at_ 1 1) (f.at_ 8 8)) = some r := List.find?_cons_of_pos named
  have wait : k.now + k.get F.BLK_CFG_BOFF * 100 * 2 ^ min (1 - 1) 6 = k.time.tick + 100 * k.get F.BLK_CFG_BOFF := by
    rw [Nat.mul_comm 100]
    exact congrArg (k.time.tick + ·) (Nat.mul_one _)
  have running (x : WinSt) : (k.setWin (k.blkWin f) x).wState (k.blkWin f) = wRUN := run
  have allowed (x : WinSt) :
      ¬ ((k.setWin (k.blkWin f) x).set F.BLK_WCTL_STATE wBACKOFF (k.blkWin f)).get F.BLK_CFG_BUSYMAX ≤ 1 := by
    rw [Hub.get_set_low, Hub.setWin_get]
    · exact Nat.not_le.mpr more
    · simp only [F.BLK_CFG_BUSYMAX, F.BLK_WCTL_STATE]; omega
  simp only [Hub.busyReceive, oldest, sent, found, calm, Option.any_none, Bool.false_eq_true, false_and, if_false, reduceCtorEq, wait,
    running, if_true, allowed]
  rfl

/-- After the backoff the only request sent is to be sent again. -/
theorem Hub.backoffExpiry_due {t : Nat} (backAt : (h.win w).backAt = some t) (due : t ≤ h.time.tick) (epi : (h.win w).epi = some r.num)
    (sent : (h.win w).sent = [r]) (backoff : h.get F.BLK_WCTL_STATE w = 2) : h.backoffExpiry w =
      (h.setWin w { h.win w with
        sent := []
        wait := { r with again := true } :: (h.win w).wait
        backAt := none
        quietAt := some (h.time.tick + 10 * h.get F.BLK_CFG_BOFF * 100 + 2000)
        mark := (h.win w).sendNo }).set F.BLK_WCTL_STATE 1 w := by
  have premise : h.due (h.win w).backAt = true := by
    rw [backAt]
    exact Hub.due_iff.mpr due
  have stopped (x : WinSt) : (h.setWin w x).wState w = wBACKOFF := backoff
  simp only [Hub.backoffExpiry, Hub.when_pos premise, epi, Option.getD_some, sent, List.filter_cons, Nat.le_refl, Nat.lt_irrefl,
    decide_true, decide_false, Bool.false_eq_true, if_true, if_false, List.filter_nil, List.map_cons, List.map_nil, List.singleton_append,
    stopped]
  rfl

theorem Hub.quietEnd_due {t : Nat} (quiet : (h.win w).quietAt = some t) (due : t ≤ h.time.tick) (noBackoff : (h.win w).backAt = none) :
    h.quietEnd w = h.setWin w { h.win w with epi := none, busy := 0, backAt := none, quietAt := none } :=
  Hub.when_pos ⟨by rw [quiet]; exact Hub.due_iff.mpr due, noBackoff⟩

/-! ## Polls (R310) -/

theorem Hub.pollSend_due (on : h.get F.BLK_POLLCFG_PEN w = 1) (run : h.get F.BLK_WCTL_STATE w = 1) (idle : (h.win w).polling = false)
    (due : (h.win w).pollAt + h.get F.BLK_POLLCFG_PINT w ≤ h.time.tick) : h.pollSend w =
      (h.setWin w { h.win w with polling := true }).enq w
        { num := 0, wr := false, addr := h.wBase w + h.get64 F.BLK_POLLOFF_LO_POLLOFF_LO F.BLK_POLLOFF_HI_POLLOFF_HI w, len := 4, use := .poll } := by
  rw [Hub.pollSend]
  exact Hub.when_pos ⟨Hub.flag_one on, .inl run, idle, due⟩

end

/-- Settles O37: each clause by the lemma about the request that it names. That STATE is RUN again from the resend on, and BACKOFF only
until then, is the model's choice (log entry 37). -/
theorem requesterCommands : Obligations.RequesterCommands := by
  refine ⟨fun h hl w => ⟨?_, ?_, ?_, ?_, ?_, ?_, does_lateTagFree hl, ?_, ?_, ?_, ?_⟩, fun h hl => ⟨does_rdSend hl,
    does_blockCompletionReceive hl, does_syncRead hl, does_busyReceive hl, does_backoffExpiry hl, does_episodeQuietEnd hl,
    does_readTimeout hl, does_lateTagFree hl, does_pollSend hl⟩⟩
  · exact fun free => (does_rdSend hl w).of_eq (Hub.rdSend_free free)
  · exact fun none_ => (does_rdSend hl w).of_eq (Hub.rdSend_none none_)
  · exact fun r sent write out wait asked => (does_syncRead hl w).of_eq (Hub.syncRead_one sent write out wait asked)
  · exact fun f k oldest sent => (does_blockCompletionReceive hl).of_eq (Hub.blkCompletion_late oldest sent)
  · exact fun f k r oldest sent read tag calm data =>
      (does_blockCompletionReceive hl).of_eq (Hub.blkCompletion_data oldest sent read tag calm data)
  · exact fun r t g sent wait read sentAt tag due few =>
      (does_readTimeout hl w).of_eq (Hub.readTimeout_one sent wait read sentAt tag due few)
  · exact fun f k r oldest sent named calm run more =>
      (does_busyReceive hl).of_eq (Hub.busyReceive_first oldest sent named calm run more)
  · exact fun r t backAt due epi sent backoff => (does_backoffExpiry hl w).of_eq (Hub.backoffExpiry_due backAt due epi sent backoff)
  · exact fun t quiet due noBackoff => (does_episodeQuietEnd hl w).of_eq (Hub.quietEnd_due quiet due noBackoff)
  · exact fun on run idle due => (does_pollSend hl w).of_eq (Hub.pollSend_due on run idle due)

end Sys2Proof.Machine
end

section
/-! Block windows: the completer (R304 to R306). -/

namespace Sys2Proof.Machine

/-! ## The commands -/

section

variable {h : Hub} (hl : h.live)

include hl

theorem does_inboundRequest : Does .inboundRequest h h.inbound := does_of_runLive hl Hub.inbound exec_inboundRequest

theorem does_inboundPcieIssue (w : WindowId) : Does (.inboundPcieIssue w) h (h.inIssue w) :=
  does_of_runLive hl (·.inIssue w) (exec_inboundPcieIssue w)

theorem does_inboundPcieCompletion (w : WindowId) (st : Fin 3) (bytes : List (BitVec 8)) :
    Does (.inboundPcieCompletion w st bytes) h (h.inCompletion w st bytes) :=
  does_of_runLive hl (·.inCompletion w st bytes) (exec_inboundPcieCompletion w st bytes)

end

/-! ## The checks of a request (R304, R305) -/

section

variable {h : Hub} {w : Nat} {q : InReq}

/-- A window that takes no inbound requests counts a write and answers a read with Unsupported Request. -/
theorem Hub.inCheck_off (off : h.get F.BLK_WCTL_INEN w = 0) :
    h.inCheck w q = if q.wr then h.bump F.BLK_CNT_INUNMAP else h.answer w q 3 1 [] :=
  if_pos (.inl (Bool.eq_false_iff.mp (Hub.flag_zero off)))

section

variable (on : h.get F.BLK_WCTL_INEN w = 1) (above : h.get64 F.BLK_IBASE_LO_BASE F.BLK_IBASE_HI_BASE w ≤ q.addr)
  (below : q.addr + q.len ≤ h.get64 F.BLK_IBASE_LO_BASE F.BLK_IBASE_HI_BASE w + 2 ^ h.get F.BLK_ISZ_ILOG2 w)

include on above below

theorem Hub.inCheck_inside : h.inCheck w q =
    if h.resetting (h.winOwner w) then h.refuseReq w q
    else if (h.win w).goback.isSome ∧ (h.win w).goback ≠ some (q.wr, q.addr, q.tag) then h.refuseReq w q
    else if inRoom (h.win w).inq q then h.setWin w { h.win w with goback := none, inq := (h.win w).inq ++ [q] }
    else (h.setWin w { h.win w with goback := none }).refuseReq w q := by
  refine if_neg ?_
  rintro (closed | low | high)
  · exact closed (Hub.flag_one on)
  · exact Nat.not_lt.mpr above low
  · exact Nat.not_lt.mpr below high

theorem Hub.inCheck_resetting (resets : h.get F.SLC_STAT_STATE (h.winOwner w) = 2) : h.inCheck w q = h.refuseReq w q :=
  (Hub.inCheck_inside on above below).trans (if_pos (beq_iff_eq.mpr resets))

/-- Where no go-back stands, the queue's room decides. -/
theorem Hub.inCheck_queue (runs : h.get F.SLC_STAT_STATE (h.winOwner w) ≠ 2) (noGoback : (h.win w).goback = none) : h.inCheck w q =
    if inRoom (h.win w).inq q then h.setWin w { h.win w with goback := none, inq := (h.win w).inq ++ [q] }
    else (h.setWin w { h.win w with goback := none }).refuseReq w q := by
  refine (Hub.inCheck_inside on above below).trans ((if_neg (mt beq_iff_eq.mp runs)).trans (if_neg ?_))
  rintro ⟨refused, -⟩
  rw [noGoback] at refused
  exact absurd refused (by decide)

end

/-! ## Issue to the host, and its completions (R304) -/

section

variable {l : List InReq}

theorem Hub.inIssue_oldest (oldest : (h.win w).inq = q :: l) (waits : q.issued = false)
    (bound : h.get F.SLC_BIND_VALID (h.winOwner w) = 1) : h.inIssue w =
      if q.wr then (h.setWin w { h.win w with inq := l }).hostWrite (h.pasid (h.winOwner w)) q.addr q.data
      else (h.setWin w { h.win w with inq := { q with issued := true } :: l }).hostRead (.inb w) (h.pasid (h.winOwner w)) q.addr q.len := by
  have found : (q :: l).find? (fun q => !q.issued) = some q := List.find?_cons_of_pos (by rw [waits]; rfl)
  have first : (q :: l).takeWhile (fun r => r.issued) = [] := List.takeWhile_cons_of_neg (Bool.eq_false_iff.mp waits)
  simp only [Hub.inIssue, oldest, found, Hub.when_pos (show h.bound (h.winOwner w) = true from Hub.flag_one bound), List.erase_cons_head,
    first, List.nil_append, List.length_nil, Nat.zero_add, List.drop_one, List.tail_cons]

theorem Hub.inCompletion_oldest {k : HostRd} {st : Nat} {b : Bytes} (oldest : (h.win w).inq = q :: l) (issued : q.issued = true)
    (read : h.oldestRead (· = .inb w) = some k) (whole : st ≠ 0 ∨ b.length = q.len) : h.inCompletion w st b =
      let g := (h.fetchEnd k.fetch).setWin w { h.win w with inq := l }
      if st = 0 then g.answer w q 2 0 b else (g.emit .aer).answer w q 3 (st + 1) [] := by
  have found : (q :: l).find? (fun q => q.issued) = some q := List.find?_cons_of_pos issued
  simp only [Hub.inCompletion, read, oldest, found, Hub.when_pos whole, List.erase_cons_head]
  by_cases ok : st = 0
  · simp only [if_pos ok]
    rfl
  · simp only [if_neg ok]
    rfl

end

end

/-- Settles O38: each clause by the lemma about the check, the issue or the completion that it names. -/
theorem completerCommands : Obligations.CompleterCommands := by
  refine ⟨fun h hl => ⟨?_, ?_, ?_⟩, fun h hl => ⟨does_inboundRequest hl, does_inboundPcieIssue hl, does_inboundPcieCompletion hl⟩⟩
  · rintro f k q _ oldest rfl request
    have checks : h.inbound = k.inCheck (k.blkWin f) q := by
      simp only [Hub.inbound, oldest, request]
    have does := (does_inboundRequest hl).of_eq checks
    refine ⟨fun off write => does.of_eq ?_, fun off read => does.of_eq ?_, fun on above below =>
      ⟨fun resets => does.of_eq (Hub.inCheck_resetting on above below resets), fun runs noGoback room => does.of_eq ?_,
        fun runs noGoback full => does.of_eq ?_⟩⟩
    · rw [Hub.inCheck_off off, if_pos write]
    · rw [Hub.inCheck_off off, if_neg (Bool.eq_false_iff.mp read)]
    · rw [Hub.inCheck_queue on above below runs noGoback, if_pos room]
    · rw [Hub.inCheck_queue on above below runs noGoback, if_neg (Bool.eq_false_iff.mp full)]
  · intro w q l oldest waits bound
    have does := (does_inboundPcieIssue hl w).of_eq (Hub.inIssue_oldest oldest waits bound)
    exact ⟨fun write => does.of_eq (if_pos write), fun read => does.of_eq (if_neg (Bool.eq_false_iff.mp read))⟩
  · rintro w q l k g oldest issued read rfl
    have does (st : Fin 3) (b : Bytes) (whole : st.val ≠ 0 ∨ b.length = q.len) :=
      (does_inboundPcieCompletion hl w st b).of_eq (Hub.inCompletion_oldest oldest issued read whole)
    exact ⟨fun b whole => (does 0 b (.inr whole)).of_eq (if_pos rfl), fun b => (does 1 b (.inl (by decide))).of_eq (if_neg (by decide)),
      fun b => (does 2 b (.inl (by decide))).of_eq (if_neg (by decide))⟩

end Sys2Proof.Machine
end

section
/-! Raster pipes: enabling, fetching and releasing lines (R313, R318, R330, R331, R336). -/

namespace Sys2Proof.Machine

/-! ## The commands -/

section

variable {h : Hub} (ha : h.awake) (d : PipeId)

include ha

theorem does_lineRelease : Does (.lineRelease d) h (h.lineRelease d) := does_of_run ha (·.lineRelease d) (exec_lineRelease d)

theorem does_layerLineFetch (l : Fin 4) : Does (.layerLineFetch d l) h (h.lineFetch d l) :=
  does_of_run ha (·.lineFetch d l) (exec_layerLineFetch d l)

theorem does_layerDataArrival (l : Fin 4) (ok : Bool) (bytes : List (BitVec 8)) :
    Does (.layerDataArrival d l ok bytes) h (h.layerData d l ok bytes) :=
  does_of_run ha (·.layerData d l ok bytes) (exec_layerDataArrival d l ok bytes)

variable (hw : h.led.wiped = false) (p : Path) (v : Word)

include hw

theorem does_pipeEnable : Does (.pipeEnable p d v) h (h.pipeEnable p d v) :=
  does_of_runW ha (·.pipeEnable p d v) (exec_pipeEnable p d v) hw

theorem does_pipeDisable : Does (.pipeDisable p d v) h (h.pipeDisable p d v) :=
  does_of_runW ha (·.pipeDisable p d v) (exec_pipeDisable p d v) hw

end

/-! ## Shared operations that leave the registers -/

section

variable (h : Hub)

theorem Hub.foldl_regs {α : Type} {f : Hub → α → Hub} (step : ∀ g x, (f g x).regs = g.regs) (l : List α) (h : Hub) :
    (l.foldl f h).regs = h.regs := by
  induction l generalizing h with
  | nil => rfl
  | cons x l ih => exact (ih (f h x)).trans (step h x)

theorem Hub.each_regs {f : Nat → Hub → Hub} (step : ∀ i g, (f i g).regs = g.regs) (l : List Nat) (h : Hub) :
    (h.each l f).regs = h.regs := Hub.foldl_regs (fun g i => step i g) l h

theorem Hub.keepFirst_regs (a : Nat) : (h.keepFirst a).regs = h.regs := by
  unfold Hub.keepFirst
  split
  · rfl
  · rfl

theorem Hub.claimFor_regs (key r c : Nat) : (h.claimFor key r c).2.regs = h.regs := by
  unfold Hub.claimFor
  dsimp only
  split
  · rfl
  · rfl

theorem Hub.release_regs (r c : Nat) : (h.release r c).regs = h.regs := by
  unfold Hub.release
  split
  · rfl
  · rfl

theorem Hub.unflip_regs (d l : Nat) : (h.unflip d l).regs = h.regs := by
  unfold Hub.unflip
  dsimp only
  split
  · rfl
  · rfl

/-- A claim that another owner holds is refused (R25). -/
theorem Hub.claimFor_refused {key r c q : Nat} (owner : h.owner r = q) (held : q ≠ 0) (other : q ≠ c) :
    h.claimFor key r c = (false, h.refuseFor key r c q) := by
  subst owner
  exact if_neg (not_or_intro held other)

/-- Without refusals in the tick there is none to take back. -/
theorem Hub.unrefuse_none {h : Hub} (none_ : h.led.refused = []) (key : Nat) : h.unrefuse key = h := by
  rw [Hub.unrefuse, none_, List.filter_nil, ← none_]

end

/-! ## EN and STATE through a write of RAS_CTL -/

/-- `g` shows EN and STATE of pipe `d` as `h` does. -/
def EnStateKept (d : Nat) (h g : Hub) : Prop :=
  g.get F.RAS_CTL_EN d = h.get F.RAS_CTL_EN d ∧ g.get F.RAS_CTL_STATE d = h.get F.RAS_CTL_STATE d

namespace EnStateKept

variable {d : Nat} {h g k : Hub}

theorem of_regs (same : g.regs = h.regs) : EnStateKept d h g := ⟨Hub.get_congr same, Hub.get_congr same⟩

theorem trans (a : EnStateKept d h g) (b : EnStateKept d g k) : EnStateKept d h k := ⟨b.1.trans a.1, b.2.trans a.2⟩

/-- Every field below bit 28 is another one. -/
theorem set (a : EnStateKept d h g) {f : Fld} (low : f.lo + f.w ≤ 28) (v i : Nat) : EnStateKept d h (g.set f v i) :=
  a.trans ⟨Hub.get_set_disj g (by omega) (.inl (by simp only [F.RAS_CTL_EN]; omega)),
    Hub.get_set_disj g (by omega) (.inl (by simp only [F.RAS_CTL_STATE]; omega))⟩

theorem regs (a : EnStateKept d h g) (same : k.regs = g.regs) : EnStateKept d h k := a.trans (of_regs same)

theorem claim (a : EnStateKept d h g) {key r c : Nat} {ok : Bool} (claims : g.claimFor key r c = (ok, k)) : EnStateKept d h k :=
  a.regs ((congrArg (·.2.regs) claims).symm.trans (g.claimFor_regs key r c))

theorem release (a : EnStateKept d h g) (r c : Nat) : EnStateKept d h (g.release r c) := a.regs (g.release_regs r c)

theorem setLock (a : EnStateKept d h g) (v tegate : Nat) : EnStateKept d h (g.setLock d v tegate) := by
  unfold Hub.setLock
  extract_lets g1 old g2 _ g3
  have b : EnStateKept d h g1 := a.regs rfl
  split
  · exact b
  split
  · split
    · next claims => exact (b.claim claims).set (by decide) _ _
    · next claims =>
      split
      · exact b.claim claims
      · exact (b.claim claims).set (by decide) _ _
  · have c : EnStateKept d h g2 := b.set (by decide) _ _
    have e : EnStateKept d h g3 := by
      unfold g3
      split
      · exact c.regs rfl
      · exact c
    split
    · exact e.release _ _
    · exact e

theorem setFpulse (a : EnStateKept d h g) (v : Nat) : EnStateKept d h (g.setFpulse d v) := by
  have b : EnStateKept d h (g.unrefuse (fkey F.RAS_CTL_FPULSE d)) := a.regs rfl
  unfold Hub.setFpulse
  dsimp only
  split
  · exact b
  split
  · split
    · next claims => exact (b.claim claims).set (by decide) _ _
    · next claims => exact b.claim claims
  · refine EnStateKept.set (EnStateKept.release ?_ _ _) (by decide) _ _
    split
    · exact b.regs rfl
    · exact b

theorem setPair (a : EnStateKept d h g) (v : Nat) : EnStateKept d h (g.setPair d v) := by
  have b : EnStateKept d h (g.unrefuse (fkey F.RAS_CTL_PAIR d)) := a.regs rfl
  unfold Hub.setPair
  dsimp only
  split
  · exact b
  split
  · split
    · next claims => exact (b.claim claims).set (by decide) _ _
    · next claims => exact b.claim claims
  · exact (b.release _ _).set (by decide) _ _

theorem setTe (a : EnStateKept d h g) (src pin : Nat) : EnStateKept d h (g.setTe d src pin) := by
  have b : EnStateKept d h (g.unrefuse (fkey F.RAS_CTL_TESRC d)) := a.regs rfl
  unfold Hub.setTe
  dsimp only
  split
  · split
    · exact ((b.release _ _).set (by decide) _ _).set (by decide) _ _
    · exact (b.set (by decide) _ _).set (by decide) _ _
  split
  · exact b
  split
  · next claims =>
    split
    · exact (((b.claim claims).release _ _).set (by decide) _ _).set (by decide) _ _
    · exact ((b.claim claims).set (by decide) _ _).set (by decide) _ _
  · next claims =>
    split
    · exact b.claim claims
    · exact (b.claim claims).set (by decide) _ _

theorem enTake (a : EnStateKept d h g) : EnStateKept d h (g.enTake d) := by
  unfold Hub.enTake
  split
  · exact EnStateKept.set (a.regs rfl) (by decide) _ _
  · exact a

end EnStateKept

/-- A pipe that is stopped shows EN and STATE 0; one in IDLE keeps what it shows (R336). -/
theorem Hub.pipeStop_shows (h : Hub) (d : Nat) :
    (h.pipeStop d).get F.RAS_CTL_EN d = (if h.get F.RAS_CTL_STATE d = 0 then h.get F.RAS_CTL_EN d else 0) ∧
    (h.get F.RAS_CTL_STATE d ≠ 0 → (h.pipeStop d).get F.RAS_CTL_STATE d = 0) := by
  by_cases idle : h.get F.RAS_CTL_STATE d = 0
  · rw [Hub.pipeStop, if_pos (show h.pState d = pIDLE from idle), if_pos idle]
    exact ⟨rfl, fun runs => absurd idle runs⟩
  · have regs : (h.pipeStop d).regs = (((h.each layers (fun l g => (g.unflip d l).dropReads (ofLine d l))).set F.RAS_CTL_EN 0 d).set
        F.RAS_CTL_STATE pIDLE d).regs := by
      rw [Hub.pipeStop, if_neg (show h.pState d ≠ pIDLE from idle)]
      dsimp only
      rw [Hub.setPipe_regs]
      split
      · rw [Hub.emit_regs, Hub.foldl_regs, Hub.release_regs]
        exact fun _ _ => rfl
      · rw [Hub.foldl_regs, Hub.release_regs]
        exact fun _ _ => rfl
    rw [if_neg idle, Hub.get_congr regs, Hub.get_congr regs]
    exact ⟨(Hub.get_set_disj _ (by decide) (.inl (by decide))).trans (Hub.get_set_same _ _ _ _ _ (by decide)),
      fun _ => Hub.get_set_same _ _ _ _ _ (by decide)⟩

/-! ## Writes of RAS_CTL (R313, R336) -/

section

variable {h : Hub} {d : Nat} {v : Word}

theorem Hub.pipeEnable_noRight {p : Path} (foreign : h.pipeRight p d = false) : h.pipeEnable p d v = h :=
  Hub.when_neg fun both => Bool.eq_false_iff.mp foreign both.2

theorem Hub.pipeDisable_noRight {p : Path} (foreign : h.pipeRight p d = false) : h.pipeDisable p d v = h :=
  Hub.when_neg fun both => Bool.eq_false_iff.mp foreign both.2

/-- The hub once a write of RAS_CTL has set TEGATE, which LOCK may forbid (R323). -/
def Hub.rasGate (h : Hub) (d : Nat) (v : Word) : Hub :=
  if v.bits 21 1 = 1 ∧ h.get F.RAS_CTL_LOCK d ≠ 0 then h else h.set F.RAS_CTL_TEGATE (v.bits 21 1) d

/-- The hub once a write of RAS_CTL has set LOCK, FPULSE and FPW as well. -/
def Hub.rasLocked (h : Hub) (d : Nat) (v : Word) : Hub :=
  let g := (((h.keepFirst (F.RAS_CTL_EN.addr d 0)).rasGate d v).setLock d (v.bits 14 2)
    (((h.keepFirst (F.RAS_CTL_EN.addr d 0)).rasGate d v).get F.RAS_CTL_TEGATE d)).setFpulse d (v.bits 22 1)
  if v.bits 0 8 = 0 then g else g.set F.RAS_CTL_FPW (v.bits 0 8) d

/-- A write of RAS_CTL sets the other fields first, PAIR and TESRC in IDLE only; then it sets EN. -/
theorem Hub.rasCtl_fields : h.rasCtl d v =
    let idle := (h.keepFirst (F.RAS_CTL_EN.addr d 0)).pState d == pIDLE
    let g := if idle then ((h.rasLocked d v).setPair d (v.bits 23 1)).setTe d (v.bits 20 1) (v.bits 16 4) else h.rasLocked d v
    if v.bits 31 1 = 0 then (g.enTake d).pipeStop d else if idle then (g.enTake d).pipeStart d else g := rfl

theorem EnStateKept.rasLocked : EnStateKept d h (h.rasLocked d v) := by
  have first : EnStateKept d h (h.keepFirst (F.RAS_CTL_EN.addr d 0)) := .of_regs (h.keepFirst_regs _)
  have gate : EnStateKept d h ((h.keepFirst (F.RAS_CTL_EN.addr d 0)).rasGate d v) := by
    unfold Hub.rasGate
    split
    · exact first
    · exact first.set (by decide) _ _
  unfold Hub.rasLocked
  extract_lets g
  have pulse : EnStateKept d h g := (gate.setLock _ _).setFpulse _
  split
  · exact pulse
  · exact pulse.set (by decide) _ _

/-- A write of EN = 0 over PCIe: the other fields first, then the pipe stops where it ran (R336). -/
theorem Hub.pipeDisable_shows (disable : v.bits 31 1 = 0) : (h.pipeDisable .pcie d v).get F.RAS_CTL_EN d =
      (if h.get F.RAS_CTL_STATE d = 0 then h.get F.RAS_CTL_EN d else 0) ∧
    (h.get F.RAS_CTL_STATE d ≠ 0 → (h.pipeDisable .pcie d v).get F.RAS_CTL_STATE d = 0) := by
  have ends : ∃ g, EnStateKept d h g ∧ h.rasCtl d v = g.pipeStop d := by
    rw [Hub.rasCtl_fields]
    extract_lets idle g
    refine ⟨g.enTake d, EnStateKept.enTake ?_, if_pos disable⟩
    unfold g
    split
    · exact (EnStateKept.rasLocked.setPair _).setTe _ _
    · exact .rasLocked
  obtain ⟨g, ⟨en, state⟩, stops⟩ := ends
  rw [Hub.pipeDisable, Hub.when_pos ⟨disable, rfl⟩, stops, ← en, ← state]
  exact g.pipeStop_shows d

/-! Fields written with the value that they have make no claim. -/

section

variable (calm : h.led.refused = [])

include calm

theorem Hub.setLock_same {x tegate : Nat} (same : x = h.get F.RAS_CTL_LOCK d) : h.setLock d x tegate = h := by
  rw [Hub.setLock, Hub.unrefuse_none calm]
  exact if_pos (.inl same)

theorem Hub.setFpulse_same {x : Nat} (same : x = h.get F.RAS_CTL_FPULSE d) : h.setFpulse d x = h := by
  rw [Hub.setFpulse, Hub.unrefuse_none calm]
  exact if_pos same

theorem Hub.setPair_same {x : Nat} (same : x = h.get F.RAS_CTL_PAIR d) : h.setPair d x = h := by
  rw [Hub.setPair, Hub.unrefuse_none calm]
  exact if_pos same

theorem Hub.setTe_none {pin : Nat} (off : h.get F.RAS_CTL_TESRC d = 0) :
    h.setTe d 0 pin = (h.set F.RAS_CTL_TESRC 0 d).set F.RAS_CTL_TEGPIO pin d := by
  rw [Hub.setTe, Hub.unrefuse_none calm]
  simp only [off, zero_ne_one, if_false, if_true]

theorem Hub.enTake_none : h.enTake d = h := by
  rw [Hub.enTake, calm]
  rfl

end

theorem Hub.keepFirst_refused (a : Nat) : (h.keepFirst a).led.refused = h.led.refused := by
  unfold Hub.keepFirst
  split
  · rfl
  · rfl

/-- A write of EN = 1 in IDLE that changes no claim sets TEGATE, FPW and TEGPIO, and starts the pipe (R313). -/
theorem Hub.pipeEnable_idle (idle : h.get F.RAS_CTL_STATE d = 0) (enable : v.bits 31 1 = 1) (width : v.bits 0 8 ≠ 0)
    (lock : h.get F.RAS_CTL_LOCK d = 0) (free : v.bits 14 2 = 0) (fpulse : v.bits 22 1 = h.get F.RAS_CTL_FPULSE d)
    (pair : v.bits 23 1 = h.get F.RAS_CTL_PAIR d) (noTe : v.bits 20 1 = 0) (te : h.get F.RAS_CTL_TESRC d = 0)
    (calm : h.led.refused = []) : h.pipeEnable .pcie d v =
      (((((h.keepFirst (F.RAS_CTL_EN.addr d 0)).set F.RAS_CTL_TEGATE (v.bits 21 1) d).set F.RAS_CTL_FPW (v.bits 0 8) d).set
        F.RAS_CTL_TESRC 0 d).set F.RAS_CTL_TEGPIO (v.bits 16 4) d).pipeStart d := by
  have calmFirst : (h.keepFirst (F.RAS_CTL_EN.addr d 0)).led.refused = [] := (h.keepFirst_refused _).trans calm
  have calmGate : ((h.keepFirst (F.RAS_CTL_EN.addr d 0)).set F.RAS_CTL_TEGATE (v.bits 21 1) d).led.refused = [] := calmFirst
  have calmWidth : (((h.keepFirst (F.RAS_CTL_EN.addr d 0)).set F.RAS_CTL_TEGATE (v.bits 21 1) d).set F.RAS_CTL_FPW (v.bits 0 8)
    d).led.refused = [] := calmFirst
  have first (f : Fld) : (h.keepFirst (F.RAS_CTL_EN.addr d 0)).get f d = h.get f d := Hub.get_congr (h.keepFirst_regs _)
  have gate : (h.keepFirst (F.RAS_CTL_EN.addr d 0)).rasGate d v =
      (h.keepFirst (F.RAS_CTL_EN.addr d 0)).set F.RAS_CTL_TEGATE (v.bits 21 1) d := by
    rw [Hub.rasGate, first, lock]
    exact if_neg fun both => both.2 rfl
  have locked : h.rasLocked d v =
      ((h.keepFirst (F.RAS_CTL_EN.addr d 0)).set F.RAS_CTL_TEGATE (v.bits 21 1) d).set F.RAS_CTL_FPW (v.bits 0 8) d := by
    rw [Hub.rasLocked, gate, Hub.setLock_same calmGate, Hub.setFpulse_same calmGate]
    · exact if_neg width
    · rw [fpulse, Hub.get_set_disj _ (by decide) (.inl (by decide)), first]
    · rw [free, Hub.get_set_disj _ (by decide) (.inr (by decide)), first, lock]
  have pState : ((h.keepFirst (F.RAS_CTL_EN.addr d 0)).pState d == pIDLE) = true := beq_iff_eq.mpr ((first F.RAS_CTL_STATE).trans idle)
  rw [Hub.pipeEnable, Hub.when_pos ⟨enable, rfl⟩, Hub.rasCtl_fields]
  simp only [pState, if_true, enable, one_ne_zero, if_false, locked]
  rw [Hub.setPair_same calmWidth, noTe, Hub.setTe_none calmWidth]
  · exact congrArg (Hub.pipeStart · d) (Hub.enTake_none calmWidth)
  · rw [Hub.get_set_disj _ (by decide) (.inl (by decide)), Hub.get_set_disj _ (by decide) (.inr (by decide)), first, te]
  · rw [pair, Hub.get_set_disj _ (by decide) (.inl (by decide)), Hub.get_set_disj _ (by decide) (.inl (by decide)), first]

theorem Hub.pipeStart_badTiming (bad : h.timingOk d = false) : h.pipeStart d = h.set F.RAS_CTL_ERRCODE 1 d := by
  rw [Hub.pipeStart]
  exact if_pos (Bool.eq_false_iff.mp bad)

theorem Hub.pipeStart_conflict {q : Nat} (timing : h.timingOk d = true) (owner : h.owner (0x40 + d) = q) (held : q ≠ 0)
    (other : q ≠ 0x10 + d) :
    h.pipeStart d = (h.refuseFor (fkey F.RAS_CTL_EN d) (0x40 + d) (0x10 + d) q).set F.RAS_CTL_ERRCODE 2 d := by
  have refused : h.claimFor (fkey F.RAS_CTL_EN d) (resPixbuf d) (ownPipe d) =
      (false, h.refuseFor (fkey F.RAS_CTL_EN d) (0x40 + d) (0x10 + d) q) := h.claimFor_refused owner held other
  simp only [Hub.pipeStart, timing, not_true_eq_false, if_false, refused]

end

/-! ## Lines (R318, R330, R331) -/

section

variable {h : Hub} {d l : Nat}

theorem Hub.lineFetch_next {y : RLayer} (layer : y = (h.pipe d).layer l) (active : h.get F.RAS_CTL_STATE d ≠ 0) (on : y.on = true)
    (notUnder : y.under = false) (more : y.req < h.layerRows d l y)
    (room : h.layerFill d l y + h.lineBytes d l y ≤ 4096 * h.get F.RAS_LCFG_SHARE d l) (bound : h.bound (h.pipeOwner d) = true) :
    h.lineFetch d l = (h.setPipe d ((h.pipe d).setLayer l { y with req := y.req + 1, coming := y.coming ++ [(y.req, [])] })).hostRead
      (.line d l) (h.pasid (h.pipeOwner d)) (y.addr + y.req * y.pitch) (h.lineBytes d l y) := by
  subst layer
  rw [Hub.lineFetch]
  exact Hub.when_pos ⟨active, on, Bool.eq_false_iff.mp notUnder, more, room, bound⟩

section

variable {x : HostRd} (oldest : h.oldestRead (ofLine d l) = some x)

include oldest

theorem Hub.layerData_failed (c : Bytes) : h.layerData d l false c =
    if x.dead then (h.fetchEnd x.fetch).emit .aer
    else ((h.fetchEnd x.fetch).emit .aer).underrun d l (((h.fetchEnd x.fetch).emit .aer).composing d).2 := by
  simp only [Hub.layerData, oldest, Bool.false_eq_true, not_false_eq_true, if_true]

theorem Hub.layerData_dead {c : Bytes} (part : c.length ≤ h.fetchDue x.fetch) (dead : x.dead = true) :
    h.layerData d l true c = h.fetchTake x.fetch c.length := by
  simp only [Hub.layerData, oldest, not_true_eq_false, if_false, Hub.when_pos part, dead, if_true]
  split
  · rfl
  · rfl

/-- Bytes of a read in use join the oldest line on its way, which is in the buffer once it is whole (R330). -/
theorem Hub.layerData_part {c : Bytes} (part : c.length ≤ h.fetchDue x.fetch) (used : x.dead = false) {k : Hub}
    (took : k = h.fetchTake x.fetch c.length) {y : RLayer} (layer : y = (k.pipe d).layer l) {i : Nat} {b : Bytes}
    {rest : List (Nat × Bytes)} (coming : y.coming = (i, b) :: rest) : h.layerData d l true c =
      if k.lineBytes d l y ≤ b.length + c.length then
        k.setPipe d ((k.pipe d).setLayer l { y with coming := rest, lines := y.lines ++ [(i, b ++ c)] })
      else k.setPipe d ((k.pipe d).setLayer l { y with coming := (i, b ++ c) :: rest }) := by
  subst layer
  simp only [Hub.layerData, oldest, not_true_eq_false, if_false, Hub.when_pos part, used, Bool.false_eq_true, ← took, coming,
    List.length_append]

end

theorem Hub.lineRelease_notRun (other : h.get F.RAS_CTL_STATE d ≠ 2) : h.lineRelease d = h := by
  rw [Hub.lineRelease]
  exact Hub.when_neg fun premise => other premise.1

/-- The next active line of a running pipe is composed and released at its tick (R318, R326). -/
theorem Hub.lineRelease_due (run : h.get F.RAS_CTL_STATE d = 2) (active : (h.pipe d).line < h.get F.RAS_VTIM_VACT d)
    (notLatched : (h.pipe d).latched = false) (due : h.lineTick d (h.pipe d).line ≤ h.time.tick) {g : Hub}
    (checked : g = (h.dropSegs d).lineCheck d (h.pipe d).line) : h.lineRelease d =
      (let px := g.compose d (h.pipe d).line
       let k := (g.set F.RAS_STAT_LINE (h.pipe d).line d).setPipe d { g.pipe d with
         line := (h.pipe d).line + 1
         segs := g.segments d (h.pipe d).line px.length 0 px }
       let k := (k.each (List.range 8) (fun r k => k.rectLine d r (h.pipe d).line px)).lineUsed d (h.pipe d).line
       if (h.pipe d).line + 1 < k.vact d then k.lineCheck d ((h.pipe d).line + 1) else k) := by
  subst checked
  rw [Hub.lineRelease]
  exact Hub.when_pos ⟨run, active, Bool.eq_false_iff.mp notLatched, due⟩

end

/-- Settles O39: each clause by the lemma about the write of RAS_CTL or about the line that it names. That a line is checked at the release
of the line before it, and what a failed read does to its layer, are the model's choices of log entry 71. -/
theorem pipeCommands : Obligations.PipeCommands := by
  refine ⟨fun h ha d => ⟨?_, ?_, ?_, Hub.pipeStart_badTiming, fun q timing owner held other =>
    Hub.pipeStart_conflict timing owner held other, ?_, ?_, ?_, ?_⟩, fun h =>
    ⟨fun ha => ⟨does_lineRelease ha, does_layerLineFetch ha, does_layerDataArrival ha⟩,
      fun ha hw => ⟨fun p d v => does_pipeEnable ha d hw p v, fun p d v => does_pipeDisable ha d hw p v⟩⟩⟩
  · exact fun hw p v foreign => ⟨(does_pipeEnable ha d hw p v).of_eq (Hub.pipeEnable_noRight foreign),
      (does_pipeDisable ha d hw p v).of_eq (Hub.pipeDisable_noRight foreign)⟩
  · rintro hw v _ idle enable width lock free fpulse pair noTe te calm rfl
    exact (does_pipeEnable ha d hw .pcie v).of_eq (Hub.pipeEnable_idle idle enable width lock free fpulse pair noTe te calm)
  · exact fun hw v disable => ⟨_, does_pipeDisable ha d hw .pcie v, Hub.pipeDisable_shows disable⟩
  · exact fun l y layer active on notUnder more room bound =>
      (does_layerLineFetch ha d l).of_eq (Hub.lineFetch_next layer active on notUnder more room bound)
  · refine fun l x c oldest => ⟨fun part k took => ⟨fun dead => ?_, fun y i b rest used layer coming => ?_⟩, fun g failed => ?_⟩
    · exact (does_layerDataArrival ha d l true c).of_eq ((Hub.layerData_dead oldest part dead).trans took.symm)
    · have does := (does_layerDataArrival ha d l true c).of_eq (Hub.layerData_part oldest part used took layer coming)
      exact ⟨fun whole => does.of_eq (if_pos whole), fun some_ => does.of_eq (if_neg (Nat.not_le.mpr some_))⟩
    · subst failed
      exact (does_layerDataArrival ha d l false c).of_eq (Hub.layerData_failed oldest c)
  · exact fun other => (does_lineRelease ha d).of_eq (Hub.lineRelease_notRun other)
  · exact fun g run active notLatched due checked =>
      (does_lineRelease ha d).of_eq (Hub.lineRelease_due run active notLatched due checked)

end Sys2Proof.Machine
end

section
/-! Raster pipes: frames and composition (R315, R316, R319 to R323, R327 to R329, R335). -/

namespace Sys2Proof.Machine

/-! ## The commands -/

section

variable {h : Hub} (ha : h.awake)

include ha

theorem does_syncInEdge : Does .syncInEdge h h.syncEdge := does_of_run ha Hub.syncEdge exec_syncInEdge

theorem does_backChannelEvent : Does .backChannelEvent h h.backChannel := does_of_run ha Hub.backChannel exec_backChannelEvent

theorem does_ltrSend : Does .ltrSend h h.ltrSend := does_of_run ha Hub.ltrSend exec_ltrSend

variable (d : PipeId)

theorem does_frameStart : Does (.frameStart d) h (h.frameStart d) := does_of_run ha (·.frameStart d) (exec_frameStart d)

theorem does_latchTick : Does (.latchTick d) h (h.latchTick d) := does_of_run ha (·.latchTick d) (exec_latchTick d)

theorem does_synclostDeadline : Does (.synclostDeadline d) h (h.syncLost d) := does_of_run ha (·.syncLost d) (exec_synclostDeadline d)

theorem does_teArrival : Does (.teArrival d) h (h.teArrival d) := does_of_run ha (·.teArrival d) (exec_teArrival d)

theorem does_teTimeout : Does (.teTimeout d) h (h.teTimeout d) := does_of_run ha (·.teTimeout d) (exec_teTimeout d)

theorem does_framePulseEnd : Does (.framePulseEnd d) h (h.pulseEnd d) := does_of_run ha (·.pulseEnd d) (exec_framePulseEnd d)

end

/-! ## Latches (R328, R329) -/

/-- The tolerance that pipe `d` will show at its next frame start is `t`. -/
def TolIs (d t : Nat) (g : Hub) : Prop := (g.pipe d).tol = t

namespace TolIs

variable {d t : Nat} {g : Hub}

theorem setPipe {x : PipeSt} (tol : x.tol = t) : TolIs d t (g.setPipe d x) := (congrArg PipeSt.tol (g.pipe_setPipe d x)).trans tol

theorem foldl {α : Type} {f : Hub → α → Hub} (step : ∀ g x, TolIs d t g → TolIs d t (f g x)) (l : List α) {g : Hub} (a : TolIs d t g) :
    TolIs d t (l.foldl f g) := by
  induction l generalizing g with
  | nil => exact a
  | cons x l ih => exact ih (step g x a)

theorem each {f : Nat → Hub → Hub} (step : ∀ i g, TolIs d t g → TolIs d t (f i g)) (l : List Nat) (a : TolIs d t g) :
    TolIs d t (g.each l f) := foldl (fun g i => step i g) l a

theorem flipLayer (a : TolIs d t g) (q : Desc) : TolIs d t (g.flipLayer d q) := setPipe a

theorem latchFlips (a : TolIs d t g) : TolIs d t (g.latchFlips d) := by
  unfold Hub.latchFlips
  split
  · exact a
  · next r _ =>
    extract_lets n due last g1 g2
    have offered : TolIs d t g1 := foldl (f := fun g q => g.modDesc r q.slot (fun z => { z with stage := .offered })) (fun _ _ b => b) due a
    have taken : TolIs d t g2 := foldl (f := fun g q => g.flipLayer d q) (fun _ q b => b.flipLayer q) (due.filter last) offered
    exact setPipe taken

theorem latchLayer (a : TolIs d t g) (l : Nat) : TolIs d t (g.latchLayer d l) := setPipe a

theorem latchRect (a : TolIs d t g) (r : Nat) : TolIs d t (g.latchRect d r) := setPipe a

end TolIs

section

variable {h : Hub} {d : Nat}

theorem Hub.latchTick_idle (idle : h.get F.RAS_CTL_STATE d = 0) : h.latchTick d = h := by
  rw [Hub.latchTick]
  exact Hub.when_neg fun premise => premise.1 idle

theorem Hub.latchTick_latched (latched : (h.pipe d).latched = true) : h.latchTick d = h := by
  rw [Hub.latchTick]
  exact Hub.when_neg fun premise => Bool.noConfusion (premise.2.1.symm.trans latched)

/-- The latch of a pipe in PREP: there is no frame yet whose tolerance it could have worked out (R334). -/
theorem Hub.latchTick_prep (prep : h.get F.RAS_CTL_STATE d = 1) (notLatched : (h.pipe d).latched = false) :
    ((h.latchTick d).pipe d).latched = true ∧ ((h.latchTick d).pipe d).tol = 0 := by
  have prep' : (h.pState d == pPREP) = true := beq_iff_eq.mpr prep
  have active : h.pState d ≠ pIDLE := by
    rw [Hub.pState, prep]
    decide
  have latches : ∃ g, TolIs d 0 g ∧ h.latchTick d = g.setPipe d { g.pipe d with latched := true } := by
    rw [Hub.latchTick, prep', Hub.when_pos ⟨active, notLatched, .inl rfl⟩]
    refine ⟨_, ?_, rfl⟩
    refine TolIs.each (fun r _ b => b.latchRect r) _ (TolIs.each (fun l _ b => b.latchLayer l) _ (TolIs.latchFlips ?_))
    exact TolIs.setPipe rfl
  obtain ⟨g, tol, latch⟩ := latches
  rw [latch, Hub.pipe_setPipe]
  exact ⟨rfl, tol⟩

/-! ## Frame starts (R319, R320, R323) -/

theorem Hub.frameStart_idle (idle : h.get F.RAS_CTL_STATE d = 0) : h.frameStart d = h := by
  rw [Hub.frameStart]
  exact Hub.when_neg fun premise => premise.1 idle

theorem Hub.syncLost_notRun (other : h.get F.RAS_CTL_STATE d ≠ 2) : h.syncLost d = h := by
  rw [Hub.syncLost]
  exact Hub.when_neg fun premise => other premise.1

theorem Hub.teTimeout_notRun (other : h.get F.RAS_CTL_STATE d ≠ 2) : h.teTimeout d = h := by
  rw [Hub.teTimeout]
  exact Hub.when_neg fun premise => other premise.1

/-- A frame that no TE gates starts when its lock source says so. -/
theorem Hub.frameStart_due (active : h.get F.RAS_CTL_STATE d ≠ 0) (latched : (h.pipe d).latched = true) (due : h.startDue d = true)
    (free : h.gated d = false) (notSync : (h.pipe d).lock ≠ 1) : h.frameStart d = h.beginFrame d h.time.tick false := by
  have premise : h.pState d ≠ pIDLE ∧ (h.pipe d).latched = true ∧ h.startDue d = true ∧
      (h.gated d = true → (h.pipe d).te.isSome = true) :=
    ⟨active, latched, due, fun gated => absurd gated (Bool.eq_false_iff.mp free)⟩
  rw [Hub.frameStart, Hub.when_pos premise, if_neg notSync, free]
  rfl

theorem Hub.frameStart_early (early : h.startDue d = false) : h.frameStart d = h := by
  rw [Hub.frameStart]
  exact Hub.when_neg fun premise => Bool.eq_false_iff.mp early premise.2.2.1

theorem Hub.startDue_free (lock : (h.pipe d).lock = 0) :
    h.startDue d = decide ((h.pipe d).f0 + (h.pipe d).k * (h.pipe d).fper / 65536 ≤ h.time.tick) := by
  simp only [Hub.startDue, Hub.nextStart, lock, OfNat.zero_ne_ofNat, zero_ne_one, if_false]
  rfl

theorem Hub.startDue_ridge (lock : (h.pipe d).lock = 2) :
    h.startDue d = decide ((h.pipe d).base + (h.pipe d).k * (h.pipe d).fper / 65536 ≤ h.time.ridge.toNat) := by
  simp only [Hub.startDue, Hub.nextStart, lock, if_true]
  rfl

theorem Hub.gated_off (off : h.get F.RAS_CTL_TEGATE d = 0) : h.gated d = false := by
  rw [Hub.gated, Hub.flag_zero off, Bool.false_and, Bool.false_and]

theorem Hub.gated_ridge (lock : (h.pipe d).lock = 2) : h.gated d = false := by
  rw [Hub.gated, lock, show ((2 : Nat) == 0) = false from rfl, Bool.and_false, Bool.false_and]

theorem Hub.gated_on (on : h.get F.RAS_CTL_TEGATE d = 1) (lock : (h.pipe d).lock = 0) (later : (h.pipe d).first = false) :
    h.gated d = true := by
  rw [Hub.gated, Hub.flag_one on, lock, later]
  rfl

/-- Without an edge of SYNC_IN a locked frame counts as started from its nominal end (R320). -/
theorem Hub.syncLost_due (run : h.get F.RAS_CTL_STATE d = 2) (lock : (h.pipe d).lock = 1) (latched : (h.pipe d).latched = true)
    (noEdge : (h.pipe d).at_ = none) (first : (h.pipe d).lost = false)
    (due : (h.pipe d).ftick + 5 * (h.pipe d).fper / (4 * 65536) ≤ h.time.tick) : h.syncLost d =
      (let g := (h.rasFlag d F.RAS_EVT_SYNCLOST 1 2).bump F.RAS_CNT1_SYNCLOST d
       (g.setPipe d { g.pipe d with lost := true }).beginFrame d ((h.pipe d).ftick + (h.pipe d).fper / 65536) false) := by
  rw [Hub.syncLost]
  exact Hub.when_pos ⟨run, lock, latched, noEdge, first, due⟩

section

variable (on : h.get F.RAS_CTL_TEGATE d = 1) (lock : (h.pipe d).lock = 0) (later : (h.pipe d).first = false)
  (latched : (h.pipe d).latched = true) (noTe : (h.pipe d).te = none)

include on lock later latched noTe

theorem Hub.countTe_first : h.countTe d = h.setPipe d { h.pipe d with te := some h.time.tick } := by
  rw [Hub.countTe]
  exact if_pos ⟨Hub.gated_on on lock later, latched, by rw [noTe]; rfl⟩

theorem Hub.teTimeout_due (run : h.get F.RAS_CTL_STATE d = 2)
    (due : (h.pipe d).f0 + (h.pipe d).k * (h.pipe d).fper / 65536 + h.get F.RAS_SYNC_TETMO d * 100 ≤ h.time.tick) :
    h.teTimeout d = ((h.rasFlag d F.RAS_EVT_TEMISS 1 3).bump F.RAS_CNT1_TEMISS d).beginFrame d h.time.tick true := by
  rw [Hub.teTimeout]
  exact Hub.when_pos ⟨run, Hub.gated_on on lock later, latched, noTe, due⟩

end

theorem Hub.teArrival_owned (gpio : h.get F.RAS_CTL_TESRC d = 1) (owner : h.owner (0x10 + h.get F.RAS_CTL_TEGPIO d) = 0x10 + d) :
    h.teArrival d = h.countTe d := Hub.when_pos ⟨Hub.flag_one gpio, owner⟩

theorem Hub.pulseEnd_due {t : Nat} (ends : (h.pipe d).pulseEnd = some t) (due : t ≤ h.time.tick) :
    h.pulseEnd d = (h.emit (.pin .syncOut false)).setPipe d { h.pipe d with pulseEnd := none } := by
  rw [Hub.pulseEnd]
  exact Hub.when_pos (by rw [ends]; exact Hub.due_iff.mpr due)

end

/-! ## Events from outside, and latency tolerance (R320, R327, R335) -/

section

variable {h : Hub}

theorem Hub.syncEdge_foreign (foreign : h.owner 0x00 ≠ 8) : h.syncEdge = h := Hub.when_neg foreign

theorem Hub.syncEdge_owned (owned : h.owner 0x00 = 8) : h.syncEdge = h.each (List.range 8) (fun d g => g.syncEdge1 d) :=
  Hub.when_pos owned

theorem Hub.backChannel_oldest {f : Frm} {k : Hub} (oldest : h.takeMsg (fun f => f.hdr.type == 2) = some (f, k)) : h.backChannel =
    if f.at_ 0 1 / 16 ≠ 1 ∨ f.hdr.plen ≠ 16 then k.disc f.hdr.dtun
    else k.backEvent (k.get F.TUN_W2_FIDX f.hdr.dtun % 8) f := by
  simp only [Hub.backChannel, oldest]

theorem Hub.ltrSend_off (off : h.get F.HIF_PCTL_LTREN = 0) : h.ltrSend = h := by
  rw [Hub.ltrSend]
  exact Hub.when_neg fun both => Bool.eq_false_iff.mp (Hub.flag_zero off) both.1

/-- The first demand since LTR was enabled is sent at once (R335). -/
theorem Hub.ltrSend_first {v : Nat} (on : h.get F.HIF_PCTL_LTREN = 1) (none_ : h.ras.ltr = none) (value : h.ltrValue = some v) :
    h.ltrSend = ({ h with ras := { h.ras with ltr := some (some ((ltrCode v).1 * 32 ^ (ltrCode v).2), h.time.tick) } } : Hub).emit
      (.ltr (ltrCode v).1 (ltrCode v).2 true) := by
  simp only [Hub.ltrSend, none_, value]
  exact Hub.when_pos ⟨Hub.flag_one on, trivial⟩

end

/-! ## Composition (R315, R316) -/

/-- Bits repeated from the most significant (R315). -/
theorem widen_eight {v : Nat} (fits : v < 256) : widen 8 v = 4 * v + v / 64 := by
  simp only [widen, Nat.reduceEqDiff, if_false, Nat.reducePow, Nat.reduceMul, Nat.reduceSub]
  omega

theorem widen_six {v : Nat} (fits : v < 64) : widen 6 v = 16 * v + v / 4 := by
  simp only [widen, Nat.reduceEqDiff, if_false, Nat.reducePow, Nat.reduceMul, Nat.reduceSub]
  omega

theorem widen_five {v : Nat} (fits : v < 32) : widen 5 v = 32 * v + v := by
  simp only [widen, Nat.reduceEqDiff, if_false, Nat.reducePow, Nat.reduceMul, Nat.reduceSub]
  omega

theorem widen_ten (v : Nat) : widen 10 v = v := rfl

theorem div1023_mul (x : Nat) : div1023 (1023 * x) = x := by
  unfold div1023
  omega

theorem div1023_mono {x y : Nat} (le : x ≤ y) : div1023 x ≤ div1023 y := Nat.div_le_div_right (by omega)

/-- The quotient is the nearest. -/
theorem div1023_near (x : Nat) : 1023 * div1023 x ≤ x + 511 ∧ x ≤ 1023 * div1023 x + 511 := by
  unfold div1023
  omega

theorem blend_full (s t : Pix) : blend 1023 s t = s := by
  simp only [blend, Nat.sub_self, Nat.zero_mul, Nat.add_zero, div1023_mul]

theorem blend_none (s t : Pix) : blend 0 s t = t := by
  simp only [blend, Nat.sub_zero, Nat.zero_mul, Nat.zero_add, div1023_mul]

/-- A blended component is a weighted mean, and lies between the two. -/
theorem div1023_between {a : Nat} (x y : Nat) (alpha : a ≤ 1023) : min x y ≤ div1023 (a * x + (1023 - a) * y) ∧
    div1023 (a * x + (1023 - a) * y) ≤ max x y := by
  have whole (m : Nat) : a * m + (1023 - a) * m = 1023 * m := by
    rw [← Nat.add_mul, Nat.add_sub_cancel' alpha]
  constructor
  · calc min x y = div1023 (a * min x y + (1023 - a) * min x y) := by rw [whole, div1023_mul]
      _ ≤ _ := div1023_mono (Nat.add_le_add (Nat.mul_le_mul_left _ (min_le_left x y)) (Nat.mul_le_mul_left _ (min_le_right x y)))
  · calc div1023 (a * x + (1023 - a) * y) ≤ div1023 (a * max x y + (1023 - a) * max x y) :=
        div1023_mono (Nat.add_le_add (Nat.mul_le_mul_left _ (le_max_left x y)) (Nat.mul_le_mul_left _ (le_max_right x y)))
      _ = max x y := by rw [whole, div1023_mul]

/-- Settles O40: each clause by the lemma about the latch, the start or the event that it names. That a frame with a lost SYNC edge counts
from F + floor(FPER), the first latch in PREP and rounding to the nearest are the model's choices of log entry 39, what LTR compares with
that of entry 71. -/
theorem frameCommands : Obligations.FrameCommands := by
  refine ⟨fun h ha d => ⟨?_, ?_, ?_, ?_, ?_, ?_, ?_, ?_, ?_, ?_, Hub.countTe_first, ?_, ?_, ?_, ?_, ?_⟩,
    ⟨fun v fits => widen_eight fits, fun v fits => widen_six fits, fun v fits => widen_five fits, widen_ten,
      fun s t _ _ _ _ _ _ => ⟨blend_full s t, blend_none s t⟩, fun a s t alpha _ _ => div1023_between s.r t.r alpha, div1023_near⟩,
    fun h ha => ⟨does_frameStart ha, does_latchTick ha, does_syncInEdge ha, does_synclostDeadline ha, does_teArrival ha, does_teTimeout ha,
      does_backChannelEvent ha, does_framePulseEnd ha, does_ltrSend ha⟩⟩
  · intro idle
    have notRun : h.get F.RAS_CTL_STATE d ≠ 2 := by omega
    exact ⟨(does_latchTick ha d).of_eq (Hub.latchTick_idle idle), (does_frameStart ha d).of_eq (Hub.frameStart_idle idle),
      (does_synclostDeadline ha d).of_eq (Hub.syncLost_notRun notRun), (does_teTimeout ha d).of_eq (Hub.teTimeout_notRun notRun)⟩
  · exact fun prep notLatched => ⟨_, does_latchTick ha d, Hub.latchTick_prep prep notLatched⟩
  · exact fun latched => (does_latchTick ha d).of_eq (Hub.latchTick_latched latched)
  · intro active latched lock off due
    exact (does_frameStart ha d).of_eq (Hub.frameStart_due active latched ((Hub.startDue_free lock).trans (decide_eq_true due))
      (Hub.gated_off off) (by omega))
  · exact fun _ _ lock early =>
      (does_frameStart ha d).of_eq (Hub.frameStart_early ((Hub.startDue_free lock).trans (decide_eq_false (Nat.not_le.mpr early))))
  · intro active latched lock due
    exact (does_frameStart ha d).of_eq (Hub.frameStart_due active latched ((Hub.startDue_ridge lock).trans (decide_eq_true due))
      (Hub.gated_ridge lock) (by omega))
  · exact fun foreign => (does_syncInEdge ha).of_eq (Hub.syncEdge_foreign foreign)
  · exact fun owned => (does_syncInEdge ha).of_eq (Hub.syncEdge_owned owned)
  · exact fun run lock latched noEdge first due =>
      (does_synclostDeadline ha d).of_eq (Hub.syncLost_due run lock latched noEdge first due)
  · exact fun gpio owner => (does_teArrival ha d).of_eq (Hub.teArrival_owned gpio owner)
  · exact fun run on lock later latched noTe due =>
      (does_teTimeout ha d).of_eq (Hub.teTimeout_due on lock later latched noTe run due)
  · exact fun t ends due => (does_framePulseEnd ha d).of_eq (Hub.pulseEnd_due ends due)
  · intro f k oldest
    have does := (does_backChannelEvent ha).of_eq (Hub.backChannel_oldest oldest)
    exact ⟨fun size => does.of_eq (if_pos (.inr size)), fun event size => does.of_eq (if_neg (by omega))⟩
  · exact fun off => (does_ltrSend ha).of_eq (Hub.ltrSend_off off)
  · exact fun v on none_ value => (does_ltrSend ha).of_eq (Hub.ltrSend_first on none_ value)

end Sys2Proof.Machine
end

section
/-! USB root ports (R357, R358, R359). -/

namespace Sys2Proof.Machine

/-! ## The commands -/

section

variable {h : Hub} (ha : h.awake) (n : PortId)

include ha

theorem does_attachSeen : Does (.attachSeen n) h (h.attachSeen n) := does_of_run ha (·.attachSeen n) (exec_attachSeen n)

theorem does_detachSeen : Does (.detachSeen n) h (h.detachSeen n) := does_of_run ha (·.detachSeen n) (exec_detachSeen n)

theorem does_rstdurEnd (speed : Fin 3) : Does (.rstdurEnd n speed) h (h.rstdurEnd n speed) :=
  does_of_run ha (·.rstdurEnd n speed) (exec_rstdurEnd n speed)

theorem does_remoteWake : Does (.remoteWake n) h (h.remoteWake n) := does_of_run ha (·.remoteWake n) (exec_remoteWake n)

theorem does_rsmdrvEnd : Does (.rsmdrvEnd n) h (h.rsmdrvEnd n) := does_of_run ha (·.rsmdrvEnd n) (exec_rsmdrvEnd n)

theorem does_babble : Does (.babble n) h (h.babble n) := does_of_run ha (·.babble n) (exec_babble n)

variable (hw : h.led.wiped = false) (p : Path) (v : Word)

include hw

theorem does_penWrite : Does (.penWrite p n v) h (h.pctlWrite p n v) := does_of_runW ha (·.pctlWrite p n v) (exec_penWrite p n v) hw

theorem does_busReset : Does (.busReset p n v) h (h.when (v.bits 1 1 = 1) (fun h => h.pctlWrite p n v)) :=
  does_of_runW ha (fun h => h.when (v.bits 1 1 = 1) (fun h => h.pctlWrite p n v)) (exec_busReset p n v) hw

theorem does_usbSuspend : Does (.usbSuspend p n v) h (h.when (v.bits 2 1 = 1) (fun h => h.pctlWrite p n v)) :=
  does_of_runW ha (fun h => h.when (v.bits 2 1 = 1) (fun h => h.pctlWrite p n v)) (exec_usbSuspend p n v) hw

theorem does_usbResume : Does (.usbResume p n v) h (h.when (v.bits 3 1 = 1) (fun h => h.pctlWrite p n v)) :=
  does_of_runW ha (fun h => h.when (v.bits 3 1 = 1) (fun h => h.pctlWrite p n v)) (exec_usbResume p n v) hw

end

section

variable {h : Hub} {n : Nat}

/-! ## Writes of PERI_PCTLn (Table 13-4, R361) -/

theorem Hub.pctlWrite_noRight {p : Path} (noRight : h.usbRight p n = false) (v : Word) : h.pctlWrite p n v = h :=
  Hub.when_neg (Bool.eq_false_iff.mp noRight)

/-- A command of the register's write leaves the hub where the write does. -/
theorem Hub.when_same {c : Prop} [Decidable c] {f : Hub → Hub} (same : f h = h) : h.when c f = h := by
  by_cases holds : c
  · exact (Hub.when_pos holds).trans same
  · exact Hub.when_neg holds

section

variable {v : Word} (test : v.bits 5 3 = h.get F.PERI_PCTL_TEST n)

include test

/-- A write that keeps TEST: PEN, then RESET before SUSPEND before RESUME. -/
theorem Hub.pctlWrite_testKept : h.pctlWrite .pcie n v =
    let g := h.set F.PERI_PCTL_PEN (v.bits 0 1) n
    let g := if v.bits 0 1 = 0 then g.portOff n else g.powerPorts
    let g := if v.bits 1 1 = 1 then g.busReset n else g
    let g := if v.bits 2 1 = 1 then g.portSuspend n else g
    if v.bits 3 1 = 1 then g.portResume n else g := by
  have kept : ¬ (v.bits 5 3 ≤ 4 ∧ v.bits 5 3 ≠ h.get F.PERI_PCTL_TEST n) := fun changed => changed.2 test
  rw [Hub.pctlWrite, Hub.when_pos (show h.usbRight .pcie n = true from rfl)]
  simp only [Hub.pctl, if_neg kept]

theorem Hub.pctlWrite_pen (noReset : v.bits 1 1 = 0) (noSuspend : v.bits 2 1 = 0) (noResume : v.bits 3 1 = 0) :
    h.pctlWrite .pcie n v = if v.bits 0 1 = 0 then (h.set F.PERI_PCTL_PEN (v.bits 0 1) n).portOff n
      else (h.set F.PERI_PCTL_PEN (v.bits 0 1) n).powerPorts := by
  simp only [Hub.pctlWrite_testKept test, noReset, noSuspend, noResume, Nat.zero_ne_one, if_false]

variable (pen : v.bits 0 1 = 1)

include pen

theorem Hub.pctlWrite_reset (reset : v.bits 1 1 = 1) (noSuspend : v.bits 2 1 = 0) (noResume : v.bits 3 1 = 0) :
    h.pctlWrite .pcie n v = (h.set F.PERI_PCTL_PEN 1 n).powerPorts.busReset n := by
  simp only [Hub.pctlWrite_testKept test, pen, reset, noSuspend, noResume, Nat.zero_ne_one, Nat.one_ne_zero, if_false, if_true]

theorem Hub.pctlWrite_suspend (noReset : v.bits 1 1 = 0) (suspend : v.bits 2 1 = 1) (noResume : v.bits 3 1 = 0) :
    h.pctlWrite .pcie n v = (h.set F.PERI_PCTL_PEN 1 n).powerPorts.portSuspend n := by
  simp only [Hub.pctlWrite_testKept test, pen, noReset, suspend, noResume, Nat.zero_ne_one, Nat.one_ne_zero, if_false, if_true]

theorem Hub.pctlWrite_resume (noReset : v.bits 1 1 = 0) (noSuspend : v.bits 2 1 = 0) (resume : v.bits 3 1 = 1) :
    h.pctlWrite .pcie n v = (h.set F.PERI_PCTL_PEN 1 n).powerPorts.portResume n := by
  simp only [Hub.pctlWrite_testKept test, pen, noReset, noSuspend, resume, Nat.zero_ne_one, Nat.one_ne_zero, if_false, if_true]

end

/-! ## The port's states (Table 13-4, R358, R359) -/

theorem Hub.attachSeen_blind (blind : h.get F.PERI_PSTAT_STATE n ≠ 1 ∨ h.blockOn rowUsb n = false) : h.attachSeen n = h := by
  refine Hub.when_neg ?_
  rintro ⟨waits, on⟩
  rcases blind with other | off
  · exact other waits
  · exact Bool.eq_false_iff.mp off on

section

variable (enabled : h.get F.PERI_PSTAT_STATE n = 4)

include enabled

theorem Hub.busReset_enabled : h.busReset n =
    (((((h.endXfers (fun q => q.port == n) 4).markCtxs n).toUp n 3).setPport n
      { since := some ((((h.endXfers (fun q => q.port == n) 4).markCtxs n).toUp n 3).time.tick) }).usb n .se0) :=
  if_pos (.inr (.inl enabled))

theorem Hub.portSuspend_enabled : h.portSuspend n =
    ((h.abortXfers (fun q => q.port == n) 6).set F.PERI_PSTAT_STATE 5 n).portEvent n 4 := if_pos enabled

theorem Hub.detachSeen_enabled : h.detachSeen n =
    ((((h.endXfers (fun q => q.port == n) 5).markCtxs n).toUp n 1).portEvent n 2).domainWake 38 := by
  rw [Hub.detachSeen]
  exact Hub.when_pos (.inr (.inl enabled))

theorem Hub.babble_enabled : h.babble n =
    (((h.endXfers (fun q => q.port == n) 3).bump F.PERI_PCNT2_BABBLE n).toUp n 7).portEvent n 6 := Hub.when_pos enabled

end

section

variable (suspended : h.get F.PERI_PSTAT_STATE n = 5)

include suspended

theorem Hub.portResume_suspended : h.portResume n =
    ((((h.set F.PERI_PSTAT_STATE 6 n).set F.PERI_PSTAT_CAUSE 0 n).set F.PERI_PSTAT_COINCIDENT 0 n).setPport n { h.pport n with
      since := some h.time.tick }).usb n .k := if_pos suspended

theorem Hub.remoteWake_suspended : h.remoteWake n =
    (((((h.set F.PERI_PSTAT_STATE 6 n).set F.PERI_PSTAT_CAUSE 1 n).set F.PERI_PSTAT_COINCIDENT 0 n).setPport n { h.pport n with
      since := some (h.time.tick + 1) }).usb n .k).domainWake 38 := if_pos suspended

end

theorem Hub.remoteWake_resuming (resuming : h.get F.PERI_PSTAT_STATE n = 6) (byHub : h.get F.PERI_PSTAT_CAUSE n = 0) :
    h.remoteWake n = h.set F.PERI_PSTAT_COINCIDENT 1 n := by
  have awake : ¬ h.upState n = upSUSPENDED := by
    rw [Hub.upState, resuming]
    decide
  exact (if_neg awake).trans (if_pos ⟨resuming, byHub⟩)

section

variable {t : Nat} (since : (h.pport n).since = some t)

include since

theorem Hub.rstdurEnd_over {s : Nat} (speed : s ≤ 2) (resetting : h.get F.PERI_PSTAT_STATE n = 3)
    (due : t + 200000 * h.get F.PERI_PCFG_RSTDUR n ≤ h.time.tick) :
    h.rstdurEnd n s = ((h.toUp n 4).set F.PERI_PSTAT_SPEED s n).portEvent n 3 := by
  refine Hub.when_pos ⟨resetting, speed, ?_⟩
  rw [since]
  exact Hub.due_iff.mpr due

theorem Hub.rsmdrvEnd_over (resuming : h.get F.PERI_PSTAT_STATE n = 6)
    (due : t + 200000 * h.get F.PERI_PCFG_RSMDRV n ≤ h.time.tick) : h.rsmdrvEnd n = (h.toUp n 4).portEvent n 5 := by
  refine Hub.when_pos ⟨resuming, ?_⟩
  rw [since]
  exact Hub.due_iff.mpr due

end

end

/-- Settles O41: each clause by the lemma about the write or the port's event that it names. That a port sees no attachment while its
block's trims are bad or unloaded is R13 with log entries 47 and 72, and that an event in another state changes nothing is the model's
choice (log entry 2). -/
theorem rootPortCommands : Obligations.RootPortCommands := by
  refine ⟨fun h ha n => ⟨?_, ?_, ?_, Hub.busReset_enabled, Hub.portSuspend_enabled, Hub.portResume_suspended, ?_, ?_, ?_, ?_, ?_, ?_, ?_⟩,
    fun h => ⟨fun ha => ⟨does_attachSeen ha, does_detachSeen ha, does_rstdurEnd ha, does_remoteWake ha, does_rsmdrvEnd ha,
      does_babble ha⟩, fun ha hw => ⟨fun p n => does_penWrite ha n hw p, fun p n => does_busReset ha n hw p,
      fun p n => does_usbSuspend ha n hw p, fun p n => does_usbResume ha n hw p⟩⟩⟩
  · intro hw p v noRight
    have unwritten := Hub.pctlWrite_noRight noRight v
    exact ⟨(does_penWrite ha n hw p v).of_eq unwritten, (does_busReset ha n hw p v).of_eq (Hub.when_same unwritten),
      (does_usbSuspend ha n hw p v).of_eq (Hub.when_same unwritten), (does_usbResume ha n hw p v).of_eq (Hub.when_same unwritten)⟩
  · intro hw v test noReset noSuspend noResume
    have does := (does_penWrite ha n hw .pcie v).of_eq (Hub.pctlWrite_pen test noReset noSuspend noResume)
    refine ⟨fun pen => does.of_eq ?_, fun pen => does.of_eq ?_⟩
    · rw [pen, if_neg Nat.one_ne_zero]
    · rw [pen, if_pos rfl]
  · rintro hw g v test pen rfl
    exact ⟨fun reset noSuspend noResume => (does_busReset ha n hw .pcie v).of_eq
        ((Hub.when_pos reset).trans (Hub.pctlWrite_reset test pen reset noSuspend noResume)),
      fun noReset suspend noResume => (does_usbSuspend ha n hw .pcie v).of_eq
        ((Hub.when_pos suspend).trans (Hub.pctlWrite_suspend test pen noReset suspend noResume)),
      fun noReset noSuspend resume => (does_usbResume ha n hw .pcie v).of_eq
        ((Hub.when_pos resume).trans (Hub.pctlWrite_resume test pen noReset noSuspend resume))⟩
  · exact fun waits on => (does_attachSeen ha n).of_eq (Hub.when_pos ⟨waits, on⟩)
  · exact fun blind => (does_attachSeen ha n).of_eq (Hub.attachSeen_blind blind)
  · exact fun enabled => ⟨(does_detachSeen ha n).of_eq (Hub.detachSeen_enabled enabled), (does_babble ha n).of_eq (Hub.babble_enabled enabled)⟩
  · exact fun s t resetting since due => (does_rstdurEnd ha n s).of_eq
      (Hub.rstdurEnd_over since (Nat.le_of_lt_succ s.isLt) resetting due)
  · exact fun suspended => (does_remoteWake ha n).of_eq (Hub.remoteWake_suspended suspended)
  · exact fun resuming byHub => (does_remoteWake ha n).of_eq (Hub.remoteWake_resuming resuming byHub)
  · exact fun t resuming since due => (does_rsmdrvEnd ha n).of_eq (Hub.rsmdrvEnd_over since resuming due)

end Sys2Proof.Machine
end

section
/-! USB transactions, microframes and endpoint contexts (R341, R342, R344, R345, R355, R356). -/

namespace Sys2Proof.Machine

/-! ## The commands -/

section

variable {h : Hub} (ha : h.awake)

include ha

theorem does_microframeStart : Does .microframeStart h h.microframe := does_of_run ha Hub.microframe exec_microframeStart

theorem does_transactionEnd (x : CtxId) (r : Fin 4) (b : List (BitVec 8)) : Does (.transactionEnd x r b) h (h.xactEnd x r b) :=
  does_of_run ha (·.xactEnd x r b) (exec_transactionEnd x r b)

variable (hw : h.led.wiped = false) (p : Path) (v : Word)

include hw

theorem does_endpointEnable : Does (.endpointEnable p v) h (h.endpointEnable p v) :=
  does_of_runW ha (·.endpointEnable p v) (exec_endpointEnable p v) hw

theorem does_clrhalt : Does (.clrhalt p v) h (h.clrHalt p v) := does_of_runW ha (·.clrHalt p v) (exec_clrhalt p v) hw

end

/-! ## The end of a transaction (R355, R356) -/

section

variable {h : Hub} {x : Nat} {b : Bytes}

theorem Hub.xactEnd_noTransfer {r : Nat} (none : h.xfersOf x = []) : h.xactEnd x r b = h := by
  rw [Hub.xactEnd, Hub.running, none]
  rfl

section

variable {q : Xfer} {l : List Xfer} (runs : h.xfersOf x = q :: l) (on : h.get F.PERI_CFG_EN = 1) (fits : b.length ≤ max 1 (h.ctxMps x))
  (goes : q.abort = none) (enabled : h.get F.PERI_PSTAT_STATE q.port = 4) (ready : h.ready x = true)
  (turn : h.mayServe q.port x q.xtype = true)

include runs in
theorem Hub.running_first : h.running x = some q := by
  rw [Hub.running, runs]
  rfl

include on fits goes enabled ready turn in
/-- None of the conditions under which the end of a transaction counts for nothing holds. -/
theorem Hub.transaction_counts (off aborted early act : Hub) :
    (if ¬ h.flag F.PERI_CFG_EN ∨ max 1 (h.ctxMps x) < b.length then off
      else if q.abort.isSome then aborted
      else if ¬ (h.upState q.port = upENABLED ∧ h.ready x ∧ h.mayServe q.port x q.xtype) then early
      else act) = act := by
  have running : ¬ (¬ h.flag F.PERI_CFG_EN ∨ max 1 (h.ctxMps x) < b.length) := by
    rintro (off | long)
    · exact off (Hub.flag_one on)
    · exact Nat.not_lt.mpr fits long
  rw [if_neg running, goes]
  exact if_neg (not_not_intro ⟨enabled, ready, turn⟩)

include runs on fits goes enabled ready turn

theorem Hub.xactEnd_good (noRetry : q.fails = 0) : h.xactEnd x 0 b =
    ((h.usb q.port (h.busPacket q)).stepped (q.good (max 1 (h.ctxMps x)) b)).served q.port x q.xtype
      (q.good (max 1 (h.ctxMps x)) b).2.isSome false := by
  rw [Hub.xactEnd, Hub.running_first runs]
  refine (Hub.transaction_counts on fits goes enabled ready turn _ _ _ _).trans ?_
  simp only [noRetry, Nat.lt_irrefl, if_false]

theorem Hub.xactEnd_nak : h.xactEnd x 1 b =
    ((h.usb q.port (h.busPacket q)).putXfer { q with fails := 0 }).served q.port x q.xtype true false := by
  rw [Hub.xactEnd, Hub.running_first runs]
  exact Hub.transaction_counts on fits goes enabled ready turn _ _ _ _

theorem Hub.xactEnd_stall : h.xactEnd x 2 b =
    ((((h.usb q.port (h.busPacket q)).bump F.PERI_PCNT_STALL q.port).endXfer q 1).haltCtx x).served q.port x q.xtype true false := by
  rw [Hub.xactEnd, Hub.running_first runs]
  exact Hub.transaction_counts on fits goes enabled ready turn _ _ _ _

/-- A failed transaction that is not isochronous is tried again, at most twice (R356). -/
theorem Hub.xactEnd_failed (notIso : q.xtype ≠ 1) : h.xactEnd x 3 b =
    if q.fails < 2 then
      ((h.usb q.port (h.busPacket q)).putXfer { q with fails := q.fails + 1 }).served q.port x q.xtype false true
    else ((((h.usb q.port (h.busPacket q)).bump F.PERI_PCNT_XACTERR q.port).endXfer q 2).haltCtx x).served q.port x q.xtype true false := by
  rw [Hub.xactEnd, Hub.running_first runs]
  exact (Hub.transaction_counts on fits goes enabled ready turn _ _ _ _).trans (if_neg notIso)

end

/-! ## Microframes (R341, R342) -/

theorem Hub.microframe_off (off : h.get F.PERI_CFG_EN = 0) : h.microframe = h :=
  Hub.when_neg fun ⟨_, on, _⟩ => Bool.eq_false_iff.mp (Hub.flag_zero off) on

theorem Hub.microframe_between (between : h.time.ridge.toNat % 25000 ≠ 0) : h.microframe = h :=
  Hub.when_neg fun ⟨_, _, boundary, _⟩ => between boundary

theorem Hub.microframe_seen (seen : h.peri.edgeAt = some h.time.tick) : h.microframe = h :=
  Hub.when_neg fun ⟨_, _, _, fresh⟩ => fresh seen

section

variable (aligned : h.time.everLocked = true) (on : h.get F.PERI_CFG_EN = 1) (boundary : h.time.ridge.toNat % 25000 = 0)
  (fresh : h.peri.edgeAt ≠ some h.time.tick)

include aligned on boundary fresh

/-- A boundary within half a microframe of the last SOF is passed over (R342). -/
theorem Hub.microframe_skipped {t : Nat} (last : h.peri.sofAt = some t) (soon : h.time.tick < t + 12500) : h.microframe =
    ({ h with peri := { h.peri with edgeAt := some h.time.tick } } : Hub).bump F.PERI_CNT1_UFSKIP := by
  refine (Hub.when_pos ⟨aligned, Hub.flag_one on, boundary, fresh⟩).trans (if_pos ?_)
  rw [last]
  exact decide_eq_true soon

theorem Hub.microframe_first (noSof : h.peri.sofAt = none) (idle : h.peri.xfers = []) : h.microframe =
    ({ h with peri := { h.peri with sofAt := some h.time.tick, edgeAt := some h.time.tick } } : Hub).each
      (ports.filter (fun n => h.get F.PERI_PSTAT_STATE n == 4)) (fun n g =>
        let sp := g.get F.PERI_PSTAT_SPEED n
        let f := h.time.ridge.toNat / 200000 % 2048
        let m := h.time.ridge.toNat / 25000
        let g := if sp = 0 then g.usb n (.sof f) else if m % 8 ≠ 0 then g else if sp = 1 then g.usb n (.sof f) else g.usb n .keepAlive
        g.setPport n { g.pport n with todo := g.periodic n m, ctls := [], retry := none }) := by
  rw [Hub.microframe, Hub.when_pos ⟨aligned, Hub.flag_one on, boundary, fresh⟩]
  simp only [noSof, idle, Option.any_none, Bool.false_eq_true, if_false, List.filter_nil, List.foldl_nil, List.map_nil, Hub.setXfers]
  rfl

end

/-! ## Endpoint contexts (R345, R356) -/

theorem Hub.ectx0Write_pcie (h : Hub) (v : Word) : h.ectx0Write .pcie v = h.ectx0 (h.get F.PERI_ESEL_CTX Path.pcie.sel) v := rfl

section

variable {v : Word} (on : h.get F.ECTX0_EN x = 1)

include on

theorem Hub.ectx0_clearsHalt (clear : v.bits 30 1 = 1) (keep : v.bits 31 1 = 1) (halted : h.get F.ECTX0_STATE x = 2) :
    h.ectx0 x v = h.set F.ECTX0_STATE 1 x := by
  have leaves : h.get F.ECTX0_STATE x = eNEEDADDR ∨ (h.get F.ECTX0_STATE x = eHALTED ∧ v.bits 30 1 = 1) := .inr ⟨halted, clear⟩
  simp only [Hub.ectx0, Hub.flag_one on, if_pos keep, if_pos leaves, if_true]
  rfl

theorem Hub.ectx0_disables (clears : v.bits 31 1 = 0) (active : h.get F.ECTX0_STATE x = 1) :
    h.ectx0 x v = (h.set F.ECTX0_EN 0 x).set F.ECTX0_STATE 0 x := by
  have stays : ¬ (h.get F.ECTX0_STATE x = eNEEDADDR ∨ (h.get F.ECTX0_STATE x = eHALTED ∧ v.bits 30 1 = 1)) := by
    rw [active]
    rintro (needs | ⟨halted, -⟩)
    · exact absurd needs (by decide)
    · exact absurd halted (by decide)
  simp only [Hub.ectx0, Hub.flag_one on, clears, if_neg stays, Nat.zero_ne_one, if_false, if_true]
  rfl

end

end

/-- Settles O42: each clause by the lemma about the transaction's result, the microframe or the context that it names. That a write
that clears EN keeps the other fields is the model's choice (log entry 40), as are the one UFSKIP for each boundary that is passed over
(entry 41) and the premature microframe that changes nothing (entry 2). -/
theorem transferCommands : Obligations.TransferCommands := by
  refine ⟨fun h ha => ⟨?_, ?_, ?_, ?_, ?_, ?_, ?_, ?_⟩, fun h => ⟨fun ha => ⟨does_microframeStart ha, does_transactionEnd ha⟩,
    fun ha hw => ⟨does_endpointEnable ha hw, does_clrhalt ha hw⟩⟩⟩
  · exact fun x r b none => (does_transactionEnd ha x r b).of_eq (Hub.xactEnd_noTransfer none)
  · rintro x q l k b runs on fits goes enabled ready turn rfl
    refine ⟨fun noRetry => (does_transactionEnd ha x 0 b).of_eq (Hub.xactEnd_good runs on fits goes enabled ready turn noRetry),
      (does_transactionEnd ha x 1 b).of_eq (Hub.xactEnd_nak runs on fits goes enabled ready turn),
      (does_transactionEnd ha x 2 b).of_eq (Hub.xactEnd_stall runs on fits goes enabled ready turn), fun notIso again => ?_,
      fun notIso last => ?_⟩
    · exact (does_transactionEnd ha x 3 b).of_eq
        ((Hub.xactEnd_failed runs on fits goes enabled ready turn notIso).trans (if_pos again))
    · exact (does_transactionEnd ha x 3 b).of_eq
        ((Hub.xactEnd_failed runs on fits goes enabled ready turn notIso).trans (if_neg (Nat.not_lt.mpr last)))
  · exact fun off => (does_microframeStart ha).of_eq (Hub.microframe_off off)
  · exact fun between => (does_microframeStart ha).of_eq (Hub.microframe_between between)
  · exact fun t aligned on boundary last soon fresh =>
      (does_microframeStart ha).of_eq (Hub.microframe_skipped aligned on boundary fresh last soon)
  · exact fun seen => (does_microframeStart ha).of_eq (Hub.microframe_seen seen)
  · exact fun aligned on boundary noSof idle fresh =>
      (does_microframeStart ha).of_eq (Hub.microframe_first aligned on boundary fresh noSof idle)
  · rintro hw v x rfl
    have written := h.ectx0Write_pcie v
    refine ⟨fun enables => (does_endpointEnable ha hw .pcie v).of_eq ((Hub.when_pos enables).trans written),
      fun clear keep halted on => (does_clrhalt ha hw .pcie v).of_eq
        ((Hub.when_pos clear).trans (written.trans (Hub.ectx0_clearsHalt on clear keep halted))),
      fun clears active on => Hub.ectx0_disables on clears active⟩

end Sys2Proof.Machine
end

section
/-! USB message sessions (R347 to R349, R351, R352, R354). -/

namespace Sys2Proof.Machine

/-! ## The commands -/

section

variable {h : Hub} (ha : h.awake)

include ha

theorem does_transferMessageReceive : Does .transferMessageReceive h h.transferMsg :=
  does_of_run ha Hub.transferMsg exec_transferMessageReceive

theorem does_ackDelayExpiry (t : TunnelId) : Does (.ackDelayExpiry t) h (h.ackDelay t) :=
  does_of_run ha (·.ackDelay t) (exec_ackDelayExpiry t)

theorem does_resendTimerExpiry (t : TunnelId) : Does (.resendTimerExpiry t) h (h.resendTimer t) :=
  does_of_run ha (·.resendTimer t) (exec_resendTimerExpiry t)

end

section

variable {h : Hub}

/-! ## Messages (R348) -/

section

variable {f : Frm} {k : Hub} (oldest : h.takeMsg (fun f => f.hdr.type == 4) = some (f, k))

include oldest

theorem Hub.transferMsg_malformed (bad : f.tmsg = none) : h.transferMsg = k.disc f.hdr.dtun := by
  simp only [Hub.transferMsg, oldest, bad]

/-- A well-formed message of a session: its ASEQ acts before its number; one of kind 2 has no number. -/
theorem Hub.transferMsg_formed {m : TMsg} {seq aseq : Nat} (formed : f.tmsg = some (m, seq, aseq)) : h.transferMsg =
    if (k.sess f.hdr.dtun).lost then k
    else if m.kind = pkAck then k.takeAseq f.hdr.dtun aseq else (k.takeAseq f.hdr.dtun aseq).numbered f.hdr.dtun seq m := by
  simp only [Hub.transferMsg, oldest, formed]

end

section

variable {t seq : Nat} {m : TMsg}

theorem Hub.numbered_next (next : seq = (h.sess t).rx) : h.numbered t seq m =
    if h.canTake t m then
      (h.setSess t { h.sess t with
        rx := ((h.sess t).rx + 1) % 65536
        taken := (h.sess t).taken + 1
        ackAt := some ((h.sess t).ackAt.getD h.time.tick)
        ackNow := (h.sess t).ackNow || decide (8 ≤ (h.sess t).taken + 1) }).takeTMsg t m
    else h.bump F.PERI_CNT1_NOROOM := if_pos next

/-- One of the last sixteen numbers has been taken before; any other number is out of the window. -/
theorem Hub.numbered_other (inRange : seq < 65536) (rxInRange : (h.sess t).rx < 65536) (other : seq ≠ (h.sess t).rx) :
    h.numbered t seq m = if ((h.sess t).rx + 65536 - seq) % 65536 ≤ 16 then h.setSess t { h.sess t with ackNow := true }
      else h.bump F.PERI_CNT_OOW := by
  have behind : ((h.sess t).rx + 131071 - seq) % 65536 < 16 ↔ ((h.sess t).rx + 65536 - seq) % 65536 ≤ 16 := by omega
  rw [Hub.numbered]
  simp only [if_neg other, behind]

end

/-! ## The session's timers (R349, R351) -/

theorem Hub.ackDelay_due {t a : Nat} (lives : (h.sess t).lost = false) (owed : (h.sess t).ackAt = some a)
    (due : a + h.get F.PERI_CFG_ACKDLY ≤ h.time.tick) : h.ackDelay t = h.setSess t { h.sess t with ackNow := true } := by
  rw [Hub.ackDelay]
  refine Hub.when_pos ⟨Bool.eq_false_iff.mp lives, ?_⟩
  rw [owed]
  exact Hub.due_iff.mpr due

theorem Hub.resendTimer_due {t a : Nat} {s : SMsg} {l : List SMsg} (lives : (h.sess t).lost = false) (waits : (h.sess t).unack = s :: l)
    (since : (h.sess t).rtoAt = some a) (due : a + 1000 * h.get F.PERI_CFG_RTO ≤ h.time.tick) : h.resendTimer t =
      if h.get F.PERI_CFG_LOSTN ≤ (h.sess t).expiries + 1 then h.sessionLost t
      else h.setSess t { h.sess t with
        expiries := (h.sess t).expiries + 1
        again := (s :: l).map (·.seq)
        fetch := none
        rtoAt := some h.time.tick } := by
  have expired : h.due ((h.sess t).rtoAt.map (· + 1000 * h.get F.PERI_CFG_RTO)) = true := by
    rw [since]
    exact Hub.due_iff.mpr due
  have waiting : (h.sess t).unack ≠ [] := fun none => List.cons_ne_nil s l (waits.symm.trans none)
  rw [Hub.resendTimer, ← waits]
  exact Hub.when_pos ⟨Bool.eq_false_iff.mp lives, waiting, expired⟩

end

/-- Settles O43: each clause by the lemma about the message, its number or the timer that it names. -/
theorem sessionCommands : Obligations.SessionCommands := by
  refine ⟨fun h ha => ⟨fun f k oldest => ?_, fun t a lives owed due => ?_, fun t a s l lives waits since due => ?_, fun t seq m => ?_⟩,
    fun h ha => ⟨does_transferMessageReceive ha, does_ackDelayExpiry ha, does_resendTimerExpiry ha⟩⟩
  · have does := does_transferMessageReceive ha
    refine ⟨fun bad => does.of_eq (Hub.transferMsg_malformed oldest bad), fun m seq aseq formed lost => ?_,
      fun m seq aseq formed lives ack => ?_, fun m seq aseq formed lives other => ?_⟩
    · exact does.of_eq ((Hub.transferMsg_formed oldest formed).trans (if_pos lost))
    · exact does.of_eq ((Hub.transferMsg_formed oldest formed).trans ((if_neg (Bool.eq_false_iff.mp lives)).trans (if_pos ack)))
    · exact does.of_eq ((Hub.transferMsg_formed oldest formed).trans ((if_neg (Bool.eq_false_iff.mp lives)).trans (if_neg other)))
  · exact (does_ackDelayExpiry ha t).of_eq (Hub.ackDelay_due lives owed due)
  · have does := (does_resendTimerExpiry ha t).of_eq (Hub.resendTimer_due lives waits since due)
    exact ⟨fun more => does.of_eq (if_neg (Nat.not_le.mpr more)), fun last => does.of_eq (if_pos last)⟩
  · exact ⟨fun next full => (Hub.numbered_next next).trans (if_neg (Bool.eq_false_iff.mp full)),
      fun next room => (Hub.numbered_next next).trans (if_pos room),
      fun inRange rxInRange other behind => (Hub.numbered_other inRange rxInRange other).trans (if_pos behind),
      fun inRange rxInRange other ahead => (Hub.numbered_other inRange rxInRange other).trans (if_neg (Nat.not_le.mpr ahead))⟩

end Sys2Proof.Machine
end

section
/-! Power path and bus voltage (R366 to R371, R374, R375, R377). -/

namespace Sys2Proof.Machine

/-! ## The commands -/

section

variable {h : Hub} (ha : h.awake)

include ha

theorem does_busOverVoltage (mv : BitVec 16) : Does (.busOverVoltage mv) h (h.busOver mv.toNat) :=
  does_of_run ha (·.busOver mv.toNat) (exec_busOverVoltage mv)

theorem does_busUnderVoltage (mv : BitVec 16) : Does (.busUnderVoltage mv) h (h.busUnder mv.toNat) :=
  does_of_run ha (·.busUnder mv.toNat) (exec_busUnderVoltage mv)

theorem does_busInRange (mv : BitVec 16) : Does (.busInRange mv) h (h.busInRange mv.toNat) :=
  does_of_run ha (·.busInRange mv.toNat) (exec_busInRange mv)

variable (n : PortId)

theorem does_seatingClosed (pin : Fin 2) : Does (.seatingClosed n pin) h (h.seatClosed n pin) :=
  does_of_run ha (·.seatClosed n pin) (exec_seatingClosed n pin)

theorem does_seatingOpen (pin : Fin 2) : Does (.seatingOpen n pin) h (h.seatOpen n pin) :=
  does_of_run ha (·.seatOpen n pin) (exec_seatingOpen n pin)

theorem does_insertionDelayEnd : Does (.insertionDelayEnd n) h (h.insDelayEnd n) :=
  does_of_run ha (·.insDelayEnd n) (exec_insertionDelayEnd n)

theorem does_rampComplete : Does (.rampComplete n) h (h.rampComplete n) := does_of_run ha (·.rampComplete n) (exec_rampComplete n)

theorem does_rampTimeout : Does (.rampTimeout n) h (h.rampTimeout n) := does_of_run ha (·.rampTimeout n) (exec_rampTimeout n)

theorem does_hardShortTrip : Does (.hardShortTrip n) h (h.when (h.blockOn rowPower n) (fun h => h.trip n 1 0)) :=
  does_of_run ha (fun h => h.when (h.blockOn rowPower n) (fun h => h.trip n 1 0)) (exec_hardShortTrip n)

theorem does_coolDownEnd : Does (.coolDownEnd n) h (h.coolEnd n) := does_of_run ha (·.coolEnd n) (exec_coolDownEnd n)

theorem does_powerPathEnable (hw : h.led.wiped = false) (p : Path) (v : Word) :
    Does (.powerPathEnable p n v) h (h.ppEnableWrite p n v) :=
  does_of_runW ha (·.ppEnableWrite p n v) (exec_powerPathEnable p n v) hw

end

section

variable {h : Hub} {n t : Nat}

/-! ## Timers of the power path (R368 to R370, R377) -/

theorem Hub.insDelayEnd_due (since : (h.pp n).delayAt = some t) (due : t + (h.get F.PORT_PPCTL_INSDLY n + 1) * 2000000 ≤ h.time.tick) :
    h.insDelayEnd n = (h.setPp n { h.pp n with delayed := true }).ppEval n := by
  rw [Hub.insDelayEnd, since]
  exact Hub.when_pos due

theorem Hub.insDelayEnd_idle (idle : (h.pp n).delayAt = none) : h.insDelayEnd n = h := by
  rw [Hub.insDelayEnd, idle]

theorem Hub.rampTimeout_due (ramps : h.get F.PORT_PPSTAT_STATE n = 3) (low : h.get F.PORT_PPMEAS_V n < 11400)
    (since : (h.pp n).rampAt = some t) (due : t + 2 * (24000000 / max 1 (h.get F.PORT_PPCTL_SLEW n)) + 400000 ≤ h.time.tick) :
    h.rampTimeout n = h.trip n 4 0 := by
  rw [Hub.rampTimeout, since]
  exact Hub.when_pos ⟨ramps, low, due⟩

theorem Hub.coolEnd_due (since : (h.pp n).coolAt = some t) (due : t ≤ h.time.tick) :
    h.coolEnd n = (h.setPp n { h.pp n with coolAt := none }).ppEval n := by
  refine Hub.when_pos ?_
  rw [since]
  exact Hub.due_iff.mpr due

/-! ## The bus (R374) -/

section

variable {mv : Nat}

theorem Hub.busOver_rise (above : h.get F.PWR_BUSCFG_OVTH * 250 ≤ mv) (rise : h.get F.PWR_BUSSTAT_OV = 0) : h.busOver mv =
    (((h.set F.PWR_BUSSTAT_OV 1).set F.PWR_BUSSTAT_UV 0).bump F.PWR_CNT_BUSOV).busFails mv 4 :=
  Hub.when_pos ⟨above, Bool.eq_false_iff.mp (Hub.flag_zero rise)⟩

theorem Hub.busUnder_fall (below : mv < h.get F.PWR_BUSCFG_UVTH * 250) (fall : h.get F.PWR_BUSSTAT_UV = 0) : h.busUnder mv =
    (((h.set F.PWR_BUSSTAT_UV 1).set F.PWR_BUSSTAT_OV 0).bump F.PWR_CNT_BUSUV).busFails mv 1 :=
  Hub.when_pos ⟨below, Bool.eq_false_iff.mp (Hub.flag_zero fall)⟩

theorem Hub.busInRange_inside (settled : 2000000 ≤ h.time.tick) (above : h.get F.PWR_BUSCFG_UVTH * 250 + 1000 ≤ mv)
    (below : mv + 1000 ≤ h.get F.PWR_BUSCFG_OVTH * 250) : h.busInRange mv =
      ((((h.set F.PWR_BUSSTAT_OK 1).set F.PWR_BUSSTAT_OV 0).set F.PWR_BUSSTAT_UV 0).set F.PWR_BUSSTAT_VBUS mv).each
        ports (fun n g => g.ppEval n) := Hub.when_pos ⟨settled, above, below⟩

theorem Hub.busInRange_above (above : h.get F.PWR_BUSCFG_OVTH * 250 < mv + 1000) : h.busInRange mv = h :=
  Hub.when_neg fun ⟨_, _, below⟩ => Nat.not_le.mpr above below

end

end

/-- Settles O44: each clause by the lemma about the timer or the bus voltage that it names, or by the premise of the command. That a
hard short while LATCHED trips again, and that BUS_IN_RANGE is judged from 10 ms on, are the model's choice (log entry 42), and so is
the front end that is off before its trims are loaded (entry 47). -/
theorem powerPathCommands : Obligations.PowerPathCommands := by
  refine ⟨fun h ha n => ⟨does_seatingClosed ha n 0, does_seatingClosed ha n 1, does_seatingOpen ha n 0, does_seatingOpen ha n 1,
      fun t since due => (does_insertionDelayEnd ha n).of_eq (Hub.insDelayEnd_due since due),
      fun idle => (does_insertionDelayEnd ha n).of_eq (Hub.insDelayEnd_idle idle), fun hw p v free => ?_, fun hw p v limited => ?_,
      fun ramps up => (does_rampComplete ha n).of_eq (Hub.when_pos ⟨ramps, up⟩),
      fun t ramps low since due => (does_rampTimeout ha n).of_eq (Hub.rampTimeout_due ramps low since due),
      fun on => (does_hardShortTrip ha n).of_eq (Hub.when_pos on),
      fun off => (does_hardShortTrip ha n).of_eq (Hub.when_neg (Bool.eq_false_iff.mp off)),
      fun t since due => (does_coolDownEnd ha n).of_eq (Hub.coolEnd_due since due)⟩,
    fun h ha mv => ⟨fun above rise => (does_busOverVoltage ha mv).of_eq (Hub.busOver_rise above rise),
      fun below fall => (does_busUnderVoltage ha mv).of_eq (Hub.busUnder_fall below fall),
      fun settled above below => (does_busInRange ha mv).of_eq (Hub.busInRange_inside settled above below),
      fun above => (does_busInRange ha mv).of_eq (Hub.busInRange_above above)⟩,
    fun h => ⟨fun ha => ⟨does_seatingClosed ha, does_seatingOpen ha, does_insertionDelayEnd ha, does_rampComplete ha,
      does_rampTimeout ha, does_hardShortTrip ha, does_busOverVoltage ha, does_busUnderVoltage ha, does_busInRange ha,
      does_coolDownEnd ha⟩, fun ha hw p n => does_powerPathEnable ha n hw p⟩⟩
  · exact (does_powerPathEnable ha n hw p v).of_eq (Hub.when_noLimit free _)
  · exact (does_powerPathEnable ha n hw p v).of_eq (Hub.when_neg fun free => limited (Option.isNone_iff_eq_none.mp free))

end Sys2Proof.Machine
end

section
/-! Attachment, sending, acknowledgements and commands on the configuration channel (R388, R390, R394 to R396, R400, R413, R415). -/

namespace Sys2Proof.Machine

/-! ## The commands -/

section

variable {h : Hub} (ha : h.awake) (n : PortId)

include ha

theorem does_attachDetect : Does (.attachDetect n) h (h.attach n) := does_of_run ha (·.attach n) (exec_attachDetect n)

theorem does_attachLoss : Does (.attachLoss n) h (h.attachLoss n) := does_of_run ha (·.attachLoss n) (exec_attachLoss n)

theorem does_messageSendStart (col : Bool) : Does (.messageSendStart n col) h (h.ccSend n col) :=
  does_of_run ha (·.ccSend n col) (exec_messageSendStart n col)

theorem does_acknowledgementReceive (hdr : BitVec 16) : Does (.acknowledgementReceive n hdr) h (h.ccAckRx n hdr.toNat) :=
  does_of_run ha (·.ccAckRx n hdr.toNat) (exec_acknowledgementReceive n hdr)

theorem does_acknowledgementTimeout : Does (.acknowledgementTimeout n) h (h.ccAckTmo n) :=
  does_of_run ha (·.ccAckTmo n) (exec_acknowledgementTimeout n)

variable (hw : h.led.wiped = false) (p : Path) (v : Word)

include hw

theorem does_ptvWrite : Does (.ptvWrite p n v) h (h.when ((h.pathLimit p).isNone) (fun h => h.ccctl n v)) :=
  does_of_runW ha (fun h => h.when ((h.pathLimit p).isNone) (fun h => h.ccctl n v)) (exec_ptvWrite p n v) hw

theorem does_roleWrite : Does (.roleWrite p n v) h (h.when ((h.pathLimit p).isNone) (fun h => h.ccctl n v)) :=
  does_of_runW ha (fun h => h.when ((h.pathLimit p).isNone) (fun h => h.ccctl n v)) (exec_roleWrite p n v) hw

theorem does_reneg : Does (.reneg p n v) h (h.cccmdWrite p n v) := does_of_runW ha (·.cccmdWrite p n v) (exec_reneg p n v) hw

theorem does_cccmdStatus : Does (.cccmdStatus p n v) h (h.cccmdWrite p n v) :=
  does_of_runW ha (·.cccmdWrite p n v) (exec_cccmdStatus p n v) hw

theorem does_cccmdAlert : Does (.cccmdAlert p n v) h (h.cccmdWrite p n v) :=
  does_of_runW ha (·.cccmdWrite p n v) (exec_cccmdAlert p n v) hw

theorem does_cccmdSwap : Does (.cccmdSwap p n v) h (h.cccmdWrite p n v) :=
  does_of_runW ha (·.cccmdWrite p n v) (exec_cccmdSwap p n v) hw

theorem does_cccmdHardreset : Does (.cccmdHardreset p n v) h (h.cccmdWrite p n v) :=
  does_of_runW ha (·.cccmdWrite p n v) (exec_cccmdHardreset p n v) hw

end

/-! ## A port's channel -/

@[simp] theorem Hub.cc_setCc (h : Hub) (n : Nat) (c : CcPort) : (h.setCc n c).cc n = c := by
  rw [Hub.setCc, Hub.cc, Hub.pp_setPp]

@[simp] theorem Hub.setCc_setCc (h : Hub) (n : Nat) (c d : CcPort) : (h.setCc n c).setCc n d = h.setCc n d := by
  simp only [Hub.setCc, Hub.pp_setPp, Hub.setPp_setPp]

section

variable {h : Hub} {n : Nat}

/-! ## Attachment and its loss (R388, R415) -/

/-- A port whose partner has just come: both MSGIDs at zero, and nothing left of an earlier partner. -/
def Hub.newPartner (h : Hub) (n : Nat) : Hub :=
  ((h.set F.PORT_CCSTAT_TXID 0 n).set F.PORT_CCSTAT_RXID 0 n).setCc n { h.cc n with
    rxAny := false
    ptvSeen := h.flag F.PORT_CCCTL_PTV n
    attAt := h.time.tick
    csFault := false
    csPeer := false
    coll := false
    cmds := [] }

/-- A port's PORT_CCCTL does not change where its MSGIDs do. -/
theorem Hub.get_ccctl_msgids (h : Hub) (n : Nat) {f : Fld} (s1 : f.s1 = 0x1000) (s2 : f.s2 = 0) (ccctl : f.base = 0x10300) :
    ((h.set F.PORT_CCSTAT_TXID 0 n).set F.PORT_CCSTAT_RXID 0 n).get f n = h.get f n := by
  have other : f.base ≠ 0x10304 := by
    rw [ccctl]
    decide
  exact (Hub.get_set_elem _ (f := F.PORT_CCSTAT_RXID) s1 s2 other).trans (Hub.get_set_elem _ (f := F.PORT_CCSTAT_TXID) s1 s2 other)

theorem Hub.attach_dark (dark : h.blockOn rowCc n = false) : h.attach n = h :=
  Hub.when_neg fun ⟨_, _, on⟩ => Bool.eq_false_iff.mp dark on

theorem Hub.attach_noRole (notSource : h.isSource n = false) (notSink : h.isSink n = false) : h.attach n = h := by
  refine Hub.when_neg ?_
  rintro ⟨source | sink, -⟩
  · exact Bool.eq_false_iff.mp notSource source
  · exact Bool.eq_false_iff.mp notSink sink

theorem Hub.attach_fresh (role : h.isSource n = true ∨ h.isSink n = true) (alone : h.attached n = false)
    (on : h.blockOn rowCc n = true) : h.attach n =
      if h.isSource n then ((((h.newPartner n).set F.PORT_CCSTAT_PD 1 n).set F.PORT_PPSTAT_PD 1 n).ppEval n).fabSeen n
      else ((h.newPartner n).set F.PORT_CCSTAT_SRC 1 n).ccRest n := by
  have ptv : ((h.set F.PORT_CCSTAT_TXID 0 n).set F.PORT_CCSTAT_RXID 0 n).flag F.PORT_CCCTL_PTV n = h.flag F.PORT_CCCTL_PTV n :=
    congrArg (· != 0) (h.get_ccctl_msgids n rfl rfl rfl)
  have source : (h.newPartner n).isSource n = h.isSource n := congrArg (· == 1) (h.get_ccctl_msgids n (f := F.PORT_CCCTL_ROLE) rfl rfl rfl)
  rw [Hub.attach, Hub.when_pos ⟨role, Bool.eq_false_iff.mp alone, on⟩, ← source]
  simp only [ptv]
  rfl

/-- A port's role outlasts its partner. -/
theorem Hub.isSink_alone (h : Hub) (n : Nat) :
    (((h.set F.PORT_CCSTAT_PD 0 n).set F.PORT_CCSTAT_SRC 0 n).set F.PORT_PPSTAT_PD 0 n).isSink n = h.isSink n := by
  have role : (((h.set F.PORT_CCSTAT_PD 0 n).set F.PORT_CCSTAT_SRC 0 n).set F.PORT_PPSTAT_PD 0 n).get F.PORT_CCCTL_ROLE n =
      h.get F.PORT_CCCTL_ROLE n := by
    rw [Hub.get_set_elem _ (f := F.PORT_PPSTAT_PD) (g := F.PORT_CCCTL_ROLE) rfl rfl (by decide),
      Hub.get_set_elem _ (f := F.PORT_CCSTAT_SRC) (g := F.PORT_CCCTL_ROLE) rfl rfl (by decide),
      Hub.get_set_elem _ (f := F.PORT_CCSTAT_PD) (g := F.PORT_CCCTL_ROLE) rfl rfl (by decide)]
  rw [Hub.isSink, role]
  rfl

theorem Hub.attachLoss_unswitched (partner : h.attached n = true) (open_ : (h.pp n).gate = false ∨ h.isSink n = false) :
    h.attachLoss n = ((((h.set F.PORT_CCSTAT_PD 0 n).set F.PORT_CCSTAT_SRC 0 n).set F.PORT_PPSTAT_PD 0 n).ppLoss n).fabLoss n := by
  rw [Hub.attachLoss, Hub.when_pos partner]
  extract_lets g k
  have unswitched : ¬ (g.isSink n = true ∧ (g.pp n).gate = true) := by
    rintro ⟨sink, gate⟩
    rcases open_ with off | notSink
    · exact Bool.eq_false_iff.mp off gate
    · exact Bool.eq_false_iff.mp notSink ((h.isSink_alone n).symm.trans sink)
  have kept : k = g := if_neg unswitched
  rw [kept]

/-! ## Sending (R390) -/

section

variable {t : CcTx}

theorem Hub.ccSend_inHand (inHand : (h.cc n).tx = some t) (waits : t.endAt = none) (partner : h.attached n = true)
    (lit : h.portDark n = false) (idle : (h.cc n).lineAt + h.idleNeed n t.msg.kind ≤ h.time.tick) (col : Bool) : h.ccSend n col =
      if col then (h.bump F.PORT_CCCNT1_COLLIDE n).setCc n { h.cc n with
        coll := true
        lineAt := h.time.tick }
      else (h.emit (.cc n h.time.tick (h.ccHdr n t.msg.kind t.msg.objs.length t.id) t.msg.objs)).setCc n { h.cc n with
        coll := false
        lineAt := h.time.tick + ccTicks t.msg.objs.length
        tx := some { t with
          sends := t.sends + 1
          endAt := some (h.time.tick + ccTicks t.msg.objs.length) } } := by
  have taken : h.takeOut n = (h, some t) := by
    rw [Hub.takeOut]
    simp only [inHand]
  have starts : t.endAt.isNone = true ∧ h.attached n = true ∧ ¬ h.portDark n = true ∧
      (h.cc n).lineAt + h.idleNeed n t.msg.kind ≤ h.now :=
    ⟨Option.isNone_iff_eq_none.mpr waits, partner, Bool.eq_false_iff.mp lit, idle⟩
  rw [Hub.ccSend, taken]
  exact Hub.when_pos starts

/-! ## Acknowledgements (R394, R395) -/

theorem Hub.ccAckRx_inTime {hdr e : Nat} (kind : ccKind hdr = 0) (nobj : ccNobj hdr = 0) (rev : ccRev hdr = 1)
    (partner : h.attached n = true) (inHand : (h.cc n).tx = some t) (id : t.id = ccId hdr) (ends : t.endAt = some e)
    (ended : e ≤ h.time.tick) (soon : h.time.tick ≤ e + 40000) (once : t.sends ≤ 1) : h.ccAckRx n hdr =
      (((h.set F.PORT_CCSTAT_TXID (t.id + 1) n).setCc n { h.cc n with
        lineAt := h.time.tick
        tx := none }).ccAcked n t).ccNext n := by
  have good : ¬ (ccNobj hdr ≠ 0 ∨ ccRev hdr ≠ 1) := by
    rintro (objs | other)
    · exact objs nobj
    · exact other rev
  have answers : t.id = ccId hdr ∧ t.endAt.any (fun e => decide (e ≤ h.time.tick) && decide (h.time.tick ≤ e + 40000)) = true := by
    rw [ends]
    exact ⟨id, Bool.and_eq_true_iff.mpr ⟨decide_eq_true ended, decide_eq_true soon⟩⟩
  have collapse (c d : CcPort) (x : Nat) : ((h.setCc n c).set F.PORT_CCSTAT_TXID x n).setCc n d =
      (h.set F.PORT_CCSTAT_TXID x n).setCc n d := (h.set F.PORT_CCSTAT_TXID x n).setCc_setCc n c d
  rw [Hub.ccAckRx, Hub.when_pos ⟨kind, partner⟩]
  simp only [if_neg good, Hub.cc_setCc, inHand, if_neg (Nat.not_lt.mpr once)]
  refine (if_pos answers).trans ?_
  rw [collapse]
  rfl

theorem Hub.ccAckTmo_due {e : Nat} (inHand : (h.cc n).tx = some t) (ends : t.endAt = some e) (due : e + 40000 ≤ h.time.tick) :
    h.ccAckTmo n =
      if t.sends < 3 then h.setCc n { h.cc n with tx := some { t with endAt := none } }
      else if t.msg.kind = kHardReset then (h.setCc n { h.cc n with tx := none }).hrAct n e false
      else if t.msg.kind = kOffer ∧ ¬ h.contract n then h.setCc n { h.cc n with
        tx := none
        offAt := some (e + 400000) }
      else h.hrStart n := by
  simp only [Hub.ccAckTmo, inHand, ends]
  exact Hub.when_pos due

end

/-! ## Writes of PORT_CCCTL and PORT_CCCMD (R396, Table 15-14) -/

section

variable {v : Word}

theorem Hub.ccctl_noPolicy (noPtv : v.bits 31 1 = 0) : h.ccctl n v =
    ((h.wr (F.PORT_CCCTL_PTV.addr n 0) v [31, 28]).swPerm.setRole n (v.bits 28 3)).set F.PORT_CCCTL_PTV 0 n := by
  simp only [Hub.ccctl, noPtv, if_true]

/-- The five command bits of PORT_CCCMD. -/
theorem Word.bits_one_low (v : Word) {i : Nat} (low : i < 5) : v.bits i 1 = v.bits 0 5 / 2 ^ i % 2 := by
  simp only [Word.bits]
  interval_cases i <;> omega

theorem Hub.cccmd_reneg (asks : v.bits 0 5 = 2) (source : h.isSource n = true) : h.cccmd n v = h.wantOffer n := by
  simp [Hub.cccmd, Word.bits_one_low, asks, source]

theorem Hub.cccmd_status (asks : v.bits 0 5 = 4) : h.cccmd n v = h.ccCmd n (kStatus, 0) := by
  simp [Hub.cccmd, Word.bits_one_low, asks]

theorem Hub.cccmd_alert (asks : v.bits 0 5 = 8) (low : 1 ≤ v.bits 8 4) (high : v.bits 8 4 ≤ 4) :
    h.cccmd n v = h.ccCmd n (kAlert, v.bits 8 4) := by
  simp [Hub.cccmd, Word.bits_one_low, asks, low, high]

theorem Hub.cccmd_swap (asks : v.bits 0 5 = 16) : h.cccmd n v = h.ccCmd n (kSwap, 0) := by
  simp [Hub.cccmd, Word.bits_one_low, asks]

theorem Hub.cccmd_hardreset (asks : v.bits 0 5 = 1) : h.cccmd n v = h.hrStart n := by
  simp [Hub.cccmd, Word.bits_one_low, asks]

end

end

/-- Settles O47: each clause by the lemma about the attachment, the send, the acknowledgement or the write that it names. That OFFINT
counts from the end of the third send and that a collision is seen at the send are the model's choice (log entry 44), and so is the
channel that is off before its trims are loaded (entry 47). -/
theorem configurationChannelCommands : Obligations.ConfigurationChannelCommands := by
  refine ⟨fun h ha n => ⟨?_, ?_, ?_, ?_, ?_, ?_, ?_⟩, fun h => ⟨fun ha => ⟨does_attachDetect ha, does_attachLoss ha,
      does_messageSendStart ha, does_acknowledgementReceive ha, does_acknowledgementTimeout ha⟩,
    fun ha hw => ⟨fun p n => does_ptvWrite ha n hw p, fun p n => does_reneg ha n hw p, fun p n => does_cccmdStatus ha n hw p,
      fun p n => does_cccmdAlert ha n hw p, fun p n => does_cccmdSwap ha n hw p, fun p n => does_cccmdHardreset ha n hw p,
      fun p n => does_roleWrite ha n hw p⟩⟩⟩
  · exact fun dark => (does_attachDetect ha n).of_eq (Hub.attach_dark dark)
  · intro alone on g
    have does := does_attachDetect ha n
    refine ⟨fun source => does.of_eq ((Hub.attach_fresh (.inl source) alone on).trans (if_pos source)), fun sink => ?_,
      fun notSource notSink => does.of_eq (Hub.attach_noRole notSource notSink)⟩
    have notSource : ¬ h.isSource n = true := by
      intro source
      have role : h.get F.PORT_CCCTL_ROLE n = 1 := beq_iff_eq.mp source
      rw [Hub.isSink, role] at sink
      exact absurd sink (by decide)
    exact does.of_eq ((Hub.attach_fresh (.inr sink) alone on).trans (if_neg notSource))
  · exact fun partner unswitched => (does_attachLoss ha n).of_eq (Hub.attachLoss_unswitched partner unswitched)
  · intro t inHand waits partner lit idle
    have sends := Hub.ccSend_inHand inHand waits partner lit idle
    exact ⟨(does_messageSendStart ha n false).of_eq (sends false), (does_messageSendStart ha n true).of_eq (sends true)⟩
  · exact fun t hdr e kind nobj rev partner inHand id ends ended soon once => (does_acknowledgementReceive ha n hdr).of_eq
      (Hub.ccAckRx_inTime kind nobj rev partner inHand id ends ended soon once)
  · intro t e inHand ends due
    have does := (does_acknowledgementTimeout ha n).of_eq (Hub.ccAckTmo_due inHand ends due)
    refine ⟨fun again => does.of_eq (if_pos again), fun last reset => does.of_eq ?_, fun last offer none => does.of_eq ?_,
      fun last notReset notOffer => does.of_eq ?_⟩
    · exact (if_neg (Nat.not_lt.mpr last)).trans (if_pos reset)
    · have notReset : ¬ t.msg.kind = kHardReset := by
        rw [offer]
        decide
      exact (if_neg (Nat.not_lt.mpr last)).trans ((if_neg notReset).trans (if_pos ⟨offer, Bool.eq_false_iff.mp none⟩))
    · exact (if_neg (Nat.not_lt.mpr last)).trans ((if_neg notReset).trans (if_neg fun ⟨offer, _⟩ => notOffer offer))
  · intro hw p v free
    refine ⟨fun noPtv => ?_, fun asks source => (does_reneg ha n hw p v).of_eq ?_, fun asks => (does_cccmdStatus ha n hw p v).of_eq ?_,
      fun asks low high => (does_cccmdAlert ha n hw p v).of_eq ?_, fun asks => (does_cccmdSwap ha n hw p v).of_eq ?_,
      fun asks => (does_cccmdHardreset ha n hw p v).of_eq ?_⟩
    · have written := (Hub.when_noLimit free (fun h => h.ccctl n v)).trans (Hub.ccctl_noPolicy noPtv)
      exact ⟨(does_ptvWrite ha n hw p v).of_eq written, (does_roleWrite ha n hw p v).of_eq written⟩
    · exact (Hub.when_noLimit free _).trans (Hub.cccmd_reneg asks source)
    · exact (Hub.when_noLimit free _).trans (Hub.cccmd_status asks)
    · exact (Hub.when_noLimit free _).trans (Hub.cccmd_alert asks low high)
    · exact (Hub.when_noLimit free _).trans (Hub.cccmd_swap asks)
    · exact (Hub.when_noLimit free _).trans (Hub.cccmd_hardreset asks)

end Sys2Proof.Machine
end

section
/-! A write of PORT_CCCTL.ROLE (R387). -/

namespace Sys2Proof.Machine

/-! ## What leaves PORT_CCCTL alone -/

/-- PORT_CCCTL of port `n` holds the same word. -/
def PolicyKept (n : Nat) (h g : Hub) : Prop := g.reg (F.PORT_CCCTL_PTV.addr n 0) = h.reg (F.PORT_CCCTL_PTV.addr n 0)

namespace PolicyKept

variable {n : Nat} {h g k : Hub}

theorem refl (n : Nat) (h : Hub) : PolicyKept n h h := rfl

theorem trans (a : PolicyKept n h g) (b : PolicyKept n g k) : PolicyKept n h k := Eq.trans b a

theorem regs (same : g.regs = h.regs) : PolicyKept n h g := Hub.reg_congr same _

theorem ite {c : Prop} [Decidable c] (a : PolicyKept n h g) (b : PolicyKept n h k) : PolicyKept n h (if c then g else k) := by
  split
  · exact a
  · exact b

theorem get (kept : PolicyKept n h g) {f : Fld} (s1 : f.s1 = 0x1000) (s2 : f.s2 = 0) (base : f.base = 0x10300) : g.get f n = h.get f n := by
  have place : f.addr n 0 = F.PORT_CCCTL_PTV.addr n 0 := by simp only [Fld.addr, F.PORT_CCCTL_PTV, s1, s2, base]
  rw [Hub.get, Hub.get, place, kept]

/-- Another register of the port is set. -/
theorem set (h : Hub) {f : Fld} (v : Nat) (s1 : f.s1 = 0x1000) (s2 : f.s2 = 0) (other : f.base ≠ 0x10300) :
    PolicyKept n h (h.set f v n) := h.reg_set_ne (Fld.addr_ne n 0 s1.symm s2.symm other.symm)

theorem bump (h : Hub) {f : Fld} (s1 : f.s1 = 0x1000) (s2 : f.s2 = 0) (other : f.base ≠ 0x10300) : PolicyKept n h (h.bump f n) :=
  set h _ s1 s2 other

theorem rec1 (h : Hub) {p : Nat} (cls code src data : Nat) (producer : p < 162) : PolicyKept n h (h.rec1 p cls code src data) :=
  (h.record_evsOnly producer _).2 _ (.inr (by simp only [Fld.addr, F.PORT_CCCTL_PTV]; omega))

theorem powerRec1 (h k : Hub) (m cls code src data : Nat) : PolicyKept n h (h.rec1 (k.powerProd m) cls code src data) := by
  refine rec1 h _ _ _ _ ?_
  have slice : k.get F.PWR_ALLOT_SLICE m < 128 := Hub.get_lt k F.PWR_ALLOT_SLICE m 0
  rw [Hub.powerProd, prodSlice]
  omega

/-- PORT_CCCON is cleared whole. -/
theorem noContract (h : Hub) : PolicyKept n h (h.setReg (F.PORT_CCCON_VALID.addr n 0) 0#32) :=
  h.reg_setReg_ne _ (Fld.addr_ne (f := F.PORT_CCCTL_PTV) (g := F.PORT_CCCON_VALID) n 0 rfl rfl (by decide))

theorem renEnd (h : Hub) (result : Nat) : PolicyKept n h (h.renEnd n result) := by
  unfold Hub.renEnd
  split
  · exact refl n h
  · exact rec1 (h.setCc n _) _ _ _ _ (by decide)

theorem clearContract (h : Hub) (cause : Nat) : PolicyKept n h (h.clearContract n cause) := by
  rw [Hub.clearContract]
  exact ite ((noContract h).trans (powerRec1 _ _ _ _ _ _ _)) (noContract h)

theorem endExchange (h : Hub) : PolicyKept n h (h.endExchange n) := set (h.setCc n _) (f := F.PORT_CCSTAT_SWAP) _ rfl rfl (by decide)

theorem dropTrans (h : Hub) : PolicyKept n h (h.dropTrans n) := regs (Hub.release_regs _ _ _)

/-- A cable pulled while a transition runs clears the contract with a record of its own. -/
theorem pullTrans (h : Hub) (data : Nat) : PolicyKept n h
    (((h.setReg (F.PORT_CCCON_VALID.addr n 0) 0#32).bump F.PORT_CCCNT_PULLTRANS n).rec1
      ((h.setReg (F.PORT_CCCON_VALID.addr n 0) 0#32).powerProd n) 7 0x06 n data) :=
  ((noContract h).trans (bump _ rfl rfl (by decide))).trans (powerRec1 _ _ _ _ _ _ _)

theorem loseContract (h : Hub) (cause : Nat) (cable : Bool) : PolicyKept n h (h.loseContract n cause cable) := by
  unfold Hub.loseContract
  extract_lets t pulled old tv cut left ended c told
  have leaves : PolicyKept n h left := ite (pullTrans h _) (clearContract h cause)
  have ends : PolicyKept n h ended := (leaves.trans (endExchange left)).trans (dropTrans _)
  exact ite ends (ends.trans (renEnd told 3))

theorem setIcon (h : Hub) (i : Nat) : PolicyKept n h (h.setIcon n i) := set h (f := F.PORT_PPSTAT_ICON) _ rfl rfl (by decide)

theorem setCcState (h : Hub) (s : Nat) : PolicyKept n h (h.setCcState n s) := set h (f := F.PORT_CCSTAT_STATE) _ rfl rfl (by decide)

theorem driveGate (h : Hub) (mode : Nat) : PolicyKept n h (h.driveGate n mode) := regs rfl

theorem sinkOff (h : Hub) (cause : Nat) (cable : Bool) : PolicyKept n h (h.sinkOff n cause cable) :=
  (((loseContract h cause cable).trans (driveGate _ 0)).trans (setIcon _ 0)).trans (setCcState _ ckDETACHED)

theorem setCson (h : Hub) (on : Bool) : PolicyKept n h (h.setCson n on) :=
  ite (refl n h) (set h (f := F.PORT_CCSTAT_CSON) _ rfl rfl (by decide))

theorem ppShow (h : Hub) : PolicyKept n h (h.ppShow n) := by
  have shows (g : Hub) {f : Fld} (v : Nat) (place : f.s1 = 0x1000 ∧ f.s2 = 0 ∧ f.base ≠ 0x10300) : PolicyKept n g (g.set f v n) :=
    set g v place.1 place.2.1 place.2.2
  exact (((((((shows h (f := F.PORT_PPSTAT_COOLING) _ (by decide)).trans (shows _ (f := F.PORT_PPSTAT_SOAHOLD) _ (by decide))).trans
    (shows _ (f := F.PORT_PPSTAT_CALHOLD) _ (by decide))).trans (shows _ (f := F.PORT_PPSTAT_NOALLOT) _ (by decide))).trans
    (shows _ (f := F.PORT_PPSTAT_NOTSRC) _ (by decide))).trans (shows _ (f := F.PORT_PPSTAT_NOVSET) _ (by decide))).trans
    (shows _ (f := F.PORT_PPSTAT_PREBIAS) _ (by decide))).trans (shows _ (f := F.PORT_PPSTAT_BUSOK) _ (by decide))

theorem ccRest (h : Hub) : PolicyKept n h (h.ccRest n) := ite (setCcState h _) (setCcState h _)

theorem renBegin (h : Hub) : PolicyKept n h (h.renBegin n) := by
  unfold Hub.renBegin
  split
  · exact refl n h
  · exact ite (renEnd (h.setCc n _) 1) (refl n h)

theorem sendOffer (h : Hub) : PolicyKept n h (h.sendOffer n) := by
  rw [Hub.sendOffer]
  exact ite (refl n h) (setCcState ((h.setCc n _).ccQueue n _) csOFFER)

/-- The first command that waits becomes a message. -/
theorem sendCommand (h : Hub) (c : CcPort) (m : CcMsg) (d : CcPort) (swap : Prop) [Decidable swap] : PolicyKept n h
    (if swap then (((h.setCc n c).ccQueue n m).setCc n d).set F.PORT_CCSTAT_SWAP 1 n else (h.setCc n c).ccQueue n m) :=
  ite (set (((h.setCc n c).ccQueue n m).setCc n d) (f := F.PORT_CCSTAT_SWAP) _ rfl rfl (by decide)) (refl n h)

theorem ccNext (h : Hub) : PolicyKept n h (h.ccNext n) := by
  unfold Hub.ccNext
  extract_lets g c s
  have begun : PolicyKept n h g := ite (refl n h) (renBegin h)
  refine begun.trans (ite (refl n g) (ite (sendOffer g) (ite (refl n g) ?_)))
  split
  · exact refl n g
  · exact sendCommand g _ _ _ _

end PolicyKept

/-! ## The write (Table 15-9, R387) -/

/-- Every element of PORT_CCCTL is a register of Table 15-9. -/
theorem findReg_ccctl : ∀ n : PortId, findReg (F.PORT_CCCTL_PTV.addr n 0) = some R.PORT_CCCTL := by decide +kernel

section

variable {h : Hub} {v : Word}

/-- PORT_CCCTL but for PTV and ROLE: SWAPEN, CSAPPLY and SLEW are written as they stand. -/
theorem Hub.wr_ccctl (n : PortId) : h.wr (F.PORT_CCCTL_PTV.addr n 0) v [31, 28] = h.setReg (F.PORT_CCCTL_PTV.addr n 0)
    (fieldWrite h.locked? v (fieldWrite h.locked? v (fieldWrite h.locked? v (h.reg (F.PORT_CCCTL_PTV.addr n 0)) ⟨27, 1, .rw, []⟩)
      ⟨26, 1, .rw, []⟩) ⟨19, 7, .rw, [(10, 100)]⟩) := by
  rw [Hub.wr, findReg_ccctl n]
  rfl

/-- A field of PORT_CCCTL reads, after the write, as the word of that write shows it. -/
theorem Hub.get_wr_ccctl (n : PortId) {f : Fld} (place : f.base = 0x10300 ∧ f.s1 = 0x1000 ∧ f.s2 = 0) :
    (h.wr (F.PORT_CCCTL_PTV.addr n 0) v [31, 28]).get f n =
      (fieldWrite h.locked? v (fieldWrite h.locked? v (fieldWrite h.locked? v (h.reg (F.PORT_CCCTL_PTV.addr n 0)) ⟨27, 1, .rw, []⟩)
        ⟨26, 1, .rw, []⟩) ⟨19, 7, .rw, [(10, 100)]⟩).bits f.lo f.w := by
  obtain ⟨base, s1, s2⟩ := place
  have same : f.addr n 0 = F.PORT_CCCTL_PTV.addr n 0 := by simp only [Fld.addr, F.PORT_CCCTL_PTV, s1, s2, base]
  rw [Hub.get, same, Hub.wr_ccctl, Hub.reg_setReg_same]

theorem Hub.wr_ccctl_role (n : PortId) : (h.wr (F.PORT_CCCTL_PTV.addr n 0) v [31, 28]).get F.PORT_CCCTL_ROLE n =
    h.get F.PORT_CCCTL_ROLE n := by
  rw [Hub.get_wr_ccctl n (by decide)]
  exact ((fieldWrite_bits_disj (f := ⟨19, 7, .rw, [(10, 100)]⟩) (by decide) (by decide)).trans
    (fieldWrite_bits_disj (f := ⟨26, 1, .rw, []⟩) (by decide) (by decide))).trans
    (fieldWrite_bits_disj (f := ⟨27, 1, .rw, []⟩) (by decide) (by decide))

theorem Hub.wr_ccctl_swapen (n : PortId) : (h.wr (F.PORT_CCCTL_PTV.addr n 0) v [31, 28]).get F.PORT_CCCTL_SWAPEN n = v.bits 27 1 := by
  rw [Hub.get_wr_ccctl n (by decide)]
  refine ((fieldWrite_bits_disj (f := ⟨19, 7, .rw, [(10, 100)]⟩) (by decide) (by decide)).trans
    (fieldWrite_bits_disj (f := ⟨26, 1, .rw, []⟩) (by decide) (by decide))).trans ?_
  rw [fieldWrite_rw rfl]
  exact Word.bits_setBits_bits v _ (by decide)

theorem Hub.wr_ccctl_csapply (n : PortId) : (h.wr (F.PORT_CCCTL_PTV.addr n 0) v [31, 28]).get F.PORT_CCCTL_CSAPPLY n = v.bits 26 1 := by
  rw [Hub.get_wr_ccctl n (by decide)]
  refine (fieldWrite_bits_disj (f := ⟨19, 7, .rw, [(10, 100)]⟩) (by decide) (by decide)).trans ?_
  rw [fieldWrite_rw rfl]
  exact Word.bits_setBits_bits v _ (by decide)

theorem Hub.wr_ccctl_slew (n : PortId) (low : 10 ≤ v.bits 19 7) (high : v.bits 19 7 ≤ 100) :
    (h.wr (F.PORT_CCCTL_PTV.addr n 0) v [31, 28]).get F.PORT_CCCTL_SLEW n = v.bits 19 7 := by
  have allowed : FieldD.allows ⟨19, 7, .rw, [(10, 100)]⟩ (v.bits 19 7) = true := by
    simp only [FieldD.allows, List.isEmpty_cons, List.any_cons, List.any_nil, decide_eq_true low, decide_eq_true high, Bool.and_self,
      Bool.or_false, Bool.or_true]
  rw [Hub.get_wr_ccctl n (by decide), fieldWrite_rw rfl]
  exact (congrArg (Word.bits · 19 7) (if_pos allowed)).trans (Word.bits_setBits_bits v _ (by decide))

/-- The path's state and the contract stand in other registers. -/
theorem Hub.get_wr_ccctl_other (n : PortId) {f : Fld} (place : f.s1 = 0x1000 ∧ f.s2 = 0 ∧ f.base ≠ 0x10300) :
    (h.wr (F.PORT_CCCTL_PTV.addr n 0) v [31, 28]).get f n = h.get f n := by
  obtain ⟨s1, s2, other⟩ := place
  rw [Hub.wr_ccctl, Hub.get, Hub.reg_setReg_ne _ _ (Fld.addr_ne (g := F.PORT_CCCTL_PTV) n 0 s1 s2 other)]
  rfl

end

section

variable {h : Hub} {n x : Nat}

/-! ## The role (R387) -/

theorem Hub.setRole_kept (kept : h.get F.PORT_PPSTAT_STATE n ≠ 0 ∨ h.get F.PORT_CCCON_VALID n = 1 ∨ 4 < x) : h.setRole n x = h := by
  refine if_neg ?_
  rintro ⟨defined, -, off, free⟩
  rcases kept with on | contract | reserved
  · exact on off
  · exact free (Hub.flag_one contract)
  · exact Nat.not_le.mpr reserved defined

/-- Whatever a write of ROLE does to the channel, PORT_CCCTL holds what it held but for ROLE. -/
theorem Hub.setRole_policy (h : Hub) (n x : Nat) :
    (PolicyKept n h (h.setRole n x) ∧ ¬ (x ≤ 4 ∧ x ≠ h.get F.PORT_CCCTL_ROLE n ∧ h.ppState n = ppOFF ∧ ¬ h.contract n)) ∨
    ∃ g, PolicyKept n h g ∧ PolicyKept n (g.set F.PORT_CCCTL_ROLE x n) (h.setRole n x) := by
  by_cases takes : x ≤ 4 ∧ x ≠ h.get F.PORT_CCCTL_ROLE n ∧ h.ppState n = ppOFF ∧ ¬ h.contract n
  · right
    rw [Hub.setRole, if_pos takes]
    extract_lets off alone idle c quiet
    have switched : PolicyKept n h off := .ite (.sinkOff h 4 false) (.refl n h)
    have left : PolicyKept n off alone := ((PolicyKept.set off (f := F.PORT_CCSTAT_PD) _ rfl rfl (by decide)).trans
      (.set _ (f := F.PORT_CCSTAT_SRC) _ rfl rfl (by decide))).trans (.set _ (f := F.PORT_PPSTAT_PD) _ rfl rfl (by decide))
    have rests : PolicyKept n alone idle := ((PolicyKept.endExchange alone).trans (.setCson _ false)).trans
      (.setCcState _ 0)
    exact ⟨quiet, (switched.trans left).trans rests, .ppShow _⟩
  · exact .inl ⟨.regs (congrArg Hub.regs (if_neg takes)), takes⟩

theorem Hub.setRole_get {f : Fld} (place : f.base = 0x10300 ∧ f.s1 = 0x1000 ∧ f.s2 = 0)
    (beside : 31 ≤ f.lo ∨ f.lo + f.w ≤ 28) : (h.setRole n x).get f n = h.get f n := by
  obtain ⟨base, s1, s2⟩ := place
  obtain ⟨kept, -⟩ | ⟨g, before, after⟩ := h.setRole_policy n x
  · exact kept.get s1 s2 base
  · exact ((after.get s1 s2 base).trans (Hub.get_set_disj g (f := F.PORT_CCCTL_ROLE) (by decide) beside)).trans (before.get s1 s2 base)

theorem Hub.setRole_role (off : h.get F.PORT_PPSTAT_STATE n = 0) (free : h.get F.PORT_CCCON_VALID n = 0) (defined : x ≤ 4) :
    (h.setRole n x).get F.PORT_CCCTL_ROLE n = x := by
  obtain ⟨kept, takes⟩ | ⟨g, -, after⟩ := h.setRole_policy n x
  · have same : x = h.get F.PORT_CCCTL_ROLE n := by
      by_contra other
      exact takes ⟨defined, other, off, Bool.eq_false_iff.mp (Hub.flag_zero free)⟩
    exact (kept.get rfl rfl rfl).trans same.symm
  · exact ((after.get rfl rfl rfl).trans (Hub.get_set_same g F.PORT_CCCTL_ROLE x n 0 (by decide))).trans
      (Nat.mod_eq_of_lt (show x < 2 ^ 3 by omega))

/-- What follows a write of PTV leaves PORT_CCCTL alone. -/
theorem Hub.ccctl_policy (h : Hub) (n : Nat) (v : Word) : PolicyKept n
    ((((h.wr (F.PORT_CCCTL_PTV.addr n 0) v [31, 28]).swPerm.setRole n (v.bits 28 3))).set F.PORT_CCCTL_PTV (v.bits 31 1) n)
    (h.ccctl n v) := by
  unfold Hub.ccctl
  extract_lets taken written c seen rested
  have rests : PolicyKept n written rested := .ite (.ccRest seen) (.refl n written)
  exact .ite (.refl n written) (rests.trans (.ccNext rested))

end

theorem Hub.ccctl_get (h : Hub) (n : PortId) (v : Word) {f : Fld} (place : f.base = 0x10300 ∧ f.s1 = 0x1000 ∧ f.s2 = 0)
    (below : f.lo + f.w ≤ 31) : (h.ccctl n v).get f n =
      (((h.wr (F.PORT_CCCTL_PTV.addr n 0) v [31, 28]).swPerm.setRole n (v.bits 28 3))).get f n := by
  obtain ⟨base, s1, s2⟩ := place
  exact ((h.ccctl_policy n v).get s1 s2 base).trans (Hub.get_set_disj _ (f := F.PORT_CCCTL_PTV) (by decide) (.inr below))

/-- Settles O48: PORT_CCCTL after the write, field by field. -/
theorem roleWriteRule : Obligations.RoleWriteRule := by
  intro h ha hw p n v free
  refine ⟨h.ccctl n v, (does_roleWrite ha n hw p v).of_eq (Hub.when_noLimit free _), fun off none defined => ?_, fun kept => ?_, ?_, ?_, ?_,
    fun low high => ?_⟩
  · rw [h.ccctl_get n v (by decide) (by decide)]
    exact Hub.setRole_role ((Hub.get_wr_ccctl_other n (f := F.PORT_PPSTAT_STATE) (by decide)).trans off)
      ((Hub.get_wr_ccctl_other n (f := F.PORT_CCCON_VALID) (by decide)).trans none) defined
  · have keeps : (h.wr (F.PORT_CCCTL_PTV.addr n 0) v [31, 28]).swPerm.setRole n (v.bits 28 3) =
        (h.wr (F.PORT_CCCTL_PTV.addr n 0) v [31, 28]).swPerm := by
      refine Hub.setRole_kept ?_
      rcases kept with on | contract | reserved
      · exact .inl fun off => on ((Hub.get_wr_ccctl_other n (f := F.PORT_PPSTAT_STATE) (by decide)).symm.trans off)
      · exact .inr (.inl ((Hub.get_wr_ccctl_other n (f := F.PORT_CCCON_VALID) (by decide)).trans contract))
      · exact .inr (.inr reserved)
    rw [h.ccctl_get n v (by decide) (by decide), keeps]
    exact Hub.wr_ccctl_role n
  · exact ((h.ccctl_policy n v).get rfl rfl rfl).trans
      ((Hub.get_set_same _ F.PORT_CCCTL_PTV _ n 0 (by decide)).trans (Word.bits_mod v 31 1))
  · exact (h.ccctl_get n v (by decide) (by decide)).trans ((Hub.setRole_get (by decide) (by decide)).trans (Hub.wr_ccctl_csapply n))
  · exact (h.ccctl_get n v (by decide) (by decide)).trans ((Hub.setRole_get (by decide) (by decide)).trans (Hub.wr_ccctl_swapen n))
  · exact (h.ccctl_get n v (by decide) (by decide)).trans ((Hub.setRole_get (by decide) (by decide)).trans (Hub.wr_ccctl_slew n low high))

end Sys2Proof.Machine
end

section
/-! Policy timers, swaps, cable supply, sink switch and voltage transitions (R402, R405, R406, R408, R411 to R413). -/

namespace Sys2Proof.Machine

/-! ## The commands -/

section

variable {h : Hub} (ha : h.awake) (n : PortId)

include ha

theorem does_offintExpiry : Does (.offintExpiry n) h (h.offintEnd n) := does_of_run ha (·.offintEnd n) (exec_offintExpiry n)

theorem does_reqtmoExpiry :
    Does (.reqtmoExpiry n) h (h.when (h.due (h.cc n).reqAt ∧ h.ccState n = csWAITREQ) (fun h => h.hrStart n)) :=
  does_of_run ha (fun h => h.when (h.due (h.cc n).reqAt ∧ h.ccState n = csWAITREQ) (fun h => h.hrStart n)) (exec_reqtmoExpiry n)

theorem does_resptmoExpiry :
    Does (.resptmoExpiry n) h (h.when (h.due (h.cc n).respAt ∧ h.ccState n = ckWAITACC) (fun h => h.hrStart n)) :=
  does_of_run ha (fun h => h.when (h.due (h.cc n).respAt ∧ h.ccState n = ckWAITACC) (fun h => h.hrStart n)) (exec_resptmoExpiry n)

theorem does_readytmoExpiry :
    Does (.readytmoExpiry n) h (h.when (h.due (h.cc n).readyAt ∧ h.ccState n = csTRANS) (fun h => h.hrStart n)) :=
  does_of_run ha (fun h => h.when (h.due (h.cc n).readyAt ∧ h.ccState n = csTRANS) (fun h => h.hrStart n)) (exec_readytmoExpiry n)

theorem does_hrrecEnd : Does (.hrrecEnd n) h (h.hrrecEnd n) := does_of_run ha (·.hrrecEnd n) (exec_hrrecEnd n)

theorem does_swaptmoExpiry : Does (.swaptmoExpiry n) h
    (h.when ((h.cc n).swap.any (fun w => w.at_.any (fun a => decide (a + 1000000 ≤ h.now)))) (fun h => h.hrStart n)) := by
  intro st o q
  rw [exec_swaptmoExpiry, run_awake ha]

theorem does_swapApply : Does (.swapApply n) h
    (h.when ((h.cc n).swap.any (fun w => w.gain && w.at_.any (fun a => decide (a + 20000 ≤ h.now))) ∧
      (h.cc n).csLowAt.any (fun t => decide (t + 2000 ≤ h.now))) (fun h => h.setCson n true)) := by
  intro st o q
  rw [exec_swapApply, run_awake ha]

theorem does_swapReady : Does (.swapReady n) h (h.swapReady n) := does_of_run ha (·.swapReady n) (exec_swapReady n)

theorem does_swapCsupTimeout : Does (.swapCsupTimeout n) h
    (h.when ((h.cc n).swap.any (fun w => !w.low && w.at_.any (fun a => decide (a + 200000 ≤ h.now)))) (fun h => h.hrStart n)) := by
  intro st o q
  rw [exec_swapCsupTimeout, run_awake ha]

theorem does_transitionStep : Does (.transitionStep n) h (h.transNext n) := does_of_run ha (·.transNext n) (exec_transitionStep n)

theorem does_transitionEnd : Does (.transitionEnd n) h (h.transEnd n) := does_of_run ha (·.transEnd n) (exec_transitionEnd n)

theorem does_transitionSettleTimeout : Does (.transitionSettleTimeout n) h (h.transTmo n) :=
  does_of_run ha (·.transTmo n) (exec_transitionSettleTimeout n)

theorem does_sinkFetOn : Does (.sinkFetOn n) h (h.fetOn n) := does_of_run ha (·.fetOn n) (exec_sinkFetOn n)

theorem does_sinkFetOff : Does (.sinkFetOff n) h (h.fetOff n) := does_of_run ha (·.fetOff n) (exec_sinkFetOff n)

theorem does_cableSupplyApply : Does (.cableSupplyApply n) h (h.csApply n) := does_of_run ha (·.csApply n) (exec_cableSupplyApply n)

theorem does_cableSupplyFault : Does (.cableSupplyFault n) h (h.csFaultEnd n) := does_of_run ha (·.csFaultEnd n) (exec_cableSupplyFault n)

end

section

variable {h : Hub} {n t : Nat}

/-! ## Timers of the policy (R400 to R402, R413) -/

theorem Hub.due_of {a : Option Nat} (since : a = some t) (due : t ≤ h.time.tick) : h.due a = true := by
  rw [since]
  exact Hub.due_iff.mpr due

theorem Hub.offintEnd_policy (since : (h.cc n).offAt = some t) (due : t ≤ h.time.tick) (ptv : h.get F.PORT_CCCTL_PTV n = 1) :
    h.offintEnd n = h.sendOffer n := Hub.when_pos ⟨Hub.due_of since due, Hub.flag_one ptv⟩

theorem Hub.offintEnd_noPolicy (noPtv : h.get F.PORT_CCCTL_PTV n = 0) : h.offintEnd n = h :=
  Hub.when_neg fun ⟨_, ptv⟩ => Bool.eq_false_iff.mp (Hub.flag_zero noPtv) ptv

/-- The recovery after a hard reset is over: a source offers anew, a sink whose switch is on waits for an Offer. -/
theorem Hub.hrrecEnd_due (since : (h.cc n).hrAt = some t) (due : t ≤ h.time.tick) : h.hrrecEnd n =
    let g := h.setCc n { h.cc n with hrAt := none }
    if g.isSource n then (g.setCcState n csIDLE).wantOffer n
    else (g.setCcState n (if (g.pp n).gate ∧ g.flag F.PORT_CCSTAT_SRC n then ckWAITOFF else ckDETACHED)).ccNext n :=
  Hub.when_pos (Hub.due_of since due)

/-! ## Swaps of the cable supply (R412) -/

section

variable {w : Swap} {a : Nat} (open_ : (h.cc n).swap = some w) (acked : w.at_ = some a)

include open_ acked

/-- A swap whose turn began at `a` has been under way for some time. -/
theorem Hub.swap_since {d : Nat} {p : Swap → Bool} (holds : p w = true) (since : a + d ≤ h.time.tick) :
    (h.cc n).swap.any (fun w => p w && w.at_.any (fun a => decide (a + d ≤ h.now))) = true := by
  rw [open_, Option.any_some, acked, Option.any_some, holds, Bool.true_and]
  exact decide_eq_true since

theorem Hub.swap_late (since : a + 1000000 ≤ h.time.tick) :
    (h.cc n).swap.any (fun w => w.at_.any (fun a => decide (a + 1000000 ≤ h.now))) = true :=
  Hub.swap_since open_ acked (p := fun _ => true) rfl since

theorem Hub.swapReady_up (gain : w.gain = true) (on : h.get F.PORT_CCSTAT_CSON n = 1) (ok : h.get F.PORT_CCSTAT_CSOK n = 1)
    (noneOut : (h.cc n).out = []) (noneSent : (h.cc n).tx = none) :
    h.swapReady n = h.ccQueue n ⟨5, [2 ^ 29 * h.vcur n + 2 ^ 25 * h.icur n + 2 ^ 24]⟩ := by
  rw [Hub.swapReady]
  refine Hub.when_pos ⟨?_, Hub.flag_one on, Hub.flag_one ok, ?_, ?_⟩
  · rw [open_, Option.any_some, gain, acked]
    rfl
  · rw [noneOut]
    exact Bool.false_ne_true
  · rw [noneSent]
    exact Bool.false_ne_true

end

/-! ## The cable supply (R411) -/

theorem Hub.csApply_source (source : h.isSource n = true) (partner : h.attached n = true) (noFault : (h.cc n).csFault = false)
    (notPeer : (h.cc n).csPeer = false) (noSwap : (h.cc n).swap = none) (noReset : (h.cc n).hrAt = none)
    (asked : h.get F.PORT_CCCTL_CSAPPLY n = 1 ∨ h.get F.PORT_PPSTAT_STATE n = 4) : h.csApply n = h.setCson n true := by
  rw [Hub.csApply]
  refine Hub.when_pos ⟨source, partner, Bool.eq_false_iff.mp noFault, Bool.eq_false_iff.mp notPeer, Option.isNone_iff_eq_none.mpr noSwap,
    Option.isNone_iff_eq_none.mpr noReset, ?_⟩
  rcases asked with apply | safe
  · exact .inl (Hub.flag_one apply)
  · exact .inr (.inl safe)

/-- A port whose supply has been removed for its fault, with the Alert that tells the partner in line. -/
def Hub.csCut (h : Hub) (n : Nat) : Hub :=
  (h.setCson n false).setCc n { (h.setCson n false).cc n with
    csFault := true
    cmds := ((h.setCson n false).cc n).cmds ++ [(kAlert, 4)] }

section

variable (on : h.get F.PORT_CCSTAT_CSON n = 1)

include on

theorem Hub.setCson_off : h.setCson n false =
    ((h.set F.PORT_CCSTAT_CSON 0 n).setCc n { h.cc n with csAt := h.time.tick }).emit (.pin (.csen n) false) := by
  have supplies : ¬ h.flag F.PORT_CCSTAT_CSON n = false := by
    rw [Hub.flag_one on]
    exact Bool.noConfusion
  exact if_neg supplies

theorem Hub.csCut_cson : (h.csCut n).get F.PORT_CCSTAT_CSON n = 0 := by
  rw [Hub.csCut, Hub.setCson_off on]
  exact h.get_set_same F.PORT_CCSTAT_CSON 0 n 0 (by decide)

theorem Hub.csCut_cmds : ((h.csCut n).cc n).cmds = (h.cc n).cmds ++ [(7, 4)] := by
  have line : (h.setCson n false).cc n = { h.cc n with csAt := h.time.tick } := by
    rw [Hub.setCson_off on]
    exact (h.set F.PORT_CCSTAT_CSON 0 n).cc_setCc n _
  rw [Hub.csCut, Hub.cc_setCc, line]
  rfl

theorem Hub.csCut_out : (h.csCut n).out = h.out ++ [Out.pin (.csen n) false] := by
  rw [Hub.csCut, Hub.setCson_off on]
  rfl

theorem Hub.csCut_sameRegs : h.sameRegs [F.PORT_CCSTAT_CSON.addr n 0] (h.csCut n) := by
  rw [Hub.csCut, Hub.setCson_off on]
  exact ((h.sameRegs_refl _).set (f := F.PORT_CCSTAT_CSON) (v := 0) (List.mem_singleton_self _)).congr rfl

theorem Hub.csFaultEnd_due (since : (h.cc n).csDipAt = some t) (due : max t (h.cc n).csAt + 200000 ≤ h.time.tick) :
    h.csFaultEnd n = ((h.csCut n).rec1 (h.powerProd n) 3 0x0F n 0).ccNext n := by
  have slice : (h.csCut n).get F.PWR_ALLOT_SLICE n = h.get F.PWR_ALLOT_SLICE n := by
    have other : F.PWR_ALLOT_SLICE.addr n 0 ∉ [F.PORT_CCSTAT_CSON.addr n 0] := by
      rw [List.mem_singleton]
      simp only [Fld.addr, F.PWR_ALLOT_SLICE, F.PORT_CCSTAT_CSON]
      omega
    rw [Hub.get, Hub.csCut_sameRegs on _ other]
    rfl
  have producer : (h.csCut n).powerProd n = h.powerProd n := congrArg prodSlice slice
  have fails : h.flag F.PORT_CCSTAT_CSON n = true ∧ (h.cc n).csDipAt.any (fun t => decide (max t (h.cc n).csAt + 200000 ≤ h.now)) = true := by
    rw [since]
    exact ⟨Hub.flag_one on, decide_eq_true due⟩
  rw [Hub.csFaultEnd, ← producer]
  exact Hub.when_pos fails

end

/-! ## The switch of a sink (R408) -/

theorem Hub.fetOn_dark (dark : h.blockOn rowPower n = false) : h.fetOn n = h :=
  Hub.when_neg fun ⟨on, _⟩ => Bool.eq_false_iff.mp dark on

theorem Hub.fetOn_due (on : h.blockOn rowPower n = true) (sink : h.isSink n = true) (off : (h.pp n).gate = false)
    (src : h.get F.PORT_CCSTAT_SRC n = 1) (noTrip : h.get F.PORT_PPTRIP_LATCH n = 0) (attached : (h.cc n).attAt + 200000 ≤ h.time.tick)
    (high : (h.pp n).hiAt = some t) (due : t + 200000 ≤ h.time.tick) :
    h.fetOn n = ((((h.driveGate n 1).dschShow n).set F.PORT_PPSTAT_ICON 2 n).ccRest n).ccNext n := by
  refine Hub.when_pos ⟨on, sink, Bool.eq_false_iff.mp off, Hub.flag_one src, Bool.eq_false_iff.mp (Hub.flag_zero noTrip), attached, ?_⟩
  rw [high]
  exact decide_eq_true due

theorem Hub.fetOff_due (sink : h.isSink n = true) (on : (h.pp n).gate = true) (low : (h.pp n).loAt = some t)
    (due : t + 200000 ≤ h.time.tick) : h.fetOff n = h.sinkOff n 4 false := by
  refine Hub.when_pos ⟨sink, on, ?_⟩
  rw [low]
  exact decide_eq_true due

end

section

variable {h : Hub} {n : Nat} {t : Trans}

/-! ## Voltage transitions (R405, R406) -/

/-- A step that is a whole code needs no rounding. -/
theorem Hub.interp_whole {a b k m c : Nat} (moves : m ≠ 0) (whole : (a : Int) * m + ((b : Int) - a) * k = c * m) :
    h.interp a b k m = (c, h) := by
  have positive : (m : Int) ≠ 0 := Int.natCast_ne_zero.mpr moves
  rw [Hub.interp, whole]
  simp only [if_neg moves, Int.mul_emod_left, if_true, Int.mul_ediv_cancel _ positive, Int.toNat_natCast]

section

variable (runs : (h.pp n).trans = some t)

include runs

theorem Hub.transNext_early (early : h.time.tick < t.start + 200 * (t.done + 1)) : h.transNext n = h := by
  simp only [Hub.transNext, runs]
  exact Hub.when_neg fun ⟨_, due⟩ => Nat.not_le.mpr early due

theorem Hub.transNext_last (last : t.done + 1 = t.steps) (due : t.start + 200 * t.steps ≤ h.time.tick) : h.transNext n =
    ((h.setPp n { h.pp n with trans := some { t with
      done := t.steps
      reached := some h.time.tick } }).setVset n t.toC t.toV).dschShow n := by
  have goes : t.done < t.steps ∧ t.start + 200 * (t.done + 1) ≤ h.time.tick := ⟨by omega, by omega⟩
  have whole : (t.fromC : Int) * t.steps + ((t.toC : Int) - t.fromC) * t.steps = t.toC * t.steps := by ring
  have code := h.interp_whole (by omega) whole
  simp only [Hub.transNext, runs]
  refine (Hub.when_pos goes).trans ?_
  simp only [last, code, if_true]
  rfl

theorem Hub.transNext_whole {c : Nat} (more : t.done + 1 < t.steps) (due : t.start + 200 * (t.done + 1) ≤ h.time.tick)
    (whole : (t.fromC : Int) * t.steps + ((t.toC : Int) - t.fromC) * (t.done + 1 : Nat) = c * t.steps) : h.transNext n =
      ((h.setPp n { h.pp n with trans := some { t with
        done := t.done + 1
        reached := none } }).setVset n c ((t.fromV : Int) + ((t.toV : Int) - t.fromV) * (t.done + 1 : Nat) / t.steps).toNat).dschShow n := by
  have goes : t.done < t.steps ∧ t.start + 200 * (t.done + 1) ≤ h.time.tick := ⟨by omega, due⟩
  have code := h.interp_whole (by omega) whole
  simp only [Hub.transNext, runs]
  refine (Hub.when_pos goes).trans ?_
  simp only [code, if_neg (Nat.ne_of_lt more)]

theorem Hub.transTmo_due {r : Nat} (reached : t.reached = some r) (outside : t.inAt = none) (due : r + 200000 ≤ h.time.tick) :
    h.transTmo n = h.trip n 4 0 := by
  have late : t.reached.any (fun r => decide (r + 200000 ≤ h.now)) = true ∧ t.settled h.now = false := by
    rw [Trans.settled, reached, outside]
    exact ⟨decide_eq_true due, rfl⟩
  simp only [Hub.transTmo, runs]
  exact Hub.when_pos late

end

theorem Hub.cc_setPp (h : Hub) (n : Nat) (x : PwrPort) : (h.setPp n x).cc n = x.cc := congrArg PwrPort.cc (h.pp_setPp n x)

/-- The channel of a port is not touched by what its transition and its discharge do. -/
theorem Hub.setDsch_cc (h : Hub) (n : Nat) (on : Bool) : (h.setDsch n on).cc n = h.cc n := by
  unfold Hub.setDsch
  split
  · rfl
  · exact h.cc_setPp n _

theorem Hub.dschShow_cc (h : Hub) (n : Nat) : (h.dschShow n).cc n = h.cc n := by
  unfold Hub.dschShow
  extract_lets x
  split
  · exact h.setDsch_cc n _
  · exact h.setDsch_cc n _

theorem Hub.dropTrans_cc (h : Hub) (n : Nat) : (h.dropTrans n).cc n = h.cc n := by
  have kept (g : Hub) (r c : Nat) : (g.release r c).cc n = g.cc n := by
    unfold Hub.release
    split
    · rfl
    · rfl
  exact (kept _ _ _).trans (h.cc_setPp n _)

/-- A port whose transition has ended: the set is released, and the output window is off for 1 ms. -/
def Hub.transOver (h : Hub) (n : Nat) : Hub :=
  ((h.dropTrans n).setPp n { (h.dropTrans n).pp n with
    winAt := some (h.time.tick + 200000)
    owt := 0 }).set F.PORT_CCCON_TRANS 0 n |>.dschShow n

theorem Hub.transOver_cc (h : Hub) (n : Nat) : (h.transOver n).cc n = h.cc n := by
  refine (Hub.dschShow_cc _ n).trans (Eq.trans ?_ (h.dropTrans_cc n))
  exact (h.dropTrans n).cc_setPp n _

theorem Hub.transEnd_settled {r i : Nat} (runs : (h.pp n).trans = some t) (reached : t.reached = some r) (inside : t.inAt = some i)
    (since : r + 4000 ≤ h.time.tick) (stays : i + 4000 ≤ h.time.tick) : h.transEnd n =
      if t.ret then ((h.transOver n).set F.PORT_CCCON_TICUR 0 n).setIcon n 2
      else (h.transOver n).ccQueue n ⟨kReady, [2 ^ 29 * (h.cc n).tv + 2 ^ 25 * (h.cc n).ti]⟩ := by
  have settled : t.settled h.now = true := by
    rw [Trans.settled, reached, inside]
    exact decide_eq_true (show max r i + 4000 ≤ h.time.tick by omega)
  rw [← h.transOver_cc n]
  simp only [Hub.transEnd, runs]
  exact Hub.when_pos settled

end

/-- Settles O49: each clause by the lemma about the timer, the swap, the supply, the switch or the transition that it names. That a step
takes whole millivolts below is the model's choice (log entry 9), as are OFFINT that needs PTV and TRANS during a return (entry 44) and the
premature step that changes nothing (entry 2). -/
theorem channelTimerCommands : Obligations.ChannelTimerCommands := by
  refine ⟨fun h ha n => ⟨?_, ?_, ?_, ?_, ?_, ?_, ?_, ?_, ?_, ?_, ?_⟩, fun h ha n t runs => ⟨?_, ?_, ?_, ?_, ?_⟩,
    fun h ha => ⟨does_offintExpiry ha, does_reqtmoExpiry ha, does_resptmoExpiry ha, does_readytmoExpiry ha, does_hrrecEnd ha,
      does_swaptmoExpiry ha, does_swapApply ha, does_swapReady ha, does_swapCsupTimeout ha, does_transitionStep ha,
      does_transitionEnd ha, does_transitionSettleTimeout ha, does_sinkFetOn ha, does_sinkFetOff ha, does_cableSupplyApply ha,
      does_cableSupplyFault ha⟩⟩
  · exact fun t since due => ⟨fun ptv => (does_offintExpiry ha n).of_eq (Hub.offintEnd_policy since due ptv),
      fun noPtv => (does_offintExpiry ha n).of_eq (Hub.offintEnd_noPolicy noPtv)⟩
  · exact fun t since due waits => (does_reqtmoExpiry ha n).of_eq (Hub.when_pos ⟨Hub.due_of since due, waits⟩)
  · exact fun t since due waits => (does_resptmoExpiry ha n).of_eq (Hub.when_pos ⟨Hub.due_of since due, waits⟩)
  · exact fun t since due waits => (does_readytmoExpiry ha n).of_eq (Hub.when_pos ⟨Hub.due_of since due, waits⟩)
  · intro t since due g
    have does := (does_hrrecEnd ha n).of_eq (Hub.hrrecEnd_due since due)
    refine ⟨fun source => does.of_eq (if_pos source), fun notSource gate src => does.of_eq ?_, fun notSource off => does.of_eq ?_⟩
    · refine (if_neg (Bool.eq_false_iff.mp notSource)).trans (congrArg (fun s => (g.setCcState n s).ccNext n) ?_)
      exact if_pos ⟨gate, Hub.flag_one src⟩
    · refine (if_neg (Bool.eq_false_iff.mp notSource)).trans (congrArg (fun s => (g.setCcState n s).ccNext n) ?_)
      exact if_neg fun ⟨gate, _⟩ => Bool.eq_false_iff.mp off gate
  · intro w a open_ acked
    refine ⟨fun late => (does_swaptmoExpiry ha n).of_eq (Hub.when_pos (Hub.swap_late open_ acked late)),
      fun t gain since low due => (does_swapApply ha n).of_eq (Hub.when_pos ⟨Hub.swap_since open_ acked gain since, ?_⟩),
      fun gain on ok noneOut noneSent => (does_swapReady ha n).of_eq (Hub.swapReady_up open_ acked gain on ok noneOut noneSent),
      fun high since => (does_swapCsupTimeout ha n).of_eq (Hub.when_pos (Hub.swap_since open_ acked (p := fun w => !w.low) ?_ since))⟩
    · rw [low]
      exact decide_eq_true due
    · rw [high]
      rfl
  · exact fun source partner noFault notPeer noSwap noReset asked => (does_cableSupplyApply ha n).of_eq
      (Hub.csApply_source source partner noFault notPeer noSwap noReset asked)
  · exact fun t on since due => ⟨h.csCut n, (does_cableSupplyFault ha n).of_eq (Hub.csFaultEnd_due on since due), Hub.csCut_cson on,
      congrArg CcPort.csFault (Hub.cc_setCc _ _ _), Hub.csCut_cmds on, Hub.csCut_out on, Hub.csCut_sameRegs on⟩
  · exact fun dark => (does_sinkFetOn ha n).of_eq (Hub.fetOn_dark dark)
  · exact fun on sink off src noTrip attached t high due => (does_sinkFetOn ha n).of_eq
      (Hub.fetOn_due on sink off src noTrip attached high due)
  · exact fun sink on t low due => (does_sinkFetOff ha n).of_eq (Hub.fetOff_due sink on low due)
  · exact fun last due => (does_transitionStep ha n).of_eq (Hub.transNext_last runs last due)
  · exact fun c more due whole => (does_transitionStep ha n).of_eq (Hub.transNext_whole runs more due whole)
  · exact fun early => (does_transitionStep ha n).of_eq (Hub.transNext_early runs early)
  · intro r i reached inside since stays g
    have does := (does_transitionEnd ha n).of_eq (Hub.transEnd_settled runs reached inside since stays)
    exact ⟨fun forward => does.of_eq (if_neg (Bool.eq_false_iff.mp forward)), fun back => does.of_eq (if_pos back)⟩
  · exact fun r reached outside due => (does_transitionSettleTimeout ha n).of_eq (Hub.transTmo_due runs reached outside due)

end Sys2Proof.Machine
end

section
/-! Power domains (R420, R424 to R428, R430). -/

namespace Sys2Proof.Machine

/-! ## The commands -/

section

variable {h : Hub} (ha : h.awake)

include ha

theorem does_waitInstruction : Does .waitInstruction h h.waitInstr := does_of_run ha Hub.waitInstr exec_waitInstruction

theorem does_domainWake (d : DomainId) : Does (.domainWake d) h (h.domainWake d) := does_of_run ha (·.domainWake d) (exec_domainWake d)

theorem does_voteDlyExpiry (d : DomainId) : Does (.voteDlyExpiry d) h (h.dlyEnd d) := does_of_run ha (·.dlyEnd d) (exec_voteDlyExpiry d)

theorem does_entryStepEnd (d : DomainId) (o : Otp) : DoesOtp (.entryStepEnd d) h o (h.entryStep o.bits d) :=
  doesOtp_of_runO ha (f := fun otp h => h.entryStep otp d) (exec_entryStepEnd d) o

theorem does_managerVoteHoldEnd (m : Fin 16) : Does (.managerVoteHoldEnd m) h (h.mgrEnd m) :=
  does_of_run ha (·.mgrEnd m) (exec_managerVoteHoldEnd m)

theorem does_domainExitEnd (d : DomainId) : Does (.domainExitEnd d) h (h.exitEnd d) := does_of_run ha (·.exitEnd d) (exec_domainExitEnd d)

theorem does_pciePowerStateChange (k : Fin 3) : Does (.pciePowerStateChange k) h (h.pciePower k) :=
  does_of_run ha (·.pciePower k) (exec_pciePowerStateChange k)

/-- The memory's return to retention is no access: it ends no tick's work. -/
theorem exec_sramRetentionReturn_awake (st : Hub) (o : Otp) (l : List Instr) :
    exec .sramRetentionReturn { hub := h, start := st, otp := o, pending := l } =
      .next { hub := h.sramReturn, start := st, otp := o, pending := l } := by
  rw [exec_sramRetentionReturn, runQ_awake ha]

theorem does_evoteWrite (hw : h.led.wiped = false) (p : Path) (w : Fin 5) (v : Word) : Does (.evoteWrite p w v) h (h.evoteWrite p w v) :=
  does_of_runW ha (·.evoteWrite p w v) (exec_evoteWrite p w v) hw

end

/-! ## What leaves the mode of the domains alone -/

/-- PWR_PSCTL holds the same word. -/
def ModeKept (h g : Hub) : Prop := g.reg 0xE400 = h.reg 0xE400

namespace ModeKept

variable {h g k : Hub}

theorem refl (h : Hub) : ModeKept h h := rfl

theorem trans (a : ModeKept h g) (b : ModeKept g k) : ModeKept h k := Eq.trans b a

theorem ite {c : Prop} [Decidable c] (a : ModeKept h g) (b : ModeKept h k) : ModeKept h (if c then g else k) := by
  split
  · exact a
  · exact b

theorem shared (kept : ModeKept h g) : g.shared = h.shared :=
  congrArg (fun w : Word => (w.bits F.PWR_PSCTL_SHARED.lo F.PWR_PSCTL_SHARED.w) != 0) kept

theorem set (h : Hub) {f : Fld} (v : Nat) (other : 0xE400 ≠ f.addr 0 0) : ModeKept h (h.set f v) := h.reg_set_ne other

theorem regs (same : g.regs = h.regs) : ModeKept h g := Hub.reg_congr same _

theorem showCeil (h : Hub) : ModeKept h h.showCeil := by
  unfold Hub.showCeil
  exact ite (refl h) (set h (f := F.CORE_STAT_CEIL) _ (by decide))

theorem setCeil (h : Hub) (l : Nat) : ModeKept h (h.setCeil l) := trans (g := { h with pwr := { h.pwr with ceilLvl := l } }) (regs rfl) (showCeil _)

theorem setClk (h : Hub) (c : Nat) : ModeKept h (h.setClk c) := regs rfl

theorem setChg (h : Hub) (c : Option VChange) : ModeKept h (h.setChg c) := regs rfl

theorem writeVout (h : Hub) (c : VChange) : ModeKept h (h.writeVout c) := regs rfl

theorem startChange (h : Hub) (l : Nat) : ModeKept h (h.startChange l) := by
  unfold Hub.startChange
  extract_lets commit c g
  have busy : ModeKept h g := set h (f := F.PWR_VREQ_BUSY) _ (by decide)
  exact busy.trans (ite (writeVout g c) (ite (((setCeil g l).trans (setClk _ _)).trans (writeVout _ c)) (setChg g _)))

theorem askLevel (h : Hub) (l : Nat) : ModeKept h (h.askLevel l) :=
  ite (regs rfl) (ite (refl h) (ite (set h (f := F.PWR_VREQ_STATUS) _ (by decide)) (startChange h l)))

theorem exitFrom (h : Hub) (d fuel : Nat) : ModeKept h (h.exitFrom d fuel) := by
  induction fuel generalizing h d with
  | zero => exact refl h
  | succ fuel ih =>
    unfold Hub.exitFrom
    refine ite (refl h) ?_
    extract_lets _ g
    have begun : ModeKept h g := regs rfl
    refine begun.trans (ite (askLevel g _) ?_)
    split
    · exact refl g
    next e _ => exact ite (refl g) ((ih g e).trans (regs rfl))

theorem wakeDom (h : Hub) (d : Nat) : ModeKept h (h.wakeDom d) := ite (regs rfl) (ite (exitFrom h d 3) (regs rfl))

end ModeKept

section

variable {h : Hub} {d : Nat}

/-! ## Votes and wakes (R425, R426, R428, R430) -/

theorem Hub.dlyEnd_due {t : Nat} (shared : h.get F.PWR_PSCTL_SHARED = 1) (notAon : d ≠ 32) (free : h.held d = false)
    (empty : (h.dom d).emptyAt = some t) (due : t + h.get F.PWR_DCFG_DLY d ≤ h.time.tick) :
    h.dlyEnd d = (h.setDom d { h.dom d with spent := true, emptyAt := none }).tryEntry d := by
  rw [Hub.dlyEnd]
  refine Hub.when_pos ⟨Hub.flag_one shared, notAon, Bool.eq_false_iff.mp free, ?_⟩
  rw [empty]
  exact decide_eq_true due

theorem Hub.dlyEnd_held (held : h.held d = true) : h.dlyEnd d = h := by
  rw [Hub.dlyEnd]
  exact Hub.when_neg fun ⟨_, _, free, _⟩ => free held

theorem Hub.wakeDom_entering (enters : h.get F.PWR_DSTAT_STEP d ≠ 0) : h.wakeDom d = h.setDom d { h.dom d with wake := true } :=
  if_pos enters

theorem Hub.wakeDom_resting (rests : h.get F.PWR_DSTAT_STEP d = 0) (low : h.get F.PWR_DSTAT_LEVEL d ≠ 0) : h.wakeDom d = h.startExit d :=
  (if_neg (not_not_intro rests)).trans (if_pos low)

/-- In shared mode a wake of a domain other than MGMT ends no wait of the processor. -/
theorem Hub.domainWake_shared (noStandby : h.pwr.stby = none) (notAon : d ≠ 32) (notMgmt : d ≠ 33)
    (shared : h.get F.PWR_PSCTL_SHARED = 1) : h.domainWake d = h.wakeDom d := by
  have mode : (h.wakeDom d).shared = true := (ModeKept.wakeDom h d).shared.trans (Hub.flag_one shared)
  have awake : ¬ h.pwr.stby.isSome = true := by
    rw [noStandby]
    exact Bool.false_ne_true
  have waits : ¬ (d = dMGMT ∨ (¬ (h.wakeDom d).shared ∧ (h.wakeDom d).pwr.cpuWait ∧ (h.wakeDom d).selected d)) := by
    rintro (mgmt | ⟨local_, -⟩)
    · exact notMgmt mgmt
    · exact local_ mode
  exact (if_neg awake).trans ((if_neg notAon).trans (if_neg waits))

theorem Hub.domainWake_standby (standby : h.pwr.stby ≠ none) (d : Nat) :
    h.domainWake d = { h with pwr := { h.pwr with stbyWake := some (0, 0) } } := if_pos (Option.isSome_iff_ne_none.mpr standby)

section

variable {w v : Nat} (notAon : d ≠ 32)

include notAon

theorem Hub.setEvote_domain : h.setEvote d w v =
    let g := h.set F.PWR_EVOTE_EVOTE (if w = 4 then v % 2 ^ 17 else v) d w
    if g.held d ∧ (g.dstep d ≠ 0 ∨ g.level d ≠ lvRUN) then g.wakeDom d else g := if_neg notAon

variable {g : Hub} (written : g = h.set F.PWR_EVOTE_EVOTE (if w = 4 then v % 2 ^ 17 else v) d w)

include written

theorem Hub.setEvote_running (rests : g.get F.PWR_DSTAT_STEP d = 0) (runs : g.get F.PWR_DSTAT_LEVEL d = 0) : h.setEvote d w v = g := by
  rw [Hub.setEvote_domain notAon, ← written]
  refine if_neg ?_
  rintro ⟨-, enters | low⟩
  · exact enters rests
  · exact low runs

theorem Hub.setEvote_wakes (held : g.held d = true) (low : g.get F.PWR_DSTAT_LEVEL d ≠ 0) : h.setEvote d w v = g.wakeDom d := by
  rw [Hub.setEvote_domain notAon, ← written]
  exact if_pos ⟨held, .inr low⟩

end

theorem Hub.mgrEnd_due {m : Nat} (due : Tab.get 0 h.pwr.mgr m ≤ h.time.tick) :
    h.mgrEnd m = { h with pwr := { h.pwr with mgr := Tab.set 0 h.pwr.mgr m 0 } } := Hub.when_pos due

theorem Hub.sramReturn_due {t : Nat} (since : h.pwr.sramAt = some t) (due : t + 64 ≤ h.time.tick) :
    h.sramReturn = { h with pwr := { h.pwr with sramAt := none } } := by
  refine Hub.when_pos ?_
  rw [since]
  exact decide_eq_true due

/-! ## Entries and exits (R420, R427) -/

theorem Hub.entryStep_over (noStandby : h.pwr.stby = none) (entering : h.get F.PWR_DSTAT_STEP d ≠ 0) (ready : h.stepOver d = true)
    (otp : Tab Nat) : h.entryStep otp d = if h.get F.PWR_DSTAT_STEP d = 5 then (h.stepDone d).commitLevel d
      else (h.stepDone d).beginStep d (h.get F.PWR_DSTAT_STEP d + 1) 6 := by
  have awake : ¬ h.pwr.stby.isSome = true := by
    rw [noStandby]
    exact Bool.false_ne_true
  exact (if_neg awake).trans (Hub.when_pos ⟨entering, ready⟩)

/-- Only CORE's steps lower anything when they end. -/
theorem Hub.stepDone_other (notCore : d ≠ 34) : h.stepDone d = h := if_pos notCore

theorem Hub.exitEnd_back (exits : (h.dom d).exit = true) (free : (h.dom d).waits = false) (notDoze : h.get F.PWR_DSTAT_LEVEL d ≠ 3) :
    h.exitEnd d = if d < 32 ∧ h.get F.PWR_DSTAT_LEVEL d ≠ 1 then (h.backAtRun d).tryDetect d
      else if d = 34 then (h.backAtRun d).setCap 12 else h.backAtRun d := by
  rw [Hub.exitEnd]
  exact Hub.when_pos ⟨exits, Bool.eq_false_iff.mp free, fun doze => notDoze doze.2⟩

/-! ## The processor's wait and PCIe power states (R423, R424, R430) -/

theorem Hub.waitInstr_interrupted (irq : h.led.irq = true) : h.waitInstr = h := if_pos irq

theorem Hub.waitInstr_waits (noIrq : h.led.irq = false) (plain : h.get F.PWR_PSCTL_SHARED = 1 ∨ h.get F.PWR_PSCTL_ARM = 0) :
    h.waitInstr = ({ h with pwr := { h.pwr with cpuWait := true } } : Hub).set F.MGMT_STAT_WAITING 1 := by
  have kept : ModeKept h (({ h with pwr := { h.pwr with cpuWait := true } } : Hub).set F.MGMT_STAT_WAITING 1) :=
    ModeKept.trans (g := { h with pwr := { h.pwr with cpuWait := true } }) (.regs rfl) (.set _ (f := F.MGMT_STAT_WAITING) 1 (by decide))
  have arm : (({ h with pwr := { h.pwr with cpuWait := true } } : Hub).set F.MGMT_STAT_WAITING 1).flag F.PWR_PSCTL_ARM =
      h.flag F.PWR_PSCTL_ARM := congrArg (fun w : Word => (w.bits F.PWR_PSCTL_ARM.lo F.PWR_PSCTL_ARM.w) != 0) kept
  refine (if_neg (Bool.eq_false_iff.mp noIrq)).trans (if_pos ?_)
  rw [kept.shared, arm]
  rcases plain with shared | noArm
  · exact .inl (Hub.flag_one shared)
  · exact .inr (Bool.eq_false_iff.mp (Hub.flag_zero noArm))

end

/-- Settles O50: each clause by the lemma about the vote, the wake, the entry, the exit or the wait that it names. That one time counts
the accesses to all of SRAM, that an interrupt in the tick of the wait comes first, and that a wake during Standby entry stays pending
are the model's choice (log entry 45). -/
theorem domainCommands : Obligations.DomainCommands := by
  refine ⟨fun h ha d => ⟨?_, ?_, ?_, ?_, ?_, ?_, ?_, Hub.wakeDom_entering, Hub.wakeDom_resting, ?_, ?_, ?_, ?_, ?_, ?_, ?_, ?_, ?_⟩,
    fun h => ⟨fun ha => ⟨does_waitInstruction ha, does_domainWake ha, does_voteDlyExpiry ha, does_entryStepEnd ha,
      does_managerVoteHoldEnd ha, exec_sramRetentionReturn_awake ha, does_domainExitEnd ha, does_pciePowerStateChange ha⟩,
    fun ha hw => does_evoteWrite ha hw⟩⟩
  · exact fun t shared notAon free empty due => (does_voteDlyExpiry ha d).of_eq (Hub.dlyEnd_due shared notAon free empty due)
  · exact fun held => (does_voteDlyExpiry ha d).of_eq (Hub.dlyEnd_held held)
  · intro o noStandby entering more notCore ready
    refine (does_entryStepEnd ha d o).of_eq ((Hub.entryStep_over noStandby (by omega) ready o.bits).trans ?_)
    rw [if_neg (Nat.ne_of_lt more), Hub.stepDone_other notCore]
  · intro o noStandby last notCore ready
    refine (does_entryStepEnd ha d o).of_eq ((Hub.entryStep_over noStandby (by omega) ready o.bits).trans ?_)
    rw [if_pos last, Hub.stepDone_other notCore]
  · intro o noStandby ready
    exact ⟨fun entering more => (does_entryStepEnd ha 34 o).of_eq
        ((Hub.entryStep_over noStandby (Nat.ne_of_gt entering) ready o.bits).trans (if_neg (Nat.ne_of_lt more))),
      fun last => (does_entryStepEnd ha 34 o).of_eq
        ((Hub.entryStep_over noStandby (fun rests => absurd (last.symm.trans rests) (by decide)) ready o.bits).trans (if_pos last))⟩
  · exact fun noStandby notAon notMgmt shared => (does_domainWake ha d).of_eq (Hub.domainWake_shared noStandby notAon notMgmt shared)
  · exact fun standby => (does_domainWake ha d).of_eq (Hub.domainWake_standby standby d)
  · intro exits free notDoze
    have does := (does_domainExitEnd ha d).of_eq (Hub.exitEnd_back exits free notDoze)
    refine ⟨fun port deep => does.of_eq (if_pos ⟨port, deep⟩), fun port idle => does.of_eq ?_, fun core => does.of_eq ?_,
      fun above => does.of_eq ?_⟩
    · rw [if_neg (fun deep => deep.2 idle), if_neg (by omega)]
    · rw [if_neg (by omega), if_pos core]
    · rw [if_neg (by omega), if_neg (by omega)]
  · intro hw p w v free selects notAon g
    have write : h.evoteWrite p w v = h.setEvote d w v.toNat := by
      rw [Hub.evoteWrite, Hub.when_noLimit free, selects]
    have does := (does_evoteWrite ha hw p w v).of_eq write
    exact ⟨fun rests runs => does.of_eq (Hub.setEvote_running notAon rfl rests runs),
      fun held low => does.of_eq (Hub.setEvote_wakes notAon rfl held low)⟩
  · exact fun m due => (does_managerVoteHoldEnd ha m).of_eq (Hub.mgrEnd_due due)
  · intro t st o q since due
    rw [exec_sramRetentionReturn_awake ha, Hub.sramReturn_due since due]
  · exact fun irq => (does_waitInstruction ha).of_eq (Hub.waitInstr_interrupted irq)
  · exact fun noIrq plain => (does_waitInstruction ha).of_eq (Hub.waitInstr_waits noIrq plain)
  · exact (does_pciePowerStateChange ha 0).of_eq rfl
  · exact (does_pciePowerStateChange ha 1).of_eq rfl
  · exact (does_pciePowerStateChange ha 2).of_eq rfl

end Sys2Proof.Machine
end

section
/-! Standby entry and wakes (R431 to R433). -/

namespace Sys2Proof.Machine

/-! ## The commands -/

section

variable {h : Hub} (ha : h.awake)

include ha

theorem does_standbyEntry (hw : h.led.wiped = false) (p : Path) (v : Word) :
    Does (.standbyEntry p v) h (h.when ((h.pathLimit p).isNone) (fun h => h.psctl v)) :=
  does_of_runW ha (fun h => h.when ((h.pathLimit p).isNone) (fun h => h.psctl v)) (exec_standbyEntry p v) hw

theorem does_standbyDrainDeadline (o : Otp) : DoesOtp .standbyDrainDeadline h o (h.stbyDeadline o.bits) :=
  doesOtp_of_runO ha (f := fun otp h => h.stbyDeadline otp) exec_standbyDrainDeadline o

end

/-- A wake acts whatever is powered. -/
theorem exec_standbyWake_hub (h st : Hub) (o : Otp) (q : List Instr) (c : Fin 5) (n : PortId) (straps : BitVec 8) :
    exec (.standbyWake c n straps) { hub := h, start := st, otp := o, pending := q } =
      .next { hub := h.standbyWake o.bits c n straps.toNat, start := st, otp := o, pending := q } := by
  rw [exec_standbyWake, runAny_next]

theorem exec_standbyWake_eq {h g : Hub} {o : Otp} {c : Fin 5} {n : PortId} {straps : BitVec 8}
    (wakes : h.standbyWake o.bits c n straps.toNat = g) (st : Hub) (q : List Instr) :
    exec (.standbyWake c n straps) { hub := h, start := st, otp := o, pending := q } =
      .next { hub := g, start := st, otp := o, pending := q } := by
  rw [exec_standbyWake_hub, wakes]

section

variable {h : Hub}

/-! ## Standby entry (R431, R432) -/

/-- A port is a source that is energised or in DELAY. -/
def Hub.feeds (h : Hub) (n : Nat) : Bool := h.isSource n && (h.energised n || h.ppState n == ppDELAY)

/-- A port is a sink whose switch is on. -/
def Hub.takesPower (h : Hub) (n : Nat) : Bool := h.isSink n && (h.pp n).gate

theorem Hub.feeds_iff {n : Nat} : h.feeds n = true ↔ h.isSource n = true ∧ (h.energised n = true ∨ h.get F.PORT_PPSTAT_STATE n = 2) := by
  rw [Hub.feeds, Bool.and_eq_true, Bool.or_eq_true, beq_iff_eq]
  rfl

theorem Hub.takesPower_iff {n : Nat} : h.takesPower n = true ↔ h.isSink n = true ∧ (h.pp n).gate = true := by
  rw [Hub.takesPower, Bool.and_eq_true]

section

variable {v : Word}

theorem Hub.psctl_plain (plain : v.bits 30 1 = 0) : h.psctl v = h.wr (F.PWR_PSCTL_ARM.addr 0 0) v := if_pos (.inl plain)

/-- A write with STBY while no entry runs: refused by a port that feeds, then by one that draws. -/
theorem Hub.psctl_standby (asks : v.bits 30 1 = 1) (idle : h.pwr.stby = none) : h.psctl v =
    if ports.any (fun n => h.feeds n) then h.set F.PWR_HSTAT_STBYERR 1
    else if ports.any (fun n => h.takesPower n) then h.set F.PWR_HSTAT_STBYERR 2
    else (h.wr (F.PWR_PSCTL_ARM.addr 0 0) v).stbyGroup ports := by
  refine if_neg ?_
  rintro (plain | runs)
  · exact absurd (asks.symm.trans plain) (by decide)
  · rw [idle] at runs
    exact Bool.false_ne_true runs

end

/-- Some port is as said, as the ports' list has it. -/
theorem ports_any {p : Nat → Bool} : ports.any p = true ↔ ∃ n : PortId, p n = true := by
  rw [List.any_eq_true]
  constructor
  · rintro ⟨n, listed, holds⟩
    exact ⟨⟨n, List.mem_range.mp listed⟩, holds⟩
  · rintro ⟨n, holds⟩
    exact ⟨n, List.mem_range.mpr n.isLt, holds⟩

section

variable {t : Nat} {l : List Nat} (runs : h.pwr.stby = some (t, l)) (otp : Tab Nat)

include runs

theorem Hub.stbyDeadline_over (late : t + 20000 ≤ h.time.tick) : h.stbyDeadline otp = h.stbyStep otp l := by
  simp only [Hub.stbyDeadline, runs]
  refine Hub.when_pos (Nat.le_trans (Nat.add_le_add_left ?_ t) late)
  split
  · decide
  · exact Nat.le_refl _

theorem Hub.stbyDeadline_early (early : h.time.tick < t + 200) : h.stbyDeadline otp = h := by
  simp only [Hub.stbyDeadline, runs]
  refine Hub.when_neg (Nat.not_le.mpr (Nat.lt_of_lt_of_le early (Nat.add_le_add_left ?_ t)))
  split
  · exact Nat.le_refl _
  · decide

end

/-! ## Wakes (R431, R433) -/

section

variable {c n straps : Nat} {otp : Tab Nat} (powered : h.pwr.off = false)

include powered

theorem Hub.standbyWake_entering (awake : h.pwr.asleep = false) (entering : h.pwr.stby ≠ none) :
    h.standbyWake otp c n straps = { h with pwr := { h.pwr with stbyWake := some (c, n) } } :=
  (if_neg (Bool.eq_false_iff.mp powered)).trans
    ((if_pos (Bool.eq_false_iff.mp awake)).trans (if_pos (Option.isSome_iff_ne_none.mpr entering)))

variable (asleep : h.pwr.asleep = true)

include asleep

/-- In Standby a wake is judged by what the comparator watches. -/
theorem Hub.standbyWake_asleep : h.standbyWake otp c n straps =
    h.when ((h.watched c n ∧ ¬ h.trimBad 6 0) ∨ h.pwr.stbyWake.isSome) (fun h =>
      (((h.raise F.PWR_WAKE_VALID 1).set F.PWR_WAKE_CAUSE (h.pwr.stbyWake.getD (c, n)).1).set F.PWR_WAKE_PORT
        (if 3 ≤ (h.pwr.stbyWake.getD (c, n)).1 then (h.pwr.stbyWake.getD (c, n)).2 else 0)).chipReset .standby otp straps) :=
  (if_neg (Bool.eq_false_iff.mp powered)).trans (if_neg (not_not_intro asleep))

variable (noWake : h.pwr.stbyWake = none)

include noWake

theorem Hub.standbyWake_watched (watched : h.watched c n = true) (trimmed : h.trimBad 6 0 = false) : h.standbyWake otp c n straps =
    (((h.raise F.PWR_WAKE_VALID 1).set F.PWR_WAKE_CAUSE c).set F.PWR_WAKE_PORT (if 3 ≤ c then n else 0)).chipReset .standby otp straps := by
  rw [Hub.standbyWake_asleep powered asleep, Hub.when_pos (.inl ⟨watched, Bool.eq_false_iff.mp trimmed⟩), noWake]
  rfl

theorem Hub.standbyWake_unwatched (unwatched : h.watched c n = false) : h.standbyWake otp c n straps = h := by
  rw [Hub.standbyWake_asleep powered asleep]
  refine Hub.when_neg ?_
  rintro (⟨watched, -⟩ | kept)
  · exact Bool.eq_false_iff.mp unwatched watched
  · rw [noWake] at kept
    exact Bool.false_ne_true kept

end

/-- A port's own wake pins are watched by its role and its bit of PWR_STBYARM. -/
theorem Hub.watched_port {c n : Nat} (port : 3 ≤ c) : h.watched c n = (bitOf (h.get F.PWR_STBYARM_ARM) n &&
    (if c = 3 then Tab.get 0 h.pwr.roles n == 0 || Tab.get 0 h.pwr.roles n == 2 || Tab.get 0 h.pwr.roles n == 3
     else c == 4 && Tab.get 0 h.pwr.roles n == 1)) := by
  rw [Hub.watched, if_neg (by omega), if_neg (by omega)]

theorem Hub.watched_armed {c n : Nat}
    (fitting : c = 3 ∧ Tab.get 0 h.pwr.roles n ≠ 1 ∧ Tab.get 0 h.pwr.roles n ≤ 3 ∨ c = 4 ∧ Tab.get 0 h.pwr.roles n = 1)
    (armed : bitOf (h.get F.PWR_STBYARM_ARM) n = true) : h.watched c n = true := by
  rcases fitting with ⟨rfl, notSource, role⟩ | ⟨rfl, source⟩
  · rw [Hub.watched_port (by decide), armed, Bool.true_and, if_pos rfl]
    simp only [Bool.or_eq_true, beq_iff_eq]
    omega
  · rw [Hub.watched_port (by decide), armed, source]
    rfl

theorem Hub.watched_unarmed {c n : Nat} (port : 3 ≤ c) (unarmed : bitOf (h.get F.PWR_STBYARM_ARM) n = false) : h.watched c n = false := by
  rw [Hub.watched_port port, unarmed, Bool.false_and]

end

/-- Settles O52: each clause by the lemma about the entry, its deadline or the wake that it names. That a wake during the entry is kept
pending, and that AON keeps the roles for the comparator, are the model's choice (log entry 45). -/
theorem standbyCommands : Obligations.StandbyCommands := by
  refine ⟨fun h ha => ⟨?_, ?_, ?_, ?_, ?_, ?_⟩, fun h st o q n straps powered asleep trimmed noWake => ⟨?_, ?_, ?_, ?_⟩,
    fun h => ⟨does_standbyDrainDeadline, does_standbyEntry, fun c n straps st o l => exec_standbyWake_hub h st o l c n straps⟩⟩
  · exact fun hw p v free plain => (does_standbyEntry ha hw p v).of_eq ((Hub.when_noLimit free _).trans (Hub.psctl_plain plain))
  · intro hw p v n free asks idle source live
    refine (does_standbyEntry ha hw p v).of_eq ((Hub.when_noLimit free _).trans ((Hub.psctl_standby asks idle).trans (if_pos ?_)))
    exact ports_any.mpr ⟨n, Hub.feeds_iff.mpr ⟨source, live⟩⟩
  · intro hw p v free asks idle quiet
    have noFeed : ¬ ports.any (fun n => h.feeds n) = true := by
      intro feeds
      obtain ⟨n, feeds⟩ := ports_any.mp feeds
      obtain ⟨source, live⟩ := Hub.feeds_iff.mp feeds
      obtain ⟨off, notDelay⟩ := quiet n source
      rcases live with on | delay
      · exact Bool.eq_false_iff.mp off on
      · exact notDelay delay
    have does := (does_standbyEntry ha hw p v).of_eq ((Hub.when_noLimit free _).trans ((Hub.psctl_standby asks idle).trans (if_neg noFeed)))
    refine ⟨fun ⟨n, sink, gate⟩ => does.of_eq (if_pos (ports_any.mpr ⟨n, Hub.takesPower_iff.mpr ⟨sink, gate⟩⟩)),
      fun open_ => does.of_eq (if_neg fun draws => ?_)⟩
    obtain ⟨n, draws⟩ := ports_any.mp draws
    obtain ⟨sink, gate⟩ := Hub.takesPower_iff.mp draws
    exact Bool.eq_false_iff.mp (open_ n sink) gate
  · exact fun o t l runs late => (does_standbyDrainDeadline ha o).of_eq (Hub.stbyDeadline_over runs o.bits late)
  · exact fun o t l runs early => (does_standbyDrainDeadline ha o).of_eq (Hub.stbyDeadline_early runs o.bits early)
  · intro st o q c n straps powered entering
    exact exec_standbyWake_eq (Hub.standbyWake_entering powered ha entering) st q
  · intro wakeN
    have watched : h.watched 1 n = true := Hub.flag_one wakeN
    exact exec_standbyWake_eq (Hub.standbyWake_watched powered asleep noWake watched trimmed) st q
  · intro perst
    have watched : h.watched 2 n = true := Hub.flag_one perst
    exact exec_standbyWake_eq (Hub.standbyWake_watched powered asleep noWake watched trimmed) st q
  · intro c fitting armed
    have port : 3 ≤ c.val := by omega
    refine exec_standbyWake_eq ?_ st q
    rw [Hub.standbyWake_watched powered asleep noWake (Hub.watched_armed fitting armed) trimmed, if_pos port]
  · intro c port unarmed
    exact exec_standbyWake_eq (Hub.standbyWake_unwatched powered asleep noWake (Hub.watched_unarmed port unarmed)) st q

end Sys2Proof.Machine
end
